-- ==== Sys2Proof/Word.lean ====
section
/-! DEFINITION. Words, bytes and the byte order of R1 and R2, and the indices of the parts that the spec numbers. -/

namespace Sys2Proof

/-- A 32-bit set-up register (R5). -/
abbrev Word := BitVec 32
/-- A 64-bit value: a descriptor parameter, a Crossing word, a doorbell (R388, R173, R399). -/
abbrev Word64 := BitVec 64
/-- A byte. -/
abbrev Byte := BitVec 8
/-- A 64-byte line; bits [7:0] are the byte at the lowest address (R2). -/
abbrev LineData := BitVec 512

/-- A host port, H0 or H1. -/
abbrev HPort := Fin 2
/-- A Joush Link port, P0 to P11. -/
abbrev JPort := Fin 12
/-- A share of the pool. -/
abbrev Share := Fin 8
/-- A physical Avenue; 8 is Avenue S. -/
abbrev Avenue := Fin 9
/-- A DRAM channel, DC0 to DC15. -/
abbrev Chan := Fin 16
/-- An SSD slot. -/
abbrev Slot := Fin 16
/-- A Stream Engine within an Avenue. -/
abbrev Engine := Fin 6
/-- A central-core pair: 0 SC, 1 PC, 2 SQ (R416). -/
abbrev Pair := Fin 3

/-- Bits [hi:lo] of a natural number, both included (R1). -/
def bitsOf (v hi lo : Nat) : Nat := v / 2 ^ lo % 2 ^ (hi + 1 - lo)

/-- Bit n of a natural number. -/
def bitOf (v n : Nat) : Bool := v / 2 ^ n % 2 == 1

/-- The parity of the set bits of the lowest n bits. -/
def parityOf : Nat → Nat → Bool
  | 0, _ => false
  | n + 1, v => xor (v % 2 == 1) (parityOf n (v / 2))

/-- The number of set bits among the lowest n. -/
def popCount : Nat → Nat → Nat
  | 0, _ => 0
  | n + 1, v => v % 2 + popCount n (v / 2)

/-- The value of a byte list, lowest address first (R2). -/
def leValue : List Byte → Nat
  | [] => 0
  | b :: bs => b.toNat + 256 * leValue bs

/-- The n bytes of a value, lowest first (R2). -/
def leBytes : Nat → Nat → List Byte
  | 0, _ => []
  | n + 1, v => BitVec.ofNat 8 v :: leBytes n (v / 256)

/-- A signed reading of an n-bit field. -/
def signedOf (n v : Nat) : Int := if v < 2 ^ (n - 1) then v else (v : Int) - 2 ^ n

/-- The least multiple of m that is not below v. -/
def roundUp (v m : Nat) : Nat := (v + (m - 1)) / m * m

end Sys2Proof
end

