-- ==== Sys2Proof/Table.lean ====
section
/-! DEFINITION. Tables by natural-number key, in one canonical form: keys strictly rising. -/

namespace Sys2Proof

/-- Sparse data by key. A table in canonical form has strictly rising keys, so equal tables are equal lists. -/
abbrev Table (α : Type) := List (Nat × α)

/-- The entry at a key. -/
def Table.get {α : Type} : Table α → Nat → Option α
  | [], _ => none
  | (k, v) :: t, n => if n = k then some v else Table.get t n

/-- The table with the entry at a key set. -/
def Table.put {α : Type} : Table α → Nat → α → Table α
  | [], n, x => [(n, x)]
  | (k, v) :: t, n, x =>
    if n < k then (n, x) :: (k, v) :: t
    else if n = k then (n, x) :: t
    else (k, v) :: Table.put t n x

/-- The table without the entry at a key. -/
def Table.del {α : Type} : Table α → Nat → Table α
  | [], _ => []
  | (k, v) :: t, n => if n = k then t else (k, v) :: Table.del t n

/-- The table with the entry at a key changed, where there is one. -/
def Table.adjust {α : Type} (t : Table α) (n : Nat) (f : α → α) : Table α :=
  match t.get n with
  | none => t
  | some v => t.put n (f v)

/-- Is there an entry at the key? -/
def Table.has {α : Type} (t : Table α) (n : Nat) : Bool := (t.get n).isSome

/-- The entries whose key and value a test accepts. -/
def Table.only {α : Type} (t : Table α) (p : Nat → α → Bool) : Table α := t.filter (fun e => p e.1 e.2)

/-- Every value changed by a function of its key. -/
def Table.each {α : Type} (t : Table α) (f : Nat → α → α) : Table α := t.map (fun e => (e.1, f e.1 e.2))

/-- The canonical form: keys strictly rising. -/
def Table.wf {α : Type} : Table α → Bool
  | [] => true
  | [_] => true
  | (a, _) :: (b, w) :: t => decide (a < b) && Table.wf ((b, w) :: t)

/-- A sorted list of natural numbers without repeats, used as a set. -/
abbrev NatSet := List Nat

/-- The set with a member. -/
def NatSet.ins : NatSet → Nat → NatSet
  | [], n => [n]
  | k :: t, n => if n < k then n :: k :: t else if n = k then k :: t else k :: NatSet.ins t n

/-- The set without a member. -/
def NatSet.rem (t : NatSet) (n : Nat) : NatSet := t.filter (fun k => k != n)

end Sys2Proof
end

