-- ==== Sys2Proof/Types.lean ====
section
/-! DEFINITION. The messages, descriptors and records that the spec lays out, as structures: what commands carry and what the pool sends. -/

namespace Sys2Proof

/-- A command descriptor: the header of R388 and its six parameter words. -/
structure Desc where
  opcode : Nat
  ifv : Nat
  district : Nat
  cmdId : Nat
  buf : Nat
  p0 : Nat
  p1 : Nat
  p2 : Nat
  p3 : Nat
  p4 : Nat
  p5 : Nat
  /-- Bits [15:10] of bytes 2-3 are not all zero. -/
  rsv : Bool
  deriving DecidableEq, Repr

/-- A command as its ring gives it: the ring number of R386 and the descriptor. -/
structure Cmd where
  ring : Nat
  d : Desc
  deriving DecidableEq, Repr

/-- An OPREF: a window and an offset into it (R232). -/
structure Opref where
  window : Nat
  offset : Nat
  deriving DecidableEq, Repr

/-- A completion record, with its continuation where there is one (R395). `result` holds result bytes 0 to 35, byte 0 lowest. -/
structure Record where
  cmdId : Nat
  status : Nat
  detail : Nat
  prior : Nat
  ext : Bool
  est : Bool
  commitStarted : Bool
  attempts : Nat
  head : Nat
  engines : Nat
  energy : Nat
  result : Nat
  deriving DecidableEq, Repr

/-- A notice record without its ring's own fields (R410). -/
structure Notice where
  source : Nat
  cause : Nat
  level : Bool
  ft : Nat
  district : Option Nat
  data : Nat
  deriving DecidableEq, Repr

/-- A REQ message (R70 to R74, R88, R172). `cells` is the message's cell count and `rsv` is true where a field that step 1 of R80
checks as reserved is not zero. -/
structure Req where
  src : Nat
  tag : Nat
  window : Nat
  flow : Nat
  cells : Nat
  earlyOk : Bool
  noAlloc : Bool
  gcount : Nat
  offset : Nat
  length : Nat
  mask : BitVec 64
  data : LineData
  size : Nat
  operand : Word64
  compare : Word64
  elems : List (Nat × Nat)
  rsv : Bool
  deriving DecidableEq, Repr

/-- The types of DAT message (R71). -/
inductive DatOp where
  | data | earlyData | comp | atomicResult
  deriving DecidableEq, Repr

/-- A DAT message (R70, R77). `data` is `none` where the message carries no data cells. -/
structure Dat where
  op : DatOp
  dst : Nat
  tag : Nat
  status : Nat
  elem : Nat
  detail : Nat
  data : Option (List Byte)
  deriving DecidableEq, Repr

/-- The RCL messages (R105). -/
inductive RclOp where
  | recall | recallShared | recallAll
  deriving DecidableEq, Repr

/-- A RecallAck or a RecallData as it arrives (R106). -/
structure Rsp where
  src : Nat
  tag : Nat
  district : Nat
  line : Nat
  rflags : Nat
  data : LineData
  deriving DecidableEq, Repr

/-- A Signal on Bypass (R180). -/
structure Signal where
  node : Nat
  cookie : Nat
  crossing : Nat
  reason : Nat
  value : Nat
  seq : Nat
  deriving DecidableEq, Repr

/-- A message as the link layer and the router see it (R70, R366): its class (0 REQ, 1 RCL, 2 RSP, 3 DAT, 4 Bypass), its VC, the
fields of its first cell and a name for its content. -/
structure Msg where
  cls : Nat
  vc : Nat
  dst : Nat
  src : Nat
  flow : Nat
  cells : Nat
  op : Nat
  tag : Nat
  payload : Nat
  deriving DecidableEq, Repr

/-- A firmware bundle as the checks of R523 see it: each Bool is what a check of its bytes finds. -/
structure Bundle where
  length : Nat
  formatOk : Bool
  signatureOk : Bool
  secVersion : Nat
  major : Nat
  minor : Nat
  build : Nat
  ifMajor : Nat
  ifMinor : Nat
  revLo : Nat
  revHi : Nat
  featureMax : Nat
  depotFormat : Nat
  digest : Nat
  deriving DecidableEq, Repr

/-- How a bundle read ended (R537): the read failed, or the bundle arrived. -/
inductive BundleRead where
  | failed
  | arrived (b : Bundle)
  deriving DecidableEq, Repr

/-- What the power-up tests found (R537, R538): whether the images started, which Avenues passed and which engines failed. -/
structure StartResult where
  imagesOk : Bool
  avenuesPassed : List Nat
  enginesFailed : List (Nat × Nat)
  deriving DecidableEq, Repr

/-- What training found on one channel (R257, R258): its geometry, or that it failed. -/
structure TrainResult where
  ch : Nat
  trained : Bool
  capGib : Nat
  rate : Nat
  density : Nat
  rk : Nat
  dpc : Nat
  deriving DecidableEq, Repr

/-- A partner's parameter block (R338). -/
structure ParamBlock where
  node : Nat
  port : Nat
  revLo : Nat
  revHi : Nat
  encCap : Bool
  encReq : Bool
  /-- The sender's lanes that passed equalisation. -/
  lanes : Nat
  credits : List Nat
  /-- The counter that the sender will use next. -/
  encCtr : Nat
  deriving DecidableEq, Repr

/-- A flit as the receiver meets it (R342, R345, R349, R359, R564): what the FEC, the CRC and the tag found, its header fields and its
messages. `parses` is false when a packing fault follows the messages listed; `training` is true of a training flit (R337). (DEDUCED, log
entry 35.) -/
structure FlitIn where
  training : Bool
  corrected : Bool
  bad : Bool
  seq : Nat
  ack : Nat
  crVc : Nat
  crCnt : Nat
  tagOk : Bool
  parses : Bool
  msgs : List Msg
  deriving DecidableEq, Repr

/-- A time message as received (R42). -/
structure TimeMsg where
  seq : Nat
  txFt : Nat
  echoTx : Nat
  echoRx : Nat
  hops : Nat
  state : Nat
  domain : Nat
  deriving DecidableEq, Repr

/-- The raw parts of a power estimate, in mW (R469). -/
structure PowerRaw where
  links : Nat
  mem : Nat
  comp : Nat
  deriving DecidableEq, Repr

/-- Where an SPDM message travels (R451): MCTP on the management port, DOE of a host port, or SPDM_RELAY. -/
inductive Transport where
  | mctp
  | doe (port : Nat)
  | relay
  deriving DecidableEq, Repr

/-- What the metering island finds at a start (R493, R497): the result of its self-test, whether its store is usable, which cumulative
slots pass their CRC, and the milliseconds that were not measured. -/
structure IslandStart where
  selfTestOk : Bool
  storeOk : Bool
  slot0Ok : Bool
  slot1Ok : Bool
  unmeasured : Nat
  deriving DecidableEq, Repr

/-- Counts of a District over a frame or a period (R498, R499): engine cycles of three classes in units of 1,024, bursts, activations, cells,
and pages, which a period sums over its frames. -/
structure Activity where
  epoch : Nat
  engS : Nat
  engV : Nat
  engA : Nat
  bursts : Nat
  acts : Nat
  cells : Nat
  pages : Nat
  deriving DecidableEq, Repr

/-- An activity frame (R498). `ok` is false where the frame fails its CRC or is malformed; `entries` are by District. -/
structure Frame where
  ok : Bool
  seq : Nat
  ft : Nat
  installed : Nat
  entries : List (Nat × Activity)
  deriving DecidableEq, Repr

end Sys2Proof
end

