-- ==== Sys2Proof/Syntax.lean ====
section
/-! DEFINITION. The commands of the block, one constructor for each row of spec/opcode_table.json, with what its sender supplies. -/

namespace Sys2Proof

/-- A command of the block. A ring command carries its ring and descriptor; a message carries its arrival port; a timer, a
completion or a pin event carries what it names and what it brings. -/
inductive Instr where
  /-- REGISTER_WRITE (R5): A BAR0 write to a register that has no row of its own is applied according to its access class. -/
  | registerWrite (port : HPort) (fn off size : Nat) (val : Word)
  /-- PAIR_VALUE_WRITE (R7): The value write of a PAIR field opens a guard for its host port and breaks any guard already open on that port. -/
  | pairValueWrite (port : HPort) (off : Nat) (val : Word)
  /-- PAIR_COMPLEMENT_WRITE (R7): A complement written to the companion offset completes the open guard and applies the value, or fails the guard on a mismatch. -/
  | pairComplementWrite (port : HPort) (off : Nat) (val : Word)
  /-- PAIR_GUARD_TIMEOUT (R7): 10 µs pass with no complement, so the guard fails and the register stays unchanged. -/
  | pairGuardTimeout (port : HPort)
  /-- HASH_LOCK (R19): A write of CFG_HASH_CTRL.LOCK checks the hash matrix for invertibility, and either fixes the masks and sets VALID or is ignored with a notice. -/
  | hashLock (port : HPort) (val : Word)
  /-- DMAP_LOCK (R263): A write of CFG_DMAP_CTRL.LOCK checks the bank-mapping masks against the trained geometry, and either fixes them or is ignored with a notice. -/
  | dmapLock (port : HPort) (val : Word)
  /-- TOKEN_CLAIM (R406): A CLAIM of CFG_TOKEN gives the control token to the claiming port when no port holds it. -/
  | tokenClaim (port : HPort)
  /-- TOKEN_RELEASE (R406): A RELEASE of CFG_TOKEN by the holder releases the control token. -/
  | tokenRelease (port : HPort)
  /-- TOKEN_FORCE (R406): A FORCE of CFG_TOKEN takes the token from the other port and breaks that port's open guard. -/
  | tokenForce (port : HPort)
  /-- CONFIG_CRC_UPDATE (R433): The running configuration CRC is recomputed and, outside a quiet period, compared with CFG_REF. -/
  | configCrcUpdate
  /-- AV_CONFIG_APPLY (R434): An accepted covered AV write, first written to the share's configuration copy, takes effect in the Avenue. -/
  | avConfigApply (av : Avenue)
  /-- DC_ARB_COMMIT (R274): A write of DC_ARB_COMMIT makes the pending arbiter values active at the next arbitration phase. -/
  | dcArbCommit (port : HPort) (share : Share) (val : Word)
  /-- RT_COMMIT (R374): A write of RT_COMMIT.COMMIT makes the pending route tables, egress registers and meters active at once. -/
  | rtCommit (port : HPort) (val : Word)
  /-- HWM_CLR (R383): A write of RT_COMMIT.HWM_CLR sets every egress high-water mark to the present depth. -/
  | hwmClr (port : HPort) (val : Word)
  /-- NODE_ID_WRITE (R364): A write of RT_NODE sets the node ID, or is ignored while any port is neither DISABLED nor DOWN. -/
  | nodeIdWrite (port : HPort) (val : Word)
  /-- RING_ENABLE (R437): A selected RING_EN bit written 1 checks the ring's alignment, then enables the ring, zeroes its counts and arms its vector. -/
  | ringEnable (port : HPort) (fn k : Nat) (val : Word)
  /-- RING_DRAIN (R409): A selected RING_EN bit written 0 sends the ring to DRAINING and completes its unstarted commands ABORTED. -/
  | ringDrain (port : HPort) (fn k : Nat) (val : Word)
  /-- RING_DRAINED (R409): The last started command of a draining ring finishes, and the ring becomes DISABLED. -/
  | ringDrained (ring : Nat)
  /-- NOTICE_RING_ENABLE (R439): A write of NTC_CFG.EN enables the notice ring and delivers the notices held since power-up. -/
  | noticeRingEnable (port : HPort) (fn : Nat) (val : Word)
  /-- JL_PORT_ENABLE (R337): Setting JL_CTL.EN moves the port from DISABLED to DETECT once the node ID is non-zero; clearing it disables the port. -/
  | jlPortEnable (port : HPort) (jl : JPort) (val : Word)
  /-- JL_RETRAIN_REQUEST (R352): A write of JL_CTL.RETRAIN puts the port into RETRAIN. -/
  | jlRetrainRequest (port : HPort) (jl : JPort) (val : Word)
  /-- FLIP_ARM (R306): Arming DC_FLIP_CTL makes the next COUNT writes of the selected kind carry the flip mask. -/
  | flipArm (port : HPort) (ch : Chan) (val : Word)
  /-- ZEROISE_ARM (R464): A PAIR write of SEC_ZEROISE_ARM.VALUE arms KEY_ZEROISE for 100 ms. -/
  | zeroiseArm (port : HPort) (val : Word)
  /-- ZEROISE_ARM_EXPIRY (R464): 100 ms pass after arming without use, and the zeroise arm clears. -/
  | zeroiseArmExpiry
  /-- BOOT_GO (R537): A write of GEN_BOOT_CTL.GO starts the ROM's read of the firmware bundle through the writing port. -/
  | bootGo (port : HPort) (val : Word)
  /-- BOOT_LOAD_DONE (R537): The bundle read completes; the ROM checks the format, signature and security version, then starts the security firmware or sets FAILED. -/
  | bootLoadDone (res : BundleRead)
  /-- FW_START_DONE (R537): The cores have started and the power-up tests have run, so FW_READY is set and the surviving Avenues serve their shares. -/
  | fwStartDone (res : StartResult)
  /-- COMMAND_TAIL_DOORBELL (R399): An 8-byte command tail doorbell is taken, or ignored as stale or invalid. -/
  | commandTailDoorbell (port : HPort) (fn r size : Nat) (val : Word64)
  /-- COMPLETION_HEAD_DOORBELL (R398): A completion head doorbell frees completion slots and re-arms the ring's MSI-X vector. -/
  | completionHeadDoorbell (port : HPort) (fn r size : Nat) (val : Word64)
  /-- NOTICE_HEAD_DOORBELL (R399): A notice head doorbell frees notice slots. -/
  | noticeHeadDoorbell (port : HPort) (fn size : Nat) (val : Word64)
  /-- NOTICE_CLAIM_READ (R412): A read of the claim word returns and claims the oldest unclaimed level record, or SPURIOUS when its condition has ended. -/
  | noticeClaimRead (port : HPort) (fn : Nat)
  /-- NOTICE_COMPLETION_WRITE (R412): A write of the completion word ends a claimed condition and re-samples it, writing a new record if the condition still holds. -/
  | noticeCompletionWrite (port : HPort) (fn size : Nat) (val : Word64)
  /-- SHADOW_TAIL_SWEEP (R400): Every 100 µs the shadow tail of a sweeping ring is read and treated as a command tail doorbell. -/
  | shadowTailSweep (ring : Nat) (read : Option Nat)
  /-- DESCRIPTOR_FETCH (R392): With completion slots reserved, the next descriptors of a ring are fetched and checked in the order of R393. -/
  | descriptorFetch (ring : Nat) (read : Option Desc)
  /-- RETENTION_EXPIRE (R402): A retained completion record reaches RING_RETAIN seconds and is discarded. -/
  | retentionExpire (issuer cmdId : Nat)
  /-- FUNCTION_LEVEL_RESET (R409): A function-level reset drains the function's rings, disables its notice ring and, on the token holder's PF, releases the token. -/
  | functionLevelReset (port : HPort) (fn : Nat)
  /-- HOST_PERST (R534): PERST# of a host port resets that port's link and functions only. -/
  | hostPerst (port : HPort)
  /-- HOST_LINK_DOWN (R504): A host port's link fails: the token is released, rings stop at their failed writes and notices are routed to the other PF. -/
  | hostLinkDown (port : HPort)
  /-- DISTRICT_CREATE (R390): Command 0x01 creates a District with its level, strength, quotas, allotments, owner and epoch. -/
  | districtCreate (c : Cmd)
  /-- DISTRICT_ERASE (R463): Command 0x02 starts the erasure of a District after the CONFIRM guard. -/
  | districtErase (c : Cmd)
  /-- DISTRICT_ERASE_PROCEED (R463): Once open requests, commits and transfers have finished, the erase recalls, removes, zeroises and frees the District's state, then completes. -/
  | districtEraseProceed (district : Nat)
  /-- DISTRICT_QUERY (R390): Command 0x03 writes the District's SURVEY entry at BUF. -/
  | districtQuery (c : Cmd)
  /-- WINDOW_MAP (R79): Command 0x04 creates, replaces or removes a window entry, and completes after the invalidations and recalls it needs. -/
  | windowMap (c : Cmd)
  /-- TRANSLATION_DRAIN_DONE (R87): Every request translated under an old entry has had its final answer, so the command that changed the entry can complete. -/
  | translationDrainDone (ring cmdId : Nat)
  /-- DIRECTORY_SEARCH_DONE (R114): The directory search and recall for a narrowed or removed window end. -/
  | directorySearchDone (ring cmdId : Nat)
  /-- MEM_MAP (R566): Command 0x05 maps pages over a District address range. -/
  | memMap (c : Cmd)
  /-- MEM_UNMAP (R566): Command 0x06 unmaps the pages that lie wholly inside a range. -/
  | memUnmap (c : Cmd)
  /-- DISTRICT_STRENGTH (R295): Command 0x07 starts converting a District's pages to a new page-code strength. -/
  | districtStrength (c : Cmd)
  /-- STRENGTH_PAGE_DONE (R295): One page's conversion to the new strength completes, and the next page is taken, or the command completes. -/
  | strengthPageDone (district : Nat)
  /-- DISTRICT_LIMITS (R390): Command 0x08 changes a District's priority, tracker limit and quotas. -/
  | districtLimits (c : Cmd)
  /-- WINDOW_QUERY (R567): Command 0x09 returns a window entry. -/
  | windowQuery (c : Cmd)
  /-- ACC_RING_CREATE (R391): Command 0x0A creates an accelerator ring in District memory. -/
  | accRingCreate (c : Cmd)
  /-- ACC_RING_DESTROY (R390): Command 0x0B destroys an accelerator ring. -/
  | accRingDestroy (c : Cmd)
  /-- DISTRICT_REOWN (R407): Command 0x0C moves a District to a new owner. -/
  | districtReown (c : Cmd)
  /-- MILESTONE_CUT (R158): Command 0x10 issues a version number, fixes the cut ranges and takes the cut at once or schedules it. -/
  | milestoneCut (c : Cmd)
  /-- MILESTONE_OPEN (R151): Command 0x11 adds a hold to an ACTIVE Milestone. -/
  | milestoneOpen (c : Cmd)
  /-- MILESTONE_CLOSE (R151): Command 0x12 removes a hold. -/
  | milestoneClose (c : Cmd)
  /-- MILESTONE_RELEASE (R154): Command 0x13 cancels a PENDING cut, or marks an ACTIVE Milestone RELEASED. -/
  | milestoneRelease (c : Cmd)
  /-- MILESTONE_RENUMBER (R157): Command 0x14 starts renumbering the District's versions from 1. -/
  | milestoneRenumber (c : Cmd)
  /-- RENUMBER_DONE (R157): The renumbering ends within 50 µs, and requests through the District's windows are served again. -/
  | renumberDone (district : Nat)
  /-- MILESTONE_QUERY (R155): Command 0x15 returns a Milestone record. -/
  | milestoneQuery (c : Cmd)
  /-- CROSSING_CREATE (R183): Command 0x20 allocates a block of Crossings. -/
  | crossingCreate (c : Cmd)
  /-- CROSSING_DESTROY (R183): Command 0x21 frees a block of Crossings and sends RESET Signals. -/
  | crossingDestroy (c : Cmd)
  /-- CROSSING_RESET (R183): Command 0x22 resets a Crossing's type and value, keeps SEQ and the journal, and sends RESET Signals. -/
  | crossingReset (c : Cmd)
  /-- CROSSING_QUERY (R183): Command 0x23 returns a Crossing word and its count of open registrations. -/
  | crossingQuery (c : Cmd)
  /-- OP_FILL (R240): Operator 0x30 is checked and queued to fill a range with a pattern. -/
  | opFill (c : Cmd)
  /-- OP_COPY (R240): Operator 0x31 is checked and queued to copy a range. -/
  | opCopy (c : Cmd)
  /-- OP_COMPARE (R240): Operator 0x32 is checked and queued to compare two ranges, or a range with a pattern. -/
  | opCompare (c : Cmd)
  /-- OP_REDUCE (R241): Operator 0x33 is checked and queued to reduce several sources in source-index order. -/
  | opReduce (c : Cmd)
  /-- OP_GATHER (R242): Operator 0x34 is checked and queued to gather elements into a contiguous range. -/
  | opGather (c : Cmd)
  /-- OP_SCATTER (R242): Operator 0x35 is checked and queued to scatter a contiguous range into elements. -/
  | opScatter (c : Cmd)
  /-- OP_HOST_COPY (R245): Operator 0x36 copies between pool and host memory in the host interface block. -/
  | opHostCopy (c : Cmd)
  /-- OP_GEMV (R246): Operator 0x38 is checked and queued as a matrix-vector product over a stored weight tensor. -/
  | opGemv (c : Cmd)
  /-- OP_ATTEND (R249): Operator 0x3A is checked and queued as decode attention over a paged KV cache. -/
  | opAttend (c : Cmd)
  /-- OP_KV_APPEND (R252): Operator 0x3B is checked and queued to quantise and append KV positions. -/
  | opKvAppend (c : Cmd)
  /-- OP_QUANT (R253): Operator 0x3C is checked and queued to convert a tensor into a stored format. -/
  | opQuant (c : Cmd)
  /-- OP_DEQUANT (R253): Operator 0x3D is checked and queued to convert a stored tensor into FP32. -/
  | opDequant (c : Cmd)
  /-- JOB_ABORT (R254): Command 0x3F aborts a queued or running job whose commit has not begun. -/
  | jobAbort (c : Cmd)
  /-- TIER_PROMOTE (R324): Command 0x50 fills every non-resident page of a range. -/
  | tierPromote (c : Cmd)
  /-- TIER_DEMOTE (R324): Command 0x51 demotes every unpinned page of a range. -/
  | tierDemote (c : Cmd)
  /-- TIER_PIN (R324): Command 0x52 fills and pins the pages of a range, or unpins them. -/
  | tierPin (c : Cmd)
  /-- FLASH_GROUP_CREATE (R314): Command 0x53 forms a flash group and writes its metadata area. -/
  | flashGroupCreate (c : Cmd)
  /-- FLASH_GROUP_DESTROY (R324): Command 0x54 removes a flash group and deallocates its members. -/
  | flashGroupDestroy (c : Cmd)
  /-- SLOT_POWER (R328): Command 0x55 powers a slot off or on, or clears its fault. -/
  | slotPower (c : Cmd)
  /-- SSD_REPLACE (R327): Command 0x56 starts rebuilding a failed group member onto a new slot. -/
  | ssdReplace (c : Cmd)
  /-- TIER_QUERY (R324): Command 0x58 returns the tier counts of a District or the state of a flash group. -/
  | tierQuery (c : Cmd)
  /-- AVENUE_RETIRE (R515): Command 0x60 retires an Avenue, handing its share to the spare. -/
  | avenueRetire (c : Cmd)
  /-- AVENUE_ADMIT (R513): Command 0x61 runs a self-test lap, then readmits an Avenue as spare or server, or restores a share's channels. -/
  | avenueAdmit (c : Cmd)
  /-- MEM_RETIRE (R304): Command 0x62 retires a page, row, bank or channel. -/
  | memRetire (c : Cmd)
  /-- ERRLOG_READ (R303): Command 0x63 writes error-log records to host memory. -/
  | errlogRead (c : Cmd)
  /-- NODE_UNFENCE (R521): Command 0x64 removes a node's fence. -/
  | nodeUnfence (c : Cmd)
  /-- ROLE_SWAP (R520): Command 0x65 schedules a forced swap of a central pair. -/
  | roleSwap (c : Cmd)
  /-- HEALTH_READ (R522): Command 0x66 writes the health report or a directory dump. -/
  | healthRead (c : Cmd)
  /-- FW_STAGE (R523): Command 0x67 reads, checks and stages a firmware bundle in the depot. -/
  | fwStage (c : Cmd)
  /-- FW_ROLL (R524): Command 0x68 starts rolling the staged bundle through the Avenues and central pairs. -/
  | fwRoll (c : Cmd)
  /-- ROLL_SPARE_READY (R524): The spare has loaded the new bundle and passed its lap, and prepares the next rotation. -/
  | rollSpareReady (passed : Bool)
  /-- PLAN_LOAD (R56): Command 0x70 reads and checks a plan image and makes it the standby bank's content. -/
  | planLoad (c : Cmd)
  /-- PLAN_ACTIVATE (R67): Command 0x71 schedules a swap of the plan banks at a cycle-boundary instant. -/
  | planActivate (c : Cmd)
  /-- PLAN_DISCARD (R60): Command 0x72 empties the standby bank and aborts any pending activation. -/
  | planDiscard (c : Cmd)
  /-- TIME_SET (R41): Command 0x73 gives the TAI second count of the next PPS edge. -/
  | timeSet (c : Cmd)
  /-- TIME_SET_TIMEOUT (R41): No edge is accepted within 2 s of TIME_SET, so its count is discarded and the command completes ABORTED. -/
  | timeSetTimeout
  /-- EVENT_SCHEDULE (R60): Command 0x74 schedules a power phase at an instant. -/
  | eventSchedule (c : Cmd)
  /-- EVENT_CANCEL (R65): Command 0x75 removes a pending event that is more than 10 µs away. -/
  | eventCancel (c : Cmd)
  /-- POWER_CAP (R481): Command 0x78 sets the present power cap. -/
  | powerCap (c : Cmd)
  /-- POWER_PROFILE (R482): Command 0x79 writes a power profile. -/
  | powerProfile (c : Cmd)
  /-- POWER_QUERY (R481): Command 0x7A returns the cap, the estimate, the shares and the calibration state. -/
  | powerQuery (c : Cmd)
  /-- ENERGY_READ (R484): Command 0x7B returns a District's job energy, split into metered and estimated. -/
  | energyRead (c : Cmd)
  /-- KEY_INSTALL (R454): Command 0x80 checks and installs a key blob. -/
  | keyInstall (c : Cmd)
  /-- KEY_ZEROISE (R464): Command 0x81, when armed, zeroises the keys of a scope. -/
  | keyZeroise (c : Cmd)
  /-- SPDM_RELAY (R451): Command 0x82 carries one SPDM message in BUF and returns the response there. -/
  | spdmRelay (c : Cmd)
  /-- MODEL_LOAD (R457): Command 0x83 binds a sealed model image to a window, or unbinds it. -/
  | modelLoad (c : Cmd)
  /-- LINK_KEY_STAGE (R459): Command 0x84 stages the next link key for one direction of a port. -/
  | linkKeyStage (c : Cmd)
  /-- BOUNCE_SET (R462): Command 0x85 sets a bounce-buffer region of a CONF District. -/
  | bounceSet (c : Cmd)
  /-- SURVEY (R414): Command 0xF0 writes the header, directory and requested sections at BUF. -/
  | survey (c : Cmd)
  /-- NOP (R390): Command 0xFF does nothing and completes. -/
  | nop (c : Cmd)
  /-- READ_SHARED (R133): A ReadShared request is checked, translated and served, with EarlyData when allowed, granting S. -/
  | readShared (port : JPort) (r : Req)
  /-- READ_OWN (R133): A ReadOwn request is served after recalling other holders, granting E. -/
  | readOwn (port : JPort) (r : Req)
  /-- READ_ONCE (R133): A ReadOnce request is served without keeping a directory record. -/
  | readOnce (port : JPort) (r : Req)
  /-- READ_GATHER (R89): A ReadGather is split into element reads, each answered on its own, followed by a closing Comp. -/
  | readGather (port : JPort) (r : Req)
  /-- WRITE_LINE (R133): A WriteLine is applied after any recalls and copy-on-write, and is acknowledged when mirrored. -/
  | writeLine (port : JPort) (r : Req)
  /-- WRITE_BACK (R133): A WriteBack is applied when the issuer is the recorded or awaited owner, and is discarded as stale otherwise. -/
  | writeBack (port : JPort) (r : Req)
  /-- WRITEBACK_TRACKER_GRANT (R82): A tracker frees and is given to a WriteBack waiting at the share, ahead of other waiting requests. -/
  | writebackTrackerGrant (share : Share)
  /-- ATOMIC_ADD (R74): A far atomic with ATOP ADD is applied at the home atomic unit. -/
  | atomicAdd (port : JPort) (r : Req)
  /-- ATOMIC_AND (R74): A far atomic with ATOP AND is applied at the home atomic unit. -/
  | atomicAnd (port : JPort) (r : Req)
  /-- ATOMIC_OR (R74): A far atomic with ATOP OR is applied at the home atomic unit. -/
  | atomicOr (port : JPort) (r : Req)
  /-- ATOMIC_XOR (R74): A far atomic with ATOP XOR is applied at the home atomic unit. -/
  | atomicXor (port : JPort) (r : Req)
  /-- ATOMIC_SMAX (R74): A far atomic with ATOP SMAX is applied at the home atomic unit. -/
  | atomicSmax (port : JPort) (r : Req)
  /-- ATOMIC_SMIN (R74): A far atomic with ATOP SMIN is applied at the home atomic unit. -/
  | atomicSmin (port : JPort) (r : Req)
  /-- ATOMIC_UMAX (R74): A far atomic with ATOP UMAX is applied at the home atomic unit. -/
  | atomicUmax (port : JPort) (r : Req)
  /-- ATOMIC_UMIN (R74): A far atomic with ATOP UMIN is applied at the home atomic unit. -/
  | atomicUmin (port : JPort) (r : Req)
  /-- ATOMIC_SWAP (R74): A far atomic with ATOP SWAP is applied at the home atomic unit. -/
  | atomicSwap (port : JPort) (r : Req)
  /-- ATOMIC_CAS (R74): A far atomic with ATOP CAS writes the operand when the old value matches. -/
  | atomicCas (port : JPort) (r : Req)
  /-- ATOMIC_ANY_NEAR (R115): An Atomic-Any that the predictor sends near is answered by granting the line in E with ATOM set. -/
  | atomicAnyNear (port : JPort) (atop : Nat) (r : Req)
  /-- CR_READ (R175): The Crossing operation CR_READ returns the selected word. -/
  | crRead (port : JPort) (any : Bool) (r : Req)
  /-- SEM_RELEASE (R174): SEM_RELEASE adds units to a semaphore and signals the waiters it can satisfy. -/
  | semRelease (port : JPort) (any : Bool) (r : Req)
  /-- SEM_ACQUIRE (R174): SEM_ACQUIRE takes units if enough are available. -/
  | semAcquire (port : JPort) (any : Bool) (r : Req)
  /-- SEM_WAIT (R174): SEM_WAIT acquires units, or registers the caller. -/
  | semWait (port : JPort) (any : Bool) (r : Req)
  /-- JCT_ARRIVE (R174): JCT_ARRIVE counts an arrival and completes the generation at MEMBERS. -/
  | jctArrive (port : JPort) (any : Bool) (r : Req)
  /-- JCT_WAIT (R174): JCT_WAIT returns MET, or registers for the generation's end. -/
  | jctWait (port : JPort) (any : Bool) (r : Req)
  /-- FLAG_SET (R174): FLAG_SET writes the flag. -/
  | flagSet (port : JPort) (any : Bool) (r : Req)
  /-- FLAG_OR (R174): FLAG_OR sets flag bits. -/
  | flagOr (port : JPort) (any : Bool) (r : Req)
  /-- FLAG_CLEAR (R174): FLAG_CLEAR clears flag bits. -/
  | flagClear (port : JPort) (any : Bool) (r : Req)
  /-- FLAG_WAIT (R174): FLAG_WAIT returns MET, or registers for the mask. -/
  | flagWait (port : JPort) (any : Bool) (r : Req)
  /-- TKT_TAKE (R174): TKT_TAKE issues the next ticket. -/
  | tktTake (port : JPort) (any : Bool) (r : Req)
  /-- TKT_RELEASE (R174): TKT_RELEASE advances SERVING when the ticket holds the lock. -/
  | tktRelease (port : JPort) (any : Bool) (r : Req)
  /-- TKT_WAIT (R174): TKT_WAIT returns MET, or registers for the ticket. -/
  | tktWait (port : JPort) (any : Bool) (r : Req)
  /-- CR_UNWAIT (R174): CR_UNWAIT removes a registration. -/
  | crUnwait (port : JPort) (any : Bool) (r : Req)
  /-- REGISTRATION_EXPIRED (R181): A registration reaches WAIT_MAX and receives an EXPIRED Signal. -/
  | registrationExpired (crossing node cookie : Nat)
  /-- RECALL_ACK (R134): A RecallAck is counted against a BUSY entry, or discarded. -/
  | recallAck (port : JPort) (m : Rsp)
  /-- RECALL_DATA (R134): A RecallData is delivered to the home share and the partner's mirror, and is applied or discarded. -/
  | recallData (port : JPort) (m : Rsp)
  /-- RECALL_TIMEOUT (R113): A Recall or RecallShared goes unanswered for RCL_TIMEOUT and its node is fenced. -/
  | recallTimeout (line node : Nat)
  /-- RECALLALL_TIMEOUT (R113): A RecallAll goes unanswered for ALL_TIMEOUT and its node is fenced. -/
  | recallallTimeout (share : Share) (district node : Nat)
  /-- WBW_TIMEOUT (R134): An announced WriteBack does not arrive within the WBW timer, so the node is fenced and WBW clears. -/
  | wbwTimeout (line node : Nat)
  /-- EARLY_DECISION (R136): Resolution of an EarlyData read completes, and the home sends Settle, or Revoke followed by Data. -/
  | earlyDecision (port : JPort) (src tag : Nat) (dataError : Bool)
  /-- EARLY_DEADLINE (R123): Resolution is unfinished 150 ns after the EarlyData, so Revoke DEADLINE is sent. -/
  | earlyDeadline (port : JPort) (src tag : Nat)
  /-- MIRROR_CONFIRM (R30): The partner confirms a mirror entry, allowing the write to be acknowledged. -/
  | mirrorConfirm (line : Nat)
  /-- SNOOP_LAP_DONE (R119): A snoop-invalidate completes its lap, the presence mark clears and the acknowledgement may be sent. -/
  | snoopLapDone (line : Nat)
  /-- PREDICTOR_DECAY (R117): A decay period elapses and every non-zero predictor counter of the share is decremented. -/
  | predictorDecay (share : Share)
  /-- UNEXPECTED_MESSAGE (R565): A message for the pool that the pool does not take is discarded, its credits are returned and it is counted. -/
  | unexpectedMessage (port : JPort) (byte0 src cells vc : Nat)
  /-- MESSAGE_FORWARD (R366): A message for another node is routed to an egress port, possibly on escape. -/
  | messageForward (port : JPort) (m : Msg)
  /-- REQUEST_HELD_TIMEOUT (R356): A request has waited 2 s and is answered RETRY_LATER with reason HELD. -/
  | requestHeldTimeout (port : JPort) (src tag : Nat)
  /-- COW_SWEEP_DONE (R159): The COW sweep passes the last leaf of the cut ranges, and SWEEP_DONE is set. -/
  | cowSweepDone (district slot : Nat)
  /-- COW_CHUNKS_DONE (R161): Every share has copied its chunks, and the leader writes the map leaves and starts the map-cache invalidation. -/
  | cowChunksDone (district page : Nat)
  /-- COW_MAP_INVALIDATED (R161): The map-cache invalidation completes and the waiting change is applied. -/
  | cowMapInvalidated (district page : Nat)
  /-- COW_COPY_RESTART (R165): A copy abandoned with a pending RecallData restarts once every share's memory is served. -/
  | cowCopyRestart (district page : Nat)
  /-- COPY_PAGE_RETURN (R151): Copy pages and maps of a freed Milestone return to free space in the background. -/
  | copyPageReturn (district slot : Nat)
  /-- COPY_DEMOTE (R162): DRAM copies at 90 % of quota are demoted to flash until they fall below 80 %. -/
  | copyDemote (district : Nat)
  /-- COPY_SPACE_FREED (R162): Copy space becomes available, and a waiting change's copy proceeds. -/
  | copySpaceFreed (district : Nat)
  /-- SCHEDULER_PASS (R478): The scheduler core walks the job queue and dispatches the jobs that fit the budget. -/
  | schedulerPass
  /-- ENGINE_WAKE_DONE (R195): An engine finishes waking and becomes IDLE. -/
  | engineWakeDone (av : Avenue) (eng : Engine)
  /-- ACTIVATION_LOAD_DONE (R193): Activations have been broadcast to the job's activation stores, and streaming begins. -/
  | activationLoadDone (job : Nat)
  /-- ENGINE_READ_DATA (R196): A weight or input line read by an engine arrives and is dequantised and processed. -/
  | engineReadData (job : Nat) (share : Share)
  /-- ROW_GROUP_DONE (R197): An engine finishes a row group and sends its partial results to the output shares. -/
  | rowGroupDone (job : Nat) (share : Share) (eng : Engine)
  /-- PARTIAL_SUM_ARRIVE (R197): Partials reach an output share, which sums them in share order once all eight are present. -/
  | partialSumArrive (job : Nat) (share : Share)
  /-- JOB_COMMIT_START (R198): Every share has finished its output, so the numeric outcome is decided and the staged lines are committed as home writes. -/
  | jobCommitStart (job : Nat) (bad : Bool)
  /-- JOB_COMMIT_DONE (R198): Every share has acknowledged every committed line. -/
  | jobCommitDone (job : Nat)
  /-- ENGINE_SCRUB_DONE (R200): A level-2 or level-3 engine and its granules finish clearing at a job boundary. -/
  | engineScrubDone (av : Avenue) (eng : Engine)
  /-- ENGINE_CHECK_FAIL (R195): An engine fails a residue or buffer check and is retired. -/
  | engineCheckFail (av : Avenue) (eng : Engine)
  /-- AGEING_CHECK (R472): The hourly ageing-monitor read may lower an engine's qualified maximum. -/
  | ageingCheck (av : Avenue) (eng : Engine) (low : Bool)
  /-- DRAM_TRAINING_DONE (R258): Training chooses the rate and reference geometry and takes mismatching channels out of service. -/
  | dramTrainingDone (results : List TrainResult)
  /-- MEM_INIT_START (R540): Once training has ended and both locks are valid, memory initialisation begins and CFG_SPARE is taken. -/
  | memInitStart
  /-- MEM_INIT_DONE (R290): Every DRAM line has been written as zero. -/
  | memInitDone
  /-- DEPOT_BUILD_DONE (R540): The depot is built at S16, the shares open and MEM_READY is set. -/
  | depotBuildDone
  /-- REFSB_DUE (R264): A same-bank refresh falls due and is issued or postponed. -/
  | refsbDue (ch : Chan) (rank sc bank : Nat) (issue : Bool)
  /-- RFM_ISSUE (R267): A bank's rolling activate count reaches the DIMM's threshold and RFMsb is issued. -/
  | rfmIssue (ch : Chan) (rank sc bank : Nat)
  /-- DIMM_TEMP_POLL (R264): The 1 ms SPD-hub temperature read may halve or restore tREFI. -/
  | dimmTempPoll (ch : Chan) (celsius : Int)
  /-- WRITE_AGE_DRAIN (R260): A write older than 8 µs, or a write queue at WR_HIGH, starts a write drain. -/
  | writeAgeDrain (ch : Chan)
  /-- ROADWORKS_WINDOW_OPEN (R268): A channel's roadworks window opens, and the pause performs its one task. -/
  | roadworksWindowOpen (ch : Chan)
  /-- ROADWORKS_PAUSE_END (R268): The pause ends, and postponed refreshes are issued first. -/
  | roadworksPauseEnd (ch : Chan) (corr : Int)
  /-- ARB_CREDIT_PERIOD (R271): A credit period begins and each arbiter input's credit is reset to its weight. -/
  | arbCreditPeriod (share : Share)
  /-- ARB_GRANT_END (R272): A grant ends and the winner of the arbitration phase takes the pair. -/
  | arbGrantEnd (share : Share)
  /-- DRAM_READ_DONE (R284): A DRAM read returns and is decoded by the inner code, then corrected or passed to reconstruction. -/
  | dramReadDone (line : Nat) (bad : Nat)
  /-- PAGE_QUIESCED (R285): The page's in-flight updates have finished, and the page's lines are read. -/
  | pageQuiesced (frame : Nat)
  /-- RECONSTRUCT_DONE (R285): The page-code decode rebuilds the erased lines, or poisons them and sets PARITY_LOST. -/
  | reconstructDone (frame : Nat) (failed : List Nat) (syndrome : Bool) (depot : Nat × Nat)
  /-- PARITY_DELTA (R287): A parity delta arrives at a parity share and is merged into the line's read-modify-write. -/
  | parityDelta (frame par line : Nat)
  /-- PARITY_RMW_DONE (R287): The data and parity writes of an update are issued, so the update has finished. -/
  | parityRmwDone (frame par : Nat) (bad : Bool)
  /-- PARITY_REENCODE (R288): A queued re-encode of an erased parity line runs once the page is quiet. -/
  | parityReencode (frame par : Nat) (bad : Bool)
  /-- SCRUB_LINE (R296): The scrubber reads a line, writes back a correction or starts reconstruction. -/
  | scrubLine (share : Share) (line : Nat) (bad : Nat)
  /-- SCRUB_LAP_WARN (R297): A lap in progress exceeds LAP_WARN and the SCRUB_LAP notice is raised. -/
  | scrubLapWarn (share : Share)
  /-- CHANNEL_FAILED (R299): A channel is declared failed, marked ERASED, and evacuated if allowed. -/
  | channelFailed (ch : Chan)
  /-- EVAC_SLICE_DONE (R300): A slice of an evacuating channel has moved to its detour location. -/
  | evacSliceDone (ch : Chan)
  /-- NVME_READ_DONE (R318): A flash read for a fill completes and is checked and re-encrypted. -/
  | nvmeReadDone (slot : Slot) (cid : Nat) (pi : Bool)
  /-- FILL_DONE (R318): The fill's whole-page write and leaf update complete, and the waiters are released. -/
  | fillDone (district page : Nat)
  /-- DEMOTION_START (R321): Resident pages reach HIGH, or an allotment is full, so the clock picks a victim and demotion begins. -/
  | demotionStart (district : Nat)
  /-- NVME_WRITE_DONE (R322): A demotion's flash writes complete. -/
  | nvmeWriteDone (slot : Slot) (cid : Nat)
  /-- NVME_CMD_TIMEOUT (R326): An NVMe command exceeds TIMEOUT and is aborted. -/
  | nvmeCmdTimeout (slot : Slot) (cid : Nat)
  /-- NVME_ABORT_TIMEOUT (R326): The Abort does not complete in 100 ms, so the controller is reset. -/
  | nvmeAbortTimeout (slot : Slot) (cid : Nat)
  /-- NVME_RESET_TIMEOUT (R326): A controller reset misses CAP.TO, and the member fails. -/
  | nvmeResetTimeout (slot : Slot)
  /-- NVME_ERROR_COMPLETION (R326): A write error fails the member; a read media or PI error is rebuilt and rewritten. -/
  | nvmeErrorCompletion (slot : Slot) (cid : Nat) (media : Bool)
  /-- SSD_REBUILD_STEP (R327): A rebuild of a locator onto the replacement completes, and the group becomes NORMAL at the end. -/
  | ssdRebuildStep (group : Nat)
  /-- SLOT_PRESENCE_CHANGE (R328): SLOT_PRSNT_N changes, moving the slot to OFF or WAIT, or to EMPTY. -/
  | slotPresenceChange (slot : Slot) (present : Bool)
  /-- SLOT_INRUSH_TURN (R329): The stagger has passed and the next waiting slot starts its inrush. -/
  | slotInrushTurn
  /-- SLOT_PG_ASSERT (R328): SLOT_PG asserts and the slot moves to RESET. -/
  | slotPgAssert (slot : Slot)
  /-- SLOT_INRUSH_TIMEOUT (R328): INRUSH_MAX passes without SLOT_PG, which is treated as a fault. -/
  | slotInrushTimeout (slot : Slot)
  /-- SLOT_PERST_RELEASE (R328): 100 ms after SLOT_PG, SLOT_PERST_N is released. -/
  | slotPerstRelease (slot : Slot)
  /-- SLOT_LINK_UP (R328): The slot's link trains and its controller is ready, so the slot is UP. -/
  | slotLinkUp (slot : Slot) (width rate lbas : Nat) (usable : Bool)
  /-- SLOT_FAULT (R330): SLOT_FLT_N asserts and the slot's enable and reset are dropped within 10 µs. -/
  | slotFault (slot : Slot)
  /-- SLOT_RETRY_TIMER (R330): One second after a fault the slot is queued for retry, or is latched FAULTED after three retries. -/
  | slotRetryTimer (slot : Slot)
  /-- RAIL_DROOP_ASSERT (R331): RAIL_DROOP_N asserts and every slot in inrush is paused. -/
  | railDroopAssert
  /-- RAIL_DROOP_CLEAR (R331): The droop clears, starting the 10 ms resume timer. -/
  | railDroopClear
  /-- DROOP_RESUME (R331): 10 ms after the droop clears, the paused slots return to WAIT first. -/
  | droopResume
  /-- DROOP_LONG (R331): A droop lasting 1 s raises a notice. -/
  | droopLong
  /-- JL_PARTNER_DETECT (R337): A partner's signal is detected and equalisation begins. -/
  | jlPartnerDetect (jl : JPort)
  /-- JL_EQUALIZE_DONE (R336): Equalisation ends with a chosen width, or with DOWN. -/
  | jlEqualizeDone (jl : JPort) (lanes : Nat)
  /-- JL_ALIGN_DONE (R337): Deskew, scrambler seed and flit lock complete, and the parameter exchange begins. -/
  | jlAlignDone (jl : JPort)
  /-- JL_PARAM_RECEIVE (R339): The partner's parameter block is checked, and the link goes ACTIVE or DOWN. -/
  | jlParamReceive (jl : JPort) (p : ParamBlock)
  /-- JL_DOWN_RETRY (R337): The DOWN retry timer expires and the port returns to DETECT. -/
  | jlDownRetry (jl : JPort)
  /-- FLIT_RECEIVE (R349): A flit is FEC-checked and accepted, discarded or answered with a Replay request, and its messages are parsed. -/
  | flitReceive (jl : JPort) (f : FlitIn)
  /-- FLIT_BUILD (R343): At each flit start the egress fills a new flit with replays, Bypass, flow, escape and open traffic under the plan and scheduler. -/
  | flitBuild (jl : JPort)
  /-- REPLAY_REQUEST_RECEIVE (R350): A Replay request makes the sender replay from FROM_SEQ. -/
  | replayRequestReceive (jl : JPort) (fromSeq : Nat)
  /-- REPLAY_TIMEOUT (R350): The oldest unacknowledged flit exceeds REPLAY_TO and is replayed. -/
  | replayTimeout (jl : JPort)
  /-- CREDIT_MESSAGE (R347): A Credit message returns cells on the virtual channels. -/
  | creditMessage (jl : JPort) (credits : List (Nat × Nat))
  /-- REKEY_MESSAGE (R360): A Rekey message sets the flit at which the receiver switches to the staged key. -/
  | rekeyMessage (jl : JPort) (fromSeq : Nat)
  /-- RETRAIN_DONE (R352): A retrain returns to ACTIVE and unacknowledged flits are resent. -/
  | retrainDone (jl : JPort) (lanes : Nat)
  /-- RETRAIN_TIMEOUT (R352): A retrain lasting over 1 ms declares the link down. -/
  | retrainTimeout (jl : JPort)
  /-- ESCAPE_WAIT_TIMEOUT (R366): A waiting message reaches ESC_WAIT and moves to its escape VC. -/
  | escapeWaitTimeout (jl : JPort) (idx : Nat)
  /-- BYPASS_DROP_TIMEOUT (R369): A routed Bypass message waits BYP_DROP for credit and is discarded. -/
  | bypassDropTimeout (jl : JPort) (idx : Nat)
  /-- ESCAPE_HOLD_TIMEOUT (R373): An escape message has been held 100 ms after a Ring Road break and has no route. -/
  | escapeHoldTimeout (idx : Nat)
  /-- METER_RELEASE (R380): A red meter's peak bucket refills, and the held message is re-marked. -/
  | meterRelease (jl : JPort) (idx : Nat)
  /-- TIMEREF_PPS_EDGE (R40): A PPS edge is accepted or rejected against its second count. -/
  | timerefPpsEdge (dt : Nat)
  /-- PPS_EDGE_MISSED (R40): An expected edge is missing, and three in a row lose the external reference. -/
  | ppsEdgeMissed
  /-- TIMEREF_10M_LOSS (R40): The 10 MHz reference disappears, so time is disciplined from edges alone. -/
  | timeref10mLoss
  /-- BMC_TIME_COUNT (R41): The board management controller sends the second count of the next edge over I3C. -/
  | bmcTimeCount (count : Nat)
  /-- TIME_MSG_SEND (R42): At each INTERVAL a time message is sent on every enabled port. -/
  | timeMsgSend
  /-- TIME_MSG_RECEIVE (R43): A time message gives a delay and offset sample that steers the node's time. -/
  | timeMsgReceive (jl : JPort) (m : TimeMsg)
  /-- ACQUIRE_LOCK_TIMER (R45): The offset has stayed within ±4 ns for 1 s, so the node becomes LOCKED. -/
  | acquireLockTimer
  /-- LOCK_OFFSET_TIMER (R45): The offset has exceeded 16 ns for 10 ms, so a LOCKED node returns to ACQUIRING. -/
  | lockOffsetTimer
  /-- HOLDOVER_EXPIRY (R45): HOLDOVER has lasted 60 s, so the node becomes SUSPENDED. -/
  | holdoverExpiry
  /-- PLAN_RESUME (R47): After 1 s of LOCKED the plan resumes at a cycle boundary. -/
  | planResume
  /-- EVENT_INSTANT (R62): A scheduled instant arrives and its events are applied in the order of R63, or aborted. -/
  | eventInstant (instant : Nat)
  /-- ROLE_SWAP_DONE (R517): The new core issues its first output, ending the switch-over. -/
  | roleSwapDone (pair : Pair)
  /-- HANDOVER_DIR_COPY_DONE (R511): The incoming Avenue finishes copying the outgoing directory slice. -/
  | handoverDirCopyDone
  /-- HANDOVER_DRAIN_START (R511): At T − DRAIN_MS the share and its predecessor enter write-through and drain. -/
  | handoverDrainStart
  /-- HANDOVER_LEDGER_CLOSE (R512): At T + 12 µs the open requests are answered RETRY_LATER and BUSY entries pass on. -/
  | handoverLedgerClose
  /-- HANDOVER_SWITCH (R512): At T + 15 µs the channels and ports move and the incoming controllers enter SERVICE. -/
  | handoverSwitch
  /-- HANDOVER_REOPEN (R512): The share reopens on the incoming Avenue and the HANDOVER notice is raised. -/
  | handoverReopen
  /-- POWER_ESTIMATE_TICK (R469): Every 10 µs the power estimate is formed and split into shares. -/
  | powerEstimateTick (raw : PowerRaw)
  /-- CALIBRATION_TICK (R470): Every 1 ms the gain is calibrated against the island's tap. -/
  | calibrationTick
  /-- REGULATOR_POLL (R468): Every 100 µs the regulators are read, and a silent one raises AVSBUS. -/
  | regulatorPoll (answers : List (Nat × Option Nat))
  /-- FAST_POWER_LIMIT (R471): The summed rail current exceeds 360 W for 10 µs, so every engine is gated. -/
  | fastPowerLimit
  /-- FAST_LIMIT_RELEASE (R471): 100 µs below 95 % of the limit release the fast limit. -/
  | fastLimitRelease
  /-- JUNCTION_TRIP (R471): A sensor reaches 105 °C, so that Avenue's engines are gated and its activates floored. -/
  | junctionTrip (av : Avenue)
  /-- JUNCTION_TRIP_RELEASE (R471): Every sensor of the Avenue reads 100 °C or less and the trip releases. -/
  | junctionTripRelease (av : Avenue)
  /-- THERMAL_STEP (R473): Every 100 µs engine clocks are lowered or raised by the Avenue's Tj. -/
  | thermalStep (tj : List (Nat × Int))
  /-- NEIGHBOUR_LIMIT (R17): A neighbour pair exceeds the voltage or temperature limit and the comparators raise a notice. -/
  | neighbourLimit (av : Avenue) (other : Avenue) (volt temp : Bool)
  /-- NEIGHBOUR_DRAIN (R473): Every 10 ms while a pair is out of limits, one engine of the hotter Avenue is drained. -/
  | neighbourDrain (av : Avenue) (other : Avenue) (inLimits : Bool)
  /-- TAVG_SAMPLE (R474): The 1 s Tj sample updates each Avenue's 24-hour mean. -/
  | tavgSample (av : Avenue) (tj : Int)
  /-- TSCHED_HOURLY (R474): Each hour T_SCHED is lowered or raised by 1 °C by the mean. -/
  | tschedHourly
  /-- HINT_PREWAKE (R479): HINT_LEAD before a job's expected end, hinted engines are pre-woken or the hint is dropped. -/
  | hintPrewake (job : Nat)
  /-- PREWAKE_EXPIRY (R479): Pre-woken engines unused 10 µs after the hinting job ends return to IDLE. -/
  | prewakeExpiry (ring : Nat)
  /-- VDD_DROOP_STRETCH (R480): A rail more than 4 % below setpoint stretches the Avenue's engine clocks. -/
  | vddDroopStretch (av : Avenue)
  /-- AVENUE_CHECKPOINT (R27): Every 100 ms a control core writes its Avenue checkpoint to the depot. -/
  | avenueCheckpoint (av : Avenue)
  /-- CORE_CHECKPOINT (R516): Every 10 ms an active central core writes its role checkpoint. -/
  | coreCheckpoint (pair : Pair)
  /-- STANDBY_SELF_TEST (R516): A standby core's lap ends, passed or failed. -/
  | standbySelfTest (pair : Pair) (passed : Bool)
  /-- CORE_WATCHDOG (R519): An active central core fails, so the standby takes over or the pair is lost. -/
  | coreWatchdog (pair : Pair)
  /-- AVENUE_FAILED (R505): The health monitor declares an Avenue failed, fences it and starts fail-over or leaves the share UNSERVED. -/
  | avenueFailed (av : Avenue)
  /-- SPARE_CONNECT (R506): The spare abandons its self-test and is connected to the share's channels and ports, issuing owed refreshes. -/
  | spareConnect (share : Share)
  /-- SPARE_LOAD_DONE (R506): The spare has loaded the checkpoint and mirror and joined the ring, so it sends RecallAll. -/
  | spareLoadDone (share : Share)
  /-- SHARE_REOPEN (R506): Every target has answered RecallAll, so RESUME Signals are sent and the share reopens at an instant. -/
  | shareReopen (share : Share)
  /-- REFRESH_KEEPER_TAKEOVER (R508): A pair unconnected for 20 µs is taken by the refresh keeper. -/
  | refreshKeeperTakeover (share : Share)
  /-- SELF_TEST_LAP_START (R510): An Avenue serving no share starts a self-test lap at each ST_PERIOD. -/
  | selfTestLapStart (av : Avenue)
  /-- SELF_TEST_SEGMENT_DONE (R510): A self-test segment ends; the lap continues, retries or ends passed or failed. -/
  | selfTestSegmentDone (av : Avenue) (segment : Nat) (passed last : Bool)
  /-- SPDM_GET_VERSION (R451): The SPDM responder answers GET_VERSION. -/
  | spdmGetVersion (t : Transport)
  /-- SPDM_GET_CAPABILITIES (R451): The SPDM responder answers GET_CAPABILITIES. -/
  | spdmGetCapabilities (t : Transport)
  /-- SPDM_NEGOTIATE_ALGORITHMS (R451): The SPDM responder answers NEGOTIATE_ALGORITHMS. -/
  | spdmNegotiateAlgorithms (t : Transport) (offered : List Nat)
  /-- SPDM_GET_DIGESTS (R451): The SPDM responder returns certificate digests. -/
  | spdmGetDigests (t : Transport)
  /-- SPDM_GET_CERTIFICATE (R450): The SPDM responder returns the DICE certificate chain. -/
  | spdmGetCertificate (t : Transport) (slot offset length : Nat)
  /-- SPDM_CHALLENGE (R451): The SPDM responder signs a challenge with the alias key. -/
  | spdmChallenge (t : Transport) (slot nonce : Nat)
  /-- SPDM_GET_MEASUREMENTS (R452): The SPDM responder returns the measurement blocks. -/
  | spdmGetMeasurements (t : Transport) (op nonce : Nat) (sign : Bool)
  /-- SPDM_KEY_EXCHANGE (R451): A session key exchange opens a session, or is answered Busy. -/
  | spdmKeyExchange (t : Transport) (share : Nat)
  /-- SPDM_FINISH (R451): FINISH completes session establishment. -/
  | spdmFinish (t : Transport) (session : Nat) (ok : Bool)
  /-- SPDM_HEARTBEAT (R451): A heartbeat keeps a session alive. -/
  | spdmHeartbeat (t : Transport) (session : Nat)
  /-- SPDM_KEY_UPDATE (R451): KEY_UPDATE refreshes a session's keys. -/
  | spdmKeyUpdate (t : Transport) (session : Nat)
  /-- SPDM_END_SESSION (R451): END_SESSION ends a session. -/
  | spdmEndSession (t : Transport) (session : Nat)
  /-- SPDM_HEARTBEAT_TIMEOUT (R451): Three missed heartbeat periods end a session. -/
  | spdmHeartbeatTimeout (session : Nat)
  /-- IDE_KM_MESSAGE (R461): An IDE_KM message over DOE programs host IDE stream keys. -/
  | ideKmMessage (port : HPort) (session stream op key : Nat)
  /-- TDISP_MESSAGE (R418): A TDISP message changes a VF interface's state and may raise TDISP_STATE. -/
  | tdispMessage (port : HPort) (session fn op : Nat)
  /-- ENTROPY_FAIL (R465): The entropy source fails its health tests and ENTROPY_FAIL is raised. -/
  | entropyFail
  /-- MCTP_CONTROL (R557): An MCTP control message on the management I3C port is answered. -/
  | mctpControl (cmd arg : Nat)
  /-- PLDM_BASE (R557): A PLDM type 0 discovery message is answered. -/
  | pldmBase (cmd : Nat)
  /-- PLDM_MONITOR (R557): A PLDM type 2 sensor request is answered. -/
  | pldmMonitor (sensor : Nat)
  /-- PLDM_FW_UPDATE (R557): A PLDM type 5 update that completes with a verified bundle stages it. -/
  | pldmFwUpdate (b : Bundle)
  /-- PRG_RESPONSE (R95): A Page Request Group Response retries the translation or ends the DMA FAULT_TRANSLATION. -/
  | prgResponse (dma : Nat) (code : Nat)
  /-- PRI_TIMEOUT (R95): No Page Request response within 2 s ends the command FAULT_TRANSLATION. -/
  | priTimeout (dma : Nat)
  /-- ATS_INVALIDATE (R96): An ATS Invalidate Request completes after the DMAs using it finish. -/
  | atsInvalidate (port : HPort) (fn page : Nat)
  /-- CHIP_RESET_ASSERT (R533): CHIP_RESET_N asserts, making outputs inactive and losing all state. -/
  | chipResetAssert
  /-- CHIP_RESET_RELEASE (R533): CHIP_RESET_N releases, so the ROM runs and Fabric Time counts from 0. -/
  | chipResetRelease (scaOk scbOk : Bool)
  /-- SYS_CLK_LOSS (R562): SYS_CLK stops for 2 µs and every output is driven inactive. -/
  | sysClkLoss
  /-- JL_REFCLK_LOSS (R562): A JL reference clock stops and its four ports go down. -/
  | jlRefclkLoss (q : Fin 3)
  /-- ISLAND_START (R497): The metering island starts, self-tests and logs POWER_UP, or enters fault. -/
  | islandStart (store : IslandStart)
  /-- ISLAND_BROWN_OUT (R497): The brown-out detector fires and the island saves a slot and logs POWER_DOWN. -/
  | islandBrownOut
  /-- TAP_UPDATE (R490): Every 100 µs the island updates the calibration tap. -/
  | tapUpdate (s0 s1 : List (Int × Int))
  /-- METERING_PERIOD_END (R494): At each period end the island forms, signs and stores the node record. -/
  | meteringPeriodEnd
  /-- ACTIVITY_FRAME_SEND (R498): Every 10 ms the main die sends an activity frame. -/
  | activityFrameSend
  /-- ACTIVITY_FRAME_RECEIVE (R498): The island receives a frame and assigns it to a period, or discards it. -/
  | activityFrameReceive (f : Frame)
  /-- PIPE_LOST (R500): No valid frame for 100 ms, so PIPE_LOST is logged and energy goes to District 0. -/
  | pipeLost
  /-- TAMPER_CHANGE (R496): MTR_TAMPER_N changes and a TAMPER event is logged. -/
  | tamperChange (asserted : Bool)
  /-- CRYSTAL_FAULT (R491): The crystal disagrees with the RC oscillator by over 1 %. -/
  | crystalFault
  /-- OTP_PROGRAM (R492): A one-time write of the integrator bank is accepted while MTR_PROG_EN is high. -/
  | otpProgram (data : List Byte) (progEn : Bool)
  /-- HISTORY_SELECT (R502): A write of MTR_I3C_SEL selects the content of the history view. -/
  | historySelect (sel : Nat)
  /-- ATS_TRANSLATION_COMPLETION (R95): The host's ATS Translation Completion for a 4 KiB page arrives, and the DMA may move that page or send a Page Request. -/
  | atsTranslationCompletion (dma : Nat) (granted : Bool)
  /-- HOST_DMA_PAGE_DONE (R245): The host-memory reads or writes of one page of a DMA, such as an OP_HOST_COPY page, a BUF write or a bundle read, complete, and the transfer advances to the next page or ends. -/
  | hostDmaPageDone (dma : Nat) (data : List Byte)
  /-- NVME_CONTROLLER_READY (R326): An SSD controller reset by clearing CC.EN reaches ready within CAP.TO, and every outstanding command is reissued. -/
  | nvmeControllerReady (slot : Slot)
  /-- SSD_LINK_DOWN (R326): The PCIe link of an SSD goes down and the member fails. -/
  | ssdLinkDown (slot : Slot)
  /-- OFF_ENGINE_TEST (R510): An engine of a serving Avenue that has been OFF for longer than ST_PERIOD is taken to TEST for at most 1 ms. -/
  | offEngineTest (av : Avenue) (eng : Engine) (done passed : Bool)
  /-- POSTPONED_ROLE_SWAP (R64): A role swap postponed because the node was not LOCKED is made 1 s after the node is next LOCKED, or once a gap or readmission ends. -/
  | postponedRoleSwap (pair : Pair)
  /-- CHANNEL_RESTORE_DONE (R514): A restored channel finishes retraining and its slices are copied back or its lines rebuilt, so it becomes NORMAL and rejoins the roadworks windows, or stays as it was if retraining failed. -/
  | channelRestoreDone (ch : Chan) (ok : Bool)
  /-- MTR_RST_N_ASSERT (R489): The board asserts MTR_RST_N, resetting the metering island alone, so the tap stops advancing until the island starts again. -/
  | mtrRstNAssert
  deriving DecidableEq, Repr

end Sys2Proof
end

