-- ==== Sys2Proof/Decode.lean ====
section
/-! DEFINITION. The commands that the opcode table spells by bits: none of its rows gives bits, so a word spells no command. -/

namespace Sys2Proof

/-- The command that a word of the opcode table's bits spells: no row has bits (R390 numbers descriptors, whose content a ring's memory
holds). (DEDUCED, log entry 5.) -/
def decodeTableWord (_nbits _w : Nat) : Option Instr := none

end Sys2Proof
end

