-- ==== Sys2Proof/Config.lean ====
section
/-! DEFINITION. What an implementation fixes, and the free values: constants without a body, of which nothing can be proved. -/

namespace Sys2Proof.Config

/-- The silicon stepping (R428): fused, not given by the spec. -/
opaque stepping : BitVec 8
/-- The device serial number (R428): fused, not given by the spec. -/
opaque serial : BitVec 64
/-- The fused maximum clock of each engine (R207), by Avenue and engine. -/
opaque fusedFmax : Nat → Nat → Nat
/-- The fused minimum security version (R523). -/
opaque minSecVersion : Nat

/-- A byte that the spec leaves undefined (R75, R289), by the draw and the address. (DESIGN CHOICE, log entry 2.) -/
opaque freeByte : Nat → Nat → Byte
/-- Whether a read of an undefined line is answered POISON (R289). (DESIGN CHOICE, log entry 2; DEDUCED, log entry 77.) -/
opaque freePoison : Nat → Nat → Bool
/-- The wait hint of a RETRY_LATER (R83), by the draw. (DESIGN CHOICE, log entry 2.) -/
opaque waitHint : Nat → BitVec 16
/-- The filtered offset after a sample (R43): the filter is not given. (DEDUCED, log entry 60.) -/
opaque filterOffset : Int → Int → Int

/-- The filtered path delay of a port after a sample (R353): the filter is not given. (DEDUCED, log entry 60.) -/
opaque filterDelay : Option Int → Int → Int
/-- How much of the allowed slew the pool uses over an interval, in ns (R39): at most 100 ppm, and not more than the offset. (DEDUCED, log
entry 60.) -/
opaque slewPart : Nat → Nat

/-- The cause of the notice that a flip mask has been used up (R306): the spec gives none. -/
opaque flipCause : Nat
/-- Where a parity line is stored, by frame and index: sub-channel in bit 0, rank in bits 3 to 1, bank group in 6 to 4, bank in 8 and 7, row
in 25 to 9, column in 32 to 26; its placement is internal (R283). (DESIGN CHOICE, log entry 54.) -/
opaque parityPlace : Nat → Nat → Nat

/-- The local address at which a parity line is stored, by frame and index: its placement is internal (R283, R309). (DESIGN CHOICE, log
entry 54.) -/
opaque parityLa : Nat → Nat → Nat
/-- The oldest and newest `SEQ` reported of an empty error log (R303): the spec gives none. (DEDUCED, log entry 51.) -/
opaque noRecord : Nat
/-- The nanoseconds that remain of a roadworks pause (R273): when a pause ends within its window is not given (R57). (DESIGN CHOICE, log
entry 54.) -/
opaque pauseLeft : Nat → Nat

/-- The source and tag that the pool journals for a FLAG_OR of its own (R177, R391): the spec names none. (DESIGN CHOICE, log entry 23.) -/
opaque ownOpMark : Nat → Nat × Nat

/-- e^x of the vector unit, on FP32 words (R250): the same bits for the same input; its last bits are not given. (DESIGN CHOICE, log entry
46.) -/
opaque expF32 : Nat → Nat
/-- A chunk of a sealed image in clear (R455), by model key, `MODEL_ID` and chunk number: the keys' bits are not in the state. (DESIGN
CHOICE, log entry 46.) -/
opaque openChunk : Nat → Nat → Nat → List Byte → List Byte
/-- The element bytes of a block to which conversion gives a NaN scale, by byte number (R229): the spec gives none. (DESIGN CHOICE, log
entry 46.) -/
opaque nanElem : Nat → Byte
/-- The sign of an E4M3 NaN scale, by block (R229): the spec writes it S. (DESIGN CHOICE, log entry 46.) -/
opaque nanSign : Nat → Bool
/-- The per-token scale of a token with a NaN or an infinity, by token (R229): the spec gives none. (DESIGN CHOICE, log entry 46.) -/
opaque nanSigma : Nat → Nat
/-- The scale of a block whose scale would lie above every E4M3 value, by block (R229): the spec gives none. (DESIGN CHOICE, log entry 46.)
-/
opaque topScale : Nat → Byte
/-- The element of a value that its scale cannot hold where the spec says that this cannot occur (R229). (DESIGN CHOICE, log entry 46.) -/
opaque overElem : Int → Int

/-- Does the tag of a key blob or of a manifest verify under a session's or a model's key (R454, R457)? The keys' bits are not in the state.
(DESIGN CHOICE, log entry 75.) -/
opaque tagOk : Nat → List Byte → Bool
/-- The name of the key that a blob carries, by session (R453). (DESIGN CHOICE, log entry 75.) -/
opaque keyName : Nat → List Byte → Nat
/-- Is the SHA-384 of a checksum plane the hash in a manifest (R456, R457)? (DESIGN CHOICE, log entry 75.) -/
opaque planeOk : List Byte → List Byte → Bool
/-- The length of the SPDM message in `BUF` of an SPDM_RELAY, and the response written there (R451): their formats are SPDM's. (DEDUCED, log
entry 70.) -/
opaque relayLength : Nat → Nat
opaque relayAnswer : Nat → List Byte → List Byte
/-- The content of an SPDM response, by its code and argument: certificates, digests and signatures (R450, R452). (DESIGN CHOICE, log entry
75.) -/
opaque spdmBody : Nat → Nat → Nat → Nat
/-- A field of a firmware bundle, by number (R523): the bundle's format is not given. (DESIGN CHOICE, log entry 75.) -/
opaque bundleField : List Byte → Nat → Nat
/-- Can firmware that writes one depot format read another (R523)? The formats are not given. (DESIGN CHOICE, log entry 75.) -/
opaque depotReads : Nat → Nat → Bool

/-- State, width and rate codes of a PCIe port in SURVEY (R416), by the draw, the entry and the field: the spec gives no codes. (DEDUCED,
log entry 32.) -/
opaque pciePort : Nat → Nat → Nat → Nat
/-- The content of a management answer (R557), by the draw, its code and its argument: the formats are MCTP's and PLDM's. (DESIGN CHOICE,
log entry 33.) -/
opaque mgmtAnswer : Nat → Nat → Nat → Nat

/-- DRAM bursts and row activations of a job (R483), by the draw: its descriptor does not give them. (DESIGN CHOICE, log entry 46.) -/
opaque jobTraffic : Nat → Nat × Nat
/-- The number of engines that the scheduler chooses for a job whose `ENGINES` is 0 (R201), by its descriptor words. (DESIGN CHOICE, log
entry 46.) -/
opaque engineChoice : Nat → Nat → Nat → Nat

/-- The fused voltage–frequency table of an Avenue (R468), as a step of 5 mV above 600 mV, by Avenue and clock in units of 10 MHz. -/
opaque railStep : Nat → Nat → Fin 61

/-- The activity counts of a District over a frame (R498), by the draw, the District and the field: cycles are not in the model. (DEDUCED,
log entry 74.) -/
opaque activity : Nat → Nat → Nat → Nat
/-- The energy of a sample pair in units of 2^-32 nJ (R491), by channel, integrator bank, and the clipped voltage and current in nV at the
pins: the factory bank and the arithmetic of the corrections are not given. (DESIGN CHOICE, log entry 71.) -/
opaque sampleEnergy : Nat → List Byte → Int → Int → Int
/-- The mean voltage of channel 0 in mV and its mean current in mA (R494), by integrator bank, sum of samples in nV and their number.
(DESIGN CHOICE, log entry 71.) -/
opaque meanVolt : List Byte → Int → Nat → Nat
opaque meanAmp : List Byte → Int → Nat → Int
/-- SHA-384 of a byte string (R494, R499), as a 384-bit number. (DESIGN CHOICE, log entry 75.) -/
opaque sha384 : List Byte → Nat
/-- The ECDSA P-384 signature of the island over a hash (R494): the key's bits are not in the state. (DESIGN CHOICE, log entry 75.) -/
opaque islandSign : Nat → Nat
/-- Direct energy in nJ of an activity under an allocation formula other than version 1 (R498): the spec gives version 1 only. (DEDUCED, log
entry 74.) -/
opaque otherFormula : Nat → List Nat → Nat
/-- The island's ROM version and the SHA-384 of its ROM (R494, R502): fixed by the mask. (DESIGN CHOICE, log entry 75.) -/
opaque romVersion : Nat
opaque romHash : Nat
/-- The island's certificate chain, by byte (R494). (DESIGN CHOICE, log entry 75.) -/
opaque islandCert : Nat → Byte

end Sys2Proof.Config
end

