-- ==== Sys2Proof/Machine/State.lean ====
section
/-! DEFINITION. The state of the block, as plain data, and its value at reset. -/

namespace Sys2Proof.Machine

/-- Why a command stops the model. -/
inductive Fault where
  /-- Raised by no meaning of this model: every command the spec describes completes, is answered or is ignored. Safe. -/
  | none
  deriving DecidableEq, Repr

/-- Why a command has no meaning. -/
inductive Refusal where
  /-- Raised by the dispatcher for a command whose meaning is not written. Safe. -/
  | notModelled (mnemonic : String)
  deriving DecidableEq, Repr

/-- What the pool sends, in the order in which it sends it. (DESIGN CHOICE, log entry 7.) -/
inductive Out where
  /-- A completion record written into a completion ring slot (R397). -/
  | record (ring slot : Nat) (phase : Bool) (r : Record)
  /-- The continuation of a record, in its own slot (R395, R397). -/
  | contRecord (ring slot : Nat) (phase : Bool) (r : Record)
  /-- A notice record written into a notice ring slot of a host function (R410). -/
  | notice (fn slot : Nat) (phase : Bool) (seq : Nat) (n : Notice)
  /-- An MSI-X message of a host function (R398). -/
  | msix (fn vector : Nat)
  /-- The value of the claim word as read (R412). -/
  | claimRead (fn : Nat) (val : Nat)
  /-- Bytes written to host memory (R95). -/
  | hostWrite (fn addr : Nat) (bytes : List Byte)
  /-- A read of host memory requested (R95). -/
  | hostRead (fn addr len : Nat)
  /-- An ATS translation request for a host page (R94). -/
  | atsRequest (fn page : Nat)
  /-- A PRI page request for a host page (R95). -/
  | pageRequest (fn page : Nat)
  /-- The completion of an ATS Invalidate Request (R96). -/
  | atsInvalidateDone (fn page : Nat)
  /-- A DAT message to a requester (R70). -/
  | dat (port : Nat) (m : Dat)
  /-- An RCL message (R105). -/
  | rcl (port : Nat) (op : RclOp) (dst tag district line : Nat)
  /-- A Settle (reason 0) or a Revoke on Bypass (R122). -/
  | settle (port dst tag reason : Nat)
  /-- A Signal on Bypass (R180). -/
  | signal (port : Nat) (m : Signal)
  /-- A snoop-invalidate on the ring (R119). -/
  | snoop (line : Nat)
  /-- A message passed to an egress port (R366). -/
  | forward (port : Nat) (m : Msg)
  /-- A new flit of a port: its sequence number and the messages in it (R343). -/
  | flit (port seq ack : Nat) (msgs : List Msg)
  /-- A link control block of a port: a Replay request, a Credit or a Rekey, named by its type (R347, R350, R360). -/
  | linkMsg (port kind arg : Nat)
  /-- A time message on a port (R42). -/
  | timeMsg (port seq txFt echoTx echoRx hops state domain : Nat)
  /-- An output pin driven to a level, named by its group and index (R552). -/
  | pin (group index : Nat) (level : Bool)
  /-- An NVMe command submitted to a slot: its identifier, operation, first block and block count (R318, R322). -/
  | nvme (slot cid op lba count : Nat)
  /-- A DRAM command on a channel: its kind and bank address (R264, R267, R268). -/
  | dram (ch kind rank sc bank : Nat)
  /-- An AVSBus write of a rail's setpoint in mV (R468). -/
  | avs (rail mv : Nat)
  /-- A PCIe configuration or management answer: its kind and value (R451, R557). -/
  | answer (kind value : Nat)
  /-- An activity frame to the metering island (R498). -/
  | frame (f : Frame)
  /-- A 2 ms pulse on `MTR_PULSE` (R492). -/
  | meterPulse
  deriving DecidableEq, Repr

/-! ### Registers -/

/-- An open guard (R7). -/
structure Guard where
  off : Nat
  val : Word
  opened : Nat
  deriving DecidableEq, Repr

/-- A held lower word of a 64-bit quantity (R424). -/
structure HeldLow where
  off : Nat
  val : Word
  deriving DecidableEq, Repr

/-- A covered AV write that has been accepted and is not yet in effect (R434). -/
structure AvPend where
  av : Nat
  off : Nat
  val : Word
  deriving DecidableEq, Repr

/-- The set-up registers: `act` and `shadow` hold, by BAR0 offset, the values that differ from reset and those that are pending;
`cnt` holds the event counters by the offset of their lower word (R5 to R9, R129, R432 to R434). -/
structure Regs where
  act : Table Word
  shadow : Table Word
  cnt : Table Nat
  guards : Table Guard
  held : Table HeldLow
  /-- The share configuration copies in the depot, by share × 2^18 + block offset (R434). -/
  shareCfg : Table Word
  avPend : List AvPend
  hashValid : Bool
  dmapValid : Bool
  crc : Word
  crcMatch : Bool
  mismatches : Nat
  quietUntil : Nat
  deriving DecidableEq, Repr

/-! ### Host interface -/

/-- A ring's state (R436). -/
inductive RingState where
  | disabled | running | stopped | draining
  deriving DecidableEq, Repr

/-- What an accelerator ring holds beyond a host ring (R390, R391). -/
structure AccInfo where
  district : Nat
  cmdRef : Opref
  cplRef : Opref
  shadowRef : Option Opref
  crEn : Bool
  crossing : Nat
  flagBit : Nat
  deriving DecidableEq, Repr

/-- A command ring and its completion ring (R386, R387, R436). -/
structure Ring where
  st : RingState
  cause : Nat
  n : Nat
  m : Nat
  vector : Nat
  sweep : Bool
  cmdBase : Nat
  cplBase : Nat
  shadowAddr : Nat
  head : Nat
  tail : Nat
  cplTail : Nat
  cplHead : Nat
  armed : Bool
  /-- Commands fetched and not started. -/
  waiting : List Cmd
  /-- Commands started and not completed. -/
  running : List Cmd
  lastCmd : Nat
  /-- Its registers take their reset values when it has drained (R426). -/
  flr : Bool
  acc : Option AccInfo
  deriving DecidableEq, Repr

/-- A level condition reported on a notice ring and not yet completed by the driver (R412). -/
structure Outstanding where
  seq : Nat
  source : Nat
  cause : Nat
  claimed : Bool
  deriving DecidableEq, Repr

/-- A notice ring (R410, R439). -/
structure NoticeRing where
  en : Bool
  base : Nat
  vector : Nat
  k : Nat
  head : Nat
  tail : Nat
  seq : Nat
  armed : Bool
  dropped : Nat
  pending : List Notice
  outstanding : List Outstanding
  deriving DecidableEq, Repr

/-- A retained completion (R402). -/
structure Retained where
  opcode : Nat
  district : Nat
  kept : Record
  expires : Nat
  deriving DecidableEq, Repr

/-- What a DMA does when its last page has moved. -/
inductive DmaUse where
  /-- Bytes of a result written at BUF; the command then completes with this record. -/
  | result (r : Record)
  /-- Bytes read from BUF for a command, which then goes on with them. -/
  | command
  /-- A host copy of R245: the operands are in the descriptor. -/
  | hostCopy
  deriving DecidableEq, Repr

/-- A DMA into or out of host memory, moved one host page at a time (R95). -/
structure Dma where
  fn : Nat
  cmd : Cmd
  toHost : Bool
  addr : Nat
  len : Nat
  done : Nat
  data : List Byte
  translated : Bool
  /-- A Page Request is outstanding, and when it was sent (R95). -/
  waitingPri : Bool
  priAt : Nat
  use : DmaUse
  deriving DecidableEq, Repr

/-- A VF interface's TDISP state (R418). -/
inductive Tdi where
  | unlocked | locked | run | error
  deriving DecidableEq, Repr

/-- The host interface: token, rings, notice rings, retention store, DMA. Host functions are numbered as `OWNER` is: port × 256 + function. -/
structure HostIf where
  token : Option Nat
  rings : Table Ring
  ntc : Table NoticeRing
  /-- Notices held until the first notice ring of a PF is enabled (R539). -/
  heldNotices : List Notice
  heldDropped : Nat
  /-- PFs to which the held notices have been delivered. -/
  heldTold : NatSet
  /-- Has any PF enabled a notice ring since power-up? -/
  anyRing : Bool
  /-- The level conditions that hold now (R412). -/
  conds : List Notice
  retained : Table Retained
  /-- Retention records lost with a depot line, with the clock until which their commands are not executed (R292). -/
  lostRetain : Table Nat
  /-- Functions that have been told of a version refusal (R405). -/
  versionTold : NatSet
  priOff : NatSet
  tdi : Table Tdi
  dmas : Table Dma
  nextDma : Nat
  /-- Host ports whose link is down (R504). -/
  hostDown : NatSet
  /-- ATS Invalidate Requests, as (function, page), that wait for a DMA (R96). -/
  invals : List (Nat × Nat)
  deriving DecidableEq, Repr

/-! ### Districts, windows and pages -/

/-- A District's state (R416). -/
inductive DistState where
  | creating | inService | erasing | renumbering | converting
  deriving DecidableEq, Repr

/-- A District (R390, R416, R445 to R449). -/
structure District where
  st : DistState
  level : Nat
  strength : Nat
  tiered : Bool
  conf : Bool
  fgroup : Nat
  engines : Nat
  shares : Nat
  priority : Nat
  trkLimit : Nat
  copyQuota : Nat
  staging : Nat
  residentMax : Nat
  flashQuota : Nat
  fcopyQuota : Nat
  owner : Nat
  epoch : Nat
  nextVersion : Nat
  dramInstalled : Bool
  flashInstalled : Bool
  /-- The command that erases or renumbers it, where one runs, and the one that converts it (R295). -/
  busyCmd : Option Cmd
  convCmd : Option Cmd
  /-- The next page of a strength conversion and the pages converted (R295). -/
  convNext : Nat
  convDone : Nat
  convTo : Nat
  energyMetered : Nat
  energyEst : Nat
  energyFrom : Nat
  /-- Has the 90 % notice of R162 been sent in this episode, and the first-wait notice? -/
  spaceTold : Bool
  waitTold : Bool
  deriving DecidableEq, Repr

/-- A window entry (R79). -/
structure Window where
  kind : Nat
  r : Bool
  w : Bool
  a : Bool
  e : Bool
  s : Bool
  district : Nat
  msBind : Bool
  msSlot : Nat
  group : Nat
  gmask : Nat
  base : Nat
  lastPage : Nat
  deriving DecidableEq, Repr

/-- A page: its leaf entry (R84) and what the depot records of it (R283, R313). `addr` is the frame, or the flash locator of a
page that is not resident. -/
structure Leaf where
  size : Nat
  tiered : Bool
  resident : Bool
  cow : Bool
  addr : Nat
  strength : Nat
  dirty : Bool
  /-- The locator of the page's flash copy, where it has one (R313). -/
  flash : Option Nat
  referenced : Bool
  pinned : Bool
  deriving DecidableEq, Repr

/-- A translation change that waits for requests under the old translation (R87) and, where it needs one, for a directory
search (R114). -/
structure Drain where
  cmd : Cmd
  district : Nat
  /-- First and last District page affected. -/
  first : Nat
  last : Nat
  /-- The window that changes, with its entry as it stood before (R567). -/
  window : Option (Nat × Window)
  needSearch : Bool
  translated : Bool
  /-- Directory entries allocated before this stamp are searched for (R114). -/
  stamp : Nat
  /-- The record with which the command completes. -/
  kept : Record
  /-- The pages are unmapped when it completes (R566). -/
  unmap : Bool
  /-- Frames whose content moves when it completes, as (old, new) (R304). -/
  moves : List (Nat × Nat)
  /-- The window loses its model when it completes (R457, R464). -/
  unbind : Bool
  deriving DecidableEq, Repr

/-- Districts, windows, page tables and the frames of DRAM in use. -/
structure Maps where
  districts : Table District
  /-- The epoch of each District number (R449). -/
  epochs : Table Nat
  windows : Table Window
  /-- Leaf entries, by District × 2^36 + District page. -/
  pages : Table Leaf
  drains : List Drain
  nextFrame : Nat
  freed : List (Nat × Nat)
  /-- Frames of DRAM that may hold pages, after the depot, the spare reserve and parity. -/
  frames : Nat
  used : Nat
  /-- Leaf entries that lay in a lost depot line (R292). -/
  lostLeaves : NatSet
  deriving DecidableEq, Repr

/-! ### Memory -/

/-- A line in a home line cache (R118, R281). (DEDUCED, log entry 37.) -/
structure CacheLine where
  data : LineData
  dirty : Bool
  poison : Bool
  /-- The engine-presence mark (R118). -/
  mark : Bool
  deriving DecidableEq, Repr

/-- A mirror entry of a dirty line (R293). -/
structure Mirror where
  data : LineData
  confirmed : Bool
  writing : Bool
  /-- The order in which entries were made (R32). -/
  age : Nat
  deriving DecidableEq, Repr

/-- The pool's memory: DRAM bytes by physical address, line marks, line caches and mirrors by line number PA / 64. -/
structure Memory where
  cells : List Host.Cell
  /-- Lines that carry the poison mark in DRAM (R280). -/
  poison : NatSet
  cache : Table CacheLine
  mirror : Table Mirror
  /-- Written lines that wait for a free mirror entry (R32). -/
  mirrorWait : List Nat
  mirrorAge : Nat
  /-- Intervals of frames mapped and not yet written whole (R289). -/
  unbound : List (Nat × Nat)
  /-- Bytes written by partial writes to lines of such frames. -/
  wrote : Table (BitVec 64)
  /-- Frames whose parity is lost (R285). -/
  parityLost : NatSet
  deriving DecidableEq, Repr

/-! ### Requests and coherence -/

/-- What a request does at its home (R133). -/
inductive ReqOp where
  | readShared | readOwn | readOnce | writeLine | writeBack
  /-- A far atomic; `any` is true of an Atomic-Any. -/
  | atomicFar (any : Bool) (atop : Nat)
  /-- An Atomic-Any that is not decided yet; `far` is true where R116 forces far execution. -/
  | atomicAny (atop : Nat) (far : Bool)
  | atomicNear
  | crossing (code : Nat)
  | engineRead
  | commit
  deriving DecidableEq, Repr

/-- A request that has passed the checks of R80, with its translation. `port` is the arrival port, or 12 for an engine or a pool
copy. `elem` is the element's index when the request is part of a ReadGather. -/
structure Pend where
  port : Nat
  op : ReqOp
  src : Nat
  tag : Nat
  window : Nat
  district : Nat
  flow : Nat
  early : Bool
  noAlloc : Bool
  da : Nat
  pa : Nat
  len : Nat
  steer : Nat
  share : Nat
  mask : BitVec 64
  data : LineData
  size : Nat
  operand : Word64
  compare : Word64
  elem : Option Nat
  /-- The Milestone slot to which the window is bound. -/
  bound : Option Nat
  deriving DecidableEq, Repr

/-- A stable directory state (R108, R110). -/
inductive DirState where
  | shared | owned
  deriving DecidableEq, Repr

/-- The kinds of BUSY (R131). -/
inductive BusyKind where
  | br | bx | bw | bv | bp
  deriving DecidableEq, Repr

/-- A recall in progress (R131 to R134). -/
structure Busy where
  kind : BusyKind
  tag : Nat
  awaited : List Nat
  /-- The node recalled as owner. -/
  owner : Option Nat
  ownerWb : Bool
  wbw : List Nat
  wbSeen : List Nat
  req : Option Pend
  deriving DecidableEq, Repr

/-- A directory entry (R110); `busy` is the transient of R131. -/
structure DirEntry where
  st : DirState
  coarse : Bool
  atom : Bool
  p0 : Nat
  p1 : Nat
  vec : Nat
  district : Nat
  da : Nat
  stamp : Nat
  busy : Option Busy
  deriving DecidableEq, Repr

/-- A read answered by EarlyData and not yet decided (R123). `forced` is true when FORCE_REVOKE selects it (R129). -/
structure Early where
  p : Pend
  forced : Bool
  moved : Bool
  order : Bool
  deriving DecidableEq, Repr

/-- An applied change whose acknowledgement waits for its mirror copy and its snoop lap (R30, R119). -/
structure Ack where
  line : Nat
  needMirror : Bool
  needSnoop : Bool
  /-- The line and its parity must be in DRAM first (R31). -/
  needDram : Bool
  p : Pend
  answer : Dat
  /-- Signals that go with the answer (R181). -/
  after : List Signal
  deriving DecidableEq, Repr

/-- A tracker in use (R82). -/
structure Tracker where
  share : Nat
  port : Nat
  src : Nat
  tag : Nat
  elem : Option Nat
  district : Nat
  window : Nat
  page : Nat
  fill : Bool
  deriving DecidableEq, Repr

/-- An ingress-ledger entry (R83). -/
structure Ledger where
  port : Nat
  src : Nat
  tag : Nat
  elem : Option Nat
  share : Nat
  far : Bool
  dat : DatOp
  flow : Nat
  /-- When the request was accepted (R356). -/
  since : Nat
  deriving DecidableEq, Repr

/-- A ReadGather in progress (R89). (DEDUCED, log entry 40.) -/
structure Gather where
  port : Nat
  src : Nat
  tag : Nat
  left : Nat
  faults : Nat
  retries : Nat
  /-- The status of the lowest faulted element. -/
  first : Option (Nat × Nat)
  deriving DecidableEq, Repr

/-- A predictor entry (R117). -/
structure Predictor where
  count : Nat
  lastSrc : Nat
  deriving DecidableEq, Repr

/-- A recall of RecallAll still awaited (R127). -/
structure AllWait where
  share : Nat
  district : Nat
  node : Nat
  tag : Nat
  deriving DecidableEq, Repr

/-- Requests in flight and the directory. (DEDUCED, log entry 37.) -/
structure Coh where
  dir : Table DirEntry
  waits : Table (List Pend)
  /-- Requests that wait for a DRAM read of their line. -/
  fetch : List Pend
  /-- Requests that wait for the eviction of a victim line (R112). -/
  evictWait : List (Nat × Pend)
  /-- Requests that wait for a translation change on their page (R87). -/
  moveWait : List Pend
  /-- WriteBacks that wait for a tracker (R82). -/
  wbWait : List Pend
  nextTag : Table Nat
  stamp : Nat
  fenced : Table Nat
  pred : Table Predictor
  early : List Early
  earlySent : Table Nat
  acks : List Ack
  trackers : List Tracker
  ledger : List Ledger
  gathers : List Gather
  allWaits : List AllWait
  deriving DecidableEq, Repr

/-! ### Fabric Time, plans and events -/

/-- The time states of R45. -/
inductive TimeMode where
  | free | acquiring | locked | holdover | suspended
  deriving DecidableEq, Repr

/-- What a port knows of its neighbour's time (R42, R43). `heard` is true once an exchange has completed; its offset `theta` and its
filtered path delay are in units of 1/32 ns. -/
structure PortTime where
  txSeq : Nat
  heard : Bool
  echoTx : Nat
  echoRx : Nat
  hops : Nat
  state : Nat
  domain : Nat
  theta : Int
  delay : Option Int
  deriving DecidableEq, Repr

/-- A second count held for the next edge (R41). -/
structure HeldCount where
  count : Nat
  arrived : Nat
  cmd : Option Cmd
  deriving DecidableEq, Repr

/-- A plan image (R52 to R55): raw flow entries by flow, roadworks entries by channel, slot entries by port × 8192 + slot. -/
structure Plan where
  level : Nat
  domain : Nat
  slotLog2 : Nat
  lend : Bool
  portMask : Nat
  planId : Nat
  flows : Table Nat
  road : Table Nat
  slots : Table Nat
  deriving DecidableEq, Repr

/-- What a scheduled event does (R63), in the order in which events of one instant are applied. -/
inductive EventKind where
  | planSwap
  | power (profile : Nat)
  | cut (district slot : Nat)
  | handover
  | roleSwap (pair : Nat) (forced : Bool)
  deriving DecidableEq, Repr

/-- A pending event (R60 to R65). -/
structure Event where
  instant : Nat
  kind : EventKind
  cmd : Option Cmd
  deriving DecidableEq, Repr

/-- Fabric Time, the plan banks and the event queue. Offsets are in units of 1/32 ns (R43). -/
structure Time where
  ft : Nat
  mode : TimeMode
  src : Nat
  /-- The one-time setting before the first lock has been made, or is no longer allowed (R39, R45). -/
  onceSet : Bool
  extSelectable : Bool
  /-- The instant at which the next edge is expected, and its second count (R40). -/
  extExpect : Option Nat
  extNext : Nat
  /-- The offset of the external reference at its last accepted edge. -/
  extOffset : Int
  /-- Rejected or missing edges in a row. -/
  extBad : Nat
  drvCount : Option HeldCount
  bmcCount : Option HeldCount
  /-- The 10 MHz reference has disappeared. -/
  lost10m : Bool
  /-- The filtered offset of the source. -/
  offset : Int
  /-- Since when the offset has been within 4 ns, and beyond 16 ns while LOCKED (R45). -/
  inside : Option Nat
  outside : Option Nat
  lostAt : Nat
  /-- `HOPS` and `BOUND` as they stood when the source was lost (R44, R47). -/
  lockedHops : Nat
  lockedBound : Nat
  /-- When the node last entered LOCKED. -/
  lockedAt : Nat
  /-- When time messages were last sent. -/
  msgAt : Nat
  ports : Table PortTime
  active : Option Plan
  standby : Option Plan
  /-- Slot assignments have not been stopped by SUSPENDED (R47). -/
  running : Bool
  events : List Event
  /-- Role swaps postponed under R64. -/
  postponed : NatSet
  deriving DecidableEq, Repr

/-! ### Power-up, Avenues, central cores -/

/-- The states of GEN_BOOT_STAT (R536). -/
inductive BootState where
  | wait | loading | verifying | starting | running | failed
  deriving DecidableEq, Repr

/-- Reset, the ROM and bring-up (R532 to R544). -/
structure Boot where
  /-- CHIP_RESET_N is low. -/
  resetLow : Bool
  /-- SYS_CLK has stopped (R562). -/
  clockLost : Bool
  /-- PERST# of each host port is low. -/
  perst : NatSet
  st : BootState
  code : Nat
  port : Nat
  sc : Nat
  fwReady : Bool
  memReady : Bool
  /-- Every channel of a serving Avenue has ended training. -/
  trained : Bool
  initStarted : Bool
  initDone : Bool
  flashStarted : Bool
  /-- CFG_SPARE and FL_PORT_CFG as taken (R307, R333). -/
  spare : Nat
  bifurcation : Nat
  /-- The firmware that runs, once pushed. -/
  fw : Option Bundle
  deriving DecidableEq, Repr

/-- The roles of an Avenue (R416, R435). -/
inductive AvRole where
  | serving | spareReady | selfTest | loading | failed | retired
  deriving DecidableEq, Repr

/-- A physical Avenue: its role, its self-test (R510, R531) and its power and heat (R468 to R474, R488). -/
structure Av where
  role : AvRole
  share : Option Nat
  lapRunning : Bool
  segment : Nat
  retried : Bool
  lastPass : Bool
  failSeg : Nat
  fails : Nat
  laps : Nat
  lapEnd : Nat
  /-- When its last lap started, since it became spare or entered SELF_TEST (R510). -/
  lapAt : Option Nat
  missed : Nat
  build : Nat
  checkpoint : Nat
  pg : Bool
  tj : Int
  vdd : Nat
  tripped : Bool
  /-- Steps of 10 MHz by which heat has lowered its engine clocks (R473). -/
  cool : Nat
  /-- A neighbour pair breaks R17, and this is the hotter Avenue of it (R473). -/
  paired : Bool
  silent : Nat
  /-- The junction temperatures of the last 24 hours, newest first (R474). -/
  temps : List Int
  deriving DecidableEq, Repr

/-- A share's state (R416). -/
inductive ShareState where
  | opened | gap | handover | unserved
  deriving DecidableEq, Repr

/-- A share: its state and the progress of a fail-over (R506). -/
structure ShareSt where
  st : ShareState
  wthru : Bool
  /-- Steps of R506 done: 1 declared, 2 connected, 3 loaded with RecallAll sent. -/
  step : Nat
  keeper : Bool
  reopenAt : Option Nat
  /-- Its checkpoint and configuration copies are lost and not yet written again (R292). -/
  copyLost : Bool
  deriving DecidableEq, Repr

/-- A switch-over in progress (R23, R517, R519): planned or after a failure, forced by a command or a roll, when it began, and its
command. -/
structure Switch where
  planned : Bool
  forced : Bool
  start : Nat
  cmd : Option Cmd
  deriving DecidableEq, Repr

/-- A central pair (R516 to R520): `active` is 0 for core A and 1 for core B. -/
structure Core where
  active : Nat
  standbyPassed : Bool
  lapFails : Nat
  standbyFailed : Bool
  lost : Bool
  buildA : Nat
  buildB : Nat
  startA : Nat
  startB : Nat
  checkpoint : Nat
  switching : Option Switch
  deriving DecidableEq, Repr

/-- A handover being prepared (`phase` 0), or made: 1 from its instant, 2 once the ledgers have answered, 3 once the channels have moved
(R511, R512). `prior` is the incoming Avenue's role before; `retire` is true where the outgoing Avenue becomes RETIRED. A roll's handover
has no command. -/
structure Handover where
  share : Nat
  outAv : Nat
  inAv : Nat
  instant : Nat
  copied : Bool
  /-- When its drain began. -/
  drain : Option Nat
  phase : Nat
  prior : AvRole
  retire : Bool
  cmd : Option Cmd
  deriving DecidableEq, Repr

/-- A firmware roll (R524 to R526): its bundle, the shares and pairs still to go, the rotations and swaps made, and the instant of the
next one. -/
structure Roll where
  cmd : Cmd
  gap : Nat
  bundle : Bundle
  left : List Nat
  swaps : List Nat
  step : Nat
  nextAt : Nat
  deriving DecidableEq, Repr

/-- An AVENUE_ADMIT before its handover (R513, R514): in its lap, or restoring the channels listed. -/
structure Admit where
  cmd : Cmd
  av : Nat
  share : Nat
  restore : Bool
  instant : Nat
  prior : AvRole
  lapDone : Bool
  chans : List Nat
  failed : Bool
  deriving DecidableEq, Repr

/-- Avenues, shares, central cores and live change. -/
structure Avail where
  avs : Table Av
  shares : Table ShareSt
  cores : Table Core
  handover : Option Handover
  roll : Option Roll
  admitting : Option Admit
  staged : Option Bundle
  deriving DecidableEq, Repr

/-! ### Security -/

/-- An SPDM session (R451). `transport` is 0 for MCTP, 1 and 2 for the DOE of H0 and H1, 3 for the relay. -/
structure Session where
  transport : Nat
  finished : Bool
  keyGen : Nat
  deriving DecidableEq, Repr

/-- A model bound to a window (R457). -/
structure Binding where
  district : Nat
  slot : Nat
  image : Nat
  length : Nat
  cksum : Opref
  modelId : Nat
  deriving DecidableEq, Repr

/-- A bounce-buffer region (R462). -/
structure Bounce where
  base : Nat
  len : Nat
  deriving DecidableEq, Repr

/-- Keys, sessions and guards of the security island (R448 to R467). Keys are named by number; no state holds their bits. -/
structure Sec where
  zeroised : Bool
  /-- The armed value and the clock at which it was armed (R464). -/
  arm : Option (Nat × Nat)
  entropyOk : Bool
  gen : Nat
  sessions : Table Session
  nextSession : Nat
  dramKeys : Table Nat
  flashKeys : Table Nat
  /-- Model keys by District × 8 + slot. -/
  models : Table Nat
  bindings : Table Binding
  /-- Regions by District × 16 + index. -/
  bounce : Table Bounce
  /-- IDE streams by port × 128 + stream, 0 the link stream: twice the name of the key, plus 1 once it is in use (R461). -/
  ide : Table Nat
  /-- The KEY_ZEROISE of scope 3 that waits for the Districts to end (R464). -/
  zeroCmd : Option Cmd
  deriving DecidableEq, Repr

/-! ### Joush Link ports and routing -/

/-- A flit in the replay buffer (R348). -/
structure Sent where
  seq : Nat
  msgs : List Msg
  replays : Nat
  sentAt : Nat
  deriving DecidableEq, Repr

/-- The route of a destination (R365). -/
structure RouteEnt where
  pri : Nat
  sec : Nat
  esc : Nat
  adapt : Bool
  deriving DecidableEq, Repr

/-- The colour of a message at its meter (R380); `off` is unmetered. -/
inductive Mark where
  | off | green | yellow | red
  deriving DecidableEq, Repr

/-- A message in an egress queue: the port on which it arrived, where it did, its route as looked up, since when it waits, and its
meter's BAR0 offset where one meters it (R366, R379). -/
structure Queued where
  m : Msg
  arrival : Option Nat
  ent : RouteEnt
  since : Nat
  meter : Option Nat
  mark : Mark
  /-- The class that a former plan gave its flow, which the plan in force does not hold (R67). -/
  oldClass : Option Nat
  deriving DecidableEq, Repr

/-- A Joush Link port (R337 to R363) with its egress queue (R375 to R380). -/
structure LinkPort where
  st : Nat
  width : Nat
  lanesOk : Nat
  rev : Nat
  encOn : Bool
  partner : Nat
  partnerPort : Nat
  partnerRev : Nat
  /-- Credits held for each VC of the partner's receiver. -/
  credits : Table Nat
  /-- Credits to return to the partner for each VC. -/
  owed : Table Nat
  txSeq : Nat
  rxSeq : Nat
  lastAck : Nat
  buf : List Sent
  /-- A Replay request for the expected SEQ is outstanding. -/
  asked : Bool
  /-- When the last run of R351 happened. -/
  lastRun : Option Nat
  bad : Nat
  txKey : Bool
  rxKey : Bool
  txNext : Bool
  rxNext : Bool
  txCtr : Nat
  rxCtr : Nat
  txAt : Option Nat
  rxAt : Option Nat
  rekeyDue : Bool
  hardStop : Bool
  /-- Link-local messages to send: kind as `BTYPE` of R344, and its argument. -/
  ctl : List (Nat × Nat)
  /-- Time exchanges still to complete before the port serves as the time source (R353). -/
  exchanges : Nat
  /-- When the port entered RETRAIN, or DOWN. -/
  since : Nat
  /-- The retrain under way was requested by the driver (R336). -/
  byDriver : Bool
  /-- The newest flit sent, for the repeats of R350. -/
  newest : Option Sent
  /-- Failed trainings since it was last ACTIVE. -/
  failed : Nat
  /-- Messages received and not yet taken from the receiver's buffer. -/
  rx : List Msg
  queue : List Queued
  deficit : Table Nat
  lastClass : Nat
  /-- Flit starts of the slot in which the port last sent: its instant, and those used by its flow and in all. -/
  slotAt : Nat
  slotFlow : Nat
  slotUsed : Nat
  lastBuild : Nat
  deriving DecidableEq, Repr

/-- A meter's buckets in units of 1/256 byte, and when they were last brought up to date (R380). -/
structure Bucket where
  tc : Nat
  tp : Nat
  upd : Nat
  deriving DecidableEq, Repr

/-- The ports and the router. -/
structure Net where
  ports : Table LinkPort
  buckets : Table Bucket
  roadBroken : Bool
  /-- Escape messages that wait for a port of a broken Ring Road (R373). -/
  held : List Queued
  lastNoRoute : Option Nat
  lastUnexpected : Option Nat
  /-- High-water marks by port × 16 + VC (R383). -/
  hwm : Table Nat
  deriving DecidableEq, Repr

/-! ### Milestones -/

/-- A Milestone slot that is not EMPTY (R150 to R155); `st` is the code of R150. -/
structure MsSlot where
  st : Nat
  version : Nat
  holds : Nat
  cutFt : Nat
  ranges : List (Nat × Nat)
  swept : Bool
  cmd : Option Cmd
  deriving DecidableEq, Repr

/-- A level-1 entry of a Milestone map (R166); `addr` is a frame or a flash locator. -/
structure MapEnt where
  absent : Bool
  flash : Bool
  copying : Bool
  addr : Nat
  deriving DecidableEq, Repr

/-- A copy page, in DRAM by frame or on flash by locator (R160, R162). -/
structure CopyPage where
  refs : Nat
  district : Nat
  stamp : Nat
  strength : Nat
  deriving DecidableEq, Repr

/-- A page copy in progress (R161). `olds` holds lines of the live page as they were before a RecallData was accepted (R163). -/
structure Copying where
  district : Nat
  page : Nat
  leader : Nat
  frame : Nat
  slots : List Nat
  landed : Bool
  abandoned : Bool
  olds : Table LineData
  waiting : List Pend
  deriving DecidableEq, Repr

/-- Milestones: slots by District × 16 + slot, map entries by (District × 16 + slot) × 2^36 + page. -/
structure Ms where
  slots : Table MsSlot
  maps : Table MapEnt
  copies : Table CopyPage
  fcopies : Table CopyPage
  copying : List Copying
  spaceWait : List Pend
  /-- Copy pages that wait to return to free space (R151), by District × 16 + slot. -/
  returning : Table (List Nat)
  /-- Map entries that lay in a lost depot line (R292). -/
  lostMaps : NatSet
  deriving DecidableEq, Repr

/-! ### Crossings -/

/-- A Crossing: its backing line and its recovery snapshot (R173, R185). Journal entries are source, tag and result[31:0]. -/
structure Crossing where
  district : Nat
  type : Nat
  members : Nat
  value : Nat
  value2 : Nat
  seq : Nat
  sat : Bool
  journal : List (Nat × Nat × Nat)
  rseq : Nat
  recovery : List (Nat × Nat × Nat)
  rft : Nat
  /-- The backing line is lost (R292). -/
  lost : Bool
  deriving DecidableEq, Repr

/-- A registration (R179). -/
structure Registration where
  node : Nat
  cookie : Nat
  crossing : Nat
  op : Nat
  arg : Nat
  since : Nat
  deriving DecidableEq, Repr

/-- Crossings by number, blocks by first number as count k and District, registrations in order, and operations that wait (R177). -/
structure Cross where
  items : Table Crossing
  blocks : Table (Nat × Nat)
  regs : List Registration
  queue : List Pend
  deriving DecidableEq, Repr

/-! ### Data protection -/

/-- A partial write in progress (R287). (DEDUCED, log entry 38.) -/
structure Update where
  line : Nat
  value : LineData
  poison : Bool
  oldRead : Bool
  issued : Bool
  owes : List Nat
  queued : List Nat
  deriving DecidableEq, Repr

/-- A reconstruction of a page (R285): the lines known to be bad, and whether the page is quiesced. -/
structure Recon where
  bad : List Nat
  quiet : Bool
  deriving DecidableEq, Repr

/-- An error record (R301). -/
structure ErrRec where
  seq : Nat
  ft : Nat
  type : Nat
  test : Bool
  parity : Bool
  detour : Bool
  ch : Nat
  sc : Nat
  rank : Nat
  bg : Nat
  ba : Nat
  row : Nat
  col : Nat
  device : Nat
  line : Nat
  district : Nat
  count : Nat
  detail : Nat
  strength : Nat
  share : Nat
  deriving DecidableEq, Repr

/-- What a channel's protection holds (R299 to R309): its state, its evacuation by slices moved, the banks detoured, its flip mask progress
and the uncorrectable lines of the present millisecond. (DEDUCED, log entry 38.) -/
structure ChanProt where
  st : Nat
  byDriver : Bool
  moved : Nat
  evacCmd : Option Cmd
  detours : List (Nat × Nat × Nat × Nat)
  ueCount : Nat
  ueFrom : Nat
  fired : Nat
  flipLa : Nat
  flipped : List Nat
  deriving DecidableEq, Repr

/-- The scrubber of a share (R296, R297). -/
structure Scrub where
  laps : Nat
  lapStart : Nat
  last : Nat
  seconds : Nat
  warned : Bool
  deriving DecidableEq, Repr

/-- Data protection. -/
structure Prot where
  updates : List Update
  recons : Table Recon
  /-- Parity lines known to be erased, by frame. -/
  erased : Table (List Nat)
  log : List ErrRec
  nextSeq : Nat
  chans : Table ChanProt
  scrubs : Table Scrub
  /-- Retired frames, which are never allocated again (R304). -/
  retired : NatSet
  deriving DecidableEq, Repr

/-! ### DRAM -/

/-- An access that an arbiter or a controller queue holds (R260, R270). -/
structure Access where
  line : Nat
  write : Bool
  input : Nat
  since : Nat
  deriving DecidableEq, Repr

/-- A channel's controller (R258 to R269). -/
structure ChanSt where
  inService : Bool
  mode : Nat
  ordCause : Nat
  hot : Bool
  temp : Int
  pause : Bool
  pauses : Nat
  drain : Bool
  /-- REFsb commands owed, by (rank × 2 + sub-channel) × 4 + bank index (R265). -/
  owed : Table Nat
  /-- Rolling activate counts of the banks (R267). -/
  raa : Table Nat
  /-- Write-strobe corrections by target, in 1/256 UI (R269). -/
  corr : Table Int
  driftTarget : Nat
  reads : List Access
  writes : List Access
  deriving DecidableEq, Repr

/-- A channel-pair arbiter (R271). -/
structure Arb where
  ready : List Access
  credits : List Nat
  owner : Nat
  used : Nat
  limit : Nat
  estimates : List Nat
  deriving DecidableEq, Repr

/-- The DRAM tier: the reference geometry, channels and arbiters. -/
structure Dram where
  geom : TrainResult
  chans : Table ChanSt
  arbs : Table Arb
  deriving DecidableEq, Repr

/-! ### Flash -/

/-- A member of a flash group (R314, R327). -/
structure Member where
  slot : Nat
  ok : Bool
  deriving DecidableEq, Repr

/-- A flash group (R314 to R316, R327); `st` is 0 NORMAL, 1 DEGRADED, 2 LOST, 3 REBUILDING. -/
structure Group where
  mode : Nat
  members : List Member
  st : Nat
  pages : Nat
  metaPages : Nat
  reserved : Nat
  nextPage : Nat
  freed : List Nat
  /-- A rebuild in progress: member, next page, and its command (R327). -/
  rebuild : Option (Nat × Nat × Cmd)
  deriving DecidableEq, Repr

/-- An SSD slot (R328 to R331). -/
structure SsdSlot where
  st : Nat
  present : Bool
  retries : Nat
  /-- When it entered its state. -/
  since : Nat
  /-- When it may take the inrush turn again. -/
  notBefore : Nat
  /-- It waits ahead of all others after a pause (R331). -/
  first : Bool
  perst : Bool
  linked : Bool
  width : Nat
  rate : Nat
  lbas : Nat
  /-- SLOT_PG and SLOT_FLT_N as sampled. -/
  pg : Bool
  flt : Bool
  /-- It has a format that the pool can use (R325). -/
  usable : Bool
  /-- It waits out the second after a fault (R330). -/
  retry : Bool
  /-- When its controller was reset (R326). -/
  resetAt : Option Nat
  deriving DecidableEq, Repr

/-- An NVMe command in flight (R322, R325, R326): its operation (0 read, 1 write), its block, and the District page that it moves. -/
structure NvmeCmd where
  slot : Nat
  cid : Nat
  op : Nat
  lba : Nat
  district : Nat
  page : Nat
  issued : Nat
  aborting : Option Nat
  deriving DecidableEq, Repr

/-- A fill in progress (R318): its frame once it has one, the reads it still awaits, and the requests and commands that wait. -/
structure FillRec where
  district : Nat
  page : Nat
  locator : Nat
  frame : Option Nat
  reads : List (Nat × Nat)
  got : Bool
  /-- Every copy of the page is lost (R320). -/
  lost : Bool
  /-- Members whose block of the page could not be read (R326). -/
  bad : List Nat
  waiting : List Pend
  deriving DecidableEq, Repr

/-- A demotion in progress (R322). -/
structure Demotion where
  district : Nat
  page : Nat
  /-- The locator that it writes, once its recalls have ended. -/
  locator : Option Nat
  /-- Directory entries allocated before this stamp are recalled first (R114, R322). -/
  stamp : Nat
  writes : List (Nat × Nat)
  mask : BitVec 64
  deriving DecidableEq, Repr

/-- A tier command that waits for its pages (R324). -/
structure TierJob where
  cmd : Cmd
  pages : List Nat
  done : Nat
  deriving DecidableEq, Repr

/-- The flash tier. Content is held by locator × 4096 + byte. (DESIGN CHOICE, log entry 58.) -/
structure Flash where
  groups : Table Group
  slots : Table SsdSlot
  cells : List Host.Cell
  /-- Poison masks of pages in metadata state 0b11 (R316). -/
  poison : Table (BitVec 64)
  /-- Pages that have been written: metadata state 0b10 or 0b11. -/
  written : NatSet
  cmds : List NvmeCmd
  nextCid : Nat
  fills : List FillRec
  demos : List Demotion
  jobs : List TierJob
  /-- The next page that the victim clock of a District looks at (R321). -/
  clock : Table Nat
  inrushEnd : Nat
  droop : Bool
  /-- When the droop began, or when it cleared. -/
  droopAt : Nat
  droopTold : Bool
  /-- Districts that demote until they fall to `LOW` percent (R321). -/
  shrinking : NatSet
  deriving DecidableEq, Repr
/-! ### Stream Engines -/

/-- An engine's state (R195). -/
inductive EngState where
  | off | waking | idle | running | scrub | test | retired
  deriving DecidableEq, Repr

/-- A Stream Engine (R194, R195, R207): its qualified maximum and present clock in units of 10 MHz, the District and job that it works
for, and its row group. -/
structure Eng where
  st : EngState
  fmax : Nat
  fcur : Nat
  district : Nat
  job : Option Nat
  group : Option Nat
  /-- The ring for which a phase hint woke it (R479). -/
  hint : Option Nat
  /-- It is gated when its row group ends (R473, R475). -/
  drain : Bool
  deriving DecidableEq, Repr

/-- Where a job stands (R201). -/
inductive JobPhase where
  | queued | waking | loading | streaming | committing | scrubbing
  deriving DecidableEq, Repr

/-- A job's work on the lines of one share (R196, R197): the share whose cluster does it, its units, those started and finished, those
interrupted, and whether its lines have been read and its partials have arrived. -/
structure ShareWork where
  cluster : Nat
  total : Nat
  next : Nat
  back : List Nat
  done : Nat
  read : Bool
  arrived : Bool
  deriving DecidableEq, Repr

/-- A job (R201 to R204). `input` holds the lines read so far, by window × 2^42 + line; `none` is an uncorrectable line. -/
structure Job where
  cmd : Cmd
  phase : JobPhase
  arrived : Nat
  attempts : Nat
  commitStarted : Bool
  args : List Byte
  windows : List Nat
  granules : Nat
  staging : Nat
  used : Table Nat
  work : Table ShareWork
  input : Table (Option LineData)
  /-- Faults met: status, and the OPREF of the byte (R238, R396). -/
  faults : List (Nat × Nat)
  /-- Faults of elements of a gather or scatter: element, kind (R243). -/
  elemFaults : Table Nat
  /-- `SE_NUM_CFG`, `SE_NUM_BOUND` and `SE_NUM_SEED` as latched at the first dispatch (R223, R230). -/
  num : Option (Nat × Nat × Nat)
  /-- The record with which it completes, once its commit is decided. -/
  kept : Option Record
  /-- The report summary to write after the commit (R228). -/
  after : List (Nat × Nat × List Byte)
  /-- Energy in pJ (R483), whether it is estimated (R484), and when it was dispatched. -/
  energy : Nat
  est : Bool
  started : Option Nat
  deriving DecidableEq, Repr

/-- Stream Engines by Avenue × 8 + engine, the engines dedicated to level-2 Districts by share × 8 + engine (R200), and jobs by number in
the order of their arrival. -/
structure EngUnit where
  engs : Table Eng
  held : Table Nat
  jobs : Table Job
  nextJob : Nat
  deriving DecidableEq, Repr

/-! ### Power -/

/-- Power settings: a cap in W, engines per Avenue, an activate cap and a target clock (R482). -/
structure Profile where
  cap : Nat
  engMax : Nat
  actCap : Nat
  fTarget : Nat
  deriving DecidableEq, Repr

/-- Power and heat (R468 to R484). Shares of power are in mW; the gain is unsigned 16.16. -/
structure Pwr where
  present : Profile
  number : Nat
  /-- Profiles that have been rewritten. -/
  profiles : Table Profile
  /-- Changes that take effect at the next step: the profile that becomes present, if any, and the settings. -/
  changes : List (Option Nat × Profile)
  links : Nat
  mem : Nat
  comp : Nat
  gain : Nat
  calibrated : Bool
  validRun : Nat
  invalidRun : Nat
  /-- When the last invalid interval ended, for R484. -/
  invalidAt : Option Nat
  calFt : Nat
  ratio : Nat
  /-- The raw estimate summed since the last calibration, in mW × 10 µs. -/
  rawSum : Nat
  tapEnergy : Nat
  tapCount : Nat
  /-- Dispatch is stopped (R475). -/
  stopped : Bool
  /-- Steps of 10 MHz by which shedding has lowered the engine clocks (R475). -/
  shed : Nat
  actCap : Nat
  capUnmet : Bool
  underSince : Nat
  fastGated : Bool
  /-- Reads in a row that a regulator has not answered, by AVSBus address (R468). -/
  missed : Table Nat
  /-- Degrees by which the present `T_SCHED` lies below the configured one, and when a mean last exceeded its limit (R474). -/
  tDown : Nat
  overAt : Nat
  /-- The number of the next activity frame, and when it is due (R498). -/
  frameNo : Nat
  frameAt : Nat
  deriving DecidableEq, Repr

/-! ### Metering island -/

/-- An event-log entry (R496). -/
structure IslEvent where
  seq : Nat
  itime : Nat
  ft : Nat
  type : Nat
  data16 : Nat
  data64 : Nat
  deriving DecidableEq, Repr

/-- A node record (R494). The hashes and the signature are values of free functions. -/
structure NodeRecord where
  formula : Nat
  seq : Nat
  itime : Nat
  ft : Nat
  period : Nat
  e0 : Nat
  e1 : Nat
  eNode : Nat
  vMean : Nat
  iMean : Int
  flags : Nat
  eventSeq : Nat
  allocHash : Nat
  chain : Nat
  signature : Nat
  deriving DecidableEq, Repr

/-- An allocation entry (R501). -/
structure Alloc where
  seq : Nat
  inService : Bool
  incomplete : Bool
  direct : Nat
  base : Nat
  cum : Nat
  epoch : Nat
  deriving DecidableEq, Repr

/-- A cumulative slot of the private store (R493): channel energies in µJ and island time. (DESIGN CHOICE, log entry 72.) -/
structure CumSlot where
  seq : Nat
  e0 : Int
  e1 : Int
  itime : Nat
  deriving DecidableEq, Repr

/-- The metering island (R489 to R503). -/
structure Isl where
  /-- 0 RUN, 1 STARTING, 2 FAULT, as the BAR4 header shows it. -/
  status : Nat
  /-- The 64 bytes of the integrator bank, once written (R492). -/
  bank : Option (List Byte)
  /-- Channel accumulators in units of 2^-32 nJ (R491). -/
  acc0 : Int
  acc1 : Int
  /-- The calibration tap: cumulative energies in µJ and the sample count (R490). -/
  tap0 : Nat
  tap1 : Nat
  count : Nat
  /-- Island time in crystal ticks of 40 ns since the first start, and the SEQ of the newest record and of the newest event. -/
  itime : Nat
  seq : Nat
  eventSeq : Nat
  /-- The event log, oldest first, and the chain over it (R493, R494). -/
  events : List IslEvent
  chain : Nat
  /-- Of the period in progress: its start, the channel energies at its start, its flags, sums of clipped voltage and current, samples. -/
  from0 : Nat
  base0 : Int
  base1 : Int
  flags : Nat
  vSum : Int
  iSum : Int
  samples : Nat
  /-- Counts of the period by District, its frames, and the installed pages of the last frame (R498, R499). -/
  counts : Table Activity
  frames : Nat
  installed : Nat
  /-- When a valid frame last arrived, in island time; is the pipe lost; the node energy from which it is lost in this period, and the
  energy of this period's earlier losses (R500). -/
  lastFrame : Nat
  lost : Bool
  lostFrom : Int
  lostSum : Int
  /-- Fabric Time last received, and the frames discarded (R494, R498). -/
  lastFt : Nat
  discarded : Nat
  /-- The newest record, the allocation table, and the hourly records newest first with the hour of the newest (R493, R494, R501). -/
  newest : Option NodeRecord
  allocs : Table Alloc
  hourly : List NodeRecord
  hour : Nat
  slot0 : CumSlot
  slot1 : CumSlot
  /-- `MTR_I3C_SEL` and the history view's generation count (R502). -/
  sel : Nat
  viewGen : Nat
  /-- `MTR_TAMPER_N` is asserted; the crystal disagrees with the RC oscillator; the board's reset pin stopped the island. -/
  tamper : Bool
  crystalBad : Bool
  resetPin : Bool
  deriving DecidableEq, Repr


/-! ### The whole state -/

/-- The block's state: its queue, the model's own counter of free values and output list, and every unit's state. -/
structure State where
  /-- Commands waiting, first in, first out. (DESIGN CHOICE, log entry 1; DEDUCED, log entry 78.) -/
  pending : List Instr
  /-- The model's own: how many free values have been drawn. -/
  free : Nat
  /-- Nanoseconds since CHIP_RESET_N was released. -/
  clock : Nat
  /-- What the pool has sent, newest last. -/
  out : List Out
  regs : Regs
  host : HostIf
  time : Time
  maps : Maps
  mem : Memory
  coh : Coh
  boot : Boot
  avail : Avail
  sec : Sec
  net : Net
  ms : Ms
  cr : Cross
  prot : Prot
  dram : Dram
  flash : Flash
  eng : EngUnit
  pwr : Pwr
  isl : Isl
  deriving DecidableEq, Repr

/-- The block right after power-up, with CHIP_RESET_N released and the ROM waiting for firmware (R533, R536, R45): every table is empty,
which stands for each unit at its own reset value. (DESIGN CHOICE, log entry 4.) -/
def State.reset : State where
  pending := []
  free := 0
  clock := 0
  out := []
  regs := { act := [], shadow := [], cnt := [], guards := [], held := [], shareCfg := [], avPend := [], hashValid := false,
            dmapValid := false, crc := 0, crcMatch := false, mismatches := 0, quietUntil := 0 }
  host := { token := none, rings := [], ntc := [], heldNotices := [], heldDropped := 0, heldTold := [], anyRing := false, conds := [],
            retained := [], lostRetain := [], versionTold := [], priOff := [], tdi := [], dmas := [], nextDma := 0, hostDown := [],
            invals := [] }
  time := { ft := 0, mode := .free, src := 15, onceSet := false, extSelectable := false, extExpect := none, extNext := 0,
            extOffset := 0, extBad := 0, drvCount := none, bmcCount := none, lost10m := false, offset := 0, inside := none,
            outside := none, lostAt := 0, lockedHops := 255, lockedBound := 0xFFFFFFFF, lockedAt := 0, msgAt := 0, ports := [],
            active := none, standby := none, running := false, events := [], postponed := [] }
  maps := { districts := [], epochs := [], windows := [], pages := [], drains := [], nextFrame := 0, freed := [], frames := 0, used := 0,
            lostLeaves := [] }
  mem := { cells := [], poison := [], cache := [], mirror := [], mirrorWait := [], mirrorAge := 0, unbound := [], wrote := [],
           parityLost := [] }
  coh := { dir := [], waits := [], fetch := [], evictWait := [], moveWait := [], wbWait := [], nextTag := [], stamp := 0, fenced := [],
           pred := [], early := [], earlySent := [], acks := [], trackers := [], ledger := [], gathers := [], allWaits := [] }
  boot := { resetLow := false, clockLost := false, perst := [], st := .wait, code := 0, port := 0, sc := 0, fwReady := false,
            memReady := false, trained := false, initStarted := false, initDone := false, flashStarted := false, spare := 5,
            bifurcation := 0xF, fw := none }
  avail := { avs := [], shares := [], cores := [], handover := none, roll := none, admitting := none, staged := none }
  sec := { zeroised := false, arm := none, entropyOk := false, gen := 0, sessions := [], nextSession := 0, dramKeys := [],
           flashKeys := [], models := [], bindings := [], bounce := [], ide := [], zeroCmd := none }
  net := { ports := [], buckets := [], roadBroken := false, held := [], lastNoRoute := none, lastUnexpected := none, hwm := [] }
  ms := { slots := [], maps := [], copies := [], fcopies := [], copying := [], spaceWait := [], returning := [], lostMaps := [] }
  cr := { items := [], blocks := [], regs := [], queue := [] }
  prot := { updates := [], recons := [], erased := [], log := [], nextSeq := 1, chans := [], scrubs := [], retired := [] }
  dram := { geom := ⟨0, false, 0, 0, 0, 0, 0⟩, chans := [], arbs := [] }
  flash := { groups := [], slots := [], cells := [], poison := [], written := [], cmds := [], nextCid := 0, fills := [], demos := [],
             jobs := [], clock := [], inrushEnd := 0, droop := false, droopAt := 0, droopTold := false, shrinking := [] }
  eng := { engs := [], held := [], jobs := [], nextJob := 0 }
  pwr := { present := ⟨320, 6, 0, 200⟩, number := 0, profiles := [], changes := [], links := 0, mem := 0, comp := 0, gain := 65536,
           calibrated := false, validRun := 0, invalidRun := 0, invalidAt := none, calFt := 0, ratio := 0, rawSum := 0, tapEnergy := 0,
           tapCount := 0, stopped := false, shed := 0, actCap := 0, capUnmet := false, underSince := 0, fastGated := false, missed := [],
           tDown := 0, overAt := 0, frameNo := 0, frameAt := 0 }
  isl := { status := 1, bank := none, acc0 := 0, acc1 := 0, tap0 := 0, tap1 := 0, count := 0, itime := 0, seq := 0, eventSeq := 0,
           events := [], chain := 0, from0 := 0, base0 := 0, base1 := 0, flags := 0, vSum := 0, iSum := 0, samples := 0,
           counts := [], frames := 0, installed := 0, lastFrame := 0, lost := false, lostFrom := 0, lostSum := 0, lastFt := 0,
           discarded := 0, newest := none, allocs := [], hourly := [], hour := 0, slot0 := ⟨0, 0, 0, 0⟩, slot1 := ⟨0, 0, 0, 0⟩,
           sel := 0, viewGen := 0, tamper := false, crystalBad := false, resetPin := false }

end Sys2Proof.Machine
end

