-- ==== Sys2Proof/Machine/Regs.lean ====
section
/-! DEFINITION. The register tables of the spec's chapters as data: where each register lies, its fields with their access class,
range and reset, and whether a field is covered (R5, R427). Status registers that only report other state are not listed here. -/

namespace Sys2Proof.Machine

/-- A writable field: its bits, whether a write of 1 clears it, its further classes, and the values it accepts (all, when the list
is empty). -/
structure Field where
  hi : Nat
  lo : Nat
  w1c : Bool
  pair : Bool
  sh : Bool
  cov : Bool
  ok : List (Nat × Nat)
  deriving DecidableEq, Repr

/-- A stated relation between the fields of one register (R423). -/
inductive Rel where
  | none
  /-- WR_LOW below WR_HIGH (R276). -/
  | queue
  /-- SCALE_EMIN, signed, not above SCALE_EMAX; neither is -128 (R231). -/
  | scale
  /-- LOW below HIGH (R333). -/
  | tier
  /-- T_SCHED below T_SHED (R487). -/
  | heat
  /-- Every class weight is 1 to 15 (R385). -/
  | weights
  deriving DecidableEq, Repr

/-- A register, or `count` registers that lie `stride` apart. -/
structure RegD where
  base : Nat
  stride : Nat
  count : Nat
  reset : Nat
  rel : Rel
  fields : List Field
  deriving DecidableEq, Repr

/-- A plain RW field. -/
def fRw (hi lo : Nat) (ok : List (Nat × Nat) := []) : Field := ⟨hi, lo, false, false, false, false, ok⟩
/-- A covered RW field. -/
def fCov (hi lo : Nat) (ok : List (Nat × Nat) := []) : Field := ⟨hi, lo, false, false, false, true, ok⟩
/-- A RW, PAIR field. -/
def fPair (hi lo : Nat) (ok : List (Nat × Nat) := []) : Field := ⟨hi, lo, false, true, false, false, ok⟩
/-- A RW, PAIR, covered field. -/
def fPairCov (hi lo : Nat) (ok : List (Nat × Nat) := []) : Field := ⟨hi, lo, false, true, false, true, ok⟩
/-- A RW, SH, covered field. -/
def fSh (hi lo : Nat) (ok : List (Nat × Nat) := []) : Field := ⟨hi, lo, false, false, true, true, ok⟩
/-- A W1C field. -/
def fW1c (hi lo : Nat) : Field := ⟨hi, lo, true, false, false, false, []⟩
/-- One register. -/
def reg1 (base reset : Nat) (fields : List Field) (rel : Rel := .none) : RegD := ⟨base, 4, 1, reset, rel, fields⟩

/-- Registers outside the JL, AV and DC blocks, by BAR0 offset: GEN (R536), CFG (R22, R263, R307, R430, R530), RING (R438), FT
(R68), RT (R385), FL (R333), SE (R207, R231), SEC (R466), PWR (R487). -/
def globRegs : List RegD := [
  reg1 0x40 0 [fRw 31 0],
  reg1 0x44 0 [fRw 31 0],
  reg1 0x48 0 [fRw 26 0 [(64, 67108864)]],
  reg1 0x4C 0 [fRw 0 0],
  reg1 0x10000 0 [fPair 1 0],
  reg1 0x10010 0 [fPair 0 0],
  reg1 0x10018 0 [fPair 31 0],
  reg1 0x10100 1 [fPairCov 31 0], reg1 0x10104 0 [fPairCov 11 0],
  reg1 0x10108 2 [fPairCov 31 0], reg1 0x1010C 0 [fPairCov 11 0],
  reg1 0x10110 4 [fPairCov 31 0], reg1 0x10114 0 [fPairCov 11 0],
  reg1 0x10118 0 [fPairCov 0 0],
  reg1 0x10120 1 [fPairCov 31 0], reg1 0x10124 2 [fPairCov 31 0], reg1 0x10128 4 [fPairCov 31 0],
  reg1 0x1012C 8 [fPairCov 31 0], reg1 0x10130 16 [fPairCov 31 0], reg1 0x10134 32 [fPairCov 31 0],
  reg1 0x10138 64 [fPairCov 31 0],
  reg1 0x1013C 0 [fPairCov 0 0],
  reg1 0x10140 5 [fPairCov 3 0 [(0, 8)]],
  reg1 0x10144 0x140 [fCov 8 8, fCov 7 0 [(1, 255)]],
  reg1 0x10180 86400 [fPairCov 31 0 [(3600, 2592000)]],
  reg1 0x10184 0x3C0032 [fCov 23 16 [(10, 255)], fCov 15 0 [(10, 1000)]],
  reg1 0x22010 10 [fCov 5 0 [(1, 60)]],
  reg1 0x40010 0 [fPairCov 31 16, fPairCov 15 4, fPairCov 1 1, fPairCov 0 0],
  reg1 0x40014 0xF424 [fCov 19 0 [(1000, 1000000)]],
  ⟨0x40040, 4, 12, 0, .none, [fCov 15 0]⟩,
  reg1 0x140000 0 [fPairCov 15 0],
  reg1 0x140004 0x203E8 [fRw 24 24, fCov 23 16 [(1, 255)], fCov 15 0 [(100, 65535)]],
  reg1 0x140008 0x2013 [fSh 14 12, fSh 10 8, fSh 6 4, fSh 2 0],
  reg1 0x14000C 0 [fRw 1 1, fRw 0 0],
  ⟨0x140400, 4, 256, 0xFFF, .none, [fSh 13 13, fSh 12 12, fSh 11 8, fSh 7 4, fSh 3 0]⟩,
  ⟨0x142000, 16, 12, 0x71002, .none, [fSh 18 16, fSh 15 8, fSh 2 0 [(0, 4)]]⟩,
  ⟨0x142004, 16, 12, 0x11224888, .weights, [fSh 31 0]⟩,
  ⟨0x150000, 4, 65536, 0xFFF, .none, [fSh 13 13, fSh 12 12, fSh 11 8, fSh 7 4, fSh 3 0]⟩,
  ⟨0x190000, 16, 1024, 0, .none, [fSh 23 0]⟩,
  ⟨0x190004, 16, 1024, 0, .none, [fSh 23 0]⟩,
  ⟨0x190008, 16, 1024, 0, .none, [fSh 31 16, fSh 15 0]⟩,
  ⟨0x194010, 16, 4095, 0, .none, [fSh 23 0]⟩,
  ⟨0x194014, 16, 4095, 0, .none, [fSh 23 0]⟩,
  ⟨0x194018, 16, 4095, 0, .none, [fSh 31 16, fSh 15 0]⟩,
  reg1 0x600000 0xF [fPairCov 3 0],
  reg1 0x600004 0x643201 [fCov 23 16 [(10, 255)], fCov 15 8 [(1, 255)], fCov 0 0],
  reg1 0x600008 0x625F [fCov 15 8 [(0, 100)], fCov 7 0] .tier,
  reg1 0x60000C 0x1901F4 [fCov 23 16 [(1, 100)], fCov 15 0 [(10, 60000)]],
  reg1 0x680000 3 [fCov 3 0 [(1, 8)]],
  reg1 0x680040 0x7F8108 [fCov 23 16, fCov 15 8, fCov 7 7, fCov 4 0 [(0, 16), (31, 31)]] .scale,
  reg1 0x680044 0x10000100 [fCov 31 16, fCov 15 0],
  reg1 0x680048 0 [fCov 31 0],
  reg1 0x700004 0 [fPair 15 0 [(1, 65535)]],
  reg1 0x780000 0x17F36205 [fCov 29 22 [(80, 95)], fCov 21 15 [(90, 104)], fCov 14 8 [(85, 103)], fCov 5 0 [(1, 50)]] .heat,
  reg1 0x780018 0 [fPairCov 26 16 [(0, 2000)], fPairCov 0 0],
  reg1 0x78001C 0x1007D0 [fCov 23 16 [(8, 64)], fCov 15 0 [(100, 65535)]]]

/-- Registers of a JL block, by offset in the block (R363). -/
def jlRegs : List RegD := [
  reg1 0x0 0 [fCov 5 4 [(0, 2)], fRw 1 1, fCov 0 0],
  reg1 0x4 0x07D00400 [fCov 31 16 [(500, 10000)], fCov 11 8 [(1, 15)]],
  reg1 0x10 0 [fPairCov 1 1, fPairCov 0 0]]

/-- Registers of an AV block, by offset in the block (R83, R129, R188, R308). -/
def avRegs : List RegD := [
  reg1 0x200 0x10000100 [fCov 29 16 [(0, 8192)], fCov 10 0 [(64, 1024)]],
  reg1 0x300 1 [fRw 7 4, fCov 0 0],
  reg1 0x304 0x3E850 [fCov 23 8, fCov 7 5 [(1, 7)], fCov 4 2 [(1, 7)], fCov 1 0 [(0, 2)]],
  reg1 0x308 0x1403E8 [fCov 31 16 [(12, 1000)], fCov 15 0 [(20, 10000)]],
  reg1 0x500 1000 [fCov 15 0 [(1, 60000)]],
  reg1 0x704 0x180001 [fCov 31 16 [(1, 65535)], fCov 0 0]]

/-- Registers of a DC block, by offset in the block (R276, R309). -/
def dcRegs : List RegD := [
  reg1 0x0 0 [fW1c 11 11],
  reg1 0x8 0x406020 [fCov 23 16 [(8, 255)], fCov 14 8 [(16, 127)], fCov 6 0 [(0, 111)]] .queue,
  reg1 0x200 0 [fPair 15 8, fPair 4 4, fPair 3 2 [(0, 2)], fPair 0 0],
  reg1 0x204 0 [fW1c 0 0],
  ⟨0x240, 4, 20, 0, .none, [fRw 31 0]⟩]

/-- The arbiter registers of an even channel's DC block (R276). -/
def arbRegs : List RegD := [
  reg1 0x100 0x03E82000 [fSh 31 16 [(250, 16000)], fSh 15 8 [(1, 255)], fSh 0 0],
  reg1 0x104 0 [fSh 11 0], reg1 0x108 110 [fSh 11 0], reg1 0x10C 110 [fSh 11 0],
  reg1 0x110 220 [fSh 11 0], reg1 0x114 880 [fSh 11 0], reg1 0x118 880 [fSh 11 0],
  reg1 0x11C 0 [fRw 0 0]]

/-- The register of a list at an offset. -/
def findReg (off : Nat) : List RegD → Option RegD
  | [] => none
  | r :: rs =>
    if r.base ≤ off ∧ (off - r.base) % r.stride = 0 ∧ (off - r.base) / r.stride < r.count then some r
    else findReg off rs

/-- The block-relative offset and the table that serve a BAR0 offset (R427). -/
def regAt (off : Nat) : Option RegD :=
  if 0x80000 ≤ off ∧ off < 0x140000 then findReg (off % 0x10000) jlRegs
  else if 0x200000 ≤ off ∧ off < 0x440000 then findReg (off % 0x40000) avRegs
  else if 0x500000 ≤ off ∧ off < 0x600000 then
    (findReg (off % 0x10000) dcRegs).or
      (if (off / 0x10000) % 2 = 0 then findReg (off % 0x10000) arbRegs else none)
  else findReg off globRegs

/-- Does a register have a PAIR field? -/
def RegD.paired (r : RegD) : Bool := r.fields.any (·.pair)
/-- Does a register have a covered field? -/
def RegD.covered (r : RegD) : Bool := r.fields.any (·.cov)
/-- Is a register shadowed? -/
def RegD.shadowed (r : RegD) : Bool := r.fields.any (·.sh)

/-- The mask of a bit range. -/
def maskOf (hi lo : Nat) : Nat := (2 ^ (hi + 1 - lo) - 1) * 2 ^ lo

/-- The bits of a register that a write replaces. -/
def RegD.writeMask (r : RegD) : Word := BitVec.ofNat 32 ((r.fields.map fun f => if f.w1c then 0 else maskOf f.hi f.lo).foldl (· ||| ·) 0)
/-- The bits of a register that a write of 1 clears. -/
def RegD.clearMask (r : RegD) : Word := BitVec.ofNat 32 ((r.fields.map fun f => if f.w1c then maskOf f.hi f.lo else 0).foldl (· ||| ·) 0)
/-- The covered bits of a register. -/
def RegD.coverMask (r : RegD) : Word := BitVec.ofNat 32 ((r.fields.map fun f => if f.cov then maskOf f.hi f.lo else 0).foldl (· ||| ·) 0)

/-- The value a register holds after a write of `val` over `old` (R5, R6). -/
def RegD.apply (r : RegD) (old val : Word) : Word :=
  ((old &&& ~~~ r.writeMask) ||| (val &&& r.writeMask)) &&& ~~~ (val &&& r.clearMask)

/-- Is every field of a written word inside its stated range (R423)? -/
def RegD.rangeOk (r : RegD) (val : Word) : Bool :=
  r.fields.all fun f => f.ok.isEmpty || f.ok.any fun p =>
    decide (p.1 ≤ bitsOf val.toNat f.hi f.lo) && decide (bitsOf val.toNat f.hi f.lo ≤ p.2)

/-- Does a written word keep the register's stated relation (R423)? -/
def RegD.relOk (r : RegD) (val : Word) : Bool :=
  let v := val.toNat
  match r.rel with
  | .none => true
  | .queue => decide (bitsOf v 6 0 < bitsOf v 14 8)
  | .scale => decide (signedOf 8 (bitsOf v 15 8) ≤ signedOf 8 (bitsOf v 23 16)) &&
      bitsOf v 15 8 != 128 && bitsOf v 23 16 != 128
  | .tier => decide (bitsOf v 7 0 < bitsOf v 15 8)
  | .heat => decide (bitsOf v 14 8 < bitsOf v 21 15)
  | .weights => (List.range 8).all fun c => bitsOf v (4 * c + 3) (4 * c) != 0

/-- The active value of the register at a BAR0 offset (R5). (DESIGN CHOICE, log entry 4.) -/
def Regs.val (g : Regs) (off : Nat) : Word :=
  match g.act.get off with
  | some v => v
  | none => match regAt off with
    | some r => BitVec.ofNat 32 r.reset
    | none => 0

/-- A field of the active value at a BAR0 offset. -/
def Regs.fld (g : Regs) (off hi lo : Nat) : Nat := bitsOf (g.val off).toNat hi lo

/-- The registers with one active value set. -/
def Regs.set (g : Regs) (off : Nat) (v : Word) : Regs := { g with act := g.act.put off v }

/-- The registers with one field of an active value set by the pool. -/
def Regs.setFld (g : Regs) (off hi lo v : Nat) : Regs :=
  g.set off ((g.val off &&& ~~~ BitVec.ofNat 32 (maskOf hi lo)) ||| BitVec.ofNat 32 (v % 2 ^ (hi + 1 - lo) * 2 ^ lo))

/-- The event counter whose lower word lies at an offset (R129). (DEDUCED, log entry 9.) -/
def Regs.counter (g : Regs) (off : Nat) : Nat := (g.cnt.get off).getD 0

/-- The registers with an event counter advanced; a count wraps at 2^64 (R129). -/
def Regs.count (g : Regs) (off n : Nat) : Regs := { g with cnt := g.cnt.put off ((g.counter off + n) % 2 ^ 64) }

end Sys2Proof.Machine
end

