-- ==== Sys2Proof/Machine/Flags.lean ====
section
/-! DEFINITION. Status codes, reasons and sources, as the spec numbers them (R10, R12, R81, R82, R150, R411), and the choice of a
refusal (R15). -/

namespace Sys2Proof.Machine

/-- JL status codes (R10). -/
def Jl.ok : Nat := 0
def Jl.okEarly : Nat := 1
def Jl.retryLater : Nat := 2
def Jl.xlateFault : Nat := 3
def Jl.accessFault : Nat := 4
def Jl.poison : Nat := 5
def Jl.indeterminate : Nat := 6
def Jl.misrouted : Nat := 7

/-- Completion status codes (R12). -/
def Cs.done : Nat := 0x00
def Cs.donePartial : Nat := 0x01
def Cs.doneReissued : Nat := 0x02
def Cs.doneReplayed : Nat := 0x03
def Cs.refusedVersion : Nat := 0x10
def Cs.refusedOwner : Nat := 0x11
def Cs.refusedState : Nat := 0x12
def Cs.refusedResource : Nat := 0x13
def Cs.refusedParam : Nat := 0x14
def Cs.refusedExhausted : Nat := 0x15
def Cs.faultTranslation : Nat := 0x20
def Cs.faultAccess : Nat := 0x21
def Cs.faultUncorrectable : Nat := 0x22
def Cs.faultNumeric : Nat := 0x23
def Cs.aborted : Nat := 0x30
def Cs.indeterminate : Nat := 0x31

/-- ACCESS_FAULT reasons (R81). -/
def Af.windowInvalid : Nat := 1
def Af.group : Nat := 2
def Af.permission : Nat := 3
def Af.bounds : Nat := 4
def Af.malformed : Nat := 5
def Af.districtState : Nat := 6
def Af.kind : Nat := 7
def Af.milestone : Nat := 8

/-- RETRY_LATER reasons (R82, R356). -/
def Rl.noTracker : Nat := 1
def Rl.districtLimit : Nat := 2
def Rl.fillLimit : Nat := 3
def Rl.ledgerFull : Nat := 4
def Rl.failover : Nat := 5
def Rl.handover : Nat := 6
def Rl.unserved : Nat := 7
def Rl.held : Nat := 8

/-- Revoke reasons (R122). -/
def Rv.owner : Nat := 1
def Rv.version : Nat := 2
def Rv.dataError : Nat := 3
def Rv.order : Nat := 4
def Rv.deadline : Nat := 5
def Rv.pageMove : Nat := 6
def Rv.test : Nat := 7

/-- Notice sources (R411). -/
def Src.host (port : Nat) : Nat := port
def Src.config : Nat := 0x002
def Src.time : Nat := 0x003
def Src.router : Nat := 0x004
def Src.engines : Nat := 0x005
def Src.flash : Nat := 0x006
def Src.power : Nat := 0x007
def Src.security : Nat := 0x008
def Src.cores : Nat := 0x009
def Src.link (n : Nat) : Nat := 0x010 + n
def Src.avenue (a : Nat) : Nat := 0x020 + a
def Src.channel (m : Nat) : Nat := 0x030 + m
def Src.slot (s : Nat) : Nat := 0x040 + s
def Src.spurious : Nat := 0x3FF

/-- A refusal or another early end: a status and its detail. -/
abbrev Stop := Nat × Nat

/-- A check: when it fails, the status and detail it gives. -/
def chk (failed : Bool) (status : Nat) (detail : Nat := 0) : Option Stop := if failed then some (status, detail) else none

/-- The first check of a numbered table that fails (R15). -/
def firstOf : List (Option Stop) → Option Stop
  | [] => none
  | some x :: _ => some x
  | none :: t => firstOf t

/-- The failing check with the lowest code; among equal codes the earlier one (R15). -/
def lowestOf : List (Option Stop) → Option Stop
  | [] => none
  | none :: t => lowestOf t
  | some x :: t => match lowestOf t with
    | none => some x
    | some y => if y.1 < x.1 then some y else some x

/-- The issuer kinds of R389. -/
inductive Kind where
  | g | d | q | e | pf | any
  deriving DecidableEq, Repr

/-- The bits that a descriptor's parameter words may hold, P0 to P5 (R390 and the chapters of the commands). -/
def paramMasks (op : Nat) : List Nat :=
  if op = 0x01 then [maskOf 5 0 ||| maskOf 14 8 ||| maskOf 23 16 ||| maskOf 41 24, maskOf 63 0, maskOf 35 0, maskOf 35 0, maskOf 35 0, maskOf 8 0]
  else if op = 0x02 then [maskOf 15 0, 0, 0, 0, 0, 0]
  else if op = 0x04 then [maskOf 17 0, maskOf 63 0, maskOf 63 0, maskOf 63 0, maskOf 63 0, 0]
  else if op = 0x05 ∨ op = 0x06 then [maskOf 47 0, maskOf 47 0, maskOf 1 0, 0, 0, 0]
  else if op = 0x07 then [maskOf 1 0, 0, 0, 0, 0, 0]
  else if op = 0x08 then [maskOf 41 24, maskOf 63 0, maskOf 35 0, maskOf 35 0, maskOf 35 0, 0]
  else if op = 0x09 then [maskOf 15 0, 0, 0, 0, 0, 0]
  else if op = 0x0A then [maskOf 63 0, maskOf 63 0, maskOf 29 0, maskOf 63 0, 0, 0]
  else if op = 0x0B then [maskOf 11 0, 0, 0, 0, 0, 0]
  else if op = 0x0C then [0, 0, 0, 0, 0, maskOf 8 0]
  else if op = 0x10 then [maskOf 63 0, maskOf 3 0, maskOf 63 0, maskOf 63 0, 0, 0]
  else if op = 0x11 then [maskOf 31 0, 0, 0, 0, 0, 0]
  else if op = 0x12 ∨ op = 0x13 ∨ op = 0x15 then [maskOf 7 0, 0, 0, 0, 0, 0]
  else if op = 0x20 then [maskOf 6 0 ||| maskOf 9 8, maskOf 63 0, maskOf 15 0, 0, 0, 0]
  else if op = 0x21 then [maskOf 14 0 ||| maskOf 22 16, 0, 0, 0, 0, 0]
  else if op = 0x22 then [maskOf 14 0 ||| maskOf 17 16, maskOf 63 0, maskOf 15 0, 0, 0, 0]
  else if op = 0x23 then [maskOf 14 0 ||| maskOf 19 16, 0, 0, 0, 0, 0]
  else if 0x30 ≤ op ∧ op ≤ 0x3F then [maskOf 63 0, maskOf 63 0, maskOf 63 0, maskOf 63 0, maskOf 63 0, maskOf 63 0]
  else if op = 0x50 ∨ op = 0x51 then [maskOf 47 0, maskOf 47 0, 0, 0, 0, 0]
  else if op = 0x52 then [maskOf 47 0, maskOf 47 0, maskOf 0 0, 0, 0, 0]
  else if op = 0x53 then [maskOf 5 0, maskOf 15 0, 0, 0, 0, 0]
  else if op = 0x54 then [maskOf 3 0, 0, 0, 0, 0, 0]
  else if op = 0x55 then [maskOf 3 0 ||| maskOf 9 8, 0, 0, 0, 0, 0]
  else if op = 0x56 then [maskOf 11 0, 0, 0, 0, 0, 0]
  else if op = 0x58 then [maskOf 0 0 ||| maskOf 7 4, 0, 0, 0, 0, 0]
  else if op = 0x60 then [maskOf 3 0, maskOf 63 0, 0, 0, 0, 0]
  else if op = 0x61 then [maskOf 8 0, maskOf 63 0, 0, 0, 0, 0]
  else if op = 0x62 then [maskOf 1 0, maskOf 47 0, maskOf 45 0, 0, 0, 0]
  else if op = 0x63 then [maskOf 44 0, 0, 0, 0, 0, 0]
  else if op = 0x64 then [maskOf 15 0, 0, 0, 0, 0, 0]
  else if op = 0x65 then [maskOf 1 0, maskOf 63 0, 0, 0, 0, 0]
  else if op = 0x66 then [maskOf 31 0, maskOf 0 0 ||| maskOf 10 8, maskOf 16 0, maskOf 12 0, 0, 0]
  else if op = 0x67 then [maskOf 31 0, 0, 0, 0, 0, 0]
  else if op = 0x68 then [maskOf 15 0, maskOf 63 0, 0, 0, 0, 0]
  else if op = 0x70 then [maskOf 31 0, 0, 0, 0, 0, 0]
  else if op = 0x71 then [maskOf 63 0, 0, 0, 0, 0, 0]
  else if op = 0x73 then [maskOf 47 0, 0, 0, 0, 0, 0]
  else if op = 0x74 then [maskOf 63 0, maskOf 7 0, 0, 0, 0, 0]
  else if op = 0x75 then [maskOf 31 0, maskOf 8 0, 0, 0, 0, 0]
  else if op = 0x78 then [maskOf 8 0, 0, 0, 0, 0, 0]
  else if op = 0x79 then [maskOf 3 0 ||| maskOf 16 8, maskOf 2 0 ||| maskOf 23 8, 0, 0, 0, 0]
  else if op = 0x80 then [maskOf 5 0, maskOf 31 0, 0, 0, 0, 0]
  else if op = 0x81 then [maskOf 17 0, maskOf 9 0 ||| maskOf 18 16, 0, 0, 0, 0]
  else if op = 0x83 then [maskOf 18 0 ||| maskOf 21 20, maskOf 47 0, maskOf 39 0, maskOf 63 0, 0, 0]
  else if op = 0x84 then [maskOf 4 0, maskOf 31 0, 0, 0, 0, 0]
  else if op = 0x85 then [maskOf 4 0, maskOf 63 0, maskOf 39 0, 0, 0, 0]
  else if op = 0xF0 then [maskOf 31 0, maskOf 15 1, 0, 0, 0, 0]
  else [0, 0, 0, 0, 0, 0]

/-- Does an opcode use `BUF` (R390)? -/
def usesBuf (op : Nat) : Bool := [0x03, 0x63, 0x66, 0x67, 0x70, 0x80, 0x82, 0x83, 0x84, 0xF0].contains op

/-- The commands that change no state, marked * in R390; none of them is retained. -/
def readsOnly (op : Nat) : Bool := [0x03, 0x09, 0x15, 0x23, 0x58, 0x63, 0x66, 0x7A, 0x7B, 0xF0, 0xFF].contains op

/-- Has a descriptor a non-zero reserved field (R3, R388, R390)? -/
def reservedSet (d : Desc) : Bool :=
  d.rsv || (!usesBuf d.opcode && d.buf != 0) ||
  (List.zipWith (fun p m => (p &&& m) != p) [d.p0, d.p1, d.p2, d.p3, d.p4, d.p5] (paramMasks d.opcode)).any id

/-- The opcodes that R390 and R236 list. -/
def knownOpcode (op : Nat) : Bool :=
  (0x01 ≤ op && op ≤ 0x0C) || (0x10 ≤ op && op ≤ 0x15) || (0x20 ≤ op && op ≤ 0x23) ||
  (0x30 ≤ op && op ≤ 0x36) || op == 0x38 || (0x3A ≤ op && op ≤ 0x3D) || op == 0x3F ||
  (0x50 ≤ op && op ≤ 0x56) || op == 0x58 || (0x60 ≤ op && op ≤ 0x68) || (0x70 ≤ op && op ≤ 0x75) ||
  (0x78 ≤ op && op ≤ 0x7B) || (0x80 ≤ op && op ≤ 0x85) || op == 0xF0 || op == 0xFF

/-- The opcodes that an accelerator ring accepts (R391). -/
def accOpcode (op : Nat) : Bool := (0x30 ≤ op && op ≤ 0x35) || (0x38 ≤ op && op ≤ 0x3D) || op == 0xFF

/-- Is an opcode an operator in the sense of R394? -/
def isOperator (op : Nat) : Bool := 0x30 ≤ op && op ≤ 0x3F

/-- Does the opcode complete with a record pair when it ends as it describes: its result bytes reach beyond byte 11 (R390)? -/
def longResult (op : Nat) : Bool := [0x09, 0x10, 0x15, 0x58, 0x7A, 0x7B, 0x31, 0x32, 0x33, 0x38, 0x3A, 0x3B, 0x3C, 0x3D, 0x30, 0x34, 0x35, 0x36].contains op

/-- The completion slots reserved for a descriptor (R392). -/
def slotsFor (op : Nat) : Nat := if longResult op || usesBuf op || !knownOpcode op then 2 else 1

end Sys2Proof.Machine
end

