-- ==== Sys2Proof/Machine/Operands.lean ====
section
/-! DEFINITION. The operand forms: an OPREF from a parameter word, and a field of a byte block. -/

namespace Sys2Proof.Machine

open Sys2Proof

/-- An OPREF from its 8 bytes (R233). -/
def oprefOf (v : Nat) : Opref := ⟨bitsOf v 15 0, bitsOf v 63 16⟩

/-- A little-endian field of a byte string. -/
def fieldOf (bs : List Byte) (off n : Nat) : Nat := leValue ((bs.drop off).take n)

/-- A field of an argument block: n bytes from a byte (R235). -/
def argF (a first n : Nat) : Nat := a / 2 ^ (8 * first) % 2 ^ (8 * n)

end Sys2Proof.Machine
end

