-- ==== Sys2Proof/Machine/Ops.lean ====
section
/-! DEFINITION. The named operations over the state that every family shares: sending, counting, notices, the address hash, memory
bytes and lines. -/

namespace Sys2Proof.Machine

open Sys2Proof

/-- A list with an entry inserted before the first one that may follow it. -/
def insertBy {α : Type} (le : α → α → Bool) (x : α) : List α → List α
  | [] => [x]
  | y :: t => if le x y then x :: y :: t else y :: insertBy le x t

/-- A list in order; entries that tie keep their order. -/
def sortBy {α : Type} (le : α → α → Bool) (l : List α) : List α := l.foldr (insertBy le) []

/-- Are the main die's outputs inactive (R533, R562)? (DEDUCED, log entry 55.) -/
def State.mute (s : State) : Bool := s.boot.resetLow || s.boot.clockLost

/-- Send something; while the outputs are inactive nothing leaves the die (R533). (DESIGN CHOICE, log entry 7.) -/
def State.emit (s : State) (o : Out) : State := if s.mute then s else { s with out := s.out ++ [o] }

/-- Send several things in order. (DESIGN CHOICE, log entry 7.) -/
def State.emits (s : State) (os : List Out) : State := if s.mute then s else { s with out := s.out ++ os }

/-- The metering island sends something: it has its own supply and reset (R489, R533). (DESIGN CHOICE, log entry 7.) -/
def State.islEmit (s : State) (o : Out) : State := { s with out := s.out ++ [o] }

/-- Count an event in the counter whose lower word lies at a BAR0 offset. -/
def State.tally (s : State) (off n : Nat) : State := { s with regs := s.regs.count off n }

/-- Draw a free value: the counter moves on. (DESIGN CHOICE, log entry 2.) -/
def State.draw (s : State) : State := { s with free := s.free + 1 }

/-- The ns by which Fabric Time slews over dt ns of the local clock: at most 100 ppm, towards its source (R39). (DEDUCED, log entry 60.) -/
def State.slew (s : State) (dt : Nat) : Int :=
  if s.time.offset = 0 then 0
  else
    let k : Int := (min (min (Config.slewPart s.clock) (dt / 10000)) (s.time.offset.natAbs / 32) : Nat)
    if 0 < s.time.offset then k else -k

/-- Time passes until at least an instant of the local clock: the clock advances by the time still to go, and Fabric Time with it, slewing
towards its source (R39). (DEDUCED, log entry 6; DESIGN CHOICE, log entry 76.) -/
def State.passTo (s : State) (t : Nat) : State :=
  let dt := t - s.clock
  { s with clock := s.clock + dt, time := { s.time with ft := ((s.time.ft + dt : Nat) + s.slew dt).toNat,
                                                        offset := s.time.offset - 32 * s.slew dt } }

/-- Time passes until Fabric Time reaches at least an instant. (DEDUCED, log entry 6.) -/
def State.passToFt (s : State) (t : Nat) : State :=
  let dt := t - s.time.ft
  { s with clock := s.clock + dt, time := { s.time with ft := s.time.ft + dt } }

/-! ### Units by index -/

/-- A share that nothing has changed since reset: UNSERVED until an Avenue serves it. -/
def ShareSt.init : ShareSt := ⟨.unserved, false, 0, false, none, false⟩
/-- An Avenue at reset (R435, R488, R531). -/
def Av.init : Av := ⟨.selfTest, none, false, 0, false, false, 0xFFFF, 0, 0, 0, none, 0, 0, 0, true, 0, 0, false, 0, false, 0, []⟩
/-- A central pair at reset. -/
def Core.init : Core := ⟨0, true, 0, false, false, 0, 0, 0, 0, 0, none⟩
/-- A ring at reset (R436). -/
def Ring.init : Ring := ⟨.disabled, 0, 4, 5, 0, false, 0, 0, 0, 0, 0, 0, 0, false, [], [], 0, false, none⟩
/-- A notice ring at reset (R439). -/
def NoticeRing.init : NoticeRing := ⟨false, 0, 0, 4, 0, 0, 0, false, 0, [], []⟩

def State.share (s : State) (n : Nat) : ShareSt := (s.avail.shares.get n).getD ShareSt.init
def State.setShare (s : State) (n : Nat) (x : ShareSt) : State :=
  { s with avail := { s.avail with shares := s.avail.shares.put n x } }
def State.av (s : State) (a : Nat) : Av := (s.avail.avs.get a).getD Av.init
def State.setAv (s : State) (a : Nat) (x : Av) : State :=
  { s with avail := { s.avail with avs := s.avail.avs.put a x } }
def State.core (s : State) (p : Nat) : Core := (s.avail.cores.get p).getD Core.init
def State.setCore (s : State) (p : Nat) (x : Core) : State :=
  { s with avail := { s.avail with cores := s.avail.cores.put p x } }
def State.ring (s : State) (r : Nat) : Ring := (s.host.rings.get r).getD Ring.init
def State.setRing (s : State) (r : Nat) (x : Ring) : State :=
  { s with host := { s.host with rings := s.host.rings.put r x } }
def State.ntc (s : State) (fn : Nat) : NoticeRing := (s.host.ntc.get fn).getD NoticeRing.init
def State.setNtc (s : State) (fn : Nat) (x : NoticeRing) : State :=
  { s with host := { s.host with ntc := s.host.ntc.put fn x } }
def State.district (s : State) (d : Nat) : Option District := s.maps.districts.get d
def State.setDistrict (s : State) (d : Nat) (x : District) : State :=
  { s with maps := { s.maps with districts := s.maps.districts.put d x } }

/-- The Avenue that serves a share (R21). -/
def State.servedBy (s : State) (n : Nat) : Option Nat :=
  (s.avail.avs.find? fun e => e.2.role == .serving && e.2.share == some n).map (·.1)

/-- The BAR0 base of the AV block of the Avenue that serves a share; of Avenue n where none does. -/
def State.avBase (s : State) (n : Nat) : Nat := 0x200000 + (s.servedBy n).getD n * 0x40000

/-- Count an event in the AV block of the Avenue that serves a share. -/
def State.tallyAv (s : State) (n off : Nat) : State := s.tally (s.avBase n + off) 1

/-- A field of a covered AV register of a share (R434). -/
def State.avFld (s : State) (n off hi lo : Nat) : Nat := s.regs.fld (s.avBase n + off) hi lo

/-- Start a quiet period of the configuration check (R433). (DEDUCED, log entry 15.) -/
def State.quiet (s : State) : State := { s with regs := { s.regs with quietUntil := s.clock + 1000000 } }

/-- The covered offsets of an AV block, with the masks of their covered fields (R434). -/
def avCovered : List (Nat × Word × Nat) := (avRegs.filter (·.covered)).map fun r => (r.base, r.coverMask, r.reset)

/-- A word of a share's configuration copy (R434). (DEDUCED, log entry 17.) -/
def Regs.copyWord (g : Regs) (share off reset : Nat) : Word := (g.shareCfg.get (share * 2 ^ 18 + off)).getD (BitVec.ofNat 32 reset)

/-- An Avenue that takes a share loads the share's configuration copy; what was still on its way to an Avenue that serves no share is
dropped (R434). (DEDUCED, log entry 17.) -/
def State.takeConfig (s : State) (share a : Nat) : State :=
  let g := avCovered.foldl (fun (g : Regs) (x : Nat × Word × Nat) =>
    let off := 0x200000 + a * 0x40000 + x.1
    g.set off ((g.val off &&& ~~~ x.2.1) ||| (g.copyWord share x.1 x.2.2 &&& x.2.1))) s.regs
  let pend := g.avPend.filter fun p => p.av != a && (s.avail.avs.get p.av).any fun x => x.role == .serving
  ({ s with regs := { g with avPend := pend } }).quiet

/-! ### Notices -/

/-- Is a ring of 2^k records full? -/
def NoticeRing.full (r : NoticeRing) : Bool := decide (2 ^ r.k ≤ (r.tail + 2 ^ 32 - r.head) % 2 ^ 32)

/-- Write one notice record, and send the vector's message when it is armed (R397, R398, R410). -/
def State.writeNotice (s : State) (fn : Nat) (n : Notice) : State :=
  let r := s.ntc fn
  let seq := (r.seq + 1) % 2 ^ 32
  let s := s.emit (.notice fn (r.tail % 2 ^ r.k) ((r.tail / 2 ^ r.k) % 2 == 0) seq n)
  let outs := if n.level then r.outstanding ++ [⟨seq, n.source, n.cause, false⟩] else r.outstanding
  let s := s.setNtc fn { r with tail := (r.tail + 1) % 2 ^ 32, seq := seq, armed := false, outstanding := outs }
  if r.armed then s.emit (.msix fn r.vector) else s

/-- Deliver a notice to a function's ring (R412, R413). -/
def State.deliver (s : State) (fn : Nat) (n : Notice) : State :=
  let r := s.ntc fn
  if !r.en || s.host.hostDown.contains (fn / 256) then s
  else if n.level && (r.outstanding.any (fun o => o.source == n.source && o.cause == n.cause) ||
      r.pending.any (fun o => o.source == n.source && o.cause == n.cause)) then s
  else if r.full then
    if n.level then s.setNtc fn { r with pending := r.pending ++ [n] }
    else s.setNtc fn { r with dropped := (r.dropped + 1) % 2 ^ 32 }
  else s.writeNotice fn n

/-- The functions to which a notice goes (R412): the owner of its District or the PF of the owner's port, else both PFs; the other PF where
the owner's port is down (R504). (DEDUCED, log entry 22.) -/
def State.noticeTargets (s : State) (district : Option Nat) : List Nat :=
  match district.bind s.district with
  | some d =>
    if s.host.hostDown.contains (d.owner / 256) then [(1 - d.owner / 256) * 256]
    else if (s.ntc d.owner).en then [d.owner] else [d.owner / 256 * 256]
  | none => [0, 256]

/-- Hold a notice until the first notice ring of a PF is enabled (R539). (DEDUCED, log entry 14.) -/
def State.holdNotice (s : State) (n : Notice) : State :=
  if n.level then { s with host := { s.host with heldNotices := s.host.heldNotices ++ [n] } }
  else if (s.host.heldNotices.filter fun x => !x.level).length < 256 then
    { s with host := { s.host with heldNotices := s.host.heldNotices ++ [n] } }
  else { s with host := { s.host with heldDropped := s.host.heldDropped + 1 } }

/-- Raise a notice that is already made up (R412, R539). -/
def State.raiseRaw (s : State) (n : Notice) : State :=
  let known := s.host.conds.any (fun o => o.source == n.source && o.cause == n.cause)
  let s := if n.level && !known then { s with host := { s.host with conds := s.host.conds ++ [n] } } else s
  if !s.host.anyRing then (if n.level && known then s else s.holdNotice n)
  else (s.noticeTargets n.district).foldl (fun s fn => s.deliver fn n) s

/-- Raise an edge notice. -/
def State.raise (s : State) (source cause data : Nat) (district : Option Nat := none) : State :=
  s.raiseRaw ⟨source, cause, false, s.time.ft, district, data⟩

/-- A level condition begins or goes on (R412). -/
def State.raiseLevel (s : State) (source cause data : Nat) (district : Option Nat := none) : State :=
  s.raiseRaw ⟨source, cause, true, s.time.ft, district, data⟩

/-- A level condition ends (R412). -/
def State.endLevel (s : State) (source cause : Nat) : State :=
  { s with host := { s.host with conds := s.host.conds.filter (fun o => !(o.source == source && o.cause == cause)) } }

/-- An ignored register write (R411, R423). -/
def State.writeIgnored (s : State) (off : Nat) (val : Nat) : State :=
  s.raise Src.config 0x02 (off % 2 ^ 24 + val % 2 ^ 32 * 2 ^ 32)

/-- A failed guard (R7, R411). -/
def State.guardFailed (s : State) (off : Nat) (val : Nat) : State :=
  s.raise Src.config 0x01 (off % 2 ^ 24 + val % 2 ^ 32 * 2 ^ 32)

/-- Space has freed on a notice ring: OVERFLOW first, then the pending conditions while they fit (R413). -/
def State.refillNotices (s : State) (fn : Nat) : State :=
  let r := s.ntc fn
  if r.full || (r.dropped == 0 && r.pending.isEmpty) then s
  else
    let d := r.dropped
    let ps := r.pending
    let s := s.setNtc fn { r with dropped := 0, pending := [] }
    let s := if d == 0 then s
      else s.writeNotice fn ⟨Src.host (fn / 256), 0x05, false, s.time.ft, none, d % 2 ^ 32⟩
    ps.foldl (fun s n => s.deliver fn n) s

/-! ### The address hash -/

/-- Hash mask i as a mask of PA bits (R18, R22). -/
def Regs.hashMask (g : Regs) (i : Nat) : Nat :=
  (g.val (0x10100 + 8 * i)).toNat * 2 ^ 8 + (g.val (0x10104 + 8 * i)).toNat * 2 ^ 40

/-- The home share of a physical address (R18). -/
def Regs.home (g : Regs) (pa : Nat) : Nat :=
  (parityOf 52 (pa &&& g.hashMask 0)).toNat + 2 * (parityOf 52 (pa &&& g.hashMask 1)).toNat +
    4 * (parityOf 52 (pa &&& g.hashMask 2)).toNat

/-- The local address of a physical address (R20). -/
def localAddr (pa : Nat) : Nat := pa / 2 ^ 11 * 256 + pa % 256

/-- The colour of an address (R85). -/
def Regs.colour (g : Regs) (a : Nat) : Nat := g.home (a / 2 ^ 12 * 2 ^ 12)

/-- The local line address folded to 12 bits (R117). -/
def fold12 (la : Nat) : Nat := (la % 2 ^ 12) ^^^ (la / 2 ^ 12 % 2 ^ 12) ^^^ (la / 2 ^ 24 % 2 ^ 12)

/-- The directory set of a line (R110). -/
def dirSet (line : Nat) : Nat :=
  let l := localAddr (line * 64) / 64
  (l % 2 ^ 17) ^^^ (l / 2 ^ 17 % 2 ^ 17)

/-! ### Memory -/

/-- What a byte of DRAM that nothing has written since memory initialisation reads as (R290). (DESIGN CHOICE, log entry 8.) -/
def memDefault : Byte := 0

/-- One byte of DRAM. (DESIGN CHOICE, log entry 8.) -/
def readCell : List Host.Cell → Nat → Byte
  | [], _ => memDefault
  | (a, b) :: t, n => if n = a then b else readCell t n

/-- DRAM with one byte written, in canonical form: addresses rising, no entry equal to the default. (DESIGN CHOICE, log entry 8.) -/
def writeCell : List Host.Cell → Nat → Byte → List Host.Cell
  | [], n, x => if x = memDefault then [] else [(n, x)]
  | (a, b) :: t, n, x =>
    if n < a then (if x = memDefault then (a, b) :: t else (n, x) :: (a, b) :: t)
    else if n = a then (if x = memDefault then t else (n, x) :: t)
    else (a, b) :: writeCell t n x

/-- The canonical form of DRAM. (DESIGN CHOICE, log entry 8.) -/
def cellsWf : List Host.Cell → Bool
  | [] => true
  | [(_, x)] => decide (x ≠ memDefault)
  | (a, x) :: (b, y) :: t => decide (x ≠ memDefault) && decide (a < b) && cellsWf ((b, y) :: t)

/-- The invariant of the memory. (DESIGN CHOICE, log entry 8.) -/
def Memory.wf (m : Memory) : Bool := cellsWf m.cells

/-- A line from n bytes starting at an address. -/
def readBytes (cells : List Host.Cell) : Nat → Nat → Nat
  | _, 0 => 0
  | a, n + 1 => (readCell cells a).toNat + 256 * readBytes cells (a + 1) n

/-- DRAM with n bytes of a value written from an address, lowest first. -/
def writeBytes (cells : List Host.Cell) : Nat → Nat → Nat → List Host.Cell
  | _, 0, _ => cells
  | a, n + 1, v => writeBytes (writeCell cells a (BitVec.ofNat 8 v)) (a + 1) n (v / 256)

/-- The 64 bytes of a line in DRAM. (DEDUCED, log entry 38.) -/
def Memory.dramLine (m : Memory) (line : Nat) : LineData := BitVec.ofNat 512 (readBytes m.cells (line * 64) 64)

/-- The memory with a whole line written to DRAM; a write of the whole line clears its poison mark (R280). -/
def Memory.putDram (m : Memory) (line : Nat) (d : LineData) (poison : Bool) : Memory :=
  { m with cells := writeBytes m.cells (line * 64) 64 d.toNat,
           poison := if poison then m.poison.ins line else m.poison.rem line }

/-- The value of a line: its line-cache copy where there is one, else DRAM. -/
def Memory.line (m : Memory) (line : Nat) : LineData :=
  match m.cache.get line with
  | some c => c.data
  | none => m.dramLine line

/-- Does a line carry the poison mark? -/
def Memory.poisoned (m : Memory) (line : Nat) : Bool :=
  match m.cache.get line with
  | some c => c.poison
  | none => m.poison.contains line

/-- One byte of pool memory as a reader of the line would see it. -/
def Memory.byte (m : Memory) (pa : Nat) : Byte := (m.line (pa / 64)).extractLsb' (pa % 64 * 8) 8

/-- A line with the enabled bytes of another (R73). -/
def mergeLine (old new : LineData) (mask : BitVec 64) : LineData :=
  (List.range 64).foldl (fun acc i =>
    if mask.getLsbD i then
      (acc &&& ~~~ (0xFF#512 <<< (8 * i))) ||| (((new >>> (8 * i)) &&& 0xFF#512) <<< (8 * i))
    else acc) old

/-- Is a frame mapped and not yet written whole (R289)? -/
def Memory.isUnbound (m : Memory) (frame : Nat) : Bool := m.unbound.any fun i => decide (i.1 ≤ frame) && decide (frame < i.2)

/-- The intervals without one frame. -/
def cutInterval (f : Nat) : List (Nat × Nat) → List (Nat × Nat)
  | [] => []
  | (a, b) :: t =>
    if a ≤ f ∧ f < b then
      (if a < f then [(a, f)] else []) ++ (if f + 1 < b then [(f + 1, b)] else []) ++ cutInterval f t
    else (a, b) :: cutInterval f t

/-- The intervals with every frame of a range removed. -/
def cutRange (lo hi : Nat) : List (Nat × Nat) → List (Nat × Nat)
  | [] => []
  | (a, b) :: t =>
    (if b ≤ lo ∨ hi ≤ a then [(a, b)]
     else (if a < lo then [(a, lo)] else []) ++ (if hi < b then [(hi, b)] else [])) ++ cutRange lo hi t

/-- A whole-page write has been made to a frame: its content is defined and its parity is valid (R286, R289). (DESIGN CHOICE, log entry 8.)
-/
def Memory.bindFrame (m : Memory) (f : Nat) : Memory :=
  { m with unbound := cutInterval f m.unbound, parityLost := m.parityLost.rem f,
           wrote := m.wrote.only (fun l _ => l / 64 != f) }

/-- A range of frames comes to hold undefined content, at mapping (R289). -/
def Memory.unbindRange (m : Memory) (f n : Nat) : Memory :=
  { m with unbound := (f, f + n) :: cutRange f (f + n) m.unbound,
           wrote := m.wrote.only (fun l _ => !(decide (f ≤ l / 64) && decide (l / 64 < f + n))) }

/-- Note which bytes of a line a partial write has given a value, where the line's frame is not bound (R289). -/
def Memory.noteWrite (m : Memory) (line : Nat) (mask : BitVec 64) : Memory :=
  if m.isUnbound (line / 64) then
    { m with wrote := m.wrote.put line (((m.wrote.get line).getD 0) ||| mask) }
  else m

/-- The bytes of a line of which the spec states a value: all of them, or in an unbound frame those written since (R289). (DESIGN CHOICE,
log entry 8.) -/
def Memory.known (m : Memory) (line : Nat) : BitVec 64 :=
  if m.isUnbound (line / 64) then (m.wrote.get line).getD 0 else BitVec.allOnes 64

/-- The 64 bytes of a free value. (DESIGN CHOICE, log entry 8; DEDUCED, log entry 77.) -/
def freeLine (draw line : Nat) : LineData :=
  BitVec.ofNat 512 (leValue ((List.range 64).map fun i => Config.freeByte draw (line * 64 + i)))

/-- What a reader of a line gets: its data, with a free value in the bytes that the spec leaves undefined; `none` for POISON (R289, R291).
(DESIGN CHOICE, log entry 8; DEDUCED, log entry 77.) -/
def State.readLine (s : State) (line : Nat) : Option LineData :=
  if s.mem.poisoned line then none
  else
    let k := s.mem.known line
    if k = BitVec.allOnes 64 then some (s.mem.line line)
    else if Config.freePoison s.free line then none
    else some (mergeLine (freeLine s.free line) (s.mem.line line) k)

/-- After a read of a line whose content is undefined, the next free value is another one. -/
def State.afterRead (s : State) (line : Nat) : State :=
  if s.mem.known line = BitVec.allOnes 64 then s else s.draw

/-- The bytes of a natural-number range of a line. -/
def lineBytes (d : LineData) (first n : Nat) : List Byte :=
  (List.range n).map fun i => d.extractLsb' ((first + i) * 8) 8

/-! ### Time -/

/-- Is Fabric Time in a state in which events are applied (R64)? -/
def State.timeGood (s : State) : Bool := s.time.mode == .locked || s.time.mode == .holdover

/-- Are slot assignments applied (R45, R47)? (DEDUCED, log entry 64.) -/
def State.planOn (s : State) : Bool := s.time.running && s.timeGood && s.time.active.isSome

/-- The conditions of R61 on an instant, for a command accepted now. -/
def State.instantOk (s : State) (t : Nat) : Bool :=
  t % 128 == 0 && decide (s.time.ft + 10000 ≤ t) && decide (t ≤ s.time.ft + 2 ^ 50)

/-- The earliest instant that R61 allows. -/
def State.earliest (s : State) : Nat := roundUp (s.time.ft + 10000) 128

/-- Is there room in the event queue for a command's event: 256 less the three kept for role swaps (R60)? -/
def State.eventRoom (s : State) : Bool :=
  decide ((s.time.events.filter fun e => match e.kind with | .roleSwap _ f => f | _ => true).length < 253)

/-- Queue an event. -/
def State.addEvent (s : State) (e : Event) : State := { s with time := { s.time with events := s.time.events ++ [e] } }

end Sys2Proof.Machine
end

