-- ==== Sys2Proof/Machine/TimeBase.lean ====
section
/-! DEFINITION. Fabric Time: what the node advertises, the choice of its source and the changes of its time state (R39, R44, R45, R47). -/

namespace Sys2Proof.Machine

open Sys2Proof

/-- The code of a time state (R45). -/
def modeCode : TimeMode → Nat
  | .free => 0
  | .acquiring => 1
  | .locked => 2
  | .holdover => 3
  | .suspended => 4

/-- The hop count that the node advertises (R44). -/
def State.advHops (s : State) : Nat :=
  match s.time.mode with
  | .locked => if s.time.src = 12 then 0 else ((s.time.ports.get s.time.src).map fun p => p.hops + 1).getD 255
  | .holdover => s.time.lockedHops
  | _ => 255

/-- `FT_ERR.BOUND` (R47). -/
def State.errBound (s : State) : Nat :=
  let unknown := 0xFFFFFFFF
  match s.time.mode with
  | .free => unknown
  | .acquiring => unknown
  | .locked => if s.advHops ≤ 8 ∧ s.regs.fld 0x40014 19 0 ≤ 125000 then 8 else unknown
  | .holdover => if s.time.lockedBound = unknown then unknown
      else s.time.lockedBound + ((s.clock - s.time.lostAt) * 50 + 999999999) / 1000000000
  | .suspended => if s.time.lockedBound = unknown then unknown
      else min 0xFFFFFFFE (s.time.lockedBound + ((s.clock - s.time.lostAt) * 50 + 999999999) / 1000000000)

/-- May a port be the time source (R44, R353)? A port has time to offer once an exchange has completed on it. (DEDUCED, log entry 60.) -/
def State.portOffers (s : State) (n state : Nat) : Bool :=
  match s.time.ports.get n, s.net.ports.get n with
  | some t, some p => t.heard && p.exchanges == 0 && bitOf (s.regs.val 0x40010).toNat (n + 4) &&
      t.domain == s.regs.fld 0x40010 31 16 && decide (t.hops < 15) && t.state % 16 == state
  | _, _ => false

/-- The best of the ports that offer a time state: the lowest hop count, then the lowest number (R44). -/
def State.bestPort (s : State) (state : Nat) : Option Nat :=
  let ns := (List.range 12).filter fun n => s.portOffers n state
  let hops : Nat → Nat := fun n => ((s.time.ports.get n).map (·.hops)).getD 255
  ns.find? fun n => ns.all fun m => decide (hops n ≤ hops m)

/-- The source that R44 chooses: the external reference, else a LOCKED port, else a port in HOLDOVER. -/
def State.bestSource (s : State) : Option Nat :=
  if bitOf (s.regs.val 0x40010).toNat 0 && s.time.extSelectable then some 12
  else match s.bestPort 2 with
    | some n => some n
    | none => s.bestPort 3

/-- The offset of a source as last measured, in units of 1/32 ns. -/
def State.sourceOffset (s : State) (src : Nat) : Int :=
  if src = 12 then s.time.extOffset else ((s.time.ports.get src).map (·.theta)).getD 0

/-- The limits of R45 in units of 1/32 ns: 4 ns and 16 ns. -/
def lockLimit : Nat := 128
def keepLimit : Nat := 512

/-- Enter LOCKED, with its notice (R45, R47). -/
def State.enterLocked (s : State) : State :=
  ({ s with time := { s.time with mode := .locked, lockedAt := s.clock, outside := none, onceSet := true } }).raise Src.time 0x03 2

/-- Enter ACQUIRING from a source with an offset. -/
def State.enterAcquiring (s : State) (src : Nat) (off : Int) : State :=
  { s with time := { s.time with mode := .acquiring, src := src, offset := off, outside := none,
                                 inside := if off.natAbs ≤ lockLimit then some s.clock else none } }

/-- Choose the source anew, and change the time state as R45 says (R44, R45, R47, R69). -/
def State.reselect (s : State) : State :=
  match s.bestSource, s.time.mode with
  | none, .acquiring => { s with time := { s.time with mode := .free, src := 15, onceSet := true, offset := 0, inside := none } }
  | none, .locked =>
    ({ s with time := { s.time with mode := .holdover, lostAt := s.clock, lockedHops := s.advHops, lockedBound := s.errBound,
                                    offset := 0, outside := none } }).raise Src.time 0x01 3
  | none, _ => s
  | some c, .free => s.enterAcquiring c (s.sourceOffset c)
  | some c, .suspended => s.enterAcquiring c (s.sourceOffset c)
  | some c, .acquiring => if c = s.time.src then s else s.enterAcquiring c (s.sourceOffset c)
  | some c, .locked =>
    if c = s.time.src then s
    else if (s.sourceOffset c).natAbs ≤ keepLimit then
      { s with time := { s.time with src := c, offset := s.sourceOffset c, outside := none } }
    else s.enterAcquiring c (s.sourceOffset c)
  | some c, .holdover =>
    if (s.sourceOffset c).natAbs ≤ keepLimit then
      ({ s with time := { s.time with src := c, offset := s.sourceOffset c } }).enterLocked
    else s.enterAcquiring c (s.sourceOffset c)

/-- A port's time-exchange history is discarded: its link went down or was retrained (R353). -/
def State.forgetPort (s : State) (n : Nat) : State :=
  ({ s with time := { s.time with ports := s.time.ports.adjust n fun t =>
      { t with heard := false, echoTx := 0, echoRx := 0, theta := 0, delay := none } } }).reselect

/-- The external reference is lost (R40). -/
def State.loseExternal (s : State) : State :=
  ({ s with time := { s.time with extSelectable := false, extExpect := none, extBad := 0 } }).reselect

end Sys2Proof.Machine
end

