-- ==== Sys2Proof/Machine/Net.lean ====
section
/-! DEFINITION. Shared operations of the ports and the router: routes, meters, egress queues, answers and link down (R354, R364 to
R381). -/

namespace Sys2Proof.Machine

open Sys2Proof

/-- A port at reset (R337, R363). -/
def LinkPort.init : LinkPort :=
  { st := 0, width := 0, lanesOk := 0, rev := 0, encOn := false, partner := 0, partnerPort := 0, partnerRev := 0,
    credits := [], owed := [], txSeq := 0, rxSeq := 0, lastAck := 0xFFF, buf := [], asked := false, lastRun := none, bad := 0,
    txKey := false, rxKey := false, txNext := false, rxNext := false, txCtr := 0, rxCtr := 0, txAt := none, rxAt := none,
    rekeyDue := false, hardStop := false, ctl := [], exchanges := 0, since := 0, byDriver := false, newest := none, failed := 0, rx := [], queue := [],
    deficit := [], lastClass := 7, slotAt := 0, slotFlow := 0, slotUsed := 0, lastBuild := 0 }

def State.jl (s : State) (n : Nat) : LinkPort := (s.net.ports.get n).getD LinkPort.init
def State.setJl (s : State) (n : Nat) (p : LinkPort) : State := { s with net := { s.net with ports := s.net.ports.put n p } }

/-- The BAR0 base of a port's JL block (R363). -/
def jlBase (n : Nat) : Nat := 0x80000 + n * 0x10000

/-- The pool's node ID (R364). -/
def State.node (s : State) : Nat := s.regs.fld 0x140000 15 0

/-- Is a port usable (R366)? -/
def State.usable (s : State) (n : Nat) : Bool := decide (n < 12) && ((s.jl n).st == 5 || (s.jl n).st == 6)

/-- The route of a destination (R365). (DEDUCED, log entry 36.) -/
def State.routeOf (s : State) (dst : Nat) : Option RouteEnt :=
  let m := (s.regs.val (0x150000 + 4 * dst)).toNat
  let g := (s.regs.val (0x140400 + 4 * (dst / 256))).toNat
  if bitOf m 12 then
    let e := if bitOf g 12 then g else m
    some ⟨bitsOf e 3 0, bitsOf e 7 4, bitsOf e 11 8, bitOf e 13⟩
  else none

/-- Has a node ID a valid route-table entry, in the sense of R111 and R127 (R365)? -/
def State.validNode (s : State) (n : Nat) : Bool :=
  bitOf (s.regs.val (0x150000 + 4 * n)).toNat 12 && n != s.node

/-! ### The plan in force -/

/-- The entry of a flow that is valid in the active plan (R53). -/
def State.flowEntry (s : State) (f : Nat) : Option Nat :=
  match s.time.active with
  | none => none
  | some p => match p.flows.get f with
    | some e => if bitOf e 31 then some e else none
    | none => none

/-- The number of the slot in force, counted from the epoch (R48). -/
def State.slotNow (s : State) : Nat := s.time.ft / 128

/-- The slot entry of a port at this time; 0, OPEN, while no slot assignment is applied (R47, R54, R59). -/
def State.slotEntry (s : State) (port : Nat) : Nat :=
  match s.time.active with
  | none => 0
  | some p => if s.planOn then (p.slots.get (port * 8192 + s.slotNow % 2 ^ p.slotLog2)).getD 0 else 0

/-! ### Meters -/

/-- The tokens of a bucket brought up to date at the rates in force (R380). Tokens are held in 1/256000 byte, so that a rate in MB/s adds
`rate × 256` per ns exactly. (DESIGN CHOICE, log entry 16; DEDUCED, log entry 36.) -/
def State.bucketNow (s : State) (m : Nat) : Bucket :=
  let b := (s.net.buckets.get m).getD ⟨0, 0, 0⟩
  let dt := s.clock - b.upd
  let cbs := s.regs.fld (m + 8) 15 0 * 64 * 256000
  let pbs := s.regs.fld (m + 8) 31 16 * 64 * 256000
  ⟨min cbs (b.tc + dt * s.regs.fld m 23 0 * 256), min pbs (b.tp + dt * s.regs.fld (m + 4) 23 0 * 256), s.clock⟩

/-- The state with a meter's bucket set. -/
def State.setBucket (s : State) (m : Nat) (b : Bucket) : State :=
  { s with net := { s.net with buckets := s.net.buckets.put m b } }

/-- The effective length of a message at a port, in bytes (R377). -/
def State.effLen (s : State) (port : Nat) (m : Msg) : Nat := m.cells * 16 + s.regs.fld (0x142000 + 16 * port) 15 8

/-- Mark a message of a length at its meter (R380). (DEDUCED, log entry 36.) -/
def State.markAt (s : State) (m len : Nat) : State × Mark :=
  let b := s.bucketNow m
  let l := len * 256000
  if s.regs.fld (m + 4) 23 0 = 0 then (s, .green)
  else if b.tp < l then (s.setBucket m b, .red)
  else if b.tc < l then (s.setBucket m { b with tp := b.tp - l }, .yellow)
  else (s.setBucket m { b with tc := b.tc - l, tp := b.tp - l }, .green)

/-- Is a message of a meter held red at any port? -/
def State.redHeld (s : State) (m : Nat) : Bool :=
  s.net.ports.any fun e => e.2.queue.any fun q => q.meter == some m && q.mark == .red

/-- The meter of a message that the pool sends or passes on as open traffic (R379): of its flow where that is valid in the active
plan, else of the District that the pool knows; none while its `PIR` is 0. -/
def State.meterOf (s : State) (m : Msg) (district : Option Nat) : Option Nat :=
  if m.cls != 0 && m.cls != 3 then none
  else
    let off := if m.flow != 0 && (s.flowEntry m.flow).isSome then some (0x194000 + 16 * m.flow)
      else district.map fun d => 0x190000 + 16 * d
    off.filter fun o => s.regs.fld (o + 4) 23 0 != 0

/-! ### Ports for messages -/

/-- Does a port hold the credit for a message on a VC (R347)? -/
def State.hasCredit (s : State) (port vc cells : Nat) : Bool := decide (cells ≤ ((s.jl port).credits.get vc).getD 0)

/-- What the rule of R366 gives a message. -/
inductive Choice where
  | via (port : Nat)
  | road (port : Nat)
  | wait
  | none
  deriving DecidableEq, Repr

/-- The port rule of R366, R367, R369 and R370 for a message with its route, arrival port and whether it has waited `ESC_WAIT`.
The second part says whether the rule would have chosen the arrival port. -/
def State.choose (s : State) (m : Msg) (e : RouteEnt) (arrival : Option Nat) (waited : Bool) : Choice × Bool :=
  let ok := fun p => s.usable p && arrival != some p
  let turn := s.usable e.pri && arrival == some e.pri
  let vc := 2 * m.cls
  if m.cls = 4 then
    (if ok e.pri then .via e.pri else if ok e.sec then .via e.sec else .none, turn)
  else if m.vc % 2 = 1 then
    (if ok e.esc then .road e.esc
     else if e.esc < 12 ∧ arrival ≠ some e.esc ∧ s.net.roadBroken then .wait else .none, s.usable e.esc && arrival == some e.esc)
  else if ok e.pri && s.hasCredit e.pri vc m.cells then (.via e.pri, turn)
  else if !ok e.pri && ok e.sec then (.via e.sec, turn)
  else if e.adapt && m.flow == 0 && ok e.sec && s.hasCredit e.sec vc m.cells then (.via e.sec, turn)
  else if waited && ok e.esc && !bitOf (s.regs.val 0x140004).toNat 24 then (.road e.esc, turn)
  else if ok e.pri || ok e.sec || ok e.esc then (.wait, turn)
  else (.none, turn)

/-- The cells queued for a port on a VC. -/
def LinkPort.depth (p : LinkPort) (vc : Nat) : Nat :=
  (p.queue.filter fun q => q.m.vc == vc).foldl (fun n q => n + q.m.cells) 0

/-- Put a message into a port's egress queue, marking it at its meter (R378, R380, R383). -/
def State.enqueue (s : State) (port : Nat) (q : Queued) : State :=
  let planned := q.m.flow != 0 && (s.flowEntry q.m.flow).isSome && s.planOn
  let r : State × Mark := match q.meter with
    | none => (s, .off)
    | some m =>
      if planned || q.m.vc % 2 == 1 then (s, .off)
      else if s.redHeld m then (s, .red)
      else s.markAt m (s.effLen port q.m)
  let s := r.1
  let s := if r.2 == .red then s.tally (0x1A8250 + 0x400 * port) 1 else s
  let s := if r.2 == .yellow then s.tally (0x1A8248 + 0x400 * port) 1 else s
  let p := s.jl port
  let p := { p with queue := p.queue ++ [{ q with mark := r.2, since := s.clock }] }
  let key := port * 16 + q.m.vc
  let s := s.setJl port p
  { s with net := { s.net with hwm := s.net.hwm.put key (max ((s.net.hwm.get key).getD 0) (p.depth q.m.vc)) } }

/-- Note a message without a route: at most one notice a second (R368). -/
def State.noteNoRoute (s : State) (dst : Nat) : State :=
  match s.net.lastNoRoute with
  | some t => if t + 1000000000 ≤ s.clock then
      ({ s with net := { s.net with lastNoRoute := some s.clock } }).raise Src.router 0x01 dst else s
  | none => ({ s with net := { s.net with lastNoRoute := some s.clock } }).raise Src.router 0x01 dst

/-- Give a message to its egress port, and say whether it had a route (R366, R368, R369). (DEDUCED, log entry 36.) -/
def State.tryPost (s : State) (m : Msg) (arrival : Option Nat) (district : Option Nat) : State × Bool :=
  match s.routeOf m.dst with
  | none => (s, false)
  | some e =>
    let c := s.choose m e arrival false
    let s := if c.2 then s.tally 0x140058 1 else s
    let q : Queued := ⟨m, arrival, e, s.clock, s.meterOf m district, .off, none⟩
    match c.1 with
    | .via p => (s.enqueue p q, true)
    | .road p => (s.enqueue p q, true)
    | .none => (s, false)
    | .wait =>
      if m.vc % 2 = 1 then ({ s with net := { s.net with held := s.net.held ++ [q] } }, true)
      else if e.pri < 12 ∧ arrival ≠ some e.pri then (s.enqueue e.pri q, true)
      else if e.sec < 12 ∧ arrival ≠ some e.sec then (s.enqueue e.sec q, true)
      else (s.enqueue e.esc { q with m := { m with vc := 2 * m.cls + 1 } }, true)

/-- Send a message of the pool's own; without a route it is discarded and counted (R368). -/
def State.post (s : State) (m : Msg) (district : Option Nat := none) : State :=
  let r := s.tryPost m none district
  if r.2 then r.1 else (r.1.noteNoRoute m.dst).tally 0x140048 1

/-- The opcode byte of a DAT message (R71). -/
def datCode : DatOp → Nat
  | .data => 0xC1
  | .earlyData => 0xC2
  | .comp => 0xC4
  | .atomicResult => 0xC5

/-- The cells of a DAT message (R71, R75, R76). -/
def datCells (d : Dat) : Nat :=
  match d.op, d.data with
  | .comp, _ => 1
  | .atomicResult, some _ => 2
  | _, some b => 1 + (b.length + 15) / 16
  | _, none => 1

/-- Send a DAT message with the flow of its request (R51, R70). -/
def State.sendDat (s : State) (port flow : Nat) (district : Option Nat) (d : Dat) : State :=
  (s.emit (.dat port d)).post ⟨3, 6, d.dst, s.node, flow, datCells d, datCode d.op, d.tag, s.out.length⟩ district

/-- Send an RCL message (R105): it is open traffic (R50). -/
def State.sendRcl (s : State) (op : RclOp) (dst tag district line : Nat) : State :=
  let code := match op with | .recall => 0x41 | .recallShared => 0x42 | .recallAll => 0x43
  (s.emit (.rcl 12 op dst tag district line)).post ⟨1, 2, dst, s.node, 0, 2, code, tag, s.out.length⟩

/-- Send a Settle (reason 0) or a Revoke on Bypass (R122). -/
def State.sendSettle (s : State) (dst tag reason : Nat) : State :=
  (s.emit (.settle 12 dst tag reason)).post ⟨4, 8, dst, s.node, 0, 1, 0x3F, tag, s.out.length⟩

/-- Send a Signal on Bypass (R180). -/
def State.sendSignal (s : State) (m : Signal) : State :=
  (s.emit (.signal 12 m)).post ⟨4, 8, m.node, s.node, 0, 2, 0x3F, m.cookie % 65536, s.out.length⟩

/-! ### Receiver buffers -/

/-- A message leaves a port's receiver buffer: its credits are owed to the partner (R347). -/
def State.takeRx (s : State) (port cls src : Nat) : State :=
  let p := s.jl port
  match p.rx.find? fun m => m.cls == cls && m.src == src with
  | none => s
  | some m => s.setJl port { p with rx := p.rx.erase m, owed := p.owed.put m.vc ((p.owed.get m.vc).getD 0 + m.cells) }

/-- The answer type that a request's opcode gets when it fails (R76). -/
def failOp (op : Nat) : DatOp :=
  if op = 0x01 ∨ op = 0x02 ∨ op = 0x03 then .data
  else if op = 0x0C ∨ op = 0x0D then .atomicResult
  else .comp

/-- A message has no route: a REQ is answered MISROUTED, and anything else is discarded (R368). -/
def State.noRoute (s : State) (m : Msg) : State :=
  let s := s.noteNoRoute m.dst
  if m.cls = 0 then
    (s.tally 0x140040 1).sendDat 12 m.flow none ⟨failOp m.op, m.src, m.tag, 7, 0, 0, none⟩
  else s.tally 0x140048 1

/-! ### Ports that change -/

/-- Route again every message that waits at a port (R366, R384). -/
def State.reroute (s : State) (port : Nat) : State :=
  let p := s.jl port
  let s := s.setJl port { p with queue := [] }
  p.queue.foldl (fun s q =>
    let c := s.choose q.m q.ent q.arrival false
    match c.1 with
    | .via n => s.enqueue n q
    | .road n => s.enqueue n q
    | .none => s.noRoute q.m
    | .wait => if q.m.vc % 2 = 1 then { s with net := { s.net with held := s.net.held ++ [{ q with since := s.clock }] } }
        else s.setJl port { s.jl port with queue := (s.jl port).queue ++ [q] }) s

/-- Does a valid entry of the route tables name a port as its `ESC_PORT` (R373)? -/
def State.onRoad (s : State) (port : Nat) : Bool :=
  s.regs.act.any fun e => decide (0x150000 ≤ e.1) && decide (e.1 < 0x190000) &&
    match s.routeOf ((e.1 - 0x150000) / 4) with
    | some r => r.esc == port
    | none => false

/-- Declare a link down: its unacknowledged flits go, RCL and RSP messages among them are sent again, the port's traffic moves, and one
notice names the port (R354, R373). (DEDUCED, log entry 13.) -/
def State.linkDown (s : State) (port : Nat) (packing : Bool) : State :=
  let p := s.jl port
  let lost := (p.buf.map (·.msgs)).flatten
  let s := s.setJl port { p with st := 7, width := 0, rev := 0, encOn := false, buf := [], asked := false, bad := 0, ctl := [],
                                 since := s.clock, rx := [], owed := [], lastRun := none, failed := 1 }
  let s := s.tally (jlBase port + 0x70) 1
  let broken := s.onRoad port
  let s := if broken then { s with net := { s.net with roadBroken := true } } else s
  let s := (s.raise (Src.link port) 0x01 (broken.toNat * 256 + packing.toNat * 512)).forgetPort port
  let s := s.reroute port
  (lost.filter fun m => m.cls == 1 || m.cls == 2).foldl (fun s m => s.post m) s

/-- Enter RETRAIN (R352). -/
def State.retrain (s : State) (port : Nat) (byDriver : Bool := false) : State :=
  let p := s.jl port
  if p.st = 5 then
    (s.setJl port { p with st := 6, since := s.clock, bad := 0, byDriver := byDriver }).tally (jlBase port + 0x68) 1
  else s

end Sys2Proof.Machine
end

