-- ==== Sys2Proof/Machine/Pages.lean ====
section
/-! DEFINITION. Shared operations over frames, District pages and Milestone maps: allocation under R85, the walk of R84, version
resolution under R167 and the need for a copy under R160. -/

namespace Sys2Proof.Machine

open Sys2Proof

/-! ### Frames -/

/-- The number of 4 KiB pages of a leaf of size code 0, 1 or 2 (R84). -/
def leafPages (size : Nat) : Nat := if size = 0 then 1 else if size = 1 then 512 else 262144

/-- The parity lines of a strength code (R282, R295). -/
def parityLines (strength : Nat) : Nat := 4 * 2 ^ strength

/-- The cost of n pages at a strength, in lines (R283). -/
def pageCost (n strength : Nat) : Nat := n * (64 + parityLines strength)

/-- The first start of an aligned run with a colour at or after a frame and without a bad frame, with as many tries as the fuel gives.
(DESIGN CHOICE, log entry 29.) -/
def Regs.findRun (g : Regs) (bad : NatSet) (run colour stop : Nat) : Nat → Nat → Option Nat
  | 0, _ => none
  | k + 1, a =>
    if stop < a + run then none
    else if g.colour (a * 4096) = colour ∧ !(bad.any fun f => decide (a ≤ f) && decide (f < a + run)) then some a
    else g.findRun bad run colour stop k (a + run)

/-- The first run of a colour in the freed intervals. (DESIGN CHOICE, log entry 29.) -/
def Regs.findFreed (g : Regs) (bad : NatSet) (run colour : Nat) : List (Nat × Nat) → Option Nat
  | [] => none
  | (f, n) :: t =>
    match g.findRun bad run colour (f + n) n (roundUp f run) with
    | some a => some a
    | none => g.findFreed bad run colour t

/-- The intervals (start, count) with a run taken out. -/
def takeRun (a run : Nat) : List (Nat × Nat) → List (Nat × Nat)
  | [] => []
  | (f, n) :: t =>
    if f ≤ a ∧ a + run ≤ f + n then
      (if f < a then [(f, a - f)] else []) ++ (if a + run < f + n then [(a + run, f + n - (a + run))] else []) ++ t
    else (f, n) :: takeRun a run t

/-- Allocate an aligned run of frames of a colour at a strength: a freed run where one fits, else new frames (R85, R283). (DESIGN CHOICE,
log entry 29.) -/
def State.allocRun (s : State) (run colour strength : Nat) : Option (Nat × State) :=
  let m := s.maps
  if m.frames * 64 < m.used + pageCost run strength then none
  else match s.regs.findFreed s.prot.retired run colour m.freed with
    | some a => some (a, { s with maps := { m with freed := takeRun a run m.freed, used := m.used + pageCost run strength } })
    | none =>
      match s.regs.findRun s.prot.retired run colour m.frames m.frames (roundUp m.nextFrame run) with
      | some a => some (a, { s with maps := { m with
          nextFrame := a + run, used := m.used + pageCost run strength,
          freed := if m.nextFrame < a then m.freed ++ [(m.nextFrame, a - m.nextFrame)] else m.freed } })
      | none => none

/-- Give a run of frames back to free space; a retired frame among them is never allocated again (R304). -/
def State.freeRun (s : State) (a run strength : Nat) : State :=
  let m := s.maps
  { s with maps := { m with freed := m.freed ++ [(a, run)], used := m.used - pageCost run strength } }

/-! ### District pages -/

/-- The key of a District page in the tables. -/
def pageKey (d p : Nat) : Nat := d * 2 ^ 36 + p

/-- The leaf entry that covers a District page, with the first page it covers (R84). -/
def Maps.leafAt (m : Maps) (d p : Nat) : Option (Nat × Leaf) :=
  match m.pages.get (pageKey d p) with
  | some l => some (p, l)
  | none =>
    let a := p / 512 * 512
    let b := p / 262144 * 262144
    match (m.pages.get (pageKey d a)).filter fun l => l.size == 1 with
    | some l => some (a, l)
    | none => ((m.pages.get (pageKey d b)).filter fun l => l.size == 2).map fun l => (b, l)

/-- Is the leaf entry of a page lost with a depot line (R292)? -/
def Maps.leafLost (m : Maps) (d p : Nat) : Bool :=
  match m.leafAt d p with
  | some (first, _) => m.lostLeaves.contains (pageKey d first)
  | none => false

/-- The frame behind a page of a leaf. -/
def leafFrame (first : Nat) (l : Leaf) (p : Nat) : Nat := l.addr + (p - first)

/-- The page-table level whose entry is not present for an unmapped page: the lowest table that a mapped page of the District has
below it stops the walk (R77, R84). -/
def Maps.missLevel (m : Maps) (d p : Nat) : Nat :=
  let near := fun k => m.pages.any fun e => e.1 / 2 ^ 36 == d && e.1 % 2 ^ 36 / k == p / k
  if near 512 then 1 else if near (512 * 512) then 2 else if near (512 * 512 * 512) then 3 else 4

/-- The state with the leaf entry at a page changed. -/
def State.setLeaf (s : State) (d first : Nat) (l : Leaf) : State :=
  { s with maps := { s.maps with pages := s.maps.pages.put (pageKey d first) l } }

/-- The pages of a District as (first page, leaf). -/
def Maps.leaves (m : Maps) (d : Nat) : List (Nat × Leaf) :=
  (m.pages.filter fun e => e.1 / 2 ^ 36 == d).map fun e => (e.1 % 2 ^ 36, e.2)

/-- The leaf, with its District and first page, whose frames hold a frame. -/
def Maps.ownerOf (m : Maps) (f : Nat) : Option (Nat × Nat × Leaf) :=
  (m.pages.find? fun e => (!e.2.tiered || e.2.resident) && decide (e.2.addr ≤ f) && decide (f < e.2.addr + leafPages e.2.size)).map
    fun e => (e.1 / 2 ^ 36, e.1 % 2 ^ 36, e.2)

/-- The District that owns a frame, or 0 for the depot and unmapped frames (R301). -/
def State.frameDistrict (s : State) (f : Nat) : Nat :=
  match s.maps.ownerOf f with
  | some o => o.1
  | none => ((s.ms.copies.get f).map (·.district)).getD 0

/-- The strength code at which a frame is protected; the depot is at S16 (R25, R283). -/
def State.frameStrength (s : State) (f : Nat) : Nat :=
  match s.maps.ownerOf f with
  | some o => o.2.2.strength
  | none => match s.ms.copies.get f with
    | some c => c.strength
    | none => 2

/-- The resident pages of a District, in pages (R313). -/
def State.residentPages (s : State) (d : Nat) : Nat :=
  ((s.maps.leaves d).filter fun e => !e.2.tiered || e.2.resident).foldl (fun n e => n + leafPages e.2.size) 0

/-- The mapped pages of a District. -/
def State.mappedPages (s : State) (d : Nat) : Nat :=
  (s.maps.leaves d).foldl (fun n e => n + leafPages e.2.size) 0

/-! ### Milestones -/

/-- The key of a Milestone slot. -/
def slotKey (d slot : Nat) : Nat := d * 16 + slot

/-- The key of a Milestone map entry. -/
def mapKey (d slot p : Nat) : Nat := slotKey d slot * 2 ^ 36 + p

def State.msSlot (s : State) (d slot : Nat) : Option MsSlot := s.ms.slots.get (slotKey d slot)
def State.setMsSlot (s : State) (d slot : Nat) (x : MsSlot) : State :=
  { s with ms := { s.ms with slots := s.ms.slots.put (slotKey d slot) x } }

/-- Is a page in a Milestone's cut ranges (R147)? -/
def MsSlot.covers (m : MsSlot) (p : Nat) : Bool := m.ranges.any fun r => decide (r.1 ≤ p) && decide (p ≤ r.2)

/-- The slots of a District whose Milestones need a copy of a page before it changes (R160). -/
def State.needCopy (s : State) (d p : Nat) : List Nat :=
  (List.range 16).filter fun k =>
    match s.msSlot d k with
    | some m => (m.st == 2 || m.st == 3) && m.covers p && !(s.ms.maps.has (mapKey d k p))
    | none => false

/-- The windows bound to a slot: `BOUND`. A window that is being changed counts under its old entry until the change completes (R151,
R567). -/
def State.bound (s : State) (d slot : Nat) : Nat :=
  let at' := fun (w : Window) => w.msBind && w.district == d && w.msSlot == slot
  (s.maps.windows.filter fun w => at' w.2).length +
    (s.maps.drains.filter fun x => match x.window with
      | some (k, w) => at' w && !((s.maps.windows.get k).map at').getD false
      | none => false).length

/-- The DRAM copy pages that count against a District's quota, those not yet returned included (R151, R162). -/
def State.dramCopies (s : State) (d : Nat) : Nat :=
  (s.ms.copies.filter fun c => c.2.district == d).length +
  ((s.ms.returning.filter fun r => r.1 / 16 == d).foldl (fun n r => n + (r.2.filter fun f => decide (f < 2 ^ 60)).length) 0) +
  (s.ms.copying.filter fun c => c.district == d && !c.landed && !c.abandoned).length

/-- The flash copy pages of a District. -/
def State.flashCopies (s : State) (d : Nat) : Nat :=
  (s.ms.fcopies.filter fun c => c.2.district == d).length +
  (s.ms.returning.filter fun r => r.1 / 16 == d).foldl (fun n r => n + (r.2.filter fun f => decide (2 ^ 60 ≤ f)).length) 0

/-- Raise COPY_SPACE for a District (R162): 0 at 90 %, 1 at the first wait. It comes from the Avenue that leads the copy. -/
def State.copySpace (s : State) (leader d data : Nat) : State :=
  s.raise (Src.avenue ((s.servedBy leader).getD leader)) 0x08 data (some d)

/-- Raise the 90 % notice of R162 once in an episode, and end the episode below 80 %. -/
def State.checkCopyLevel (s : State) (leader d : Nat) : State :=
  match s.district d with
  | none => s
  | some x =>
    let total := x.copyQuota + x.fcopyQuota
    let held := s.dramCopies d + s.flashCopies d
    if !x.spaceTold && decide (total * 90 ≤ held * 100) && decide (0 < total) then
      (s.setDistrict d { x with spaceTold := true }).copySpace leader d 0
    else if x.spaceTold && decide (held * 100 < total * 80) then s.setDistrict d { x with spaceTold := false }
    else s

/-- Write copy-on-write map leaves for slots (R161, R166). -/
def State.writeMaps (s : State) (d p : Nat) (slots : List Nat) (e : MapEnt) : State :=
  { s with ms := { s.ms with maps := slots.foldl (fun t k => t.put (mapKey d k p) e) s.ms.maps } }

/-- Put a change into the list of those that wait for copy space, with its notice at the first (R162). -/
def State.waitSpace (s : State) (p : Pend) (tell : Bool) : State :=
  let d := p.district
  let s := { s with ms := { s.ms with spaceWait := s.ms.spaceWait ++ [p] } }
  if !tell then s
  else
    let s := s.tally (s.avBase p.share + 0x410) 1
    match s.district d with
    | some x => if x.waitTold then s else (s.setDistrict d { x with waitTold := true }).copySpace p.share d 1
    | none => s

/-- A live change to a page that needs a copy: it joins the copy in progress, starts one as leader, or waits for space (R161, R162). -/
def State.startCopy (s : State) (p : Pend) (page frame : Nat) (slots : List Nat) : State :=
  let d := p.district
  if s.ms.copying.any fun c => c.district == d && c.page == page then
    { s with ms := { s.ms with copying := s.ms.copying.map fun c =>
        if c.district = d ∧ c.page = page then { c with waiting := c.waiting ++ [p] } else c } }
  else if 64 ≤ (s.ms.copying.filter fun c => c.leader == p.share).length then s.waitSpace p false
  else match s.district d with
    | none => s
    | some x =>
      if x.copyQuota ≤ s.dramCopies d then s.waitSpace p true
      else match s.allocRun 1 (s.regs.colour (frame * 4096)) x.strength with
        | none => s.waitSpace p true
        | some (f, s) =>
          let s := s.writeMaps d page slots ⟨false, false, true, f⟩
          let s := { s with ms := { s.ms with copying := s.ms.copying ++ [Copying.mk d page p.share f slots false false [] [p]] } }
          s.checkCopyLevel p.share d

/-- What a bound read resolves to (R167). -/
inductive Version where
  /-- The live page. -/
  | live
  /-- A copy page in DRAM. -/
  | copy (frame : Nat)
  /-- A copy on flash. -/
  | flash (locator : Nat)
  /-- XLATE_FAULT with a level. -/
  | fault (level : Nat)
  /-- The map entry was lost with a depot line (R292). -/
  | lost
  deriving DecidableEq, Repr

/-- Version resolution of a page for a slot (R149, R167). -/
def State.resolveVersion (s : State) (d slot p : Nat) : Version :=
  if s.ms.lostMaps.contains (mapKey d slot p) then .lost
  else match s.ms.maps.get (mapKey d slot p) with
  | some e =>
    if e.copying then .live else if e.absent then .fault 1 else if e.flash then .flash e.addr else .copy e.addr
  | none => if (s.maps.leafAt d p).isSome then .live else .fault (s.maps.missLevel d p)

end Sys2Proof.Machine
end

