-- ==== Sys2Proof/Machine/Lines.lean ====
section
/-! DEFINITION. Shared operations on lines: where a line lies (R262, R263), DRAM accesses, the mirror and partial writes (R30 to R33,
R287), acknowledgements and final answers. -/

namespace Sys2Proof.Machine

open Sys2Proof

/-! ### Where a line lies -/

/-- Mask k of the bank mapping, as a mask of local address bits (R263). -/
def Regs.dmapMask (g : Regs) (k : Nat) : Nat := (g.val (0x10120 + 4 * k)).toNat * 2 ^ 8

/-- Mapped field k of a local address: 0 CH, 1 SC, 2 to 4 BG0 to BG2, 5 and 6 BA0 and BA1 (R263). -/
def Regs.mapped (g : Regs) (k la : Nat) : Nat := (parityOf 40 (la &&& g.dmapMask k)).toNat

/-- The channel of a line, where it has not moved (R262, R263). -/
def Regs.chanOf (g : Regs) (line : Nat) : Nat := 2 * g.home (line * 64) + g.mapped 0 (localAddr (line * 64))

/-- The sub-channel of a line. -/
def Regs.scOf (g : Regs) (line : Nat) : Nat := g.mapped 1 (localAddr (line * 64))

/-- Row width of R262. -/
def geomRw (t : TrainResult) : Nat := 16 + t.density

/-- The bank group of a line (R262). -/
def Regs.bgOf (g : Regs) (la : Nat) : Nat := g.mapped 2 la + 2 * g.mapped 3 la + 4 * g.mapped 4 la
/-- The bank of a line within its group (R262). -/
def Regs.baOf (g : Regs) (la : Nat) : Nat := g.mapped 5 la + 2 * g.mapped 6 la
/-- The column line index of a line (R262). -/
def colOf (la : Nat) : Nat := bitsOf la 7 6 + 4 * bitsOf la 19 15
/-- The rank of a line (R262). -/
def rankOf (t : TrainResult) (la : Nat) : Nat := la / 2 ^ 20 % 2 ^ t.rk
/-- The row of a line (R262). -/
def rowOf (t : TrainResult) (la : Nat) : Nat := la / 2 ^ (20 + t.rk) % 2 ^ geomRw t

/-- The BAR0 base of a channel's DC block. -/
def dcBase (m : Nat) : Nat := 0x500000 + m * 0x10000

/-! ### Units at reset -/

/-- A channel's controller at reset (R276). -/
def ChanSt.init : ChanSt :=
  { inService := true, mode := 0, ordCause := 1, hot := false, temp := 0, pause := false, pauses := 0, drain := false, owed := [],
    raa := [], corr := [], driftTarget := 0, reads := [], writes := [] }
/-- A channel's protection at reset (R309). -/
def ChanProt.init : ChanProt := ⟨0, false, 0, none, [], 0, 0, 0, 0, []⟩
/-- An arbiter at reset (R276). -/
def Arb.init : Arb := ⟨[], [0, 0, 0, 0, 0, 0], 7, 0, 0, []⟩
/-- A scrubber at reset (R308). -/
def Scrub.init : Scrub := ⟨0, 0, 0, 0, false⟩

def State.chan (s : State) (m : Nat) : ChanSt := (s.dram.chans.get m).getD ChanSt.init
def State.setChan (s : State) (m : Nat) (x : ChanSt) : State := { s with dram := { s.dram with chans := s.dram.chans.put m x } }
def State.cprot (s : State) (m : Nat) : ChanProt := (s.prot.chans.get m).getD ChanProt.init
def State.setCprot (s : State) (m : Nat) (x : ChanProt) : State := { s with prot := { s.prot with chans := s.prot.chans.put m x } }
def State.arb (s : State) (n : Nat) : Arb := (s.dram.arbs.get n).getD Arb.init
def State.setArb (s : State) (n : Nat) (x : Arb) : State := { s with dram := { s.dram with arbs := s.dram.arbs.put n x } }
def State.scrub (s : State) (n : Nat) : Scrub := (s.prot.scrubs.get n).getD Scrub.init
def State.setScrub (s : State) (n : Nat) (x : Scrub) : State := { s with prot := { s.prot with scrubs := s.prot.scrubs.put n x } }

/-- Is a share served and open (R21, R416)? -/
def State.isOpen (s : State) (n : Nat) : Bool := (s.share n).st == .opened

/-! ### DRAM accesses -/

/-- Make an access ready at the arbiter of a line's home share, unless one for the line is waiting already (R270). (DEDUCED, log entry 50.)
-/
def State.access (s : State) (line : Nat) (write : Bool) (input : Nat) : State :=
  let n := s.regs.home (line * 64)
  let a := s.arb n
  let c := s.chan (s.regs.chanOf line)
  if !write && (a.ready.any (fun x => x.line == line && !x.write) || c.reads.any (fun x => x.line == line)) then s
  else s.setArb n { a with ready := a.ready ++ [⟨line, write, input, s.clock⟩] }

/-- An access of a line has been issued to DRAM: it leaves the arbiter and the controller queue, and a write drain ends at `WR_LOW` (R260).
(DEDUCED, log entry 50.) -/
def State.accessDone (s : State) (line : Nat) (write : Bool) : State :=
  let n := s.regs.home (line * 64)
  let m := s.regs.chanOf line
  let drop := fun (l : List Access) => l.filter fun x => !(x.line == line && x.write == write)
  let a := s.arb n
  let c := s.chan m
  let s := s.setArb n { a with ready := drop a.ready }
  let writes := if write then drop c.writes else c.writes
  s.setChan m { c with reads := if write then c.reads else drop c.reads, writes := writes,
                       drain := c.drain && decide (s.regs.fld (dcBase m + 8) 6 0 < writes.length) }

/-- A write that the flip mask of a channel corrupts (R306): `parity` says of which kind it is. (DESIGN CHOICE, log entry 54.) -/
def State.flipWrite (s : State) (m sc line : Nat) (parity : Bool) (la : Nat) : State :=
  let off := dcBase m + 0x200
  let v := (s.regs.val off).toNat
  let target := bitsOf v 3 2
  if bitOf v 0 && bitsOf v 4 4 == sc && (target == 0 || (target == 1 && !parity) || (target == 2 && parity)) then
    let c := s.cprot m
    let fired := c.fired + 1
    let s := s.setCprot m { c with fired := fired, flipLa := la, flipped := (line :: c.flipped.filter (· != line)).take 255 }
    if fired = bitsOf v 15 8 then
      ({ s with regs := (s.regs.setFld off 0 0 0).setFld (off + 4) 0 0 1 }).raise (Src.channel m) Config.flipCause 0
    else s
  else s

/-- Write a whole line to DRAM (R280, R306). (DEDUCED, log entry 38.) -/
def State.dramWrite (s : State) (line : Nat) (d : LineData) (poison : Bool) : State :=
  let m := s.regs.chanOf line
  let s := { s with mem := s.mem.putDram line d poison }
  let c := s.cprot m
  let s := s.setCprot m { c with flipped := c.flipped.filter (· != line) }
  ((s.accessDone line true).tally (dcBase m + 0x28) 1).flipWrite m (s.regs.scOf line) line false (localAddr (line * 64))

/-! ### Requests and their answers -/

/-- The next free value. -/
def State.waitHint (s : State) : Nat := (Config.waitHint s.free).toNat

/-- The `DETAIL` of a RETRY_LATER (R77, R83): the hint is 0 for FAILOVER, UNSERVED and HELD. -/
def State.retryDetail (s : State) (reason : Nat) : Nat :=
  if reason = Rl.failover ∨ reason = Rl.unserved ∨ reason = Rl.held then reason
  else if reason = Rl.handover then
    match s.avail.handover with
    | some h => reason + ((h.instant + 20000 - s.time.ft + 127) / 128 % 65536) * 256
    | none => reason
  else reason + s.waitHint * 256

/-- A request has had its final answer: its tracker and its ledger entry are free (R80, R83). -/
def State.closeReq (s : State) (p : Pend) : State :=
  { s with coh := { s.coh with
      trackers := s.coh.trackers.filter fun t => !(t.port == p.port && t.src == p.src && t.tag == p.tag && t.elem == p.elem),
      ledger := s.coh.ledger.filter fun t => !(t.port == p.port && t.src == p.src && t.tag == p.tag && t.elem == p.elem) } }

/-- The answer type of a request; an Atomic-Any that is granted near is answered by Data, and one that fails by AtomicResult (R76). -/
def ReqOp.answer (op : ReqOp) (good : Bool) : DatOp :=
  match op with
  | .readShared | .readOwn | .readOnce | .engineRead => .data
  | .writeLine | .writeBack | .commit => .comp
  | .atomicFar _ _ | .atomicAny _ _ | .crossing _ => .atomicResult
  | .atomicNear => if good then .data else .atomicResult

/-- The 16-byte cells that cover a range (R75). -/
def coverCells (off len : Nat) : Nat := (roundUp (off + len) 16 - off / 16 * 16) / 16

/-- Words of 0xDEADBEEF over an element, in the cells that cover it; the bytes outside it are free (R75, R89). -/
def deadBeef (draw off len : Nat) : List Byte :=
  (List.range (coverCells off len * 16)).map fun i =>
    let k := off / 16 * 16 + i
    if off ≤ k ∧ k < off + len then
      (if i % 4 = 0 then 0xEF else if i % 4 = 1 then 0xBE else if i % 4 = 2 then 0xAD else 0xDE)
    else Config.freeByte draw k

/-- Count an element's outcome in its gather, and send the closing Comp after the last (R89). (DEDUCED, log entry 40.) -/
def State.gatherDone (s : State) (p : Pend) (k status : Nat) : State :=
  match s.coh.gathers.find? fun g => g.port == p.port && g.src == p.src && g.tag == p.tag with
  | none => s
  | some g =>
    let fault := status == Jl.xlateFault || status == Jl.accessFault || status == Jl.poison
    let g' : Gather := { g with
      left := g.left - 1,
      faults := if fault then g.faults ||| 2 ^ k else g.faults,
      retries := if status = Jl.retryLater then g.retries ||| 2 ^ k else g.retries,
      first := if fault then (match g.first with
        | some f => if k < f.1 then some (k, status) else some f
        | none => some (k, status)) else g.first }
    let s := { s with coh := { s.coh with gathers := s.coh.gathers.map fun x => if x = g then g' else x } }
    if g'.left = 0 then
      let st := match g'.first with
        | some f => f.2
        | none => if g'.retries ≠ 0 then Jl.retryLater else Jl.ok
      let s := s.sendDat p.port p.flow (some p.district) ⟨.comp, p.src, p.tag, st, 0, g'.faults + g'.retries * 65536, none⟩
      { s with coh := { s.coh with
          gathers := s.coh.gathers.filter (· != g'),
          ledger := s.coh.ledger.filter fun t => !(t.port == p.port && t.src == p.src && t.tag == p.tag && t.elem == none) } }
    else s

/-- Send a request's final answer and close it (R76, R89). Port 12 is the pool itself, to which nothing is sent. -/
def State.reply (s : State) (p : Pend) (status detail : Nat) (data : Option (List Byte)) : State :=
  if p.port = 12 then s.closeReq p
  else match p.elem with
    | none => (s.sendDat p.port p.flow (some p.district) ⟨p.op.answer (status == Jl.ok), p.src, p.tag, status, 0, detail, data⟩).closeReq p
    | some k =>
      let fault := status == Jl.xlateFault || status == Jl.accessFault || status == Jl.poison
      let data := if fault then some (deadBeef s.free (p.da % 64) p.len) else data
      let s := if fault && (p.da % 16 != 0 || p.len % 16 != 0) then s.draw else s
      ((s.sendDat p.port p.flow (some p.district) ⟨.data, p.src, p.tag, status, k, detail, data⟩).closeReq p).gatherDone p k status

/-- Answer a request RETRY_LATER (R82). -/
def State.retry (s : State) (p : Pend) (reason : Nat) : State :=
  let d := s.retryDetail reason
  ((if reason = Rl.failover ∨ reason = Rl.unserved ∨ reason = Rl.held ∨ reason = Rl.handover then s else s.draw)).reply p
    Jl.retryLater d none

/-! ### Partial writes and the mirror -/

/-- The mirror entries of a share. -/
def State.mirrorUsed (s : State) (n : Nat) : Nat := (s.mem.mirror.filter fun e => s.regs.home (e.1 * 64) == n).length

/-- The WRITING mirror entries of a share (R293). -/
def State.mirrorWriting (s : State) (n : Nat) : Nat :=
  (s.mem.mirror.filter fun e => s.regs.home (e.1 * 64) == n && e.2.writing).length

/-- Start a partial write of a line: its old value is read first (R287). -/
def State.startUpdate (s : State) (line : Nat) : State :=
  if s.prot.updates.any fun u => u.line == line && !u.issued then s
  else
    let s := { s with prot := { s.prot with updates := s.prot.updates ++ [Update.mk line 0 false false false [] []] } }
    s.access line false 5

/-- The oldest mirrored dirty line of a share that is not being written (R32). -/
def State.oldestMirror (s : State) (n : Nat) : Option Nat :=
  let es := s.mem.mirror.filter fun e => s.regs.home (e.1 * 64) == n && !e.2.writing
  (es.foldl (fun (best : Option (Nat × Mirror)) e => match best with
    | none => some e
    | some b => if e.2.age < b.2.age then some e else some b) none).map (·.1)

/-- Put a copy of a written line into the partner's mirror region, or make it wait for a free entry while the oldest line is written
back (R30, R32, R293). -/
def State.mirrorPut (s : State) (line : Nat) (d : LineData) (confirmed : Bool) : State :=
  let n := s.regs.home (line * 64)
  let m := s.mem
  let age := m.mirrorAge
  let put := { s with mem := { m with mirror := m.mirror.put line ⟨d, confirmed, false, age⟩, mirrorAge := age + 1 } }
  match m.mirror.get line with
  | some e => { s with mem := { m with mirror := m.mirror.put line ⟨d, confirmed, false, e.age⟩ } }
  | none =>
    if s.mirrorUsed n < 65536 then put
    else
      let s := ({ s with mem := { m with mirrorWait := m.mirrorWait ++ [line] } }).tally (s.avBase n + 0x728) 1
      match s.oldestMirror n with
      | some o => s.startUpdate o
      | none => s

/-- Does share n acknowledge a write only from DRAM (R31)? -/
def State.writeThrough (s : State) (n : Nat) : Bool := (s.share n).wthru || !s.isOpen ((n + 1) % 8)

/-- Apply new bytes to a line at its home: line cache, snoop-invalidate, mirror or write-through (R30, R31, R119). The second part
says what the acknowledgement still needs: mirror, snoop lap, DRAM. -/
def State.homeWrite (s : State) (line : Nat) (d : LineData) (mask : BitVec 64) (confirmed : Bool) : State × Bool × Bool × Bool :=
  let n := s.regs.home (line * 64)
  let full := mask == BitVec.allOnes 64
  let new := if full then d else mergeLine (s.mem.line line) d mask
  let poison := s.mem.poisoned line && !full
  let marked := ((s.mem.cache.get line).map (·.mark)).getD false
  let s := if marked then (s.emit (.snoop line)).tally (s.avBase n + 0x340) 1 else s
  let s := { s with mem := { s.mem.noteWrite line mask with cache := s.mem.cache.put line ⟨new, true, poison, marked⟩ } }
  if s.writeThrough n then (s.startUpdate line, false, marked, true)
  else (s.mirrorPut line new confirmed, !confirmed, marked, false)

/-- Hold the answer to an applied change until what it needs has come about (R30, R31, R119), or send it at once. -/
def State.ackOrReply (s : State) (line : Nat) (p : Pend) (a : Dat) (need : Bool × Bool × Bool) (after : List Signal) : State :=
  if need.1 || need.2.1 || need.2.2 then
    { s with coh := { s.coh with acks := s.coh.acks ++ [Ack.mk line need.1 need.2.1 need.2.2 p a after] } }
  else
    let s := if p.port = 12 then s.closeReq p else (s.sendDat p.port p.flow (some p.district) a).closeReq p
    after.foldl (fun s m => (s.tallyAv (m.crossing % 8) 0x510).sendSignal m) s

/-- Send the answers whose acknowledgement is complete (R30, R119, R181). -/
def State.releaseAcks (s : State) : State :=
  let ready := s.coh.acks.filter fun a => !a.needMirror && !a.needSnoop && !a.needDram
  let s := { s with coh := { s.coh with acks := s.coh.acks.filter fun a => a.needMirror || a.needSnoop || a.needDram } }
  ready.foldl (fun s a => s.ackOrReply a.line a.p a.answer (false, false, false) a.after) s

/-- The page of an update is not quiesced, and the share may have another WRITING entry (R287, R293). -/
def State.mayIssue (s : State) (line : Nat) : Bool :=
  !((s.prot.recons.get (line / 64)).map (·.quiet)).getD false && decide (s.mirrorWriting (s.regs.home (line * 64)) < 1024)

/-- Issue the data write of an update whose old value is known, and owe its parity writes (R287, step 3). -/
def State.issueUpdate (s : State) (line : Nat) : State :=
  match s.prot.updates.find? fun u => u.line == line && u.oldRead && !u.issued with
  | none => s
  | some u =>
    if !s.mayIssue line then s
    else
      let d := s.mem.line line
      let poison := s.mem.poisoned line
      let owes := List.range (parityLines (s.frameStrength (line / 64)))
      let s := { s with prot := { s.prot with updates := s.prot.updates.map fun x =>
        if x = u then { u with value := d, poison := poison, issued := true, owes := owes } else x } }
      let s := { s with mem := { s.mem with
        cache := s.mem.cache.adjust line fun c => { c with dirty := false },
        mirror := s.mem.mirror.adjust line fun e => { e with writing := true } } }
      s.dramWrite line d poison

/-- An update has finished: its mirror entry is freed and given to a waiting line, and a write-through is acknowledged (R31 to R33). -/
def State.finishUpdates (s : State) : State :=
  let done := s.prot.updates.filter fun u => u.issued && u.owes.isEmpty && u.queued.isEmpty
  let s := { s with prot := { s.prot with updates := s.prot.updates.filter fun u => !(u.issued && u.owes.isEmpty && u.queued.isEmpty) } }
  done.foldl (fun s u =>
    let n := s.regs.home (u.line * 64)
    let freed := ((s.mem.mirror.get u.line).map (·.writing)).getD false
    let s := if freed then { s with mem := { s.mem with mirror := s.mem.mirror.del u.line } } else s
    let s := match s.mem.mirrorWait.find? fun l => s.regs.home (l * 64) == n with
      | some l => if freed then
          ({ s with mem := { s.mem with mirrorWait := s.mem.mirrorWait.erase l } }).mirrorPut l (s.mem.line l) false else s
      | none => s
    let s := { s with coh := { s.coh with acks := s.coh.acks.map fun (a : Ack) =>
      if a.line = u.line ∧ !(s.prot.updates.any fun v => v.line == u.line) then { a with needDram := false } else a } }
    s.releaseAcks) s

/-- Note an access to a District page: its referenced bit, and that a change makes a tiered page Dirty (R313, R321). -/
def State.touchPage (s : State) (d page : Nat) (change : Bool) : State :=
  match s.maps.leafAt d page with
  | some (first, l) =>
    if l.tiered then s.setLeaf d first { l with referenced := true, dirty := l.dirty || change } else s
  | none => s

end Sys2Proof.Machine
end

