-- ==== Sys2Proof/Machine/ErrLog.lean ====
section
/-! DEFINITION. The error log (R301, R302) and its notices (R440). -/

namespace Sys2Proof.Machine

open Sys2Proof

/-- An error record about a data line, with its DRAM location (R301). -/
def State.errAt (s : State) (type line : Nat) : ErrRec :=
  let pa := line * 64
  let la := localAddr pa
  let g := s.regs
  { seq := 0, ft := s.time.ft, type := type, test := (s.cprot (g.chanOf line)).flipped.contains line, parity := false, detour := false,
    ch := g.chanOf line, sc := g.scOf line, rank := rankOf s.dram.geom la, bg := g.bgOf la, ba := g.baOf la,
    row := rowOf s.dram.geom la, col := colOf la, device := 15, line := line, district := s.frameDistrict (line / 64), count := 1,
    detail := 0, strength := s.frameStrength (line / 64), share := g.home pa }

/-- The share of parity line j of a frame (R283). -/
def parityShare (frame j : Nat) : Nat := (frame + j) % 8

/-- The channel of parity line j of a frame (R283). (DESIGN CHOICE, log entry 54.) -/
def parityChan (frame j : Nat) : Nat := 2 * parityShare frame j + (frame / 8 + j / 8) % 2

/-- An error record about a parity line, with the DRAM location at which it is stored (R283, R301). -/
def State.errParity (s : State) (type frame j : Nat) : ErrRec :=
  let p := Config.parityPlace frame j
  { s.errAt type (frame * 64) with
      parity := true, test := false, ch := parityChan frame j, sc := bitsOf p 0 0, rank := bitsOf p 3 1, bg := bitsOf p 6 4,
      ba := bitsOf p 8 7, row := bitsOf p 25 9, col := bitsOf p 32 26, line := frame * 64 + j, share := parityShare frame j }

/-- Append a record: a CE joins the previous CE record of the same row and device when that is less than 1 s old; the log keeps the
last 65,536 records (R301, R302). -/
def State.logErr (s : State) (r : ErrRec) : State :=
  let same := fun (x : ErrRec) => x.type == 1 && r.type == 1 && x.ch == r.ch && x.sc == r.sc && x.rank == r.rank && x.bg == r.bg &&
    x.ba == r.ba && x.row == r.row && x.device == r.device && decide (r.ft < x.ft + 1000000000)
  if s.prot.log.any same then
    { s with prot := { s.prot with log := s.prot.log.map fun x => if same x then { x with count := min 255 (x.count + 1) } else x } }
  else
    let log := s.prot.log ++ [{ r with seq := s.prot.nextSeq }]
    { s with prot := { s.prot with log := log.drop (log.length - 65536), nextSeq := s.prot.nextSeq + 1 } }

/-- Log a record and raise the notice that its type has (R302, R440). -/
def State.logNotice (s : State) (r : ErrRec) : State :=
  let seq := s.prot.nextSeq
  let d := if r.district = 0 then none else some r.district
  let s := s.logErr r
  if r.type = 3 then s.raise (Src.channel r.ch) 0x02 seq d
  else if r.type = 4 then s.raise (Src.channel r.ch) 0x03 seq d
  else s

end Sys2Proof.Machine
end

