-- ==== Sys2Proof/Machine/Fills.lean ====
section
/-! DEFINITION. Shared operations of the flash tier: groups and locators (R314, R315), NVMe commands, and the start of a fill (R318). -/

namespace Sys2Proof.Machine

open Sys2Proof

/-- The group of a locator (R315). -/
def locGroup (loc : Nat) : Nat := loc / 2 ^ 36
/-- The page of a locator within its group (R315). -/
def locPage (loc : Nat) : Nat := loc % 2 ^ 36

def State.group (s : State) (g : Nat) : Option Group := s.flash.groups.get g
def State.setGroup (s : State) (g : Nat) (x : Group) : State := { s with flash := { s.flash with groups := s.flash.groups.put g x } }

/-- A slot at reset (R328). -/
def SsdSlot.init : SsdSlot :=
  { st := 0, present := false, retries := 0, since := 0, notBefore := 0, first := false, perst := true, linked := false, width := 0,
    rate := 0, lbas := 0, pg := false, flt := false, usable := false, retry := false, resetAt := none }

def State.ssd (s : State) (n : Nat) : SsdSlot := (s.flash.slots.get n).getD SsdSlot.init
def State.setSsd (s : State) (n : Nat) (x : SsdSlot) : State := { s with flash := { s.flash with slots := s.flash.slots.put n x } }

/-- Is member i of a group in service? -/
def Group.up (g : Group) (i : Nat) : Bool := ((g.members[i]?).map (·.ok)).getD false

/-- Members that a group may lose (R314). -/
def Group.spare (g : Group) : Nat := if g.mode = 0 then 0 else g.mode

/-- Has a group lost more members than its mode allows (R327)? -/
def Group.isLost (g : Group) : Bool := g.st == 2 || decide (g.spare < (g.members.filter fun m => !m.ok).length)

/-- Where a page's data lies: member and block (R315). (DESIGN CHOICE, log entry 58.) -/
def Group.place (g : Group) (p : Nat) : Nat × Nat :=
  if g.mode = 2 then ((p % 8 + p / 8) % 10, p / 8)
  else if g.mode = 1 then (p % 2, p)
  else (0, p)

/-- The blocks to read for a page: the page's own block, or those that rebuild it (R315, R327). -/
def Group.readPlan (g : Group) (p : Nat) : List (Nat × Nat) :=
  let at' := g.place p
  if g.mode = 1 then (if g.up at'.1 then [at'] else [(1 - at'.1, p)])
  else if g.mode = 2 then
    if g.up at'.1 then [at']
    else (((List.range 10).filter fun i => i != at'.1 && g.up i).take 8).map fun i => (i, at'.2)
  else [at']

/-- The blocks to write for a page: both mirrors, or data, P and Q (R315, R322); failed members are skipped (R327). -/
def Group.writePlan (g : Group) (p : Nat) : List (Nat × Nat) :=
  let at' := g.place p
  let all := if g.mode = 1 then [(0, p), (1, p)]
    else if g.mode = 2 then [at', ((8 + at'.2) % 10, at'.2), ((9 + at'.2) % 10, at'.2)]
    else [at']
  all.filter fun m => g.up m.1

/-- Issue NVMe commands for a District page at members of a group; gives the slots and identifiers. -/
def State.nvmeIssue (s : State) (g : Group) (op d page : Nat) : List (Nat × Nat) → State × List (Nat × Nat)
  | [] => (s, [])
  | (i, lba) :: t =>
    let slot := ((g.members[i]?).map (·.slot)).getD 0
    let cid := s.flash.nextCid
    let s := (s.emit (.nvme slot cid op lba 1))
    let s := { s with flash := { s.flash with nextCid := cid + 1, cmds := s.flash.cmds ++ [NvmeCmd.mk slot cid op lba d page s.clock none] } }
    let r := s.nvmeIssue g op d page t
    (r.1, (slot, cid) :: r.2)

/-- Allocate a locator of a group: a freed page, or the next one beyond the metadata area (R313 to R316). -/
def State.allocLoc (s : State) (g : Nat) : Option (Nat × State) :=
  match s.group g with
  | none => none
  | some x =>
    match x.freed with
    | p :: t => some (g * 2 ^ 36 + p, s.setGroup g { x with freed := t })
    | [] => if x.metaPages + x.nextPage < x.pages then
        some (g * 2 ^ 36 + x.metaPages + x.nextPage, s.setGroup g { x with nextPage := x.nextPage + 1 })
      else none

/-- One byte of flash content that nothing has written reads as 0. (DESIGN CHOICE, log entry 58.) -/
def State.flashLine (s : State) (loc i : Nat) : Nat := readBytes s.flash.cells (loc * 4096 + i * 64) 64

/-- Write a whole page of flash: its lines and the mask of its poisoned lines (R316, R322). (DESIGN CHOICE, log entry 58.) -/
def State.putFlash (s : State) (loc : Nat) (lines : List (Nat × Nat)) (mask : BitVec 64) : State :=
  { s with flash := { s.flash with
      cells := lines.foldl (fun c l => writeBytes c (loc * 4096 + l.1 * 64) 64 l.2) s.flash.cells,
      poison := if mask = 0 then s.flash.poison.del loc else s.flash.poison.put loc mask,
      written := s.flash.written.ins loc } }

/-- Give a locator back to its group; its content is deallocated (R316). -/
def State.freeLoc (s : State) (loc : Nat) : State :=
  let s := { s with flash := { s.flash with poison := s.flash.poison.del loc, written := s.flash.written.rem loc } }
  match s.group (locGroup loc) with
  | some g => s.setGroup (locGroup loc) { g with freed := g.freed ++ [locPage loc] }
  | none => s

/-- Does a locator belong to a Milestone map (R316)? -/
def State.copyLocator (s : State) (loc : Nat) : Bool := s.ms.fcopies.has loc

/-- Is a fill one of a Milestone's copy page, and not of the District page itself (R164, R167)? (DEDUCED, log entries 31, 57.) -/
def State.copyFill (s : State) (d page loc : Nat) : Bool :=
  match s.maps.leafAt d page with
  | some (_, l) => !(l.tiered && !l.resident && l.addr == loc)
  | none => true

/-- Resident pages that a District's allotment counts: those in DRAM and those whose fill has a frame (R318). -/
def State.allotted (s : State) (d : Nat) : Nat :=
  s.residentPages d + (s.flash.fills.filter fun f => f.district == d && f.frame.isSome && !s.copyFill d f.page f.locator).length

/-- The state with a fill record replaced. -/
def State.setFill (s : State) (f : FillRec) : State :=
  { s with flash := { s.flash with fills := s.flash.fills.map fun x => if x.district = f.district ∧ x.page = f.page ∧ x.locator = f.locator then f else x } }

/-- Give a fill its frame and start its reads, when the allotment allows (R318, R319, R320). -/
def State.tryFill (s : State) (f : FillRec) : State :=
  match f.frame, s.district f.district with
  | none, some x =>
    if !s.copyFill f.district f.page f.locator && decide (x.residentMax ≤ s.allotted f.district) then s
    else match s.allocRun 1 (s.regs.colour (f.page * 4096)) x.strength with
      | none => s
      | some (fr, s) =>
        if !(s.flash.written.contains f.locator) then s.setFill { f with frame := some fr, got := true }
        else match s.group (locGroup f.locator) with
          | none => s.setFill { f with frame := some fr, got := true, lost := true }
          | some g =>
            if g.isLost then s.setFill { f with frame := some fr, got := true, lost := true }
            else
              let r := s.nvmeIssue g 0 f.district f.page (g.readPlan (locPage f.locator))
              r.1.setFill { f with frame := some fr, reads := r.2 }
  | _, _ => s

/-- A fill that a request joins or starts (R318). -/
def State.joinFill (s : State) (d page loc : Nat) (waiting : List Pend) : State :=
  match s.flash.fills.find? fun f => f.district == d && f.page == page && f.locator == loc with
  | some f => s.setFill { f with waiting := f.waiting ++ waiting }
  | none =>
    let f : FillRec := ⟨d, page, loc, none, [], false, false, [], waiting⟩
    ({ s with flash := { s.flash with fills := s.flash.fills ++ [f] } }).tryFill f

/-- A request arrives for a page that is being demoted: the demotion is abandoned, and a locator that it took is freed (R323). -/
def State.abandonDemotion (s : State) (d page : Nat) : State :=
  match s.flash.demos.find? fun x => x.district == d && x.page == page with
  | none => s
  | some x =>
    let held := (s.maps.leafAt d page).bind (·.2.flash)
    let s := { s with flash := { s.flash with demos := s.flash.demos.filter (· != x) } }
    match x.locator with
    | none => s
    | some loc =>
      if held = some loc then s
      else match s.group (locGroup loc) with
        | some g => s.setGroup (locGroup loc) { g with freed := g.freed ++ [locPage loc] }
        | none => s

/-- Trackers that wait on a fill in a share: `FILL_HELD` (R83). -/
def State.fillHeld (s : State) (share : Nat) : Nat :=
  s.flash.fills.foldl (fun n f => n + (f.waiting.filter fun p => p.port != 12 && p.steer == share).length) 0

/-! ### Slots -/

/-- Does a slot exist at the bifurcation taken at bring-up (R325, R333)? -/
def State.slotExists (s : State) (n : Nat) : Bool := decide (n < 16) && (n % 4 == 0 || bitOf s.boot.bifurcation (n / 4))

/-- Drive a slot's enable (group 0) or its PCIe reset (group 1), both active at level true (R328, R552). -/
def State.slotPin (s : State) (group n : Nat) (level : Bool) : State := s.emit (.pin group n level)

/-- A present card in an EMPTY slot (R328): to WAIT with `AUTO_ON`, else to OFF. -/
def State.slotArrive (s : State) (n : Nat) : State :=
  let x := s.ssd n
  if s.boot.flashStarted && s.slotExists n && x.present && x.st == 0 then
    s.setSsd n { x with st := if s.regs.fld 0x600004 0 0 = 1 then 2 else 1, since := s.clock, retries := 0, notBefore := s.clock, first := false }
  else s

end Sys2Proof.Machine
end

