-- ==== Sys2Proof/Machine/Home.lean ====
section
/-! DEFINITION. What a home share does with a request: the directory, recalls, far operations, early data and the completion of BUSY
states (R109 to R144), and the translation that leads there (R84 to R87, R167). -/

namespace Sys2Proof.Machine

open Sys2Proof

/-! ### The directory -/

/-- The nodes with a valid route-table entry (R365). (DEDUCED, log entry 39.) -/
def State.validNodes (s : State) : List Nat :=
  (s.regs.act.filter fun e => decide (0x150000 ≤ e.1) && decide (e.1 < 0x190000) && s.validNode ((e.1 - 0x150000) / 4)).map
    fun e => (e.1 - 0x150000) / 4

/-- Does a window let in a node's group (R79)? -/
def Window.admits (w : Window) (node : Nat) : Bool := (node / 256 &&& w.gmask) == (w.group &&& w.gmask)

/-- The nodes of a coarse vector that a recall goes to (R111). -/
def State.coarseTargets (s : State) (vec district : Nat) : List Nat :=
  s.validNodes.filter fun n => bitOf vec (n / 256 % 32) &&
    s.maps.windows.any fun w => w.2.kind == 0 && w.2.district == district && w.2.admits n

/-- The nodes that may hold an entry's line. -/
def State.holders (s : State) (e : DirEntry) : List Nat :=
  if e.coarse then s.coarseTargets e.vec e.district
  else if e.p0 = e.p1 then [e.p0] else [e.p0, e.p1]

/-- Is a node fenced (R113)? (DEDUCED, log entry 39.) -/
def State.isFenced (s : State) (n : Nat) : Bool := s.coh.fenced.has n

/-- An entry with one more holder in S (R110). -/
def DirEntry.addHolder (e : DirEntry) (q : Nat) : DirEntry :=
  let bit := fun (n : Nat) => 2 ^ (n / 256 % 32)
  if e.coarse then { e with vec := e.vec ||| bit q }
  else if q = e.p0 ∨ q = e.p1 then e
  else if e.p0 = e.p1 then { e with p1 := q }
  else { e with coarse := true, vec := bit e.p0 ||| bit e.p1 ||| bit q }

def State.setDir (s : State) (line : Nat) (e : DirEntry) : State := { s with coh := { s.coh with dir := s.coh.dir.put line e } }
def State.delDir (s : State) (line : Nat) : State := { s with coh := { s.coh with dir := s.coh.dir.del line } }

/-- The entries of a line's directory set (R110). -/
def State.setOf (s : State) (line : Nat) : List (Nat × DirEntry) :=
  s.coh.dir.filter fun e => s.regs.home (e.1 * 64) == s.regs.home (line * 64) && dirSet e.1 == dirSet line

/-- The victim of a full set: entries in S before entries in E, and among those the least recently allocated; never one in BUSY
(R112). -/
def State.victim (s : State) (line : Nat) : Option Nat :=
  let free := (s.setOf line).filter fun e => e.2.busy.isNone
  let old := fun (l : List (Nat × DirEntry)) => (l.foldl (fun (best : Option (Nat × DirEntry)) e => match best with
    | none => some e
    | some b => if e.2.stamp < b.2.stamp then some e else some b) none).map (·.1)
  match old (free.filter fun e => e.2.st == .shared) with
  | some v => some v
  | none => old free

/-- The counter index and entry of the predictor for a line (R117). -/
def predKey (share line : Nat) : Nat := share * 4096 + fold12 (localAddr (line * 64))

/-- A recall, not for an eviction, of an entry with `ATOM` 1 trains the predictor (R117). -/
def State.trainRecall (s : State) (line : Nat) (e : DirEntry) : State :=
  if e.atom then
    let n := s.regs.home (line * 64)
    let k := predKey n line
    let p := (s.coh.pred.get k).getD ⟨0, 0⟩
    { s with coh := { s.coh with pred := s.coh.pred.put k { p with count := min 7 (p.count + s.avFld n 0x304 7 5) } } }
  else s

/-- Executing an Atomic-Any far trains the predictor (R117). -/
def State.trainFar (s : State) (line src : Nat) : State :=
  let n := s.regs.home (line * 64)
  let k := predKey n line
  let p := (s.coh.pred.get k).getD ⟨0, 0⟩
  { s with coh := { s.coh with pred := s.coh.pred.put k ⟨if p.lastSrc = src ∧ 0 < p.count then p.count - 1 else p.count, src⟩ } }

/-- Begin a recall: the entry goes BUSY and RCL messages go to the holders that are not fenced (R109, R113, R131). -/
def State.startRecall (s : State) (line : Nat) (e : DirEntry) (kind : BusyKind) (op : RclOp) (targets : List Nat) (req : Option Pend) : State :=
  let n := s.regs.home (line * 64)
  let num := (s.coh.nextTag.get n).getD 0
  let tag := n * 8192 + num % 8192
  let s := { s with coh := { s.coh with nextTag := s.coh.nextTag.put n (num + 1) } }
  let s := if kind = .bv then s.tallyAv n 0x310 else s.trainRecall line e
  let owner := if e.st = .owned then some e.p0 else none
  let s := s.setDir line { e with busy := some ⟨kind, tag, targets, owner, false, [], [], req⟩ }
  let s := if e.coarse then s.tally (s.avBase n + 0x318) ((targets.filter fun t => t != e.p0 && t != e.p1).length) else s
  targets.foldl (fun s t => s.sendRcl op t tag e.district (e.da / 64 * 64)) s

/-- Put a request behind a line (R132). -/
def State.waitLine (s : State) (line : Nat) (p : Pend) : State :=
  { s with coh := { s.coh with waits := s.coh.waits.put line (((s.coh.waits.get line).getD []) ++ [p]) } }

/-- Take the requests that wait behind a line. -/
def State.takeWaits (s : State) (line : Nat) : State × List Pend :=
  ({ s with coh := { s.coh with waits := s.coh.waits.del line } }, (s.coh.waits.get line).getD [])

/-! ### Answers from a line -/

/-- Is a request a live change of its page (R160)? -/
def ReqOp.changes : ReqOp → Bool
  | .writeLine | .writeBack | .atomicFar _ _ | .atomicAny _ _ | .atomicNear | .commit => true
  | .readShared | .readOwn | .readOnce | .engineRead | .crossing _ => false

/-- Does a request wait behind a pending early read of its line (R123)? -/
def ReqOp.behindEarly : ReqOp → Bool
  | .writeLine | .atomicFar _ _ | .atomicAny _ _ | .readOwn | .atomicNear | .commit => true
  | .readShared | .readOnce | .engineRead | .writeBack | .crossing _ => false

/-- The lines a request touches: two for a ReadOnce that crosses a line. -/
def Pend.lines (p : Pend) : List Nat :=
  let a := p.pa / 64
  let b := (p.pa + p.len - 1) / 64
  if a < b ∧ 0 < p.len then [a, b] else [a]

/-- Is every byte of the line needed from where it lies? -/
def Pend.needsData (p : Pend) : Bool :=
  match p.op with
  | .writeLine | .commit => p.mask != BitVec.allOnes 64
  | .writeBack => false
  | _ => true

/-- The value of a line for a reader through a Milestone window: the content before a pending RecallData where a copy holds it back
(R163). -/
def State.versionLine (s : State) (p : Pend) (line : Nat) : Option LineData :=
  match p.bound with
  | none => s.readLine line
  | some _ =>
    match (s.ms.copying.find? fun c => c.district == p.district && c.page == p.da / 4096 && !c.landed).bind fun c => c.olds.get line with
    | some d => some d
    | none => s.readLine line

/-- Send the data of a read, or POISON (R75, R80 step 10, R291). (DEDUCED, log entry 37.) -/
def State.sendRead (s : State) (p : Pend) : State :=
  let ls := p.lines.map fun l => s.versionLine p l
  let s := p.lines.foldl (fun s l => s.afterRead l) s
  if ls.any (·.isNone) then s.reply p Jl.poison 0 none
  else
    let d0 := (ls[0]?.getD none).getD 0
    let d1 := (ls[1]?.getD none).getD 0
    let all := lineBytes d0 0 64 ++ (if ls.length = 2 then lineBytes d1 0 64 else [])
    let first := p.pa % 64 / 16 * 16
    let n := coverCells (p.pa % 64) p.len * 16
    let cells := (List.range n).map fun i =>
      let k := first + i
      if p.pa % 64 ≤ k ∧ k < p.pa % 64 + p.len then all.getD k 0 else Config.freeByte s.free (p.pa / 64 * 64 + k)
    (if cells.length = p.len then s else s.draw).reply p Jl.ok 0 (some cells)

/-- Was the data of a read deliverable? (DEDUCED, log entry 37.) -/
def State.readable (s : State) (p : Pend) : Bool := (p.lines.all fun l => (s.versionLine p l).isSome)

/-- The result of a far atomic (R74): the new value, at its size. -/
def atomicValue (atop : Nat) (size : Nat) (old operand compare : Nat) : Nat :=
  let m := 2 ^ (8 * size)
  let so := signedOf (8 * size) old
  let sp := signedOf (8 * size) (operand % m)
  (if atop = 0 then old + operand
   else if atop = 1 then old &&& operand
   else if atop = 2 then old ||| operand
   else if atop = 3 then old ^^^ operand
   else if atop = 4 then (if so < sp then operand else old)
   else if atop = 5 then (if sp < so then operand else old)
   else if atop = 6 then (if old < operand % m then operand else old)
   else if atop = 7 then (if operand % m < old then operand else old)
   else if atop = 8 then operand
   else if atop = 9 then (if old = compare % m then operand else old)
   else old) % m

/-- Apply a write or a far atomic to its line, and acknowledge it (R73, R74, R91, R133). -/
def State.applyChange (s : State) (p : Pend) : State :=
  let line := p.pa / 64
  let s := s.touchPage p.district (p.da / 4096) true
  match p.op with
  | .atomicFar any atop =>
    if s.mem.poisoned line then s.reply p Jl.poison 0 none
    else
      let s := if any then (s.trainFar line p.src).tallyAv p.share 0x328 else s
      let old := (s.readLine line).getD 0
      let s := s.afterRead line
      let sh := p.pa % 64 * 8
      let w := 8 * p.size
      let ov := (old >>> sh).toNat % 2 ^ w
      let nv := atomicValue atop p.size ov p.operand.toNat p.compare.toNat
      let mask : BitVec 64 := BitVec.ofNat 64 ((2 ^ p.size - 1) * 2 ^ (p.pa % 64))
      let r := s.homeWrite line (BitVec.ofNat 512 (nv * 2 ^ sh)) mask false
      r.1.ackOrReply line p ⟨.atomicResult, p.src, p.tag, Jl.ok, 0, 0, some (leBytes 16 ov)⟩ r.2 []
  | _ =>
    let r := s.homeWrite line p.data p.mask false
    r.1.ackOrReply line p ⟨.comp, p.src, p.tag, Jl.ok, 0, 0, none⟩ r.2 []

/-- A grant of ownership to the requester (R110, R133): the entry becomes E in FMT 0, and the line is sent. -/
def State.grantOwned (s : State) (p : Pend) (atom : Bool) : State :=
  let line := p.pa / 64
  if !s.readable p then s.reply p Jl.poison 0 none
  else
    let stamp := ((s.coh.dir.get line).map (·.stamp)).getD s.coh.stamp
    let s := s.setDir line ⟨DirState.owned, false, atom, p.src, p.src, 0, p.district, p.da, stamp, none⟩
    let s := if p.op = .atomicNear then s.tallyAv p.share 0x320 else s
    ({ s with coh := { s.coh with stamp := s.coh.stamp + 1 } }).sendRead p

/-- A grant in S (R110, R133). -/
def State.grantShared (s : State) (p : Pend) : State :=
  let line := p.pa / 64
  if !s.readable p then s.reply p Jl.poison 0 none
  else
    let s := match s.coh.dir.get line with
      | some e => s.setDir line (if e.st = DirState.owned then { e with st := DirState.shared } else e.addHolder p.src)
      | none => s.setDir line ⟨DirState.shared, false, false, p.src, p.src, 0, p.district, p.da, s.coh.stamp, none⟩
    ({ s with coh := { s.coh with stamp := s.coh.stamp + 1 } }).sendRead p

/-- Evict an entry of a full set for a request (R112); the request waits for the eviction, or for any entry of the set to leave BUSY. -/
def State.evictFor (s : State) (p : Pend) : State :=
  let line := p.pa / 64
  match s.victim line with
  | some v =>
    match s.coh.dir.get v with
    | some e =>
      let ts := (s.holders e).filter fun n => !s.isFenced n
      if ts.isEmpty then
        let s := s.delDir v
        if p.op = .readShared then s.grantShared p else s.grantOwned p (p.op == .atomicNear)
      else ({ s with coh := { s.coh with evictWait := s.coh.evictWait ++ [(v, p)] } }).startRecall v e .bv .recall ts none
    | none => s
  | none =>
    let key := ((s.setOf line).head?.map (·.1)).getD line
    { s with coh := { s.coh with evictWait := s.coh.evictWait ++ [(key, p)] } }

/-- Has a line's set no free way (R112)? -/
def State.setFull (s : State) (line : Nat) : Bool := decide (16 ≤ (s.setOf line).length)

/-- A WriteBack at its home (R109, R133): applied when the home records the issuer as owner, or awaits its line; else discarded and
counted. -/
def State.writeBackHome (s : State) (p : Pend) : State :=
  let line := p.pa / 64
  let stale := (s.tallyAv (s.regs.home p.pa) 0x348).reply p Jl.ok 0 none
  match s.coh.dir.get line with
  | none => stale
  | some e =>
    match e.busy with
    | none => if e.st = .owned ∧ e.p0 = p.src then (s.delDir line).applyChange p else stale
    | some b =>
      if b.owner = some p.src ∨ b.wbw.contains p.src then
        let b := { b with wbSeen := b.wbSeen ++ [p.src], wbw := b.wbw.filter (· != p.src) }
        (s.setDir line { e with busy := some b }).applyChange p
      else stale

/-- Would a WriteBack be applied? -/
def State.writeBackOwned (s : State) (p : Pend) : Bool :=
  match s.coh.dir.get (p.pa / 64) with
  | none => false
  | some e => match e.busy with
    | none => e.st == .owned && e.p0 == p.src
    | some b => b.owner == some p.src || b.wbw.contains p.src

/-- A line whose owner counts as having answered is held shared from now on (R130, R133). -/
def State.unown (s : State) (l : Nat) : State :=
  match s.coh.dir.get l with
  | some e => if e.st = .owned then s.setDir l { e with st := .shared } else s
  | none => s

/-- The table of R133 for a line whose entry is not BUSY, with its data at hand. Fenced holders count as having answered (R130). (DEDUCED,
log entry 37.) -/
def State.serve (s : State) (p : Pend) : State :=
  let line := p.pa / 64
  let e? := s.coh.dir.get line
  match p.op with
  | .writeBack => s.writeBackHome p
  | .readOnce | .engineRead =>
    match p.lines.find? fun l => ((s.coh.dir.get l).map fun e => e.st == .owned && !s.isFenced e.p0).getD false with
    | some l => match s.coh.dir.get l with
      | some e => s.startRecall l e .br .recallShared [e.p0] (some p)
      | none => s
    | none =>
      let s := p.lines.foldl State.unown s
      let s := if p.op = .engineRead then
        { s with mem := { s.mem with cache := s.mem.cache.adjust line fun c => { c with mark := true } } } else s
      s.sendRead p
  | .readShared =>
    match e? with
    | none => if s.setFull line then s.evictFor p else s.grantShared p
    | some e =>
      if e.st = .owned ∧ e.p0 ≠ p.src ∧ !s.isFenced e.p0 then s.startRecall line e .br .recallShared [e.p0] (some p)
      else if e.st = .owned ∧ e.p0 ≠ p.src then
        (s.setDir line { e with st := .shared }).grantShared p
      else s.grantShared p
  | .crossing _ => s
  | .readOwn | .atomicNear | .atomicAny _ _ =>
    let atom := p.op == .atomicNear
    match e? with
    | none => if s.setFull line then s.evictFor p else s.grantOwned p atom
    | some e =>
      if e.st = .owned ∧ e.p0 = p.src then s.grantOwned p (atom || e.atom)
      else
        let ts := ((s.holders e).filter fun n => !s.isFenced n && n != p.src)
        if ts.isEmpty then s.grantOwned p atom
        else s.startRecall line e .bx .recall ts (some p)
  | .writeLine | .commit | .atomicFar _ _ =>
    match e? with
    | none => s.applyChange p
    | some e =>
      let ts := (s.holders e).filter fun n => !s.isFenced n
      if ts.isEmpty then (s.delDir line).applyChange p
      else s.startRecall line e .bw .recall ts (some p)

/-- A request at its home share: it waits behind a pending early read, a BUSY entry, a page copy or a DRAM read, or is served (R123,
R132, R133, R160, R284). -/
def State.atHome (s : State) (p : Pend) : State :=
  let line := p.pa / 64
  let page := p.da / 4096
  let busy := p.bound.isNone && (p.lines.any fun l => ((s.coh.dir.get l).map (·.busy.isSome)).getD false)
  let slots := if p.op.changes && p.bound.isNone then s.needCopy p.district page else []
  if p.op = .writeLine ∧ p.mask = 0 then s.reply p Jl.ok 0 none
  else if p.op = .writeBack ∧ !s.writeBackOwned p then s.writeBackHome p
  else if p.op.behindEarly ∧ (s.coh.early.any fun e => e.p.lines.contains line) then s.waitLine line p
  else if busy ∧ p.op ≠ .writeBack then s.waitLine ((p.lines.find? fun l => ((s.coh.dir.get l).map (·.busy.isSome)).getD false).getD line) p
  else if s.ms.copying.any fun c => c.district == p.district && c.page == page && !c.landed && p.op.changes && p.bound.isNone then
    s.startCopy p page (p.pa / 4096) slots
  else if slots ≠ [] then s.startCopy p page (p.pa / 4096) slots
  else if (p.needsData && p.lines.any fun l => !s.mem.cache.has l) || (s.coh.fetch.any fun q => q.lines.contains line && p.op != .writeBack) then
    let s := { s with coh := { s.coh with fetch := s.coh.fetch ++ [p] } }
    (p.lines.filter fun l => !s.mem.cache.has l).foldl (fun s l => s.access l false (if p.op = .engineRead then 4 else 5)) s
  else if p.bound.isSome then s.sendRead p
  else s.serve p

/-- Serve requests in order. -/
def State.atHomeAll (s : State) (ps : List Pend) : State := ps.foldl (fun s p => s.atHome p) s

/-! ### Translation -/

/-- Is a page's translation being changed (R87)? -/
def State.pageMoving (s : State) (d page : Nat) : Bool :=
  s.maps.drains.any fun x => x.window.isNone && x.district == d && decide (x.first ≤ page) && decide (page ≤ x.last)

/-- Is a window's entry being changed (R87)? -/
def State.windowMoving (s : State) (w : Nat) : Bool := s.maps.drains.any fun x => (x.window.map (·.1)) == some w

/-- Note that a copy page is read (R162). -/
def State.touchCopy (s : State) (f : Nat) : State :=
  { s with ms := { s.ms with copies := s.ms.copies.adjust f fun c => { c with stamp := s.clock } } }

/-- Early data may answer a request (R121): a ReadShared or ReadOnce that allows it, whose lines are in the line cache without the
poison mark. -/
def State.earlyOk (s : State) (p : Pend) : Bool :=
  p.early && p.elem.isNone && (p.op == .readShared || p.op == .readOnce) && s.avFld p.share 0x300 0 0 == 1 &&
    p.lines.all fun l => s.mem.cache.has l && !s.mem.poisoned l

/-- Send EarlyData and hold the read as pending (R121, R123, R129, R145). -/
def State.sendEarly (s : State) (p : Pend) : State :=
  let n := p.share
  let k := s.regs.fld (s.avBase n + 0x300) 7 4
  let count := (s.coh.earlySent.get n).getD 0 + 1
  let forced := decide (0 < k) && count % 2 ^ k == 0
  let cells := coverCells (p.pa % 64) p.len
  let first := p.pa % 64 / 16 * 16
  let all := (p.lines.map fun l => lineBytes (s.mem.line l) 0 64).flatten
  let real := (List.range (cells * 16)).map fun i => all.getD (first + i) 0
  let filler : List Byte := (List.range (cells * 16)).map fun i =>
    if i % 4 = 0 then 0x4D else if i % 4 = 1 then 0x0E else if i % 4 = 2 then 0xAD else 0x0B
  let order := ((s.coh.waits.get (p.pa / 64)).getD []).any fun q => q.op == .writeLine || q.op == .commit
  let s := { s with coh := { s.coh with
    earlySent := s.coh.earlySent.put n count, early := s.coh.early ++ [Early.mk p forced false order] } }
  s.sendDat p.port p.flow (some p.district) ⟨.earlyData, p.src, p.tag, Jl.okEarly, p.elem.getD 0, 0, some (if forced then filler else real)⟩

/-- Near or far: an Atomic-Any is decided when its line is known, before any recall (R116, R117); granted near, it is answered with the whole
line (R115). -/
def State.decideAny (s : State) (p : Pend) : State × Pend :=
  match p.op with
  | .atomicAny atop far =>
    let n := p.share
    let count := ((s.coh.pred.get (predKey n (p.pa / 64))).getD ⟨0, 0⟩).count
    let mode := s.avFld n 0x304 1 0
    if far || mode == 2 || (mode != 1 && decide (s.avFld n 0x304 4 2 ≤ count)) then
      ({ s with coh := { s.coh with ledger := s.coh.ledger.map fun (t : Ledger) =>
          if t.port = p.port ∧ t.src = p.src ∧ t.tag = p.tag then { t with far := true } else t } },
        { p with op := .atomicFar true atop })
    else (s, { p with op := .atomicNear, pa := p.pa / 64 * 64, len := 64 })
  | _ => (s, p)

/-- A translated request: passed to its home share, refused when that share is closed, answered early or served there (R82, R86,
R121). The pool's own reads and writes wait for a closed share (R238, R245). -/
def State.toHome (s : State) (p : Pend) (pa : Nat) : State :=
  let n := s.regs.home pa
  let p := { p with pa := pa, share := n }
  let st := (s.share n).st
  if p.port = 12 ∧ st ≠ .opened then { s with coh := { s.coh with moveWait := s.coh.moveWait ++ [p] } }
  else if n ≠ p.steer ∧ st ≠ .opened then
    s.retry p (if st = .gap then Rl.failover else if st = .handover then Rl.handover else Rl.unserved)
  else
    let s := if p.port < 12 then { s with coh := { s.coh with ledger := s.coh.ledger.map fun (t : Ledger) =>
      if t.port = p.port ∧ t.src = p.src ∧ t.tag = p.tag ∧ t.elem = p.elem then { t with share := n } else t } } else s
    let s := s.touchPage p.district (p.da / 4096) false
    if s.earlyOk p then s.sendEarly p
    else
      let r := s.decideAny p
      r.1.atHome r.2

/-- Step 9 of R80: translate a request and take it to its home. It waits while the page's translation changes (R87) or while the page is
filled (R318). -/
def State.resolve (s : State) (p : Pend) : State :=
  let d := p.district
  let page := p.da / 4096
  let miss := fun (s : State) (loc : Nat) =>
    if p.port < 12 ∧ p.op ≠ .writeBack ∧ s.avFld p.steer 0x200 29 16 ≤ s.fillHeld p.steer then s.retry p Rl.fillLimit
    else s.joinFill d page loc [p]
  if p.port ≠ 12 ∧ (s.pageMoving d page || s.windowMoving p.window) then { s with coh := { s.coh with moveWait := s.coh.moveWait ++ [p] } }
  else
    let s := s.abandonDemotion d page
    match p.bound with
    | some slot =>
      let live := (s.maps.leafAt d page).bind fun l => if l.2.tiered && !l.2.resident then none
        else some (leafFrame l.1 l.2 page * 4096 + p.da % 4096)
      let early : Bool := match live with
        | some pa => s.earlyOk { p with pa := pa, share := s.regs.home pa } && (s.share (s.regs.home pa)).st == .opened
        | none => false
      if early then s.toHome p (live.getD 0)
      else if s.resolveVersion d slot page = .live ∧ s.maps.leafLost d page then s.reply p Jl.poison 0 none
      else match s.resolveVersion d slot page with
      | .fault l => s.reply p Jl.xlateFault l none
      | .lost => s.reply p Jl.poison 0 none
      | .copy f => (s.touchCopy f).toHome p (f * 4096 + p.da % 4096)
      | .flash loc => miss (s.tallyAv p.steer 0x418) loc
      | .live => match s.maps.leafAt d page with
        | some (first, l) => if l.tiered && !l.resident then miss s l.addr else s.toHome p (leafFrame first l page * 4096 + p.da % 4096)
        | none => s.reply p Jl.xlateFault (s.maps.missLevel d page) none
    | none =>
      match s.maps.leafAt d page with
      | none => s.reply p Jl.xlateFault (s.maps.missLevel d page) none
      | some (first, l) =>
        if s.maps.leafLost d page then s.reply p Jl.poison 0 none
        else if l.tiered && !l.resident then
          let slots := if p.op.changes then s.needCopy d page else []
          let s := if slots.isEmpty then s
            else
              let s := s.writeMaps d page slots ⟨false, true, false, l.addr⟩
              { s with ms := { s.ms with fcopies := s.ms.fcopies.put l.addr ⟨slots.length, d, s.clock, l.strength⟩ } }
          miss s l.addr
        else s.toHome p (leafFrame first l page * 4096 + p.da % 4096)

/-- Translate and serve requests in order. -/
def State.resolveAll (s : State) (ps : List Pend) : State := ps.foldl (fun s p => s.resolve p) s

/-! ### BUSY states -/

/-- An entry that leaves BR or BX in use is the entry it was: it keeps its place in the order of allocation (R112), and in BR its `ATOM`
(R110, R134). -/
def State.keepEntry (s : State) (line : Nat) (e : DirEntry) (k : BusyKind) : State :=
  match s.coh.dir.get line with
  | none => s
  | some x =>
    match k with
    | .br => s.setDir line { x with stamp := e.stamp, atom := e.atom }
    | .bx => s.setDir line { x with stamp := e.stamp }
    | _ => s

/-- The last awaited answer has been counted and WBW is clear: the BUSY state completes, and the waiting requests are served (R132,
R134). -/
def State.completeBusy (s : State) (line : Nat) : State :=
  match s.coh.dir.get line with
  | none => s
  | some e =>
    match e.busy with
    | none => s
    | some b =>
      if !b.awaited.isEmpty || !b.wbw.isEmpty then s
      else
        let s := match b.kind with
          | .br => if b.ownerWb then s.delDir line else s.setDir line { e with st := .shared, busy := none }
          | _ => s.delDir line
        let s := match b.req with
          | some p => (s.atHome p).keepEntry line e b.kind
          | none => s
        let w := s.takeWaits line
        let s := w.1.atHomeAll w.2
        let ev := s.coh.evictWait.filter fun x => x.1 == line
        let s := { s with coh := { s.coh with evictWait := s.coh.evictWait.filter fun x => x.1 != line } }
        s.atHomeAll (ev.map (·.2))

/-- Complete the BUSY states for which nothing is awaited any more: a WriteBack that an entry waited for has been applied (R134, R144). -/
def State.settleBusy (s : State) : State :=
  (s.coh.dir.filterMap fun e => match e.2.busy with
    | some b => if b.awaited.isEmpty && b.wbw.isEmpty then some e.1 else none
    | none => none).foldl (fun s l => s.completeBusy l) s

/-- Count a node's answer to a recall (R134). -/
def State.countAnswer (s : State) (line node : Nat) (wb : Bool) : State :=
  match s.coh.dir.get line with
  | none => s
  | some e =>
    match e.busy with
    | none => s
    | some b =>
      if !b.awaited.contains node then s
      else
        let b := { b with
          awaited := b.awaited.filter (· != node),
          ownerWb := b.ownerWb || (wb && b.owner == some node),
          wbw := if wb && !b.wbSeen.contains node then b.wbw ++ [node] else b.wbw }
        (s.setDir line { e with busy := some b }).completeBusy line

/-- Remove a node's registrations without a Signal (R113, R179), note the fence and raise its notice. (DEDUCED, log entry 39.) -/
def State.fenceNode (s : State) (share node : Nat) : State :=
  if s.isFenced node then s
  else
    let s := { s with coh := { s.coh with fenced := s.coh.fenced.put node s.time.ft } }
    let s := { s with cr := { s.cr with regs := s.cr.regs.filter fun r => r.node != node } }
    s.raise (Src.avenue ((s.servedBy share).getD share)) 0x06 node

/-- Apply a returned line (R107, R119, R134, R163): held in the line cache and in the mirror from its acceptance; a page that needs a
copy keeps the line's earlier content for that copy. -/
def State.applyRecall (s : State) (district da line : Nat) (data : LineData) : State :=
  let page := da / 4096
  let slots := s.needCopy district page
  let old := s.mem.line line
  let s :=
    if s.ms.copying.any fun c => c.district == district && c.page == page && !c.landed then
      { s with ms := { s.ms with copying := s.ms.copying.map fun c =>
        if c.district = district ∧ c.page = page ∧ !c.olds.has line then { c with olds := c.olds.put line old } else c } }
    else if slots.isEmpty then s
    else
      let leader := s.regs.home (line * 64)
      let st := ((s.district district).map (·.strength)).getD 0
      match s.allocRun 1 (s.regs.colour (line * 64)) st with
      | some (f, s) =>
        let s := s.writeMaps district page slots ⟨false, false, true, f⟩
        { s with ms := { s.ms with copying := s.ms.copying ++ [Copying.mk district page leader f slots false false [(line, old)] []] } }
      | none =>
        let s := s.writeMaps district page slots ⟨false, false, true, 0⟩
        { s with ms := { s.ms with copying := s.ms.copying ++ [Copying.mk district page leader 0 slots false true [(line, old)] []] } }
  let s := s.touchPage district page true
  (s.homeWrite line data (BitVec.allOnes 64) true).1

/-- The line at a District address, where it has one. (DEDUCED, log entry 37.) -/
def State.lineAt (s : State) (d da : Nat) : Option Nat :=
  (s.maps.leafAt d (da / 4096)).map fun l => (leafFrame l.1 l.2 (da / 4096) * 4096 + da % 4096) / 64

end Sys2Proof.Machine
end

