-- ==== Sys2Proof/Machine/Req.lean ====
section
/-! DEFINITION. The arrival of requests: the checks of R80, trackers and the ledger (R82, R83), ReadGather (R89), and the settling of
early data (R123, R136). -/

namespace Sys2Proof.Machine

open Sys2Proof

/-! ### Step 1 -/

/-- Is the read body well formed (R71, R73)? -/
def reqReadWf (r : Req) : Bool := !r.rsv && r.gcount == 0 && r.cells == 2 && r.length == 64 && r.offset % 64 == 0

/-- A ReadOnce: 1 to 128 bytes within one 128-byte block (R71). -/
def reqOnceWf (r : Req) : Bool :=
  !r.rsv && r.gcount == 0 && r.cells == 2 && decide (1 ≤ r.length) && decide (r.offset % 128 + r.length ≤ 128)

/-- One element of a gather (R88). -/
def elemWf (e : Nat × Nat) : Bool :=
  e.1 % 4 == 0 && e.2 % 4 == 0 && decide (4 ≤ e.2) && decide (e.2 ≤ 64) && decide (e.1 % 64 + e.2 ≤ 64)

/-- A ReadGather: its cells and every element (R71, R88). -/
def reqGatherWf (r : Req) : Bool :=
  !r.rsv && decide (r.gcount < 16) && r.elems.length == r.gcount + 1 && r.cells == 1 + (r.gcount + 2) / 2 && r.elems.all elemWf

/-- A WriteLine or a WriteBack (R71, R73). -/
def reqWriteWf (r : Req) : Bool := !r.rsv && r.gcount == 0 && r.cells == 6 && r.offset % 64 == 0

/-- An Atomic or an Atomic-Any on memory (R71, R73, R74). -/
def reqAtomicWf (r : Req) (atop : Nat) : Bool :=
  !r.rsv && r.gcount == 0 && r.cells == 3 && (r.size == 4 || r.size == 8) && decide (r.offset % r.size = 0) &&
    decide (atop ≤ 9) && (atop == 9 || r.compare == 0)

/-- A Crossing operation: SIZE 8, a 64-byte aligned offset, and a cookie for the waits and CR_UNWAIT only (R172). -/
def reqCrossWf (r : Req) (code : Nat) : Bool :=
  !r.rsv && r.gcount == 0 && r.cells == 3 && r.size == 8 && r.offset % 64 == 0 && r.compare == 0 &&
    decide (0x10 ≤ code) && decide (code ≤ 0x1D) &&
    ([0x13, 0x15, 0x19, 0x1C, 0x1D].contains code || decide (r.operand.toNat < 2 ^ 48))

/-! ### Steps 2 to 7 -/

/-- The span of a window (R79). -/
def Window.span (w : Window) : Nat := (w.lastPage + 1) * 4096

/-- Steps 2 to 7 of R80 for a request on a window: the reason of its failure, or the window. -/
def State.checkReq (s : State) (port : Nat) (r : Req) (kinds : List Nat) (perm : Window → Bool) (off len : Nat) : Except Nat Window :=
  match s.maps.windows.get r.window with
  | none => .error Af.windowInvalid
  | some w => match s.district w.district with
    | none => .error Af.districtState
    | some d =>
      if d.st != .inService && d.st != .converting then .error Af.districtState
      else if s.isFenced r.src || !w.admits r.src then .error Af.group
      else if !kinds.contains w.kind then .error Af.kind
      else if d.level = 3 && !(s.jl port).encOn then .error Af.permission
      else if !perm w then .error (if w.msBind then Af.milestone else Af.permission)
      else if w.span < off + len then .error Af.bounds
      else .ok w

/-- The share that an offset is steered to (R84). -/
def Regs.steer (g : Regs) (off : Nat) : Nat := g.home (off % 2 ^ 48)

/-- A request as the tables of R133 see it. -/
def reqPend (r : Req) (port : Nat) (op : ReqOp) (off len : Nat) (elem : Option Nat) : Pend :=
  { port := port, op := op, src := r.src, tag := r.tag, window := r.window, district := 0, flow := r.flow, early := r.earlyOk,
    noAlloc := r.noAlloc, da := off, pa := 0, len := len, steer := 0, share := 0, mask := r.mask, data := r.data, size := r.size,
    operand := r.operand, compare := r.compare, elem := elem, bound := none }

/-- The request with what its window gives it. -/
def State.bindPend (s : State) (p : Pend) (w : Window) : Pend :=
  let n := match p.op with
    | .crossing _ => p.da / 64 % 8
    | _ => s.regs.steer p.da
  { p with district := w.district, early := p.early && w.e, da := w.base + p.da, steer := n, share := n,
           bound := if w.msBind then some w.msSlot else none,
           op := match p.op with
             | .atomicAny a _ => .atomicAny a (!w.r || !w.w)
             | o => o }

/-! ### Step 8 -/

/-- Is a request far in the sense of R35? -/
def ReqOp.isFar : ReqOp → Bool
  | .atomicFar _ _ | .crossing _ => true
  | _ => false

/-- Enter a request into its port's ledger (R83). -/
def State.enter (s : State) (p : Pend) : State :=
  { s with coh := { s.coh with ledger :=
      s.coh.ledger ++ [Ledger.mk p.port p.src p.tag p.elem p.steer p.op.isFar (p.op.answer false) p.flow s.clock] } }

/-- Give a request its tracker (R82). -/
def State.grantTracker (s : State) (p : Pend) : State :=
  { s with coh := { s.coh with trackers :=
      s.coh.trackers ++ [Tracker.mk p.steer p.port p.src p.tag p.elem p.district p.window (p.da / 4096) false] } }

/-- The trackers in use in a share. -/
def State.trackersOf (s : State) (n : Nat) : Nat := (s.coh.trackers.filter fun t => t.share == n && decide (t.port < 12)).length

/-- The reason for which the rules of R82 refuse a tracker, in their order. -/
def State.trackerRefusal (s : State) (p : Pend) : Option Nat :=
  let n := p.steer
  let st := (s.share n).st
  let wb := p.op == .writeBack
  let free := 8192 - s.trackersOf n
  if st = .gap then some Rl.failover
  else if st = .handover then some Rl.handover
  else if st = .unserved then some Rl.unserved
  else if 8192 ≤ (s.coh.ledger.filter fun t => t.port == p.port).length then some Rl.ledgerFull
  else if !wb && decide (free ≤ s.avFld n 0x200 10 0) then some Rl.noTracker
  else if !wb && decide (((s.district p.district).map (·.trkLimit)).getD 8192 ≤
      (s.coh.trackers.filter fun t => t.share == n && t.district == p.district && decide (t.port < 12)).length) then some Rl.districtLimit
  else none

/-- Steps 8 to 10 of R80 for a checked request: tracker, ledger, translation and service. A WriteBack that finds every tracker in use
waits at the share (R82). `go` is what follows the tracker. -/
def State.take (s : State) (p : Pend) (go : State → Pend → State) : State :=
  match s.trackerRefusal p with
  | some why => s.retry p why
  | none =>
    let s := s.enter p
    if p.op = .writeBack ∧ 8192 ≤ s.trackersOf p.steer then
      { s with coh := { s.coh with wbWait := s.coh.wbWait ++ [p] } }
    else go (s.grantTracker p) p

/-- Does a request reuse an open (SRC, TAG) of its port (R78)? -/
def State.dupTag (s : State) (port src tag : Nat) : Bool :=
  s.coh.ledger.any (fun t => t.port == port && t.src == src && t.tag == tag)

/-- A request of one element on a window: its duplicate check, steps 1 to 7 of R80, and `go` for what passes them. -/
def State.arrive (s : State) (port : Nat) (r : Req) (op : ReqOp) (len : Nat) (wf : Bool) (kinds : List Nat) (perm : Window → Bool)
    (go : State → Pend → Window → State) : State :=
  let s := s.takeRx port 0 r.src
  if s.dupTag port r.src r.tag then s.raise (Src.link port) 0x08 (r.src % 65536 + r.tag % 65536 * 65536)
  else
    let p := reqPend r port op r.offset len none
    if !wf then s.reply p Jl.accessFault Af.malformed none
    else match s.checkReq port r kinds perm r.offset len with
      | .error why => s.reply p Jl.accessFault why none
      | .ok w => go s (s.bindPend p w) w

/-- A request on memory. -/
def State.memReq (s : State) (port : Nat) (r : Req) (op : ReqOp) (len : Nat) (wf : Bool) (perm : Window → Bool) : State :=
  (s.arrive port r op len wf [0] perm fun s p _ => s.take p State.resolve).settleBusy

/-- The elements of a gather, each checked, steered and served on its own (R89). (DEDUCED, log entry 40.) -/
def State.gatherElems (s : State) (port : Nat) (r : Req) : Nat → List (Nat × Nat) → State
  | _, [] => s
  | k, (off, len) :: t =>
    let p := reqPend r port .readOnce off len (some k)
    let s := match s.checkReq port r [0] (·.r) off len with
      | .error why => s.reply p Jl.accessFault why none
      | .ok w => s.take (s.bindPend p w) State.resolve
    s.gatherElems port r (k + 1) t

/-! ### Early data -/

/-- The requests that wait behind the lines of a read are taken up in arrival order. -/
def State.releaseLines (s : State) (ls : List Nat) : State :=
  ls.foldl (fun s l =>
    let w := s.takeWaits l
    w.1.atHomeAll w.2) s

/-- Settle a read that was answered early: it becomes a holder in S where it is a ReadShared (R123, R136). -/
def State.settleEarly (s : State) (e : Early) : State :=
  let p := e.p
  let line := p.pa / 64
  let s := { s with coh := { s.coh with early := s.coh.early.filter (· != e) } }
  let s := (s.sendSettle p.src p.tag 0).tallyAv p.share 0x330
  let s := if p.op = .readShared ∧ p.bound = none then
      let stamp := s.coh.stamp
      let s := { s with coh := { s.coh with stamp := stamp + 1 } }
      match s.coh.dir.get line with
      | none => s.setDir line ⟨DirState.shared, false, false, p.src, p.src, 0, p.district, p.da, stamp, none⟩
      | some d => s.setDir line (if d.st = DirState.owned then { d with st := DirState.shared } else d.addHolder p.src)
    else s
  (s.closeReq p).releaseLines p.lines

/-- Revoke a read that was answered early: nothing is recorded, the waiting requests go first, and the read is served as if it had just
arrived (R123, R136). -/
def State.revokeEarly (s : State) (e : Early) (reason : Nat) : State :=
  let p := { e.p with early := false }
  let s := { s with coh := { s.coh with early := s.coh.early.filter (· != e) } }
  let s := (s.sendSettle p.src p.tag reason).tallyAv p.share 0x338
  (s.releaseLines p.lines).resolve p

/-- The lowest-numbered reason of R136 that holds, if any. -/
def State.revokeReason (s : State) (e : Early) (dataError : Bool) : Option Nat :=
  let p := e.p
  let es := p.lines.filterMap fun l => s.coh.dir.get l
  let kind := fun (d : DirEntry) => d.busy.map (·.kind)
  let owner := p.bound.isNone && es.any fun d =>
    (d.busy.isNone && d.st == .owned && (p.op == .readOnce || d.p0 != p.src)) ||
    kind d == some .br || kind d == some .bx || kind d == some .bv
  let version : Bool := match p.bound with
    | some slot => s.resolveVersion p.district slot (p.da / 4096) != .live
    | none => false
  let line := p.pa / 64
  if owner then some Rv.owner
  else if version then some Rv.version
  else if dataError then some Rv.dataError
  else if e.order || (p.bound.isNone && es.any fun d => kind d == some .bw) then some Rv.order
  else if p.op == .readShared && p.bound.isNone && (s.coh.dir.get line).isNone && s.setFull line then some Rv.deadline
  else if e.moved || s.pageMoving p.district (p.da / 4096) || (p.bound.isNone && es.any fun d => kind d == some .bp) then some Rv.pageMove
  else if e.forced then some Rv.test
  else none

/-- The pending early read of a tag. -/
def State.earlyOf (s : State) (port src tag : Nat) : Option Early :=
  s.coh.early.find? fun e => e.p.port == port && e.p.src == src && e.p.tag == tag

/-- An error that the line-cache check finds (R281): a clean line is dropped, to be read again from DRAM; a dirty one is restored from the
partner's mirror; one without either copy is poisoned. -/
def State.lineError (s : State) (line : Nat) : State :=
  match s.mem.cache.get line with
  | none => s
  | some c =>
    let n := s.regs.home (line * 64)
    let s := s.logErr { s.errAt 5 line with ch := 15 }
    if !c.dirty then { s with mem := { s.mem with cache := s.mem.cache.del line } }
    else match s.mem.mirror.get line with
      | some m => { s with mem := { s.mem with cache := s.mem.cache.put line { c with data := m.data } } }
      | none =>
        let d := s.frameDistrict (line / 64)
        let s := { s with mem := { s.mem with cache := s.mem.cache.put line { c with poison := true } } }
        s.raise (Src.avenue ((s.servedBy n).getD n)) 0x0B (s.prot.nextSeq - 1) (if d = 0 then none else some d)

end Sys2Proof.Machine
end

