-- ==== Sys2Proof/Machine/Crossings.lean ====
section
/-! DEFINITION. Crossing operations, registrations and Signals (R170 to R188). -/

namespace Sys2Proof.Machine

open Sys2Proof

/-- The largest value of a counter (R178). -/
def crMax : Nat := 2 ^ 64 - 1

def State.crossing (s : State) (n : Nat) : Option Crossing := s.cr.items.get n
def State.setCrossing (s : State) (n : Nat) (c : Crossing) : State := { s with cr := { s.cr with items := s.cr.items.put n c } }

/-- The key by which the acknowledged writes of a Crossing are named: a line number above every physical address. -/
def crLine (n : Nat) : Nat := 2 ^ 46 + n

/-- A journal entry as a word (R173). -/
def journalWord (e : Nat × Nat × Nat) : Nat := e.1 % 65536 + e.2.1 % 65536 * 65536 + e.2.2 % 2 ^ 32 * 2 ^ 32

/-- CONFIG (R173). -/
def Crossing.config (c : Crossing) : Nat := c.type + c.district * 4 + c.members * 4096 + c.sat.toNat * 2 ^ 28

/-- The word that a select names (R175). -/
def Crossing.word (c : Crossing) (sel : Nat) : Nat :=
  if sel = 0 then c.value
  else if sel = 1 then c.value2
  else if sel = 2 then c.seq
  else if sel = 3 then c.config
  else if sel < 8 then ((c.journal[sel - 4]?).map journalWord).getD 0
  else if sel = 8 then c.rseq
  else if sel < 13 then ((c.recovery[sel - 9]?).map journalWord).getD 0
  else c.rft

/-- The word that a Signal carries as VALUE (R180). -/
def Crossing.signalValue (c : Crossing) : Nat := if c.type = 1 ∨ c.type = 3 then c.value2 else c.value

/-- The type that an operation is named for; `none` for type Any (R174). -/
def opType (code : Nat) : Option Nat :=
  if 0x11 ≤ code ∧ code ≤ 0x13 then some 0
  else if code = 0x14 ∨ code = 0x15 then some 1
  else if 0x16 ≤ code ∧ code ≤ 0x19 then some 2
  else if 0x1A ≤ code ∧ code ≤ 0x1C then some 3
  else none

/-- Is an argument bad for its operation (R174)? -/
def badArg (code a : Nat) : Bool :=
  (([0x11, 0x12, 0x13, 0x19].contains code) && a == 0) || (code == 0x10 && decide (13 < a)) ||
  (([0x14, 0x1A, 0x1D].contains code) && a != 0)

/-- OUTCOME codes (R176). -/
def Oc.done : Nat := 0
def Oc.met : Nat := 1
def Oc.registered : Nat := 2
def Oc.notMet : Nat := 3
def Oc.waitersFull : Nat := 4
def Oc.saturated : Nat := 5
def Oc.wrongType : Nat := 6
def Oc.notHolder : Nat := 7
def Oc.noWaiter : Nat := 8
def Oc.badArg : Nat := 9
def Oc.completed : Nat := 10

/-- What an operation does to a Crossing: the Crossing after it, RESULT, OUTCOME, whether it is journalled, whether it registers the
caller, and whether a counter was held (R174, R178). -/
structure CrEffect where
  c : Crossing
  result : Nat
  outcome : Nat
  journal : Bool
  registers : Bool
  held : Bool
  deriving DecidableEq, Repr

/-- The operation of a code on a Crossing of its type, with a good argument (R174). CR_READ and CR_UNWAIT change no counter. -/
def Crossing.effect (c : Crossing) (code a : Nat) : CrEffect :=
  let m48 := 2 ^ 48
  if code = 0x10 then ⟨c, c.word a, Oc.done, false, false, false⟩
  else if code = 0x11 then
    ⟨{ c with value := min crMax (c.value + a) }, c.value, Oc.done, true, false, decide (crMax < c.value + a)⟩
  else if code = 0x12 ∨ code = 0x13 then
    if a ≤ c.value then ⟨{ c with value := c.value - a }, c.value, Oc.done, true, false, false⟩
    else ⟨c, c.value, Oc.notMet, false, code == 0x13, false⟩
  else if code = 0x14 then
    let res := c.value % 65536 + c.value2 % m48 * 65536
    if c.value + 1 = c.members then
      ⟨{ c with value := 0, value2 := min crMax (c.value2 + 1) }, res, Oc.completed, true, false, decide (crMax < c.value2 + 1)⟩
    else ⟨{ c with value := c.value + 1 }, res, Oc.done, true, false, false⟩
  else if code = 0x15 then ⟨c, c.value2, Oc.met, false, c.value2 % m48 == a, false⟩
  else if code = 0x16 then ⟨{ c with value := a }, c.value, Oc.done, true, false, false⟩
  else if code = 0x17 then ⟨{ c with value := c.value ||| a }, c.value, Oc.done, true, false, false⟩
  else if code = 0x18 then ⟨{ c with value := c.value - (c.value &&& a) }, c.value, Oc.done, true, false, false⟩
  else if code = 0x19 then ⟨c, c.value, Oc.met, false, c.value &&& a == 0, false⟩
  else if code = 0x1A then
    ⟨{ c with value := min crMax (c.value + 1) }, c.value, Oc.done, true, false, decide (crMax < c.value + 1)⟩
  else if code = 0x1B then
    if c.value2 % m48 = a then
      ⟨{ c with value2 := min crMax (c.value2 + 1) }, c.value2, Oc.done, true, false, decide (crMax < c.value2 + 1)⟩
    else ⟨c, c.value2, Oc.notHolder, false, false, false⟩
  else if code = 0x1C then ⟨c, c.value2, Oc.met, false, c.value2 % m48 != a, false⟩
  else ⟨c, 0, Oc.done, false, false, false⟩

/-- The registrations of a semaphore that a count satisfies: in order, while the sum of their units is no more than it (R181). -/
def semTake (count : Nat) : Nat → List Registration → List Registration
  | _, [] => []
  | sum, r :: t => if sum + r.arg ≤ count then r :: semTake count (sum + r.arg) t else []

/-- The registrations to which a change sends CONDITION (R181). `old` is the Crossing before it. -/
def Cross.signalled (x : Cross) (n code : Nat) (old new : Crossing) : List Registration :=
  let rs := x.regs.filter fun r => r.crossing == n
  if code = 0x11 then semTake new.value 0 (rs.filter fun r => r.op == 0x13)
  else if code = 0x14 then
    (if old.value + 1 = old.members then rs.filter fun r => r.op == 0x15 && r.arg == old.value2 % 2 ^ 48 else [])
  else if code = 0x16 ∨ code = 0x17 ∨ code = 0x18 then rs.filter fun r => r.op == 0x19 && r.arg &&& new.value != 0
  else if code = 0x1B then rs.filter fun r => r.op == 0x1C && r.arg == new.value2 % 2 ^ 48
  else []

/-- The Signal that a registration receives (R180). -/
def Crossing.signalTo (c : Crossing) (r : Registration) (reason : Nat) : Signal :=
  ⟨r.node, r.cookie, r.crossing, reason, c.signalValue, c.seq⟩

/-- Registrations that end. -/
def State.dropRegs (s : State) (rs : List Registration) : State :=
  { s with cr := { s.cr with regs := s.cr.regs.filter fun r => !rs.contains r } }

/-- Send Signals at once and count them (R181, R188). -/
def State.sendSignals (s : State) (ms : List Signal) : State :=
  ms.foldl (fun s m => (s.tallyAv (m.crossing % 8) 0x510).sendSignal m) s

/-- RESULT, SEQ and OUTCOME as the bytes of an AtomicResult's cell 1 (R176). -/
def crCell (result seq outcome : Nat) : List Byte := leBytes 16 (result % 2 ^ 64 + seq % 2 ^ 56 * 2 ^ 64 + outcome * 2 ^ 120)

/-- The registrations that a share holds (R179). -/
def State.regsIn (s : State) (share : Nat) : List Registration := s.cr.regs.filter fun r => r.crossing % 8 == share

/-- Operations applied to a Crossing whose AtomicResult has not been sent (R177). -/
def State.crOpen (s : State) (n : Nat) : Nat := (s.coh.acks.filter fun a => a.line == crLine n && a.p.op != .commit).length

/-- Apply an operation to a Crossing. The effect is the change of its backing line, the registrations it makes or ends, and the answer
that follows the acknowledgement of its write (R173 to R181); an operation that changes nothing is answered at once. -/
def State.crApply (s : State) (p : Pend) (n : Nat) (c : Crossing) (code : Nat) : State :=
  let a := p.operand.toNat % 2 ^ 48
  let cookie := p.operand.toNat / 2 ^ 48
  let dat := fun (seq res out : Nat) => (⟨.atomicResult, p.src, p.tag, Jl.ok, 0, 0, some (crCell res seq out)⟩ : Dat)
  let now := fun (s : State) (res out : Nat) => s.ackOrReply (crLine n) p (dat c.seq res out) (false, false, false) []
  let waits := [0x13, 0x15, 0x19, 0x1C].contains code
  let s := s.tallyAv (n % 8) 0x508
  if (opType code).isSome && opType code != some c.type then now s 0 Oc.wrongType
  else if badArg code a then now s 0 Oc.badArg
  else if waits && (s.regsIn (n % 8)).any (fun r => r.node == p.src && r.cookie == cookie) then now s 0 Oc.badArg
  else if code = 0x1D then
    match s.cr.regs.find? fun r => r.crossing == n && r.node == p.src && r.cookie == cookie with
    | none => now s 0 Oc.noWaiter
    | some r => (s.dropRegs [r]).ackOrReply (crLine n) p (dat c.seq 0 Oc.done) (true, false, false) []
  else
    let e := c.effect code a
    if e.registers then
      if 16384 ≤ (s.regsIn (n % 8)).length then now (s.tallyAv (n % 8) 0x518) e.result Oc.waitersFull
      else
        let s := { s with cr := { s.cr with regs := s.cr.regs ++ [Registration.mk p.src cookie n code a s.clock] } }
        s.ackOrReply (crLine n) p (dat c.seq e.result Oc.registered) (true, false, false) []
    else if !e.journal then now s e.result e.outcome
    else
      let held := e.held || decide (crMax < c.seq + 1)
      let c' := { e.c with seq := min crMax (c.seq + 1), sat := c.sat || held,
                           journal := ((p.src, p.tag, e.result % 2 ^ 32) :: c.journal).take 4 }
      let out := if held then Oc.saturated else e.outcome
      let s := s.setCrossing n c'
      let s := if held then
          (s.tallyAv (n % 8) 0x520).raise (Src.avenue ((s.servedBy (n % 8)).getD (n % 8))) 0x07 n (some c.district)
        else s
      let rs := s.cr.signalled n code c c'
      (s.dropRegs rs).ackOrReply (crLine n) p (dat c'.seq e.result out) (true, false, false) (rs.map fun r => c'.signalTo r 1)

/-- An operation at the home of its Crossing: POISON where the backing line is lost (R292); it waits while four applied operations still
await their answers (R177). -/
def State.crOperate (s : State) (p : Pend) (code : Nat) : State :=
  let n := p.da / 64
  match s.crossing n with
  | none => s.reply p Jl.poison 0 none
  | some c =>
    if c.lost then s.reply p Jl.poison 0 none
    else if 4 ≤ s.crOpen n ∨ s.cr.queue.any (fun q => q.da / 64 == n) then { s with cr := { s.cr with queue := s.cr.queue ++ [p] } }
    else s.crApply p n c code

/-- Try the operations that wait, in order, after an answer has been sent (R177). -/
def State.crRetry (s : State) : State :=
  let q := s.cr.queue
  q.foldl (fun s p => match p.op with
    | .crossing code => s.crOperate p code
    | _ => s) { s with cr := { s.cr with queue := [] } }

/-- A Crossing operation as it arrives: steps 1 to 8 of R80, then the home (R171, R172). -/
def State.crReq (s : State) (port : Nat) (r : Req) (code : Nat) : State :=
  s.arrive port r (.crossing code) 8 (reqCrossWf r code) [1] (·.a) fun s p _ => s.take p fun s p => s.crOperate p code

/-- Send RESET or another reason to every registration of a Crossing and end them (R181). -/
def State.signalAll (s : State) (n reason : Nat) : State :=
  match s.crossing n with
  | none => s
  | some c =>
    let rs := s.cr.regs.filter fun r => r.crossing == n
    (s.dropRegs rs).sendSignals (rs.map fun r => c.signalTo r reason)

/-! ### The operations -/

/-- CR_READ (R175). -/
def execCrRead (port : JPort) (_any : Bool) (r : Req) (s : State) : Host.Outcome State Fault Refusal := .next (s.crReq port r 0x10)
/-- SEM_RELEASE (R174). -/
def execSemRelease (port : JPort) (_any : Bool) (r : Req) (s : State) : Host.Outcome State Fault Refusal := .next (s.crReq port r 0x11)
/-- SEM_ACQUIRE (R174). -/
def execSemAcquire (port : JPort) (_any : Bool) (r : Req) (s : State) : Host.Outcome State Fault Refusal := .next (s.crReq port r 0x12)
/-- SEM_WAIT (R174). -/
def execSemWait (port : JPort) (_any : Bool) (r : Req) (s : State) : Host.Outcome State Fault Refusal := .next (s.crReq port r 0x13)
/-- JCT_ARRIVE (R174). -/
def execJctArrive (port : JPort) (_any : Bool) (r : Req) (s : State) : Host.Outcome State Fault Refusal := .next (s.crReq port r 0x14)
/-- JCT_WAIT (R174). -/
def execJctWait (port : JPort) (_any : Bool) (r : Req) (s : State) : Host.Outcome State Fault Refusal := .next (s.crReq port r 0x15)
/-- FLAG_SET (R174). -/
def execFlagSet (port : JPort) (_any : Bool) (r : Req) (s : State) : Host.Outcome State Fault Refusal := .next (s.crReq port r 0x16)
/-- FLAG_OR (R174). -/
def execFlagOr (port : JPort) (_any : Bool) (r : Req) (s : State) : Host.Outcome State Fault Refusal := .next (s.crReq port r 0x17)
/-- FLAG_CLEAR (R174). -/
def execFlagClear (port : JPort) (_any : Bool) (r : Req) (s : State) : Host.Outcome State Fault Refusal := .next (s.crReq port r 0x18)
/-- FLAG_WAIT (R174). -/
def execFlagWait (port : JPort) (_any : Bool) (r : Req) (s : State) : Host.Outcome State Fault Refusal := .next (s.crReq port r 0x19)
/-- TKT_TAKE (R174). -/
def execTktTake (port : JPort) (_any : Bool) (r : Req) (s : State) : Host.Outcome State Fault Refusal := .next (s.crReq port r 0x1A)
/-- TKT_RELEASE (R174). -/
def execTktRelease (port : JPort) (_any : Bool) (r : Req) (s : State) : Host.Outcome State Fault Refusal := .next (s.crReq port r 0x1B)
/-- TKT_WAIT (R174). -/
def execTktWait (port : JPort) (_any : Bool) (r : Req) (s : State) : Host.Outcome State Fault Refusal := .next (s.crReq port r 0x1C)
/-- CR_UNWAIT (R174). -/
def execCrUnwait (port : JPort) (_any : Bool) (r : Req) (s : State) : Host.Outcome State Fault Refusal := .next (s.crReq port r 0x1D)

/-- REGISTRATION_EXPIRED: a registration that has lasted WAIT_MAX receives EXPIRED (R181, R188). -/
def execRegistrationExpired (crossing node cookie : Nat) (s : State) : Host.Outcome State Fault Refusal :=
  .next (match s.cr.regs.find? (fun r => r.crossing == crossing && r.node == node && r.cookie == cookie), s.crossing crossing with
    | some r, some c =>
      let s := s.passTo (r.since + s.avFld (crossing % 8) 0x500 15 0 * 1000000)
      (s.dropRegs [r]).sendSignals [c.signalTo r 4]
    | _, _ => s)

end Sys2Proof.Machine
end

