-- ==== Sys2Proof/Machine/Coherence.lean ====
section
/-! DEFINITION. The memory requests and the answers to recalls (R70 to R145): what each message and timer of the coherence protocol does. -/

namespace Sys2Proof.Machine

open Sys2Proof

/-! ### Requests -/

/-- READ_SHARED (R80, R133). -/
def execReadShared (port : JPort) (r : Req) (s : State) : Host.Outcome State Fault Refusal :=
  .next (s.memReq port r .readShared r.length (reqReadWf r) (·.r))

/-- READ_OWN (R80, R133). -/
def execReadOwn (port : JPort) (r : Req) (s : State) : Host.Outcome State Fault Refusal :=
  .next (s.memReq port r .readOwn r.length (reqReadWf r) fun w => w.r && w.w)

/-- READ_ONCE (R80, R133). -/
def execReadOnce (port : JPort) (r : Req) (s : State) : Host.Outcome State Fault Refusal :=
  .next (s.memReq port r .readOnce r.length (reqOnceWf r) (·.r))

/-- WRITE_BACK (R80, R109, R133). -/
def execWriteBack (port : JPort) (r : Req) (s : State) : Host.Outcome State Fault Refusal :=
  .next (s.memReq port r .writeBack 64 (reqWriteWf r && r.mask == BitVec.allOnes 64) (·.w))

/-- READ_GATHER: the arriving port splits it into element reads and sends a closing Comp (R88, R89). (DEDUCED, log entry 40.) -/
def execReadGather (port : JPort) (r : Req) (s : State) : Host.Outcome State Fault Refusal :=
  .next (
    let s := s.takeRx port 0 r.src
    if s.dupTag port r.src r.tag then s.raise (Src.link port) 0x08 (r.src % 65536 + r.tag % 65536 * 65536)
    else
      let p := { reqPend r port .writeLine r.offset 0 none with district := 0 }
      let bad := fun why => s.reply p Jl.accessFault why none
      if !reqGatherWf r then bad Af.malformed
      else match s.maps.windows.get r.window with
        | none => bad Af.windowInvalid
        | some _ =>
          let full := decide (8192 ≤ (s.coh.ledger.filter fun t => t.port == port.val).length)
          let s := if full then s
            else { s with coh := { s.coh with ledger :=
              s.coh.ledger ++ [Ledger.mk port r.src r.tag none 8 false .comp r.flow s.clock] } }
          let s := { s with coh := { s.coh with gathers :=
            s.coh.gathers ++ [Gather.mk port r.src r.tag (r.gcount + 1) 0 0 none] } }
          s.gatherElems port r 0 r.elems)

/-- A far atomic on memory (R74, R115). -/
def State.atomicReq (s : State) (port : Nat) (r : Req) (atop : Nat) : State :=
  s.memReq port r (.atomicFar false atop) r.size (reqAtomicWf r atop) (·.a)

/-- ATOMIC_ADD (R74). -/
def execAtomicAdd (port : JPort) (r : Req) (s : State) : Host.Outcome State Fault Refusal := .next (s.atomicReq port r 0)
/-- ATOMIC_AND (R74). -/
def execAtomicAnd (port : JPort) (r : Req) (s : State) : Host.Outcome State Fault Refusal := .next (s.atomicReq port r 1)
/-- ATOMIC_OR (R74). -/
def execAtomicOr (port : JPort) (r : Req) (s : State) : Host.Outcome State Fault Refusal := .next (s.atomicReq port r 2)
/-- ATOMIC_XOR (R74). -/
def execAtomicXor (port : JPort) (r : Req) (s : State) : Host.Outcome State Fault Refusal := .next (s.atomicReq port r 3)
/-- ATOMIC_SMAX (R74). -/
def execAtomicSmax (port : JPort) (r : Req) (s : State) : Host.Outcome State Fault Refusal := .next (s.atomicReq port r 4)
/-- ATOMIC_SMIN (R74). -/
def execAtomicSmin (port : JPort) (r : Req) (s : State) : Host.Outcome State Fault Refusal := .next (s.atomicReq port r 5)
/-- ATOMIC_UMAX (R74). -/
def execAtomicUmax (port : JPort) (r : Req) (s : State) : Host.Outcome State Fault Refusal := .next (s.atomicReq port r 6)
/-- ATOMIC_UMIN (R74). -/
def execAtomicUmin (port : JPort) (r : Req) (s : State) : Host.Outcome State Fault Refusal := .next (s.atomicReq port r 7)
/-- ATOMIC_SWAP (R74). -/
def execAtomicSwap (port : JPort) (r : Req) (s : State) : Host.Outcome State Fault Refusal := .next (s.atomicReq port r 8)
/-- ATOMIC_CAS (R74). -/
def execAtomicCas (port : JPort) (r : Req) (s : State) : Host.Outcome State Fault Refusal := .next (s.atomicReq port r 9)

/-- ATOMIC_ANY_NEAR: an Atomic-Any on memory, granted near or executed far as R116 and R117 decide; with a Crossing operation it is far
(R115, R116). -/
def execAtomicAnyNear (port : JPort) (atop : Nat) (r : Req) (s : State) : Host.Outcome State Fault Refusal :=
  .next (if 0x10 ≤ atop ∧ atop ≤ 0x1D then s.crReq port r atop
    else s.memReq port r (.atomicAny atop false) r.size (reqAtomicWf r atop) (·.a))

/-- WRITEBACK_TRACKER_GRANT: a tracker has freed, and the WriteBack that waits longest at the share takes it (R82). -/
def execWritebackTrackerGrant (share : Share) (s : State) : Host.Outcome State Fault Refusal :=
  .next (match s.coh.wbWait.find? fun p => p.steer == share.val with
    | none => s
    | some p =>
      if 8192 ≤ s.trackersOf share then s
      else ((({ s with coh := { s.coh with wbWait := s.coh.wbWait.erase p } }).grantTracker p).resolve p).settleBusy)

/-! ### Answers to recalls -/

/-- The line and entry whose recall a tag names. -/
def State.busyOf (s : State) (tag : Nat) : Option (Nat × DirEntry) :=
  s.coh.dir.find? fun e => match e.2.busy with
    | some b => b.tag == tag
    | none => false

/-- Has a share no directory information: is it in a fail-over gap (R128, R135)? -/
def State.inGap (s : State) (n : Nat) : Bool := (s.share n).st == .gap

/-- A share's fail-over can complete once no RecallAll answer is awaited (R128); the message takes no tracker (R102, R105). -/
def State.rspIn (s : State) (port : Nat) (m : Rsp) : State := s.takeRx port 2 m.src

/-- RECALL_ACK: counted against the BUSY entry of its tag, or it closes a RecallAll; any other is discarded (R113, R128, R134). -/
def execRecallAck (port : JPort) (m : Rsp) (s : State) : Host.Outcome State Fault Refusal :=
  .next (
    let s := s.rspIn port m
    let n := m.tag / 8192
    if s.isFenced m.src then s
    else if s.coh.allWaits.any (fun a => a.share == n && a.tag == m.tag && a.node == m.src) then
      { s with coh := { s.coh with allWaits := s.coh.allWaits.filter fun a => !(a.share == n && a.tag == m.tag && a.node == m.src) } }
    else if s.inGap n then s
    else match s.busyOf m.tag with
      | some (line, _) => s.countAnswer line m.src (bitOf m.rflags 0)
      | none => s)

/-- A RecallData that answers a RecallAll of share n, at the home of its line (R128, R135). -/
def State.recallAllData (s : State) (n : Nat) (m : Rsp) : State :=
  match s.lineAt m.district m.line with
  | none => s
  | some line =>
    let h := s.regs.home (line * 64)
    if h = n ∨ s.inGap h then s.applyRecall m.district m.line line m.data
    else match s.coh.dir.get line with
      | none => s.tallyAv h 0x348
      | some e => match e.busy with
        | none => if e.st = DirState.owned ∧ e.p0 = m.src then (s.delDir line).applyRecall m.district m.line line m.data else s.tallyAv h 0x348
        | some b =>
          if b.owner = some m.src then
            (s.setDir line { e with busy := some { b with wbSeen := b.wbSeen ++ [m.src], wbw := b.wbw.filter (· != m.src) } }).applyRecall
              m.district m.line line m.data
          else s.tallyAv h 0x348

/-- RECALL_DATA: applied from a node recalled as owner or under a RecallAll; otherwise its data is discarded and it counts as a
RecallAck (R107, R128, R134). -/
def execRecallData (port : JPort) (m : Rsp) (s : State) : Host.Outcome State Fault Refusal :=
  .next (
    let s := s.rspIn port m
    let n := m.tag / 8192
    if s.isFenced m.src then s
    else if s.coh.allWaits.any (fun a => a.share == n && a.tag == m.tag) then s.recallAllData n m
    else if s.inGap n then s
    else match s.busyOf m.tag with
      | none => s
      | some (line, e) => match e.busy with
        | none => s
        | some b =>
          if !b.awaited.contains m.src then s
          else if b.owner = some m.src then (s.applyRecall e.district e.da line m.data).countAnswer line m.src false
          else s.countAnswer line m.src false)

/-- RECALL_TIMEOUT: an awaited node is fenced and counts as having answered (R113, R134). -/
def execRecallTimeout (line node : Nat) (s : State) : Host.Outcome State Fault Refusal :=
  .next (match (s.coh.dir.get line).bind (·.busy) with
    | some b => if b.awaited.contains node then (s.fenceNode (s.regs.home (line * 64)) node).countAnswer line node false else s
    | none => s)

/-- RECALLALL_TIMEOUT: a node that has not answered a RecallAll is fenced (R113, R128). -/
def execRecallallTimeout (share : Share) (district node : Nat) (s : State) : Host.Outcome State Fault Refusal :=
  .next (
    let w := fun (a : AllWait) => a.share == share.val && a.district == district && a.node == node
    if s.coh.allWaits.any w then
      (({ s with coh := { s.coh with allWaits := s.coh.allWaits.filter fun a => !w a } }).fenceNode share node)
    else s)

/-- WBW_TIMEOUT: an announced WriteBack has not come; its node is fenced and the line-cache data stands (R134). -/
def execWbwTimeout (line node : Nat) (s : State) : Host.Outcome State Fault Refusal :=
  .next (match s.coh.dir.get line with
    | none => s
    | some e => match e.busy with
      | none => s
      | some b =>
        if b.wbw.contains node then
          ((s.fenceNode (s.regs.home (line * 64)) node).setDir line
            { e with busy := some { b with wbw := b.wbw.filter (· != node) } }).completeBusy line
        else s)

/-! ### Early data -/

/-- EARLY_DECISION: Settle, or Revoke with the lowest reason that holds (R123, R136). -/
def execEarlyDecision (port : JPort) (src tag : Nat) (dataError : Bool) (s : State) : Host.Outcome State Fault Refusal :=
  .next (match s.earlyOf port src tag with
    | none => s
    | some e =>
      let why := s.revokeReason e dataError
      let s := if dataError then e.p.lines.foldl (fun s l => s.lineError l) s else s
      match why with
      | none => s.settleEarly e
      | some r => s.revokeEarly e r)

/-- EARLY_DEADLINE: not decided 150 ns after the EarlyData (R123, R136). -/
def execEarlyDeadline (port : JPort) (src tag : Nat) (s : State) : Host.Outcome State Fault Refusal :=
  .next (match s.earlyOf port src tag with
    | none => s
    | some e => s.revokeEarly e Rv.deadline)

/-! ### Acknowledgements, predictor, held requests -/

/-- MIRROR_CONFIRM: the partner holds a written line, or a Crossing's backing line is written (R30, R173). -/
def execMirrorConfirm (line : Nat) (s : State) : Host.Outcome State Fault Refusal :=
  .next (
    let s := { s with
      mem := { s.mem with mirror := s.mem.mirror.adjust line fun m => { m with confirmed := true } },
      coh := { s.coh with acks := s.coh.acks.map fun (a : Ack) =>
        if a.line = line ∧ !s.mem.mirrorWait.contains line then { a with needMirror := false } else a } }
    (s.releaseAcks).crRetry)

/-- SNOOP_LAP_DONE: the snoop-invalidate of a line has gone round, and its presence mark clears (R119). -/
def execSnoopLapDone (line : Nat) (s : State) : Host.Outcome State Fault Refusal :=
  .next (
    let s := { s with
      mem := { s.mem with cache := s.mem.cache.adjust line fun c => { c with mark := false } },
      coh := { s.coh with acks := s.coh.acks.map fun (a : Ack) => if a.line = line then { a with needSnoop := false } else a } }
    s.releaseAcks)

/-- PREDICTOR_DECAY: a decay period of a share has passed (R117). -/
def execPredictorDecay (share : Share) (s : State) : Host.Outcome State Fault Refusal :=
  .next (if s.avFld share 0x304 23 8 = 0 then s
    else { s with coh := { s.coh with pred := s.coh.pred.each fun k p =>
      if k / 4096 = share.val then { p with count := p.count - 1 } else p } })

/-- The requests that a test names, wherever they wait. -/
def State.reqsWith (s : State) (is : Pend → Bool) : List Pend :=
  (((s.coh.waits.map (·.2)).flatten ++ s.coh.fetch ++ s.coh.evictWait.map (·.2) ++ s.coh.moveWait ++ s.coh.wbWait ++
    s.coh.early.map (·.p) ++ s.coh.acks.map (·.p) ++ s.coh.dir.filterMap (fun e => e.2.busy.bind (·.req)) ++
    s.ms.spaceWait ++ (s.ms.copying.map (·.waiting)).flatten ++ (s.flash.fills.map (·.waiting)).flatten ++ s.cr.queue).filter is).eraseDups

/-- The requests that an arrival port, source and tag name. -/
def State.heldReqs (s : State) (port src tag : Nat) : List Pend :=
  s.reqsWith fun p => p.port == port && p.src == src && p.tag == tag

/-- The state without requests that a test names, in every place where a request waits. -/
def State.dropReqs (s : State) (is : Pend → Bool) : State :=
  let keep := fun (l : List Pend) => l.filter fun p => !is p
  { s with
    coh := { s.coh with
      waits := (s.coh.waits.each fun _ l => keep l).only fun _ l => !l.isEmpty,
      fetch := keep s.coh.fetch,
      evictWait := s.coh.evictWait.filter fun x => !is x.2,
      moveWait := keep s.coh.moveWait,
      wbWait := keep s.coh.wbWait,
      early := s.coh.early.filter fun e => !is e.p,
      acks := s.coh.acks.filter fun a => !is a.p,
      dir := s.coh.dir.each fun _ e => { e with busy := e.busy.map fun b => { b with req := b.req.filter fun p => !is p } } },
    ms := { s.ms with
      spaceWait := keep s.ms.spaceWait,
      copying := s.ms.copying.map fun c => { c with waiting := keep c.waiting } },
    flash := { s.flash with fills := s.flash.fills.map fun f => { f with waiting := keep f.waiting } },
    cr := { s.cr with queue := keep s.cr.queue } }

/-- REQUEST_HELD_TIMEOUT: a request has waited 2 s; it is answered RETRY_LATER, HELD, and its tracker is free, while what it waited on
goes on (R356). -/
def execRequestHeldTimeout (port : JPort) (src tag : Nat) (s : State) : Host.Outcome State Fault Refusal :=
  .next (match s.coh.ledger.find? fun t => t.port == port.val && t.src == src && t.tag == tag with
    | none => s
    | some t =>
      let ps := s.heldReqs port src tag
      let s := s.passTo (t.since + 2000000000)
      (ps.foldl (fun s p => s.retry p Rl.held) (s.dropReqs fun p => p.port == port.val && p.src == src && p.tag == tag)))

end Sys2Proof.Machine
end

