-- ==== Sys2Proof/Machine/Fp.lean ====
section
/-! DEFINITION. Exact dyadic values, FP32 rounding, and the number formats of R209 (R209, R216, R229). -/

namespace Sys2Proof.Machine

open Sys2Proof

/-- The exact value m × 2^e. -/
structure Dy where
  m : Int
  e : Int
  deriving DecidableEq, Repr

/-- Exact sum. -/
def Dy.add (a b : Dy) : Dy :=
  if a.e ≤ b.e then ⟨a.m + b.m * 2 ^ (b.e - a.e).toNat, a.e⟩ else ⟨a.m * 2 ^ (a.e - b.e).toNat + b.m, b.e⟩
/-- Exact product. -/
def Dy.mul (a b : Dy) : Dy := ⟨a.m * b.m, a.e + b.e⟩
/-- Negation. -/
def Dy.neg (a : Dy) : Dy := ⟨-a.m, a.e⟩
/-- Magnitude. -/
def Dy.abs (a : Dy) : Dy := ⟨a.m.natAbs, a.e⟩
/-- Is a below b? -/
def Dy.lt (a b : Dy) : Bool := decide ((a.add b.neg).m < 0)
/-- An integer. -/
def Dy.ofInt (n : Int) : Dy := ⟨n, 0⟩
/-- ⌊log2⌋ of the magnitude of a value that is not zero. -/
def Dy.log2 (a : Dy) : Int := (Nat.log2 a.m.natAbs : Int) + a.e
/-- ⌊a × 2^k⌋ for a magnitude, with the quotient a / b kept to k binary places and a sticky last bit: enough for any rounding to fewer
places. -/
def Dy.div (a b : Dy) (k : Nat) : Dy :=
  let n := a.m.natAbs * 2 ^ (k + Nat.log2 b.m.natAbs + 1)
  let d := b.m.natAbs
  let q := n / d * 2 + (if n % d = 0 then 0 else 1)
  ⟨(if (a.m < 0) != (b.m < 0) then -(q : Int) else q), a.e - b.e - (k + Nat.log2 b.m.natAbs + 1 : Nat) - 1⟩

/-- The magnitude of a value in units of 2^q, rounded to nearest, ties to even. -/
def Dy.units (a : Dy) (q : Int) : Nat :=
  let n := a.m.natAbs
  if q ≤ a.e then n * 2 ^ (a.e - q).toNat
  else
    let k := (q - a.e).toNat
    let r := n % 2 ^ k
    let w := n / 2 ^ k
    if 2 ^ k < 2 * r ∨ (2 * r = 2 ^ k ∧ w % 2 = 1) then w + 1 else w

/-- The integer nearest to a value, ties to even. -/
def Dy.nearest (a : Dy) : Int := if a.m < 0 then -(a.units 0 : Int) else a.units 0

/-- The finite value of an FP32 word; infinities are taken as the largest finite value of their sign (R241). -/
def f32Val (b : Nat) : Dy :=
  let ex := bitsOf b 30 23
  let fr := bitsOf b 22 0
  let v : Dy := if ex = 255 then ⟨2 ^ 24 - 1, 104⟩ else if ex = 0 then ⟨fr, -149⟩ else ⟨fr + 2 ^ 23, (ex : Int) - 150⟩
  if bitOf b 31 then v.neg else v

def f32Nan (b : Nat) : Bool := bitsOf b 30 23 == 255 && bitsOf b 22 0 != 0
def f32Inf (b : Nat) : Bool := bitsOf b 30 23 == 255 && bitsOf b 22 0 == 0
def f32Neg (b : Nat) : Bool := bitOf b 31
def f32Zero (b : Nat) : Bool := b % 2 ^ 31 == 0

/-- A value rounded to FP32, nearest even, subnormals kept; beyond the largest finite value it is set to that value, and the second part
is true (R216). `neg` is the sign of a zero result. -/
def roundF32 (a : Dy) (neg : Bool := false) : Nat × Bool :=
  if a.m = 0 then (if neg then 2 ^ 31 else 0, false)
  else
    let s := if a.m < 0 then 2 ^ 31 else 0
    let q0 := max (a.log2 - 23) (-149)
    let n0 := a.units q0
    let n := if n0 = 2 ^ 24 then 2 ^ 23 else n0
    let q := if n0 = 2 ^ 24 then q0 + 1 else q0
    if 104 < q then (s + 0x7F7FFFFF, true)
    else if n < 2 ^ 23 then (s + n, false)
    else (s + (q + 150).toNat * 2 ^ 23 + (n - 2 ^ 23), false)

/-- FP32 addition, with its saturation (R216). -/
def f32Add (x y : Nat) : Nat × Bool := roundF32 ((f32Val x).add (f32Val y)) (f32Neg x && f32Neg y)
/-- FP32 multiplication, with its saturation (R216). -/
def f32Mul (x y : Nat) : Nat × Bool := roundF32 ((f32Val x).mul (f32Val y)) (f32Neg x != f32Neg y)
/-- FP32 quotient rounded to nearest even; a quotient by zero is not formed (R250). -/
def f32Div (x y : Nat) : Nat × Bool :=
  if f32Zero x then roundF32 ⟨0, 0⟩ (f32Neg x != f32Neg y) else roundF32 ((f32Val x).div (f32Val y) 64)

/-- A decoded element: its value, or a special encoding. -/
inductive Elem where
  | val (v : Dy)
  | inf (neg : Bool)
  | nan
  deriving DecidableEq, Repr

/-- The value of an element, where it has one. -/
def Elem.dy : Elem → Dy
  | .val v => v
  | _ => ⟨0, 0⟩

/-- Is an element NaN or infinite? -/
def Elem.special : Elem → Bool
  | .val _ => false
  | _ => true

/-- FP8 E4M3 (R209). -/
def e4m3 (b : Nat) : Elem :=
  let ex := bitsOf b 6 3
  let m := bitsOf b 2 0
  if ex = 15 ∧ m = 7 then .nan
  else
    let v : Dy := if ex = 0 then ⟨m, -9⟩ else ⟨m + 8, (ex : Int) - 10⟩
    .val (if bitOf b 7 then v.neg else v)

/-- FP8 E5M2 (R209). -/
def e5m2 (b : Nat) : Elem :=
  let ex := bitsOf b 6 2
  let m := bitsOf b 1 0
  if ex = 31 then (if m = 0 then .inf (bitOf b 7) else .nan)
  else
    let v : Dy := if ex = 0 then ⟨m, -16⟩ else ⟨m + 4, (ex : Int) - 17⟩
    .val (if bitOf b 7 then v.neg else v)

/-- FP4 E2M1, in units of one half (R209). -/
def fp4Twice (c : Nat) : Int :=
  let v : Int := [0, 1, 2, 3, 4, 6, 8, 12].getD (c % 8) 0
  if bitOf c 3 then -v else v

/-- A value rounded to a small format of the given mantissa bits, least exponent of its unit and largest magnitude: nearest even,
saturating. Gives the magnitude code, and whether it saturated. -/
def roundSmall (mant : Nat) (qMin : Int) (maxCode : Nat) (a : Dy) : Nat × Bool :=
  if a.m = 0 then (0, false)
  else
    let q := max (a.log2 - mant) qMin
    let n := a.units q
    let code := (q - qMin).toNat * 2 ^ mant + n
    if maxCode < code then (maxCode, true) else (code, false)

/-- The nearest E4M3 code of a value, saturating at 448 (R229). -/
def toE4m3 (a : Dy) : Nat × Bool :=
  let r := roundSmall 3 (-9) 0x7E a
  (r.1 + (if a.m < 0 then 128 else 0), r.2)

/-- The nearest E5M2 code of a value, saturating at 57,344 (R229). -/
def toE5m2 (a : Dy) : Nat × Bool :=
  let r := roundSmall 2 (-16) 0x7B a
  (r.1 + (if a.m < 0 then 128 else 0), r.2)

/-- The least non-negative E4M3 code whose value is not below the rational n / d (R229). -/
def upE4m3 (n : Dy) (d : Int) : Nat :=
  ((List.range 0x7F).find? fun c => !((e4m3 c).dy.mul ⟨d, 0⟩).lt n).getD 0x7E

end Sys2Proof.Machine
end

