-- ==== Sys2Proof/Machine/Complete.lean ====
section
/-! DEFINITION. How a ring command starts and completes: issuers and kinds (R386, R389), the checks of R393, completion records (R395 to
R398), retention (R402 to R404), and DMA into and out of host memory (R94 to R97). -/

namespace Sys2Proof.Machine

open Sys2Proof

/-! ### Issuers -/

/-- Is a ring number that of an accelerator ring (R386)? -/
def isAccRing (r : Nat) : Bool := bitOf r 15

/-- The host function of a host ring: port × 256 + function (R386). -/
def ringFn (r : Nat) : Nat := bitsOf r 14 14 * 256 + bitsOf r 13 6

/-- The number of a host ring (R386). -/
def hostRing (fn k : Nat) : Nat := fn / 256 % 2 * 2 ^ 14 + fn % 256 * 64 + k % 64

/-- The issuer key of a ring (R402). -/
def issuerOf (r : Nat) : Nat := if isAccRing r then 1024 + r % 4096 else ringFn r

/-- The key of a retained record (R402). -/
def retainKey (issuer cmdId : Nat) : Nat := issuer * 2 ^ 32 + cmdId

/-- Is a function a PF? -/
def isPf (fn : Nat) : Bool := fn % 256 == 0

/-- Does the issuer of a command hold the control token as a PF (R389, R406)? -/
def State.isG (s : State) (c : Cmd) : Bool :=
  !isAccRing c.ring && isPf (ringFn c.ring) && s.host.token == some (ringFn c.ring / 256)

/-- Does the issuer own the command's District (R389, R390)? -/
def State.isD (s : State) (c : Cmd) : Bool :=
  !isAccRing c.ring && c.d.district != 0 &&
    match s.district c.d.district with
    | some d => d.owner == ringFn c.ring
    | none => false

/-- Is the issuer admitted by a kind (R389, R391)? -/
def State.admits (s : State) (k : Kind) (c : Cmd) : Bool :=
  match k with
  | .g => s.isG c
  | .d => s.isD c
  | .q => s.isD c || s.isG c
  | .e => s.isD c || (isAccRing c.ring && ((s.ring c.ring).acc.map (·.district)) == some c.d.district)
  | .pf => !isAccRing c.ring && isPf (ringFn c.ring)
  | .any => true

/-! ### Records -/

/-- The pool's own FLAG_OR on the flag Crossing of an accelerator ring (R391): it is journalled, and it signals waiters. (DESIGN CHOICE, log
entry 23.) -/
def State.flagOr (s : State) (n bit : Nat) : State :=
  match s.crossing n with
  | none => s
  | some c =>
    if c.lost ∨ c.type ≠ 2 then s
    else
      let m := Config.ownOpMark s.free
      let held := decide (crMax < c.seq + 1)
      let c' := { c with value := c.value ||| 2 ^ bit, seq := min crMax (c.seq + 1), sat := c.sat || held,
                         journal := ((m.1, m.2, c.value % 2 ^ 32) :: c.journal).take 4 }
      let s := (s.setCrossing n c').draw
      let rs := s.cr.signalled n 0x17 c c'
      (s.dropRegs rs).sendSignals (rs.map fun r => c'.signalTo r 1)

/-- Stop a ring for a cause, with one notice (R408, R411). -/
def State.stopRing (s : State) (ring cause : Nat) : State :=
  let r := s.ring ring
  if r.st = .running ∨ r.st = .draining then
    let s := s.setRing ring { r with st := .stopped, cause := cause }
    let d := r.acc.map (·.district)
    let port := match d.bind s.district with
      | some x => x.owner / 256
      | none => ringFn ring / 256
    s.raise (Src.host port) 0x01 (ring % 65536 + cause * 65536) d
  else s

/-- Write a record, and its continuation before it, into the next slots of a completion ring (R395, R397, R398). A ring whose records cannot
be written drops them (R408). (DEDUCED, log entry 22.) -/
def State.putRecord (s : State) (ring : Nat) (rcd : Record) : State :=
  let r := s.ring ring
  if r.st = .disabled ∨ (r.st = .stopped ∧ (r.cause = 2 ∨ r.cause = 4)) then s
  else if r.acc.isNone && s.host.hostDown.contains (ringFn ring / 256) then s.stopRing ring 2
  else
    let rcd := { rcd with head := r.head % 65536 }
    let slot := fun k => (r.cplTail + k) % 2 ^ 32 % 2 ^ r.m
    let phase := fun k => ((r.cplTail + k) % 2 ^ 32 / 2 ^ r.m) % 2 == 0
    let s := if rcd.ext then s.emit (.contRecord ring (slot 1) (phase 1) rcd) else s
    let s := s.emit (.record ring (slot 0) (phase 0) rcd)
    let s := s.setRing ring { r with
      cplTail := (r.cplTail + (if rcd.ext then 2 else 1)) % 2 ^ 32, lastCmd := rcd.cmdId, armed := false }
    let s := if r.armed && r.acc.isNone then s.emit (.msix (ringFn ring) r.vector) else s
    match r.acc with
    | some a => if a.crEn then s.flagOr a.crossing a.flagBit else s
    | none => s

/-- A record with a result, of a command that is not a job; a result that the command places beyond byte 11 makes it a pair (R395). -/
def recOf (c : Cmd) (status detail result : Nat) (ext : Bool := false) : Record :=
  ⟨c.d.cmdId, status, detail, 0, ext, false, false, 1, 0, 0, 0, result⟩

/-- A record that ends a command with a fault location in result bytes 12 to 19 (R396). -/
def recFault (c : Cmd) (status detail loc : Nat) : Record := recOf c status detail (loc % 2 ^ 64 * 2 ^ 96) (detail != 0)

/-- A retained record as it is replayed (R403). -/
def replayOf (c : Cmd) (x : Retained) : Record :=
  { x.kept with cmdId := c.d.cmdId, status := Cs.doneReplayed, detail := x.kept.status, prior := x.kept.detail }

/-- Is a completion retained (R402, R541)? (DEDUCED, log entry 24.) -/
def State.retains (s : State) (c : Cmd) (status : Nat) : Bool :=
  c.d.cmdId != 0 && !(decide (0x10 ≤ status) && decide (status ≤ 0x1F)) && status != Cs.doneReplayed && !readsOnly c.d.opcode &&
    s.boot.memReady

/-- The command leaves its ring's lists. -/
def State.leaveRing (s : State) (c : Cmd) : State :=
  let r := s.ring c.ring
  if r.waiting.contains c || r.running.contains c then
    s.setRing c.ring { r with waiting := r.waiting.filter (· != c), running := r.running.filter (· != c) }
  else s

/-- Copies of a command that wait for it: same issuer, identifier, opcode and District (R403). (DEDUCED, log entry 19.) -/
def State.copiesOf (s : State) (c : Cmd) : List Cmd :=
  ((s.host.rings.map fun e => e.2.waiting).flatten).filter fun x =>
    issuerOf x.ring == issuerOf c.ring && x.d.cmdId == c.d.cmdId && x.d.opcode == c.d.opcode && x.d.district == c.d.district && x != c

/-- A command completes: its record is retained where R402 says so and written, and copies that waited for it are replayed. -/
def State.finish (s : State) (c : Cmd) (rcd : Record) : State :=
  let s := s.leaveRing c
  if s.retains c rcd.status then
    let x : Retained := ⟨c.d.opcode, c.d.district, rcd, s.clock + s.regs.fld 0x22010 5 0 * 1000000000⟩
    let s := { s with host := { s.host with retained := s.host.retained.put (retainKey (issuerOf c.ring) c.d.cmdId) x } }
    let s := s.putRecord c.ring rcd
    (s.copiesOf c).foldl (fun s k => (s.leaveRing k).putRecord k.ring (replayOf k x)) s
  else s.putRecord c.ring rcd

/-- Complete a command DONE with a result. -/
def State.done (s : State) (c : Cmd) (result : Nat) : State := s.finish c (recOf c Cs.done 0 result (longResult c.d.opcode))

/-- Refuse a command, or end it without a location. -/
def State.endWith (s : State) (c : Cmd) (x : Stop) : State := s.finish c (recOf c x.1 x.2 0)

/-! ### Starting a command -/

/-- Is an earlier command of the ring in the way: a non-operator waits for every earlier non-operator that has not completed and is not an
event of the queue (R394)? (DEDUCED, log entry 19.) -/
def State.mustWait (s : State) (c : Cmd) : Bool :=
  let r := s.ring c.ring
  let early := r.waiting.takeWhile (· != c)
  let queued := fun k => s.time.events.any fun e => e.cmd == some k
  let switching := (List.range 3).any fun p => (s.core p).switching.isSome
  switching || (!isOperator c.d.opcode &&
    ((if r.waiting.contains c then early.any fun k => !isOperator k.d.opcode else r.waiting.any fun k => !isOperator k.d.opcode) ||
      r.running.any fun k => !isOperator k.d.opcode && !queued k))

/-- The commands accepted before `MEM_READY` (R541). -/
def earlyOpcode (op : Nat) : Bool := [0xF0, 0xFF, 0x66, 0x73, 0x78, 0x79].contains op

/-- May the state of the pool allow a command: bring-up, a lost SQ or SC pair, a zeroised pool, a District that is being erased, a VF
outside RUN (R418, R463, R464, R519, R541)? -/
def State.gate (s : State) (c : Cmd) : Option Stop :=
  let op := c.d.opcode
  let fn := ringFn c.ring
  let conf := s.maps.districts.any fun e => e.2.conf && e.2.owner == fn
  chk ((!s.boot.memReady && !earlyOpcode op) ||
    (s.sec.zeroised && op != 0xF0 && op != 0xFF && op != 0x66) ||
    ((s.core 2).lost && op != 0xF0 && op != 0xFF) ||
    ((s.core 0).lost && [0x80, 0x83, 0x84, 0x82, 0x01, 0x02].contains op) ||
    (op != 0x03 && op != 0xF0 && op != 0xFF && ((s.district c.d.district).map fun x => x.st == .erasing).getD false) ||
    (!isAccRing c.ring && !isPf fn && conf && (s.host.tdi.get fn).getD .unlocked != .run)) Cs.refusedState

/-- Commands of kind G that name a District (R390). -/
def gNamesDistrict (op : Nat) : Bool := op == 0x01 || op == 0x08 || op == 0x0C

/-- Steps 2 to 4 of R393 for a command of a kind, with its own checks. An opcode that an accelerator ring does not accept meets no check
after that of its version (R391). (DEDUCED, log entry 19.) -/
def State.refusal (s : State) (c : Cmd) (k : Kind) (own : Option Stop) : Option Stop :=
  let op := c.d.opcode
  let version := chk (op != 0xF0 && op != 0x67 && c.d.ifv != ((s.boot.fw.map (·.ifMajor)).getD 0)) Cs.refusedVersion
  let acc := ((s.ring c.ring).acc.map (·.district)).getD 0
  if isAccRing c.ring && !accOpcode op then lowestOf [version, some (Cs.refusedParam, 0xFC)]
  else lowestOf [
    version,
    chk (!s.admits k c) Cs.refusedOwner,
    chk (isAccRing c.ring && c.d.district != acc && !(op == 0xFF && c.d.district == 0)) Cs.refusedOwner,
    s.gate c,
    chk (c.d.cmdId != 0 && !readsOnly op && s.boot.memReady && decide (4194304 ≤ s.host.retained.length)) Cs.refusedResource 0xFE,
    chk (k == .g && !gNamesDistrict op && c.d.district != 0) Cs.refusedParam,
    chk (!isOperator op && reservedSet c.d) Cs.refusedParam,
    own]

/-- The notices that a refusal raises: VERSION once for each function (R405), RETAIN_FULL (R404). (DEDUCED, log entry 21.) -/
def State.refusalNotice (s : State) (c : Cmd) (x : Stop) : State :=
  let fn := ringFn c.ring
  if x.1 = Cs.refusedVersion ∧ !isAccRing c.ring ∧ !s.host.versionTold.contains fn then
    ({ s with host := { s.host with versionTold := s.host.versionTold.ins fn } }).raise (Src.host (fn / 256)) 0x06
      (fn % 256 + c.d.ifv % 256 * 256)
  else if x.2 = 0xFE ∧ x.1 = Cs.refusedResource then s.raiseLevel (Src.host (fn / 256)) 0x04 0
  else s

/-- Is a fetched command at hand: it waits in its ring, or its ring is running and fetches it now (R392)? (DEDUCED, log entries 6, 19.) -/
def State.atHand (s : State) (c : Cmd) : Bool := (s.ring c.ring).waiting.contains c || (s.ring c.ring).st == .running

/-- The ring gives a command up: it waits, and the ring's head has passed it (R392). (DEDUCED, log entry 19.) -/
def State.pick (s : State) (c : Cmd) : State :=
  let r := s.ring c.ring
  if r.waiting.contains c then s else s.setRing c.ring { r with waiting := r.waiting ++ [c], head := (r.head + 1) % 2 ^ 32 }

/-- A command of the same issuer and identifier that has started and not completed (R403). (DEDUCED, log entry 24.) -/
def State.sameRunning (s : State) (c : Cmd) : Option Cmd :=
  ((s.host.rings.map fun e => e.2.running).flatten).find? fun x =>
    issuerOf x.ring == issuerOf c.ring && x.d.cmdId == c.d.cmdId && c.d.cmdId != 0

/-- The retained completion of a command's identifier (R402); identifier 0 asks for no replay protection (R388). (DEDUCED, log entry 24.) -/
def State.retainedOf (s : State) (c : Cmd) : Option Retained :=
  (s.host.retained.get (retainKey (issuerOf c.ring) c.d.cmdId)).filter fun _ => c.d.cmdId != 0

/-- Was the command's retained record lost with its depot line (R292)? (DEDUCED, log entry 24.) -/
def State.recordLost (s : State) (c : Cmd) : Bool :=
  c.d.cmdId != 0 && decide (s.clock < (s.host.lostRetain.get (retainKey (issuerOf c.ring) c.d.cmdId)).getD 0)

/-- A command starts: it leaves the waiting commands of its ring (R394). -/
def State.launch (s : State) (c : Cmd) : State :=
  let r := s.ring c.ring
  s.setRing c.ring { r with waiting := r.waiting.filter (· != c), running := r.running ++ [c] }

/-- A command of a kind, with its own checks and its effect (R393, R394, R403). `go` completes it or leaves it running. (DEDUCED, log entry
6.) -/
def State.command (s : State) (c : Cmd) (k : Kind) (own : Option Stop) (go : State → State) : State :=
  if !s.atHand c then s
  else
    let s := s.pick c
    if s.recordLost c then s.endWith c (Cs.faultUncorrectable, 0)
    else match s.retainedOf c, s.sameRunning c with
    | some x, _ =>
      if x.opcode = c.d.opcode ∧ x.district = c.d.district then (s.leaveRing c).putRecord c.ring (replayOf c x)
      else s.endWith c (Cs.refusedParam, 0xFD)
    | none, some x =>
      if x.d.opcode = c.d.opcode ∧ x.d.district = c.d.district then s
      else s.endWith c (Cs.refusedParam, 0xFD)
    | none, none =>
      if s.mustWait c then s
      else match s.refusal c k own with
        | some x => (s.refusalNotice c x).endWith c x
        | none => go (s.launch c)

/-! ### DMA -/

/-- The bytes that a DMA moves next: to the end of the host page (R95), and of a host copy no further than the end of the pool page (R245). -/
def Dma.chunk (d : Dma) : Nat :=
  let n := min (d.len - d.done) (4096 - (d.addr + d.done) % 4096)
  if d.use = .hostCopy then min n (4096 - (d.cmd.d.p2 / 2 ^ 16 + d.done) % 4096) else n

/-- The host page that a DMA is at. -/
def Dma.page (d : Dma) : Nat := (d.addr + d.done) / 4096

def State.setDma (s : State) (k : Nat) (d : Dma) : State := { s with host := { s.host with dmas := s.host.dmas.put k d } }

/-- Begin a DMA for a command: the first page's translation is requested (R94, R95). (DEDUCED, log entry 25.) -/
def State.startDma (s : State) (c : Cmd) (fn : Nat) (toHost : Bool) (addr len : Nat) (data : List Byte) (use : DmaUse) : State :=
  let k := s.host.nextDma
  let s := (s.setDma k ⟨fn, c, toHost, addr, len, 0, data, false, false, 0, use⟩)
  ({ s with host := { s.host with nextDma := k + 1 } }).emit (.atsRequest fn (addr / 4096))

/-- Write bytes at a command's `BUF`, and complete it with a record when they stand there (R95). -/
def State.writeBuf (s : State) (c : Cmd) (data : List Byte) (rcd : Record) : State :=
  if data.isEmpty then s.finish c rcd
  else s.startDma c (ringFn c.ring) true c.d.buf data.length data (.result rcd)

/-- Read bytes from a command's `BUF`, for the command to go on with. -/
def State.readBuf (s : State) (c : Cmd) (len : Nat) : State :=
  s.startDma c (ringFn c.ring) false c.d.buf len [] .command

/-- A DMA has ended or left its page: invalidations of that page complete (R96). -/
def State.answerInvals (s : State) (fn page : Nat) : State :=
  if s.host.dmas.any fun e => e.2.fn == fn && e.2.page == page && e.2.translated then s
  else
    let n := (s.host.invals.filter fun x => x == (fn, page)).length
    ({ s with host := { s.host with invals := s.host.invals.filter fun x => x != (fn, page) } }).emits
      (List.replicate n (.atsInvalidateDone fn page))

/-- Drop a DMA. -/
def State.dropDma (s : State) (k : Nat) : State :=
  match s.host.dmas.get k with
  | none => s
  | some d => ({ s with host := { s.host with dmas := s.host.dmas.del k } }).answerInvals d.fn d.page

end Sys2Proof.Machine
end

