-- ==== Sys2Proof/Machine/Rings.lean ====
section
/-! DEFINITION. Doorbells, fetching, notice words, retention, and the resets of host functions (R392 to R413, R426, R504, R534). -/

namespace Sys2Proof.Machine

open Sys2Proof

/-! ### Counts -/

/-- A doorbell that is ignored, with its notice (R399, R411). -/
def State.doorbellIgnored (s : State) (port ring : Nat) (val : Word64) : State :=
  s.raise (Src.host port) 0x02 (ring % 65536 + val.toNat % 2 ^ 32 * 2 ^ 32)

/-- The port on whose host interface a ring's notices are raised. -/
def State.ringPort (s : State) (ring : Nat) : Nat :=
  match ((s.ring ring).acc.map (·.district)).bind s.district with
  | some d => d.owner / 256
  | none => ringFn ring / 256

/-- The count that a doorbell posts against a present count: `none` when it is stale (R399). -/
def newCount (c : Nat) (val : Nat) : Option Nat :=
  let d := (val + 2 ^ 32 - c) % 2 ^ 32
  if d = 0 ∨ 2 ^ 31 ≤ d then none else some val

/-- A command tail count (R399). (DEDUCED, log entry 20.) -/
def State.takeTail (s : State) (ring : Nat) (val : Word64) : State :=
  let r := s.ring ring
  if 2 ^ 32 ≤ val.toNat ∨ r.st = .disabled then s.doorbellIgnored (s.ringPort ring) ring val
  else match newCount r.tail val.toNat with
    | none => s
    | some t =>
      if 2 ^ r.n - 1 < (t + 2 ^ 32 - r.head) % 2 ^ 32 then s.doorbellIgnored (s.ringPort ring) ring val
      else s.setRing ring { r with tail := t }

/-- A completion head count (R398, R399): slots are freed, the vector is armed, and its message goes at once where records remain. (DEDUCED,
log entry 20.) -/
def State.takeHead (s : State) (ring : Nat) (val : Word64) : State :=
  let r := s.ring ring
  if 2 ^ 32 ≤ val.toNat ∨ r.st = .disabled then s.doorbellIgnored (s.ringPort ring) ring val
  else match newCount r.cplHead val.toNat with
    | none => s
    | some h =>
      if (r.cplTail + 2 ^ 32 - r.cplHead) % 2 ^ 32 < (h + 2 ^ 32 - r.cplHead) % 2 ^ 32 then
        s.doorbellIgnored (s.ringPort ring) ring val
      else if r.cplTail ≠ h ∧ r.acc.isNone then (s.setRing ring { r with cplHead := h, armed := false }).emit (.msix (ringFn ring) r.vector)
      else s.setRing ring { r with cplHead := h, armed := true }

/-- Is a ring index of a function's doorbell page a word of the page (R386, R399)? -/
def pageRing (fn r : Nat) : Bool := if fn % 256 = 0 then decide (r < 64) else decide (r < 4)

/-- The function key of a function of a host port. -/
def fnKey (port : HPort) (fn : Nat) : Nat := port.val * 256 + fn % 256

/-- COMMAND_TAIL_DOORBELL (R399): offsets that are not listed are ignored. -/
def execCommandTailDoorbell (port : HPort) (fn r size : Nat) (val : Word64) (s : State) : Host.Outcome State Fault Refusal :=
  .next (
    let f := fnKey port fn
    if !pageRing f r then s
    else if size ≠ 8 then s.doorbellIgnored port (hostRing f r) val
    else s.takeTail (hostRing f r) val)

/-- COMPLETION_HEAD_DOORBELL (R398, R399). -/
def execCompletionHeadDoorbell (port : HPort) (fn r size : Nat) (val : Word64) (s : State) : Host.Outcome State Fault Refusal :=
  .next (
    let f := fnKey port fn
    if !pageRing f r then s
    else if size ≠ 8 then s.doorbellIgnored port (hostRing f r) val
    else s.takeHead (hostRing f r) val)

/-- A notice head count: slots are freed, the vector is armed, and its message goes at once where records remain (R398, R399). (DEDUCED, log
entry 20.) -/
def State.takeNoticeHead (s : State) (f h : Nat) : State :=
  let r := s.ntc f
  (if r.tail ≠ h then (s.setNtc f { r with head := h, armed := false }).emit (.msix f r.vector)
   else s.setNtc f { r with head := h, armed := true }).refillNotices f

/-- NOTICE_HEAD_DOORBELL (R399, R410, R413). -/
def execNoticeHeadDoorbell (port : HPort) (fn size : Nat) (val : Word64) (s : State) : Host.Outcome State Fault Refusal :=
  .next (
    let f := fnKey port fn
    let r := s.ntc f
    let bad := s.doorbellIgnored port 0xFFFF val
    if size ≠ 8 ∨ 2 ^ 32 ≤ val.toNat ∨ !r.en then bad
    else match newCount r.head val.toNat with
      | none => s
      | some h =>
        if (r.tail + 2 ^ 32 - r.head) % 2 ^ 32 < (h + 2 ^ 32 - r.head) % 2 ^ 32 then bad else s.takeNoticeHead f h)

/-- NOTICE_CLAIM_READ: the oldest unclaimed level record, or SPURIOUS when its condition has ended (R412). -/
def execNoticeClaimRead (port : HPort) (fn : Nat) (s : State) : Host.Outcome State Fault Refusal :=
  .next (
    let f := fnKey port fn
    let r := s.ntc f
    match r.outstanding.find? fun o => !o.claimed with
    | none => s.emit (.claimRead f 0)
    | some o =>
      let holds := s.host.conds.any fun c => c.source == o.source && c.cause == o.cause
      if holds then
        (s.setNtc f { r with outstanding := r.outstanding.map fun x => if x = o then { x with claimed := true } else x }).emit
          (.claimRead f (o.seq % 65536 + o.source % 1024 * 65536 + 2 ^ 31))
      else (s.setNtc f { r with outstanding := r.outstanding.erase o }).emit
        (.claimRead f (o.seq % 65536 + Src.spurious * 65536 + 2 ^ 31)))

/-- NOTICE_COMPLETION_WRITE: the claimed condition is sampled again, and reported anew where it still holds (R412). (DEDUCED, log entry 20.)
-/
def execNoticeCompletionWrite (port : HPort) (fn size : Nat) (val : Word64) (s : State) : Host.Outcome State Fault Refusal :=
  .next (
    let f := fnKey port fn
    let r := s.ntc f
    let src := bitsOf val.toNat 9 0
    let cause := bitsOf val.toNat 23 16
    match r.outstanding.find? fun o => o.source == src && o.cause == cause && o.claimed with
    | some o =>
      if size = 8 then
        let s := s.setNtc f { r with outstanding := r.outstanding.erase o }
        match s.host.conds.find? fun c => c.source == src && c.cause == cause with
        | some c => s.deliver f c
        | none => s
      else s.raise (Src.host port) 0x08 (src + cause * 65536 + f * 2 ^ 32)
    | none => s.raise (Src.host port) 0x08 (src + cause * 65536 + f * 2 ^ 32))

/-- SHADOW_TAIL_SWEEP: the shadow tail is read as a command tail doorbell; a failed read stops the ring (R400, R408). -/
def execShadowTailSweep (ring : Nat) (read : Option Nat) (s : State) : Host.Outcome State Fault Refusal :=
  .next (
    let r := s.ring ring
    if r.st = .running ∧ (r.sweep ∨ ((r.acc.bind (·.shadowRef)).isSome)) then
      match read with
      | some v => s.takeTail ring (BitVec.ofNat 64 (v % 2 ^ 32))
      | none => s.stopRing ring 3
    else s)

/-! ### Fetching -/

/-- The completion slots reserved for a ring's commands (R392). -/
def Ring.reserved (r : Ring) : Nat := ((r.waiting ++ r.running).map fun c => slotsFor c.d.opcode).foldl (· + ·) 0

/-- The free slots of a completion ring. -/
def Ring.freeSlots (r : Ring) : Nat := 2 ^ r.m - (r.cplTail + 2 ^ 32 - r.cplHead) % 2 ^ 32

/-- A descriptor of a reserved opcode is refused when it is fetched: no row of the table starts it (R236, R390, R391, R403, R405). (DEDUCED,
log entry 19.) -/
def State.refuseReserved (s : State) (c : Cmd) : State :=
  if knownOpcode c.d.opcode then s
  else if s.recordLost c then s.endWith c (Cs.faultUncorrectable, 0)
  else match s.sameRunning c, s.refusal c .any (some (Cs.refusedParam, 0)) with
    | some _, _ => s.endWith c (Cs.refusedParam, 0xFD)
    | none, some x => (s.refusalNotice c x).endWith c x
    | none, none => s

/-- The pool fetches a descriptor only after it has reserved its completion slots. A command whose record is retained is replayed, or
refused on a mismatch, at once (R392, R393, R403). A failed fetch stops the ring (R408). -/
def execDescriptorFetch (ring : Nat) (read : Option Desc) (s : State) : Host.Outcome State Fault Refusal :=
  .next (
    let r := s.ring ring
    if r.st ≠ .running ∨ r.head = r.tail then s
    else match read with
      | none => s.stopRing ring 1
      | some d =>
        if r.freeSlots < r.reserved + slotsFor d.opcode then s
        else
          let c : Cmd := ⟨ring, d⟩
          let s := s.setRing ring { r with head := (r.head + 1) % 2 ^ 32, waiting := r.waiting ++ [c] }
          match s.retainedOf c with
          | some x =>
            if x.opcode = d.opcode ∧ x.district = d.district then (s.leaveRing c).putRecord ring (replayOf c x)
            else s.endWith c (Cs.refusedParam, 0xFD)
          | none => s.refuseReserved c)

/-- RETENTION_EXPIRE (R402): the store has room again (R404). -/
def execRetentionExpire (issuer cmdId : Nat) (s : State) : Host.Outcome State Fault Refusal :=
  .next (match s.host.retained.get (retainKey issuer cmdId) with
    | none => s
    | some x =>
      let s := s.passTo x.expires
      ({ s with host := { s.host with retained := s.host.retained.del (retainKey issuer cmdId) } }).endLevel
        (Src.host (if issuer < 1024 then issuer / 256 else s.ringPort (32768 + issuer % 1024))) 0x04)

/-! ### Draining and resets -/

/-- A ring goes to DRAINING: its commands that have not started complete ABORTED (R409). (DEDUCED, log entry 22.) -/
def State.drainRing (s : State) (ring : Nat) : State :=
  let r := s.ring ring
  if r.st = .running ∨ r.st = .stopped then
    let s := r.waiting.foldl (fun s c => s.endWith c (Cs.aborted, 0)) s
    s.setRing ring { s.ring ring with st := .draining, cause := 0 }
  else s

/-- A draining ring whose started commands have all finished becomes DISABLED (R409); an accelerator ring that is destroyed goes. (DEDUCED,
log entry 22.) -/
def State.ringDrained (s : State) (ring : Nat) : State :=
  let r := s.ring ring
  if r.st = .draining ∧ r.running.isEmpty then
    (if r.acc.isSome && r.flr then { s with host := { s.host with rings := s.host.rings.del ring } }
     else if r.flr then s.setRing ring Ring.init else s.setRing ring { r with st := .disabled, waiting := [] })
  else s

/-- RING_DRAINED (R409). -/
def execRingDrained (ring : Nat) (s : State) : Host.Outcome State Fault Refusal := .next (s.ringDrained ring)

/-- Release the control token and tell both PFs; an arm of the zeroise guard goes with it (R406, R411, R426, R464). -/
def State.releaseToken (s : State) : State :=
  ({ s with host := { s.host with token := none }, sec := { s.sec with arm := none } }).raise (Src.host ((s.host.token).getD 0)) 0x03 0

/-- The rings of a function. -/
def State.fnRings (s : State) (fn : Nat) : List Nat :=
  (s.host.rings.filter fun e => !isAccRing e.1 && ringFn e.1 == fn).map (·.1)

/-- Drain a function: its rings, its notice ring, and for a PF its set-up registers, its token and its guard (R409, R426). (DEDUCED, log
entry 22.) -/
def State.resetFn (s : State) (fn : Nat) : State :=
  let pf := isPf fn
  let s := (s.fnRings fn).foldl (fun s r =>
    let s := s.drainRing r
    let s := s.setRing r { s.ring r with flr := pf }
    if (s.ring r).running.isEmpty then s.ringDrained r else s) s
  let s := s.setNtc fn (if pf then NoticeRing.init else { s.ntc fn with en := false, pending := [], outstanding := [] })
  if pf then
    let s := if s.host.token = some (fn / 256) then s.releaseToken else s
    { s with regs := { s.regs with guards := s.regs.guards.del (fn / 256),
                                   held := s.regs.held.only fun k _ => k / 256 != fn } }
  else s

/-- FUNCTION_LEVEL_RESET (R409, R426). -/
def execFunctionLevelReset (port : HPort) (fn : Nat) (s : State) : Host.Outcome State Fault Refusal := .next (s.resetFn (fnKey port fn))

/-- Every function of a port that has a ring or a notice ring. -/
def State.portFns (s : State) (port : Nat) : List Nat :=
  ((port * 256) :: ((s.host.rings.filter fun e => !isAccRing e.1).map (fun e => ringFn e.1) ++ s.host.ntc.map (·.1)).filter
    fun f => f / 256 == port).eraseDups

/-- A link reset during the push ends it (R537). -/
def State.pushLost (s : State) (port : Nat) : State :=
  if s.boot.st = .loading ∧ s.boot.port = port then { s with boot := { s.boot with st := .failed, code := 2 } } else s

/-- HOST_PERST: one port's link and functions are reset; the pool goes on serving (R534). (DEDUCED, log entry 22.) -/
def execHostPerst (port : HPort) (s : State) : Host.Outcome State Fault Refusal :=
  .next (
    let s := (s.portFns port).foldl (fun s f => s.resetFn f) (s.pushLost port)
    { s with host := { s.host with hostDown := s.host.hostDown.rem port, priOff := s.host.priOff.filter fun f => f / 256 != port.val } })

/-- HOST_LINK_DOWN: the token is released, the port's rings stop at their first failed write, and its Districts' notices go to the other PF
(R504). (DEDUCED, log entry 22.) -/
def execHostLinkDown (port : HPort) (s : State) : Host.Outcome State Fault Refusal :=
  .next (
    let s := s.pushLost port
    let s := { s with host := { s.host with hostDown := s.host.hostDown.ins port } }
    if s.host.token = some port.val then s.releaseToken else s)

/-- NOP (R390). -/
def execNop (c : Cmd) (s : State) : Host.Outcome State Fault Refusal := .next (s.command c .any none fun s => s.done c 0)

/-! ### The doorbell window -/

/-- A WriteLine through a doorbell window (R401): the host interface block takes the count and answers Comp. -/
def State.accDoorbell (s : State) (p : Pend) : State :=
  let idx := p.da / 64
  let ring := 32768 + idx
  let r := s.ring ring
  let mine := match r.acc with
    | some a => a.district == p.district && r.st != .disabled
    | none => false
  let v := p.data.toNat
  if !mine then s.reply p Jl.accessFault Af.malformed none
  else if p.mask = 0xFF then (s.takeTail ring (BitVec.ofNat 64 (v % 2 ^ 64))).reply p Jl.ok 0 none
  else if p.mask = 0xFF00 then (s.takeHead ring (BitVec.ofNat 64 (v / 2 ^ 64 % 2 ^ 64))).reply p Jl.ok 0 none
  else s.reply p Jl.accessFault Af.malformed none

/-- WRITE_LINE: a write to memory, or a doorbell of an accelerator ring (R80, R133, R401). -/
def execWriteLine (port : JPort) (r : Req) (s : State) : Host.Outcome State Fault Refusal :=
  .next ((s.arrive port r .writeLine 64 (reqWriteWf r) [0, 2] (fun w => if w.kind = 2 then w.s else w.w) fun s p w =>
    if w.kind = 2 then s.accDoorbell p else s.take p State.resolve).settleBusy)

end Sys2Proof.Machine
end

