-- ==== Sys2Proof/Machine/Jobs.lean ====
section
/-! DEFINITION. Engines and jobs as shared operations: the pool's own reads and writes of District memory (R130, R198, R233), releasing
engines, ending and aborting a job (R200 to R206). -/

namespace Sys2Proof.Machine

open Sys2Proof

/-! ### The pool's own accesses -/

/-- What the pool does with District memory for itself, as `src` of a request of port 12: an engine read or a write of a job, and the
reads and writes of a ring or a copy. -/
def poolRead : Nat := 0
def poolWrite : Nat := 1

/-- A read or write that the pool makes of a District for its own work; `tag` names the work. -/
def poolPend (op : ReqOp) (src tag window d : Nat) (bound : Option Nat) (da len : Nat) (mask : BitVec 64) (data : LineData) : Pend :=
  { port := 12, op := op, src := src, tag := tag, window := window, district := d, flow := 0, early := false, noAlloc := false,
    da := da, pa := 0, len := len, steer := 0, share := 0, mask := mask, data := data, size := 0, operand := 0, compare := 0,
    elem := some (da / 64), bound := bound }

/-- Where a District address read through a window lies now (R84, R149, R167). -/
inductive Site where
  | at (pa : Nat)
  | flash
  | unmapped (level : Nat)
  /-- Its entry was lost with a depot line (R292). -/
  | lost
  deriving DecidableEq, Repr

def State.site (s : State) (d : Nat) (bound : Option Nat) (da : Nat) : Site :=
  let page := da / 4096
  let live : Site := match s.maps.leafAt d page with
    | none => .unmapped (s.maps.missLevel d page)
    | some (f, l) => if s.maps.leafLost d page then .lost else if l.tiered && !l.resident then .flash else .at (leafFrame f l page * 4096 + da % 4096)
  match bound with
  | none => live
  | some slot => match s.resolveVersion d slot page with
    | .fault l => .unmapped l
    | .lost => .lost
    | .copy f => .at (f * 4096 + da % 4096)
    | .flash _ => .flash
    | .live => live

/-- What a line read for the pool's own work gives: its value, or that it is uncorrectable, unmapped, or must still be waited for. -/
inductive Look where
  | value (d : LineData)
  | poison
  | unmapped (level : Nat)
  | wait
  deriving DecidableEq, Repr

/-- Look at the line of a District address through a window: it is at hand when it is in the line cache of an open share and no node owns
it (R118, R130, R133). -/
def State.look (s : State) (d : Nat) (bound : Option Nat) (da : Nat) : Look :=
  match s.site d bound da with
  | .unmapped l => .unmapped l
  | .lost => .poison
  | .flash => .wait
  | .at pa =>
    let line := pa / 64
    let owned := bound.isNone && ((s.coh.dir.get line).map fun e => e.busy.isSome || (e.st == .owned && !s.isFenced e.p0)).getD false
    if owned || !s.mem.cache.has line || !s.isOpen (s.regs.home pa) then .wait
    else match s.versionLine (poolPend .engineRead 0 0 0 d bound da 64 0 0) line with
      | some v => .value v
      | none => .poison

/-- Ask for a line that is not at hand, unless the same work asks for it already. -/
def State.pull (s : State) (tag window d : Nat) (bound : Option Nat) (da : Nat) : State :=
  if (s.heldReqs 12 poolRead tag).any fun p => p.da == da / 64 * 64 && p.bound == bound then s
  else s.resolve (poolPend .engineRead poolRead tag window d bound (da / 64 * 64) 64 0 0)

/-- Read lines for a piece of work: gives what is at hand, and asks for the rest. Each line read is marked as present in an engine where
the work is a job's (R118). -/
def State.pullLines (s : State) (tag window d : Nat) (bound : Option Nat) : List Nat → State × List (Nat × Look)
  | [] => (s, [])
  | da :: t =>
    let k := s.look d bound da
    let s := match k, s.site d bound da with
      | .wait, _ => s.pull tag window d bound da
      | .value _, .at pa => { s.afterRead (pa / 64) with mem := { s.mem with cache := s.mem.cache.adjust (pa / 64) fun c =>
          { c with mark := c.mark || bound.isNone } } }
      | _, _ => s
    let r := s.pullLines tag window d bound t
    (r.1, (da, k) :: r.2)

/-- The District lines that a byte range touches, as addresses. -/
def linesOf (da len : Nat) : List Nat :=
  if len = 0 then [] else (List.range ((da + len - 1) / 64 - da / 64 + 1)).map fun i => (da / 64 + i) * 64

/-- A write that the pool makes of a line of a District for its own work: a home write (R109, R198). It holds a place among the requests
in flight until it is acknowledged (R87, R202). -/
def State.poolPut (s : State) (tag window d da : Nat) (mask : BitVec 64) (data : LineData) : State :=
  let p := poolPend .commit poolWrite tag window d none da 64 mask data
  let s := { s with coh := { s.coh with trackers := s.coh.trackers ++ [Tracker.mk 0 12 poolWrite tag (some (da / 64)) d window (da / 4096) false] } }
  s.resolve p

/-- Are writes of a piece of work still not acknowledged? -/
def State.poolBusy (s : State) (tag : Nat) : Bool :=
  s.coh.trackers.any fun t => t.port == 12 && t.src == poolWrite && t.tag == tag

/-- Drop what a piece of work still waits for. -/
def State.dropWork (s : State) (tag : Nat) : State :=
  let s := s.dropReqs fun p => p.port == 12 && p.tag == tag
  { s with coh := { s.coh with trackers := s.coh.trackers.filter fun t => !(t.port == 12 && t.tag == tag) } }

/-- A line with bytes put in at an offset. -/
def putBytes (first : Nat) (bs : List Byte) : BitVec 64 × LineData :=
  (BitVec.ofNat 64 ((2 ^ bs.length - 1) * 2 ^ first), BitVec.ofNat 512 (leValue bs * 2 ^ (8 * first)))

/-- Write bytes at a District address, line by line. -/
def State.poolBytes (s : State) (tag window d : Nat) : Nat → Nat → List Byte → State
  | 0, _, _ => s
  | _, _, [] => s
  | fuel + 1, da, bs =>
    let n := min (64 - da % 64) bs.length
    let x := putBytes (da % 64) (bs.take n)
    (s.poolPut tag window d (da / 64 * 64) x.1 x.2).poolBytes tag window d fuel (da + n) (bs.drop n)

/-! ### Engines -/

/-- An engine at power-up: OFF, or in TEST in Avenue S (R195, R207). -/
def Eng.init (av e : Nat) : Eng :=
  ⟨if av = 8 then .test else .off, 190 + Config.fusedFmax av e % 51, 0, 0, none, none, none, false⟩

def State.engOf (s : State) (av e : Nat) : Eng := (s.eng.engs.get (av * 8 + e)).getD (Eng.init av e)
def State.setEng (s : State) (av e : Nat) (x : Eng) : State := { s with eng := { s.eng with engs := s.eng.engs.put (av * 8 + e) x } }

/-- The six engines of an Avenue. -/
def engIdx : List Nat := List.range 6

/-- Is an engine in service in its Avenue? -/
def Eng.inService (e : Eng) : Bool := e.st != .retired && e.st != .test

/-- The engines in service of the Avenue that serves a share. -/
def State.engsIn (s : State) (share : Nat) : List Nat :=
  match s.servedBy share with
  | none => []
  | some a => engIdx.filter fun e => (s.engOf a e).inService

/-- Dedicate n engines of every share to a level-2 District (R200). -/
def State.holdEngines (s : State) (d n : Nat) : State :=
  (List.range 8).foldl (fun s k =>
    ((s.engsIn k).filter fun e => !s.eng.held.has (k * 8 + e)).take n |>.foldl
      (fun s e => { s with eng := { s.eng with held := s.eng.held.put (k * 8 + e) d } }) s) s

/-- Keep the dedicated engines of a share among those in service: one that is not is replaced by an engine that no District holds, if
there is one; otherwise the District runs on fewer engines, with a notice (R200). -/
def State.replaceHeld (s : State) (k : Nat) : State :=
  (s.eng.held.filter fun h => h.1 / 8 == k && !(s.engsIn k).contains (h.1 % 8)).foldl (fun s h =>
    match (s.engsIn k).find? fun e => !s.eng.held.has (k * 8 + e) with
    | some e => { s with eng := { s.eng with held := (s.eng.held.del h.1).put (k * 8 + e) h.2 } }
    | none => ({ s with eng := { s.eng with held := s.eng.held.del h.1 } }).raise (Src.avenue ((s.servedBy k).getD k)) 0x05 0 (some h.2)) s

/-- A District's dedicated engines are free again. -/
def State.freeHeld (s : State) (d : Nat) : State := { s with eng := { s.eng with held := s.eng.held.only fun _ x => x != d } }

/-- The clock of a running or idle engine: the target or its qualified maximum, lowered by shedding and by heat, and never below 1.0 GHz
(R472, R473, R475). -/
def State.clockOf (s : State) (av e : Nat) : Nat :=
  max 100 (min s.pwr.present.fTarget (s.engOf av e).fmax - (s.pwr.shed + (s.av av).cool))

/-- An engine comes to be powered and idle. -/
def State.engIdle (s : State) (av e : Nat) : State :=
  s.setEng av e { s.engOf av e with st := .idle, fcur := s.clockOf av e, district := 0, job := none, group := none, drain := false }

/-- An engine is gated. -/
def State.engOff (s : State) (av e : Nat) : State :=
  s.setEng av e { s.engOf av e with st := .off, fcur := 0, district := 0, job := none, group := none, hint := none, drain := false }

/-- The coefficients of `PWR_ENG_W0` to `W3` in mW at 2.0 GHz, and the energy of a burst and of an activate in pJ (R477, R487). -/
def engMw (cls : Nat) : Nat := [100, 450, 800, 1450].getD cls 0
def burstPj : Nat := 7500
def actPj : Nat := 2000

/-- The power coefficient of an engine in mW (R477), by its state, the class of its job and its clock in units of 10 MHz. -/
def coefOf (st : EngState) (cls clk : Nat) : Nat :=
  if st = .off then 10 else engMw (if st = .running then cls else 0) * (clk * clk) / 40000

/-! ### Jobs -/

def State.job (s : State) (n : Nat) : Option Job := s.eng.jobs.get n
def State.setJob (s : State) (n : Nat) (j : Job) : State := { s with eng := { s.eng with jobs := s.eng.jobs.put n j } }

/-- The work tag of a job's reads and writes: jobs are numbered from 1, and work of rings and copies lies above 2^40. -/
def jobTag (n : Nat) : Nat := n

/-- The phase class of an opcode: 1 STREAM, 2 VECTOR, 3 ARRAY (R236, R477). -/
def opClass (op : Nat) : Nat :=
  if op = 0x38 ∨ op = 0x3A then 3 else if op = 0x33 ∨ op = 0x3B ∨ op = 0x3C ∨ op = 0x3D then 2 else 1

/-- Is a job between dispatch and the end of its commit: in flight under its windows (R202)? -/
def Job.inFlight (j : Job) : Bool := j.phase != .queued && j.phase != .scrubbing

/-- Does a job use a window? -/
def State.windowInUse (s : State) (w : Nat) : Bool := s.eng.jobs.any fun e => e.2.inFlight && e.2.windows.contains w

/-- The engines that a job holds, as (Avenue, engine). -/
def State.engsOf (s : State) (n : Nat) : List (Nat × Nat) :=
  ((List.range 9).map fun a => (engIdx.filter fun e => (s.engOf a e).job == some n).map fun e => (a, e)).flatten

/-- The engines that a job used in each share, 3 bits per share (R395). -/
def Job.packUsed (j : Job) : Nat := (List.range 8).foldl (fun n k => n + (j.used.get k).getD 0 % 8 * 8 ^ k) 0

/-- Is the energy of a job estimated: shorter than a calibration interval, or a moment not CALIBRATED or in an invalid interval (R484)? -/
def State.isEst (s : State) (j : Job) : Bool :=
  j.est || !s.pwr.calibrated ||
    (match j.started with
     | none => true
     | some t => decide (s.clock < t + 1000000) || (match s.pwr.invalidAt with | some x => decide (t ≤ x) | none => false))

/-- A job's record with what every job reports; its energy and `EST` are filled in when it is posted (R201, R204, R395). -/
def State.jobRecord (_ : State) (j : Job) (status detail result : Nat) (ext : Bool) : Record :=
  ⟨j.cmd.d.cmdId, status, detail, 0, ext, false, j.commitStarted, max 1 j.attempts, 0, j.packUsed, 0, result⟩

/-- The energy of a job's DRAM bursts and activates, in pJ (R483): how many there were is not given by its commands. (DESIGN CHOICE, log
entry 46.) -/
def State.trafficPj (s : State) : Nat :=
  ((Config.jobTraffic s.free).1 * burstPj + (Config.jobTraffic s.free).2 * actPj) * s.pwr.gain / 65536

/-- Post a job's record and forget the job; its energy is attributed to its District (R201, R483, R484). -/
def State.postJob (s : State) (n : Nat) (j : Job) (r : Record) : State :=
  let d := j.cmd.d.district
  let e := if j.started.isSome then j.energy + s.trafficPj else 0
  let est := s.isEst j
  let s := ({ s with eng := { s.eng with jobs := s.eng.jobs.del n } }).draw.tally 0x680010 1
  let s := match s.district d with
    | none => s
    | some x => s.setDistrict d (if est then { x with energyEst := x.energyEst + e } else { x with energyMetered := x.energyMetered + e })
  s.finish j.cmd { r with est := est, energy := (roundF32 ((Dy.ofInt e).div (Dy.ofInt 1000000000) 40)).1 }

/-- Does a District scrub engines between jobs (R200)? -/
def State.scrubs (s : State) (d : Nat) : Bool := ((s.district d).map fun x => decide (2 ≤ x.level)).getD false

/-- Release a job's engines: to SCRUB at levels 2 and 3, else to IDLE (R200). -/
def State.releaseEngines (s : State) (n d : Nat) : State :=
  (s.engsOf n).foldl (fun s x =>
    if s.scrubs d then s.setEng x.1 x.2 { s.engOf x.1 x.2 with st := .scrub, group := none }
    else if (s.engOf x.1 x.2).drain then s.engOff x.1 x.2 else s.engIdle x.1 x.2) s

/-- A job ends with a record: what it waits for is dropped, its engines are released, and the record is posted once they are scrubbed
(R200, R201). -/
def State.endJob (s : State) (n : Nat) (j : Job) (r : Record) : State :=
  let d := j.cmd.d.district
  let s := (s.dropWork (jobTag n)).releaseEngines n d
  if (s.engsOf n).isEmpty then s.postJob n j r
  else s.setJob n { j with phase := .scrubbing, kept := some r }

/-- Abort a job whose commit has not begun (R206, R254). -/
def State.abortJob (s : State) (n : Nat) (j : Job) : State := s.endJob n j (s.jobRecord j Cs.aborted 0 0 false)

/-- A job starts again from dispatch, or is aborted when it may take no further attempt (R204). -/
def State.reissueJob (s : State) (n : Nat) (j : Job) : State :=
  if s.regs.fld 0x680000 3 0 ≤ j.attempts then s.abortJob n j
  else
    let s := ((s.dropWork (jobTag n)).releaseEngines n j.cmd.d.district).tally 0x680018 1
    s.setJob n { j with phase := .queued, work := [], input := [], faults := [], elemFaults := [], kept := none, after := [] }

/-- A fault met while a job streams stops it; the lowest code is given (R238). -/
def State.faultJob (s : State) (n : Nat) (j : Job) : State :=
  match j.faults.foldl (fun (b : Option (Nat × Nat)) f => match b with
    | none => some f
    | some x => if f.1 < x.1 then some f else some x) none with
  | none => s
  | some f => s.endJob n j (s.jobRecord j f.1 1 (f.2 % 2 ^ 64 * 2 ^ 96) true)

/-- The jobs that serve work in a share. -/
def State.jobsIn (s : State) (share : Nat) : List (Nat × Job) := s.eng.jobs.filter fun e => e.2.work.has share

end Sys2Proof.Machine
end

