-- ==== Sys2Proof/Machine/Versions.lean ====
section
/-! DEFINITION. Milestones: cuts, holds, release and renumbering (R147 to R158), and the copying of pages (R159 to R165). -/

namespace Sys2Proof.Machine

open Sys2Proof

/-! ### Freeing -/

/-- How a flash locator is named among copy pages that wait to be returned. -/
def flashMark : Nat := 2 ^ 60

/-- One map entry of a freed Milestone gives up its copy page: its count drops, and at 0 the page is to be returned (R151). -/
def State.dropRef (s : State) (e : MapEnt) : State × List Nat :=
  if e.absent || e.copying then (s, [])
  else if e.flash then
    match s.ms.fcopies.get e.addr with
    | none => (s, [])
    | some c =>
      if c.refs ≤ 1 then ({ s with ms := { s.ms with fcopies := s.ms.fcopies.del e.addr } }, [flashMark + e.addr])
      else ({ s with ms := { s.ms with fcopies := s.ms.fcopies.put e.addr { c with refs := c.refs - 1 } } }, [])
  else
    match s.ms.copies.get e.addr with
    | none => (s, [])
    | some c =>
      if c.refs ≤ 1 then ({ s with ms := { s.ms with copies := s.ms.copies.del e.addr } }, [e.addr])
      else ({ s with ms := { s.ms with copies := s.ms.copies.put e.addr { c with refs := c.refs - 1 } } }, [])

/-- Drop the references of a list of map entries: the copy pages that no map names any more. -/
def State.dropRefs (s : State) : List MapEnt → State × List Nat
  | [] => (s, [])
  | e :: t =>
    let x := s.dropRef e
    let y := x.1.dropRefs t
    (y.1, x.2 ++ y.2)

/-- Free a Milestone: its slot is EMPTY at once, and pages that no map names any more wait to be returned (R151). -/
def State.freeMs (s : State) (d slot : Nat) : State :=
  let k := slotKey d slot
  let es := s.ms.maps.filter fun e => e.1 / 2 ^ 36 == k
  let s := { s with ms := { s.ms with
    slots := s.ms.slots.del k,
    maps := s.ms.maps.filter fun e => e.1 / 2 ^ 36 != k,
    lostMaps := s.ms.lostMaps.filter fun e => e / 2 ^ 36 != k,
    copying := s.ms.copying.map fun (c : Copying) => if c.district = d then { c with slots := c.slots.filter (· != slot) } else c } }
  let r := s.dropRefs (es.map fun (e : Nat × MapEnt) => e.2)
  if r.2.isEmpty then r.1
  else { r.1 with ms := { r.1.ms with returning := r.1.ms.returning.put k (((r.1.ms.returning.get k).getD []) ++ r.2) } }

/-- Free a Milestone that is RELEASED, without holds and bindings (R151). -/
def State.tryFree (s : State) (d slot : Nat) : State :=
  match s.msSlot d slot with
  | some m => if m.st = 3 ∧ m.holds = 0 ∧ s.bound d slot = 0 then s.freeMs d slot else s
  | none => s

/-! ### Commands -/

/-- Is the District being erased or renumbered (R154, R157)? -/
def State.distBusy (s : State) (d : Nat) : Bool :=
  match s.district d with
  | some x => x.st == .erasing || x.st == .renumbering
  | none => false

/-- The lowest EMPTY slot of a District. (DESIGN CHOICE, log entry 29.) -/
def State.emptySlot (s : State) (d : Nat) : Option Nat := (List.range 16).find? fun k => (s.msSlot d k).isNone

/-- The window IDs that a MILESTONE_CUT names (R390). -/
def cutWindows (d : Desc) : List Nat :=
  (List.range (bitsOf d.p1 3 0)).map fun i => bitsOf (if i < 4 then d.p2 else d.p3) (16 * (i % 4) + 15) (16 * (i % 4))

/-- Take a cut now; its command, where it has one, completes with the version, the slot and the time (R158). (DEDUCED, log entry 31.) -/
def State.takeCut (s : State) (d slot : Nat) : State :=
  match s.msSlot d slot with
  | none => s
  | some m =>
    let ft := s.time.ft
    let s := s.setMsSlot d slot { m with st := 2, cutFt := ft, cmd := none }
    match m.cmd with
    | some c => s.done c (m.version + slot * 2 ^ 32 + ft % 2 ^ 64 * 2 ^ 64)
    | none => s

/-- Is any share in a fail-over gap (R34)? -/
def State.anyGap (s : State) : Bool := (List.range 8).any fun k => (s.share k).st == .gap

/-- MILESTONE_CUT (R147, R154, R156, R158): the ranges are fixed at acceptance. An immediate cut inside a fail-over gap is taken at its end
(R34). (DEDUCED, log entry 31.) -/
def execMilestoneCut (c : Cmd) (s : State) : Host.Outcome State Fault Refusal :=
  .next (
    let d := c.d.district
    let x := s.district d
    let ids := cutWindows c.d
    let n := bitsOf c.d.p1 3 0
    let good := fun (k : Nat) => match s.maps.windows.get k with
      | some w => w.kind == 0 && w.district == d && !w.msBind
      | none => false
    let t := c.d.p0
    s.command c .d (lowestOf [
      chk (s.distBusy d) Cs.refusedState,
      chk ((s.emptySlot d).isNone || (t != 0 && !s.eventRoom) || (x.map (·.copyQuota)) == some 0) Cs.refusedResource,
      chk (n == 0 || decide (8 < n) || ids.any (fun k => !good k) || ids.eraseDups.length != ids.length || (t != 0 && !s.instantOk t)) Cs.refusedParam,
      chk (decide (2 ^ 32 ≤ (x.map (·.nextVersion)).getD 1)) Cs.refusedExhausted]) fun s =>
    match x, s.emptySlot d with
    | some x, some slot =>
      let ranges := ids.filterMap fun k => (s.maps.windows.get k).map fun w => (w.base / 4096, w.base / 4096 + w.lastPage)
      let s := s.setDistrict d { x with nextVersion := x.nextVersion + 1 }
      let s := s.setMsSlot d slot ⟨1, x.nextVersion, 0, t, ranges, false, some c⟩
      if t = 0 then (if s.anyGap then s else s.takeCut d slot)
      else s.addEvent ⟨t, .cut d slot, some c⟩
    | _, _ => s)

/-- MILESTONE_OPEN (R151, R154). -/
def execMilestoneOpen (c : Cmd) (s : State) : Host.Outcome State Fault Refusal :=
  .next (
    let d := c.d.district
    let v := bitsOf c.d.p0 31 0
    let at' := (List.range 16).find? fun k => ((s.msSlot d k).map fun m => m.st == 2 && m.version == v).getD false
    let m := at'.bind fun k => s.msSlot d k
    s.command c .d (lowestOf [
      chk at'.isNone Cs.refusedState,
      chk ((m.map (·.holds)) == some 65535) Cs.refusedResource]) fun s =>
    match at', m with
    | some k, some m => (s.setMsSlot d k { m with holds := m.holds + 1 }).done c (k + (m.holds + 1) * 65536)
    | _, _ => s)

/-- MILESTONE_CLOSE (R151, R154). -/
def execMilestoneClose (c : Cmd) (s : State) : Host.Outcome State Fault Refusal :=
  .next (
    let d := c.d.district
    let k := bitsOf c.d.p0 7 0
    let m := s.msSlot d k
    s.command c .d (lowestOf [
      chk (decide (k ≤ 15) && (match m with | some m => m.st == 1 || m.holds == 0 | none => true)) Cs.refusedState,
      chk (decide (15 < k)) Cs.refusedParam]) fun s =>
    match m with
    | some m => ((s.setMsSlot d k { m with holds := m.holds - 1 }).tryFree d k).done c ((m.holds - 1) * 65536)
    | none => s)

/-- Remove an event. -/
def State.dropEvent (s : State) (e : Event) : State :=
  { s with time := { s.time with events := s.time.events.filter (· != e) } }

/-- MILESTONE_RELEASE (R154): a scheduled cut is cancelled and completes ABORTED; an ACTIVE Milestone is RELEASED, and freed when R151
allows. -/
def execMilestoneRelease (c : Cmd) (s : State) : Host.Outcome State Fault Refusal :=
  .next (
    let d := c.d.district
    let k := bitsOf c.d.p0 7 0
    let m := s.msSlot d k
    s.command c .d (lowestOf [
      chk (decide (k ≤ 15) && (match m with | some m => m.st == 3 | none => true)) Cs.refusedState,
      chk (decide (15 < k)) Cs.refusedParam]) fun s =>
    match m with
    | some m =>
      if m.st = 1 then
        let s := { s with time := { s.time with events := s.time.events.filter fun e => e.kind != EventKind.cut d k } }
        let s := { s with ms := { s.ms with slots := s.ms.slots.del (slotKey d k) } }
        let s := match m.cmd with
          | some x => s.endWith x (Cs.aborted, 0)
          | none => s
        s.done c 0
      else
        let s := (s.setMsSlot d k { m with st := 3 }).tryFree d k
        s.done c (((s.msSlot d k).map (·.st)).getD 0)
    | none => s)

/-- MILESTONE_RENUMBER (R154, R157): requests through the District's windows are refused while it runs. -/
def execMilestoneRenumber (c : Cmd) (s : State) : Host.Outcome State Fault Refusal :=
  .next (
    let d := c.d.district
    s.command c .d (chk (s.distBusy d || (List.range 16).any fun k => ((s.msSlot d k).map (·.st)) == some 1) Cs.refusedState) fun s =>
    match s.district d with
    | some x => s.setDistrict d { x with st := .renumbering, busyCmd := some c }
    | none => s)

/-- The state in which a District serves: converting while a conversion runs. -/
def District.serving (x : District) : DistState := if x.convCmd.isSome then .converting else .inService

/-- The rank of a Milestone among a District's: how many were cut before it, or at the same time with a lower number (R157). -/
def State.cutRank (s : State) (d slot : Nat) (m : MsSlot) : Nat :=
  ((List.range 16).filter fun k => match s.msSlot d k with
    | some y => k != slot && (decide (y.cutFt < m.cutFt) || (y.cutFt == m.cutFt && decide (y.version < m.version)))
    | none => false).length

/-- RENUMBER_DONE (R157). -/
def State.renumberDone (s : State) (d : Nat) : State :=
  match s.district d with
  | none => s
  | some x =>
    if x.st ≠ .renumbering then s
    else
      let used := (List.range 16).filter fun k => (s.msSlot d k).isSome
      let slots := used.foldl (fun t k => t.adjust (slotKey d k) fun m => { m with version := s.cutRank d k m + 1 }) s.ms.slots
      let n := used.length
      let s := { s with ms := { s.ms with slots := slots } }
      let s := s.setDistrict d { x with st := x.serving, nextVersion := n + 1, busyCmd := none }
      match x.busyCmd with
      | some c => s.done c ((if n = 0 then 0 else 1) + (n + 1) * 2 ^ 32)
      | none => s

/-- RENUMBER_DONE: the versions are numbered 1 to k and service goes on (R157). -/
def execRenumberDone (district : Nat) (s : State) : Host.Outcome State Fault Refusal := .next (s.renumberDone district)

/-- The record of R155 for a slot, as a value of 32 bytes. -/
def State.msRecord (s : State) (d slot : Nat) : Nat :=
  match s.msSlot d slot with
  | none => slot * 2 ^ 32 + d * 2 ^ 80
  | some m =>
    let es := s.ms.maps.filter fun e => e.1 / 2 ^ 36 == slotKey d slot && !e.2.absent && !e.2.copying
    m.version + slot * 2 ^ 32 + m.st * 2 ^ 36 + m.swept.toNat * 2 ^ 40 + m.holds * 2 ^ 48 + s.bound d slot % 65536 * 2 ^ 64 +
      d * 2 ^ 80 + (es.filter fun e => !e.2.flash).length % 2 ^ 32 * 2 ^ 96 + m.cutFt % 2 ^ 64 * 2 ^ 128 +
      (es.filter fun e => e.2.flash).length % 2 ^ 32 * 2 ^ 192

/-- MILESTONE_QUERY (R154, R155). -/
def execMilestoneQuery (c : Cmd) (s : State) : Host.Outcome State Fault Refusal :=
  .next (
    let k := bitsOf c.d.p0 7 0
    s.command c .d (chk (decide (15 < k)) Cs.refusedParam) fun s => s.done c (s.msRecord c.d.district k))

/-! ### Copying -/

/-- The pages of a District that some Milestone still needs under a leaf. -/
def State.leafNeeds (s : State) (d first : Nat) (l : Leaf) : Bool :=
  (List.range (leafPages l.size)).any fun i => !(s.needCopy d (first + i)).isEmpty

/-- COW_SWEEP_DONE: the sweep of a cut has passed every leaf of its ranges (R159). -/
def execCowSweepDone (district slot : Nat) (s : State) : Host.Outcome State Fault Refusal :=
  .next (match s.msSlot district slot with
    | none => s
    | some m =>
      if m.st ≠ 2 ∧ m.st ≠ 3 then s
      else
        let s := s.setMsSlot district slot { m with swept := true }
        (s.maps.leaves district).foldl (fun s e =>
          if !e.2.cow && s.leafNeeds district e.1 e.2 then s.setLeaf district e.1 { e.2 with cow := true } else s) s)

/-- The state with a page copy replaced. -/
def State.setCopying (s : State) (c : Copying) : State :=
  { s with ms := { s.ms with copying := s.ms.copying.map fun x => if x.district = c.district ∧ x.page = c.page then c else x } }

def State.copyingAt (s : State) (d page : Nat) : Option Copying := s.ms.copying.find? fun c => c.district == d && c.page == page

/-- Copy the 64 lines of a live page, as they were before a pending RecallData, to a frame (R161, R163). Undefined bytes stay undefined in
the copy (R289). -/
def State.copyFrame (s : State) (live frame : Nat) (olds : Table LineData) : State :=
  let m := s.mem
  let lines := List.range 64
  let cells := lines.foldl (fun c i =>
    writeBytes c (frame * 4096 + i * 64) 64 ((olds.get (live * 64 + i)).getD (m.line (live * 64 + i))).toNat) m.cells
  let poison := lines.foldl (fun p i => if m.poisoned (live * 64 + i) then NatSet.ins p (frame * 64 + i) else NatSet.rem p (frame * 64 + i)) m.poison
  let m := { m with cells := cells, poison := poison,
                    cache := m.cache.only fun l _ => l / 64 != frame,
                    mirror := m.mirror.only fun l _ => l / 64 != frame }
  let m := if m.isUnbound live then
      lines.foldl (fun m i => { m with wrote := m.wrote.put (frame * 64 + i) (m.known (live * 64 + i)) }) (m.unbindRange frame 1)
    else m.bindFrame frame
  let m := { m with parityLost := if m.parityLost.contains live then m.parityLost.ins frame else m.parityLost.rem frame }
  { s with mem := m }

/-- COW_CHUNKS_DONE: the leader writes the map leaves with the copy's address and clears the page's mark (R160, R161). -/
def execCowChunksDone (district page : Nat) (s : State) : Host.Outcome State Fault Refusal :=
  .next (match s.copyingAt district page, s.maps.leafAt district page with
    | some c, some (first, l) =>
      if c.landed || c.abandoned || (l.tiered && !l.resident) || s.anyGap then s
      else
        let s := (s.copyFrame (leafFrame first l page) c.frame c.olds).tallyAv c.leader 0x408
        let s := s.writeMaps district page c.slots ⟨false, false, false, c.frame⟩
        let s := if c.slots.isEmpty then s.freeRun c.frame 1 l.strength
          else { s with ms := { s.ms with copies := s.ms.copies.put c.frame ⟨c.slots.length, district, s.clock, l.strength⟩ } }
        let s := s.setCopying { c with landed := true }
        s.setLeaf district first { l with cow := s.leafNeeds district first l }
    | _, _ => s)

/-- COW_MAP_INVALIDATED: the changes that waited for the copy are applied (R161). -/
def execCowMapInvalidated (district page : Nat) (s : State) : Host.Outcome State Fault Refusal :=
  .next (match s.copyingAt district page with
    | none => s
    | some c =>
      if !c.landed then s
      else
        let s := { s with ms := { s.ms with copying := s.ms.copying.filter (· != c) } }
        (s.atHomeAll c.waiting).settleBusy)

/-- COW_COPY_RESTART: an abandoned copy that holds a RecallData starts again once every share is served (R165). -/
def execCowCopyRestart (district page : Nat) (s : State) : Host.Outcome State Fault Refusal :=
  .next (match s.copyingAt district page, s.maps.leafAt district page with
    | some c, some (_, l) =>
      if !c.abandoned || (List.range 8).any fun k => !s.isOpen k then s
      else match s.allocRun 1 (s.regs.colour (page * 4096)) l.strength with
        | none => s
        | some (f, s) => (s.writeMaps district page c.slots ⟨false, false, true, f⟩).setCopying { c with frame := f, abandoned := false }
    | _, _ => s)

/-- COPY_PAGE_RETURN: the pages of a freed Milestone return to free space (R151). -/
def execCopyPageReturn (district slot : Nat) (s : State) : Host.Outcome State Fault Refusal :=
  .next (
    let k := slotKey district slot
    let st := ((s.district district).map (·.strength)).getD 0
    let fs := (s.ms.returning.get k).getD []
    let s := { s with ms := { s.ms with returning := s.ms.returning.del k } }
    (fs.foldl (fun s f => if flashMark ≤ f then s.freeLoc (f - flashMark) else s.freeRun f 1 st) s).checkCopyLevel 0 district)

/-- The least recently read copy page of a District in DRAM (R162). -/
def State.coldCopy (s : State) (d : Nat) : Option (Nat × CopyPage) :=
  (s.ms.copies.filter fun c => c.2.district == d).foldl (fun (b : Option (Nat × CopyPage)) e => match b with
    | none => some e
    | some x => if e.2.stamp < x.2.stamp then some e else some x) none

/-- Move copy pages to flash until a District's DRAM copies are below 80 % of its quota (R162). -/
def State.demoteCopies (s : State) (d : Nat) (x : District) : Nat → State
  | 0 => s
  | k + 1 =>
    if s.dramCopies d * 100 < x.copyQuota * 80 ∨ x.fcopyQuota ≤ s.flashCopies d then s
    else match s.coldCopy d, s.allocLoc x.fgroup with
      | some (f, c), some (loc, s) =>
        let lines := (List.range 64).map fun i => (i, (s.mem.line (f * 64 + i)).toNat)
        let mask := BitVec.ofNat 64 ((List.range 64).foldl (fun n i => if s.mem.poisoned (f * 64 + i) then n + 2 ^ i else n) 0)
        let s := (s.putFlash loc lines mask)
        let s := { s with ms := { s.ms with
          copies := s.ms.copies.del f,
          fcopies := s.ms.fcopies.put loc c,
          maps := s.ms.maps.each fun _ e => if !e.absent && !e.flash && !e.copying && e.addr == f then { e with flash := true, addr := loc } else e } }
        (s.freeRun f 1 c.strength).demoteCopies d x k
      | _, _ => s

/-- COPY_DEMOTE: DRAM copies at 90 % of their quota go to flash until they fall below 80 % (R162). (DEDUCED, log entry 31.) -/
def execCopyDemote (district : Nat) (s : State) : Host.Outcome State Fault Refusal :=
  .next (match s.district district with
    | none => s
    | some x =>
      if s.dramCopies district * 100 < x.copyQuota * 90 then s else s.demoteCopies district x (s.ms.copies.length))

/-- Has a District room for one more copy of a page's colour (R162)? -/
def State.copyRoom (s : State) (p : Pend) : Bool :=
  match s.district p.district with
  | none => false
  | some x => decide (s.dramCopies p.district < x.copyQuota) && (s.allocRun 1 (s.regs.colour p.pa) x.strength).isSome

/-- Let the changes that wait for copy space go on, in order, while there is room. -/
def State.spaceGo (s : State) (d : Nat) : List Pend → State
  | [] => s
  | p :: t =>
    if p.district = d ∧ s.copyRoom p then
      (({ s with ms := { s.ms with spaceWait := s.ms.spaceWait.erase p } }).atHome p).spaceGo d t
    else s.spaceGo d t

/-- COPY_SPACE_FREED: waiting changes go on; the episode ends when none waits (R162). -/
def execCopySpaceFreed (district : Nat) (s : State) : Host.Outcome State Fault Refusal :=
  .next (
    let s := s.spaceGo district s.ms.spaceWait
    if s.ms.spaceWait.any fun p => p.district == district then s
    else match s.district district with
      | some x => s.setDistrict district { x with waitTold := false }
      | none => s)

end Sys2Proof.Machine
end

