-- ==== Sys2Proof/Machine/CrossCmd.lean ====
section
/-! DEFINITION. The Crossing commands (R183, R184). -/

namespace Sys2Proof.Machine

open Sys2Proof

/-- Are the initial values of a Crossing bad for its type (R183)? -/
def badInit (type value members : Nat) : Bool :=
  (if type = 1 then members == 0 else members != 0) || (type == 2 && decide (2 ^ 48 ≤ value))

/-- Is a run of k blocks of 64 numbers free from a first number? -/
def State.runFree (s : State) (first k : Nat) : Bool :=
  decide (first + 64 * k ≤ 32768) &&
    s.cr.blocks.all fun b => decide (b.1 + 64 * b.2.1 ≤ first) || decide (first + 64 * k ≤ b.1)

/-- The first free run of k blocks (R183). (DESIGN CHOICE, log entry 29.) -/
def State.findRun (s : State) (k : Nat) : Option Nat := ((List.range 512).map (· * 64)).find? fun f => s.runFree f k

/-- CROSSING_CREATE (R183). (DEDUCED, log entry 30.) -/
def execCrossingCreate (c : Cmd) (s : State) : Host.Outcome State Fault Refusal :=
  .next (
    let k := bitsOf c.d.p0 6 0
    let type := bitsOf c.d.p0 9 8
    let members := bitsOf c.d.p2 15 0
    let v := c.d.p1 % 2 ^ 64
    s.command c .d (lowestOf [
      chk ((s.findRun k).isNone && decide (1 ≤ k) && decide (k ≤ 64)) Cs.refusedResource,
      chk (k == 0 || decide (64 < k) || badInit type v members) Cs.refusedParam]) fun s =>
    match s.findRun k with
    | none => s
    | some first =>
      let x : Crossing := ⟨c.d.district, type, members, v, 0, 0, false, [], 0, [], 0, false⟩
      let s := { s with cr := { s.cr with
        blocks := s.cr.blocks.put first (k, c.d.district),
        items := (List.range (64 * k)).foldl (fun t i => t.put (first + i) x) s.cr.items } }
      s.done c first)

/-- The Crossings that a crossing window covers: first and count (R171). -/
def Window.crossings (w : Window) : Nat × Nat := (w.base / 64, (w.lastPage + 1) * 64)

/-- Remove a block of Crossings, with RESET Signals to its registrations (R183, R187). -/
def State.dropBlock (s : State) (first k : Nat) : State :=
  let s := (List.range (64 * k)).foldl (fun s i => s.signalAll (first + i) 3) s
  { s with cr := { s.cr with
      blocks := s.cr.blocks.del first,
      items := s.cr.items.only fun n _ => decide (n < first) || decide (first + 64 * k ≤ n) } }

/-- CROSSING_DESTROY (R183). (DEDUCED, log entry 30.) -/
def execCrossingDestroy (c : Cmd) (s : State) : Host.Outcome State Fault Refusal :=
  .next (
    let first := bitsOf c.d.p0 14 0
    let k := bitsOf c.d.p0 22 16
    let covered := s.maps.windows.any fun w =>
      w.2.kind == 1 && decide (w.2.crossings.1 < first + 64 * k) && decide (first < w.2.crossings.1 + w.2.crossings.2)
    let mine := s.cr.blocks.get first == some (k, c.d.district)
    s.command c .d (lowestOf [chk (mine && covered) Cs.refusedState, chk (!mine) Cs.refusedParam]) fun s =>
      (s.dropBlock first k).done c 0)

/-- Is a Crossing a District's? -/
def State.crOf (s : State) (n d : Nat) : Bool := ((s.crossing n).map fun x => x.district == d).getD false

/-- CROSSING_RESET: SEQ and JOURNAL stay (R183). (DEDUCED, log entry 30.) -/
def execCrossingReset (c : Cmd) (s : State) : Host.Outcome State Fault Refusal :=
  .next (
    let n := bitsOf c.d.p0 14 0
    let type := bitsOf c.d.p0 17 16
    let members := bitsOf c.d.p2 15 0
    let v := c.d.p1 % 2 ^ 64
    s.command c .d (chk (!s.crOf n c.d.district || badInit type v members) Cs.refusedParam) fun s =>
    match s.crossing n with
    | none => s
    | some x =>
      let s := s.setCrossing n { x with type := type, members := members, value := v, value2 := 0, sat := false }
      (s.signalAll n 3).done c 0)

/-- CROSSING_QUERY (R183). (DEDUCED, log entry 30.) -/
def execCrossingQuery (c : Cmd) (s : State) : Host.Outcome State Fault Refusal :=
  .next (
    let n := bitsOf c.d.p0 14 0
    let sel := bitsOf c.d.p0 19 16
    s.command c .d (chk (!s.crOf n c.d.district || decide (13 < sel)) Cs.refusedParam) fun s =>
    match s.crossing n with
    | none => s
    | some x => s.done c (x.word sel % 2 ^ 64 + (s.cr.regs.filter fun r => r.crossing == n).length % 65536 * 2 ^ 64))

end Sys2Proof.Machine
end

