-- ==== Sys2Proof/Machine/Districts.lean ====
section
/-! DEFINITION. Districts, windows and pages: creating and erasing Districts (R312, R390, R445 to R449, R463), WINDOW_MAP (R79, R152, R171,
R567), MEM_MAP and MEM_UNMAP (R164, R566), page-code strength (R295), accelerator rings (R391) and ownership (R407). -/

namespace Sys2Proof.Machine

open Sys2Proof

/-! ### Creating -/

/-- Free DRAM in lines (R283). -/
def State.freeLines (s : State) : Nat := s.maps.frames * 64 - s.maps.used

/-- Fence ways of a level (R445, R447). -/
def fenceWays (level : Nat) : Nat := if level = 2 then 1 else if level = 3 then 2 else 0

/-- The fence ways of a share that are given away (R447). -/
def State.waysUsed (s : State) : Nat := s.maps.districts.foldl (fun n e => n + fenceWays e.2.level) 0

/-- Dedicated engines per share of level-2 Districts (R200). -/
def State.dedicated (s : State) : Nat := s.maps.districts.foldl (fun n e => n + (if e.2.level = 2 then e.2.engines else 0)) 0

/-- The shares whose clusters level-3 Districts hold, as a mask (R200). -/
def State.clustersHeld (s : State) : Nat := s.maps.districts.foldl (fun n e => n ||| (if e.2.level = 3 then e.2.shares else 0)) 0

/-- Can engines or clusters be given to a new District (R200, R446)? -/
def State.enginesGiven (s : State) (level engines shares : Nat) : Bool :=
  if level = 2 then s.clustersHeld == 0 && (List.range 8).all fun k => decide (s.dedicated + engines ≤ (s.engsIn k).length)
  else if level = 3 then
    s.clustersHeld &&& shares == 0 && s.dedicated == 0 && (List.range 8).all fun k => !bitOf shares k || !(s.engsIn k).isEmpty
  else true

/-- The quotas of R312 and their limits as parameter checks. -/
def State.badQuota (s : State) (tiered : Bool) (fgroup resident flash fcopy : Nat) : Bool :=
  ((tiered || fcopy != 0) && (s.group fgroup).isNone) || (!tiered && (resident != 0 || flash != 0)) || (tiered && decide (resident < 4096))

/-- Has a group fewer unreserved pages than asked for, beyond what the District holds (R312)? -/
def State.noFlash (s : State) (fgroup pages had : Nat) : Bool :=
  match s.group fgroup with
  | none => false
  | some g => decide (0 < pages) && decide (g.pages - g.metaPages - (g.reserved - had) < pages)

/-- The group with another number of reserved pages. -/
def State.reserve (s : State) (fgroup add sub : Nat) : State :=
  match s.group fgroup with
  | some g => s.setGroup fgroup { g with reserved := g.reserved + add - sub }
  | none => s

/-- DISTRICT_CREATE (R312, R390, R445, R446, R449). -/
def execDistrictCreate (c : Cmd) (s : State) : Host.Outcome State Fault Refusal :=
  .next (
    let d := c.d.district
    let p := c.d.p0
    let level := bitsOf p 1 0
    let strength := bitsOf p 3 2
    let tiered := bitOf p 4
    let conf := bitOf p 5
    let fgroup := bitsOf p 11 8
    let engines := bitsOf p 14 12
    let shares := bitsOf p 23 16
    let trk := bitsOf p 41 28
    let resident := c.d.p2
    let flash := c.d.p3
    let fcopy := c.d.p4
    let owner := bitsOf c.d.p5 8 0
    let epoch := (s.maps.epochs.get d).getD 0
    s.command c .g (lowestOf [
      chk (d != 0 && (s.district d).isSome) Cs.refusedState,
      chk (s.noFlash fgroup (flash + fcopy) 0 || (tiered && decide (s.freeLines < pageCost resident strength)) ||
        decide (8 < s.waysUsed + fenceWays level) || !s.enginesGiven level engines shares || !s.sec.entropyOk) Cs.refusedResource,
      chk (d == 0 || strength == 3 || (conf && isPf owner) || trk == 0 || decide (8192 < trk) || (level == 2 && engines == 0) ||
        (level == 3 && shares == 0) || (engines != 0 && level != 2) || decide (6 < engines) || (shares != 0 && level != 3) ||
        (conf && decide (level < 2)) || s.badQuota tiered fgroup resident flash fcopy) Cs.refusedParam,
      chk (epoch == 0xFFFFFFFF) Cs.refusedExhausted]) fun s =>
    let x : District :=
      { st := .inService, level := level, strength := strength, tiered := tiered, conf := conf, fgroup := fgroup, engines := engines,
        shares := shares, priority := bitsOf p 27 24, trkLimit := trk, copyQuota := bitsOf c.d.p1 31 0, staging := bitsOf c.d.p1 63 32,
        residentMax := resident, flashQuota := flash, fcopyQuota := fcopy, owner := owner, epoch := epoch + 1, nextVersion := 1,
        dramInstalled := false, flashInstalled := false, busyCmd := none, convCmd := none, convNext := 0, convDone := 0, convTo := strength,
        energyMetered := 0, energyEst := 0, energyFrom := s.time.ft, spaceTold := false, waitTold := false }
    let s := (s.setDistrict d x).reserve fgroup (flash + fcopy) 0
    let s := { s with maps := { s.maps with epochs := s.maps.epochs.put d (epoch + 1) },
                      sec := { s.sec with dramKeys := s.sec.dramKeys.put d 0, flashKeys := s.sec.flashKeys.put d 0 } }
    (s.holdEngines d engines).done c 0)

/-- DISTRICT_LIMITS (R312, R390, R568). -/
def execDistrictLimits (c : Cmd) (s : State) : Host.Outcome State Fault Refusal :=
  .next (
    let d := c.d.district
    let trk := bitsOf c.d.p0 41 28
    let bad := fun (x : District) => s.badQuota x.tiered x.fgroup c.d.p2 c.d.p3 c.d.p4
    s.command c .g (lowestOf [
      chk (s.district d).isNone Cs.refusedState,
      chk (match s.district d with
        | some x => s.noFlash x.fgroup (c.d.p3 + c.d.p4) (x.flashQuota + x.fcopyQuota) ||
            (x.tiered && decide (s.freeLines + pageCost (s.residentPages d) x.strength < pageCost c.d.p2 x.strength))
        | none => false) Cs.refusedResource,
      chk (trk == 0 || decide (8192 < trk) || ((s.district d).map bad).getD false) Cs.refusedParam]) fun s =>
    match s.district d with
    | none => s
    | some x =>
      let s := s.reserve x.fgroup (c.d.p3 + c.d.p4) (x.flashQuota + x.fcopyQuota)
      (s.setDistrict d { x with
        priority := bitsOf c.d.p0 27 24, trkLimit := trk, copyQuota := bitsOf c.d.p1 31 0, staging := bitsOf c.d.p1 63 32,
        residentMax := c.d.p2, flashQuota := c.d.p3, fcopyQuota := c.d.p4 }).done c 0)

/-- DISTRICT_REOWN (R407, R418, R568). -/
def execDistrictReown (c : Cmd) (s : State) : Host.Outcome State Fault Refusal :=
  .next (
    let d := c.d.district
    s.command c .g (chk (match s.district d with | some x => x.conf | none => true) Cs.refusedState) fun s =>
    match s.district d with
    | some x => (s.setDistrict d { x with owner := bitsOf c.d.p5 8 0 }).done c 0
    | none => s)

/-! ### Windows -/

/-- The window entry that four words give (R79). -/
def winOf (w0 w1 w2 : Nat) : Window :=
  { kind := bitsOf w0 2 1, r := bitOf w0 3, w := bitOf w0 4, a := bitOf w0 5, e := bitOf w0 6, s := bitOf w0 7, district := bitsOf w0 17 8,
    msBind := bitOf w0 18, msSlot := bitsOf w0 23 20, group := bitsOf w0 31 24, gmask := bitsOf w0 39 32, base := bitsOf w1 47 0,
    lastPage := bitsOf w2 35 0 }

/-- A window entry as a value of 32 bytes (R79). -/
def Window.bits (w : Window) : Nat :=
  1 + w.kind * 2 + w.r.toNat * 8 + w.w.toNat * 16 + w.a.toNat * 32 + w.e.toNat * 64 + w.s.toNat * 128 + w.district * 2 ^ 8 +
    w.msBind.toNat * 2 ^ 18 + w.msSlot * 2 ^ 20 + w.group * 2 ^ 24 + w.gmask * 2 ^ 32 + w.base * 2 ^ 64 + w.lastPage * 2 ^ 128

/-- Has an entry a reserved field that is not zero (R3, R79)? -/
def winReserved (w0 w1 w2 w3 : Nat) : Bool :=
  bitOf w0 19 || bitsOf w0 63 40 != 0 || bitsOf w1 63 48 != 0 || bitsOf w1 11 0 != 0 || bitsOf w2 63 36 != 0 || w3 % 2 ^ 64 != 0 ||
    bitsOf w0 2 1 == 3

/-- The parameter checks of a new entry (R79, R152, R171, R567). -/
def State.badWindow (s : State) (w : Window) (valid : Bool) : Bool :=
  !valid || (w.msBind && (w.w || w.a)) || (w.s && w.kind != 2) || decide (2 ^ 48 < w.base + w.span) ||
    (w.kind == 1 && (decide (2 ^ 21 < w.base + w.span) || w.r || w.w || w.e || w.s || w.msBind ||
      (List.range w.crossings.2).any fun i => !s.crOf (w.crossings.1 + i) w.district)) ||
    (w.msBind && (w.kind != 0 || match s.msSlot w.district w.msSlot with
      | some m => !(m.ranges.any fun r => decide (r.1 ≤ w.base / 4096) && decide (w.base / 4096 + w.lastPage ≤ r.2)) &&
          (List.range (w.lastPage + 1)).any fun i => !m.covers (w.base / 4096 + i)
      | none => false))

/-- Does a change of a memory window need the directory search of R114: it removes or narrows it, clears R, or changes its group? -/
def Window.narrows (old : Window) (new : Option Window) : Bool :=
  old.kind == 0 && match new with
    | none => true
    | some n => n.kind != 0 || decide (old.base < n.base) || decide (n.base + n.span < old.base + old.span) || (old.r && !n.r) ||
        n.group != old.group || n.gmask != old.gmask

/-- WINDOW_MAP (R79, R87, R114, R152, R171, R390, R457, R567): a create completes at once; a change takes force at once and completes when
the requests under the old entry have been answered and the directory has been searched. (DEDUCED, log entry 27.) -/
def execWindowMap (c : Cmd) (s : State) : Host.Outcome State Fault Refusal :=
  .next (
    let d := c.d.district
    let id := bitsOf c.d.p0 15 0
    let act := bitsOf c.d.p0 17 16
    let old := s.maps.windows.get id
    let new := winOf c.d.p1 c.d.p2 c.d.p3
    let puts := act == 0 || act == 1
    if s.windowMoving id then s
    else s.command c .d (lowestOf [
      chk ((puts && new.district != d) || (act != 0 && match old with | some w => w.district != d | none => false)) Cs.refusedOwner,
      chk ((act == 0 && old.isSome) || ((act == 1 || act == 2) && old.isNone) || (act != 0 && s.sec.bindings.has id) ||
        (puts && new.msBind && ((s.msSlot d new.msSlot).map (·.st)) != some 2)) Cs.refusedState,
      chk (act == 3 || (act == 2 && (c.d.p1 != 0 || c.d.p2 != 0 || c.d.p3 != 0 || c.d.p4 != 0)) ||
        (puts && (winReserved c.d.p1 c.d.p2 c.d.p3 c.d.p4 || s.badWindow new (bitOf c.d.p1 0)))) Cs.refusedParam]) fun s =>
    match old with
    | none => ({ s with maps := { s.maps with windows := s.maps.windows.put id new } }).done c 0
    | some w =>
      let drain : Drain :=
        { cmd := c, district := d, first := w.base / 4096, last := w.base / 4096 + w.lastPage, window := some (id, w),
          needSearch := w.narrows (if act = 1 then some new else none), translated := false, stamp := s.coh.stamp,
          kept := recOf c Cs.done 0 0, unmap := false, moves := [], unbind := false }
      { s with maps := { s.maps with
          windows := if act = 1 then s.maps.windows.put id new else s.maps.windows.del id,
          drains := s.maps.drains ++ [drain] } })

/-- WINDOW_QUERY: the entry as it stood before a change in progress (R567). (DEDUCED, log entry 27.) -/
def execWindowQuery (c : Cmd) (s : State) : Host.Outcome State Fault Refusal :=
  .next (
    let id := bitsOf c.d.p0 15 0
    let w : Option Window := match s.maps.drains.find? fun x => (x.window.map (·.1)) == some id with
      | some x => x.window.map (·.2)
      | none => s.maps.windows.get id
    s.command c .q (lowestOf [
      chk (match w with | some x => x.district != c.d.district | none => false) Cs.refusedOwner,
      chk (s.district c.d.district).isNone Cs.refusedState]) fun s =>
      s.done c ((w.map Window.bits).getD 0))

/-! ### Waiting for requests under an old translation -/

/-- The directory entries of a District over a range of pages. -/
def State.entriesIn (s : State) (d first last : Nat) : List (Nat × DirEntry) :=
  s.coh.dir.filter fun e => e.2.district == d && decide (first ≤ e.2.da / 4096) && decide (e.2.da / 4096 ≤ last)

/-- Recall every entry of a range that is not BUSY; fenced holders count as having answered (R114, R131). -/
def State.recallRange (s : State) (d first last stamp : Nat) : State :=
  ((s.entriesIn d first last).filter fun e => decide (e.2.stamp < stamp) && e.2.busy.isNone).foldl (fun s e =>
    let ts := (s.holders e.2).filter fun n => !s.isFenced n
    if ts.isEmpty then s.delDir e.1 else s.startRecall e.1 e.2 .bp .recall ts none) s

/-- Have all requests translated under the old entry been answered, and all jobs that use it ended (R87, R202)? Requests that arrived since
wait and are not counted. -/
def State.drainClear (s : State) (x : Drain) : Bool :=
  let waits := fun (t : Tracker) => s.coh.moveWait.any fun p => p.port == t.port && p.src == t.src && p.tag == t.tag && p.elem == t.elem
  let of := fun (t : Tracker) => match x.window with
    | some (w, _) => t.window == w
    | none => t.district == x.district && decide (x.first ≤ t.page) && decide (t.page ≤ x.last)
  let touches := fun (w : Nat) => match x.window with
    | some (k, _) => w == k
    | none => match s.maps.windows.get w with
      | some y => y.district == x.district && y.kind == 0 && decide (y.base / 4096 ≤ x.last) && decide (x.first ≤ y.base / 4096 + y.lastPage)
      | none => false
  !(s.coh.trackers.any fun t => of t && !waits t) && !(s.eng.jobs.any fun e => e.2.inFlight && e.2.windows.any touches)

/-- Requests that waited for a translation change are taken up again (R87). -/
def State.releaseMoves (s : State) : State :=
  let ps := s.coh.moveWait
  ({ s with coh := { s.coh with moveWait := [] } }).resolveAll ps

/-- The lines of frames leave the line cache and the mirror without being written back. -/
def State.dropFrames (s : State) (f n : Nat) : State :=
  let keep := fun (l : Nat) => !(decide (f ≤ l / 64) && decide (l / 64 < f + n))
  { s with
    mem := { s.mem with
      cache := s.mem.cache.only fun l _ => keep l, mirror := s.mem.mirror.only fun l _ => keep l,
      mirrorWait := s.mem.mirrorWait.filter keep, poison := s.mem.poison.filter keep,
      unbound := cutRange f (f + n) s.mem.unbound,
      wrote := s.mem.wrote.only (fun l _ => keep l),
      parityLost := s.mem.parityLost.filter fun x => !(decide (f ≤ x) && decide (x < f + n)) },
    prot := { s.prot with updates := s.prot.updates.filter fun u => keep u.line,
                          recons := s.prot.recons.only fun x _ => !(decide (f ≤ x) && decide (x < f + n)),
                          erased := s.prot.erased.only fun x _ => !(decide (f ≤ x) && decide (x < f + n)) },
    coh := { s.coh with dir := s.coh.dir.only fun l _ => keep l } }

/-- Take a leaf out of a District's page table: 4 KiB pages that a Milestone needs become copy pages, the others return to free space
(R151, R164). -/
def State.unmapLeaf (s : State) (d first : Nat) (l : Leaf) : State :=
  let n := leafPages l.size
  let need := ((List.range n).map fun i => (first + i, s.needCopy d (first + i))).filter fun x => !x.2.isEmpty
  let s := { s with maps := { s.maps with pages := s.maps.pages.del (pageKey d first), lostLeaves := s.maps.lostLeaves.rem (pageKey d first) } }
  if l.tiered && !l.resident then
    match need with
    | [] => s.freeLoc l.addr
    | x :: _ =>
      let s := s.writeMaps d first x.2 ⟨false, true, false, l.addr⟩
      { s with ms := { s.ms with fcopies := s.ms.fcopies.put l.addr ⟨x.2.length, d, s.clock, l.strength⟩ } }
  else
    let s := match l.flash with
      | some loc => if s.copyLocator loc then s else s.freeLoc loc
      | none => s
    let s := need.foldl (fun s x =>
      let f := leafFrame first l x.1
      let s := s.writeMaps d x.1 x.2 ⟨false, false, false, f⟩
      { s with ms := { s.ms with copies := s.ms.copies.put f ⟨x.2.length, d, s.clock, l.strength⟩ } }) s
    if need.isEmpty then (s.dropFrames l.addr n).freeRun l.addr n l.strength
    else ((List.range n).filter fun i => !(need.any fun x => x.1 == first + i)).foldl (fun s i =>
      (s.dropFrames (l.addr + i) 1).freeRun (l.addr + i) 1 l.strength) s

/-- Do the rings of an accelerator ring lie on unmapped pages (R408)? -/
def State.ringOn (s : State) (d first last : Nat) (r : Ring) : Bool :=
  match r.acc with
  | none => false
  | some a => a.district == d && [(a.cmdRef, 64 * 2 ^ r.n), (a.cplRef, 32 * 2 ^ r.m)].any fun x =>
      match s.maps.windows.get x.1.window with
      | some w =>
        let lo := (w.base + x.1.offset) / 4096
        let hi := (w.base + x.1.offset + x.2 - 1) / 4096
        decide (lo ≤ last) && decide (first ≤ hi)
      | none => false

/-- Move the content of a frame of a District page to a new frame by a whole-page write (R304). -/
def State.moveFrame (s : State) (d old new : Nat) : State :=
  let s := s.copyFrame old new []
  let move := fun (f : Nat) => if f = old then new else f
  let s := { s with
    maps := { s.maps with pages := s.maps.pages.each fun k l =>
      if k / 2 ^ 36 = d ∧ l.size = 0 ∧ (!l.tiered || l.resident) then { l with addr := move l.addr } else l } }
  s.dropFrames old 1

/-- The slots that a MODEL_LOAD or a KEY_ZEROISE clears, as keys of the table of model keys (R457, R464). -/
def slotsCleared (c : Cmd) : List Nat :=
  if c.d.opcode = 0x83 then (if bitsOf c.d.p0 21 20 = 2 then [c.d.district * 8 + bitsOf c.d.p0 18 16] else [])
  else if bitsOf c.d.p0 17 16 = 0 then [bitsOf c.d.p1 9 0 * 8 + bitsOf c.d.p1 18 16]
  else (List.range 8).map (bitsOf c.d.p1 9 0 * 8 + ·)

/-- The windows of a command that unbinds are unbound: the slots that it clears go, with the notice of a KEY_ZEROISE (R457, R464, R465). -/
def State.afterUnbind (s : State) (c : Cmd) : State :=
  let s := { s with sec := { s.sec with models := (slotsCleared c).foldl (fun t k => t.del k) s.sec.models } }
  if c.d.opcode = 0x81 then
    s.raise Src.security 0x01 (bitsOf c.d.p0 17 16 + (if bitsOf c.d.p0 17 16 = 0 then bitsOf c.d.p1 18 16 * 256 else 0)) (some (bitsOf c.d.p1 9 0))
  else s

/-- A translation change has run its course: pages go or move, and its command completes (R87, R304, R408, R566). A command with several
changes completes with the last of them. -/
def State.endDrain (s : State) (x : Drain) : State :=
  let s := { s with maps := { s.maps with drains := s.maps.drains.filter (· != x) } }
  let s := if x.unmap then
      let s := ((s.maps.leaves x.district).filter fun e => decide (x.first ≤ e.1) && decide (e.1 ≤ x.last)).foldl (fun s e =>
        (s.abandonDemotion x.district e.1).unmapLeaf x.district e.1 e.2) s
      (s.host.rings.filter fun e => s.ringOn x.district x.first x.last e.2).foldl (fun s e => s.stopRing e.1 4) s
    else s
  let s := match x.window with
    | some (k, w) =>
      if x.unbind then { s with sec := { s.sec with bindings := s.sec.bindings.del k } }
      else if w.msBind then s.tryFree x.district w.msSlot else s
    | none => s
  let s := x.moves.foldl (fun s m => s.moveFrame x.district m.1 m.2) s
  let last := !(s.maps.drains.any fun y => y.cmd == x.cmd)
  let s := if last && !x.moves.isEmpty then
      s.logErr { s.errAt 8 (((x.moves.head?.map (·.2)).getD 0) * 64) with
        detail := x.cmd.d.p0 % 4, line := ((x.moves.head?.map (·.1)).getD 0) * 64 }
    else s
  let s := if last && x.unbind then s.afterUnbind x.cmd else s
  (if last then s.finish x.cmd x.kept else s).releaseMoves

/-- Move a translation change on: when every request under the old entry is answered, the directory is searched where R114 asks for it,
and the change ends when no entry is left. `searched` says that the search has ended. -/
def State.advanceDrain (s : State) (x : Drain) (searched : Bool) : State :=
  let copying := s.ms.copying.any fun c => c.district == x.district && x.first == c.page && !x.moves.isEmpty
  if copying || (!x.translated && !s.drainClear x) then s
  else
    let y := { x with translated := true, stamp := if x.translated then x.stamp else s.coh.stamp }
    let s := { s with maps := { s.maps with drains := s.maps.drains.map fun z => if z = x then y else z } }
    if !y.needSearch then s.endDrain y
    else
      let s := s.recallRange y.district y.first y.last y.stamp
      let left := (s.entriesIn y.district y.first y.last).any fun e => decide (e.2.stamp < y.stamp)
      if left || (!searched && !y.unmap) then s else s.endDrain y

/-- The translation change of a command. -/
def State.drainOf (s : State) (ring cmdId : Nat) : Option Drain :=
  s.maps.drains.find? fun x => x.cmd.ring == ring && x.cmd.d.cmdId == cmdId

/-- TRANSLATION_DRAIN_DONE (R87, R114). -/
def execTranslationDrainDone (ring cmdId : Nat) (s : State) : Host.Outcome State Fault Refusal :=
  .next (match s.drainOf ring cmdId with
    | some x => s.advanceDrain x false
    | none => s)

/-- DIRECTORY_SEARCH_DONE (R114). -/
def execDirectorySearchDone (ring cmdId : Nat) (s : State) : Host.Outcome State Fault Refusal :=
  .next (match s.drainOf ring cmdId with
    | some x => if x.translated then s.advanceDrain x true else s
    | none => s)

/-! ### Pages -/

/-- The page size of a size code in bytes. -/
def sizeBytes (ps : Nat) : Nat := leafPages ps * 4096

/-- The parameter check of a range (R390, R566). (DESIGN CHOICE, log entry 29.) -/
def badRange (da len ps : Nat) : Bool :=
  ps == 3 || da % sizeBytes ps != 0 || len % sizeBytes ps != 0 || decide (2 ^ 48 < da + len)

/-- The leaves of a District that meet a range of pages. -/
def State.leavesIn (s : State) (d first n : Nat) : List (Nat × Leaf) :=
  (s.maps.leaves d).filter fun e => decide (e.1 < first + n) && decide (first < e.1 + leafPages e.2.size)

/-- Map one page: a locator for a tiered District, else a run of frames of its colour, with undefined content (R85, R164, R289, R313). -/
def State.mapPage (s : State) (d : Nat) (x : District) (ps page : Nat) : Option State :=
  let st := if x.convCmd.isSome then x.convTo else x.strength
  let absent := fun (s : State) => (List.range (leafPages ps)).foldl (fun s i =>
    s.writeMaps d (page + i) (s.needCopy d (page + i)) ⟨true, false, false, 0⟩) s
  if x.tiered then
    if x.flashQuota ≤ s.mappedPages d then none
    else match s.allocLoc x.fgroup with
      | none => none
      | some (loc, s) => some ((absent s).setLeaf d page ⟨0, true, false, false, loc, st, false, some loc, false, false⟩)
  else match s.allocRun (leafPages ps) (s.regs.colour (page * 4096)) st with
    | none => none
    | some (f, s) =>
      let s := (absent s).dropFrames f (leafPages ps)
      let s := { s with mem := s.mem.unbindRange f (leafPages ps) }
      some (s.setLeaf d page ⟨ps, false, true, false, f, st, false, none, false, false⟩)

/-- Map the pages that are missing, and count them in 4 KiB units. -/
def State.mapAll (s : State) (d : Nat) (x : District) (ps : Nat) : List Nat → Option (State × Nat)
  | [] => some (s, 0)
  | p :: t =>
    if (s.maps.pages.get (pageKey d p)).isSome then s.mapAll d x ps t
    else match s.mapPage d x ps p with
      | none => none
      | some s => (s.mapAll d x ps t).map fun r => (r.1, r.2 + leafPages ps)

/-- Map pages of a District, where it exists (R85). -/
def State.mapRun (s : State) (d : Nat) (x : Option District) (ps : Nat) (pages : List Nat) : Option (State × Nat) :=
  match x with
  | none => none
  | some y => s.mapAll d y ps pages

/-- MEM_MAP (R85, R164, R289, R313, R566). -/
def execMemMap (c : Cmd) (s : State) : Host.Outcome State Fault Refusal :=
  .next (
    let d := c.d.district
    let ps := bitsOf c.d.p2 1 0
    let da := c.d.p0
    let len := c.d.p1
    let x := s.district d
    let bad := badRange da len ps || (((x.map (·.tiered)).getD false) && ps != 0)
    let pages := (List.range (len / sizeBytes ps)).map fun i => da / 4096 + i * leafPages ps
    let clash := (s.leavesIn d (da / 4096) (len / 4096)).any fun e => e.2.size != ps
    let after := if bad then none else s.mapRun d x ps pages
    s.command c .d (lowestOf [
      chk (!bad && clash) Cs.refusedState,
      chk (!bad && !clash && after.isNone) Cs.refusedResource,
      chk bad Cs.refusedParam]) fun s =>
    match s.mapRun d x ps pages with
    | some r => r.1.done c r.2
    | none => s)

/-- MEM_UNMAP (R87, R114, R566): it completes when no request uses the pages any more. -/
def execMemUnmap (c : Cmd) (s : State) : Host.Outcome State Fault Refusal :=
  .next (
    let d := c.d.district
    let ps := bitsOf c.d.p2 1 0
    let first := c.d.p0 / 4096
    let n := c.d.p1 / 4096
    let bad := badRange c.d.p0 c.d.p1 ps
    let ls := s.leavesIn d first n
    let partly := ls.any fun e => decide (e.1 < first) || decide (first + n < e.1 + leafPages e.2.size)
    s.command c .d (lowestOf [chk (!bad && partly) Cs.refusedState, chk bad Cs.refusedParam]) fun s =>
    let count := ls.foldl (fun k e => k + leafPages e.2.size) 0
    if count = 0 then s.done c 0
    else
      let x : Drain :=
        { cmd := c, district := d, first := first, last := first + n - 1, window := none, needSearch := true, translated := false,
          stamp := s.coh.stamp, kept := recOf c Cs.done 0 count, unmap := true, moves := [], unbind := false }
      { s with maps := { s.maps with drains := s.maps.drains ++ [x] } })

/-! ### Strength -/

/-- The resident leaves and copy pages of a District that are not yet at a strength, leaves in ascending District address order. (DEDUCED,
log entry 28.) -/
def State.toConvert (s : State) (d st : Nat) : List (Nat × Leaf) × List (Nat × CopyPage) :=
  ((s.maps.leaves d).filter fun e => (!e.2.tiered || e.2.resident) && e.2.strength != st,
   s.ms.copies.filter fun e => e.2.district == d && e.2.strength != st)

/-- The lines of new parity that a conversion needs beyond the old (R283, R295). (DEDUCED, log entry 28.) -/
def State.convertCost (s : State) (d st : Nat) : Nat :=
  let t := s.toConvert d st
  t.1.foldl (fun n e => n + leafPages e.2.size * parityLines st) 0 + t.2.foldl (fun n _ => n + parityLines st) 0

/-- A conversion ends (R295). (DEDUCED, log entry 28.) -/
def State.endConvert (s : State) (d : Nat) (x : District) : State :=
  let y := { x with convCmd := none, strength := x.convTo }
  let s := s.setDistrict d { y with st := if x.st = .converting then .inService else x.st }
  match x.convCmd with
  | some c => s.done c x.convDone
  | none => s

/-- DISTRICT_STRENGTH (R295). (DEDUCED, log entry 28.) -/
def execDistrictStrength (c : Cmd) (s : State) : Host.Outcome State Fault Refusal :=
  .next (
    let d := c.d.district
    let st := bitsOf c.d.p0 1 0
    let x := s.district d
    let same := (x.map (·.strength)) == some st && (x.bind (·.convCmd)).isNone
    s.command c .d (lowestOf [
      chk ((x.bind (·.convCmd)).isSome) Cs.refusedState,
      chk (!same && st != 3 && decide (s.freeLines < s.convertCost d st)) Cs.refusedResource,
      chk (st == 3) Cs.refusedParam]) fun s =>
    match x with
    | none => s
    | some x =>
      if same then s.done c 0
      else
        let y := { x with st := if x.st = .inService then .converting else x.st, convCmd := some c, convNext := 0, convDone := 0, convTo := st }
        let s := s.setDistrict d y
        if (s.toConvert d st).1.isEmpty ∧ (s.toConvert d st).2.isEmpty then s.endConvert d y else s)

/-- STRENGTH_PAGE_DONE: the next page has its new parity (R286, R295); a re-encode clears PARITY_LOST. (DEDUCED, log entry 28.) -/
def execStrengthPageDone (district : Nat) (s : State) : Host.Outcome State Fault Refusal :=
  .next (match s.district district with
    | none => s
    | some x =>
      if x.convCmd.isNone then s
      else
        let t := s.toConvert district x.convTo
        let paid := fun (s : State) (n old : Nat) =>
          { s with maps := { s.maps with used := s.maps.used + n * parityLines x.convTo - n * parityLines old } }
        let clear := fun (s : State) (f n : Nat) => { s with
          mem := { s.mem with parityLost := s.mem.parityLost.filter fun y => !(decide (f ≤ y) && decide (y < f + n)) },
          prot := { s.prot with erased := s.prot.erased.only fun y _ => !(decide (f ≤ y) && decide (y < f + n)) } }
        let r : State × Nat := match t.1, t.2 with
          | (p, l) :: _, _ =>
            let n := leafPages l.size
            ((clear (paid s n l.strength) l.addr n).setLeaf district p { l with strength := x.convTo }, n)
          | [], (f, k) :: _ =>
            (clear { paid s 1 k.strength with ms := { s.ms with copies := s.ms.copies.put f { k with strength := x.convTo } } } f 1, 1)
          | [], [] => (s, 0)
        let y := { x with convDone := x.convDone + r.2 }
        let s := r.1.setDistrict district y
        let left := s.toConvert district x.convTo
        if left.1.isEmpty ∧ left.2.isEmpty then s.endConvert district y else s)

/-! ### Accelerator rings -/

/-- The range of an OPREF lies in a memory window of a District that grants what is asked (R233). -/
def State.oprefOk (s : State) (d : Nat) (o : Opref) (len : Nat) (perm : Window → Bool) : Bool :=
  match s.maps.windows.get o.window with
  | some w => w.kind == 0 && w.district == d && perm w && decide (o.offset + len ≤ w.span)
  | none => false

/-- The District address of an OPREF. -/
def State.daOf (s : State) (o : Opref) : Nat := ((s.maps.windows.get o.window).map (·.base)).getD 0 + o.offset

/-- ACC_RING_CREATE (R386, R387, R390, R391). -/
def execAccRingCreate (c : Cmd) (s : State) : Host.Outcome State Fault Refusal :=
  .next (
    let d := c.d.district
    let cmd := oprefOf c.d.p0
    let cpl := oprefOf c.d.p1
    let n := bitsOf c.d.p2 3 0
    let m := bitsOf c.d.p2 7 4
    let cr := bitsOf c.d.p2 22 8
    let crEn := bitOf c.d.p2 23
    let bit := bitsOf c.d.p2 29 24
    let sh := if c.d.p3 = 0 then none else some (oprefOf c.d.p3)
    let idx := (List.range 4096).find? fun i => !s.host.rings.has (32768 + i)
    let flag := (s.crOf cr d) && ((s.crossing cr).map (·.type)) == some 2
    s.command c .d (lowestOf [
      chk idx.isNone Cs.refusedResource,
      chk (decide (n < 4) || decide (12 < n) || decide (m < 5) || decide (13 < m) || (crEn && (!flag || decide (47 < bit))) ||
        !s.oprefOk d cmd (64 * 2 ^ n) (·.r) || !s.oprefOk d cpl (32 * 2 ^ m) (·.w) || s.daOf cmd % (64 * 2 ^ n) != 0 ||
        s.daOf cpl % (32 * 2 ^ m) != 0 || (match sh with | some o => !s.oprefOk d o 4 (·.r) || o.offset % 4 != 0 | none => false))
        Cs.refusedParam]) fun s =>
    match idx with
    | none => s
    | some i =>
      let r : Ring := { Ring.init with st := .running, n := n, m := m, armed := true, acc := some ⟨d, cmd, cpl, sh, crEn, cr, bit⟩ }
      (s.setRing (32768 + i) r).done c (32768 + i))

/-- ACC_RING_DESTROY: the ring drains and goes (R390, R409). (DEDUCED, log entry 27.) -/
def execAccRingDestroy (c : Cmd) (s : State) : Host.Outcome State Fault Refusal :=
  .next (
    let k := 32768 + bitsOf c.d.p0 11 0
    let r := s.host.rings.get k
    s.command c .d (lowestOf [
      chk (match r with | some x => (x.acc.map (·.district)) != some c.d.district | none => false) Cs.refusedOwner,
      chk r.isNone Cs.refusedState]) fun s =>
    let s := s.drainRing k
    let s := (s.setRing k { s.ring k with flr := true }).ringDrained k
    s.done c 0)

/-! ### Erasing -/

/-- The jobs of a District. -/
def State.jobsOf (s : State) (d : Nat) : List (Nat × Job) := s.eng.jobs.filter fun e => e.2.cmd.d.district == d

/-- DISTRICT_ERASE: after its guard the District is ERASING; a conversion or renumbering in progress ends, and jobs whose commit has not
begun are aborted (R206, R463). (DEDUCED, log entry 27.) -/
def State.startErase (s : State) (d : Nat) (c : Option Cmd) : State :=
  let s := s.renumberDone d
  match s.district d with
  | none => s
  | some x =>
    let s := s.setDistrict d { x with st := .erasing, busyCmd := c, convCmd := none }
    let s := match x.convCmd with
      | some k => s.finish k (recOf k Cs.aborted 0 x.convDone)
      | none => s
    (s.jobsOf d).foldl (fun s e => if e.2.phase = .committing ∨ e.2.phase = .scrubbing then s else s.abortJob e.1 e.2) s

/-- DISTRICT_ERASE (R463, R568). -/
def execDistrictErase (c : Cmd) (s : State) : Host.Outcome State Fault Refusal :=
  .next (
    let d := c.d.district
    s.command c .d (chk (c.d.p0 != 65535 - d) Cs.refusedParam) fun s => s.startErase d (some c))

/-- Are requests, commits, flash transfers, host copies or translation changes of a District still open (R463, step 2)? -/
def State.eraseBusy (s : State) (d : Nat) : Bool :=
  (s.coh.trackers.any fun t => t.district == d) || !(s.jobsOf d).isEmpty || (s.flash.fills.any fun f => f.district == d) ||
    (s.flash.demos.any fun f => f.district == d) || (s.maps.drains.any fun x => x.district == d) ||
    (s.host.dmas.any fun e => e.2.cmd.d.district == d) || (s.coh.allWaits.any fun a => a.district == d) || s.anyGap

/-- Steps 4 to 7 of R463. -/
def State.eraseRest (s : State) (d : Nat) (x : District) : State :=
  let rings := (s.host.rings.filter fun e => ((e.2.acc.map (·.district)) == some d)).map (·.1)
  let s := rings.foldl (fun s r =>
    let s := s.stopRing r 4
    let s := (s.ring r).waiting.foldl (fun s c => s.leaveRing c) s
    { s with host := { s.host with rings := s.host.rings.del r } }) s
  let s := { s with
    maps := { s.maps with windows := s.maps.windows.only fun _ w => w.district != d },
    sec := { s.sec with bindings := s.sec.bindings.only fun _ b => b.district != d } }
  let s := (s.cr.blocks.filter fun b => b.2.2 == d).foldl (fun s b => s.dropBlock b.1 b.2.1) s
  let s := (List.range 16).foldl (fun s k => if (s.msSlot d k).isSome then s.freeMs d k else s) s
  let s := { s with sec := { s.sec with
    dramKeys := s.sec.dramKeys.del d, flashKeys := s.sec.flashKeys.del d,
    models := s.sec.models.only fun k _ => k / 8 != d, bounce := s.sec.bounce.only fun k _ => k / 16 != d } }
  let s := (s.maps.leaves d).foldl (fun s e => s.unmapLeaf d e.1 e.2) s
  let s := (List.range 16).foldl (fun s k =>
    ((s.ms.returning.get (slotKey d k)).getD []).foldl (fun s f =>
      if flashMark ≤ f then s.freeLoc (f - flashMark) else (s.dropFrames f 1).freeRun f 1 x.strength)
      { s with ms := { s.ms with returning := s.ms.returning.del (slotKey d k) } }) s
  let s := s.reserve x.fgroup 0 (x.flashQuota + x.fcopyQuota)
  let s := { s with
    maps := { s.maps with districts := s.maps.districts.del d },
    flash := { s.flash with clock := s.flash.clock.del d },
    ms := { s.ms with copying := s.ms.copying.filter fun c => c.district != d } }
  s

/-- DISTRICT_ERASE_PROCEED: entries are recalled, and when none is left the District's state goes (R463, steps 3 to 8). -/
def execDistrictEraseProceed (district : Nat) (s : State) : Host.Outcome State Fault Refusal :=
  .next (match s.district district with
    | none => s
    | some x =>
      if x.st ≠ .erasing ∨ s.eraseBusy district then s
      else
        let s := s.recallRange district 0 (2 ^ 36) (s.coh.stamp + 1)
        if !(s.entriesIn district 0 (2 ^ 36)).isEmpty then s
        else
          let s := if s.sec.zeroised then s else s.raise Src.security 0x02 0 (some district)
          let s := (s.eraseRest district x).freeHeld district
          let s := match x.busyCmd with
            | some c => s.done c 0
            | none => s
          match s.sec.zeroCmd with
          | some c => if s.maps.districts.isEmpty then ({ s with sec := { s.sec with zeroCmd := none } }).done c 0 else s
          | none => s)

end Sys2Proof.Machine
end

