-- ==== Sys2Proof/Machine/OpSpec.lean ====
section
/-! DEFINITION. The operators' descriptors and argument blocks as operand ranges and limits, and the checks of R237 (R208, R232 to R253). -/

namespace Sys2Proof.Machine

open Sys2Proof

/-! ### Weight formats -/

/-- Is a code a weight format (R208)? -/
def fmtOk (f : Nat) : Bool := decide (1 ≤ f) && decide (f ≤ 7)
/-- Elements in a block (R208). -/
def blockLen (f : Nat) : Nat := if f = 5 ∨ f = 6 then 16 else 32
/-- Bytes of a block in the element plane (R211). -/
def blockBytes (f : Nat) : Nat := if f = 1 then 16 else if f = 5 then 6 else if f = 6 then 4 else if f = 7 then 8 else 32
/-- The value of which K is a multiple (R208); 64 for INT8 activations (R253). -/
def kMultiple (f : Nat) : Nat := if f = 1 then 128 else if f = 5 then 512 else if f = 6 ∨ f = 7 then 256 else 64
/-- Has a format a scale plane (R208)? -/
def hasPlane (f : Nat) : Bool := f == 1 || f == 2 || f == 5 || f == 6
/-- Is a format an FP8 one? -/
def isFp8 (f : Nat) : Bool := f == 3 || f == 4
/-- Bytes of the element plane of an N × K tensor; INT8 activations take a byte each (R210, R253). -/
def planeBytes (f n k : Nat) : Nat := if f = 15 then n * k else n * (k / blockLen f) * blockBytes f

/-! ### Operand ranges -/

/-- An operand range (R233). A range that is `soft` never faults its job (R223). -/
structure Rng where
  ref : Opref
  len : Nat
  write : Bool
  align : Nat
  soft : Bool
  deriving DecidableEq, Repr

def rdR (v len : Nat) (align : Nat := 1) : Rng := ⟨oprefOf v, len, false, align, false⟩
def wrR (v len : Nat) (align : Nat := 1) : Rng := ⟨oprefOf v, len, true, align, false⟩

/-- What an operator's fields derive: reserved fields that are set, its ranges, the elements of a gather or scatter, broken limits,
activation bytes, and the units into which a share's work is divided (R196, R239). -/
structure Shape where
  rsv : Bool
  ranges : List Rng
  elems : List (Opref × Nat)
  bad : Bool
  badAlign : Bool
  act : Nat
  units : Nat

/-- The length of an operator's argument block (R236, R241, R242, R253). -/
def argLen (d : Desc) : Nat :=
  let op := d.opcode
  if op = 0x33 then 8 * min 16 (max 1 (bitsOf d.p4 4 0))
  else if op = 0x34 ∨ op = 0x35 then 16 * min 16 (max 1 (bitsOf d.p3 4 0))
  else if op = 0x38 ∨ op = 0x3A ∨ op = 0x3B then 64
  else if op = 0x3D ∧ bitOf d.p5 52 then 64
  else 0

/-- Bits of a word outside the fields that an operator gives it. -/
def outside (w mask : Nat) : Bool := (w &&& mask) != w

/-- Is a length not a multiple of 64 from 64 to 2^40 (R240)? -/
def badLen (n : Nat) : Bool := n % 64 != 0 || decide (n < 64) || decide (2 ^ 40 < n)

/-- The units of 64 KiB of a range (R239). -/
def units64k (n : Nat) : Nat := (n + 65535) / 65536

/-- The bytes of a KV page (R248). -/
def kvPage (fmt dim : Nat) : Nat := if fmt = 2 then 132 * dim else 128 * dim
/-- D of a DCODE (R249). -/
def kvDim (code : Nat) : Nat := 64 * 2 ^ code

/-- An FP32 word is not finite. -/
def f32Bad (b : Nat) : Bool := f32Nan b || f32Inf b

/-- OP_GEMV (R246, R247, R217). -/
def shapeGemv (d : Desc) (a : Nat) : Shape :=
  let n := bitsOf d.p3 23 0
  let k := bitsOf d.p3 47 24
  let b := bitsOf d.p3 55 48 + 1
  let f := bitsOf d.p4 3 0
  let af := bitsOf d.p4 5 4
  let rep := bitOf d.p4 8
  let outl := bitOf d.p4 9
  let rf := bitOf d.p4 10
  let asc := bitOf d.p4 11
  let ts := bitsOf d.p4 63 32
  let int := bitOf d.p0 2
  let scales := argF a 8 8
  { rsv := outside d.p3 (maskOf 55 0) || outside d.p4 (maskOf 6 0 ||| maskOf 11 8 ||| maskOf 63 32) || argF a 52 4 != 0 ||
      (!isFp8 f && ts != 0) || (!rep && d.p5 != 0) || (!asc && argF a 24 8 != 0) ||
      (!outl && (argF a 32 8 != 0 || argF a 40 8 != 0 || argF a 48 4 != 0)) || (!rf && argF a 56 8 != 0),
    ranges := [rdR (argF a 0 8) (planeBytes f n k) 64, rdR (argF a 16 8) (b * k), wrR d.p2 (b * n * 4)] ++
      (if hasPlane f then [rdR scales (n * (k / blockLen f)) 64] else []) ++
      (if asc then [rdR (argF a 24 8) (b * 4)] else []) ++
      (if outl then [rdR (argF a 32 8) ((n + 1) * 4), rdR (argF a 40 8) (argF a 48 4 * 4)] else []) ++
      (if rf then [{ rdR (argF a 56 8) (n * k * (if bitOf d.p4 6 then 4 else 2)) 64 with soft := true }] else []) ++
      (if rep then [wrR d.p5 32] else []),
    elems := [],
    bad := n == 0 || decide (k < 64) || decide (262144 < k) || !fmtOk f || k % kMultiple f != 0 || af == 3 ||
      (isFp8 f && (f32Bad ts || f32Neg ts)) || (int && (af != 0 || outl || !(f == 2 || f == 5 || f == 6 || f == 7))) ||
      hasPlane f != (scales != 0),
    badAlign := false, act := b * k, units := (n + 127) / 128 }

/-- OP_ATTEND (R248, R249). -/
def shapeAttend (d : Desc) (a : Nat) : Shape :=
  let l := bitsOf d.p3 23 0
  let start := bitsOf d.p3 47 24
  let f := bitsOf d.p4 3 0
  let dim := kvDim (bitsOf d.p4 7 6)
  let hkv := bitsOf d.p4 11 8 + 1
  let hq := hkv * (bitsOf d.p4 15 12 + 1)
  let qs := bitOf d.p4 16
  let np := argF a 36 4
  let stride := argF a 32 4
  { rsv := outside d.p3 (maskOf 47 0) || outside d.p4 (maskOf 16 0 ||| maskOf 63 32) || d.p5 != 0 || argF a 40 24 != 0 ||
      (!qs && argF a 8 8 != 0),
    ranges := [rdR (argF a 0 8) (hq * dim), wrR d.p2 (hq * dim * 4), rdR (argF a 16 8) (kvPage f dim), rdR (argF a 24 8) (hkv * np * 4)] ++
      (if qs then [rdR (argF a 8 8) (hq * 4)] else []),
    elems := [],
    bad := l == 0 || decide (l ≤ start) || !(f == 2 || f == 3 || f == 4) || bitsOf d.p4 5 4 == 3 || bitsOf d.p4 7 6 == 3 ||
      decide (16384 < hq * dim) || f32Bad (bitsOf d.p4 63 32) || f32Neg (bitsOf d.p4 63 32) || f32Zero (bitsOf d.p4 63 32) ||
      decide (np < (l + 63) / 64) || stride % 64 != 0 || decide (stride < kvPage f dim),
    badAlign := false, act := hq * dim, units := hkv * ((l + 63) / 64 - start / 64) }

/-- OP_KV_APPEND (R252). -/
def shapeAppend (d : Desc) (a : Nat) : Shape :=
  let pos := bitsOf d.p2 23 0
  let t := bitsOf d.p2 29 24 + 1
  let f := bitsOf d.p2 35 32
  let dim := kvDim (bitsOf d.p2 37 36)
  let hkv := bitsOf d.p2 43 40 + 1
  let np := argF a 36 4
  let stride := argF a 32 4
  { rsv := outside d.p2 (maskOf 29 0 ||| maskOf 37 32 ||| maskOf 43 40) || d.p3 != 0 || d.p4 != 0 || d.p5 != 0 || argF a 40 24 != 0,
    ranges := [rdR (argF a 0 8) (t * hkv * dim * 4), rdR (argF a 8 8) (t * hkv * dim * 4), wrR (argF a 16 8) (kvPage f dim),
      rdR (argF a 24 8) (hkv * np * 4)],
    elems := [],
    bad := !(f == 2 || f == 3 || f == 4) || bitsOf d.p2 37 36 == 3 || decide (np < (pos + t + 63) / 64) || stride % 64 != 0 ||
      decide (stride < kvPage f dim),
    badAlign := false, act := 0, units := hkv }

/-- OP_QUANT and OP_DEQUANT (R253). -/
def shapeQuant (d : Desc) (a : Nat) : Shape :=
  let n := bitsOf d.p5 23 0
  let k := bitsOf d.p5 47 24
  let f := bitsOf d.p5 51 48
  let q := d.opcode == 0x3C
  let flag := bitOf d.p5 52
  let sc := if q then d.p4 else d.p3
  let needs := hasPlane f || f == 15
  let scLen := if f = 15 then n * 4 else n * (k / blockLen f)
  { rsv := outside d.p5 (maskOf 52 0) || (!q && flag && argF a 20 44 != 0),
    ranges := (if q then [rdR d.p2 (n * k * (if flag then 2 else 4)), wrR d.p3 (planeBytes f n k) 64] ++
        (if needs then [wrR d.p4 scLen (if f = 15 then 1 else 64)] else [])
      else [rdR d.p2 (planeBytes f n k) 64, wrR d.p4 (n * k * 4)] ++ (if needs then [rdR d.p3 scLen 64] else []) ++
        (if flag then [rdR (argF a 0 8) ((n + 1) * 4), rdR (argF a 8 8) (argF a 16 4 * 4)] else [])),
    elems := [],
    bad := n == 0 || k == 0 || !(fmtOk f || (q && f == 15)) || k % kMultiple f != 0 || needs != (sc != 0),
    badAlign := false, act := 0, units := (n + 127) / 128 }

/-- The shape of a descriptor with its argument block (R232 to R253). -/
def shapeOf (d : Desc) (a : Nat) : Shape :=
  let op := d.opcode
  if op = 0x30 then
    let n := bitsOf d.p3 39 0
    ⟨outside d.p3 (maskOf 39 0) || d.p5 != 0, [wrR d.p2 n 64], [], badLen n, false, 0, units64k n⟩
  else if op = 0x31 then
    let n := bitsOf d.p4 39 0
    ⟨outside d.p4 (maskOf 39 0) || d.p5 != 0, [rdR d.p2 n 64, wrR d.p3 n 64], [], badLen n, false, 0, units64k n⟩
  else if op = 0x32 then
    let n := bitsOf d.p4 39 0
    ⟨outside d.p4 (maskOf 40 0) || d.p5 != 0, rdR d.p2 n 64 :: (if bitOf d.p4 40 then [] else [rdR d.p3 n 64]), [], badLen n, false, 0, units64k n⟩
  else if op = 0x33 then
    let ty := bitsOf d.p4 9 8
    let nsrc := bitsOf d.p4 4 0
    let n := bitsOf d.p3 39 0 * (if ty = 1 then 2 else 4)
    ⟨outside d.p3 (maskOf 39 0) || outside d.p4 (maskOf 4 0 ||| maskOf 9 8 ||| maskOf 13 12) || d.p5 != 0,
     wrR d.p2 n 64 :: (List.range (min nsrc 16)).map (fun i => rdR (argF a (8 * i) 8) n 64), [],
     badLen n || decide (nsrc < 2) || decide (16 < nsrc) || ty == 3 || bitsOf d.p4 13 12 == 3, false, 0, units64k n⟩
  else if op = 0x34 ∨ op = 0x35 then
    let n := bitsOf d.p3 4 0
    let es := (List.range (min n 16)).map fun i => (oprefOf (argF a (16 * i) 8), argF a (16 * i + 8) 4)
    let total := es.foldl (fun t e => t + e.2) 0
    ⟨outside d.p3 (maskOf 4 0) || d.p4 != 0 || d.p5 != 0 || (List.range (min n 16)).any (fun i => argF a (16 * i + 12) 4 != 0),
     [if op = 0x34 then wrR d.p2 total 4 else rdR d.p2 total 4], es,
     n == 0 || decide (16 < n) || es.any (fun e => decide (e.2 < 4) || decide (2 ^ 24 < e.2) || e.2 % 4 != 0 || e.1.offset % 4 != 0),
     false, 0, n⟩
  else if op = 0x36 then
    let n := bitsOf d.p4 39 0
    ⟨outside d.p4 (maskOf 40 0) || outside d.p5 (maskOf 20 0), [if bitOf d.p4 40 then rdR d.p2 n 64 else wrR d.p2 n 64], [],
     badLen n, d.p3 % 64 != 0, 0, 0⟩
  else if op = 0x38 then shapeGemv d a
  else if op = 0x3A then shapeAttend d a
  else if op = 0x3B then shapeAppend d a
  else if op = 0x3C ∨ op = 0x3D then shapeQuant d a
  else ⟨outside d.p2 (maskOf 47 0) || d.p3 != 0 || d.p4 != 0 || d.p5 != 0, [], [], false, false, 0, 0⟩

/-! ### The checks of R237 -/

/-- Check 1: reserved fields, `OPCTL` (R234), an argument reference where there is no block, and OP_HOST_COPY on an accelerator ring. -/
def badControls (c : Cmd) (rsv : Bool) : Bool :=
  let d := c.d
  let plain := d.opcode == 0x36 || d.opcode == 0x3F
  rsv || d.rsv || d.buf != 0 || (argLen d == 0 && d.p1 != 0) || (plain && d.p0 != 0) || (d.opcode == 0x36 && isAccRing c.ring) ||
    outside d.p0 (maskOf 2 0 ||| maskOf 6 4 ||| maskOf 10 8 ||| maskOf 19 12) || (d.opcode != 0x38 && bitOf d.p0 2) ||
    bitsOf d.p0 6 4 == 7 || bitsOf d.p0 10 8 == 7

/-- The window of an OPREF where it is a memory window of a District. -/
def State.opWindow (s : State) (d : Nat) (o : Opref) : Option Window :=
  (s.maps.windows.get o.window).filter fun w => w.kind == 0 && w.district == d

/-- Check 3 for a range. -/
def State.rngWindow (s : State) (d : Nat) (r : Rng) : Bool :=
  match s.opWindow d r.ref with
  | some w => if r.write then w.w else w.r
  | none => false

/-- Check 4 for a range. -/
def State.rngInside (s : State) (d : Nat) (r : Rng) : Bool :=
  match s.opWindow d r.ref with
  | some w => (w.base + r.ref.offset) % r.align == 0 && decide (r.ref.offset + r.len ≤ w.span)
  | none => true

/-- Do two ranges share a byte, by District address (R233)? -/
def overlap (a b : Nat × Nat) : Bool := decide (a.1 < b.1 + b.2) && decide (b.1 < a.1 + a.2) && decide (0 < a.2) && decide (0 < b.2)

/-- Does any range of a list overlap a later one? -/
def selfOverlap : List (Nat × Nat) → Bool
  | [] => false
  | a :: t => t.any (overlap a) || selfOverlap t

/-- A range as District address and length. -/
def State.daRange (s : State) (o : Opref) (len : Nat) : Nat × Nat := (s.daOf o, len)

/-- The output ranges, and the input ranges, by District address; elements whose window is not the District's are left out (R242). -/
def State.outRanges (s : State) (d op : Nat) (x : Shape) : List (Nat × Nat) :=
  ((x.ranges.filter (·.write)).map fun r => s.daRange r.ref r.len) ++
    (if op = 0x35 then (x.elems.filter fun e => (s.opWindow d e.1).isSome).map fun e => s.daRange e.1 e.2 else [])
def State.inRanges (s : State) (d op : Nat) (x : Shape) : List (Nat × Nat) :=
  ((x.ranges.filter fun r => !r.write).map fun r => s.daRange r.ref r.len) ++
    (if op = 0x34 then (x.elems.filter fun e => (s.opWindow d e.1).isSome).map fun e => s.daRange e.1 e.2 else [])

/-- The 4 KiB pages of a list of ranges, each counted once (R198). -/
def pagesOf (rs : List (Nat × Nat)) : Nat :=
  ((rs.map fun r => if r.2 = 0 then [] else (List.range ((r.1 + r.2 - 1) / 4096 - r.1 / 4096 + 1)).map fun i => r.1 / 4096 + i).flatten.eraseDups).length

/-- The staging pages that a job's output needs; OP_KV_APPEND needs one for each KV page that its positions touch (R198, R252). -/
def State.stagingOf (s : State) (d : Desc) (x : Shape) : Nat :=
  if d.opcode = 0x36 ∨ d.opcode = 0x3F then 0
  else if d.opcode = 0x3B then
    let pos := bitsOf d.p2 23 0
    (bitsOf d.p2 43 40 + 1) * ((pos + bitsOf d.p2 29 24) / 64 - pos / 64 + 1)
  else pagesOf (s.outRanges d.district d.opcode x)

/-- The activation granules of a job (R193). (DESIGN CHOICE, log entry 44.) -/
def Shape.granules (x : Shape) : Nat := (x.act + 65535) / 65536

/-- The sealed-model conditions of R458 for a range: the binding of its window. -/
def State.bindingOf (s : State) (o : Opref) : Option Binding := s.sec.bindings.get o.window

/-- An OP_GEMV operand in a bound window leaves the image (R458). -/
def State.offImage (s : State) (r : Rng) : Bool :=
  match s.bindingOf r.ref with
  | some b => decide (r.ref.offset < b.image) || decide (b.image + b.length < r.ref.offset + r.len)
  | none => false

/-- The operands of an OP_GEMV other than `ACT`, `ASCALE` and outputs: those that R458 names. -/
def gemvSealed (d : Desc) (a : Nat) (x : Shape) : List Rng :=
  x.ranges.filter fun r => !r.write && r.ref != oprefOf (argF a 16 8) && !(bitOf d.p4 11 && r.ref == oprefOf (argF a 24 8))

/-- The first failing check of R237 with its status and number. `arg` is the argument block where it could be read. -/
def State.opChecks (s : State) (c : Cmd) (arg : Option Nat) : Option Stop :=
  let d := c.d
  let x := shapeOf d (arg.getD 0)
  let dist := d.district
  let outs := s.outRanges dist d.opcode x
  let ins := s.inRanges dist d.opcode x
  let gemv := d.opcode == 0x38
  firstOf [
    chk (badControls c x.rsv) Cs.refusedParam 1,
    chk arg.isNone Cs.refusedParam 2,
    chk (x.ranges.any (fun r => !s.rngWindow dist r) ||
      ((d.opcode == 0x3C || d.opcode == 0x3D) && x.ranges.any fun r => (s.bindingOf r.ref).isSome)) Cs.refusedParam 3,
    chk (x.badAlign || x.ranges.any (fun r => !s.rngInside dist r) ||
      (gemv && (gemvSealed d (arg.getD 0) x).any s.offImage)) Cs.refusedParam 4,
    chk (x.bad || (gemv && (s.bindingOf (oprefOf (argF (arg.getD 0) 16 8))).isSome)) Cs.refusedParam 5,
    chk (d.opcode != 0x32 && d.opcode != 0x36 && (outs.any (fun o => ins.any (overlap o)) || selfOverlap outs)) Cs.refusedParam 6,
    chk (decide (128 < x.granules)) Cs.refusedParam 7,
    chk (decide (((s.district dist).map (·.staging)).getD 0 < s.stagingOf d x)) Cs.refusedResource 8]

end Sys2Proof.Machine
end

