-- ==== Sys2Proof/Machine/Narrow.lean ====
section
/-! DEFINITION. Narrow arithmetic: decoding and checking blocks (R208 to R213, R218 to R222), products (R214 to R217, R246), shadow
sampling (R223, R224), the numeric summary (R226, R228) and conversion (R229). -/

namespace Sys2Proof.Machine

open Sys2Proof

/-- What a computation reads: bytes by window and offset, bytes of which a read may have failed, and the share that homes a byte. -/
structure Reader where
  byte : Nat → Nat → Nat
  soft : Nat → Nat → Option Nat
  home : Nat → Nat → Nat

/-- Byte i of an operand. -/
def Reader.at (x : Reader) (o : Opref) (i : Nat) : Nat := x.byte o.window (o.offset + i)

/-- n bytes of an operand from byte i, little-endian. -/
def Reader.le (x : Reader) (o : Opref) (i : Nat) : Nat → Nat
  | 0 => 0
  | n + 1 => x.at o i + 256 * x.le o (i + 1) n

/-- n bytes of an operand, any of which may be missing. -/
def Reader.softLe (x : Reader) (o : Opref) (i : Nat) : Nat → Option Nat
  | 0 => some 0
  | n + 1 => match x.soft o.window (o.offset + i), x.softLe o (i + 1) n with
    | some b, some v => some (b + 256 * v)
    | _, _ => none

/-- The share that homes byte i of an operand. -/
def Reader.homeOf (x : Reader) (o : Opref) (i : Nat) : Nat := x.home o.window (o.offset + i)

/-- What a computation counts, each with the share in which it happened. -/
inductive Tick where
  | sat | poison | sample | cksum
  deriving DecidableEq, Repr

/-- The lower of two reasons of R226, 0 being none. -/
def lowReason (a b : Nat) : Nat := if a = 0 then b else if b = 0 then a else min a b

/-- A poisoned output (R222). -/
def poisonWord (reason : Nat) : Nat := 0x7FDEAD00 + reason

/-! ### Blocks -/

/-- A weight block as the dequantise unit passes it on: 0 or the reason that poisons it, its elements as the array holds them, its factor
of R215, and its outliers. -/
structure Blk where
  reason : Nat
  elems : List Dy
  w : Dy
  outl : List (Nat × Dy)

/-- The check of an E8M0 scale (R221). -/
def e8Check (emin emax : Int) (b : Nat) : Nat :=
  if b = 255 then 2 else if (b : Int) - 127 < emin ∨ emax < (b : Int) - 127 then 3 else 0

/-- The check of an E4M3 scale (R221). -/
def e4Check (emin emax : Int) (b : Nat) : Nat :=
  match e4m3 b with
  | .val v => if 128 < b then 3 else if v.m ≠ 0 ∧ (v.log2 < emin ∨ emax < v.log2) then 3 else 0
  | _ => 2

/-- Trit i of a TERN-B32 block (R211). -/
def tritOf (v : Nat) (i : Nat) : Int :=
  if i < 30 then ((v / 256 ^ (i / 5) % 256 / 3 ^ (i % 5) % 3 : Nat) : Int) - 1
  else ((v / 256 ^ 6 % 256 / 3 ^ (i - 30) % 3 : Nat) : Int) - 1

/-- Element i of a block whose element bytes have a value, as its code stands (R209, R211). MXFP4 elements are given doubled. -/
def elemOf (f v i : Nat) : Elem :=
  if f = 1 then .val (.ofInt (fp4Twice (v / 16 ^ i % 16)))
  else if f = 2 then .val (.ofInt (signedOf 8 (v / 256 ^ i % 256)))
  else if f = 3 then e4m3 (v / 256 ^ i % 256)
  else if f = 4 then e5m2 (v / 256 ^ i % 256)
  else if f = 5 then .val (.ofInt (signedOf 3 (v / 8 ^ i % 8)))
  else if f = 6 then .val (.ofInt (signedOf 2 (v / 4 ^ i % 4)))
  else .val (.ofInt (tritOf v i))

/-- Are a block's element encodings valid (R212)? -/
def specialCheck (f v : Nat) : Nat :=
  if f = 7 then
    (if (List.range 6).any (fun m => decide (242 < v / 256 ^ m % 256)) || decide (8 < v / 256 ^ 6 % 256) then 4 else 0)
  else if isFp8 f then (if (List.range 32).any fun i => (elemOf f v i).special then 4 else 0)
  else 0

/-- The check of a block's scale (R221). -/
def scaleCheck (emin emax : Int) (f v scale : Nat) : Nat :=
  if f = 1 ∨ f = 2 then e8Check emin emax scale
  else if f = 5 ∨ f = 6 then e4Check emin emax scale
  else if f = 7 then e4Check emin emax (v / 256 ^ 7 % 256)
  else 0

/-- The weight factor (R215). (DEDUCED, log entry 45.) -/
def factorOf (f v scale : Nat) : Dy :=
  if f = 1 then ⟨1, (scale : Int) - 128⟩
  else if f = 2 then ⟨1, (scale : Int) - 133⟩
  else if f = 5 ∨ f = 6 then (e4m3 scale).dy
  else if f = 7 then (e4m3 (v / 256 ^ 7 % 256)).dy
  else ⟨1, 0⟩

/-- A block from its bytes, its scale and the outliers of the block; `fp4` says that the array holds MXFP4 elements as FP4 values (R214).
(DEDUCED, log entry 45.) -/
def blockOf (emin emax : Int) (f v scale bad : Nat) (fp4 : Bool) (outl : List (Nat × Dy)) : Blk :=
  { reason := lowReason (scaleCheck emin emax f v scale) (lowReason (specialCheck f v) bad),
    elems := (List.range (blockLen f)).map fun i =>
      if outl.any fun o => o.1 == i then ⟨0, 0⟩
      else if fp4 && f == 1 then (elemOf f v i).dy.mul ⟨1, -1⟩ else (elemOf f v i).dy,
    w := factorOf f v scale, outl := outl }

/-! ### Outlier tables -/

/-- An entry of an outlier table (R218): block, element, value code, reserved bits. -/
structure Outl where
  block : Nat
  elem : Nat
  value : Nat
  rsv : Bool
  deriving DecidableEq, Repr

def outlOf (v : Nat) : Outl := ⟨bitsOf v 15 0, bitsOf v 20 16, bitsOf v 31 24, bitsOf v 23 21 != 0⟩

/-- Are entries in ascending (BLOCK, ELEM) order? -/
def outlSorted : List Outl → Bool
  | a :: b :: t => decide (a.block * 32 + a.elem < b.block * 32 + b.elem) && outlSorted (b :: t)
  | _ => true

/-- An outlier table of N rows in operands, or none. -/
structure OutlTab where
  idx : Opref
  ent : Opref
  count : Nat

/-- The entries of a row; `none` when an index entry affects the row (R220). -/
def Reader.outlRow (x : Reader) (tab : OutlTab) (r : Nat) : Option (List Outl) :=
  let lo := x.le tab.idx (4 * r) 4
  let hi := x.le tab.idx (4 * r + 4) 4
  if hi < lo ∨ tab.count < hi then none
  else some ((List.range (hi - lo)).map fun i => outlOf (x.le tab.ent (4 * (lo + i)) 4))

/-- The reason that a row's entries give block j (R220). -/
def outlReason (f bpr : Nat) (es : Option (List Outl)) (j : Nat) : Nat :=
  match es with
  | none => 6
  | some es =>
    if !outlSorted es || es.any (fun o => decide (blockLen f ≤ o.elem) || decide (bpr ≤ o.block) || (e4m3 o.value).special || o.rsv) ||
        decide (2 < (es.filter fun o => o.block == j).length) then 6 else 0

/-- The outliers of block j, in ascending ELEM order (R219). -/
def outlOfBlock (es : Option (List Outl)) (j : Nat) : List (Nat × Dy) :=
  ((es.getD []).filter fun o => o.block == j).map fun o => (o.elem, (e4m3 o.value).dy)

/-- Block j of row r of a tensor in an element plane and a scale plane (R210). -/
def Reader.block (x : Reader) (emin emax : Int) (f bpr : Nat) (plane scales : Opref) (tab : Option OutlTab) (fp4 : Bool) (r j : Nat) : Blk :=
  let es := tab.map fun t => x.outlRow t r
  let bad := match es with | some e => outlReason f bpr e j | none => 0
  let v := x.le plane ((r * bpr + j) * blockBytes f) (blockBytes f)
  let scale := if hasPlane f then x.at scales (r * bpr + j) else 0
  blockOf emin emax f v scale bad fp4 (if bad = 0 then (match es with | some e => outlOfBlock e j | none => []) else [])

/-! ### Products -/

/-- Pairwise FP32 sums of neighbours. -/
def treeLevel : List Nat → List Nat
  | a :: b :: t => (f32Add a b).1 :: treeLevel t
  | l => l

/-- A balanced binary tree of FP32 additions over a block of 16 or 32 products (R214). -/
def treeSum (l : List Nat) : Nat := (((List.range 5).foldl (fun l _ => treeLevel l) l).head?).getD 0

/-- The block sum (R214): exact for integers, else an FP32 tree. -/
def blockSum (int : Bool) (a e : List Dy) : Dy :=
  let ps := List.zipWith Dy.mul a e
  if int then ps.foldl Dy.add ⟨0, 0⟩ else f32Val (treeSum (ps.map fun p => (roundF32 p).1))

/-- An FP32 value in the making, with the saturations met. -/
abbrev Acc := Nat × Nat

def Acc.put (a : Acc) (x : Nat × Bool) : Acc := (x.1, a.2 + (if x.2 then 1 else 0))
def Acc.add (a : Acc) (y : Nat) : Acc := a.put (f32Add a.1 y)
def Acc.mul (a : Acc) (y : Nat) : Acc := a.put (f32Mul a.1 y)

/-- A block's contribution for a token: scaled, and its outliers added (R215, R219). -/
def contribution (int : Bool) (a : List Dy) (b : Blk) : Acc :=
  let c : Acc := (0, 0)
  let c := c.put (roundF32 ((blockSum int a b.elems).mul b.w))
  b.outl.foldl (fun c o => c.add (roundF32 ((a.getD o.1 ⟨0, 0⟩).mul o.2)).1) c

/-- An INT32 addition that saturates, counted (R217). -/
def satAdd (a : Int × Nat) (y : Int) : Int × Nat :=
  let v := a.1 + y
  if 2 ^ 31 - 1 < v then (2 ^ 31 - 1, a.2 + 1) else if v < -(2 ^ 31) then (-(2 ^ 31), a.2 + 1) else (v, a.2)

/-- The word of an INT32. -/
def intWord (v : Int) : Nat := (v % 2 ^ 32).toNat

/-- An activation element (R213). -/
def actElem (af b : Nat) : Elem :=
  if af = 0 then .val (.ofInt (signedOf 8 b)) else if af = 1 then e4m3 b else e5m2 b

/-- Is a token scale refused (R213)? -/
def sigmaBad (s : Nat) : Bool := f32Bad s || (f32Neg s && !f32Zero s)

/-! ### OP_GEMV -/

/-- The operands of an OP_GEMV (R246), with `SE_NUM_CFG`, `SE_NUM_BOUND` and `SE_NUM_SEED` as latched. -/
structure Gemv where
  x : Reader
  n : Nat
  k : Nat
  b : Nat
  f : Nat
  af : Nat
  int : Bool
  ts : Nat
  weights : Opref
  scales : Opref
  act : Opref
  asc : Option Opref
  tab : Option OutlTab
  ref : Option Opref
  rf32 : Bool
  out : Opref
  cfg : Nat
  bound : Nat
  seed : Nat

def scaleMin (cfg : Nat) : Int := signedOf 8 (bitsOf cfg 15 8)
def scaleMax (cfg : Nat) : Int := signedOf 8 (bitsOf cfg 23 16)

/-- Is a block sampled (R223)? -/
def sampled (cfg seed g : Nat) : Bool :=
  let n := bitsOf cfg 4 0
  let h := ((g ^^^ seed) % 2 ^ 32 * 0x9E3779B1) % 2 ^ 32
  let h := h ^^^ (h / 2 ^ 16)
  n != 31 && (n == 0 || h / 2 ^ (32 - n) == 0)

def Gemv.bpr (z : Gemv) : Nat := z.k / blockLen z.f
def Gemv.g (z : Gemv) (r j : Nat) : Nat := (r * z.bpr + j) % 2 ^ 32
def Gemv.sigma (z : Gemv) (t : Nat) : Nat := match z.asc with | some o => z.x.le o (4 * t) 4 | none => 0x3F800000
def Gemv.actAt (z : Gemv) (t c : Nat) : Elem := actElem z.af (z.x.at z.act (t * z.k + c))
/-- Is a token poisoned (R213)? -/
def Gemv.tokBad (z : Gemv) (t : Nat) : Bool := sigmaBad (z.sigma t) || (List.range z.k).any fun c => (z.actAt t c).special
/-- The activations of a token for block j. -/
def Gemv.acts (z : Gemv) (t j : Nat) : List Dy :=
  (List.range (blockLen z.f)).map fun i => (z.actAt t (j * blockLen z.f + i)).dy
/-- Is the block sum formed in integers (R214)? -/
def Gemv.isInt (z : Gemv) : Bool := z.af == 0 && !isFp8 z.f
def Gemv.block (z : Gemv) (r j : Nat) : Blk :=
  z.x.block (scaleMin z.cfg) (scaleMax z.cfg) z.f z.bpr z.weights z.scales z.tab (z.af != 0) r j
/-- The share that processes a block: the home of the line that holds its first byte (R210). -/
def Gemv.homeOf (z : Gemv) (r j : Nat) : Nat := z.x.homeOf z.weights ((r * z.bpr + j) * blockBytes z.f)

/-- What a row gives: an output word for each token, what was counted, its lowest reason, outliers applied, samples (g, e), samples
skipped. -/
structure RowOut where
  outs : List Nat
  ticks : List (Nat × Tick)
  reason : Nat
  outl : Nat
  samples : List (Nat × Nat)
  skipped : Nat

/-- The partial of share n for a row and a token, from the row's blocks as (block, share, contents) (R196, R216). -/
def Gemv.partialF (z : Gemv) (bs : List (Nat × Nat × Blk)) (t n : Nat) : Acc :=
  (bs.filter fun (q : Nat × Nat × Blk) => q.2.1 == n).foldl (fun (a : Acc) (q : Nat × Nat × Blk) =>
    let c := contribution z.isInt (z.acts t q.1) q.2.2
    Acc.add (a.1, a.2 + c.2) c.1) (0, 0)

/-- The unscaled integer partial (R217). -/
def Gemv.partialI (z : Gemv) (bs : List (Nat × Nat × Blk)) (t n : Nat) : Int × Nat :=
  (bs.filter fun (q : Nat × Nat × Blk) => q.2.1 == n).foldl
    (fun (a : Int × Nat) (q : Nat × Nat × Blk) => satAdd a (blockSum true (z.acts t q.1) q.2.2.elems).nearest) (0, 0)

/-- Saturations as ticks. -/
def satTicks (n share : Nat) : List (Nat × Tick) := List.replicate n (share, .sat)

/-- The output of row r and token t from the row's blocks, with the saturations by share (R197, R216, R217). -/
def Gemv.output (z : Gemv) (bs : List (Nat × Nat × Blk)) (r t : Nat) : Nat × List (Nat × Tick) :=
  let oh := z.x.homeOf z.out ((t * z.n + r) * 4)
  if z.int then
    let ps := (List.range 8).map (z.partialI bs t)
    let o := (ps.drop 1).foldl (fun (a : Int × Nat) (p : Int × Nat) => satAdd a p.1) ((ps.getD 0 (0, 0)).1, 0)
    (intWord o.1, (ps.zipIdx.map fun (p : (Int × Nat) × Nat) => satTicks p.1.2 p.2).flatten ++ satTicks o.2 oh)
  else
    let ps := (List.range 8).map (z.partialF bs t)
    let o : Acc := (ps.drop 1).foldl (fun (a : Acc) (p : Acc) => a.add p.1) ((ps.getD 0 (0, 0)).1, 0)
    let o := o.mul (z.sigma t)
    let o := if isFp8 z.f then o.mul z.ts else o
    (o.1, (ps.zipIdx.map fun (p : Acc × Nat) => satTicks p.1.2 p.2).flatten ++ satTicks o.2 oh)

/-- The reference elements of a block as FP32 words; `none` when one is missing, NaN or infinite (R223). -/
def Gemv.refs (z : Gemv) (o : Opref) (r j : Nat) : Option (List Nat) :=
  let n := if z.rf32 then 4 else 2
  (List.range (blockLen z.f)).mapM fun i =>
    match z.x.softLe o ((r * z.k + j * blockLen z.f + i) * n) n with
    | some v => let v := if z.rf32 then v else v * 2 ^ 16
                if f32Bad v then none else some v
    | none => none

/-- The error of one token in a sample (R224). (DEDUCED, log entry 45.) -/
def Gemv.errOf (z : Gemv) (b : Blk) (refs : List Nat) (t j : Nat) : Nat :=
  let a := z.acts t j
  let q := (contribution z.isInt a b).1
  let ps := List.zipWith (fun (x : Dy) (w : Nat) => (roundF32 (x.mul (f32Val w))).1) a refs
  let rho := ps.foldl (fun s p => (f32Add s p).1) 0
  let mu := ps.foldl (fun s p => (f32Add s (p % 2 ^ 31)).1) 0
  (f32Div ((f32Add q (rho ^^^ 2 ^ 31)).1 % 2 ^ 31) (f32Add mu 0x35800000).1).1

/-- Row r (R216 to R224). -/
def Gemv.row (z : Gemv) (toks : List Bool) (r : Nat) : RowOut :=
  let bs : List (Nat × Nat × Blk) := (List.range z.bpr).map fun j => (j, z.homeOf r j, z.block r j)
  let bad := bs.foldl (fun a q => lowReason a q.2.2.reason) 0
  let outs : List (Nat × List (Nat × Tick)) := (List.range z.b).map fun t =>
    let why := lowReason bad (if toks.getD t false then 5 else 0)
    if why ≠ 0 then (poisonWord why, []) else z.output bs r t
  let picked : List ((Nat × Nat × Blk) × Option (List Nat)) := match z.ref with
    | some o => (bs.filter fun q => sampled z.cfg z.seed (z.g r q.1)).map fun q =>
        (q, if q.2.2.reason ≠ 0 ∨ toks.any id then none else z.refs o r q.1)
    | none => []
  { outs := outs.map (·.1),
    ticks := ((bs.filter fun q => q.2.2.reason != 0).map fun q => (q.2.1, Tick.poison)) ++ (outs.map (·.2)).flatten ++
      ((picked.filter fun p => p.2.isSome).map fun p => (p.1.2.1, Tick.sample)),
    reason := bad,
    outl := bs.foldl (fun n q => if q.2.2.reason = 0 then n + q.2.2.outl.length else n) 0,
    samples := picked.filterMap fun p => p.2.map fun refs =>
      (z.g r p.1.1, (List.range z.b).foldl (fun m t => max m (z.errOf p.1.2.2 refs t p.1.1)) 0),
    skipped := (picked.filter fun p => p.2.isNone).length }

/-- What a job makes: its output, result bytes, the lowest reason of R226, its summary (R228), and what was counted. -/
structure Made where
  segs : List (Opref × List Byte)
  result : Nat
  reason : Nat
  summary : List Byte
  ticks : List (Nat × Tick)
  /-- A gather or scatter in which an element faulted (R244). -/
  part : Bool

def Made.of (segs : List (Opref × List Byte)) (result : Nat := 0) : Made := ⟨segs, result, 0, [], [], false⟩

/-- How often something was counted. -/
def ticksOf (ts : List (Nat × Tick)) (k : Tick) : Nat := (ts.filter fun t => t.2 == k).length

/-- The reasons of saturation and of shadow sampling (R224, R226). (DEDUCED, log entry 45.) -/
def lateReason (cfg bound sats : Nat) (samples : List (Nat × Nat)) : Nat :=
  let top := samples.foldl (fun m s => max m s.2) 0
  let sum := samples.foldl (fun a s => a.add (f32Val s.2)) (Dy.ofInt 0)
  let beyond := fun (v : Dy) (b : Nat) (n : Nat) => b != 0 && Dy.lt ((Dy.ofInt (b * n)).mul ⟨1, -12⟩) v
  lowReason (if beyond (f32Val top) (bitsOf bound 31 16) 1 then 7 else 0)
    (lowReason (if 16 ≤ samples.length ∧ beyond sum (bitsOf bound 15 0) samples.length then 8 else 0)
      (if bitOf cfg 7 ∧ sats ≠ 0 then 9 else 0))

/-- The summary of R228; `withheld` is set where the commit is withheld. (DEDUCED, log entry 45.) -/
def summaryOf (ts : List (Nat × Tick)) (samples : List (Nat × Nat)) (outl skipped reason : Nat) (ref withheld : Bool) : List Byte :=
  let sum := samples.foldl (fun a s => a.add (f32Val s.2)) (Dy.ofInt 0)
  let top := samples.foldl (fun m s => max m s.2) 0
  let first := (samples.filter fun s => s.2 == top).foldl (fun m s => min m s.1) (2 ^ 32 - 1)
  leBytes 4 (samples.length % 2 ^ 32) ++
    leBytes 4 (if samples.isEmpty then 0 else (roundF32 (sum.div (Dy.ofInt samples.length) 64)).1) ++
    leBytes 4 top ++ leBytes 4 (if samples.isEmpty then 0 else first) ++ leBytes 4 (min (ticksOf ts .sat) (2 ^ 32 - 1)) ++
    leBytes 4 (ticksOf ts .poison % 2 ^ 32) ++ leBytes 4 (outl % 2 ^ 32) ++ leBytes 1 reason ++
    leBytes 1 ((if ref then 1 else 0) + (if withheld then 2 else 0)) ++ leBytes 2 (min skipped 65535)

/-- OP_GEMV (R246, R247). -/
def Gemv.run (z : Gemv) (numHold : Bool) : Made :=
  let toks := (List.range z.b).map z.tokBad
  let rows := (List.range z.n).map (z.row toks)
  let tokTicks := ((List.range z.b).filter fun t => toks.getD t false).map fun t => (z.x.homeOf z.act (t * z.k), Tick.poison)
  let ticks := tokTicks ++ (rows.map (·.ticks)).flatten
  let samples := if z.int then [] else (rows.map (·.samples)).flatten
  let ticks := if z.int then ticks.filter fun t => t.2 != .sample else ticks
  let skipped := if z.int then 0 else rows.foldl (fun n r => n + r.skipped) 0
  let bad := lowReason (rows.foldl (fun a r => lowReason a r.reason) 0) (if toks.any id then 5 else 0)
  let reason := lowReason bad (lateReason z.cfg z.bound (ticksOf ticks .sat) samples)
  let withheld := reason != 0 && numHold
  { segs := (List.range z.b).map fun t => (⟨z.out.window, z.out.offset + t * z.n * 4⟩, (rows.map fun r => leBytes 4 (r.outs.getD t 0)).flatten),
    result := 0, reason := reason,
    summary := summaryOf ticks samples (rows.foldl (fun n r => n + r.outl) 0) skipped reason z.ref.isSome withheld,
    ticks := ticks, part := false }

/-! ### Conversion (R229) -/

/-- A converted block: its scale byte, its elements as codes, the saturations, and whether it holds a NaN or an infinity. -/
structure Conv where
  scale : Nat
  codes : List Nat
  sats : Nat
  special : Bool

/-- The two's-complement code of n bits. -/
def codeOf (n : Nat) (v : Int) : Nat := (v % 2 ^ n).toNat

/-- The integer nearest to x / s, or 0 where the scale is 0. -/
def overScale (x s : Dy) : Int := if s.m = 0 then 0 else (x.div s 64).nearest

/-- An integer kept within bounds: beyond them the spec says that it cannot occur (R229). (DESIGN CHOICE, log entry 46.) -/
def within (lo hi : Int) (v : Int) : Int := if lo ≤ v ∧ v ≤ hi then v else Config.overElem v

/-- The nearest FP4 code, saturating (R229): 1 mantissa bit, unit 0.5, largest code 7. -/
def toFp4 (a : Dy) : Nat × Bool :=
  let r := roundSmall 1 (-1) 7 a
  (r.1 + (if a.m < 0 then 8 else 0), r.2)

/-- The magnitude of a quotient rounded up to an E4M3 value; free where none is large enough. (DESIGN CHOICE, log entry 46.) -/
def scaleUp (top : Nat) (n : Dy) (d : Int) : Nat :=
  if (((e4m3 0x7E).dy.mul ⟨d, 0⟩).lt n) then (Config.topScale top).toNat else upE4m3 n d

/-- The largest of some magnitudes. -/
def maxDy (l : List Dy) : Dy := l.foldl (fun m x => if m.lt x then x else m) ⟨0, 0⟩

/-- An FP8 NaN code (R209, R229): which of them, the spec leaves open. (DESIGN CHOICE, log entry 46.) -/
def nanCode (f i : Nat) : Nat :=
  (if f = 3 then 0x7F else 0x7D + (Config.nanElem i).toNat % 3) + (if Config.nanSign i then 128 else 0)

/-- Convert a block of FP32 words; `id` numbers the block for the values that the spec leaves open. -/
def convBlock (f id : Nat) (ws : List Nat) : Conv :=
  let special := ws.any f32Bad
  let xs := ws.map f32Val
  let amax := maxDy (xs.map Dy.abs)
  if isFp8 f then
    let rs := ws.zipIdx.map fun w =>
      if f32Nan w.1 then (nanCode f (id * 32 + w.2), false) else if f = 3 then toE4m3 (f32Val w.1) else toE5m2 (f32Val w.1)
    ⟨0, rs.map (·.1), (rs.filter (·.2)).length, special⟩
  else if special then
    ⟨if f = 1 ∨ f = 2 then 0xFF else 0x7F + (if Config.nanSign id then 128 else 0),
     (List.range (blockLen f)).map fun i => (Config.nanElem (id * 32 + i)).toNat, 0, true⟩
  else if f = 1 ∨ f = 2 then
    let e0 : Int := if amax.m = 0 then 0 else amax.log2 + 127 - (if f = 1 then 2 else 0)
    let e := (max 0 (min 254 e0)).toNat
    let rs := xs.map fun x =>
      let v := x.mul ⟨1, 127 - (e : Int)⟩
      if f = 1 then toFp4 v
      else
        let q := (v.mul ⟨1, 6⟩).nearest
        if 127 < q then (127, true) else if q < -128 then (128, true) else (codeOf 8 q, false)
    ⟨e, rs.map (·.1), (rs.filter (·.2)).length, false⟩
  else if f = 7 then
    let mean := (xs.map Dy.abs).foldl Dy.add ⟨0, 0⟩
    let sc := (toE4m3 (mean.mul ⟨1, -5⟩)).1
    ⟨sc, xs.map fun x => (max (-1) (min 1 (overScale x (e4m3 sc).dy)) + 1).toNat, 0, false⟩
  else
    let pos := maxDy (xs.filter fun x => decide (0 < x.m))
    let neg := maxDy ((xs.filter fun x => decide (x.m < 0)).map Dy.abs)
    let half := neg.mul ⟨1, -1⟩
    let sc := if f = 5 then scaleUp id amax 3 else scaleUp id (if pos.lt half then half else pos) 1
    let n := if f = 5 then 3 else 2
    ⟨sc, xs.map fun x => codeOf n (within (if f = 5 then -3 else -2) (if f = 5 then 3 else 1) (overScale x (e4m3 sc).dy)), 0, false⟩

/-- The element bytes of a converted block (R211). -/
def Conv.bytes (f : Nat) (c : Conv) : List Byte :=
  let pack := fun (n : Nat) => c.codes.foldr (fun x v => x % 2 ^ n + 2 ^ n * v) 0
  if f = 1 then leBytes 16 (pack 4)
  else if f = 5 then leBytes 6 (pack 3)
  else if f = 6 then leBytes 4 (pack 2)
  else if f = 7 then
    let trits := fun (i n : Nat) => ((c.codes.drop i).take n).foldr (fun x v => x + 3 * v) 0
    (List.range 6).map (fun m => BitVec.ofNat 8 (trits (5 * m) 5)) ++ [BitVec.ofNat 8 (trits 30 2), BitVec.ofNat 8 c.scale]
  else leBytes 32 (pack 8)

end Sys2Proof.Machine
end

