-- ==== Sys2Proof/Machine/OpCompute.lean ====
section
/-! DEFINITION. What each operator makes of its inputs (R240 to R253). -/

namespace Sys2Proof.Machine

open Sys2Proof

/-- What the execution of a job knows beside its descriptor: the latched numeric settings (R223), and for each element of a gather or
scatter the kind of fault in its source and in its destination (R243): 0 none, 1 access, 2 translation, 3 uncorrectable. -/
structure OpCtx where
  d : Desc
  arg : Nat
  cfg : Nat
  bound : Nat
  seed : Nat
  srcFault : Nat → Nat
  dstFault : Nat → Nat

/-- n bytes of an operand. -/
def Reader.bytes (x : Reader) (o : Opref) (i n : Nat) : List Byte := (List.range n).map fun k => BitVec.ofNat 8 (x.at o (i + k))

/-- An OPREF moved by an offset. -/
def oprefPlus (o : Opref) (n : Nat) : Opref := ⟨o.window, o.offset + n⟩

/-! ### Data movement -/

/-- OP_FILL and OP_COPY (R240). -/
def makeFill (c : OpCtx) : Made :=
  Made.of [(oprefOf c.d.p2, (List.range (bitsOf c.d.p3 39 0)).map fun i => BitVec.ofNat 8 (c.d.p4 / 256 ^ (i % 8)))]

def makeCopy (c : OpCtx) (x : Reader) : Made := Made.of [(oprefOf c.d.p3, x.bytes (oprefOf c.d.p2) 0 (bitsOf c.d.p4 39 0))]

/-- OP_COMPARE (R240). -/
def makeCompare (c : OpCtx) (x : Reader) : Made :=
  let n := bitsOf c.d.p4 39 0
  let other := fun i => if bitOf c.d.p4 40 then c.d.p3 / 256 ^ (i % 8) % 256 else x.at (oprefOf c.d.p3) i
  match (List.range n).find? fun i => x.at (oprefOf c.d.p2) i != other i with
  | some i => Made.of [] (1 + i * 256)
  | none => Made.of []

/-- Order of FP32 values with −0 below +0 (R241). -/
def f32Below (a b : Nat) : Bool :=
  (f32Val a).lt (f32Val b) || (f32Zero a && f32Zero b && f32Neg a && !f32Neg b)

/-- Round an FP32 word once to BF16, nearest even, saturating at ±0x7F7F (R241). -/
def toBf16 (w : Nat) : Nat × Bool :=
  let r := (w + 0x7FFF + w / 2 ^ 16 % 2) / 2 ^ 16
  if bitsOf r 14 7 = 255 then (bitsOf w 31 31 * 2 ^ 15 + 0x7F7F, true) else (r, false)

/-- The largest finite value for an infinity (R241). (DEDUCED, log entry 45.) -/
def clampInf (bf : Bool) (w : Nat) : Nat := if f32Inf w then w / 2 ^ 31 * 2 ^ 31 + (if bf then 0x7F7F0000 else 0x7F7FFFFF) else w

/-- One element of OP_REDUCE from its sources: the result, its saturations in FP32 and in BF16, and whether a source is NaN (R241).
(DEDUCED, log entry 45.) -/
def reduceElem (ty op : Nat) (vs : List Nat) : Nat × Nat × Nat × Bool :=
  if ty = 2 then
    let ss := vs.map (signedOf 32)
    let pick := fun (f : Int → Int → Int) => (ss.drop 1).foldl f (ss.headD 0)
    (intWord (if op = 0 then pick (· + ·) else if op = 1 then pick max else pick min), 0, 0, false)
  else
    let bf := ty == 1
    let ws := vs.map fun v => if bf then v * 2 ^ 16 else v
    if ws.any f32Nan then (if bf then 0x7FC0 else 0x7FC00000, 0, 0, true)
    else
      let ws := ws.map (clampInf bf)
      let acc : Acc := (ws.headD 0, 0)
      let acc := (ws.drop 1).foldl (fun (a : Acc) w =>
        if op = 0 then a.add w else if op = 1 then (if f32Below a.1 w then (w, a.2) else a) else (if f32Below w a.1 then (w, a.2) else a)) acc
      if bf then (let r := toBf16 acc.1; (r.1, acc.2, if r.2 then 1 else 0, false)) else (acc.1, acc.2, 0, false)

/-- OP_REDUCE (R241). (DEDUCED, log entry 45.) -/
def makeReduce (c : OpCtx) (x : Reader) : Made :=
  let ty := bitsOf c.d.p4 9 8
  let sz := if ty = 1 then 2 else 4
  let rs : List (Nat × Nat × Nat × Bool) := (List.range (bitsOf c.d.p3 39 0)).map fun i => reduceElem ty (bitsOf c.d.p4 13 12)
    ((List.range (bitsOf c.d.p4 4 0)).map fun k => x.le (oprefOf (argF c.arg (8 * k) 8)) (i * sz) sz)
  let late := rs.foldl (fun n r => n + r.2.1) 0
  let sats := late + rs.foldl (fun n r => n + r.2.2.1) 0
  let nans := (rs.filter fun r => r.2.2.2).length
  let o := oprefOf c.d.p2
  { Made.of [(o, (rs.map fun r => leBytes sz r.1).flatten)] (min sats (2 ^ 32 - 1) + min nans (2 ^ 32 - 1) * 2 ^ 32) with
      reason := lateReason c.cfg 0 late [],
      ticks := (rs.zipIdx.map fun r => satTicks (r.1.2.1 + r.1.2.2.1) (x.homeOf o (r.2 * sz))).flatten }

/-! ### Gather and scatter -/

/-- The elements of a gather or scatter with their offsets in the contiguous range (R242): number, OPREF, length, offset. -/
def elemsOf (d : Desc) (arg : Nat) : List (Nat × Opref × Nat × Nat) :=
  ((List.range (min 16 (bitsOf d.p3 4 0))).foldl (fun (a : List (Nat × Opref × Nat × Nat) × Nat) k =>
    let n := argF arg (16 * k + 8) 4
    (a.1 ++ [(k, oprefOf (argF arg (16 * k) 8), n, a.2)], a.2 + n)) ([], 0)).1

/-- n bytes of 0xDEAD_BEEF words. (DEDUCED, log entry 47.) -/
def deadBytes (n : Nat) : List Byte := (List.range n).map fun i => BitVec.ofNat 8 (0xDEADBEEF / 256 ^ (i % 4))

/-- The result bytes of R244 for the kinds of fault of the elements. -/
def faultResult (ks : List (Nat × Nat)) : Nat :=
  let bad := ks.filter fun k => k.2 != 0
  match bad.head? with
  | none => 0xFF * 2 ^ 16
  | some b => bad.foldl (fun m k => m + 2 ^ k.1) 0 + b.1 * 2 ^ 16 + b.2 * 2 ^ 24

/-- OP_GATHER (R243). -/
def makeGather (c : OpCtx) (x : Reader) : Made :=
  let es := elemsOf c.d c.arg
  let ks := es.map fun e => (e.1, c.srcFault e.1)
  { Made.of [(oprefOf c.d.p2, (es.map fun e => if c.srcFault e.1 ≠ 0 then deadBytes e.2.2.1 else x.bytes e.2.1 0 e.2.2.1).flatten)]
      (faultResult ks) with part := ks.any fun k => k.2 != 0 }

/-- OP_SCATTER (R243): an element whose source could not be read is written as 0xDEAD_BEEF; one whose destination faults is not written.
(DEDUCED, log entry 47.) -/
def makeScatter (c : OpCtx) (x : Reader) : Made :=
  let es := elemsOf c.d c.arg
  let kind := fun k => if c.dstFault k = 0 then c.srcFault k else if c.srcFault k = 0 then c.dstFault k else min (c.srcFault k) (c.dstFault k)
  let ks := es.map fun e => (e.1, kind e.1)
  { Made.of ((es.filter fun e => c.dstFault e.1 == 0).map fun e =>
      (e.2.1, if c.srcFault e.1 ≠ 0 then deadBytes e.2.2.1 else x.bytes (oprefOf c.d.p2) e.2.2.2 e.2.2.1)) (faultResult ks) with
      part := ks.any fun k => k.2 != 0 }

/-! ### OP_GEMV -/

/-- The outlier table of an operand block, where its flag is set (R246, R253). -/
def tabOf (on : Bool) (idx ent count : Nat) : Option OutlTab := if on then some ⟨oprefOf idx, oprefOf ent, count⟩ else none

/-- The operands of an OP_GEMV (R246). -/
def gemvOf (c : OpCtx) (x : Reader) : Gemv :=
  let d := c.d
  let a := c.arg
  { x := x, n := bitsOf d.p3 23 0, k := bitsOf d.p3 47 24, b := bitsOf d.p3 55 48 + 1, f := bitsOf d.p4 3 0, af := bitsOf d.p4 5 4,
    int := bitOf d.p0 2, ts := bitsOf d.p4 63 32, weights := oprefOf (argF a 0 8), scales := oprefOf (argF a 8 8),
    act := oprefOf (argF a 16 8), asc := if bitOf d.p4 11 then some (oprefOf (argF a 24 8)) else none,
    tab := tabOf (bitOf d.p4 9) (argF a 32 8) (argF a 40 8) (argF a 48 4),
    ref := if bitOf d.p4 10 then some (oprefOf (argF a 56 8)) else none, rf32 := bitOf d.p4 6, out := oprefOf d.p2,
    cfg := c.cfg, bound := c.bound, seed := c.seed }

/-! ### OP_ATTEND -/

/-- The operands of an OP_ATTEND (R249). -/
structure Attend where
  x : Reader
  len : Nat
  start : Nat
  f : Nat
  qf : Nat
  dim : Nat
  hkv : Nat
  gq : Nat
  sm : Nat
  q : Opref
  qs : Option Opref
  kv : Opref
  ptab : Opref
  stride : Nat
  np : Nat
  out : Opref
  cfg : Nat

def attendOf (c : OpCtx) (x : Reader) : Attend :=
  let d := c.d
  let a := c.arg
  { x := x, len := bitsOf d.p3 23 0, start := bitsOf d.p3 47 24, f := bitsOf d.p4 3 0, qf := bitsOf d.p4 5 4, dim := kvDim (bitsOf d.p4 7 6),
    hkv := bitsOf d.p4 11 8 + 1, gq := bitsOf d.p4 15 12 + 1, sm := bitsOf d.p4 63 32, q := oprefOf (argF a 0 8),
    qs := if bitOf d.p4 16 then some (oprefOf (argF a 8 8)) else none, kv := oprefOf (argF a 16 8), ptab := oprefOf (argF a 24 8),
    stride := argF a 32 4, np := argF a 36 4, out := oprefOf d.p2, cfg := c.cfg }

/-- Where in a KV page the elements and the scales of position p lie: K (`v` false) or V (R248). -/
def kvElems (dim : Nat) (v : Bool) (p : Nat) : Nat := (if v then 64 * dim else 0) + p % 64 * dim
def kvScales (dim : Nat) (v : Bool) (p : Nat) : Nat := (if v then 130 * dim else 128 * dim) + p % 64 * (dim / 32)

/-- The offset of the page of position p of KV head j from `KV` (R248). -/
def Attend.pageOff (z : Attend) (j p : Nat) : Nat := z.x.le z.ptab (4 * (j * z.np + p / 64)) 4 * z.stride

/-- The share that attends a position: the home of its K row (R250). (DEDUCED, log entry 47.) -/
def Attend.homeOf (z : Attend) (j p : Nat) : Nat := z.x.homeOf z.kv (z.pageOff j p + kvElems z.dim false p)

/-- Block b of the K or V row of a position. -/
def Attend.block (z : Attend) (v : Bool) (j p b : Nat) : Blk :=
  let at' := z.pageOff j p
  blockOf (scaleMin z.cfg) (scaleMax z.cfg) z.f (z.x.le z.kv (at' + kvElems z.dim v p + 32 * b) 32)
    (if z.f = 2 then z.x.at z.kv (at' + kvScales z.dim v p + b) else 0) 0 false []

def Attend.sigma (z : Attend) (h : Nat) : Nat := match z.qs with | some o => z.x.le o (4 * h) 4 | none => 0x3F800000
def Attend.query (z : Attend) (h i : Nat) : Elem := actElem z.qf (z.x.at z.q (h * z.dim + i))

/-- The score of a position for a query head (R250). -/
def Attend.score (z : Attend) (h p : Nat) : Acc :=
  let j := h / z.gq
  let s := (List.range (z.dim / 32)).foldl (fun (a : Acc) b =>
    let c := contribution (z.qf == 0 && !isFp8 z.f) ((List.range 32).map fun i => (z.query h (32 * b + i)).dy) (z.block false j p b)
    Acc.add (a.1, a.2 + c.2) c.1) (0, 0)
  (s.mul (z.sigma h)).mul z.sm

/-- The V row of a position in FP32 (R250). -/
def Attend.vRow (z : Attend) (j p : Nat) : List Nat :=
  ((List.range (z.dim / 32)).map fun b => let k := z.block true j p b; k.elems.map fun e => (roundF32 (e.mul k.w)).1).flatten

/-- The state of a unit or of a share (R250): m, l, o, with the saturations met. -/
structure Soft where
  m : Nat
  l : Nat
  o : List Nat
  sats : Nat

/-- e^(a − b) of two FP32 words, with the saturation of the difference. (DESIGN CHOICE, log entry 46.) -/
def expDiff (a b : Nat) : Acc := let d := f32Add a (b ^^^ 2 ^ 31); (Config.expF32 d.1 % 2 ^ 32, if d.2 then 1 else 0)

/-- o × α, element by element, added to another vector × β; the second part counts saturations. -/
def mixRows (o1 : List Nat) (a : Nat) (o2 : List Nat) (b : Nat) : List Nat × Nat :=
  let rs := List.zipWith (fun x y =>
    let p := f32Mul x a
    let q := f32Mul y b
    let r := f32Add p.1 q.1
    (r.1, (if p.2 then 1 else 0) + (if q.2 then 1 else 0) + (if r.2 then 1 else 0))) o1 o2
  (rs.map (·.1), rs.foldl (fun n r => n + r.2) 0)

/-- The state of a unit over its positions in ascending order (R250). -/
def Attend.unit (z : Attend) (h : Nat) (ps : List Nat) : Option Soft :=
  let j := h / z.gq
  let ss : List (Nat × Acc) := ps.map fun p => (p, z.score h p)
  match ss with
  | [] => none
  | s0 :: t =>
    let m := t.foldl (fun m s => if f32Below m s.2.1 then s.2.1 else m) s0.2.1
    some (ss.foldl (fun (a : Soft) s =>
      let e := expDiff s.2.1 m
      let l := f32Add a.l e.1
      let os := List.zipWith (fun o v =>
        let p := f32Mul e.1 v
        let r := f32Add o p.1
        (r.1, (if p.2 then 1 else 0) + (if r.2 then 1 else 0))) a.o (z.vRow j s.1)
      ⟨m, l.1, os.map (·.1), a.sats + s.2.2 + e.2 + (if l.2 then 1 else 0) + os.foldl (fun n r => n + r.2) 0⟩)
      ⟨m, 0, List.replicate z.dim 0, 0⟩)

/-- The merge of two states (R250). -/
def Soft.merge (a b : Soft) : Soft :=
  let m := if f32Below a.m b.m then b.m else a.m
  let x := expDiff a.m m
  let y := expDiff b.m m
  let l := mixRows [a.l] x.1 [b.l] y.1
  let o := mixRows a.o x.1 b.o y.1
  ⟨m, l.1.headD 0, o.1, a.sats + b.sats + x.2 + y.2 + l.2 + o.2⟩

/-- Merge states in order, leaving out those that attended nothing. -/
def mergeAll (l : List (Option Soft)) : Option Soft :=
  l.foldl (fun a b => match a, b with
    | some x, some y => some (x.merge y)
    | some x, none => some x
    | none, y => y) none

/-- The positions of a page of a KV head that a share attends. -/
def Attend.positions (z : Attend) (j pg n : Nat) : List Nat :=
  ((List.range 64).map fun i => pg * 64 + i).filter fun p => decide (z.start ≤ p) && decide (p < z.len) && z.homeOf j p == n

/-- The pages that hold attended positions. -/
def Attend.pages (z : Attend) : List Nat := (List.range ((z.len + 63) / 64 - z.start / 64)).map fun i => z.start / 64 + i

/-- The bad blocks of a KV head, with the share and the reason (R251). -/
def Attend.badBlocks (z : Attend) (j : Nat) : List (Nat × Nat) :=
  ((List.range (z.len - z.start)).map fun i =>
    let p := z.start + i
    (([false, true].map fun v => (List.range (z.dim / 32)).map fun b => (z.homeOf j p, (z.block v j p b).reason)).flatten).filter
      fun q => q.2 != 0).flatten

/-- The output of a query head (R250), with saturations. -/
def Attend.head (z : Attend) (h : Nat) : List Nat × List (Nat × Tick) :=
  let j := h / z.gq
  let shares := (List.range 8).map fun n => mergeAll (z.pages.map fun pg => z.unit h (z.positions j pg n))
  match mergeAll shares with
  | none => (List.replicate z.dim 0, [])
  | some r =>
    let qs := r.o.map fun o => f32Div o r.l
    (qs.map (·.1), satTicks (r.sats + (qs.filter (·.2)).length) (z.x.homeOf z.out (h * z.dim * 4)))

/-- OP_ATTEND (R249 to R251). -/
def Attend.run (z : Attend) : Made :=
  let bads := (List.range z.hkv).map z.badBlocks
  let heads := (List.range (z.hkv * z.gq)).map fun h =>
    let q := if sigmaBad (z.sigma h) || (List.range z.dim).any fun i => (z.query h i).special then 5 else 0
    let why := lowReason ((bads.getD (h / z.gq) []).foldl (fun a b => lowReason a b.2) 0) q
    let r := if why = 0 then z.head h else (List.replicate z.dim (poisonWord why), [])
    ((r.1.map (leBytes 4)).flatten, r.2 ++ (if q ≠ 0 then [(z.x.homeOf z.q (h * z.dim), Tick.poison)] else []), why)
  let ticks := ((bads.flatten).map fun b => (b.1, Tick.poison)) ++ (heads.map fun h => h.2.1).flatten
  let reason := lowReason (heads.foldl (fun a h => lowReason a h.2.2) 0) (lateReason z.cfg 0 (ticksOf ticks .sat) [])
  { Made.of [(z.out, (heads.map (·.1)).flatten)] with reason := reason, ticks := ticks }

/-! ### OP_KV_APPEND, OP_QUANT, OP_DEQUANT -/

/-- OP_KV_APPEND (R252). -/
def makeAppend (c : OpCtx) (x : Reader) : Made :=
  let d := c.d
  let pos := bitsOf d.p2 23 0
  let f := bitsOf d.p2 35 32
  let dim := kvDim (bitsOf d.p2 37 36)
  let hkv := bitsOf d.p2 43 40 + 1
  let z := { attendOf c x with np := argF c.arg 36 4, dim := dim }
  let one := fun (t j : Nat) (v : Bool) =>
    let src := oprefOf (argF c.arg (if v then 8 else 0) 8)
    let ws := (List.range dim).map fun i => x.le src (((t * hkv + j) * dim + i) * 4) 4
    let p := pos + t
    let at' := z.pageOff j p
    let cs := (List.range (dim / 32)).map fun b => convBlock f (at' + kvElems dim v p + 32 * b) ((ws.drop (32 * b)).take 32)
    (([(oprefPlus z.kv (at' + kvElems dim v p), (cs.map (Conv.bytes f)).flatten)] ++
        (if f = 2 then [(oprefPlus z.kv (at' + kvScales dim v p), cs.map fun k => BitVec.ofNat 8 k.scale)] else []) : List (Opref × List Byte)),
      cs.foldl (fun n k => n + k.sats) 0, (ws.filter f32Nan).length)
  let all := ((List.range (bitsOf d.p2 29 24 + 1)).map fun t => ((List.range hkv).map fun j => [one t j false, one t j true]).flatten).flatten
  let sats := all.foldl (fun n a => n + a.2.1) 0
  { Made.of (all.map (·.1)).flatten (min (sats + all.foldl (fun n a => n + a.2.2) 0) (2 ^ 32 - 1)) with
      ticks := satTicks sats (x.homeOf z.kv 0) }

/-- A row of FP32 words as INT8 activations: its σ_t and its codes (R229). -/
def convToken (id : Nat) (ws : List Nat) : Nat × List Nat :=
  if ws.any f32Bad then (Config.nanSigma id % 2 ^ 32, ws.zipIdx.map fun w => (Config.nanElem (id * 2 ^ 24 + w.2)).toNat)
  else
    let xs := ws.map f32Val
    let amax := maxDy (xs.map Dy.abs)
    let s := if amax.m = 0 then 0x3F800000 else (roundF32 (amax.div (Dy.ofInt 127) 64)).1
    (s, xs.map fun x => codeOf 8 (within (-128) 127 (overScale x (f32Val s))))

/-- OP_QUANT (R253). -/
def makeQuant (c : OpCtx) (x : Reader) : Made :=
  let d := c.d
  let n := bitsOf d.p5 23 0
  let k := bitsOf d.p5 47 24
  let f := bitsOf d.p5 51 48
  let bf := bitOf d.p5 52
  let word := fun i => if bf then x.le (oprefOf d.p2) (2 * i) 2 * 2 ^ 16 else x.le (oprefOf d.p2) (4 * i) 4
  let special := ((List.range (n * k)).filter fun i => f32Bad (word i)).length
  let res := min special (2 ^ 32 - 1)
  if f = 15 then
    let rows : List (Nat × List Nat) := (List.range n).map fun r => convToken r ((List.range k).map fun i => word (r * k + i))
    Made.of [(oprefOf d.p3, ((rows.map (·.2)).flatten).map (BitVec.ofNat 8)), (oprefOf d.p4, (rows.map fun r => leBytes 4 r.1).flatten)] res
  else
    let l := blockLen f
    let cs := (List.range (n * (k / l))).map fun b => convBlock f b ((List.range l).map fun i => word (b * l + i))
    let sats := cs.zipIdx.map fun q => satTicks q.1.sats (x.homeOf (oprefOf d.p3) (q.2 * blockBytes f))
    { Made.of ([(oprefOf d.p3, (cs.map (Conv.bytes f)).flatten)] ++
        (if hasPlane f then [(oprefOf d.p4, cs.map fun q => BitVec.ofNat 8 q.scale)] else [])) res with ticks := sats.flatten }

/-- OP_DEQUANT (R253). -/
def makeDequant (c : OpCtx) (x : Reader) : Made :=
  let d := c.d
  let n := bitsOf d.p5 23 0
  let k := bitsOf d.p5 47 24
  let f := bitsOf d.p5 51 48
  let bpr := k / blockLen f
  let tab := tabOf (bitOf d.p5 52) (argF c.arg 0 8) (argF c.arg 8 8) (argF c.arg 16 4)
  let bs := (List.range (n * bpr)).map fun i =>
    let b := x.block (scaleMin c.cfg) (scaleMax c.cfg) f bpr (oprefOf d.p2) (oprefOf d.p3) tab false (i / bpr) (i % bpr)
    let home := x.homeOf (oprefOf d.p2) (i * blockBytes f)
    if b.reason ≠ 0 then (List.replicate (blockLen f) (poisonWord b.reason), [(home, Tick.poison)], b.reason)
    else
      let vs := b.elems.zipIdx.map fun e => match b.outl.find? fun o => o.1 == e.2 with
        | some o => roundF32 o.2
        | none => roundF32 (e.1.mul b.w) (decide (e.1.m < 0))
      (vs.map (·.1), satTicks (vs.filter (·.2)).length home, 0)
  let ticks := (bs.map fun b => b.2.1).flatten
  let bad := bs.foldl (fun a b => lowReason a b.2.2) 0
  { Made.of [(oprefOf d.p4, (bs.map fun b => (b.1.map (leBytes 4)).flatten).flatten)] with
      reason := lowReason bad (lateReason c.cfg 0 (ticksOf ticks .sat) []), ticks := ticks }

/-- What a job makes (R240 to R253). (DEDUCED, log entry 43.) -/
def makeOp (c : OpCtx) (x : Reader) : Made :=
  let op := c.d.opcode
  if op = 0x30 then makeFill c
  else if op = 0x31 then makeCopy c x
  else if op = 0x32 then makeCompare c x
  else if op = 0x33 then makeReduce c x
  else if op = 0x34 then makeGather c x
  else if op = 0x35 then makeScatter c x
  else if op = 0x38 then (gemvOf c x).run (bitOf c.d.p0 1)
  else if op = 0x3A then (attendOf c x).run
  else if op = 0x3B then makeAppend c x
  else if op = 0x3C then makeQuant c x
  else makeDequant c x

end Sys2Proof.Machine
end

