-- ==== Sys2Proof/Machine/Engines.lean ====
section
/-! DEFINITION. The operator commands and the life of a job (R193 to R207, R225 to R238, R245, R254, R472, R477 to R479). -/

namespace Sys2Proof.Machine

open Sys2Proof

/-! ### Operator commands -/

/-- The tag of the pool's reads of an argument block for a ring: above the numbers of jobs. -/
def argTag (ring : Nat) : Nat := 2 ^ 40 + ring

/-- Read the argument block of an operator (R235): the state, whether lines are still awaited, and the block where it could be read. -/
def State.readArg (s : State) (c : Cmd) : State × Bool × Option Nat :=
  let n := argLen c.d
  if n = 0 then (s, false, some 0)
  else
    let o := oprefOf c.d.p1
    match (s.opWindow c.d.district o).filter fun w => w.r && decide (o.offset + n ≤ w.span) && (w.base + o.offset) % 64 == 0 with
    | none => (s, false, none)
    | some w =>
      let da := w.base + o.offset
      let bound := if w.msBind then some w.msSlot else none
      let r := s.pullLines (argTag c.ring) o.window c.d.district bound (linesOf da n)
      if r.2.any fun x => x.2 == .wait then (r.1, true, none)
      else
        let vs := r.2.map fun x => match x.2 with | .value d => some d.toNat | _ => none
        if vs.any Option.isNone then (r.1, false, none)
        else (r.1, false, some ((vs.foldr (fun v a => v.getD 0 + 2 ^ 512 * a) 0) % 2 ^ (8 * n)))

/-- A new job (R201, step 3). -/
def Job.new (c : Cmd) (arg staging granules clock : Nat) : Job :=
  { cmd := c, phase := .queued, arrived := clock, attempts := 0, commitStarted := false, args := leBytes 256 arg, windows := [],
    granules := granules, staging := staging, used := [], work := [], input := [], faults := [], elemFaults := [], num := none, kept := none,
    after := [], energy := 0, est := false, started := none }

/-- The argument copy of a job. -/
def Job.arg (j : Job) : Nat := leValue j.args

/-- The windows that a job uses (R202). -/
def State.windowsOf (s : State) (d : Desc) (arg : Nat) : List Nat :=
  let x := shapeOf d arg
  let ws := x.ranges.map (·.ref.window) ++ x.elems.map (·.1.window)
  (ws ++ (ws.filterMap fun w => (s.sec.bindings.get w).map (·.cksum.window))).eraseDups

/-- Queue a job. -/
def State.queueJob (s : State) (c : Cmd) (arg : Nat) : State :=
  let x := shapeOf c.d arg
  let n := s.eng.nextJob
  let j := Job.new c arg (s.stagingOf c.d x) x.granules s.clock
  { s.setJob n { j with windows := s.windowsOf c.d arg } with
      eng := { (s.setJob n { j with windows := s.windowsOf c.d arg }).eng with nextJob := n + 1 } }

/-- An operator command: it stays in its ring while the queue of 4,096 jobs is full and while its argument block is being read (R201, R235);
then it is checked under R237 and takes its effect. (DEDUCED, log entry 41.) -/
def State.operator (s : State) (c : Cmd) (k : Kind) (go : State → Nat → State) : State :=
  if !s.atHand c || decide (4096 ≤ (s.eng.jobs.filter fun e => e.2.phase == .queued).length) then s
  else
    let r := s.readArg c
    let s := r.1
    if r.2.1 then
      let g := s.ring c.ring
      if g.waiting.contains c then s
      else s.setRing c.ring { g with waiting := g.waiting ++ [c], head := (g.head + 1) % 2 ^ 32 }
    else s.command c k (s.opChecks c r.2.2) fun s => go s (r.2.2.getD 0)

/-- An operator that runs on the engines (R236). -/
def State.engineOp (s : State) (c : Cmd) : State := s.operator c .e fun s arg => s.queueJob c arg

/-- OP_FILL (R201, R236, R237, R240). -/
def execOpFill (c : Cmd) (s : State) : Host.Outcome State Fault Refusal := .next (s.engineOp c)
/-- OP_COPY (R240). -/
def execOpCopy (c : Cmd) (s : State) : Host.Outcome State Fault Refusal := .next (s.engineOp c)
/-- OP_COMPARE (R240). -/
def execOpCompare (c : Cmd) (s : State) : Host.Outcome State Fault Refusal := .next (s.engineOp c)
/-- OP_REDUCE (R241). -/
def execOpReduce (c : Cmd) (s : State) : Host.Outcome State Fault Refusal := .next (s.engineOp c)
/-- OP_GATHER (R242). -/
def execOpGather (c : Cmd) (s : State) : Host.Outcome State Fault Refusal := .next (s.engineOp c)
/-- OP_SCATTER (R242). -/
def execOpScatter (c : Cmd) (s : State) : Host.Outcome State Fault Refusal := .next (s.engineOp c)
/-- OP_GEMV (R246). -/
def execOpGemv (c : Cmd) (s : State) : Host.Outcome State Fault Refusal := .next (s.engineOp c)
/-- OP_ATTEND (R249). -/
def execOpAttend (c : Cmd) (s : State) : Host.Outcome State Fault Refusal := .next (s.engineOp c)
/-- OP_KV_APPEND (R252). -/
def execOpKvAppend (c : Cmd) (s : State) : Host.Outcome State Fault Refusal := .next (s.engineOp c)
/-- OP_QUANT (R253). -/
def execOpQuant (c : Cmd) (s : State) : Host.Outcome State Fault Refusal := .next (s.engineOp c)
/-- OP_DEQUANT (R253). -/
def execOpDequant (c : Cmd) (s : State) : Host.Outcome State Fault Refusal := .next (s.engineOp c)

/-- Does a host range lie in one valid bounce region of a `CONF` District (R462)? -/
def State.bounceOk (s : State) (d addr len : Nat) : Bool :=
  !((s.district d).map (·.conf)).getD false ||
    s.sec.bounce.any fun b => b.1 / 16 == d && decide (b.2.base ≤ addr) && decide (addr + len ≤ b.2.base + b.2.len)

/-- OP_HOST_COPY (R245, R462): a DMA of the host port, moved page by page by HOST_DMA_PAGE_DONE. (DEDUCED, log entry 26.) -/
def execOpHostCopy (c : Cmd) (s : State) : Host.Outcome State Fault Refusal :=
  .next (s.operator c .d fun s _ =>
    let n := bitsOf c.d.p4 39 0
    if !s.bounceOk c.d.district c.d.p3 n then s.finish c (recFault c Cs.faultAccess 2 c.d.p3)
    else s.startDma c (ringFn c.ring) (bitOf c.d.p4 40) c.d.p3 n [] .hostCopy)

/-- The job that a JOB_ABORT names, where it may still be aborted (R254). -/
def State.abortTarget (s : State) (d : Desc) : Option (Nat × Job) :=
  s.eng.jobs.find? fun e => e.2.cmd.ring == bitsOf d.p2 47 32 && e.2.cmd.d.cmdId == bitsOf d.p2 31 0 &&
    e.2.phase != .committing && e.2.phase != .scrubbing

/-- JOB_ABORT (R206, R254). -/
def execJobAbort (c : Cmd) (s : State) : Host.Outcome State Fault Refusal :=
  .next (
    let foreign := match s.abortTarget c.d with
      | some e => (s.district e.2.cmd.d.district).map (·.owner) != some (ringFn c.ring)
      | none => false
    s.command c .d (lowestOf [chk foreign Cs.refusedOwner,
      (s.opChecks c (some 0)).or (chk (s.abortTarget c.d).isNone Cs.refusedState)]) fun s =>
    match s.abortTarget c.d with
    | some e => (s.abortJob e.1 e.2).done c 0
    | none => s)

/-! ### Engines of a job -/

/-- The cluster, named by its share, that works the lines of share k for a District (R196). -/
def State.clusterFor (s : State) (d k : Nat) : Nat :=
  match s.district d with
  | some x =>
    if x.level = 3 ∧ !bitOf x.shares k then
      let own := (List.range 8).filter (bitOf x.shares)
      let others := (List.range 8).filter fun n => !bitOf x.shares n
      own.getD (others.idxOf k % max 1 own.length) 0
    else k
  | none => k

/-- The clusters that a District's jobs use, each once. (DEDUCED, log entry 41.) -/
def State.clustersOf (s : State) (d : Nat) : List Nat := ((List.range 8).map (s.clusterFor d)).eraseDups

/-- May a District use an engine of a cluster (R200)? (DEDUCED, log entry 41.) -/
def State.mayUse (s : State) (d k e : Nat) : Bool :=
  match s.district d with
  | none => false
  | some x =>
    if x.level = 3 then bitOf x.shares k
    else if x.level = 2 then s.eng.held.get (k * 8 + e) == some d
    else !s.eng.held.has (k * 8 + e) && !(s.maps.districts.any fun y => y.2.level == 3 && bitOf y.2.shares k)

/-- The engines that a District's allotment allows in a cluster (R200, R201). -/
def State.allotment (s : State) (d k : Nat) : Nat := ((s.engsIn k).filter (s.mayUse d k)).length

/-- The present `T_SCHED` (R474). (DEDUCED, log entry 48.) -/
def State.tSched (s : State) : Nat := max 85 (s.regs.fld 0x780000 14 8 - s.pwr.tDown)

/-- May engines of an Avenue be woken: its regulator answers, it is below `T_SCHED`, and no drain of R473 holds it (R468, R473)? -/
def State.mayWake (s : State) (a : Nat) : Bool :=
  !s.pwr.stopped && decide (((s.pwr.missed.get (32 + a)).getD 0) < 3) && decide ((s.av a).tj < (s.tSched : Int)) && !(s.av a).tripped &&
    !(s.av a).paired && !s.pwr.fastGated && (s.av a).pg

/-- The engines of a cluster that a job of a ring could take now, those that are powered first (R478, R479). -/
def State.freeEngines (s : State) (d ring k : Nat) : List Nat :=
  match s.servedBy k with
  | none => []
  | some a =>
    let ok := (s.engsIn k).filter fun e =>
      let x := s.engOf a e
      s.mayUse d k e && x.job.isNone && !x.drain && (x.hint.isNone || x.hint == some ring) &&
        (x.st == .idle || (x.st == .waking && x.hint == some ring) || (x.st == .off && s.mayWake a))
    ok.filter (fun e => (s.engOf a e).hint == some ring) ++
      ok.filter (fun e => (s.engOf a e).hint.isNone && (s.engOf a e).st != .off) ++
      ok.filter (fun e => (s.engOf a e).hint.isNone && (s.engOf a e).st == .off)

/-- Give an idle or OFF engine to a job; an OFF engine is woken (R195, R201). -/
def State.giveEngine (s : State) (n : Nat) (d a e : Nat) : State :=
  let x := s.engOf a e
  if x.st = .off then
    (s.tally (0x200000 + a * 0x40000 + 0x818) 1).setEng a e { x with st := .waking, district := d, job := some n, hint := none, fcur := s.clockOf a e }
  else s.setEng a e { x with district := d, job := some n, hint := none }

/-- The next unit of a cluster for a job, as share × 2^32 + unit: an interrupted one first, else the lowest that has not been started (R196,
R203). (DESIGN CHOICE, log entry 44.) -/
def Job.nextUnit (j : Job) (k : Nat) : Option (Nat × Job) :=
  (j.work.filter fun w => w.2.cluster == k).foldl (fun r w => match r with
    | some x => some x
    | none => match w.2.back with
      | u :: t => some (w.1 * 2 ^ 32 + u, { j with work := j.work.put w.1 { w.2 with back := t } })
      | [] => if w.2.next < w.2.total then
          some (w.1 * 2 ^ 32 + w.2.next, { j with work := j.work.put w.1 { w.2 with next := w.2.next + 1 } }) else none) none

/-- The share that an Avenue serves. (DEDUCED, log entry 41.) -/
def State.shareOf (s : State) (a : Nat) : Option Nat := if (s.av a).role = .serving then (s.av a).share else none

/-- An idle engine of a streaming job takes a unit (R195, R196). (DESIGN CHOICE, log entry 44.) -/
def State.takeUnit (s : State) (n a e : Nat) : State :=
  match s.job n, s.shareOf a with
  | some j, some k =>
    if j.phase ≠ .streaming ∨ (s.engOf a e).st ≠ .idle ∨ (s.engOf a e).drain then s
    else match j.nextUnit k with
      | some (u, j) => (s.setJob n j).setEng a e { s.engOf a e with st := .running, group := some u, fcur := s.clockOf a e }
      | none => s
  | _, _ => s

/-- Every idle engine of a job takes a unit. (DESIGN CHOICE, log entry 44.) -/
def State.takeUnits (s : State) (n : Nat) : State := (s.engsOf n).foldl (fun s x => s.takeUnit n x.1 x.2) s

/-- An engine stops in the middle of a unit: the unit goes back to the head of its queue, and the restart is counted (R203). -/
def State.interrupt (s : State) (a e : Nat) : State :=
  let x := s.engOf a e
  match x.job, x.group with
  | some n, some u =>
    let s := s.setEng a e { x with group := none }
    match s.job n with
    | some j => match j.work.get (u / 2 ^ 32) with
      | some w => (s.setJob n { j with work := j.work.put (u / 2 ^ 32) { w with back := u % 2 ^ 32 :: w.back } }).tally
          (0x200000 + a * 0x40000 + 0x628) 1
      | none => s
    | none => s
  | _, _ => s

/-- The engines of a job in a cluster. -/
def State.engsAt (s : State) (n k : Nat) : List (Nat × Nat) :=
  (s.engsOf n).filter fun x => s.servedBy k == some x.1 && (s.engOf x.1 x.2).st != .retired

/-- A running job with unfinished units in a cluster that has none of its engines gets one that its District may use, when one is free
(R203). -/
def State.refillJob (s : State) (n : Nat) (j : Job) : State :=
  if !(j.phase == .waking || j.phase == .loading || j.phase == .streaming) then s
  else ((j.work.filter fun w => w.2.done < w.2.total).map (·.2.cluster)).eraseDups.foldl (fun s k =>
    if !(s.engsAt n k).isEmpty then s
    else match (s.freeEngines j.cmd.d.district j.cmd.ring k).head?, s.servedBy k with
      | some e, some a => (s.giveEngine n j.cmd.d.district a e).takeUnit n a e
      | _, _ => s) s

/-- The same for every running job. -/
def State.refillJobs (s : State) : State := s.eng.jobs.foldl (fun s e => s.refillJob e.1 e.2) s

/-- A job whose engines are all awake loads its activations (R201, step 5). -/
def State.wakeStep (s : State) (n : Nat) : State :=
  match s.job n with
  | some j => if j.phase = .waking ∧ (s.engsOf n).all fun x => (s.engOf x.1 x.2).st != .waking then s.setJob n { j with phase := .loading } else s
  | none => s

/-! ### The scheduler -/

/-- The compute headroom in mW (R475). -/
def State.headroom (s : State) : Int :=
  (s.pwr.present.cap * 1000 : Int) - s.regs.fld 0x780000 5 0 * 1000 - s.pwr.links - s.pwr.mem - s.pwr.comp

/-- The engines of an Avenue that are not OFF. -/
def State.powered (s : State) (a : Nat) : Nat :=
  (engIdx.filter fun e => (s.engOf a e).st != .off && (s.engOf a e).st != .retired).length

/-- What taking engines for a class of job adds in an Avenue, in mW (R477). (DEDUCED, log entry 48.) -/
def State.addedPower (s : State) (a cls : Nat) (es : List Nat) : Nat :=
  es.foldl (fun n e => n + coefOf .running cls (s.clockOf a e) - coefOf (s.engOf a e).st cls (s.clockOf a e)) 0

/-- Could c engines of each of some clusters be given at a class now: engines free, `ENG_MAX`, budget and heat (R478)? Gives the engines of
each cluster, as Avenue and numbers, and the cost. -/
def State.fits (s : State) (d ring cls c : Nat) (ks : List Nat) : Option (List (Nat × List Nat) × Nat) :=
  let picks := ks.map fun k => ((s.servedBy k).getD 9, (s.freeEngines d ring k).take c)
  let cost := picks.foldl (fun n p => n + s.addedPower p.1 cls p.2) 0
  if picks.all (fun p => p.2.length == c &&
      decide (s.powered p.1 + (p.2.filter fun e => (s.engOf p.1 e).st == .off).length ≤ s.pwr.present.engMax) &&
      decide ((s.av p.1).tj * 10000 + 3 * s.addedPower p.1 cls p.2 < s.tSched * 10000)) &&
    decide ((cost : Int) ≤ s.headroom)
  then some (picks, cost) else none

/-- The activation granules in use in every Avenue by jobs, those being scrubbed included (R193, R200). -/
def State.granulesUsed (s : State) : Nat := s.eng.jobs.foldl (fun n e => if e.2.phase = .queued then n else n + e.2.granules) 0

/-- The staging pages of a District in use (R198). (DEDUCED, log entry 27.) -/
def State.stagingUsed (s : State) (d : Nat) : Nat :=
  s.eng.jobs.foldl (fun n e => if e.2.cmd.d.district = d ∧ e.2.inFlight then n + e.2.staging else n) 0

/-- A queued job whose granules, staging, fence and shares allow it to start (R23, R198, R201, R204). -/
def State.ready (s : State) (n : Nat) (j : Job) : Bool :=
  j.phase == .queued && decide (s.granulesUsed + j.granules ≤ 128) &&
    decide (s.stagingUsed j.cmd.d.district + j.staging ≤ ((s.district j.cmd.d.district).map (·.staging)).getD 0) &&
    !(bitOf j.cmd.d.p0 0 && s.eng.jobs.any fun e => decide (e.1 < n) && e.2.cmd.ring == j.cmd.ring) &&
    (List.range 8).all (fun k => (s.share k).st != .gap) && (s.engsOf n).isEmpty

/-- Candidates in order: District priority, highest first, then arrival (R478). -/
def State.insertCand (s : State) (x : Nat × Job) : List (Nat × Job) → List (Nat × Job)
  | [] => [x]
  | y :: t =>
    let p := fun (e : Nat × Job) => ((s.district e.2.cmd.d.district).map (·.priority)).getD 0
    if p y < p x then x :: y :: t else y :: s.insertCand x t

/-- The numbers of engines to try, from what is wanted down to half of it (R478). -/
def countsFrom (want : Nat) : List Nat := (List.range (want + 1 - (want + 1) / 2)).map fun i => want - i

/-- The engines per share that a job wants, and the clusters that are served (R200, R201). -/
def State.wanted (s : State) (j : Job) (ks : List Nat) : Nat :=
  let field := bitsOf j.cmd.d.p0 6 4
  let n := if field = 0 then Config.engineChoice j.cmd.d.opcode j.cmd.d.p3 j.cmd.d.p4 % 6 + 1 else field
  max 1 (ks.foldl (fun m k => min m (s.allotment j.cmd.d.district k)) n)

/-- Dispatch a job (R201, step 4): engines are given and woken, its work is laid out, the numeric settings are latched at the first attempt
(R223), and its cost is charged to the compute share. (DEDUCED, log entry 42.) -/
def State.dispatch (s : State) (n : Nat) (j : Job) (c : Nat) (picks : List (Nat × List Nat)) (cost : Nat) : State :=
  let d := j.cmd.d.district
  let s := picks.foldl (fun s p => p.2.foldl (fun s e => s.giveEngine n d p.1 e) s) s
  let total := (shapeOf j.cmd.d j.arg).units
  let work := (List.range 8).map fun k => (k, ShareWork.mk (s.clusterFor d k) total 0 [] 0 false false)
  let used := (List.range 8).foldl (fun (t : Table Nat) k =>
    if (s.servedBy (s.clusterFor d k)).isSome then t.put k c else t) []
  let num := j.num.or (some ((s.regs.val 0x680040).toNat, (s.regs.val 0x680044).toNat, (s.regs.val 0x680048).toNat))
  let s := s.setJob n { j with
    phase := .waking, attempts := j.attempts + 1, used := used, work := work, num := num, est := j.est || !s.pwr.calibrated,
    started := j.started.or (some s.clock) }
  let s := { s with pwr := { s.pwr with comp := s.pwr.comp + cost * s.pwr.gain / 65536 } }
  s.wakeStep n

/-- Walk the candidates: dispatch the first that fits; stop at one that has waited too long (R478). -/
def State.walk (s : State) (passed : Bool) : List (Nat × Job) → Option State
  | [] => none
  | (n, j) :: t =>
    let ks := (s.clustersOf j.cmd.d.district).filter fun k => (s.servedBy k).isSome
    let try' := (countsFrom (s.wanted j ks)).findSome? fun c =>
      (s.fits j.cmd.d.district j.cmd.ring (opClass j.cmd.d.opcode) c ks).map fun r => (c, r)
    match try' with
    | some (c, picks, cost) =>
      let s := s.dispatch n j c picks cost
      some (if passed then s.tally 0x780048 1 else s)
    | none => if s.regs.fld 0x78001C 15 0 * 1000 < s.clock - j.arrived then none else s.walk true t

/-- Dispatch until nothing more fits. -/
def State.schedule (s : State) : Nat → State
  | 0 => s
  | k + 1 =>
    let cands := (s.eng.jobs.filter fun e => s.ready e.1 e.2).foldl (fun l x => s.insertCand x l) []
    match s.walk false cands with
    | some s => s.schedule k
    | none => s

/-- May jobs be dispatched: no switch-over, no lost SQ pair, dispatch not stopped, memory initialised (R23, R475, R519)? -/
def State.mayDispatch (s : State) : Bool :=
  !((List.range 3).any fun p => (s.core p).switching.isSome) && !(s.core 2).lost && !s.pwr.stopped && !s.pwr.fastGated

/-- SCHEDULER_PASS (R201, R203, R478). (DEDUCED, log entry 42.) -/
def execSchedulerPass (s : State) : Host.Outcome State Fault Refusal :=
  .next (if s.mayDispatch then s.refillJobs.schedule s.eng.jobs.length else s)

/-- ENGINE_WAKE_DONE: WAKING leads to IDLE (R195). -/
def execEngineWakeDone (av : Avenue) (eng : Engine) (s : State) : Host.Outcome State Fault Refusal :=
  .next (
    let x := s.engOf av eng
    if x.st ≠ .waking then s
    else
      let s := s.setEng av eng { x with st := .idle, fcur := s.clockOf av eng }
      match x.job with
      | some n => (s.wakeStep n).takeUnit n av eng
      | none => s)

/-! ### What a job reads -/

/-- A line that a job reads: by window and offset; a soft read never faults the job (R223), one of an element faults the element (R243). -/
structure Need where
  w : Nat
  off : Nat
  soft : Bool
  elem : Option Nat
  deriving DecidableEq, Repr

/-- The lines of an operand range. -/
def rangeNeeds (o : Opref) (len : Nat) (soft : Bool := false) (elem : Option Nat := none) : List Need :=
  (linesOf o.offset len).map fun off => ⟨o.window, off, soft, elem⟩

/-- The lines of an OP_GEMV operand: of a bound window, whole chunks and the lines of their checksums (R225, R458). -/
def State.sealedNeeds (s : State) (o : Opref) (len : Nat) (soft : Bool) : List Need :=
  match s.bindingOf o with
  | none => rangeNeeds o len soft
  | some b =>
    if len = 0 then []
    else
      let first := (o.offset - b.image) / 256
      let last := (o.offset - b.image + len - 1) / 256
      rangeNeeds ⟨o.window, b.image + first * 256⟩ ((last + 1 - first) * 256) ++
        rangeNeeds ⟨b.cksum.window, b.cksum.offset + 4 * first⟩ (4 * (last + 1 - first))

/-- Is a range the activations, or their scales, of a job: read when they are loaded (R193, R213)? -/
def isActRange (d : Desc) (arg : Nat) (r : Rng) : Bool :=
  (d.opcode == 0x38 && (r.ref == oprefOf (argF arg 16 8) || (bitOf d.p4 11 && r.ref == oprefOf (argF arg 24 8)))) ||
    (d.opcode == 0x3A && (r.ref == oprefOf (argF arg 0 8) || (bitOf d.p4 16 && r.ref == oprefOf (argF arg 8 8))))

/-- The sampled blocks' reference ranges (R223). -/
def refRanges (d : Desc) (arg : Nat) (cfg seed : Nat) : List (Opref × Nat) :=
  if d.opcode ≠ 0x38 ∨ !bitOf d.p4 10 ∨ bitOf d.p0 2 then []
  else
    let n := bitsOf d.p3 23 0
    let k := bitsOf d.p3 47 24
    let l := blockLen (bitsOf d.p4 3 0)
    let sz := if bitOf d.p4 6 then 4 else 2
    let o := oprefOf (argF arg 56 8)
    ((List.range (n * (k / l))).filter fun g => sampled cfg seed (g % 2 ^ 32)).map fun g => (oprefPlus o (g * l * sz), l * sz)

/-- The lines that a job reads on its engines and whose places its descriptor gives. -/
def State.firstNeeds (s : State) (j : Job) : List Need :=
  let d := j.cmd.d
  let x := shapeOf d j.arg
  let op := d.opcode
  let num := j.num.getD (0, 0, 0)
  if op = 0x34 then (x.elems.zipIdx.map fun e => rangeNeeds e.1.1 e.1.2 false (some e.2)).flatten
  else if op = 0x35 then ((elemsOf d j.arg).map fun e => rangeNeeds (oprefPlus (oprefOf d.p2) e.2.2.2) e.2.2.1 false (some e.1)).flatten
  else if op = 0x38 then
    ((x.ranges.filter fun r => !r.write && !r.soft && !isActRange d j.arg r).map fun r => s.sealedNeeds r.ref r.len false).flatten ++
      ((refRanges d j.arg num.1 num.2.2).map fun r => s.sealedNeeds r.1 r.2 true).flatten
  else if op = 0x3A then rangeNeeds (oprefOf (argF j.arg 24 8)) ((bitsOf d.p4 11 8 + 1) * argF j.arg 36 4 * 4)
  else ((x.ranges.filter fun r => !r.write).map fun r => rangeNeeds r.ref r.len).flatten

/-- The activation lines of a job (R193). -/
def actNeeds (j : Job) : List Need :=
  let d := j.cmd.d
  (((shapeOf d j.arg).ranges.filter fun r => !r.write && isActRange d j.arg r).map fun r => rangeNeeds r.ref r.len).flatten

/-- The key of a line of a job's input. -/
def inKey (w off : Nat) : Nat := w * 2 ^ 42 + off / 64

/-- One byte of a job's input as it was read; `none` where its line could not be read or has not been. (DEDUCED, log entry 42.) -/
def Job.byteIn (j : Job) (w off : Nat) : Option Nat :=
  match j.input.get (inKey w off) with
  | some (some d) => some (d.extractLsb' (off % 64 * 8) 8).toNat
  | _ => none

/-- The present chunk bytes of a job's input, where all 256 have been read. (DEDUCED, log entry 42.) -/
def Job.chunkIn (j : Job) (w first : Nat) : Option (List Byte) :=
  (List.range 256).mapM fun i => (j.byteIn w (first + i)).map (BitVec.ofNat 8)

/-- A byte of a job's input as the arithmetic sees it: decrypted in a bound window of an OP_GEMV, except for its token scales (R191, R458). -/
def State.clearByte (s : State) (j : Job) (w off : Nat) : Option Nat :=
  match s.sec.bindings.get w with
  | none => j.byteIn w off
  | some b =>
    let a := oprefOf (argF j.arg 24 8)
    if j.cmd.d.opcode ≠ 0x38 ∨ (a.window = w ∧ a.offset ≤ off ∧ off < a.offset + 4 * (bitsOf j.cmd.d.p3 55 48 + 1)) then j.byteIn w off
    else
      let k := (off - b.image) / 256
      (j.chunkIn w (b.image + k * 256)).map fun ct =>
        ((Config.openChunk ((s.sec.models.get (b.district * 8 + b.slot)).getD 0) b.modelId k ct)[(off - b.image) % 256]?.getD 0).toNat

/-- The share that homes the byte of a window at an offset. -/
def State.windowHome (s : State) (w off : Nat) : Nat := s.regs.home (s.daOf ⟨w, off⟩)

/-- What a job's arithmetic reads. -/
def State.reader (s : State) (j : Job) : Reader :=
  { byte := fun w off => (s.clearByte j w off).getD 0, soft := s.clearByte j, home := s.windowHome }

/-- The lines of the KV pages that an OP_ATTEND attends, once its page table has been read (R248, R250). -/
def State.kvNeeds (s : State) (j : Job) : List Need :=
  if j.cmd.d.opcode ≠ 0x3A then []
  else
    let z := attendOf ⟨j.cmd.d, j.arg, 0, 0, 0, fun _ => 0, fun _ => 0⟩ (s.reader j)
    ((List.range z.hkv).map fun h => ((List.range (z.len - z.start)).map fun i =>
      let p := z.start + i
      let at' := z.pageOff h p
      ([false, true].map fun v => rangeNeeds (oprefPlus z.kv (at' + kvElems z.dim v p)) z.dim ++
        (if z.f = 2 then rangeNeeds (oprefPlus z.kv (at' + kvScales z.dim v p)) (z.dim / 32) else [])).flatten).flatten).flatten.eraseDups

/-- The state of a reading: the state, the job, and whether a line is still awaited. (DEDUCED, log entry 42.) -/
structure Cap where
  s : State
  j : Job
  wait : Bool

/-- A read of a line has failed (R223, R238, R243). -/
def Job.failRead (j : Job) (x : Need) (status kind : Nat) : Job :=
  match x.elem with
  | some k => { j with elemFaults := j.elemFaults.put k (match j.elemFaults.get k with | some o => min o kind | none => kind) }
  | none => if x.soft then { j with input := j.input.put (inKey x.w x.off) none }
    else { j with faults := j.faults ++ [(status, x.w + x.off * 2 ^ 16)] }

/-- Read one line of a job. -/
def Cap.read (c : Cap) (n : Nat) (x : Need) : Cap :=
  let d := c.j.cmd.d.district
  match (c.s.opWindow d ⟨x.w, x.off⟩).filter fun w => w.r && decide (x.off < w.span) with
  | none => { c with j := c.j.failRead x Cs.faultAccess 1 }
  | some w => match c.j.input.get (inKey x.w x.off) with
    | some (some _) => c
    | some none => { c with j := c.j.failRead x Cs.faultUncorrectable 3 }
    | none =>
      let r := c.s.pullLines (jobTag n) x.w d (if w.msBind then some w.msSlot else none) [w.base + x.off]
      let got : Look := ((r.2.head?).map (·.2)).getD .wait
      match got with
      | .value v => { c with s := r.1, j := { c.j with input := c.j.input.put (inKey x.w x.off) (some v) } }
      | .poison => { c with s := r.1, j := { c.j with input := c.j.input.put (inKey x.w x.off) none }.failRead x Cs.faultUncorrectable 3 }
      | .unmapped _ => { c with s := r.1, j := c.j.failRead x Cs.faultTranslation 2 }
      | .wait => { c with s := r.1, wait := true }

/-- Read lines of a job. -/
def Cap.readAll (c : Cap) (n : Nat) (xs : List Need) : Cap := xs.foldl (fun c x => c.read n x) c

/-- ACTIVATION_LOAD_DONE: the activations have been read once, and streaming begins (R193, R201). Where a line is still on its way the job
goes on loading. (DEDUCED, log entry 42.) -/
def execActivationLoadDone (job : Nat) (s : State) : Host.Outcome State Fault Refusal :=
  .next (match s.job job with
    | none => s
    | some j =>
      if j.phase ≠ .loading then s
      else
        let c := (Cap.mk s j false).readAll job (actNeeds j)
        if !c.j.faults.isEmpty then (c.s.setJob job c.j).faultJob job c.j
        else if c.wait then c.s.setJob job c.j
        else (c.s.setJob job { c.j with phase := .streaming }).takeUnits job)

/-! ### Checksums -/

/-- One bit of the reflected CRC-32C. -/
def crcBit (r : Nat) : Nat := if r % 2 = 1 then (r / 2) ^^^ 0x82F63B78 else r / 2

/-- CRC-32C of bytes (R225). -/
def crc32c (bs : List Byte) : Nat :=
  (bs.foldl (fun r b => (List.range 8).foldl (fun r _ => crcBit r) (r ^^^ b.toNat)) 0xFFFFFFFF) ^^^ 0xFFFFFFFF

/-- The chunks of bound windows whose lines and checksum a job has read, and that fail their check, by window and chunk (R225). (DEDUCED,
log entry 47.) -/
def State.badChunks (s : State) (j : Job) : List (Nat × Nat) :=
  if j.cmd.d.opcode ≠ 0x38 then []
  else
    let keys := (j.input.map fun e => (e.1 / 2 ^ 42, e.1 % 2 ^ 42 * 64)).filterMap fun q =>
      (s.sec.bindings.get q.1).bind fun b =>
        if b.image ≤ q.2 ∧ q.2 < b.image + b.length then some (q.1, (q.2 - b.image) / 256) else none
    keys.eraseDups.filter fun q =>
      match s.sec.bindings.get q.1 with
      | none => false
      | some b =>
        match j.chunkIn q.1 (b.image + q.2 * 256), (List.range 4).mapM fun i => j.byteIn b.cksum.window (b.cksum.offset + 4 * q.2 + i) with
        | some ct, some ck =>
          crc32c (Config.openChunk ((s.sec.models.get (b.district * 8 + b.slot)).getD 0) b.modelId q.2 ct) != leValue (ck.map (BitVec.ofNat 8))
        | _, _ => false

/-- The report of a job that a checksum stops: its counts at that moment are free values (R225, R228). (DESIGN CHOICE, log entry 46.) -/
def stopSummary (draw : Nat) (ref : Bool) : List Byte :=
  (List.range 28).map (Config.freeByte draw) ++ [1, if ref then 3 else 2] ++ [Config.freeByte draw 30, Config.freeByte draw 31]

/-- Stop a job whose input fails a checksum (R225). (DEDUCED, log entry 47.) -/
def State.checksumStop (s : State) (n : Nat) (j : Job) (bad : List (Nat × Nat)) : State :=
  let slot := (bad.head?.bind fun q => (s.sec.bindings.get q.1).map (·.slot)).getD 0
  let s := bad.foldl (fun s q =>
    let home := s.windowHome q.1 (((s.sec.bindings.get q.1).map (·.image)).getD 0 + q.2 * 256)
    s.tallyAv (s.clusterFor j.cmd.d.district home) 0x658) s
  let s := s.raise Src.engines 0x01 slot (some j.cmd.d.district)
  let r := s.jobRecord j Cs.faultNumeric 1 0 false
  if bitOf j.cmd.d.p4 8 then
    let o := oprefOf j.cmd.d.p5
    (s.dropWork (jobTag n)).draw.setJob n { j with
      phase := .committing, kept := some r, after := [(o.window, o.offset, stopSummary s.free (bitOf j.cmd.d.p4 10))] }
  else s.endJob n j r

/-- ENGINE_READ_DATA: the lines of a share are read, checked and kept (R130, R196, R225, R238). (DEDUCED, log entry 42.) -/
def execEngineReadData (job : Nat) (share : Share) (s : State) : Host.Outcome State Fault Refusal :=
  .next (match s.job job with
    | none => s
    | some j =>
      match j.work.get share with
      | none => s
      | some w =>
        if j.phase ≠ .streaming ∨ w.read then s
        else
          let here := fun (x : Need) => s.windowHome x.w x.off == share.val
          let first := s.firstNeeds j
          let c := (Cap.mk s j false).readAll job (if j.cmd.d.opcode = 0x3A ∨ j.cmd.d.opcode = 0x3B then first else first.filter here)
          let c := if c.wait || !c.j.faults.isEmpty then c else c.readAll job ((c.s.kvNeeds c.j).filter here)
          let s := c.s.setJob job c.j
          let bad := s.badChunks c.j
          if !bad.isEmpty then s.checksumStop job c.j bad
          else if !c.j.faults.isEmpty then s.faultJob job c.j
          else if c.wait then s
          else s.setJob job { c.j with work := c.j.work.put share { w with read := true } })

/-- ROW_GROUP_DONE: an engine finishes a unit whose lines have been read, and takes the next (R196, R197); an engine that is being drained
is gated (R473, R475). (DEDUCED, log entry 43.) -/
def execRowGroupDone (job : Nat) (share : Share) (eng : Engine) (s : State) : Host.Outcome State Fault Refusal :=
  .next (match s.job job with
    | none => s
    | some j =>
      match j.work.get share, (j.work.get share).bind fun w => s.servedBy w.cluster with
      | some w, some a =>
        let x := s.engOf a eng
        if j.phase ≠ .streaming ∨ !w.read ∨ x.job ≠ some job ∨ (x.group.map (· / 2 ^ 32)) ≠ some share.val then s
        else
          let s := (s.setJob job { j with work := j.work.put share { w with done := w.done + 1 } }).tally (0x200000 + a * 0x40000 + 0x638) 1
          if x.drain then ((s.engOff a eng).tally (0x200000 + a * 0x40000 + 0x820) 1)
          else (s.setEng a eng { x with st := .idle, group := none }).takeUnit job a eng
      | _, _ => s)

/-- PARTIAL_SUM_ARRIVE: the partials of all eight shares have reached an output share, which sums them in share order (R197). (DEDUCED, log
entry 43.) -/
def execPartialSumArrive (job : Nat) (share : Share) (s : State) : Host.Outcome State Fault Refusal :=
  .next (match s.job job with
    | none => s
    | some j =>
      match j.work.get share with
      | some w =>
        if j.phase = .streaming ∧ j.work.all (fun e => e.2.done == e.2.total && e.2.read) then
          s.setJob job { j with work := j.work.put share { w with arrived := true } }
        else s
      | none => s)

/-! ### Commit -/

/-- The fault of a range that a job writes, when it is about to be written (R238, R243): 0 none, 1 access, 2 translation. -/
def State.outFault (s : State) (d : Nat) (o : Opref) (len : Nat) : Nat :=
  match (s.opWindow d o).filter fun w => w.w && decide (o.offset + len ≤ w.span) with
  | none => 1
  | some w => if (linesOf (w.base + o.offset) len).any fun da => (s.maps.leafAt d (da / 4096)).isNone then 2 else 0

/-- Output lines by District line number: enabled bytes and their values, each line once (R198, R233). -/
def addLine (t : Table (BitVec 64 × LineData)) (k : Nat) (m : BitVec 64) (v : LineData) : Table (BitVec 64 × LineData) :=
  match t.get k with
  | none => t.put k (m, v)
  | some o => t.put k (o.1 ||| m, mergeLine o.2 v m)

/-- A segment's bytes put into the lines; the fuel is its length. -/
def addBytes (t : Table (BitVec 64 × LineData)) : Nat → Nat → List Byte → Table (BitVec 64 × LineData)
  | 0, _, _ => t
  | _, _, [] => t
  | fuel + 1, da, bs =>
    let n := min (64 - da % 64) bs.length
    let x := putBytes (da % 64) (bs.take n)
    addBytes (addLine t (da / 64) x.1 x.2) fuel (da + n) (bs.drop n)

/-- A whole-page write to a page on flash reads no flash: it takes a DRAM page within the resident allotment, and the page is Dirty (R319). -/
def State.takePage (s : State) (d page : Nat) : State :=
  match s.maps.leafAt d page, s.district d with
  | some (first, l), some x =>
    if !(l.tiered && !l.resident) || (s.flash.fills.any fun f => f.district == d && f.page == page) ||
      decide (x.residentMax ≤ s.allotted d) then s
    else match s.allocRun 1 (s.regs.colour (page * 4096)) x.strength with
      | none => s
      | some (fr, s) =>
        let slots := s.needCopy d page
        let s := if slots.isEmpty then s
          else
            let s := s.writeMaps d page slots ⟨false, true, false, l.addr⟩
            { s with ms := { s.ms with fcopies := s.ms.fcopies.put l.addr ⟨slots.length, d, s.clock, l.strength⟩ } }
        (s.dropFrames fr 1).setLeaf d first { l with resident := true, addr := fr, strength := x.strength, dirty := true, flash := some l.addr }
  | _, _ => s

/-- Write segments of a job as home writes, one for each line; a page that is written whole is written with its parity and comes to hold
defined content (R198, R240, R286, R289). -/
def State.writeSegs (s : State) (n d : Nat) (segs : List (Opref × List Byte)) : State :=
  let lines := segs.foldl (fun t g => addBytes t g.2.length (s.daOf g.1) g.2) []
  let window := ((segs.head?).map (·.1.window)).getD 0
  let pages := (lines.map fun l => l.1 / 64).eraseDups.filter fun p =>
    (lines.filter fun l => l.1 / 64 == p && l.2.1 == BitVec.allOnes 64).length == 64
  let s := pages.foldl (fun s p => s.takePage d p) s
  let s := pages.foldl (fun s p => match s.maps.leafAt d p with
    | some (f, l) => if l.tiered && !l.resident then s else { s with mem := s.mem.bindFrame (leafFrame f l p) }
    | none => s) s
  lines.foldl (fun s l => s.poolPut (jobTag n) window d (l.1 * 64) l.2.1 l.2.2) s

/-- Count what a computation counted, in the Avenues whose engines did it (R231). -/
def State.countTicks (s : State) (d : Nat) (ts : List (Nat × Tick)) : State :=
  ts.foldl (fun s t => s.tallyAv (s.clusterFor d t.1)
    (match t.2 with | .sat => 0x640 | .poison => 0x648 | .sample => 0x650 | .cksum => 0x658)) s

/-- What a job makes of what it has read. (DEDUCED, log entry 43.) -/
def State.madeOf (s : State) (j : Job) : Made :=
  let d := j.cmd.d
  let num := j.num.getD (0, 0, 0)
  let es := elemsOf d j.arg
  makeOp ⟨d, j.arg, num.1, num.2.1, num.2.2, fun k => (j.elemFaults.get k).getD 0,
    fun k => match es.find? fun e => e.1 == k with
      | some e => s.outFault d.district e.2.1 e.2.2.1
      | none => 0⟩ (s.reader j)

/-- JOB_COMMIT_START: every share has finished; the numeric outcome is decided, and the output is committed as home writes (R198, R204,
R227, R238). `bad` says that a staging line proved uncorrectable. (DEDUCED, log entry 43.) -/
def execJobCommitStart (job : Nat) (bad : Bool) (s : State) : Host.Outcome State Fault Refusal :=
  .next (match s.job job with
    | none => s
    | some j =>
      if j.phase ≠ .streaming ∨ !(j.work.all fun e => e.2.arrived) then s
      else if bad then s.reissueJob job j
      else
        let d := j.cmd.d
        let m := s.madeOf j
        let faults := (m.segs.map fun g => (s.outFault d.district g.1 g.2.length, g.1)).filter fun f => f.1 != 0
        if d.opcode ≠ 0x35 ∧ !faults.isEmpty then
          let j := { j with faults := faults.map fun f => (if f.1 = 1 then Cs.faultAccess else Cs.faultTranslation, f.2.window + f.2.offset * 2 ^ 16) }
          (s.setJob job j).faultJob job j
        else
          let hold := m.reason != 0 && bitOf d.p0 1
          let j := { j with commitStarted := j.commitStarted || !hold }
          let status := if m.reason ≠ 0 then Cs.faultNumeric else if m.part then Cs.donePartial
            else if 1 < j.attempts then Cs.doneReissued else Cs.done
          let r := s.jobRecord j status m.reason m.result false
          let after := if d.opcode = 0x38 ∧ bitOf d.p4 8 then [((oprefOf d.p5).window, (oprefOf d.p5).offset, m.summary)] else []
          let s := (s.countTicks d.district m.ticks).setJob job { j with phase := .committing, kept := some r, after := after }
          if hold then s else s.writeSegs job d.district m.segs)

/-- JOB_COMMIT_DONE: every line has been acknowledged; the summary is written, and then the job ends (R198, R201, R228). -/
def execJobCommitDone (job : Nat) (s : State) : Host.Outcome State Fault Refusal :=
  .next (match s.job job with
    | none => s
    | some j =>
      if j.phase ≠ .committing ∨ s.poolBusy (jobTag job) then s
      else match j.after, j.kept with
        | [], some r => s.endJob job j r
        | after, _ =>
          (s.setJob job { j with after := [] }).writeSegs job j.cmd.d.district (after.map fun a => (⟨a.1, a.2.1⟩, a.2.2)))

/-- ENGINE_SCRUB_DONE: an engine and the granules of its job are clear (R200); the record is posted after the last. -/
def execEngineScrubDone (av : Avenue) (eng : Engine) (s : State) : Host.Outcome State Fault Refusal :=
  .next (
    let x := s.engOf av eng
    if x.st ≠ .scrub then s
    else
      let s := if x.drain then s.engOff av eng else s.engIdle av eng
      match x.job with
      | none => s
      | some n => match s.job n with
        | none => s
        | some j =>
          if j.phase = .scrubbing ∧ (s.engsOf n).isEmpty then
            (match j.kept with
             | some r => s.postJob n j r
             | none => s)
          else s)

/-! ### Retirement, ageing and hints -/

/-- Retire an engine (R195, R200, R203): its unit restarts on another engine of the job, and a dedicated engine is replaced. -/
def State.retireEngine (s : State) (a e : Nat) : State :=
  let x := s.engOf a e
  let s := s.interrupt a e
  let s := (s.setEng a e { s.engOf a e with st := .retired, fcur := 0, district := 0, job := none, group := none, hint := none, drain := false }).tally
    0x680020 1
  let s := s.raise (Src.avenue a) 0x03 (e + x.fmax * 256)
  let s := match s.shareOf a with | some k => s.replaceHeld k | none => s
  match x.job with
  | none => s
  | some n => match s.job n with
    | none => s
    | some j =>
      if j.phase = .scrubbing ∧ (s.engsOf n).isEmpty then (match j.kept with | some r => s.postJob n j r | none => s)
      else ((s.takeUnits n).wakeStep n).refillJob n ((s.job n).getD j)

/-- ENGINE_CHECK_FAIL (R195, R203). -/
def execEngineCheckFail (av : Avenue) (eng : Engine) (s : State) : Host.Outcome State Fault Refusal :=
  .next (if (s.engOf av eng).st = .retired then s else s.retireEngine av eng)

/-- AGEING_CHECK: the monitors are read while an engine is IDLE or in TEST; too little slack lowers the qualified maximum by 10 MHz (R194,
R472). -/
def execAgeingCheck (av : Avenue) (eng : Engine) (low : Bool) (s : State) : Host.Outcome State Fault Refusal :=
  .next (
    let x := s.engOf av eng
    if !low ∨ (x.st ≠ .idle ∧ x.st ≠ .test) then s
    else
      let s := s.setEng av eng { x with fmax := x.fmax - 1, fcur := min x.fcur (x.fmax - 1) }
      s.raise (Src.avenue av) 0x04 (eng + (x.fmax - 1) * 256))

/-- HINT_PREWAKE: hinted engines are woken in each share, or the hint is dropped (R234, R479). -/
def execHintPrewake (job : Nat) (s : State) : Host.Outcome State Fault Refusal :=
  .next (match s.job job with
    | none => s
    | some j =>
      let d := j.cmd.d.district
      let ks := (s.clustersOf d).filter fun k => (s.servedBy k).isSome
      let h := ks.foldl (fun m k => min m (s.allotment d k)) (min (bitsOf j.cmd.d.p0 10 8) s.pwr.present.engMax)
      if h = 0 ∨ !j.inFlight then s
      else match (if s.mayDispatch then s.fits d j.cmd.ring 3 h ks else none) with
        | none => s.tally 0x780040 1
        | some (picks, cost) =>
          let s := picks.foldl (fun s p => p.2.foldl (fun s e =>
            let x := s.engOf p.1 e
            if x.st = .off then (s.tally (0x200000 + p.1 * 0x40000 + 0x818) 1).setEng p.1 e
              { x with st := .waking, hint := some j.cmd.ring, fcur := s.clockOf p.1 e }
            else s.setEng p.1 e { x with hint := some j.cmd.ring }) s) s
          { s with pwr := { s.pwr with comp := s.pwr.comp + cost * s.pwr.gain / 65536 } })

/-- PREWAKE_EXPIRY: engines that a ring's hint woke and no job has taken are free again (R479). -/
def execPrewakeExpiry (ring : Nat) (s : State) : Host.Outcome State Fault Refusal :=
  .next (
    if s.eng.jobs.any fun e => e.2.cmd.ring == ring && e.2.inFlight && bitsOf e.2.cmd.d.p0 10 8 != 0 then s
    else { s with eng := { s.eng with engs := s.eng.engs.each fun _ x => if x.hint = some ring ∧ x.job.isNone then { x with hint := none } else x } })

end Sys2Proof.Machine
end

