-- ==== Sys2Proof/Machine/Power.lean ====
section
/-! DEFINITION. Power and heat (R17, R468 to R488). -/

namespace Sys2Proof.Machine

open Sys2Proof

/-! ### Settings -/

/-- A profile as it stands (R482). -/
def State.profile (s : State) (n : Nat) : Profile := (s.pwr.profiles.get n).getD ⟨320, 6, 0, 200⟩

/-- The settings as they will stand once the queued changes have been applied. -/
def State.settings (s : State) : Profile := ((s.pwr.changes.getLast?).map (·.2)).getD s.pwr.present

/-- Queue a change for the next 10 µs step (R482). -/
def State.powerChange (s : State) (profile : Option Nat) (x : Profile) : State :=
  { s with pwr := { s.pwr with changes := s.pwr.changes ++ [(profile, x)] } }

/-- A profile becomes present at the next step (R60, R482). (DEDUCED, log entry 48.) -/
def State.usePowerProfile (s : State) (n : Nat) : State := s.powerChange (some n) (s.profile n)

/-- POWER_CAP (R471, R481, R482). -/
def execPowerCap (c : Cmd) (s : State) : Host.Outcome State Fault Refusal :=
  .next (
    let w := bitsOf c.d.p0 8 0
    s.command c .g (chk (decide (w < 150) || decide (360 < w)) Cs.refusedParam) fun s =>
      (s.powerChange none { s.settings with cap := w }).done c s.pwr.present.cap)

/-- POWER_PROFILE (R481, R482). (DEDUCED, log entry 48.) -/
def execPowerProfile (c : Cmd) (s : State) : Host.Outcome State Fault Refusal :=
  .next (
    let n := bitsOf c.d.p0 3 0
    let x : Profile := ⟨bitsOf c.d.p0 16 8, bitsOf c.d.p1 2 0, bitsOf c.d.p1 15 8, bitsOf c.d.p1 23 16⟩
    s.command c .g (chk (decide (x.cap < 150) || decide (360 < x.cap) || decide (6 < x.engMax) || (x.actCap != 0 && decide (x.actCap < 16)) ||
        decide (x.fTarget < 100) || decide (240 < x.fTarget)) Cs.refusedParam) fun s =>
      let s := { s with pwr := { s.pwr with profiles := s.pwr.profiles.put n x } }
      (if s.pwr.number = n then s.usePowerProfile n else s).done c 0)

/-- Power in W, from mW. (DEDUCED, log entry 48.) -/
def inWatts (mw : Nat) : Nat := mw / 1000

/-- The estimate in mW. -/
def State.estimate (s : State) : Nat := s.pwr.links + s.pwr.mem + s.pwr.comp

/-- POWER_QUERY (R481). -/
def execPowerQuery (c : Cmd) (s : State) : Host.Outcome State Fault Refusal :=
  .next (s.command c .q none fun s =>
    let p := s.pwr
    let powered := (List.range 9).foldl (fun n a => n + s.powered a) 0
    s.done c (p.present.cap + inWatts s.estimate % 2 ^ 16 * 2 ^ 16 + inWatts p.links % 2 ^ 16 * 2 ^ 32 + inWatts p.mem % 2 ^ 16 * 2 ^ 48 +
      inWatts p.comp % 2 ^ 16 * 2 ^ 64 + p.number * 2 ^ 80 + powered * 2 ^ 88 + p.gain % 2 ^ 32 * 2 ^ 96 + p.calFt % 2 ^ 64 * 2 ^ 128 +
      p.calibrated.toNat * 2 ^ 192 + p.capUnmet.toNat * 2 ^ 193))

/-- ENERGY_READ (R481, R484). -/
def execEnergyRead (c : Cmd) (s : State) : Host.Outcome State Fault Refusal :=
  .next (
    let d := c.d.district
    s.command c .q (lowestOf [chk (d == 0) Cs.refusedParam, chk (d != 0 && (s.district d).isNone) Cs.refusedState]) fun s =>
    match s.district d with
    | some x => s.done c (x.energyMetered / 1000000000 % 2 ^ 64 + x.energyEst / 1000000000 % 2 ^ 64 * 2 ^ 64 + x.energyFrom % 2 ^ 64 * 2 ^ 128)
    | none => s)

/-! ### Clocks and voltages -/

/-- The highest clock among an Avenue's engines. -/
def State.topClock (s : State) (a : Nat) : Nat := engIdx.foldl (fun m e => max m (s.engOf a e).fcur) 0

/-- Set the clocks of an Avenue's running and idle engines (R472), and the rail that they need (R468): the setpoint rises before the clocks
and falls after them; it holds during a switch-over and while the regulator does not answer, when no clock is raised either. -/
def State.setClocks (s : State) (a : Nat) : State :=
  let silent := decide (3 ≤ (s.pwr.missed.get (32 + a)).getD 0)
  let s := engIdx.foldl (fun s e =>
    let x := s.engOf a e
    if x.st = .running ∨ x.st = .idle then
      s.setEng a e { x with fcur := if silent then min x.fcur (s.clockOf a e) else s.clockOf a e }
    else s) s
  let top := s.topClock a
  let mv := 600 + 5 * (Config.railStep a top).val
  if top = 0 ∨ silent ∨ mv = (s.av a).vdd ∨ (List.range 3).any (fun p => (s.core p).switching.isSome) then s
  else (s.setAv a { s.av a with vdd := mv }).emit (.avs (32 + a) mv)

/-- The same for every Avenue. -/
def State.setAllClocks (s : State) : State := (List.range 9).foldl (fun s a => s.setClocks a) s

/-- Gate an engine at once: its unit restarts elsewhere (R203, R471). -/
def State.gateEngine (s : State) (a e : Nat) : State :=
  let x := s.engOf a e
  if x.st = .running ∨ x.st = .idle then (s.interrupt a e).engOff a e else s

/-- Drain an engine: a running one finishes its unit first; another is gated now (R473). -/
def State.drainEngine (s : State) (a e : Nat) : State :=
  let x := s.engOf a e
  if x.st = .running then s.setEng a e { x with drain := true }
  else if x.st = .idle then (s.engOff a e).tally (0x200000 + a * 0x40000 + 0x820) 1
  else s

/-- The powered engines of an Avenue that are not being drained, idle ones first. -/
def State.drainable (s : State) (a : Nat) : List Nat :=
  (engIdx.filter fun e => (s.engOf a e).st == .idle) ++ engIdx.filter fun e => (s.engOf a e).st == .running && !(s.engOf a e).drain

/-! ### The 10 µs step -/

/-- Apply the queued changes in arrival order; a lower `ENG_MAX` drains the surplus, idle engines first (R482). -/
def State.applyChanges (s : State) : State :=
  let s := s.pwr.changes.foldl (fun s x =>
    let p := s.pwr
    let act := if p.actCap = p.present.actCap ∨ p.actCap = 0 then x.2.actCap else if x.2.actCap = 0 then p.actCap else min p.actCap x.2.actCap
    { s with pwr := { p with present := x.2, number := x.1.getD p.number, actCap := act } }) s
  let s := { s with pwr := { s.pwr with changes := [] } }
  (List.range 9).foldl (fun s a => ((s.drainable a).take (s.powered a - s.pwr.present.engMax)).foldl (fun s e => s.drainEngine a e) s) s

/-- The class of the job that an engine works for (R477). -/
def State.classOf (s : State) (x : Eng) : Nat :=
  match x.job.bind s.job with
  | some j => opClass j.cmd.d.opcode
  | none => 0

/-- The coefficient of an engine in mW (R477); an engine that a hint woke is charged at ARRAY class (R479). -/
def State.engPower (s : State) (a e : Nat) : Nat :=
  let x := s.engOf a e
  if x.st = .retired then 0
  else if x.hint.isSome ∧ x.st ≠ .off then coefOf .running 3 x.fcur
  else coefOf x.st (s.classOf x) (if x.st = .off then 200 else max 100 x.fcur)

/-- The power of all engines in mW. -/
def State.enginesPower (s : State) : Nat := (List.range 9).foldl (fun n a => engIdx.foldl (fun n e => n + s.engPower a e) n) 0

/-- The estimate of R469 and the energy of jobs over one step (R483). -/
def State.takeEstimate (s : State) (raw : PowerRaw) : State :=
  let g := s.pwr.gain
  let engines := s.enginesPower
  let s := { s with pwr := { s.pwr with
    links := raw.links * g / 65536, mem := raw.mem * g / 65536, comp := (raw.comp + engines) * g / 65536,
    rawSum := s.pwr.rawSum + raw.links + raw.mem + raw.comp + engines } }
  let jobs := s.eng.jobs.each fun n j =>
    let mw := (s.engsOf n).foldl (fun t x => t + s.engPower x.1 x.2) 0
    { j with energy := j.energy + mw * 10000 * g / 65536, est := j.est || (j.started.isSome && !s.pwr.calibrated) }
  { s with eng := { s.eng with jobs := jobs } }

/-- The compute power that the engines would draw now, beside what is not theirs. -/
def State.rechargeComp (s : State) (before : Nat) : State :=
  { s with pwr := { s.pwr with comp := s.pwr.comp + s.enginesPower * s.pwr.gain / 65536 - before * s.pwr.gain / 65536 } }

/-- Do something to the engines, and correct the compute share by what it saves. -/
def State.shedBy (s : State) (f : State → State) : State :=
  let before := s.enginesPower
  (f s).rechargeComp before

/-- Idle engines held by no job, hinted ones first (R475). -/
def State.looseEngines (s : State) : List (Nat × Nat) :=
  let all := ((List.range 9).map fun a => engIdx.map fun e => (a, e)).flatten.filter fun x =>
    (s.engOf x.1 x.2).st == .idle && (s.engOf x.1 x.2).job.isNone
  all.filter (fun x => (s.engOf x.1 x.2).hint.isSome) ++ all.filter fun x => (s.engOf x.1 x.2).hint.isNone

/-- Running engines that may be drained, those of the lowest District priority first, as long as their job keeps an engine in the share
(R475). -/
def State.drainOrder (s : State) : List (Nat × Nat) :=
  let all := ((List.range 9).map fun a => engIdx.map fun e => (a, e)).flatten.filter fun x =>
    let g := s.engOf x.1 x.2
    g.st == .running && !g.drain &&
      (match g.job with
       | some n => engIdx.any fun e => e != x.2 && (s.engOf x.1 e).job == some n && !(s.engOf x.1 e).drain
       | none => false)
  let pr := fun (x : Nat × Nat) => ((s.district (s.engOf x.1 x.2).district).map (·.priority)).getD 0
  ((List.range 16).map fun p => all.filter fun x => pr x == p).flatten

/-- Lower the clocks of running engines together by 10 MHz at a time, while compute is over its share (R475). -/
def State.lowerClocks (s : State) : Nat → State
  | 0 => s
  | k + 1 =>
    if 0 ≤ s.headroom ∨ !((List.range 9).any fun a => engIdx.any fun e => (s.engOf a e).st == .running && decide (100 < (s.engOf a e).fcur)) then s
    else (s.shedBy fun s => ({ s with pwr := { s.pwr with shed := s.pwr.shed + 1 } }).setAllClocks).lowerClocks k

/-- Drain engines one at a time until the share is kept; what a drained engine will save is counted now (R475). -/
def State.drainMany (s : State) : Nat → Int → State
  | 0, _ => s
  | k + 1, lack =>
    if lack ≤ 0 then s
    else match s.drainOrder.head? with
      | none => s
      | some x => (s.drainEngine x.1 x.2).drainMany k (lack - (s.engPower x.1 x.2 : Int))

/-- Shed compute in the order of R475. -/
def State.shedCompute (s : State) : State :=
  let s := { s with pwr := { s.pwr with stopped := true } }
  let s := s.looseEngines.foldl (fun s x => if s.headroom < 0 then s.shedBy fun s => s.engOff x.1 x.2 else s) s
  let s := s.lowerClocks 140
  s.drainMany 54 (-s.headroom)

/-- The compute power with every running engine at 1.0 GHz and every other engine gated, in mW (R475). -/
def State.compMin (s : State) : Nat :=
  let f := fun a e => let x := s.engOf a e
    if x.st = .running then coefOf .running (s.classOf x) 100 else coefOf .off 0 0
  let least := (List.range 9).foldl (fun n a => engIdx.foldl (fun n e => n + f a e) n) 0
  s.pwr.comp - s.enginesPower * s.pwr.gain / 65536 + least * s.pwr.gain / 65536

/-- `ACT_MIN` (R487). -/
def State.actMin (s : State) : Nat := s.regs.fld 0x78001C 23 16

/-- The activate cap halves, down to `ACT_MIN`; if that is not enough the cap cannot be met (R475). (DEDUCED, log entry 48.) -/
def State.squeezeMemory (s : State) : State :=
  let p := s.pwr
  let short : Bool := decide ((p.present.cap * 1000 : Int) - s.regs.fld 0x780000 5 0 * 1000 - p.links - s.compMin - p.mem < 0)
  if !short then s
  else if p.actCap = s.actMin then
    ({ s with pwr := { p with capUnmet := true } }).raiseLevel Src.power 0x01 (p.present.cap + inWatts s.estimate % 512 * 2 ^ 16)
  else { s with pwr := { p with actCap := max s.actMin ((if p.actCap = 0 then 256 else p.actCap) / 2) } }

/-- Restore in reverse order (R476). -/
def State.restorePower (s : State) : State :=
  let p := s.pwr
  let top := p.present.actCap
  if p.actCap ≠ top ∧ p.actCap ≠ 0 then
    let n := 2 * p.actCap
    { s with pwr := { p with actCap := if top = 0 then (if 256 ≤ n then 0 else n) else min n top } }
  else if 0 < p.shed then ({ s with pwr := { p with shed := p.shed - 1 } }).setAllClocks
  else { s with pwr := { p with stopped := false } }

/-- CAP_UNMET ends when the estimate has been at or below the cap for 1 ms (R476). -/
def State.capMet (s : State) : State :=
  if s.pwr.present.cap * 1000 < s.estimate then { s with pwr := { s.pwr with underSince := s.clock } }
  else if s.pwr.capUnmet ∧ s.pwr.underSince + 1000000 ≤ s.clock then
    ({ s with pwr := { s.pwr with capUnmet := false } }).endLevel Src.power 0x01
  else s

/-- POWER_ESTIMATE_TICK: the estimate, the energy of jobs and the budget (R469, R475, R476, R482, R483). -/
def execPowerEstimateTick (raw : PowerRaw) (s : State) : Host.Outcome State Fault Refusal :=
  .next (
    let s := (s.applyChanges.setAllClocks).takeEstimate raw
    let s := if s.headroom < 0 then s.shedCompute else s
    let s := s.squeezeMemory
    let s := if (2 * s.regs.fld 0x780000 5 0 * 1000 : Int) < s.headroom then s.restorePower else s
    s.capMet)

/-! ### Calibration -/

/-- CALIBRATION_TICK (R470). (DEDUCED, log entry 48.) -/
def execCalibrationTick (s : State) : Host.Outcome State Fault Refusal :=
  .next (
    let p := s.pwr
    let tap := if s.regs.fld 0x780018 0 0 = 0 then s.isl.tap0 else s.isl.tap1
    let meas : Int := ((tap : Int) - p.tapEnergy) - s.regs.fld 0x780018 26 16 * 100
    let est : Int := p.rawSum / 100
    let n := (s.isl.count + 65536 - p.tapCount) % 65536
    let ok : Bool := decide (9 ≤ n) && decide (n ≤ 11) && decide (0 < est) && decide (4 * est ≤ 5 * meas) && decide (4 * meas ≤ 5 * est)
    let ratio : Int := if 0 < est then meas * 65536 / est else 0
    let next := { p with tapEnergy := tap, tapCount := s.isl.count, rawSum := 0, ratio := ratio.toNat }
    if ok then
      let s := { s with pwr := { next with
        gain := ((p.gain : Int) + (ratio - p.gain) / 8).toNat, validRun := p.validRun + 1, invalidRun := 0, calFt := s.time.ft,
        calibrated := p.calibrated || decide (10 ≤ p.validRun + 1) } }
      let s := s.tally 0x780050 1
      if s.pwr.calibrated then s.endLevel Src.power 0x02 else s
    else
      let lost := p.calibrated && decide (3 ≤ p.invalidRun + 1)
      let s := { s with pwr := { next with
        validRun := 0, invalidRun := p.invalidRun + 1, invalidAt := some s.clock, calibrated := p.calibrated && !lost } }
      let s := { s with eng := { s.eng with jobs := s.eng.jobs.each fun _ j => { j with est := j.est || j.started.isSome } } }
      if lost then s.raiseLevel Src.power 0x02 (ratio.toNat % 2 ^ 32) else s)

/-- One regulator's answer; the third read in a row without one begins the condition (R468). -/
def State.pollOne (s : State) (rail : Nat) (answer : Option Nat) : State :=
  match answer with
  | some _ => { s with pwr := { s.pwr with missed := s.pwr.missed.del rail } }
  | none =>
    let k := (s.pwr.missed.get rail).getD 0 + 1
    let s := { s with pwr := { s.pwr with missed := s.pwr.missed.put rail (min k 3) } }
    if k = 3 then s.raiseLevel Src.power 0x06 (rail % 256) else s

/-- REGULATOR_POLL: answers by AVSBus segment × 16 + rail address; `none` is no answer (R468). -/
def execRegulatorPoll (answers : List (Nat × Option Nat)) (s : State) : Host.Outcome State Fault Refusal :=
  .next (
    let s := answers.foldl (fun s x => s.pollOne x.1 x.2) s
    if s.pwr.missed.any fun x => x.2 == 3 then s else s.endLevel Src.power 0x06)

/-! ### Hardware limits -/

/-- FAST_POWER_LIMIT (R471). -/
def execFastPowerLimit (s : State) : Host.Outcome State Fault Refusal :=
  .next (
    let s := (List.range 9).foldl (fun s a => engIdx.foldl (fun s e => s.gateEngine a e) s) s
    (({ s with pwr := { s.pwr with fastGated := true } }).tally 0x780058 1).raise Src.power 0x04 0xF)

/-- FAST_LIMIT_RELEASE (R471). -/
def execFastLimitRelease (s : State) : Host.Outcome State Fault Refusal :=
  .next { s with pwr := { s.pwr with fastGated := false } }

/-- JUNCTION_TRIP: the Avenue's engines are gated, and the activates of its channels are held at `ACT_MIN` while it lasts (R471). -/
def execJunctionTrip (av : Avenue) (s : State) : Host.Outcome State Fault Refusal :=
  .next (
    let s := engIdx.foldl (fun s e => s.gateEngine av e) s
    (s.setAv av { s.av av with tripped := true }).raise Src.power 0x04 (av + 2 ^ 8))

/-- JUNCTION_TRIP_RELEASE (R471). -/
def execJunctionTripRelease (av : Avenue) (s : State) : Host.Outcome State Fault Refusal :=
  .next (s.setAv av { s.av av with tripped := false })

/-! ### Heat -/

/-- A temperature as an 8-bit field, signed. -/
def tempByte (t : Int) : Nat := (t % 256).toNat

/-- `MGT_ALERT_N` is asserted: a Tj at or above `T_SHED`, CAP_UNMET, a lost central pair or an UNSERVED share, and the chip out of reset
(R559). The pin has no state of its own. (DEDUCED, log entry 9.) -/
def State.mgtAlert (s : State) : Bool :=
  !s.boot.resetLow &&
    ((List.range 9).any (fun a => decide (((s.regs.fld 0x780000 21 15 : Nat) : Int) ≤ (s.av a).tj)) || s.pwr.capUnmet ||
      (List.range 3).any (fun p => (s.core p).lost) || (List.range 8).any fun n => (s.share n).st == .unserved)

/-- Act on one Avenue's Tj (R473). (DEDUCED, log entry 49.) -/
def State.heatStep (s : State) (a : Nat) (t : Int) : State :=
  let x := s.av a
  let shed : Int := s.regs.fld 0x780000 21 15
  let s := s.setAv a { x with tj := t }
  let s := if shed ≤ t ∧ x.tj < shed then s.raise Src.power 0x03 (a + tempByte t * 256) else s
  let fast := engIdx.any fun e => ((s.engOf a e).st == .running || (s.engOf a e).st == .idle) && decide (100 < (s.engOf a e).fcur)
  if shed ≤ t then (if fast then (s.setAv a { s.av a with cool := x.cool + 1 }).setClocks a else s)
  else if t < shed - 3 ∧ 0 < x.cool then (s.setAv a { s.av a with cool := x.cool - 1 }).setClocks a
  else s

/-- THERMAL_STEP: the junction temperatures, by Avenue (R473). -/
def execThermalStep (tj : List (Nat × Int)) (s : State) : Host.Outcome State Fault Refusal :=
  .next ((tj.filter fun x => decide (x.1 < 9)).foldl (fun s x => s.heatStep x.1 x.2) s)

/-- NEIGHBOUR_LIMIT: the comparators report a pair out of the limits of R17; the hotter Avenue is given first. -/
def execNeighbourLimit (av other : Avenue) (volt temp : Bool) (s : State) : Host.Outcome State Fault Refusal :=
  .next (if !volt && !temp then s
    else (s.setAv av { s.av av with paired := true }).raiseLevel (Src.avenue av) 0x02 (other + volt.toNat * 16 + temp.toNat * 32))

/-- NEIGHBOUR_DRAIN: one engine of the hotter Avenue is drained, until the pair is back within its limits (R17, R473). -/
def execNeighbourDrain (av _other : Avenue) (inLimits : Bool) (s : State) : Host.Outcome State Fault Refusal :=
  .next (
    if inLimits then (s.setAv av { s.av av with paired := false }).endLevel (Src.avenue av) 0x02
    else if !(s.av av).paired then s
    else match (s.drainable av).head? with
      | some e => s.drainEngine av e
      | none => s)

/-- The 24-hour mean of an Avenue's Tj (R474). (DEDUCED, log entry 49.) -/
def Av.mean (x : Av) : Int := if x.temps.isEmpty then 0 else x.temps.foldl (· + ·) 0 / x.temps.length

/-- Does any mean exceed the limit (R474)? (DEDUCED, log entry 49.) -/
def State.tooWarm (s : State) : Bool := (List.range 9).any fun a => decide ((s.regs.fld 0x780000 29 22 : Int) < (s.av a).mean)

/-- TAVG_SAMPLE (R474). (DEDUCED, log entry 49.) -/
def execTavgSample (av : Avenue) (tj : Int) (s : State) : Host.Outcome State Fault Refusal :=
  .next (
    let x := s.av av
    let s := s.setAv av { x with temps := (tj :: x.temps).take 86400 }
    if s.tooWarm then { s with pwr := { s.pwr with overAt := s.clock } } else s)

/-- TSCHED_HOURLY (R474). (DEDUCED, log entry 49.) -/
def execTschedHourly (s : State) : Host.Outcome State Fault Refusal :=
  .next (
    if s.tooWarm then
      let s := if 85 < s.tSched then { s with pwr := { s.pwr with tDown := s.pwr.tDown + 1 } } else s
      let hot := (List.range 9).filter fun a => decide ((s.regs.fld 0x780000 29 22 : Int) < (s.av a).mean)
      hot.foldl (fun s a => s.raise Src.power 0x05 (a + tempByte (s.av a).mean * 2 ^ 8 + s.tSched * 2 ^ 16)) s
    else if s.pwr.overAt + 86400000000000 ≤ s.clock ∧ 0 < s.pwr.tDown then { s with pwr := { s.pwr with tDown := s.pwr.tDown - 1 } }
    else s)

/-- VDD_DROOP_STRETCH: the stretch changes no result, and is counted (R480). -/
def execVddDroopStretch (av : Avenue) (s : State) : Host.Outcome State Fault Refusal :=
  .next (s.tally (0x200000 + av * 0x40000 + 0x810) 1)

end Sys2Proof.Machine
end

