-- ==== Sys2Proof/Machine/Dram.lean ====
section
/-! DEFINITION. The DRAM tier: training (R257, R258), refresh (R264 to R267), roadworks pauses (R57, R58, R268, R269), the arbiters
(R270 to R274) and the controllers (R259 to R261). -/

namespace Sys2Proof.Machine

open Sys2Proof

/-! ### Training -/

/-- The shape of a channel: capacity, density, ranks and DIMMs (R258). -/
def geomShape (t : TrainResult) : Nat × Nat × Nat × Nat := (t.capGib, t.density, t.rk, t.dpc)

/-- The reference geometry: the one that most channels hold; among equals the one on the lowest channel (R258). (DEDUCED, log entry 50.) -/
def refGeom (ts : List TrainResult) : Option TrainResult :=
  let votes := fun (t : TrainResult) => (ts.filter fun x => geomShape x == geomShape t).length
  ts.foldl (fun b t => match b with
    | none => some t
    | some x => if votes x < votes t ∨ (votes x = votes t ∧ geomShape x ≠ geomShape t ∧ t.ch < x.ch) then some t else b) none

/-- The data rate of the pool: the highest that every DIMM supports; 6400 MT/s with two DIMMs on a channel (R257). -/
def poolRate (ts : List TrainResult) (dpc : Nat) : Nat := if dpc = 2 then 0 else ts.foldl (fun m t => min m t.rate) 3

/-- A channel ends training: in service, ordered for bring-up; or out of service with one notice (R258, R259). (DEDUCED, log entry 50.) -/
def State.trainChan (s : State) (g : TrainResult) (t : TrainResult) : State :=
  let ok := t.trained && (geomShape t == geomShape g)
  let c := s.chan t.ch
  if ok then s.setChan t.ch { c with inService := true, mode := 1, ordCause := 1 }
  else
    let s := s.setChan t.ch { c with inService := false, mode := 0, ordCause := 0 }
    let s := s.setCprot t.ch { s.cprot t.ch with st := 3, moved := 15 }
    s.raise (Src.channel t.ch) 0x05 ((t.trained && geomShape t != geomShape g).toNat + (!t.trained).toNat * 2)

/-- DRAM_TRAINING_DONE: all channels train in parallel, once firmware runs (R257, R258, R540). (DEDUCED, log entry 50.) -/
def execDramTrainingDone (results : List TrainResult) (s : State) : Host.Outcome State Fault Refusal :=
  .next (
    if !s.boot.fwReady || s.boot.trained then s
    else
      let ts := results.filter fun t => decide (t.ch < 16) && (s.servedBy (t.ch / 2)).isSome
      let good := ts.filter (·.trained)
      match refGeom good with
      | none => s
      | some g =>
        let g := { g with ch := 0, rate := poolRate good g.dpc }
        let s := ts.foldl (fun s t => s.trainChan g t) { s with dram := { s.dram with geom := g } }
        { s with boot := { s.boot with trained := true } })

/-! ### Refresh -/

/-- Is a channel refreshed by its controller: trained, in service, with an Avenue or the keeper behind it (R264, R266, R508)? -/
def State.refreshes (s : State) (m : Nat) : Bool := (s.chan m).inService && ((s.servedBy (m / 2)).isSome || (s.share (m / 2)).keeper)

/-- The key of a bank index of a rank and sub-channel (R265). -/
def bankKey (rank sc bank : Nat) : Nat := (rank * 2 + sc) * 4 + bank % 4

/-- The key of a bank for its activate count (R267). -/
def raaKey (rank sc bank : Nat) : Nat := (rank * 2 + sc) * 32 + bank % 32

/-- Issue every REFsb owed on a channel (R265, R266). -/
def State.issueOwed (s : State) (m : Nat) : State :=
  let c := s.chan m
  let n := c.owed.foldl (fun n e => n + e.2) 0
  let s := c.owed.foldl (fun s e => s.emits (List.replicate e.2 (Out.dram m 0 (e.1 / 8) (e.1 / 4 % 2) (e.1 % 4)))) s
  (s.setChan m { c with owed := [] }).tally (dcBase m + 0x48) n

/-- REFSB_DUE: a REFsb is issued, with those owed on its bank index; it is postponed in a pause, while no Avenue has the channel, and for
row hits up to four intervals (R264 to R266). `issue` is false when the bank set holds an open row with queued row hits. -/
def execRefsbDue (ch : Chan) (rank sc bank : Nat) (issue : Bool) (s : State) : Host.Outcome State Fault Refusal :=
  .next (
    let c := s.chan ch
    let k := bankKey rank sc bank
    let n := (c.owed.get k).getD 0
    if !c.inService then s
    else if !s.refreshes ch || c.pause || (!issue && decide (n < 4)) then s.setChan ch { c with owed := c.owed.put k (n + 1) }
    else
      let s := s.setChan ch { c with owed := c.owed.del k }
      (s.emits (List.replicate (n + 1) (Out.dram ch 0 rank sc (bank % 4)))).tally (dcBase ch + 0x48) n)

/-- RFM_ISSUE: outside a pause, the bank's activate count starts again (R267). -/
def execRfmIssue (ch : Chan) (rank sc bank : Nat) (s : State) : Host.Outcome State Fault Refusal :=
  .next (
    let c := s.chan ch
    if c.pause || !s.refreshes ch then s
    else (s.setChan ch { c with raa := c.raa.del (raaKey rank sc bank) }).emit (.dram ch 1 rank sc (bank % 32)))

/-- DIMM_TEMP_POLL: tREFI halves above 85 °C and returns at 83 °C (R264, R276). -/
def execDimmTempPoll (ch : Chan) (celsius : Int) (s : State) : Host.Outcome State Fault Refusal :=
  .next (
    let c := s.chan ch
    s.setChan ch { c with temp := celsius, hot := decide (85 < celsius) || (c.hot && decide (83 < celsius)) })

/-! ### Write drains -/

/-- WRITE_AGE_DRAIN: a drain starts in SERVICE for a write older than 8 µs or a queue at `WR_HIGH` (R260). -/
def execWriteAgeDrain (ch : Chan) (s : State) : Host.Outcome State Fault Refusal :=
  .next (
    let c := s.chan ch
    let high := s.regs.fld (dcBase ch + 8) 14 8
    let start := decide (high ≤ c.writes.length) || c.writes.any fun w => decide (w.since + 8000 < s.clock)
    if c.mode = 2 ∧ start then s.setChan ch { c with drain := true } else s)

/-! ### Roadworks -/

/-- The roadworks entry of a channel in force: start slot, every, phase, enable, and log2 of the cycle's slots (R55, R59). -/
def State.roadEntry (s : State) (m : Nat) : Nat × Nat × Nat × Bool × Nat :=
  match s.time.active with
  | none => (512 * m, 1, 0, true, 13)
  | some p =>
    let e := (p.road.get m).getD 0
    (bitsOf e 15 0, bitsOf e 19 16, bitsOf e 23 20, bitOf e 24, p.slotLog2)

/-- Does a window of a channel open at an instant of Fabric Time (R55)? -/
def State.opensAt (s : State) (m t : Nat) : Bool :=
  let e := s.roadEntry m
  let cycle := 128 * 2 ^ e.2.2.2.2
  e.2.2.2.1 && t % cycle == 128 * e.1 && e.2.1 != 0 && t / cycle % e.2.1 == e.2.2.1

/-- The first window of a channel that opens at or after an instant (R55): one of the next 15 cycles holds it. -/
def State.nextWindow (s : State) (m t : Nat) : Option Nat :=
  let e := s.roadEntry m
  let cycle := 128 * 2 ^ e.2.2.2.2
  ((List.range 17).map fun i => (t / cycle + i) * cycle + 128 * e.1).find? fun w => decide (t ≤ w) && s.opensAt m w

/-- The target of the present pause: its rank and its sub-channel (R268). -/
def State.pauseTarget (s : State) (m : Nat) : Nat :=
  (s.chan m).pauses / 4 % (2 * 2 ^ s.dram.geom.rk)

/-- The command of a task's work (R268). -/
def taskKind (p : Nat) : Nat := 4 + p % 4

/-- ROADWORKS_WINDOW_OPEN: the next window of the channel opens; the pause begins with a precharge-all and does the task of pause count p. The
window is skipped in a gap of the share and while the channel is evacuated (R57, R58, R268). -/
def execRoadworksWindowOpen (ch : Chan) (s : State) : Host.Outcome State Fault Refusal :=
  .next (
    match s.nextWindow ch s.time.ft with
    | none => s
    | some w =>
      let s := s.passTo (s.clock + (w - s.time.ft))
      let c := s.chan ch
      if !s.boot.trained || c.pause then s
      else if !c.inService || (s.cprot ch).st == 3 || (s.share (ch.val / 2)).st == .gap then s.tally (dcBase ch + 0x40) 1
      else
        let t := s.pauseTarget ch
        (((s.setChan ch { c with pause := true }).tally (dcBase ch + 0x38) 1).emit (.dram ch 3 0 0 0)).emit
          (.dram ch (taskKind c.pauses) (t / 2) (t % 2) 0))

/-- The largest correction by magnitude among a channel's targets (R276). -/
def worstCorr (t : Table Int) : Int := t.foldl (fun m e => if m.natAbs < e.2.natAbs then e.2 else m) 0

/-- ROADWORKS_PAUSE_END: refreshes that fell due are issued first. After task 1 the write strobe is corrected by the drift measured, in 1/256
UI, and held at ±0.25 UI (R265, R268, R269). -/
def execRoadworksPauseEnd (ch : Chan) (corr : Int) (s : State) : Host.Outcome State Fault Refusal :=
  .next (
    let c := s.chan ch
    if !c.pause then s
    else
      let t := s.pauseTarget ch
      let task := c.pauses % 4
      let s := s.setChan ch { c with pause := false, pauses := c.pauses + 1 }
      let s := if task = 1 then
          let c := s.chan ch
          let v := max (-64) (min 64 ((c.corr.get t).getD 0 + corr))
          let was := ((c.corr.get t).getD 0).natAbs
          let s := s.setChan ch { c with corr := c.corr.put t v, driftTarget := t }
          if v.natAbs = 64 ∧ was ≠ 64 then
            ({ s with regs := s.regs.setFld (dcBase ch) 11 11 1 }).raise (Src.channel ch) 0x04 (t / 2 + t % 2 * 16)
          else s
        else s
      s.issueOwed ch)

/-! ### The arbiters -/

/-- The burst limit in force at an arbiter (R271). -/
def State.burstLimit (s : State) (n : Nat) : Nat := s.regs.fld (dcBase (2 * n) + 0x100) 15 8

/-- ARB_CREDIT_PERIOD: each input's credit becomes its weight; a grant in progress goes on (R271, R272). -/
def execArbCreditPeriod (share : Share) (s : State) : Host.Outcome State Fault Refusal :=
  .next (
    let a := s.arb share
    s.setArb share { a with credits := (List.range 6).map fun i => s.regs.fld (dcBase (2 * share.val) + 0x104 + 4 * i) 11 0 })

/-- The inputs with an access ready (R271). -/
def Arb.waiting (a : Arb) : List Nat := (List.range 6).filter fun i => a.ready.any fun x => x.input == i

/-- The winner of an arbitration phase: the largest credit, a tie to the higher input; in compatibility ranking the highest input (R271). -/
def Arb.winner (a : Arb) (compat : Bool) : Option Nat :=
  let p := a.waiting
  let p := if !compat && p.any (· != 0) then p.filter (· != 0) else p
  p.foldl (fun b i => match b with
    | none => some i
    | some j => if compat || decide (a.credits.getD j 0 ≤ a.credits.getD i 0) then some i else some j) none

/-- Does input j rank ahead of input i (R271, R273)? -/
def Arb.ahead (a : Arb) (compat : Bool) (j i : Nat) : Bool :=
  if compat then decide (i < j)
  else decide (a.credits.getD i 0 < a.credits.getD j 0) || (a.credits.getD i 0 == a.credits.getD j 0 && decide (i < j))

/-- The turn estimates, in 8 ns, held at 4,095; 0 for the winner and for inputs that have nothing ready (R273). Bursts count at 64 bytes
over the pair's rate, and the rest of a pause is added where one is in progress. (DESIGN CHOICE, log entry 54.) -/
def State.estimates (s : State) (n : Nat) (owner : Nat) (limit : Nat) (compat : Bool) : List Nat :=
  let a := s.arb n
  let ready := fun i => (a.ready.filter fun x => x.input == i).length
  let rate := [6400, 7200, 8000, 8800].getD s.dram.geom.rate 6400 * 16
  let rest := if (s.chan (2 * n)).pause || (s.chan (2 * n + 1)).pause then Config.pauseLeft s.clock else 0
  (List.range 6).map fun i =>
    if i = owner ∨ ready i = 0 then 0
    else
      let bursts := min (ready owner) limit +
        (((List.range 6).filter fun j => j != i && j != owner && a.ahead compat j i).map fun j => min (ready j) limit).foldl (· + ·) 0
      min 4095 ((bursts * 64 * 1000 / rate + rest) / 8)

/-- Admit ready bursts of an input, oldest first, up to a number, into the controller queues; a full write queue takes no further write and a
full read queue no further read (R260, R271). -/
def State.admitAccesses (s : State) (n i : Nat) : Nat → List Access → State
  | _, [] => s
  | 0, _ => s
  | k + 1, x :: t =>
    if x.input ≠ i then s.admitAccesses n i (k + 1) t
    else
      let m := s.regs.chanOf x.line
      let c := s.chan m
      if 128 ≤ (if x.write then c.writes else c.reads).length then s.admitAccesses n i (k + 1) t
      else
        let a := s.arb n
        let s := s.setArb n { a with
          ready := a.ready.erase x, used := a.used + 1,
          credits := (List.range 6).map fun j => a.credits.getD j 0 - (if j = i then 1 else 0) }
        (s.setChan m (if x.write then { c with writes := c.writes ++ [x] } else { c with reads := c.reads ++ [x] })).admitAccesses n i k t

/-- ARB_GRANT_END: the winner of the phase takes the pair under the burst limit now in force, and its bursts are admitted. In recovery only
the want of accesses ends a grant (R271 to R274). -/
def execArbGrantEnd (share : Share) (s : State) : Host.Outcome State Fault Refusal :=
  .next (
    let compat := bitOf (s.regs.val (dcBase (2 * share.val) + 0x100)).toNat 0
    let recovery := (s.chan (2 * share.val)).ordCause == 3 && (s.chan (2 * share.val)).mode == 1
    let a := s.arb share
    match a.winner compat with
    | none => s.setArb share { a with owner := 7, used := 0 }
    | some w =>
      let limit := s.burstLimit share
      let est := s.estimates share w limit compat
      let s := s.setArb share { a with owner := w, used := 0, limit := limit, estimates := est }
      s.admitAccesses share w (if recovery then a.ready.length else limit) a.ready)

end Sys2Proof.Machine
end

