-- ==== Sys2Proof/Machine/Protection.lean ====
section
/-! DEFINITION. Data protection: DRAM reads and the inner code (R278 to R281, R284), reconstruction (R285, R291, R292), partial writes (R286
to R288, R293, R294), scrubbing (R296, R297), failed channels (R298 to R300), the error log (R301 to R303) and retirement (R304, R305). -/

namespace Sys2Proof.Machine

open Sys2Proof

/-! ### Channels and their reserve -/

/-- Lines of a channel (R262). -/
def State.chanLines (s : State) : Nat := s.dram.geom.capGib * 2 ^ 24
/-- Lines of a channel's reserve (R298). -/
def State.reserveLines (s : State) : Nat := s.chanLines * s.boot.spare / 64
/-- Lines of a slice of an evacuated channel (R300). -/
def State.sliceLines (s : State) : Nat := (s.chanLines - s.reserveLines + 14) / 15
/-- Lines that the detour of a bank takes (R304): those below the reserve. (DEDUCED, log entry 52.) -/
def State.bankLines (s : State) : Nat := (s.chanLines - s.reserveLines) / (64 * 2 ^ s.dram.geom.rk)

/-- Channels whose slices lie in the other channels' reserves (R300). -/
def State.evacuated (s : State) : Nat := ((List.range 16).filter fun m => (s.cprot m).st == 2 || (s.cprot m).st == 3).length

/-- Reserve lines of a channel that hold no detour (R309). -/
def State.reserveFree (s : State) (m : Nat) : Nat :=
  s.reserveLines - ((s.cprot m).detours.length * s.bankLines + s.evacuated * s.sliceLines)

/-- May a channel be evacuated: has every other channel, in service, room for a slice (R300)? -/
def State.evacOk (s : State) (m : Nat) : Bool :=
  (List.range 16).all fun j => j == m || ((s.cprot j).st == 0 && decide (s.sliceLines ≤ s.reserveFree j) && decide (0 < s.sliceLines))

/-- The slice of its channel in which a line lies (R300): lines that differ in local address bit 8 lie on different channels. -/
def State.sliceOf (s : State) (line : Nat) : Nat :=
  let l := localAddr (line * 64) / 64
  (l / 8 * 4 + l % 4) / max 1 s.sliceLines

/-- Has a line moved to a detour: its bank is detoured, or its slice has moved (R300, R304)? (DEDUCED, log entry 52.) -/
def State.detoured (s : State) (line : Nat) : Bool :=
  let la := localAddr (line * 64)
  let c := s.cprot (s.regs.chanOf line)
  c.detours.contains (rankOf s.dram.geom la, s.regs.scOf line, s.regs.bgOf la, s.regs.baOf la) || decide (s.sliceOf line < c.moved)

/-- Does a line lie on an ERASED channel, or in the unmoved part of a failed one that is evacuated (R284)? -/
def State.onErased (s : State) (line : Nat) : Bool :=
  let c := s.cprot (s.regs.chanOf line)
  (c.st == 1 || (c.st == 2 && !c.byDriver)) && !s.detoured line

/-- An error record about a data line, with `DETOUR` (R301). -/
def State.errLine (s : State) (type line : Nat) : ErrRec := { s.errAt type line with detour := s.detoured line }

/-- A record about a channel (R301, R302). -/
def State.errChan (s : State) (type m : Nat) : ErrRec :=
  { seq := 0, ft := s.time.ft, type := type, test := false, parity := false, detour := false, ch := m, sc := 0, rank := 0, bg := 0, ba := 0,
    row := 0, col := 0, device := 15, line := 0, district := 0, count := 1, detail := 0, strength := 3, share := m / 2 }

/-- Start an evacuation (R300). (DEDUCED, log entry 52.) -/
def State.evacStart (s : State) (m : Nat) (byDriver : Bool) (cmd : Option Cmd) : State :=
  s.setCprot m { s.cprot m with st := 2, byDriver := byDriver, moved := 0, evacCmd := cmd }

/-- Declare a channel failed (R299, R310). A channel that the driver was evacuating goes on from its codes. (DEDUCED, log entry 51.) -/
def State.failChannel (s : State) (m : Nat) : State :=
  let c := s.cprot m
  if c.st = 1 ∨ c.st = 3 ∨ (c.st = 2 ∧ !c.byDriver) ∨ !(s.chan m).inService then s
  else
    let other := m / 2 * 2 + (1 - m % 2)
    let begun := c.st == 2 || (bitOf (s.regs.val 0x10144).toNat 8 && (s.cprot other).st == 0 && s.evacOk m)
    let s := if c.st = 2 then s.setCprot m { c with byDriver := false }
      else if begun then s.evacStart m false none
      else s.setCprot m { c with st := 1 }
    (s.logErr (s.errChan 6 m)).raise (Src.channel m) 0x01 begun.toNat

/-- CHANNEL_FAILED (R299). (DEDUCED, log entry 51.) -/
def execChannelFailed (ch : Chan) (s : State) : Host.Outcome State Fault Refusal := .next (s.failChannel ch)

/-- EVAC_SLICE_DONE: the next slice has moved; after the fifteenth the channel is RETIRED (R300). (DEDUCED, log entry 52.) -/
def execEvacSliceDone (ch : Chan) (s : State) : Host.Outcome State Fault Refusal :=
  .next (
    let c := s.cprot ch
    if c.st ≠ 2 then s
    else if c.moved < 14 then s.setCprot ch { c with moved := c.moved + 1 }
    else
      let s := s.setCprot ch { c with st := 3, moved := 15, evacCmd := none }
      let s := (s.setChan ch { s.chan ch with mode := 0, ordCause := 0 }).logErr (s.errChan 7 ch)
      match c.evacCmd with
      | some k => (s.logErr { s.errChan 8 ch with detail := 3 }).finish k (recOf k Cs.done 0 0)
      | none => s)

/-! ### Reading a line -/

/-- Count an uncorrectable line of a channel; more than `CH_FAIL_UE` of them within 1 ms fail it (R299, R309). (DEDUCED, log entry 51.) -/
def State.countUe (s : State) (m : Nat) : State :=
  let s := s.tally (dcBase m + 0x58) 1
  let c := s.cprot m
  let fresh := decide (c.ueFrom + 1000000 ≤ s.clock) || c.ueCount == 0
  let n := if fresh then 1 else c.ueCount + 1
  let s := s.setCprot m { c with ueCount := n, ueFrom := if fresh then s.clock else c.ueFrom }
  if s.regs.fld 0x10144 7 0 < n then s.failChannel m else s

/-- Write the poison mark to a line in DRAM (R280). -/
def State.markPoison (s : State) (line : Nat) : State :=
  ({ s with mem := { s.mem with poison := s.mem.poison.ins line } }).tallyAv (s.regs.home (line * 64)) 0x720

/-- May a corrected line be written back (R296)? -/
def State.mayWriteBack (s : State) (line : Nat) : Bool :=
  !((s.mem.cache.get line).map (·.dirty)).getD false &&
  !((s.arb (s.regs.home (line * 64))).ready.any fun x => x.line == line && x.write) &&
  !((s.chan (s.regs.chanOf line)).writes.any fun x => x.line == line) &&
  !(s.prot.updates.any fun u => u.line == line && u.oldRead && !u.issued)

/-- The device field of what the inner code found: 1 to 10 is an error corrected in device 0 to 9, 11 an error of two or more devices, and
anything above that an error of unknown place (R301). (DESIGN CHOICE, log entry 59.) -/
def deviceOf (bad : Nat) : Nat := if bad = 0 then 15 else if bad ≤ 10 then bad - 1 else if bad = 11 then 14 else 15

/-- A line that its page code must rebuild joins its page's reconstruction, or starts one (R285). (DEDUCED, log entry 51.) -/
def State.startRecon (s : State) (line : Nat) : State :=
  let f := line / 64
  let r := (s.prot.recons.get f).getD ⟨[], false⟩
  { s with prot := { s.prot with recons := s.prot.recons.put f { r with bad := if r.bad.contains line then r.bad else r.bad ++ [line] } } }

/-- What a DRAM read of a line finds and leads to: 0 a correct line, 1 to 10 a corrected one, above that an uncorrectable one. The second
part says whether the line's value, or its mark, is at hand (R284, R296). (DESIGN CHOICE, log entry 59.) -/
def State.decodeLine (s : State) (line bad : Nat) : State × Bool :=
  let m := s.regs.chanOf line
  let n := s.regs.home (line * 64)
  let erased := s.onErased line
  if s.mem.poison.contains line then (s, true)
  else if bad = 0 ∧ !erased then (s, true)
  else if bad ≤ 10 ∧ !erased then
    let s := (s.tallyAv n 0x710).tally (dcBase m + 0x50) 1
    let s := s.logNotice { s.errLine 1 line with device := deviceOf bad }
    (if s.mayWriteBack line then s.dramWrite line (s.mem.dramLine line) false else s, true)
  else
    let s := if erased then s else s.countUe m
    if s.mem.parityLost.contains (line / 64) then
      ((s.markPoison line).logNotice { s.errLine 3 line with device := deviceOf bad, detail := 1 }, true)
    else (s.startRecon line, false)

/-- Let the partial writes go on whose old value is known (R287). -/
def State.pumpUpdates (s : State) : State := s.prot.updates.foldl (fun s u => s.issueUpdate u.line) s

/-- A line has come from DRAM: it enters the line cache, and what waited for it goes on (R284, R287). -/
def State.deliverLine (s : State) (line : Nat) : State :=
  let s := if s.mem.cache.has line then s
    else { s with mem := { s.mem with cache := s.mem.cache.put line ⟨s.mem.dramLine line, false, s.mem.poison.contains line, false⟩ } }
  let here := fun (p : Pend) => p.lines.all fun l => s.mem.cache.has l
  let ready := s.coh.fetch.filter here
  let s := { s with coh := { s.coh with fetch := s.coh.fetch.filter fun p => !here p } }
  let lost := s.mem.poison.contains line && s.prot.updates.any fun u => u.line == line && !u.oldRead
  let s := if lost && !s.mem.parityLost.contains (line / 64) then
      ({ s with mem := { s.mem with parityLost := s.mem.parityLost.ins (line / 64) } }).logNotice (s.errLine 4 line)
    else s
  let s := { s with prot := { s.prot with updates := s.prot.updates.map fun (u : Update) => if u.line = line then { u with oldRead := true } else u } }
  ((s.issueUpdate line).atHomeAll ready).finishUpdates.settleBusy

/-- Is a DRAM read of a line under way? -/
def State.reading (s : State) (line : Nat) : Bool :=
  ((s.arb (s.regs.home (line * 64))).ready.any fun x => x.line == line && !x.write) ||
  ((s.chan (s.regs.chanOf line)).reads.any fun x => x.line == line)

/-- DRAM_READ_DONE (R284). A channel out of an Avenue's hands answers nothing. (DEDUCED, log entry 50; DESIGN CHOICE, log entry 59.) -/
def execDramReadDone (line : Nat) (bad : Nat) (s : State) : Host.Outcome State Fault Refusal :=
  .next (
    if !s.reading line || (s.share (s.regs.home (line * 64))).st == .gap then s
    else
      let r := ((s.accessDone line false).tally (dcBase (s.regs.chanOf line) + 0x20) 1).decodeLine line bad
      if r.2 then r.1.deliverLine line else r.1)

/-! ### Reconstruction -/

/-- Updates of a page that are in flight (R285). -/
def State.inFlight (s : State) (f : Nat) : Bool :=
  s.prot.updates.any fun u => u.line / 64 == f && u.issued && (!u.owes.isEmpty || !u.queued.isEmpty)

/-- PAGE_QUIESCED: no update of the page is in flight, and every share's memory is served (R285). -/
def execPageQuiesced (frame : Nat) (s : State) : Host.Outcome State Fault Refusal :=
  .next (match s.prot.recons.get frame with
    | none => s
    | some r =>
      if s.inFlight frame || (List.range 8).any fun k => !s.isOpen k then s
      else { s with prot := { s.prot with recons := s.prot.recons.put frame { r with quiet := true } } })

/-- Are the memory chips behind a parity line lost (R284)? -/
def State.parityErased (s : State) (f j : Nat) : Bool :=
  let c := s.cprot (parityChan f j)
  c.st == 1 || (c.st == 2 && !c.byDriver)

/-- The lines of a page that a reconstruction treats as erasures: data lines by number, and how many parity lines (R285). -/
def State.erasures (s : State) (f : Nat) (r : Recon) (failed : List Nat) : List Nat × Nat :=
  let n := parityLines (s.frameStrength f)
  let known := fun (l : Nat) => r.bad.contains l || s.onErased l || failed.contains (l % 64)
  let gone := fun (j : Nat) => ((s.prot.erased.get f).getD []).contains j || s.parityErased f j || failed.contains (64 + j)
  (((List.range 64).map fun i => f * 64 + i).filter known, ((List.range n).filter gone).length)

/-- Leaf entries of the depot line that holds a page's entry: the eight of its table (R292, code 1). -/
def State.leafGroup (s : State) (key : Nat) : List (Nat × Leaf) :=
  match s.maps.pages.get key with
  | none => []
  | some l =>
    let n := leafPages l.size
    s.maps.pages.filter fun e => e.2.size == l.size && e.1 / 2 ^ 36 == key / 2 ^ 36 && e.1 % 2 ^ 36 / n / 8 == key % 2 ^ 36 / n / 8

/-- Frames that are not to be allocated again. -/
def State.keepFrames (s : State) (fs : List Nat) : State := { s with prot := { s.prot with retired := fs.foldl NatSet.ins s.prot.retired } }

/-- The backing line of a Crossing is lost (R292). -/
def State.loseCrossing (s : State) (key : Nat) : State :=
  match s.crossing key with
  | some c => s.setCrossing key { c with lost := true }
  | none => s

/-- What a lost depot line leads to, by the code of the structure and the key of what it held (R292). (DESIGN CHOICE, log entry 53.) -/
def State.depotLost (s : State) (code key : Nat) : State :=
  if code = 1 then
    let es := s.leafGroup key
    let s := { s with maps := { s.maps with lostLeaves := es.foldl (fun t (e : Nat × Leaf) => NatSet.ins t e.1) s.maps.lostLeaves } }
    s.keepFrames ((es.filter fun (e : Nat × Leaf) => !e.2.tiered || e.2.resident).map fun (e : Nat × Leaf) => (List.range (leafPages e.2.size)).map (e.2.addr + ·)).flatten
  else if code = 2 then
    let ks := (List.range 8).map (key / 8 * 8 + ·)
    let s := { s with ms := { s.ms with lostMaps := ks.foldl NatSet.ins s.ms.lostMaps } }
    s.keepFrames ((ks.filterMap fun k => s.ms.maps.get k).filterMap fun e =>
      if !e.absent && !e.flash && !e.copying && ((s.ms.copies.get e.addr).map (·.refs)) == some 1 then some e.addr else none)
  else if code = 3 then
    { s with maps := { s.maps with windows := (s.maps.windows.del (key / 2 * 2)).del (key / 2 * 2 + 1) } }
  else if code = 4 then s.startErase key none
  else if code = 5 then
    s.loseCrossing key
  else if code = 6 then s.signalAll key 2
  else if code = 7 then
    { s with host := { s.host with
        retained := s.host.retained.del key,
        lostRetain := s.host.lostRetain.put key (s.clock + s.regs.fld 0x22010 5 0 * 1000000000) } }
  else if code = 8 then s.setShare key { s.share key with copyLost := true }
  else if code = 10 then { s with prot := { s.prot with log := s.prot.log.filter fun r => r.seq / 2 != key / 2 } }
  else if code = 11 then
    (if s.flash.poison.has key then { s with flash := { s.flash with poison := s.flash.poison.put key (BitVec.allOnes 64) } } else s)
  else if code = 12 then { s with avail := { s.avail with staged := none } }
  else s

/-- The District that a lost depot structure concerns (R292). (DESIGN CHOICE, log entry 53.) -/
def State.depotDistrict (s : State) (code key : Nat) : Option Nat :=
  let d := if code = 1 then key / 2 ^ 36 else if code = 2 then key / 2 ^ 40
    else if code = 3 then ((s.maps.windows.get key).map (·.district)).getD 0
    else if code = 4 then key else if code = 5 ∨ code = 6 then ((s.crossing key).map (·.district)).getD 0 else 0
  if d = 0 then none else some d

/-- RECONSTRUCT_DONE: the lines that failed the inner code (data 0 to 63, parity 64 on) and those known to be bad are e erasures. The decode
rebuilds them when e ≤ S and the spare syndromes agree; otherwise the lines are poisoned and the page is PARITY_LOST (R285, R291, R292).
(DEDUCED, log entry 51.) -/
def execReconstructDone (frame : Nat) (failed : List Nat) (syndrome : Bool) (depot : Nat × Nat) (s : State) : Host.Outcome State Fault Refusal :=
  .next (match s.prot.recons.get frame with
    | none => s
    | some r =>
      if !r.quiet then s
      else
        let n := parityLines (s.frameStrength frame)
        let x := s.erasures frame r failed
        let e := x.1.length + x.2
        let first := (r.bad.head?).getD (frame * 64)
        let device := if failed.isEmpty then 15 else 14
        let s := s.tallyAv (s.regs.home (first * 64)) 0x718
        let s := { s with prot := { s.prot with recons := s.prot.recons.del frame } }
        let s := if e ≤ n ∧ !(decide (e < n) && syndrome) then
            let s := { s with prot := { s.prot with erased := s.prot.erased.del frame } }
            let s := x.1.foldl (fun s l => if s.onErased l || !s.mayWriteBack l then s else s.dramWrite l (s.mem.dramLine l) false) s
            s.logNotice { s.errLine 2 first with device := device, detail := min e 255 }
          else
            let s : State := x.1.foldl (fun s l => s.markPoison l) s
            let s := { s with mem := { s.mem with parityLost := s.mem.parityLost.ins frame } }
            let s := s.logNotice { s.errLine 3 first with device := device, detail := min e 255 }
            if s.frameDistrict frame ≠ 0 ∨ depot.1 = 0 then s
            else
              let h := s.regs.home (first * 64)
              (s.raise (Src.avenue ((s.servedBy h).getD h)) 0x0A depot.1 (s.depotDistrict depot.1 depot.2)).depotLost depot.1 depot.2
        (r.bad.foldl (fun s l => s.deliverLine l) s).pumpUpdates.finishUpdates)

/-! ### Parity updates -/

/-- The state with every update of a frame changed. -/
def State.mapUpdates (s : State) (f : Nat) (g : Update → Update) : State :=
  { s with prot := { s.prot with updates := s.prot.updates.map fun u => if u.line / 64 = f ∧ u.issued then g u else u } }

/-- PARITY_DELTA: the delta joins the parity line's read-modify-write. It waits while the parity share's memory is not connected; a parity
line that is erased, or lies on an erased channel, takes none (R287, R288, R294). -/
def execParityDelta (frame par line : Nat) (s : State) : Host.Outcome State Fault Refusal :=
  .next (
    if (s.share (parityShare frame par)).st = .gap then s
    else
      let skip := ((s.prot.erased.get frame).getD []).contains par || s.parityErased frame par
      (s.mapUpdates frame fun u => if u.line = line ∧ u.owes.contains par then
          { u with owes := u.owes.filter (· != par), queued := if skip then u.queued else u.queued ++ [par] }
        else u).finishUpdates)

/-- PARITY_RMW_DONE: the parity line has been written, with every delta that had joined; or its old value failed the inner code, and it is
recorded as erased, to be re-encoded (R287, R288). -/
def execParityRmwDone (frame par : Nat) (bad : Bool) (s : State) : Host.Outcome State Fault Refusal :=
  .next (
    if !(s.prot.updates.any fun u => u.line / 64 == frame && u.queued.contains par) then s
    else
      let m := parityChan frame par
      let s := s.mapUpdates frame fun u => { u with queued := u.queued.filter (· != par) }
      let s := if bad then
          let es := (s.prot.erased.get frame).getD []
          { s with prot := { s.prot with erased := s.prot.erased.put frame (if es.contains par then es else es ++ [par]) } }
        else
          (s.tally (dcBase m + 0x28) 1).flipWrite m (bitsOf (Config.parityPlace frame par) 0 0) (2 ^ 60 + frame * 16 + par) true
            (Config.parityLa frame par)
      s.finishUpdates.pumpUpdates)

/-- PARITY_REENCODE: once the page is quiet, the parity line is computed again from the page's data lines; where a data line fails the inner
code the page becomes PARITY_LOST (R288, R294, R310). -/
def execParityReencode (frame par : Nat) (bad : Bool) (s : State) : Host.Outcome State Fault Refusal :=
  .next (
    let es := (s.prot.erased.get frame).getD []
    if !es.contains par || s.inFlight frame || (s.prot.recons.has frame) then s
    else
      let left := es.filter (· != par)
      let s := { s with prot := { s.prot with erased := if left.isEmpty then s.prot.erased.del frame else s.prot.erased.put frame left } }
      if bad then
        ({ s with mem := { s.mem with parityLost := s.mem.parityLost.ins frame } }).logNotice (s.errParity 4 frame par)
      else
        let m := parityChan frame par
        let s := (s.tallyAv (parityShare frame par) 0x730).tally (dcBase m + 0x28) 1
        (s.flipWrite m (bitsOf (Config.parityPlace frame par) 0 0) (2 ^ 60 + frame * 16 + par) true (Config.parityLa frame par)).logNotice
          { s.errParity 2 frame par with detail := 1 })

/-! ### Scrubbing -/

/-- SCRUB_LINE: the scrubber reads a line through input 0. It pauses in a fail-over gap and skips erased channels; a lap runs from one visit
of the share's first line to the next (R296, R297). (DESIGN CHOICE, log entry 59.) -/
def execScrubLine (share : Share) (line : Nat) (bad : Nat) (s : State) : Host.Outcome State Fault Refusal :=
  .next (
    let x := s.scrub share
    let l := localAddr (line * 64) / 64
    if s.regs.home (line * 64) ≠ share.val ∨ !s.isOpen share ∨ s.avFld share 0x704 0 0 = 0 ∨ s.onErased line then s
    else
      let wrap := decide (l < x.last)
      let s := s.setScrub share (if wrap then
          { laps := min 0xFFFF (x.laps + 1), lapStart := s.clock, last := l, seconds := (s.clock - x.lapStart) / 1000000000, warned := false }
        else { x with last := l, lapStart := if x.last = 0 ∧ x.laps = 0 ∧ x.lapStart = 0 then s.clock else x.lapStart })
      let s := if wrap && x.warned then s.endLevel (Src.avenue ((s.servedBy share).getD share)) 0x09 else s
      let s := (s.tallyAv share 0x738).tally (dcBase (s.regs.chanOf line) + 0x20) 1
      (s.decodeLine line bad).1)

/-- SCRUB_LAP_WARN (R297). -/
def execScrubLapWarn (share : Share) (s : State) : Host.Outcome State Fault Refusal :=
  .next (
    let x := s.scrub share
    if x.warned || s.avFld share 0x704 0 0 = 0 then s
    else
      let s := s.passTo (x.lapStart + s.avFld share 0x704 31 16 * 3600000000000 + 1)
      (s.setScrub share { x with warned := true }).raiseLevel (Src.avenue ((s.servedBy share).getD share)) 0x09
        ((s.clock - x.lapStart) / 1000000000))

/-! ### Retirement -/

/-- The place in DRAM that MEM_RETIRE names (R304): bytes 14 to 19 of an error record. -/
structure Locator where
  ch : Nat
  sc : Nat
  rank : Nat
  bg : Nat
  ba : Nat
  row : Nat

/-- Read a locator. -/
def locatorOf (v : Nat) : Locator := ⟨bitsOf v 3 0, bitsOf v 4 4, bitsOf v 7 5, bitsOf v 10 8, bitsOf v 12 11, bitsOf v 32 16⟩

/-- The base address bit of a mapped field, set so that the field takes a value (R263). -/
def Regs.undo (g : Regs) (k la value : Nat) : Nat := if g.mapped k la = value % 2 then la else la + 2 ^ (8 + k)

/-- The physical line at a local address of a share (R18, R20): one of eight. -/
def Regs.lineAt (g : Regs) (share la : Nat) : Option Nat :=
  (((List.range 8).map fun h => la / 256 * 2048 + h * 256 + la % 256).find? fun pa => g.home pa == share).map (· / 64)

/-- The lines of a row (R262): 128 of them. -/
def State.rowLines (s : State) (x : Locator) : List Nat :=
  (List.range 128).filterMap fun i =>
    let la := i % 4 * 64 + i / 4 * 2 ^ 15 + x.rank * 2 ^ 20 + x.row * 2 ^ (20 + s.dram.geom.rk)
    let want := [x.ch % 2, x.sc, x.bg % 2, x.bg / 2 % 2, x.bg / 4 % 2, x.ba % 2, x.ba / 2 % 2]
    let la := (List.range 7).foldl (fun v k => s.regs.undo k v (want.getD k 0)) la
    s.regs.lineAt (x.ch / 2) la

/-- Split a leaf into leaves of the next smaller size, so that one 4 KiB page of it can move. (DEDUCED, log entry 52.) -/
def State.splitLeaf (s : State) (d first : Nat) (l : Leaf) : State :=
  let n := leafPages (l.size - 1)
  (List.range 512).foldl (fun s i => s.setLeaf d (first + i * n) { l with size := l.size - 1, addr := l.addr + i * n }) s

/-- Split the leaf that covers a frame, where it is larger than a page. -/
def State.splitOnce (s : State) (f : Nat) : State :=
  match s.maps.ownerOf f with
  | some (d, first, l) => if l.size = 0 then s else s.splitLeaf d first l
  | none => s

/-- Make the page of a frame a leaf of its own. -/
def State.isolate (s : State) (f : Nat) : State := (s.splitOnce f).splitOnce f

/-- What retiring a page moves: nothing, a District page, or a copy page. -/
inductive Move where
  | page (d page old new : Nat)
  | copy (old new : Nat)
  deriving DecidableEq, Repr

/-- Take a new frame of the same colour for each frame that holds a page (R304); `none` where there is no free page of a colour. (DEDUCED,
log entry 52.) -/
def State.planMoves (s : State) : List Nat → Option (State × List Move)
  | [] => some (s, [])
  | f :: t =>
    let colour := s.regs.colour (f * 4096)
    match s.maps.ownerOf f, s.ms.copies.get f with
    | some (d, first, l), _ =>
      match s.allocRun 1 colour l.strength with
      | none => none
      | some (new, s) => (s.planMoves t).map fun r => (r.1, Move.page d (first + (f - l.addr)) f new :: r.2)
    | none, some c =>
      match s.allocRun 1 colour c.strength with
      | none => none
      | some (new, s) => (s.planMoves t).map fun r => (r.1, Move.copy f new :: r.2)
    | none, none => s.planMoves t

/-- Move a copy page, and every Milestone map entry that names it (R304). -/
def State.moveCopy (s : State) (old new : Nat) : State :=
  let s := (s.copyFrame old new []).dropFrames old 1
  match s.ms.copies.get old with
  | none => s
  | some c => { s with ms := { s.ms with
      copies := (s.ms.copies.del old).put new c,
      maps := s.ms.maps.each fun _ e => if !e.absent && !e.flash && e.addr == old then { e with addr := new } else e } }

/-- Retire frames: their content moves, and they are never allocated again (R304). The command completes after the last move. (DEDUCED, log
entry 52.) -/
def State.retireFrames (s : State) (c : Cmd) (fs : List Nat) : State :=
  let s := fs.foldl (fun s f => s.isolate f) (s.keepFrames fs)
  match s.planMoves fs with
  | none => s.endWith c (Cs.refusedResource, 0)
  | some (s, ms) =>
    let kept := recOf c Cs.done 0 0
    let s := ms.foldl (fun (s : State) m => match m with
      | .copy old new => s.moveCopy old new
      | .page d p old new =>
        let x : Drain :=
          { cmd := c, district := d, first := p, last := p, window := none, needSearch := true, translated := false, stamp := s.coh.stamp,
            kept := kept, unmap := false, moves := [(old, new)], unbind := false }
        { s with maps := { s.maps with drains := s.maps.drains ++ [x] } }) s
    if ms.any fun m => match m with | .page _ _ _ _ => true | .copy _ _ => false then s
    else (s.logErr { s.errChan 8 15 with detail := c.d.p0 % 4, line := (fs.head?.getD 0) * 64 }).finish c kept

/-- MEM_RETIRE (R304, R305). (DEDUCED, log entry 52.) -/
def execMemRetire (c : Cmd) (s : State) : Host.Outcome State Fault Refusal :=
  .next (
    let scope := bitsOf c.d.p0 1 0
    let x := locatorOf c.d.p1
    let g := s.dram.geom
    let out := decide (2 ^ g.rk ≤ x.rank) && scope != 3 || (scope == 1 && decide (2 ^ geomRw g ≤ x.row))
    let frames := if scope = 0 then [bitsOf c.d.p2 45 0 / 64] else if scope = 1 then ((s.rowLines x).map (· / 64)).eraseDups else []
    let p := s.cprot x.ch
    let other := x.ch / 2 * 2 + (1 - x.ch % 2)
    let full := decide (16 ≤ p.detours.length) || decide (s.reserveFree x.ch < s.bankLines)
    s.command c .g (lowestOf [
      chk (scope == 3 && (p.st != 0 || (s.cprot other).st != 0)) Cs.refusedState,
      chk ((decide (scope ≤ 1) && (s.planMoves frames).isNone) || (scope == 2 && full) || (scope == 3 && !s.evacOk x.ch)) Cs.refusedResource,
      chk (decide (1 ≤ scope) && out) Cs.refusedParam]) fun s =>
    if scope ≤ 1 then s.retireFrames c frames
    else if scope = 2 then
      let p := s.cprot x.ch
      let bank := (x.rank, x.sc, x.bg, x.ba)
      let s := s.setCprot x.ch { p with detours := if p.detours.contains bank then p.detours else p.detours ++ [bank] }
      (s.logErr { s.errChan 8 x.ch with detail := 2, sc := x.sc, rank := x.rank, bg := x.bg, ba := x.ba }).done c 0
    else s.evacStart x.ch true (some c))

/-! ### The error log -/

/-- The 32 bytes of a record (R301). -/
def ErrRec.bytes (r : ErrRec) : List Byte :=
  leBytes 4 r.seq ++ leBytes 8 r.ft ++ leBytes 1 r.type ++ leBytes 1 (r.test.toNat + r.parity.toNat * 2 + r.detour.toNat * 4) ++
  leBytes 1 (r.ch % 16 + r.sc % 2 * 16 + r.rank % 8 * 32) ++ leBytes 1 (r.bg % 8 + r.ba % 4 * 8) ++
  leBytes 4 (r.row % 2 ^ 17 + r.col % 128 * 2 ^ 17 + r.device % 16 * 2 ^ 24) ++
  leBytes 8 (r.line % 2 ^ 46 + r.district % 1024 * 2 ^ 46 + r.count % 256 * 2 ^ 56) ++ leBytes 1 r.detail ++ leBytes 1 r.strength ++
  leBytes 2 r.share

/-- The oldest record kept (R303); with an empty log the spec gives no number. -/
def State.oldestErr (s : State) : Nat := ((s.prot.log.head?).map (·.seq)).getD Config.noRecord
/-- The newest record (R303). -/
def State.newestErr (s : State) : Nat := ((s.prot.log.getLast?).map (·.seq)).getD Config.noRecord

/-- ERRLOG_READ (R303). -/
def execErrlogRead (c : Cmd) (s : State) : Host.Outcome State Fault Refusal :=
  .next (
    let n := bitsOf c.d.p0 44 32
    s.command c .pf (chk (n == 0 || decide (4096 < n)) Cs.refusedParam) fun s =>
    let rs := (s.prot.log.filter fun r => decide (bitsOf c.d.p0 31 0 ≤ r.seq)).take n
    s.writeBuf c (rs.map (·.bytes)).flatten
      (recOf c Cs.done 0 (rs.length + s.oldestErr % 2 ^ 32 * 2 ^ 32 + s.newestErr % 2 ^ 32 * 2 ^ 64)))

end Sys2Proof.Machine
end

