-- ==== Sys2Proof/Machine/Startup.lean ====
section
/-! DEFINITION. Reset, the firmware push and bring-up (R290, R532 to R544, R562). -/

namespace Sys2Proof.Machine

open Sys2Proof

/-! ### Reset -/

/-- The chip as CHIP_RESET_N finds it: everything but the metering island and the model's own fields at reset (R533). (DEDUCED, log entry
55.) -/
def State.chipReset (s : State) : State := { State.reset with pending := s.pending, free := s.free, out := s.out, isl := s.isl }

/-- CHIP_RESET_ASSERT: everything on the die but the island is reset, and while CHIP_RESET_N is low the outputs are inactive (R533). -/
def execChipResetAssert (s : State) : Host.Outcome State Fault Refusal :=
  .next (let s := s.chipReset; { s with boot := { s.boot with resetLow := true } })

/-- CHIP_RESET_RELEASE: the ROM runs on both security cores; SC-A boots unless its test fails (R536, R542). -/
def execChipResetRelease (scaOk scbOk : Bool) (s : State) : Host.Outcome State Fault Refusal :=
  .next (
    if !s.boot.resetLow then s
    else
      let perst := s.boot.perst
      let s := s.chipReset
      { s with boot := { s.boot with
          perst := perst,
          st := if scaOk || scbOk then .wait else .failed,
          code := if scaOk || scbOk then 0 else 5,
          sc := if scaOk then 0 else if scbOk then 1 else 0 } })

/-- SYS_CLK_LOSS: contents are lost, and the pool waits for CHIP_RESET_N with its outputs inactive (R562). -/
def execSysClkLoss (s : State) : Host.Outcome State Fault Refusal :=
  .next (let low := s.boot.resetLow
         let s := s.chipReset
         { s with boot := { s.boot with resetLow := low, clockLost := true } })

/-! ### The push -/

/-- A write of `GO` (R536, R537): taken in WAIT and FAILED; after both ROM tests have failed there is no core to take it. -/
def State.bootGo (s : State) (port : Nat) (val : Word) : State :=
  let b := s.boot
  if b.resetLow || b.clockLost || b.code == 5 then s
  else if b.st = .wait ∨ b.st = .failed then
    (if val.getLsbD 0 then { s with boot := { b with st := .loading, code := 0, port := port } } else s)
  else if b.fwReady then s.writeIgnored 0x4C val.toNat
  else s

/-- BOOT_GO (R536, R537). -/
def execBootGo (port : HPort) (val : Word) (s : State) : Host.Outcome State Fault Refusal := .next (s.bootGo port val)

/-- Checks 1 to 3 of R523, as the ROM applies them to a bundle of a pushed length at an address: the code of the first that fails (R536,
R537). (DESIGN CHOICE, log entry 75.) -/
def bootCheck (b : Bundle) (addrLow len : Nat) : Nat :=
  if !b.formatOk || b.length != len || addrLow % 64 != 0 then 1
  else if !b.signatureOk then 3
  else if b.secVersion < Config.minSecVersion then 4
  else 0

/-- BOOT_LOAD_DONE: the read of the bundle has ended, and the ROM checks it (R537). (DEDUCED, log entry 55.) -/
def execBootLoadDone (res : BundleRead) (s : State) : Host.Outcome State Fault Refusal :=
  .next (
    if s.boot.st ≠ .loading then s
    else match res with
      | .failed => { s with boot := { s.boot with st := .failed, code := 2 } }
      | .arrived b =>
        let why := bootCheck b (s.regs.val 0x40).toNat (s.regs.fld 0x48 26 0)
        if why = 0 then { s with boot := { s.boot with st := .starting, fw := some b } }
        else { s with boot := { s.boot with st := .failed, code := why } })

/-- Which Avenue serves share n at `FW_READY` (R538): Avenue n, or Avenue S for the first that lacks one. -/
def servers (passed : List Nat) : List (Nat × Option Nat) :=
  let missing := (List.range 8).filter fun n => !passed.contains n
  (List.range 8).map fun n =>
    (n, if passed.contains n then some n else if passed.contains 8 && missing.head? == some n then some 8 else none)

/-- An Avenue that the power-up self-test fails (R538): the share in the notice is the one it would have served. (DEDUCED, log entry 55.) -/
def State.startFailed (s : State) (a : Nat) : State :=
  (s.setAv a { s.av a with role := .failed, share := none }).raise (Src.avenue a) 0x01 (if a = 8 then 0xF else a)

/-- An Avenue begins to serve a share at the start (R538). (DEDUCED, log entry 55.) -/
def State.startServing (s : State) (build n : Nat) (a : Option Nat) : State :=
  match a with
  | some a => s.setAv a { s.av a with role := .serving, share := some n, build := build }
  | none => s

/-- A central pair at the start (R537, R538). -/
def State.startCore (s : State) (build p : Nat) : State :=
  s.setCore p { s.core p with
    active := if p = 0 then s.boot.sc else 0, buildA := build, buildB := build, startA := s.time.ft, startB := s.time.ft,
    standbyPassed := !(p == 0 && s.boot.sc == 1), standbyFailed := p == 0 && s.boot.sc == 1 }

/-- FW_START_DONE: the cores run, the Avenues that passed serve their shares, and `FW_READY` is set (R195, R536 to R538). (DEDUCED, log
entry 55.) -/
def execFwStartDone (res : StartResult) (s : State) : Host.Outcome State Fault Refusal :=
  .next (
    if s.boot.st ≠ .starting then s
    else if !res.imagesOk then { s with boot := { s.boot with st := .failed, code := 6, fw := none } }
    else
      let build := (s.boot.fw.map (·.build)).getD 0
      let s := (List.range 9).foldl (fun s a => if res.avenuesPassed.contains a then s else s.startFailed a) s
      let s := (servers res.avenuesPassed).foldl (fun s x => s.startServing build x.1 x.2) s
      let s := if (s.av 8).role = .selfTest then s.setAv 8 { s.av 8 with build := build } else s
      let s := res.enginesFailed.foldl (fun s x =>
        if x.1 < 9 ∧ x.2 < 6 then s.retireEngine x.1 x.2 else s) s
      let s := (List.range 3).foldl (fun s p => s.startCore build p) s
      { s with boot := { s.boot with st := .running, fwReady := true }, sec := { s.sec with entropyOk := true } })

/-! ### Memory -/

/-- Are all eight shares served (R538)? -/
def State.allServed (s : State) : Bool := (List.range 8).all fun n => (s.servedBy n).isSome

/-- MEM_INIT_START: training has ended and both locks are valid; `CFG_SPARE` is taken (R263, R307, R540). -/
def execMemInitStart (s : State) : Host.Outcome State Fault Refusal :=
  .next (
    if s.boot.trained && s.regs.hashValid && s.regs.dmapValid && !s.boot.initStarted && s.allServed then
      { s with boot := { s.boot with initStarted := true, spare := s.regs.fld 0x10140 3 0 } }
    else s)

/-- MEM_INIT_DONE: every line is zero with a valid inner code (R290). -/
def execMemInitDone (s : State) : Host.Outcome State Fault Refusal :=
  .next (
    if s.boot.initStarted && !s.boot.initDone && s.allServed then
      { s with
        boot := { s.boot with initDone := true },
        mem := { s.mem with cells := [], poison := [], cache := [], mirror := [], unbound := [], wrote := [], parityLost := [] } }
    else s)

/-- Installed DRAM in bytes, as training reports it (R25). -/
def State.installed (s : State) : Nat := s.chanLines * 64 * 16

/-- Pages of the depot's data (R25). (DESIGN CHOICE, log entry 53.) -/
def State.depotPages (s : State) : Nat := (2 ^ 30 + roundUp ((s.installed + 999) / 1000) (2 ^ 21)) / 4096

/-- A port whose `EN` is 1 leaves DISABLED once memory is ready and the node has an ID (R540, step 7). -/
def State.portStart (s : State) (n : Nat) : State :=
  let p := s.jl n
  if s.boot.memReady && bitOf (s.regs.val (jlBase n)).toNat 0 && s.node != 0 && p.st == 0 then s.setJl n { p with st := 1 } else s

/-- DEPOT_BUILD_DONE: District 0's keys are drawn, the depot stands at S16, the shares open, the controllers pass to SERVICE and `MEM_READY`
is set; the flash tier starts at the bifurcation then in `FL_PORT_CFG`, and enabled ports start (R25, R259, R333, R448, R540). (DESIGN
CHOICE, log entry 53.) -/
def execDepotBuildDone (s : State) : Host.Outcome State Fault Refusal :=
  .next (
    if !s.boot.initDone || s.boot.memReady || !s.sec.entropyOk then s
    else
      let depot := s.depotPages
      let s := { s with
        sec := { s.sec with dramKeys := s.sec.dramKeys.put 0 0 },
        maps := { s.maps with
          frames := 16 * (s.chanLines - s.reserveLines) / 64, nextFrame := depot, used := pageCost depot 2 } }
      let s := (List.range 8).foldl (fun s n => s.setShare n { s.share n with st := .opened }) s
      let s := (List.range 16).foldl (fun s m =>
        if (s.chan m).inService then s.setChan m { s.chan m with mode := 2, ordCause := 0 } else s) s
      let s := { s with boot := { s.boot with memReady := true, flashStarted := true, bifurcation := s.regs.fld 0x600000 3 0 } }
      let s := (List.range 16).foldl (fun s n => s.slotArrive n) s
      (List.range 12).foldl (fun s n => s.portStart n) s)

end Sys2Proof.Machine
end

