-- ==== Sys2Proof/Machine/Flash.lean ====
section
/-! DEFINITION. The flash tier: fills and demotions (R318 to R323), tier commands (R324), the NVMe host (R325 to R327) and slot power (R328 to
R331). -/

namespace Sys2Proof.Machine

open Sys2Proof

/-! ### Tier commands -/

/-- Count a page that a tier command waited for; after its last page the command completes (R324). -/
def State.tierDone (s : State) (d page : Nat) (op : Nat → Bool) : State :=
  s.flash.jobs.foldl (fun s (j : TierJob) =>
    if j.cmd.d.district = d ∧ op j.cmd.d.opcode ∧ j.pages.contains page then
      let k : TierJob := { j with pages := j.pages.filter (· != page), done := j.done + 1 }
      let s := if j.cmd.d.opcode = 0x52 then
          (match s.maps.leafAt d page with
           | some (first, l) => s.setLeaf d first { l with pinned := true }
           | none => s)
        else s
      let jobs := if k.pages.isEmpty then s.flash.jobs.filter (· != j) else s.flash.jobs.map fun x => if x = j then k else x
      let s := { s with flash := { s.flash with jobs := jobs } }
      if k.pages.isEmpty then s.done j.cmd k.done else s
    else s) s

/-- Start a tier command with the pages that it waits for. -/
def State.tierJob (s : State) (c : Cmd) (pages : List Nat) (done : Nat) : State :=
  if pages.isEmpty then s.done c done
  else { s with flash := { s.flash with jobs := s.flash.jobs ++ [TierJob.mk c pages done] } }

/-- The leaves of a command's range. -/
def State.tierLeaves (s : State) (c : Cmd) : List (Nat × Leaf) :=
  (s.maps.leaves c.d.district).filter fun e => decide (c.d.p0 < (e.1 + leafPages e.2.size) * 4096) && decide (e.1 * 4096 < c.d.p0 + c.d.p1)

def State.isTiered (s : State) (d : Nat) : Bool := ((s.district d).map (·.tiered)).getD false

/-- Pages of a range of bytes. (DEDUCED, log entry 57.) -/
def rangePages (da len : Nat) : Nat := if len = 0 then 0 else (da + len - 1) / 4096 - da / 4096 + 1

/-- TIER_PROMOTE (R324). -/
def execTierPromote (c : Cmd) (s : State) : Host.Outcome State Fault Refusal :=
  .next (
    let d := c.d.district
    let big := ((s.district d).map fun x => decide (x.residentMax < rangePages c.d.p0 c.d.p1)).getD false
    s.command c .d (lowestOf [chk (!s.isTiered d) Cs.refusedState, chk (s.isTiered d && big) Cs.refusedResource]) fun s =>
    let ls := (s.tierLeaves c).filter fun e => !e.2.resident
    let s := s.tierJob c (ls.map (·.1)) 0
    ls.foldl (fun s e => s.joinFill d e.1 e.2.addr []) s)

/-- TIER_DEMOTE (R324): DEMOTION_START takes its pages first. -/
def execTierDemote (c : Cmd) (s : State) : Host.Outcome State Fault Refusal :=
  .next (
    s.command c .d (chk (!s.isTiered c.d.district) Cs.refusedState) fun s =>
    s.tierJob c (((s.tierLeaves c).filter fun e => e.2.resident && !e.2.pinned).map (·.1)) 0)

/-- TIER_PIN (R324): the pages of the range are filled and pinned, or unpinned. -/
def execTierPin (c : Cmd) (s : State) : Host.Outcome State Fault Refusal :=
  .next (
    let d := c.d.district
    let pin := bitOf c.d.p2 0
    let fresh := ((s.tierLeaves c).filter fun e => !e.2.pinned).foldl (fun n e => n + leafPages e.2.size) 0
    let held := ((s.maps.leaves d).filter fun e => e.2.pinned).length
    let max := ((s.district d).map (·.residentMax)).getD 0
    s.command c .d (chk (pin && decide (max * 7 < (held + fresh) * 8) && decide (0 < fresh)) Cs.refusedResource) fun s =>
    let ls := s.tierLeaves c
    if pin then
      let now := ls.filter fun e => !e.2.pinned && e.2.resident
      let later := ls.filter fun e => !e.2.pinned && !e.2.resident
      let s := now.foldl (fun s e => s.setLeaf d e.1 { e.2 with pinned := true }) s
      let s := s.tierJob c (later.map (·.1)) now.length
      later.foldl (fun s e => s.joinFill d e.1 e.2.addr []) s
    else
      let was := ls.filter fun e => e.2.pinned
      (was.foldl (fun s e => s.setLeaf d e.1 { e.2 with pinned := false }) s).done c was.length)

/-- Free pages of a group: those that it has not allocated. -/
def Group.freePages (g : Group) : Nat := g.pages - g.metaPages - g.nextPage + g.freed.length

/-- TIER_QUERY (R324). -/
def execTierQuery (c : Cmd) (s : State) : Host.Outcome State Fault Refusal :=
  .next (
    let d := c.d.district
    let k := bitsOf c.d.p0 7 4
    let ofGroup := bitOf c.d.p0 0
    s.command c .q (chk (if ofGroup then (s.group k).isNone else (s.district d).isNone) Cs.refusedParam) fun s =>
    if ofGroup then
      match s.group k with
      | some g => s.done c (g.st + g.freePages % 2 ^ 64 * 2 ^ 32)
      | none => s
    else
      let ls := s.maps.leaves d
      let n := fun (p : Leaf → Bool) => (ls.filter fun e => p e.2).foldl (fun n e => n + leafPages e.2.size) 0
      s.done c (n (·.resident) % 2 ^ 32 + n (·.pinned) % 2 ^ 32 * 2 ^ 32 + n (·.dirty) % 2 ^ 32 * 2 ^ 64 +
        n (·.tiered) % 2 ^ 64 * 2 ^ 96))

/-! ### Fills -/

/-- Write a page that a fill brings: its lines with their poison marks, as a whole-page write (R286, R318, R319). (DEDUCED, log entry 57.)
-/
def State.putPage (s : State) (frame loc : Nat) (mask : BitVec 64) : State :=
  let s := s.dropFrames frame 1
  let lines := List.range 64
  let cells := lines.foldl (fun c i => writeBytes c (frame * 4096 + i * 64) 64 (s.flashLine loc i)) s.mem.cells
  let poison := lines.foldl (fun p i => if mask.getLsbD i then NatSet.ins p (frame * 64 + i) else p) s.mem.poison
  { s with mem := { s.mem with cells := cells, poison := poison }.bindFrame frame }

/-- FILL_DONE: the page is written whole, its leaf or its map entries name the frame, and the waiters are taken up in order (R318 to R320). It
waits while a share's memory is not served (R332). -/
def execFillDone (district page : Nat) (s : State) : Host.Outcome State Fault Refusal :=
  .next (match s.flash.fills.find? fun f => f.district == district && f.page == page && f.got && f.frame.isSome with
    | none => s
    | some f =>
      if (List.range 8).any fun k => !s.isOpen k then s
      else
        let fr := f.frame.getD 0
        let loc := f.locator
        let copy := s.copyFill district page loc
        let written := s.flash.written.contains loc && !f.lost
        let mask := if written then (s.flash.poison.get loc).getD 0 else BitVec.allOnes 64
        let s := s.putPage fr loc mask
        let s := { s with flash := { s.flash with fills := s.flash.fills.filter (· != f) } }
        let s := if f.lost then
            let r : ErrRec := { s.errChan 3 15 with
              detail := 64, line := fr * 64, district := district, share := s.regs.home (fr * 4096),
              strength := ((s.district district).map (·.strength)).getD 3 }
            (s.logErr r).raise Src.flash 0x03 loc (some district)
          else s
        let s := if copy then
            (match s.ms.fcopies.get loc with
             | none => s.freeRun fr 1 (((s.district district).map (·.strength)).getD 0)
             | some c =>
               let used := (s.maps.leaves district).any fun e => e.2.flash == some loc || (!e.2.resident && e.2.addr == loc)
               let s := { s with ms := { s.ms with
                 copies := s.ms.copies.put fr { c with stamp := s.clock },
                 fcopies := s.ms.fcopies.del loc,
                 maps := s.ms.maps.each fun _ (e : MapEnt) =>
                   if !e.absent && e.flash && e.addr == loc then { e with flash := false, addr := fr } else e } }
               if used then s else s.freeLoc loc)
          else match s.maps.leafAt district page, s.district district with
            | some (first, l), some x =>
              s.setLeaf district first { l with resident := true, addr := fr, strength := x.strength, dirty := false, flash := some loc,
                                                referenced := true }
            | _, _ => s
        let s := s.tally 0x600100 1
        ((if copy then s else s.tierDone district page fun op => op == 0x50 || op == 0x52).resolveAll f.waiting).settleBusy)

/-- Fills of a District that wait for a place in its allotment try again (R318). -/
def State.retryFills (s : State) (d : Nat) : State :=
  (s.flash.fills.filter fun f => f.district == d && f.frame.isNone).foldl (fun s f => s.tryFill f) s

/-! ### Demotion -/

/-- May a page be chosen as a victim (R321)? (DEDUCED, log entry 57.) -/
def State.demotable (s : State) (d page : Nat) (l : Leaf) : Bool :=
  l.tiered && l.resident && !l.pinned && !(s.flash.fills.any fun f => f.district == d && f.page == page) &&
    !(s.ms.copying.any fun c => c.district == d && c.page == page) && !s.pageMoving d page &&
    !(s.flash.demos.any fun x => x.district == d && x.page == page)

/-- The clock over a District's resident pages: a page referenced since it last passed is passed over once (R321). (DEDUCED, log entry 57.)
-/
def State.pickVictim (s : State) (d : Nat) : State × Option (Nat × Leaf) :=
  let es := (s.maps.leaves d).filter fun e => s.demotable d e.1 e.2
  let at' := (s.flash.clock.get d).getD 0
  let es := (es.filter fun e => decide (at' ≤ e.1)) ++ es.filter fun e => decide (e.1 < at')
  let seen := es.takeWhile fun e => e.2.referenced
  let s := seen.foldl (fun s e => s.setLeaf d e.1 { e.2 with referenced := false }) s
  match (es.drop seen.length).head? with
  | some v => ({ s with flash := { s.flash with clock := s.flash.clock.put d (v.1 + 1) } }, some v)
  | none => (s, es.head?.map fun v => (v.1, { v.2 with referenced := false }))

/-- The poison mask of a frame (R322). -/
def State.poisonMask (s : State) (frame : Nat) : BitVec 64 :=
  BitVec.ofNat 64 ((List.range 64).foldl (fun n i => if s.mem.poisoned (frame * 64 + i) then n + 2 ^ i else n) 0)

/-- The last step of a demotion: the leaf names the locator, and the DRAM page is free (R322). -/
def State.endDemotion (s : State) (d page loc : Nat) : State :=
  let s := { s with flash := { s.flash with demos := s.flash.demos.filter fun x => !(x.district == d && x.page == page) } }
  match s.maps.leafAt d page with
  | none => s
  | some (first, l) =>
    let old := l.flash
    let s := s.setLeaf d first { l with resident := false, addr := loc, dirty := false, flash := some loc }
    let s := (s.dropFrames l.addr 1).freeRun l.addr 1 l.strength
    let s := match old with
      | some o => if o = loc ∨ s.copyLocator o then s else s.freeLoc o
      | none => s
    (s.tierDone d page fun op => op == 0x51).retryFills d

/-- A page that cannot be demoted leaves the TIER_DEMOTE commands that asked for it. -/
def State.skipDemote (s : State) (d page : Nat) : State :=
  let s := { s with flash := { s.flash with demos := s.flash.demos.filter fun x => !(x.district == d && x.page == page) } }
  let mine := fun (j : TierJob) => j.cmd.d.opcode == 0x51 && j.cmd.d.district == d && j.pages.contains page
  let jobs := s.flash.jobs.map fun (j : TierJob) => if mine j then { j with pages := j.pages.filter (· != page) } else j
  let ended := jobs.filter fun j => j.pages.isEmpty
  let s := { s with flash := { s.flash with jobs := jobs.filter fun j => !j.pages.isEmpty } }
  ended.foldl (fun s j => s.done j.cmd j.done) s

/-- The locator that a demotion writes: the page's own, or a new one (R313, R322). -/
def State.locFor (s : State) (own : Option Nat) (g : Nat) : Option (Nat × State) :=
  match own with
  | some o => some (o, s)
  | none => s.allocLoc g

/-- Write a demoted page at its locator; a page wholly poisoned is not written (R316, R322). -/
def State.demoteWrite (s : State) (d page loc fgroup : Nat) (mask : BitVec 64) : State :=
  if mask = BitVec.allOnes 64 then
    ({ s with flash := { s.flash with written := s.flash.written.rem loc, poison := s.flash.poison.del loc } }).endDemotion d page loc
  else match s.group fgroup with
    | none => s
    | some g =>
      let w := s.nvmeIssue g 1 d page (g.writePlan (locPage loc))
      { w.1 with flash := { w.1.flash with demos := w.1.flash.demos.map fun (y : Demotion) =>
        if y.district = d ∧ y.page = page then { y with locator := some loc, writes := w.2, mask := mask } else y } }

/-- Steps 2 to 5 of a demotion whose recalls have ended (R322, R327). -/
def State.demoteGo (s : State) (x : Demotion) : State :=
  let d := x.district
  let page := x.page
  match s.maps.leafAt d page, s.district d with
  | some (_, l), some dist =>
    let mask := s.poisonMask l.addr
    let own := match l.flash with | some o => if s.copyLocator o then none else some o | none => none
    let lost := ((s.group dist.fgroup).map (·.isLost)).getD true
    if lost then s.skipDemote d page
    else if !l.dirty && own.isSome then (s.endDemotion d page (own.getD 0)).tally 0x600110 1
    else if mask ≠ 0 ∧ mask ≠ BitVec.allOnes 64 ∧ 65536 ≤ s.flash.poison.length ∧ !s.flash.poison.has (own.getD 0) then
      (s.skipDemote d page).raiseLevel Src.flash 0x02 0
    else
      match s.locFor own dist.fgroup with
      | none => s.skipDemote d page
      | some (loc, s) => s.demoteWrite d page loc dist.fgroup mask
  | _, _ => { s with flash := { s.flash with demos := s.flash.demos.filter (· != x) } }

/-- Step 1 of a demotion: the page's directory entries are recalled and its marks snooped; it goes on when no entry and no request under its
translation is left (R114, R119, R322). -/
def State.demoteTry (s : State) (x : Demotion) : State :=
  let s := s.recallRange x.district x.page x.page x.stamp
  let left := (s.entriesIn x.district x.page x.page).any fun e => decide (e.2.stamp < x.stamp)
  let open' := s.coh.trackers.any fun t => t.district == x.district && t.page == x.page
  if left || open' then s else s.demoteGo x

/-- Snoop the marked lines of a frame (R119, R322). -/
def State.snoopFrame (s : State) (f : Nat) : State :=
  (List.range 64).foldl (fun s i =>
    let l := f * 64 + i
    if ((s.mem.cache.get l).map (·.mark)).getD false then
      ({ s with mem := { s.mem with cache := s.mem.cache.adjust l fun c => { c with mark := false } } }).emit (.snoop l)
    else s) s

/-- DEMOTION_START: a demotion whose recalls have ended goes on; otherwise a victim is chosen, for TIER_DEMOTE, for a fill that finds the
allotment full, or from `HIGH` percent down to `LOW` (R321, R322). (DEDUCED, log entry 57.) -/
def execDemotionStart (district : Nat) (s : State) : Host.Outcome State Fault Refusal :=
  .next (match s.flash.demos.find? fun x => x.district == district && x.locator.isNone, s.district district with
    | some x, _ => s.demoteTry x
    | none, none => s
    | none, some dist =>
      let held := s.residentPages district
      let high := decide (dist.residentMax * s.regs.fld 0x600008 15 8 ≤ held * 100)
      let low := decide (held * 100 ≤ dist.residentMax * s.regs.fld 0x600008 7 0)
      let shrinking := if high then s.flash.shrinking.ins district else if low then s.flash.shrinking.rem district else s.flash.shrinking
      let s := { s with flash := { s.flash with shrinking := shrinking } }
      let asked := ((s.flash.jobs.filter fun j => j.cmd.d.opcode == 0x51 && j.cmd.d.district == district).map (·.pages)).flatten
      let full := s.flash.fills.any fun f => f.district == district && f.frame.isNone
      let r : State × Option (Nat × Leaf) := match asked.head? with
        | some p => (s, ((s.maps.leafAt district p).filter fun e => s.demotable district p e.2).map fun e => (p, e.2))
        | none => if dist.tiered && (full || s.flash.shrinking.contains district) then s.pickVictim district else (s, none)
      match r.2, asked.head? with
      | some (p, l), _ =>
        let s := r.1
        let x : Demotion := ⟨district, p, none, s.coh.stamp, [], 0⟩
        (({ s with flash := { s.flash with demos := s.flash.demos ++ [x] } }).snoopFrame l.addr).demoteTry x
      | none, some p => r.1.skipDemote district p
      | none, none => r.1)

/-! ### NVMe -/

/-- The command of a slot with an identifier. -/
def State.nvmeOf (s : State) (slot cid : Nat) : Option NvmeCmd := s.flash.cmds.find? fun c => c.slot == slot && c.cid == cid

/-- A command has completed. -/
def State.nvmeEnd (s : State) (c : NvmeCmd) : State := { s with flash := { s.flash with cmds := s.flash.cmds.filter (· != c) } }

/-- The group and member that a slot is. -/
def State.memberOf (s : State) (slot : Nat) : Option (Nat × Nat) :=
  (s.flash.groups.find? fun e => e.2.members.any fun m => m.slot == slot).bind fun e =>
    (e.2.members.findIdx? fun m => m.slot == slot).map fun i => (e.1, i)

/-- The blocks that give a page without its unreadable ones (R315, R327); `none` when too few are left. -/
def Group.rebuildPlan (g : Group) (p : Nat) (bad : List Nat) : Option (List (Nat × Nat)) :=
  let up := (List.range g.members.length).filter fun i => g.up i && !bad.contains i
  if g.mode = 0 then none
  else if g.mode = 1 then (up.head?).map fun i => [(i, p)]
  else if 8 ≤ up.length then some ((up.take 8).map fun i => (i, (g.place p).2))
  else none

/-- Read a page of a fill again from its redundancy, without a member (R326, R327). -/
def State.replan (s : State) (f : FillRec) (member : Nat) : State :=
  match s.group (locGroup f.locator) with
  | none => s.setFill { f with reads := [], got := true, lost := true }
  | some g =>
    let bad := if f.bad.contains member then f.bad else f.bad ++ [member]
    match g.rebuildPlan (locPage f.locator) bad with
    | none => s.setFill { f with reads := [], got := true, lost := true, bad := bad }
    | some plan =>
      let r := (s.tally 0x600118 1).nvmeIssue g 0 f.district f.page plan
      r.1.setFill { f with reads := r.2, bad := bad }

/-- A read of a fill has given its block; after the last one the page is there (R318). -/
def State.readGot (s : State) (slot cid : Nat) : State :=
  match s.flash.fills.find? fun f => f.reads.contains (slot, cid) with
  | none => s
  | some f =>
    let left := f.reads.filter (· != (slot, cid))
    s.setFill { f with reads := left, got := left.isEmpty }

/-- A read has failed at its block: the page is rebuilt from redundancy, and the block is written again when `rewrite` is true (R326).
(DEDUCED, log entry 57.) -/
def State.readFailed (s : State) (c : NvmeCmd) (rewrite : Bool) : State :=
  let s := s.nvmeEnd c
  match s.flash.fills.find? fun f => f.reads.contains (c.slot, c.cid), s.memberOf c.slot with
  | some f, some (g, i) =>
    let s := s.replan f i
    match s.group g with
    | some x => if rewrite && (x.rebuildPlan (locPage f.locator) [i]).isSome then (s.nvmeIssue x 1 0 0 [(i, c.lba)]).1 else s
    | none => s
  | some f, none => s.setFill { f with reads := [], got := true, lost := true }
  | none, _ => s

/-- NVME_READ_DONE: the block is checked by its guard and reference tag (R318, R322, R326). -/
def execNvmeReadDone (slot : Slot) (cid : Nat) (pi : Bool) (s : State) : Host.Outcome State Fault Refusal :=
  .next (match s.nvmeOf slot cid with
    | none => s
    | some c => if c.op ≠ 0 then s else if pi then (s.nvmeEnd c).readGot slot cid else s.readFailed c true)

/-- A write of a demotion has completed or is not to be waited for; after the last one the page is on flash (R322). -/
def State.writeGot (s : State) (slot cid : Nat) : State :=
  match s.flash.demos.find? fun x => x.writes.contains (slot, cid) with
  | none => s
  | some x =>
    let left := x.writes.filter (· != (slot, cid))
    if !left.isEmpty then
      { s with flash := { s.flash with demos := s.flash.demos.map fun (y : Demotion) => if y = x then { y with writes := left } else y } }
    else match s.maps.leafAt x.district x.page, x.locator with
      | some (_, l), some loc =>
        let lines := (List.range 64).map fun i => (i, (s.mem.line (l.addr * 64 + i)).toNat)
        ((s.putFlash loc lines x.mask).tally 0x600108 1).endDemotion x.district x.page loc
      | _, _ => s

/-- NVME_WRITE_DONE (R322). -/
def execNvmeWriteDone (slot : Slot) (cid : Nat) (s : State) : Host.Outcome State Fault Refusal :=
  .next (match s.nvmeOf slot cid with
    | none => s
    | some c => if c.op ≠ 1 then s else (s.nvmeEnd c).writeGot slot cid)

/-- The members with one put into service, or taken out of it. -/
def Group.setMember (g : Group) (i : Nat) (ok : Bool) : List Member :=
  g.members.mapIdx fun j (m : Member) => if j = i then { m with ok := ok } else m

/-- Fail the member that a slot is (R326, R327): reads go to redundancy, writes skip it, and a rebuild onto it ends. -/
def State.failMember (s : State) (slot : Nat) : State :=
  match s.memberOf slot with
  | none => s
  | some (k, i) => match s.group k with
    | none => s
    | some g =>
      let mine := (g.rebuild.map (·.1)) == some i
      if !g.up i && !mine then s
      else
        let g := { g with members := g.setMember i false }
        let st := if g.isLost then 2 else 1
        let s := s.setGroup k { g with st := st, rebuild := if mine then none else g.rebuild }
        let s := match g.rebuild with
          | some (_, _, c) => if mine then s.endWith c (Cs.aborted, 0) else s
          | none => s
        let s := s.raise Src.flash 0x01 (k + st * 16)
        let cs := s.flash.cmds.filter fun c => c.slot == slot
        cs.foldl (fun s c => if c.op = 0 then s.readFailed c false else (s.nvmeEnd c).writeGot c.slot c.cid) s

/-- NVME_CMD_TIMEOUT: the pool aborts the command (R326). -/
def execNvmeCmdTimeout (slot : Slot) (cid : Nat) (s : State) : Host.Outcome State Fault Refusal :=
  .next (match s.nvmeOf slot cid with
    | none => s
    | some c =>
      if c.aborting.isSome then s
      else
        let s := (s.passTo (c.issued + s.regs.fld 0x60000C 15 0 * 1000000)).tally 0x600128 1
        ({ s with flash := { s.flash with cmds := s.flash.cmds.map fun (x : NvmeCmd) =>
          if x = c then { x with aborting := some s.clock } else x } }).emit (.nvme slot cid 2 0 0))

/-- NVME_ABORT_TIMEOUT: the Abort has not completed in 100 ms, so the controller is reset (R326). -/
def execNvmeAbortTimeout (slot : Slot) (cid : Nat) (s : State) : Host.Outcome State Fault Refusal :=
  .next (match (s.nvmeOf slot cid).bind (·.aborting) with
    | none => s
    | some t =>
      let s := s.passTo (t + 100000000)
      if (s.ssd slot).resetAt.isSome then s
      else (s.setSsd slot { s.ssd slot with resetAt := some s.clock }).emit (.nvme slot 0 3 0 0))

/-- NVME_RESET_TIMEOUT: the reset has not reached ready within CAP.TO, and the member fails (R326). -/
def execNvmeResetTimeout (slot : Slot) (s : State) : Host.Outcome State Fault Refusal :=
  .next (if (s.ssd slot).resetAt.isNone then s else (s.setSsd slot { s.ssd slot with resetAt := none }).failMember slot)

/-- NVME_CONTROLLER_READY: every outstanding command is issued again (R326). -/
def execNvmeControllerReady (slot : Slot) (s : State) : Host.Outcome State Fault Refusal :=
  .next (
    if (s.ssd slot).resetAt.isNone then s
    else
      let s := s.setSsd slot { s.ssd slot with resetAt := none }
      let cs := s.flash.cmds.filter fun c => c.slot == slot.val
      let s := { s with flash := { s.flash with cmds := s.flash.cmds.map fun (c : NvmeCmd) =>
        if c.slot = slot.val then { c with issued := s.clock, aborting := none } else c } }
      s.emits (cs.map fun c => Out.nvme slot c.cid c.op c.lba 1))

/-- NVME_ERROR_COMPLETION: a failed write fails the member; a failed read is rebuilt, and its block written again after a media error (R326). -/
def execNvmeErrorCompletion (slot : Slot) (cid : Nat) (media : Bool) (s : State) : Host.Outcome State Fault Refusal :=
  .next (match s.nvmeOf slot cid with
    | none => s
    | some c =>
      let s := s.tally 0x600120 1
      if c.op = 0 then s.readFailed c media else s.failMember slot)

/-- SSD_LINK_DOWN: the member fails (R326). -/
def execSsdLinkDown (slot : Slot) (s : State) : Host.Outcome State Fault Refusal :=
  .next (
    let x := s.ssd slot
    if x.st = 6 ∧ x.linked then (s.setSsd slot { x with linked := false, width := 0, rate := 0 }).failMember slot else s)

/-! ### Groups -/

/-- The slots of a mask, in ascending order. -/
def maskSlots (m : Nat) : List Nat := (List.range 16).filter fun n => bitOf m n

/-- The pages of a group (R314). -/
def groupPages (mode : Nat) (lbas : List Nat) : Nat :=
  let least := lbas.foldl (fun m n => min m n) (2 ^ 64)
  min (2 ^ 36) (if mode = 2 then 8 * least else least)

/-- FLASH_GROUP_CREATE (R314, R324). (DEDUCED, log entry 56.) -/
def execFlashGroupCreate (c : Cmd) (s : State) : Host.Outcome State Fault Refusal :=
  .next (
    let k := bitsOf c.d.p0 3 0
    let mode := bitsOf c.d.p0 5 4
    let slots := maskSlots c.d.p1
    let want := if mode = 0 then 1 else if mode = 1 then 2 else 10
    let busy := fun n => (s.ssd n).st != 6 || !(s.ssd n).usable || !(s.ssd n).linked || (s.memberOf n).isSome
    s.command c .g (lowestOf [
      chk ((s.group k).isSome || slots.any busy) Cs.refusedState,
      chk (mode == 3 || slots.length != want) Cs.refusedParam]) fun s =>
    let n := groupPages mode (slots.map fun i => (s.ssd i).lbas)
    let g : Group := { mode := mode, members := slots.map fun i => ⟨i, true⟩, st := 0, pages := n, metaPages := (n + 16383) / 16384,
                       reserved := 0, nextPage := 0, freed := [], rebuild := none }
    (s.setGroup k g).done c n)

/-- Does a District name a group (R312)? (DEDUCED, log entry 56.) -/
def State.groupNamed (s : State) (k : Nat) : Bool :=
  s.maps.districts.any fun e => e.2.fgroup == k && (e.2.tiered || decide (0 < e.2.fcopyQuota))

/-- FLASH_GROUP_DESTROY (R324). (DEDUCED, log entry 56.) -/
def execFlashGroupDestroy (c : Cmd) (s : State) : Host.Outcome State Fault Refusal :=
  .next (
    let k := bitsOf c.d.p0 3 0
    s.command c .g (chk ((s.group k).isNone || s.groupNamed k) Cs.refusedState) fun s =>
    let s := match (s.group k).bind (·.rebuild) with
      | some (_, _, x) => s.endWith x (Cs.aborted, 0)
      | none => s
    ({ s with flash := { s.flash with
        groups := s.flash.groups.del k,
        cells := s.flash.cells.filter fun e => locGroup (e.1 / 4096) != k,
        poison := s.flash.poison.only fun l _ => locGroup l != k,
        written := s.flash.written.filter fun l => locGroup l != k } }).done c 0)

/-- SSD_REPLACE: the rebuild onto a slot begins (R327). -/
def execSsdReplace (c : Cmd) (s : State) : Host.Outcome State Fault Refusal :=
  .next (
    let k := bitsOf c.d.p0 3 0
    let i := bitsOf c.d.p0 7 4
    let n := bitsOf c.d.p0 11 8
    let bad := match s.group k with
      | none => true
      | some g => g.up i || decide (g.members.length ≤ i) || g.rebuild.isSome
    s.command c .g (chk (bad || (s.ssd n).st != 6 || !(s.ssd n).usable || !(s.ssd n).linked || (s.memberOf n).isSome) Cs.refusedState) fun s =>
    match s.group k with
    | none => s
    | some g => s.setGroup k { g with
        members := g.members.set i ⟨n, false⟩, st := if g.st = 2 then 2 else 3,
        rebuild := some (i, g.metaPages, c) })

/-- The next allocated page of a group at or after one (R316, R327). -/
def Group.nextUsed (g : Group) (p : Nat) : Option Nat :=
  ((List.range (g.metaPages + g.nextPage - p)).map (p + ·)).find? fun q => !g.freed.contains q

/-- SSD_REBUILD_STEP: the next allocated locator is rebuilt; after the last one the member is in service (R327). -/
def execSsdRebuildStep (group : Nat) (s : State) : Host.Outcome State Fault Refusal :=
  .next (match s.group group with
    | none => s
    | some g => match g.rebuild with
      | none => s
      | some (i, p, c) => match g.nextUsed p with
        | some q => (s.setGroup group { g with rebuild := some (i, q + 1, c) }).tally 0x600118 1
        | none =>
          let g := { g with members := g.setMember i true, rebuild := none }
          let st := if g.isLost then 2 else if g.members.all (·.ok) then 0 else 1
          ((s.setGroup group { g with st := st }).raise Src.flash 0x01 (group + st * 16)).done c 0)

/-! ### Slot power -/

/-- Take a slot's enable and its reset away (R330). -/
def State.slotCut (s : State) (n : Nat) : State := (s.slotPin 0 n false).slotPin 1 n false

/-- A slot leaves a powered state for another; an inrush ends, and a member fails (R326, R328, R329). -/
def State.slotLeave (s : State) (n : Nat) (x : SsdSlot) : State :=
  let old := s.ssd n
  let s := if old.st = 3 then { s with flash := { s.flash with inrushEnd := s.clock } } else s
  let s := s.setSsd n { x with perst := true, linked := false, width := 0, rate := 0, pg := false, since := s.clock, resetAt := none }
  let s := if old.st = 3 ∨ old.st = 5 ∨ old.st = 6 then s.slotCut n else s
  if old.st = 6 then s.failMember n else s

/-- SLOT_POWER (R324, R328). -/
def execSlotPower (c : Cmd) (s : State) : Host.Outcome State Fault Refusal :=
  .next (
    let n := bitsOf c.d.p0 3 0
    let act := bitsOf c.d.p0 9 8
    let loses := match s.memberOf n with
      | none => false
      | some (k, i) => ((s.group k).map fun g => g.up i &&
          ({ g with members := g.setMember i false } : Group).isLost).getD false
    s.command c .g (lowestOf [chk (act == 0 && loses) Cs.refusedState, chk (act == 3) Cs.refusedParam]) fun s =>
    let x := s.ssd n
    let s := if act = 0 then
        (if x.st = 0 ∨ x.st = 1 ∨ x.st = 7 then s.setSsd n { x with retry := false }
         else s.slotLeave n { x with st := 1, retry := false, retries := 0, first := false })
      else if act = 1 then
        (if x.st = 1 then s.setSsd n { x with st := 2, since := s.clock, retry := false, notBefore := s.clock } else s)
      else if x.st = 7 then s.setSsd n { x with st := if x.present then 1 else 0, since := s.clock, retries := 0 }
      else s
    s.done c (s.ssd n).st)

/-- SLOT_PRESENCE_CHANGE (R328). -/
def execSlotPresenceChange (slot : Slot) (present : Bool) (s : State) : Host.Outcome State Fault Refusal :=
  .next (
    let x := { s.ssd slot with present := present }
    if present then (s.setSsd slot x).slotArrive slot
    else if x.st = 0 then s.setSsd slot x
    else s.slotLeave slot { x with st := 0, retries := 0, retry := false, first := false, usable := false, lbas := 0 })

/-- SLOT_INRUSH_TURN: a waiting slot takes the turn, those that a droop paused first, then the lowest number, no earlier than `STAGGER` after the
last inrush ended (R329, R331). -/
def execSlotInrushTurn (s : State) : Host.Outcome State Fault Refusal :=
  .next (
    let s := s.passTo (s.flash.inrushEnd + s.regs.fld 0x600004 15 8 * 1000000)
    let waits := (List.range 16).filter fun n => (s.ssd n).st == 2 && decide ((s.ssd n).notBefore ≤ s.clock)
    let next := ((waits.filter fun n => (s.ssd n).first) ++ waits).head?
    match next with
    | none => s
    | some n =>
      if s.flash.droop || (List.range 16).any fun k => (s.ssd k).st == 3 then s
      else (s.setSsd n { s.ssd n with st := 3, since := s.clock, first := false }).slotPin 0 n true)

/-- SLOT_PG_ASSERT (R328, R329). -/
def execSlotPgAssert (slot : Slot) (s : State) : Host.Outcome State Fault Refusal :=
  .next (
    let x := s.ssd slot
    if x.st = 3 then
      let s := s.setSsd slot { x with st := 5, pg := true, since := s.clock }
      { s with flash := { s.flash with inrushEnd := s.clock } }
    else s.setSsd slot { x with pg := true })

/-- A fault of a slot whose enable is on: it is tried again after a second, three times, and then latched FAULTED with a notice (R330).
(DEDUCED, log entry 56.) -/
def State.slotFault (s : State) (n : Nat) : State :=
  let x := s.ssd n
  if x.st = 3 ∨ x.st = 5 ∨ x.st = 6 then
    if x.retries < 3 then s.slotLeave n { x with st := 1, retry := true, notBefore := s.clock + 1000000000 }
    else (s.slotLeave n { x with st := 7, retry := false }).raise (Src.slot n) 0x01 x.retries
  else s

/-- SLOT_FAULT (R330). -/
def execSlotFault (slot : Slot) (s : State) : Host.Outcome State Fault Refusal :=
  .next (let s := s.slotFault slot; s.setSsd slot { s.ssd slot with flt := true })

/-- SLOT_INRUSH_TIMEOUT: `INRUSH_MAX` without power-good is treated as a fault (R328). -/
def execSlotInrushTimeout (slot : Slot) (s : State) : Host.Outcome State Fault Refusal :=
  .next (
    let x := s.ssd slot
    if x.st = 3 then (s.passTo (x.since + s.regs.fld 0x600004 23 16 * 1000000)).slotFault slot else s)

/-- SLOT_RETRY_TIMER: one second after a fault the slot is queued as a retry (R330). (DEDUCED, log entry 56.) -/
def execSlotRetryTimer (slot : Slot) (s : State) : Host.Outcome State Fault Refusal :=
  .next (
    let x := s.ssd slot
    if x.retry ∧ x.st = 1 then
      let s := s.passTo x.notBefore
      s.setSsd slot { x with st := 2, retry := false, retries := x.retries + 1, since := s.clock, flt := false }
    else s)

/-- SLOT_PERST_RELEASE: 100 ms after power-good (R328). -/
def execSlotPerstRelease (slot : Slot) (s : State) : Host.Outcome State Fault Refusal :=
  .next (
    let x := s.ssd slot
    if x.st = 5 ∧ x.perst then ((s.passTo (x.since + 100000000)).setSsd slot { x with perst := false }).slotPin 1 slot true else s)

/-- SLOT_LINK_UP: the link has trained and the controller is ready; an SSD without a usable format raises a notice (R325, R328, R330). -/
def execSlotLinkUp (slot : Slot) (width rate lbas : Nat) (usable : Bool) (s : State) : Host.Outcome State Fault Refusal :=
  .next (
    let x := s.ssd slot
    if x.st = 5 ∧ !x.perst then
      let s := s.setSsd slot { x with st := 6, linked := true, width := width % 4, rate := rate % 8, lbas := lbas, usable := usable, retries := 0,
                                      since := s.clock }
      if usable then s else s.raise (Src.slot slot) 0x02 0
    else s)

/-! ### Droops -/

/-- RAIL_DROOP_ASSERT: every slot in INRUSH is PAUSED (R331). -/
def execRailDroopAssert (s : State) : Host.Outcome State Fault Refusal :=
  .next (
    if s.flash.droop then s
    else
      let s := { s with flash := { s.flash with droop := true, droopAt := s.clock, droopTold := false } }
      ((List.range 16).filter fun n => (s.ssd n).st == 3).foldl (fun s n => s.slotLeave n { s.ssd n with st := 4 }) s)

/-- RAIL_DROOP_CLEAR (R331). -/
def execRailDroopClear (s : State) : Host.Outcome State Fault Refusal :=
  .next (if s.flash.droop then { s with flash := { s.flash with droop := false, droopAt := s.clock } } else s)

/-- DROOP_RESUME: 10 ms after the droop cleared, the paused slots wait ahead of all others (R331). -/
def execDroopResume (s : State) : Host.Outcome State Fault Refusal :=
  .next (
    if s.flash.droop then s
    else
      let ps := (List.range 16).filter fun n => (s.ssd n).st == 4
      if ps.isEmpty then s
      else
        let s := s.passTo (s.flash.droopAt + 10000000)
        ps.foldl (fun s n => s.setSsd n { s.ssd n with st := 2, first := true, since := s.clock, notBefore := s.clock }) s)

/-- DROOP_LONG (R331). -/
def execDroopLong (s : State) : Host.Outcome State Fault Refusal :=
  .next (
    if !s.flash.droop || s.flash.droopTold then s
    else
      let s := s.passTo (s.flash.droopAt + 1000000000)
      ({ s with flash := { s.flash with droopTold := true } }).raise Src.flash 0x04 0)

end Sys2Proof.Machine
end

