-- ==== Sys2Proof/Machine/Avail.lean ====
section
/-! DEFINITION. Failure of Avenues, fail-over, self-test, handovers, readmission, central pairs and firmware rolls (R504 to R531). -/

namespace Sys2Proof.Machine

open Sys2Proof

/-! ### Shared -/

/-- The spare: an Avenue that is SPARE_READY and that no share in its fail-over gap waits for (R506, R528). -/
def State.spare (s : State) : Option Nat :=
  if s.avail.shares.any fun e => e.2.st == .gap && e.2.step == 1 then none
  else (s.avail.avs.find? fun e => e.2.role == .spareReady).map (·.1)

/-- Is a roll, an admission or a retirement in progress (R513, R515, R524)? -/
def State.changing (s : State) : Bool := s.avail.handover.isSome || s.avail.roll.isSome || s.avail.admitting.isSome

/-- The drain before a handover, in ns (R511, R530). -/
def State.drainNs (s : State) : Nat := s.regs.fld 0x10184 15 0 * 1000000

/-- `GEN_FW` for a bundle (R523, R525). -/
def fwWord (b : Bundle) : Nat := b.major % 256 + b.minor % 256 * 2 ^ 8 + b.build % 2 ^ 16 * 2 ^ 16

/-- The result of a command that completes with the Fabric Time applied. -/
def State.doneAt (s : State) (c : Option Cmd) (ft : Nat) : State :=
  match c with
  | some c => s.done c (ft % 2 ^ 64)
  | none => s

/-- End a command early, where there is one. -/
def State.endOpt (s : State) (c : Option Cmd) (x : Stop) : State :=
  match c with
  | some c => s.endWith c x
  | none => s

/-- Measured firmware changes: `SEC_STAT.GEN` rises, and every SPDM session ends (R451, R452, R525). -/
def State.endSessions (s : State) : State :=
  let ids := s.sec.sessions.map (·.1)
  let s := { s with sec := { s.sec with gen := (s.sec.gen + 1) % 65536, sessions := [] } }
  ids.foldl (fun s k => s.raise Src.security 0x03 (k % 2 ^ 32 + 3 * 2 ^ 32)) s

/-- The roll stops (R526). (DEDUCED, log entry 65.) -/
def State.endRoll (s : State) (detail : Nat) : State :=
  match s.avail.roll with
  | none => s
  | some r =>
    let s := ({ s with avail := { s.avail with roll := none } }).raise Src.cores 0x08 (r.step % 256 + detail * 256)
    s.finish r.cmd (recOf r.cmd Cs.aborted detail (r.step % 256))

/-- Write-through of a share begins or ends (R31, R511). -/
def State.setWthru (s : State) (n : Nat) (on : Bool) : State := s.setShare n { s.share n with wthru := on }

/-- A handover is not made: the incoming Avenue takes its former role, and its event goes (R511). (DEDUCED, log entry 65.) -/
def State.dropHandover (s : State) : State :=
  match s.avail.handover with
  | none => s
  | some h =>
    let s := s.setAv h.inAv { s.av h.inAv with role := h.prior, share := none }
    let s := (s.setWthru h.share false).setWthru ((h.share + 7) % 8) false
    { s with avail := { s.avail with handover := none },
             time := { s.time with events := s.time.events.filter fun e => e.kind != EventKind.handover } }

/-- A handover is not made, and its command ends so. (DEDUCED, log entry 65.) -/
def State.abandonHandover (s : State) (x : Stop) : State := s.dropHandover.endOpt (s.avail.handover.bind (·.cmd)) x

/-! ### Losing a share -/

/-- A request as its ledger entry records it (R83). -/
def Ledger.pend (t : Ledger) : Pend :=
  { port := t.port, op := match t.dat with | .comp => .writeLine | .atomicResult => .crossing 0x10 | _ => .readOnce,
    src := t.src, tag := t.tag, window := 0, district := 0, flow := t.flow, early := false, noAlloc := false, da := 0, pa := 0, len := 0,
    steer := 0, share := t.share, mask := 0, data := 0, size := 0, operand := 0, compare := 0, elem := t.elem, bound := none }

/-- The ledgers answer every open request of a share: far atomics INDETERMINATE after a failure, and the others RETRY_LATER (R35, R512). -/
def State.answerLedgers (s : State) (n reason : Nat) : State :=
  let ts := s.coh.ledger.filter fun t => t.share == n
  let ps := ts.map fun (t : Ledger) =>
    (t, ((s.heldReqs t.port t.src t.tag).find? fun p => p.elem == t.elem).getD t.pend)
  let s := s.dropReqs fun p => ts.any fun t => p.port == t.port && p.src == t.src && p.tag == t.tag && p.elem == t.elem
  ps.foldl (fun s (x : Ledger × Pend) =>
    if x.1.far && reason == Rl.failover then s.reply x.2 Jl.indeterminate 0 none else s.retry x.2 reason) s

/-- The pool's own reads and writes of a share wait for it to reopen (R238, R245). -/
def State.parkOwn (s : State) (n : Nat) : State :=
  let is := fun (p : Pend) => p.port == 12 && p.share == n
  let ps := s.reqsWith is
  let s := s.dropReqs is
  { s with coh := { s.coh with moveWait := s.coh.moveWait ++ ps } }

/-- The home share of a line number, or of the backing line of a Crossing (R116, R173). -/
def State.homeOf (s : State) (line : Nat) : Nat := if 2 ^ 46 ≤ line then (line - 2 ^ 46) % 8 else s.regs.home (line * 64)

/-- The dirty lines of a share. -/
def State.dirtyLines (s : State) (n : Nat) : List Nat :=
  (s.mem.cache.filter fun e => e.2.dirty && s.regs.home (e.1 * 64) == n).map (·.1)

/-- Write back every dirty line of a share (R31, R511). -/
def State.writeBackAll (s : State) (n : Nat) : State := (s.dirtyLines n).foldl (fun s l => s.startUpdate l) s

/-- The controllers of a share's channels begin anew in ORDERED, after a failure or a handover (R259, R506). -/
def State.orderChans (s : State) (n : Nat) : State :=
  let one := fun (s : State) (m : Nat) => s.setChan m { s.chan m with
    mode := if (s.chan m).inService then 1 else 0, ordCause := if (s.chan m).inService then 3 else 0, pause := false, drain := false,
    reads := [], writes := [] }
  (one (one s (2 * n)) (2 * n + 1)).setArb n Arb.init

/-- The controllers of a share's channels pass to SERVICE (R259). -/
def State.serviceChans (s : State) (n : Nat) : State :=
  let one := fun (s : State) (m : Nat) =>
    if (s.chan m).inService && (s.cprot m).st != 3 then s.setChan m { s.chan m with mode := 2, ordCause := 0 } else s
  one (one s (2 * n)) (2 * n + 1)

/-- What a share loses with its Avenue's logic: its directory, its predictor, its work in flight, and the mirror copies that it held for
share (n − 1) mod 8, which goes to write-through and writes back (R31, R135, R506). -/
def State.loseShare (s : State) (n : Nat) : State :=
  let m := (n + 7) % 8
  let mine := fun (l : Nat) => s.homeOf l == n
  let theirs := fun (l : Nat) => s.homeOf l == m
  let s := { s with
    coh := { s.coh with
      dir := s.coh.dir.only fun l _ => !mine l,
      waits := s.coh.waits.only fun l _ => !mine l,
      evictWait := s.coh.evictWait.filter fun x => !mine x.1,
      pred := s.coh.pred.only fun k _ => k / 4096 != n,
      acks := (s.coh.acks.filter fun (a : Ack) => !mine a.line).map fun (a : Ack) =>
        if theirs a.line then { a with needMirror := false, needDram := a.needDram || a.needMirror } else a },
    mem := { s.mem with mirror := s.mem.mirror.only fun l _ => !theirs l, mirrorWait := s.mem.mirrorWait.filter fun l => !theirs l && !mine l },
    prot := { s.prot with updates := s.prot.updates.filter fun (u : Update) => !mine u.line } }
  (s.orderChans n).writeBackAll m

/-- Jobs that work in a share start again once dispatch allows (R204, R506). -/
def State.reissueShare (s : State) (n : Nat) : State :=
  ((s.jobsIn n).map (·.1)).foldl (fun s k => match s.job k with
    | some j => if j.inFlight then s.reissueJob k j else s
    | none => s) s

/-- The engines of an Avenue stop. -/
def State.stopEngines (s : State) (a : Nat) : State :=
  engIdx.foldl (fun s e => if (s.engOf a e).st == .retired then s else (s.interrupt a e).engOff a e) s

/-- The engines of an Avenue that serves no share are in TEST (R195, R510). -/
def State.testEngines (s : State) (a : Nat) : State :=
  engIdx.foldl (fun s e => if (s.engOf a e).st == .retired then s else s.setEng a e { s.engOf a e with st := .test, fcur := 0 }) s

/-- The engines of an Avenue that comes to serve a share are OFF and may be used (R195). -/
def State.readyEngines (s : State) (a : Nat) : State :=
  engIdx.foldl (fun s e => if (s.engOf a e).st == .test then s.engOff a e else s) s

/-! ### Failure of an Avenue -/

/-- A share is without an Avenue: it is in its gap when a spare is ready, else UNSERVED (R506, R509). (DEDUCED, log entry 66.) -/
def State.awaitSpare (s : State) (n : Nat) : State :=
  let ready := s.spare.isSome
  let s := { s with coh := { s.coh with allWaits := s.coh.allWaits.filter fun w => w.share != n } }
  s.setShare n { s.share n with st := if ready then .gap else .unserved, step := if ready then 1 else 0, keeper := false }

/-- A serving Avenue is lost: steps 1 and 2 of R506. A share whose copies in the depot are lost as well cannot be taken over (R292).
(DEDUCED, log entry 66.) -/
def State.shareLost (s : State) (n : Nat) : State :=
  let s := if (s.share n).copyLost then s.setShare n { s.share n with st := .unserved, step := 0 } else s.awaitSpare n
  (((s.answerLedgers n Rl.failover).parkOwn n).loseShare n).reissueShare n

/-- What an Avenue's failure does to a handover, an admission or a roll in progress (R526, R528). -/
def State.disturb (s : State) (a : Nat) : State :=
  let s := match s.avail.admitting with
    | some x => if x.av = a ∧ (s.av a).role ≠ AvRole.serving then
        ({ s with avail := { s.avail with admitting := none } }).endWith x.cmd (Cs.refusedState, 3) else s
    | none => s
  let s := match s.avail.handover with
    | none => s
    | some h =>
      if h.phase = 0 then
        (if a = h.inAv ∨ a = h.outAv ∨ h.prior = AvRole.spareReady then s.abandonHandover (Cs.refusedState, 3) else s)
      else if h.phase < 3 ∧ a = h.inAv then (s.dropHandover.setShare h.share { s.share h.share with st := .opened }).endOpt h.cmd (Cs.refusedState, 3)
      else s
  match s.avail.roll with
  | none => s
  | some _ =>
    let ready : List Nat := (List.range 9).filter fun k => (s.av k).role == .loading && (s.av k).share.isNone && k != a
    (ready.foldl (fun s k => s.setAv k { s.av k with role := .spareReady }) s).endRoll 2

/-- The health monitor declares an Avenue failed (R36, R505 to R510, R528). -/
def State.failAvenue (s : State) (a : Nat) : State :=
  let was := (s.av a).role
  if was == AvRole.failed || was == AvRole.retired then s
  else
    let s := s.disturb a
    let x := s.av a
    let n := if was == AvRole.serving || (was == AvRole.loading && x.share.isSome) then x.share else none
    let s := (s.setAv a { x with role := .failed, share := none, lapRunning := false }).stopEngines a
    let s := s.raise (Src.avenue a) 0x01 (n.getD 0xF)
    let s := match n with
      | none => match s.avail.shares.find? fun e => e.2.st == .gap && e.2.step == 1 with
        | some e => if was == AvRole.spareReady then s.awaitSpare e.1 else s
        | none => s
      | some n => match s.avail.handover with
        | some h =>
          if h.share = n ∧ 1 ≤ h.phase ∧ h.phase < 3 ∧ a = h.outAv then
            let s := { s with avail := { s.avail with handover := none } }
            let s := (s.setWthru n false).setWthru ((n + 7) % 8) false
            let s := s.setAv h.inAv { s.av h.inAv with role := .loading, share := some n }
            let s := s.setShare n { s.share n with st := .gap, step := 2 }
            (((((s.answerLedgers n Rl.failover).parkOwn n).loseShare n).reissueShare n)).doneAt h.cmd h.instant
          else s.shareLost n
        | none => s.shareLost n
    s

/-- AVENUE_FAILED (R505). -/
def execAvenueFailed (av : Avenue) (s : State) : Host.Outcome State Fault Refusal := .next (s.failAvenue av)

/-- SPARE_CONNECT: the spare, or the Avenue that is admitted to the share, leaves its self-test, takes the channels and network ports and
issues the owed refreshes (R506 step 3, R509). -/
def execSpareConnect (share : Share) (s : State) : Host.Outcome State Fault Refusal :=
  .next (
    let n := share.val
    let x := s.share n
    if x.st ≠ .gap ∨ x.step ≠ 1 then s
    else
      let av := ((s.avail.avs.find? fun e => e.2.role == .loading && e.2.share == some n).or
        (s.avail.avs.find? fun e => e.2.role == .spareReady)).map (·.1)
      match av with
      | none => s.setShare n { x with st := .unserved, step := 0 }
      | some a =>
        let s := (s.setAv a { s.av a with role := .loading, share := some n, lapRunning := false }).readyEngines a
        let s := s.setShare n { x with step := 2, keeper := false }
        (s.issueOwed (2 * n)).issueOwed (2 * n + 1))

/-- The name under which a share-wide snoop-invalidate appears in the output. (DEDUCED, log entry 66.) -/
def shareSnoop (n : Nat) : Nat := 2 ^ 60 + n

/-- The Districts that RecallAll concerns, each with its target nodes (R127). -/
def State.recallTargets (s : State) : List (Nat × Nat) :=
  (s.maps.districts.map fun e =>
    let ws := (s.maps.windows.filter fun w => w.2.kind == 0 && w.2.district == e.1 && w.2.r && !w.2.msBind).map (·.2)
    ((s.validNodes.filter fun q => !s.isFenced q && ws.any fun w => w.admits q).map fun q => (e.1, q))).flatten

/-- Send a RecallAll for a share to one node (R127). (DEDUCED, log entry 66.) -/
def State.sendRecallAll (s : State) (n : Nat) (t : Nat × Nat) : State :=
  let k := (s.coh.nextTag.get n).getD 0
  let tag := n * 8192 + k % 8192
  let s := { s with coh := { s.coh with nextTag := s.coh.nextTag.put n (k + 1),
                                        allWaits := s.coh.allWaits ++ [AllWait.mk n t.1 t.2 tag] } }
  s.sendRcl .recallAll t.2 tag t.1 0

/-- The mirror of a share's lines becomes its new line cache: they are dirty again (R294, R506 step 4). (DEDUCED, log entry 66.) -/
def State.loadMirror (s : State) (n : Nat) : State :=
  let mine := fun (l : Nat) => s.regs.home (l * 64) == n
  let poison := fun (l : Nat) => ((s.mem.cache.get l).map (·.poison)).getD (s.mem.poison.contains l)
  let loaded := (s.mem.mirror.filter fun e => mine e.1).map fun (e : Nat × Mirror) => (e.1, CacheLine.mk e.2.data true (poison e.1) false)
  { s with mem := { s.mem with
      cache := loaded.foldl (fun t e => t.put e.1 e.2) (s.mem.cache.only fun l _ => !mine l),
      mirror := s.mem.mirror.each fun l m => if mine l then { m with writing := false, confirmed := true } else m } }

/-- SPARE_LOAD_DONE: steps 4 to 6 of R506. (DEDUCED, log entry 66.) -/
def execSpareLoadDone (share : Share) (s : State) : Host.Outcome State Fault Refusal :=
  .next (
    let n := share.val
    let x := s.share n
    if x.st ≠ .gap ∨ x.step ≠ 2 then s
    else
      let s := s.loadMirror n
      let snap := fun (k : Nat) (c : Crossing) =>
        if k % 8 = n then { c with recovery := c.journal, rseq := c.seq, rft := s.time.ft } else c
      let s := { s with cr := { s.cr with items := s.cr.items.each snap } }
      let s := (s.setShare n { x with step := 3 }).emit (.snoop (shareSnoop n))
      s.recallTargets.foldl (fun s t => s.sendRecallAll n t) s)

/-- Cuts that fell due in the gap are taken before the share reopens, in ascending District and then in the order of their versions (R34,
R63). (DEDUCED, log entry 31.) -/
def State.takeHeldCuts (s : State) : State :=
  let held := s.ms.slots.filter fun e => e.2.st == 1 && decide (e.2.cutFt ≤ s.time.ft)
  let sorted := sortBy (fun (a b : Nat × MsSlot) => decide (a.1 / 16 < b.1 / 16) || (a.1 / 16 == b.1 / 16 && decide (a.2.version ≤ b.2.version)))
    held
  sorted.foldl (fun s e =>
    let s := { s with time := { s.time with events := s.time.events.filter fun v => v.kind != EventKind.cut (e.1 / 16) (e.1 % 16) } }
    s.takeCut (e.1 / 16) (e.1 % 16)) s

/-- The pool's own requests that waited for a share go on. -/
def State.resumeOwn (s : State) : State :=
  let ps := s.coh.moveWait.filter fun p => p.port == 12
  let s := { s with coh := { s.coh with moveWait := s.coh.moveWait.filter fun p => p.port != 12 } }
  s.resolveAll ps

/-- A share opens: its controllers are in SERVICE, its engines are held anew where a District holds them, and what waited goes on. -/
def State.openShare (s : State) (n : Nat) : State :=
  let s := s.setShare n { s.share n with st := .opened, step := 0, keeper := false, wthru := false, reopenAt := none }
  ((s.setWthru ((n + 7) % 8) false).replaceHeld n).resumeOwn

/-- SHARE_REOPEN: every target has answered; cuts held in the gap are taken, RESUME Signals go out, and the share reopens (R34, R63, R128,
R185, R506 step 7, R509). -/
def execShareReopen (share : Share) (s : State) : Host.Outcome State Fault Refusal :=
  .next (
    let n := share.val
    let x := s.share n
    if x.st ≠ .gap ∨ x.step ≠ 3 ∨ s.coh.allWaits.any (fun w => w.share == n) then s
    else
      let s := match s.avail.admitting with
        | some a => if a.lapDone && a.share == n then s.passToFt a.instant else s
        | none => s
      let s := s.setShare n { s.share n with st := .opened }
      let s := if s.anyGap then s else s.takeHeldCuts
      let s := ((s.cr.items.map (·.1)).filter fun k => k % 8 == n).foldl (fun s k => s.signalAll k 2) s
      let a := (s.avail.avs.find? fun e => e.2.role == .loading && e.2.share == some n).map (·.1)
      let s := match a with
        | some a => (s.setAv a { s.av a with role := .serving }).takeConfig n a
        | none => s
      let s := (s.serviceChans n).openShare n
      match s.avail.admitting with
      | some x => if x.lapDone && some x.av == a then
          ({ s with avail := { s.avail with admitting := none } }).done x.cmd (s.time.ft % 2 ^ 64) else s
      | none => s)

/-- REFRESH_KEEPER_TAKEOVER (R266, R508). -/
def execRefreshKeeperTakeover (share : Share) (s : State) : Host.Outcome State Fault Refusal :=
  .next (
    let n := share.val
    let x := s.share n
    let joined := (s.servedBy n).isSome || (x.st == .gap && decide (2 ≤ x.step))
    if joined || x.keeper then s
    else ((s.setShare n { x with keeper := true }).issueOwed (2 * n)).issueOwed (2 * n + 1))

/-! ### Handovers -/

/-- Begin to prepare a handover (R511): with `INSTANT` 0, at the earliest instant by which the copy and the drain can have ended. (DEDUCED,
log entry 65.) -/
def State.startHandover (s : State) (n outAv inAv instant : Nat) (retire : Bool) (cmd : Option Cmd) : State :=
  let t := if instant = 0 then roundUp (s.time.ft + 200000000 + s.drainNs) 128 else instant
  let h : Handover := ⟨n, outAv, inAv, t, false, none, 0, (s.av inAv).role, retire, cmd⟩
  let s := s.setAv inAv { s.av inAv with role := .loading, lapRunning := false }
  ({ s with avail := { s.avail with handover := some h } }).addEvent ⟨t, .handover, cmd⟩

/-- Change the handover in progress. -/
def State.setHandover (s : State) (h : Handover) : State := { s with avail := { s.avail with handover := some h } }

/-- HANDOVER_DIR_COPY_DONE (R511 step 3). -/
def execHandoverDirCopyDone (s : State) : Host.Outcome State Fault Refusal :=
  .next (match s.avail.handover with
    | some h => if h.phase = 0 then s.setHandover { h with copied := true } else s
    | none => s)

/-- HANDOVER_DRAIN_START: share n and share (n − 1) mod 8 go to write-through, and the dirty lines of share n are written back (R511 step 4). -/
def execHandoverDrainStart (s : State) : Host.Outcome State Fault Refusal :=
  .next (match s.avail.handover with
    | some h =>
      if h.phase = 0 ∧ h.drain = none then
        let s := s.passToFt (h.instant - s.drainNs)
        let s := s.setHandover { h with drain := some s.time.ft }
        (((s.setWthru h.share true).setWthru ((h.share + 7) % 8) true)).writeBackAll h.share
      else s
    | none => s)

/-- The handover instant: when the preparation has ended, the share is closed to new arrivals; else the handover is not made (R511, R512).
(DEDUCED, log entry 65.) -/
def State.beginHandover (s : State) : State :=
  match s.avail.handover with
  | none => s
  | some h =>
    let drained := match h.drain with | some t => decide (t + s.drainNs ≤ s.time.ft) && (s.dirtyLines h.share).isEmpty | none => false
    if h.copied && drained && (s.av h.inAv).role == .loading && (s.share h.share).st == .opened then
      (s.setHandover { h with phase := 1 }).setShare h.share { s.share h.share with st := .handover }
    else if s.avail.roll.isSome then s.dropHandover.endRoll 1
    else s.abandonHandover (Cs.refusedState, 3)

/-- HANDOVER_LEDGER_CLOSE: what the outgoing Avenue applied has been answered; every other open request is answered RETRY_LATER, and BUSY
entries pass on as BV (R512). -/
def execHandoverLedgerClose (s : State) : Host.Outcome State Fault Refusal :=
  .next (match s.avail.handover with
    | some h =>
      if h.phase ≠ 1 then s
      else
        let n := h.share
        let s := s.passToFt (h.instant + 12000)
        let ready := fun (a : Ack) => if s.homeOf a.line = n then { a with needMirror := false, needSnoop := false, needDram := false } else a
        let s := { s with coh := { s.coh with acks := s.coh.acks.map ready } }
        let s := (s.releaseAcks.answerLedgers n Rl.handover).parkOwn n
        let pass := fun (l : Nat) (e : DirEntry) =>
          if s.homeOf l = n then { e with busy := e.busy.map fun b => { b with kind := BusyKind.bv, req := none } } else e
        let s := { s with coh := { s.coh with dir := s.coh.dir.each pass } }
        s.setHandover { h with phase := 2 }
    | none => s)

/-- HANDOVER_SWITCH: the channels and network ports move, the incoming controllers are in SERVICE, and the outgoing Avenue's lines and
engines are dropped (R203, R512). -/
def execHandoverSwitch (s : State) : Host.Outcome State Fault Refusal :=
  .next (match s.avail.handover with
    | some h =>
      if h.phase ≠ 2 then s
      else
        let n := h.share
        let s := s.passToFt (h.instant + 15000)
        let s := s.stopEngines h.outAv
        let role : AvRole := if h.retire then .retired else if s.avail.roll.isSome then .loading else .selfTest
        let s := s.setAv h.outAv { s.av h.outAv with role := role, share := none, lapAt := none, lapRunning := false }
        let s := if h.retire then s else s.testEngines h.outAv
        let s := ((s.setAv h.inAv { s.av h.inAv with role := .serving, share := some n }).readyEngines h.inAv).takeConfig n h.inAv
        let keep := fun (l : Nat) (_ : CacheLine) => s.regs.home (l * 64) != n
        let s := { s with mem := { s.mem with cache := s.mem.cache.only keep } }
        let s := ((s.orderChans n).serviceChans n).emit (.snoop (shareSnoop n))
        s.setHandover { h with phase := 3 }
    | none => s)

/-! ### Rolls -/

/-- The instant of a roll's next step, and the swap event where it is a pair's (R524). -/
def State.rollNext (s : State) : State :=
  match s.avail.roll with
  | none => s
  | some r =>
    match r.left, r.swaps with
    | [], p :: _ => s.addEvent ⟨r.nextAt, .roleSwap p true, none⟩
    | _, _ => s

/-- The last swap of a roll has completed: the versions switch together (R525). -/
def State.rollDone (s : State) (r : Roll) : State :=
  let s := { s with boot := { s.boot with fw := some r.bundle }, avail := { s.avail with roll := none } }
  (s.raise Src.cores 0x07 (fwWord r.bundle)).done r.cmd (s.time.ft % 2 ^ 64)

/-- A rotation of a roll has been made (R524). -/
def State.rollRotated (s : State) (h : Handover) : State :=
  match s.avail.roll with
  | none => s
  | some r =>
    let first := r.step == 0
    let left := r.left.filter (· != h.share)
    let r := { r with left := left, step := r.step + 1, nextAt := roundUp (r.nextAt + r.gap * 1000000) 128 }
    let s := { s with avail := { s.avail with roll := some r } }
    let s := s.raise Src.cores 0x06 (h.share + r.bundle.build % 2 ^ 32 * 2 ^ 32)
    let s := if first || left.isEmpty then s.endSessions else s
    s.rollNext

/-- HANDOVER_REOPEN: the share reopens on the incoming Avenue, with the HANDOVER notice (R512, R529). -/
def execHandoverReopen (s : State) : Host.Outcome State Fault Refusal :=
  .next (match s.avail.handover with
    | some h =>
      if h.phase ≠ 3 then s
      else
        let s := s.passToFt (h.instant + 20000)
        let s := { s with avail := { s.avail with handover := none } }
        let s := (s.openShare h.share).raise Src.cores 0x05 (h.share + h.outAv * 16 + h.inAv * 256)
        (s.doneAt h.cmd h.instant).rollRotated h
    | none => s)

/-- ROLL_SPARE_READY: the spare has loaded the bundle and its lap has ended. When it passed, the spare prepares the next rotation, or stays
the spare after the last one; when it failed, the roll stops (R524, R526). -/
def execRollSpareReady (passed : Bool) (s : State) : Host.Outcome State Fault Refusal :=
  .next (match s.avail.roll with
    | none => s
    | some r =>
      match (s.avail.avs.find? fun e => e.2.role == .loading && e.2.share.isNone).map (·.1) with
      | none => s
      | some a =>
        if s.avail.handover.isSome then s
        else
          let x := s.av a
          let x := { x with laps := x.laps + 1, lapEnd := s.time.ft, lastPass := passed, build := r.bundle.build }
          if !passed then
            let s := (s.setAv a { x with role := .failed, fails := min 255 (x.fails + 1) }).endRoll 1
            s.raise (Src.avenue a) 0x01 0xF
          else
            let s := s.setAv a { x with role := .spareReady }
            match r.left with
            | [] => s
            | n :: _ => match s.servedBy n with
              | some o => s.startHandover n o a r.nextAt false none
              | none => s)

/-- FW_ROLL (R524). (DEDUCED, log entry 65.) -/
def execFwRoll (c : Cmd) (s : State) : Host.Outcome State Fault Refusal :=
  .next (
    let gap0 := bitsOf c.d.p0 15 0
    let gap := if gap0 = 0 then 2000 else gap0
    let t := c.d.p1
    let first := s.time.ft + gap * 1000000
    s.command c .g (lowestOf [
      chk (s.avail.staged.isNone || s.spare.isNone || !((List.range 8).all fun n => s.isOpen n) || s.time.mode != .locked || s.changing)
        Cs.refusedState,
      chk (decide (gap < 2000) || decide (60000 < gap) || (t != 0 && (!s.instantOk t || decide (t < first)))) Cs.refusedParam]) fun s =>
    match s.avail.staged, s.spare with
    | some b, some a =>
      let left := (List.range 8).filter fun n => ((s.servedBy n).map fun o => (s.av o).build) != some b.build
      let r : Roll := ⟨c, gap, b, left, [2, 1, 0], 0, if t = 0 then roundUp first 128 else t⟩
      let s := { s with avail := { s.avail with roll := some r } }
      let s := if left.isEmpty then s else s.setAv a { s.av a with role := .loading, lapRunning := false }
      s.rollNext
    | _, _ => s)

/-! ### Readmission and retirement -/

/-- The instant of an AVENUE_ADMIT or AVENUE_RETIRE breaks R61. (DEDUCED, log entry 65.) -/
def State.badInstant (s : State) (t : Nat) : Bool := t != 0 && !s.instantOk t

/-- AVENUE_RETIRE (R515). (DEDUCED, log entry 65.) -/
def execAvenueRetire (c : Cmd) (s : State) : Host.Outcome State Fault Refusal :=
  .next (
    let a := bitsOf c.d.p0 3 0
    let x := s.av a
    let t := c.d.p1
    s.command c .g (lowestOf [
      chk (decide (a ≤ 8) && (x.role == .failed || x.role == .retired || x.role == .loading || s.changing ||
        (x.role == .serving && s.spare.isNone))) Cs.refusedState 2,
      chk (!s.eventRoom && x.role == .serving) Cs.refusedResource,
      chk (decide (8 < a) || s.badInstant t) Cs.refusedParam 1]) fun s =>
    match x.role, x.share, s.spare with
    | .serving, some n, some b => s.startHandover n a b t true (some c)
    | _, _, _ => (s.setAv a { x with role := .retired, share := none, lapRunning := false }).done c (s.time.ft % 2 ^ 64))

/-- Start a self-test lap of an Avenue (R510). -/
def State.startLap (s : State) (a : Nat) : State :=
  (s.setAv a { s.av a with lapRunning := true, segment := 0, retried := false, lapAt := some s.clock }).testEngines a

/-- The channels of a share that a restore concerns (R514). -/
def State.toRestore (s : State) (n : Nat) : List Nat := [2 * n, 2 * n + 1].filter fun m => (s.cprot m).st == 3 || (s.cprot m).st == 1

/-- An AVENUE_ADMIT goes on after its lap and its restores (R513). -/
def State.admitGo (s : State) : State :=
  match s.avail.admitting with
  | none => s
  | some x =>
    if !x.lapDone || !x.chans.isEmpty then s
    else
      let none' := { s with avail := { s.avail with admitting := none } }
      if x.failed then
        (none'.setAv x.av (if (s.av x.av).role == .serving then s.av x.av else { s.av x.av with role := x.prior })).endWith x.cmd (Cs.refusedState, 3)
      else if (s.av x.av).role == .serving then none'.done x.cmd (s.time.ft % 2 ^ 64)
      else if x.share = 15 then (none'.setAv x.av { s.av x.av with role := .spareReady }).done x.cmd (s.time.ft % 2 ^ 64)
      else match s.servedBy x.share with
        | some o => (none'.setAv x.av { s.av x.av with role := x.prior }).startHandover x.share o x.av x.instant false (some x.cmd)
        | none =>
          (s.setAv x.av { s.av x.av with role := .loading, share := some x.share }).setShare x.share
            { s.share x.share with st := .gap, step := 1 }

/-- AVENUE_ADMIT (R513): a FAILED or RETIRED Avenue runs a lap first; restores come before any handover. (DEDUCED, log entry 65.) -/
def execAvenueAdmit (c : Cmd) (s : State) : Host.Outcome State Fault Refusal :=
  .next (
    let a := bitsOf c.d.p0 3 0
    let n := bitsOf c.d.p0 7 4
    let restore := bitOf c.d.p0 8
    let t := c.d.p1
    let x := s.av a
    let serves := x.role == .serving && x.share == some n && restore
    let spareThere := s.avail.avs.any fun e => e.2.role == .spareReady
    s.command c .g (firstOf [
      chk (decide (8 < a) || (decide (8 ≤ n) && decide (n ≤ 14)) || s.badInstant t) Cs.refusedParam 1,
      chk (!(x.role == .failed || x.role == .retired || serves) || (n == 15 && spareThere) || s.changing) Cs.refusedState 2,
      chk (!s.eventRoom) Cs.refusedResource]) fun s =>
    let chans := if restore ∧ n < 8 then s.toRestore n else []
    let s := { s with avail := { s.avail with admitting := some ⟨c, a, n, restore, t, x.role, serves, chans, false⟩ } }
    if serves then s.admitGo
    else (s.setAv a { x with role := .selfTest, lapAt := none }).startLap a)

/-- CHANNEL_RESTORE_DONE (R514). -/
def execChannelRestoreDone (ch : Chan) (ok : Bool) (s : State) : Host.Outcome State Fault Refusal :=
  .next (match s.avail.admitting with
    | none => s
    | some x =>
      if !x.lapDone || !x.chans.contains ch.val then s
      else
        let s := if ok then
            (s.setCprot ch { s.cprot ch with st := 0, moved := 0, byDriver := false, evacCmd := none }).setChan ch
              { s.chan ch with inService := true, mode := 2, ordCause := 0 }
          else s
        ({ s with avail := { s.avail with admitting := some { x with chans := x.chans.filter (· != ch.val), failed := x.failed || !ok } } }).admitGo)

/-! ### Self-test -/

/-- The AV block of a physical Avenue (R427). -/
def avPhys (a : Nat) : Nat := 0x200000 + a * 0x40000

/-- SELF_TEST_LAP_START (R510): the first lap at once, each later one `ST_PERIOD` after the one before. -/
def execSelfTestLapStart (av : Avenue) (s : State) : Host.Outcome State Fault Refusal :=
  .next (
    let x := s.av av
    if (x.role == .spareReady || x.role == .selfTest) && !x.lapRunning && s.boot.fwReady then
      let s := match x.lapAt with
        | some t => s.passTo (t + s.regs.fld 0x10184 23 16 * 1000000000)
        | none => s
      s.startLap av
    else s)

/-- A lap has ended (R510, R513). -/
def State.endLap (s : State) (a : Nat) (passed : Bool) : State :=
  let x := s.av a
  let s := s.setAv a { x with lapRunning := false, lastPass := passed, laps := x.laps + 1, lapEnd := s.time.ft,
                              fails := if passed then x.fails else min 255 (x.fails + 1),
                              failSeg := if passed then x.failSeg else x.segment }
  let s := s.tally (avPhys a + 0x910) 1
  let s := if passed then s else s.tally (avPhys a + 0x918) 1
  let x := s.av a
  match (s.avail.admitting.filter fun m => m.av == a && !m.lapDone) with
  | some m =>
    if passed then ({ s with avail := { s.avail with admitting := some { m with lapDone := true } } }).admitGo
    else (({ s with avail := { s.avail with admitting := none } }).setAv a { x with role := m.prior }).endWith m.cmd (Cs.refusedState, 3)
  | none =>
    if passed then s.setAv a { x with role := .spareReady } else s.failAvenue a

/-- SELF_TEST_SEGMENT_DONE: a failed segment is run once more, and a second failure ends the lap (R510). -/
def execSelfTestSegmentDone (av : Avenue) (segment : Nat) (passed last : Bool) (s : State) : Host.Outcome State Fault Refusal :=
  .next (
    let x := s.av av
    if !x.lapRunning then s
    else if passed then
      (if last then s.endLap av true else s.setAv av { x with segment := segment + 1, retried := false })
    else if x.retried then (s.setAv av { x with segment := segment }).endLap av false
    else s.setAv av { x with segment := segment, retried := true })

/-- OFF_ENGINE_TEST: an engine of a serving Avenue that has been OFF is taken to TEST, and out of it again (R510). -/
def execOffEngineTest (av : Avenue) (eng : Engine) (done passed : Bool) (s : State) : Host.Outcome State Fault Refusal :=
  .next (
    let e := s.engOf av eng
    if (s.av av).role ≠ .serving then s
    else if !done then (if e.st = .off then s.setEng av eng { e with st := .test } else s)
    else if e.st ≠ .test then s
    else if passed then s.engOff av eng
    else s.retireEngine av eng)

/-- AVENUE_CHECKPOINT: every 100 ms of Fabric Time the control core writes its checkpoint, which replaces lost copies (R27, R292). -/
def execAvenueCheckpoint (av : Avenue) (s : State) : Host.Outcome State Fault Refusal :=
  .next (
    let x := s.av av
    match x.share with
    | none => s
    | some n =>
      if x.role ≠ .serving then s
      else
        let s := s.passToFt (x.checkpoint + 100000000)
        (s.setAv av { s.av av with checkpoint := s.time.ft }).setShare n { s.share n with copyLost := false })

/-! ### Central pairs -/

/-- CORE_CHECKPOINT: every 10 ms the active core writes its role's checkpoint (R516). -/
def execCoreCheckpoint (pair : Pair) (s : State) : Host.Outcome State Fault Refusal :=
  .next (
    let x := s.core pair
    if x.lost || x.switching.isSome || !s.boot.fwReady then s
    else
      let s := s.passTo (x.checkpoint + 10000000)
      s.setCore pair { x with checkpoint := s.clock })

/-- Can a pair's standby take over: it is not FAILED and its last lap passed (R517, R519)? -/
def Core.ready (x : Core) : Bool := x.standbyPassed && !x.standbyFailed

/-- STANDBY_SELF_TEST: a standby whose lap fails is tested again; after three failures in a row it is FAILED (R516, R518). -/
def execStandbySelfTest (pair : Pair) (passed : Bool) (s : State) : Host.Outcome State Fault Refusal :=
  .next (
    let x := s.core pair
    if x.standbyFailed || x.switching.isSome || !s.boot.fwReady then s
    else if passed then s.setCore pair { x with standbyPassed := true, lapFails := 0 }
    else s.setCore pair { x with standbyPassed := false, lapFails := x.lapFails + 1, standbyFailed := decide (3 ≤ x.lapFails + 1) })

/-- The active core of a pair stops at an instant of R66 or of a command, or the swap is skipped (R23, R517, R529). -/
def State.startSwap (s : State) (p : Nat) (forced : Bool) (cmd : Option Cmd) : State :=
  let x := s.core p
  if x.lost || !x.ready then
    let s := (s.raise Src.cores 0x02 (p + x.standbyFailed.toNat * 4)).endOpt cmd (Cs.aborted, 0)
    if forced && cmd.isNone then s.endRoll 1 else s
  else s.setCore p { x with switching := some ⟨true, forced, s.time.ft, cmd⟩ }

/-- A swap of a roll has been made: the pair runs the bundle, and the next pair follows 1 s later (R524, R525). -/
def State.rollSwapped (s : State) (p : Nat) : State :=
  match s.avail.roll with
  | none => s
  | some r =>
    if r.left.isEmpty && r.swaps.head? == some p then
      let x := s.core p
      let s := s.setCore p { x with buildA := r.bundle.build, buildB := r.bundle.build }
      let s := (s.raise Src.cores 0x06 (10 - p + r.bundle.build % 2 ^ 32 * 2 ^ 32)).endSessions
      let r := { r with swaps := r.swaps.tail, step := r.step + 1, nextAt := roundUp (r.nextAt + 1000000000) 128 }
      if r.swaps.isEmpty then s.rollDone r
      else ({ s with avail := { s.avail with roll := some r } }).rollNext
    else s

/-- A switch-over ends: the other core issues its first output (R517, R519). -/
def State.endSwitch (s : State) (p : Nat) (w : Switch) : State :=
  let x := s.core p
  let now := s.time.ft
  let act := 1 - x.active
  let s := s.setCore p { x with active := act, switching := none, standbyPassed := false, lapFails := 0,
                                startA := if act = 0 then now else x.startA, startB := if act = 1 then now else x.startB }
  if w.planned then
    let s := (s.raise Src.cores 0x01 (p + w.forced.toNat * 4 + act * 8)).doneAt w.cmd w.start
    if w.forced && w.cmd.isNone then s.rollSwapped p else s
  else s

/-- CORE_WATCHDOG: the active core of a pair fails. The standby takes over, or the pair is lost; during a planned swap the standby completes
it (R519, R528). -/
def execCoreWatchdog (pair : Pair) (s : State) : Host.Outcome State Fault Refusal :=
  .next (
    let x := s.core pair
    if x.lost || x.switching.isSome || !s.boot.fwReady then s
    else if x.ready then
      (s.setCore pair { x with switching := some ⟨false, false, s.time.ft, none⟩ }).raise Src.cores 0x03 (pair.val + 16)
    else (s.setCore pair { x with lost := true }).raiseLevel Src.cores 0x04 pair.val)

/-- The instants of a pair's periodic swaps (R66): SC at whole multiples of the period, PC one third and SQ two thirds of a period later.
(DESIGN CHOICE, log entry 63.) -/
def State.periodicAt (s : State) (p t : Nat) : Bool :=
  let period := s.regs.fld 0x10180 31 0 * 1000000000
  t % period == p * period / 3 % period

/-- Does a periodic swap of a pair lie within 1 s of an instant? -/
def State.periodicNear (s : State) (p t : Nat) : Bool :=
  let period := s.regs.fld 0x10180 31 0 * 1000000000
  let d := (t + period - p * period / 3 % period) % period
  decide (d ≤ 1000000000) || decide (period ≤ d + 1000000000)

/-- ROLE_SWAP (R520). -/
def execRoleSwap (c : Cmd) (s : State) : Host.Outcome State Fault Refusal :=
  .next (
    let p := bitsOf c.d.p0 1 0
    let t := if c.d.p1 = 0 then s.earliest else c.d.p1
    let near := (List.range 3).any fun q => q != p && (s.periodicNear q t || s.time.events.any fun e => match e.kind with
      | .roleSwap k _ => k == q && decide (e.instant ≤ t + 1000000000) && decide (t ≤ e.instant + 1000000000)
      | _ => false)
    s.command c .g (lowestOf [
      chk (decide (p < 3) && (!(s.core p).ready || near || s.avail.roll.isSome)) Cs.refusedState,
      chk (!s.eventRoom) Cs.refusedResource,
      chk (p == 3 || s.badInstant c.d.p1) Cs.refusedParam]) fun s =>
    s.addEvent ⟨t, .roleSwap p true, some c⟩)

/-! ### Fences and reports -/

/-- NODE_UNFENCE (R521). -/
def execNodeUnfence (c : Cmd) (s : State) : Host.Outcome State Fault Refusal :=
  .next (
    let n := bitsOf c.d.p0 15 0
    s.command c .g (chk (!s.isFenced n) Cs.refusedState) fun s =>
      ({ s with coh := { s.coh with fenced := s.coh.fenced.del n } }).done c 0)

/-- The code of an Avenue's role (R416). -/
def roleCode : AvRole → Nat
  | .serving => 0
  | .spareReady => 1
  | .selfTest => 2
  | .loading => 3
  | .failed => 4
  | .retired => 5

/-- The health report's entry of an Avenue (R522). -/
def State.avHealth (s : State) (a : Nat) : List Byte :=
  let x := s.av a
  let retired := engIdx.foldl (fun n e => if (s.engOf a e).st == .retired then n + 2 ^ e else n) 0
  leBytes 1 a ++ leBytes 1 (roleCode x.role) ++ leBytes 1 (x.share.getD 0xFF) ++ leBytes 1 (x.lastPass.toNat + x.lapRunning.toNat * 2) ++
    leBytes 2 x.failSeg ++ leBytes 1 retired ++ leBytes 1 x.fails ++ leBytes 4 x.laps ++ leBytes 8 x.lapEnd ++ leBytes 4 x.build ++
    leBytes 4 x.missed ++ leBytes 4 0

/-- The health report's entry of a core (R522): cores are numbered pair × 2 + core. -/
def State.coreHealth (s : State) (k : Nat) : List Byte :=
  let x := s.core (k / 2)
  let isActive := x.active == k % 2
  let st := if isActive then (if x.lost then 2 else 0) else if x.standbyFailed then 2 else 1
  leBytes 1 k ++ leBytes 1 st ++ leBytes 1 (if isActive then 0 else x.lapFails) ++ leBytes 1 0 ++
    leBytes 4 (if k % 2 = 0 then x.buildA else x.buildB) ++ leBytes 8 (if k % 2 = 0 then x.startA else x.startB)

/-- The health report of R522. -/
def State.healthReport (s : State) : List Byte :=
  leBytes 4 0x48544C48 ++ leBytes 2 1 ++ leBytes 2 0 ++ leBytes 8 s.time.ft ++ leBytes 16 0 ++
    ((List.range 9).map fun a => s.avHealth a).flatten ++ ((List.range 6).map fun k => s.coreHealth k).flatten

/-- A directory entry as R110 lays it out. -/
def DirEntry.word (e : DirEntry) : Nat :=
  let st := if e.busy.isSome then 3 else match e.st with | .shared => 1 | .owned => 2
  1 + st * 2 + e.coarse.toNat * 8 + e.atom.toNat * 16 +
    (if e.coarse then e.vec % 2 ^ 32 else e.p0 % 65536 + e.p1 % 65536 * 65536) * 32

/-- The code of a BUSY kind (R131). -/
def busyCode : BusyKind → Nat
  | .br => 1
  | .bx => 2
  | .bw => 3
  | .bv => 4
  | .bp => 5

/-- One way of a directory dump (R522); a free way is all zero but for its number. (DEDUCED, log entry 66.) -/
def dumpWay (k : Nat) : Option (Nat × DirEntry) → List Byte
  | none => leBytes 5 0 ++ leBytes 1 k ++ leBytes 10 0
  | some (line, e) =>
    let kind := (e.busy.map fun b => busyCode b.kind).getD 0
    leBytes 5 e.word ++ leBytes 1 (k + kind * 16) ++ leBytes 2 ((e.busy.map fun b => b.awaited.length).getD 0) ++
      leBytes 5 (localAddr (line * 64) / 64) ++ leBytes 1 ((e.busy.map fun b => (!b.wbw.isEmpty).toNat).getD 0) ++ leBytes 2 0

/-- A directory dump of a share: sixteen ways for each set (R522). -/
def State.dirDump (s : State) (share first n : Nat) : List Byte :=
  let es := s.coh.dir.filter fun e => s.regs.home (e.1 * 64) == share
  ((List.range n).map fun i =>
    let ws := es.filter fun e => dirSet e.1 == first + i
    ((List.range 16).map fun k => dumpWay k ws[k]?).flatten).flatten

/-- HEALTH_READ (R522). -/
def execHealthRead (c : Cmd) (s : State) : Host.Outcome State Fault Refusal :=
  .next (
    let len := bitsOf c.d.p0 31 0
    let dump := bitOf c.d.p1 0
    let share := bitsOf c.d.p1 10 8
    let first := bitsOf c.d.p2 16 0
    let n := bitsOf c.d.p3 12 0
    let need := if dump then n * 256 else 416
    let bad := dump && (n == 0 || decide (4096 < n) || decide (2 ^ 17 < first + n))
    s.command c .pf (chk (bad || decide (len < need)) Cs.refusedParam) fun s =>
      s.writeBuf c (if dump then s.dirDump share first n else s.healthReport) (recOf c Cs.done 0 need))

end Sys2Proof.Machine
end

