-- ==== Sys2Proof/Machine/Time.lean ====
section
/-! DEFINITION. Fabric Time, its sources and states, the plan banks and scheduled events (R38 to R69). -/

namespace Sys2Proof.Machine

open Sys2Proof

/-! ### Events -/

/-- An event is not applied, because its instant found the node neither LOCKED nor in HOLDOVER, or because it was cancelled: its command
completes ABORTED with no effect. The node's own role swaps are postponed (R64, R65, R526). -/
def State.abortEvent (s : State) (e : Event) : State :=
  let s := s.dropEvent e
  match e.kind with
  | .planSwap => s.endOpt e.cmd (Cs.aborted, 0)
  | .power _ => s.endOpt e.cmd (Cs.aborted, 0)
  | .cut d k => ({ s with ms := { s.ms with slots := s.ms.slots.del (slotKey d k) } }).endOpt e.cmd (Cs.aborted, 0)
  | .handover => if s.avail.roll.isSome then s.dropHandover.endRoll 3 else s.abandonHandover (Cs.aborted, 0)
  | .roleSwap p forced =>
    if !forced then { s with time := { s.time with postponed := s.time.postponed.ins p } }
    else match e.cmd with
      | some c => s.endWith c (Cs.aborted, 0)
      | none => s.endRoll 3

/-- The order of events that fall on one instant (R63): class, District, and the order of arrival. -/
def Event.rank (e : Event) : Nat :=
  match e.kind with
  | .planSwap => 0
  | .power _ => 1
  | .cut d _ => 2 + d
  | .handover => 2000
  | .roleSwap p _ => 2001 + p

/-- The messages of one port after a plan swap: those of a flow that only the old plan held keep the class that it gave them (R67). -/
def keepClass (old new : Nat → Option Nat) (q : Queued) : Queued :=
  if q.m.flow = 0 ∨ (new q.m.flow).isSome then q
  else match old q.m.flow with
    | some e => { q with oldClass := some (bitsOf e 29 27) }
    | none => q

/-- The plan banks are swapped on every port together (R67). -/
def State.swapPlans (s : State) : State :=
  let old := s.flowEntry
  let s := { s with time := { s.time with active := s.time.standby, standby := s.time.active, running := true } }
  let new := s.flowEntry
  let port := fun (_ : Nat) (p : LinkPort) => { p with queue := p.queue.map (keepClass old new) }
  { s with net := { s.net with ports := s.net.ports.each port, held := s.net.held.map (keepClass old new) } }

/-- May a role swap be made now: no gap, no handover and no readmission (R64, R528)? A swap of a roll goes ahead. -/
def State.swapBlocked (s : State) (ofRoll : Bool) : Bool :=
  !ofRoll && (s.anyGap || s.changing || (List.range 8).any fun n => (s.share n).st == .handover)

/-- A periodic or commanded role swap at its instant, or postponed (R64, R517). (DESIGN CHOICE, log entry 63.) -/
def State.roleSwapNow (s : State) (p : Nat) (forced : Bool) (cmd : Option Cmd) : State :=
  let ofRoll := forced && cmd.isNone
  if s.swapBlocked ofRoll then
    (if forced then s.addEvent ⟨s.time.ft + 1000000000, .roleSwap p forced, cmd⟩
     else { s with time := { s.time with postponed := s.time.postponed.ins p } })
  else s.startSwap p forced cmd

/-- Apply one event whose instant has come (R62, R63). A cut inside a gap stays pending until the gap ends (R34). -/
def State.applyEvent (s : State) (e : Event) : State :=
  match e.kind with
  | .planSwap => (s.dropEvent e).swapPlans.doneAt e.cmd s.time.ft
  | .power n => ((s.dropEvent e).usePowerProfile n).doneAt e.cmd s.time.ft
  | .cut d k => if s.anyGap then s else (s.dropEvent e).takeCut d k
  | .handover => (s.dropEvent e).beginHandover
  | .roleSwap p forced => (s.dropEvent e).roleSwapNow p forced e.cmd

/-- Is a switch-over in progress (R23, R62)? -/
def State.switchingOver (s : State) : Bool := (List.range 3).any fun p => (s.core p).switching.isSome

/-- Apply, or abort, every pending event whose instant is not later than an instant. While a switch-over is in progress the events wait
for its end (R62, R64). -/
def State.runEvents (s : State) (t : Nat) : State :=
  let due := sortBy (fun (a b : Event) => decide (a.instant < b.instant) || (a.instant == b.instant && decide (a.rank ≤ b.rank)))
    (s.time.events.filter fun e => decide (e.instant ≤ t))
  due.foldl (fun s e =>
    if !s.time.events.contains e then s
    else if !s.timeGood then s.abortEvent e
    else if s.switchingOver then s
    else s.applyEvent e) s

/-- The periodic role swaps of an instant: made, postponed outside LOCKED and HOLDOVER, or queued behind a switch-over (R62, R64, R66).
(DESIGN CHOICE, log entry 63.) -/
def State.periodicSwaps (s : State) (t : Nat) : State :=
  ((List.range 3).filter fun p => s.periodicAt p t).foldl (fun s p =>
    if !s.timeGood then { s with time := { s.time with postponed := s.time.postponed.ins p } }
    else if s.switchingOver then s.addEvent ⟨t, .roleSwap p false, none⟩
    else s.roleSwapNow p false none) s

/-- Fabric Time reaches an instant, with the pending events before it at their own instants. -/
def State.reach (s : State) (t : Nat) : State :=
  let ts := sortBy (fun a b => decide (a ≤ b)) ((s.time.events.map (·.instant)).filter fun x => decide (x < t))
  (ts.eraseDups.foldl (fun s x => (s.passToFt x).runEvents x) s).passToFt t

/-- EVENT_INSTANT: Fabric Time reaches an instant, and its events are applied in the order of R63 or aborted (R62 to R66). -/
def execEventInstant (instant : Nat) (s : State) : Host.Outcome State Fault Refusal :=
  .next (
    if !s.boot.fwReady then s.passToFt instant
    else
      let now := decide (s.time.ft ≤ instant)
      let s := (s.reach instant).runEvents instant
      if now then s.periodicSwaps instant else s)

/-- ROLE_SWAP_DONE: the switch-over ends, and the events that waited for it are applied (R23, R62, R517, R519). -/
def execRoleSwapDone (pair : Pair) (s : State) : Host.Outcome State Fault Refusal :=
  .next (match (s.core pair).switching with
    | some w => (s.endSwitch pair w).runEvents s.time.ft
    | none => s)

/-- POSTPONED_ROLE_SWAP (R64): 1 s after the node is next LOCKED, or once the gap or the readmission has ended. (DESIGN CHOICE, log entry
63.) -/
def execPostponedRoleSwap (pair : Pair) (s : State) : Host.Outcome State Fault Refusal :=
  .next (
    if s.time.postponed.contains pair.val && s.time.mode == .locked && !s.swapBlocked false && !s.switchingOver then
      let s := s.passTo (s.time.lockedAt + 1000000000)
      ({ s with time := { s.time with postponed := s.time.postponed.rem pair } }).startSwap pair false none
    else s)

/-- EVENT_SCHEDULE (R60, R61). -/
def execEventSchedule (c : Cmd) (s : State) : Host.Outcome State Fault Refusal :=
  .next (
    let t := c.d.p0
    let n := bitsOf c.d.p1 7 0
    s.command c .g (lowestOf [
      chk (!s.eventRoom) Cs.refusedResource,
      chk (decide (15 < n) || !s.instantOk t) Cs.refusedParam]) fun s =>
    s.addEvent ⟨t, .power n, some c⟩)

/-- EVENT_CANCEL (R65): the target is named by its issuer and `CMD_ID`. -/
def execEventCancel (c : Cmd) (s : State) : Host.Outcome State Fault Refusal :=
  .next (
    let id := bitsOf c.d.p0 31 0
    let fn := bitsOf c.d.p1 8 0
    let target := s.time.events.find? fun e => match e.cmd with
      | some k => k.d.cmdId == id && issuerOf k.ring == fn
      | none => false
    let near := match target with | some e => decide (e.instant ≤ s.time.ft + 10000) | none => false
    s.command c .g (chk (target.isNone || near) Cs.refusedState near.toNat) fun s =>
    match target with
    | some e => (s.done c 0).abortEvent e
    | none => s)

/-! ### Steering -/

/-- Fabric Time is moved forward; events whose instants it passes are handled under R64 (R39, R69). (DEDUCED, log entry 61.) -/
def State.stepForward (s : State) (ns : Nat) : State :=
  let s := { s with time := { s.time with ft := s.time.ft + ns } }
  if s.timeGood then s else s.runEvents s.time.ft

/-- A sample of the source's offset steers the node's time (R39, R43, R45): the one setting before the first lock, a step forward, or a
slew. -/
def State.steer (s : State) (sample : Int) : State :=
  let ok := s.time.mode == .acquiring || s.time.mode == .locked
  if !ok then s
  else if !s.time.onceSet then
    let s := { s with time := { s.time with onceSet := true, offset := if 0 ≤ sample then sample % 32 else sample, inside := some s.clock } }
    if 0 ≤ sample then s.stepForward (sample / 32).toNat
    else if sample.natAbs ≤ lockLimit then s else { s with time := { s.time with inside := none } }
  else
    let f := Config.filterOffset s.time.offset sample
    if 32000 < f then
      ({ s with time := { s.time with offset := f % 32, inside := some s.clock, outside := none } }).stepForward (f / 32).toNat
    else
      let inside := if f.natAbs ≤ lockLimit then some (s.time.inside.getD s.clock) else none
      let outside := if s.time.mode == .locked && decide (keepLimit < f.natAbs) then some (s.time.outside.getD s.clock) else none
      { s with time := { s.time with offset := f, inside := inside, outside := outside } }

/-! ### The external reference -/

/-- Did a second count arrive 100 ms to 900 ms ago (R40)? (DEDUCED, log entry 61.) -/
def State.countFits (s : State) (h : HeldCount) : Bool :=
  decide (h.arrived + 100000000 ≤ s.clock) && decide (s.clock ≤ h.arrived + 900000000)

/-- End the TIME_SET that holds a count. (DEDUCED, log entry 61.) -/
def State.endCount (s : State) (h : Option HeldCount) (x : Stop) : State := s.endOpt (h.bind (·.cmd)) x

/-- An edge is rejected or missing: three in a row lose the external reference; the next edge is expected a second later (R40). (DEDUCED,
log entry 60.) -/
def State.badEdge (s : State) (skip : Bool) : State :=
  let t := s.time
  if 3 ≤ t.extBad + 1 then s.loseExternal
  else
    let k := match t.extExpect with
      | some e => if skip || decide (e < s.clock) then (s.clock - e) / 1000000000 + 1 else 0
      | none => 0
    { s with time := { t with extBad := t.extBad + 1, extExpect := t.extExpect.map (· + k * 1000000000), extNext := t.extNext + k } }

/-- An edge is accepted, at the TAI second n (R38, R40, R43). (DEDUCED, log entry 60.) -/
def State.acceptEdge (s : State) (n : Nat) : State :=
  let sample : Int := ((n * 1000000000 : Nat) - (s.time.ft : Int)) * 32
  let s := ({ s with time := { s.time with
    extSelectable := true, extExpect := some (s.clock + 1000000000), extNext := n + 1, extBad := 0, extOffset := sample } }).reselect
  if s.time.src = 12 then s.steer sample else s

/-- TIMEREF_PPS_EDGE: a rising edge, dt ns after the commands before it (R40, R41). (DEDUCED, log entry 60.) -/
def execTimerefPpsEdge (dt : Nat) (s : State) : Host.Outcome State Fault Refusal :=
  .next (
    let s := s.passTo (s.clock + dt)
    let dv := s.time.drvCount
    let d := dv.filter s.countFits
    let b := s.time.bmcCount.filter s.countFits
    let fits := match s.time.extExpect with
      | some e => decide (s.clock ≤ e + 1000) && decide (e ≤ s.clock + 1000)
      | none => d.isSome || b.isSome
    if !fits then (if s.time.extExpect.isSome then s.badEdge false else s)
    else
      let s := { s with time := { s.time with drvCount := none, bmcCount := none } }
      match d, b with
      | some x, some y =>
        if x.count ≠ y.count then
          let s := s.raise Src.time 0x05 (x.count % 2 ^ 32 + y.count % 2 ^ 32 * 2 ^ 32)
          let s := s.endCount dv (Cs.aborted, 1)
          if s.time.extExpect.isSome then s.badEdge true else s
        else (s.acceptEdge x.count).endCount dv (Cs.done, 0)
      | some x, none => (s.acceptEdge x.count).endCount dv (Cs.done, 0)
      | none, some y => (s.acceptEdge y.count).endCount dv (Cs.refusedState, 1)
      | none, none => (s.acceptEdge s.time.extNext).endCount dv (Cs.refusedState, 1))

/-- PPS_EDGE_MISSED: the expected edge has not come within 1 µs of its instant (R40). -/
def execPpsEdgeMissed (s : State) : Host.Outcome State Fault Refusal :=
  .next (match s.time.extExpect with
    | some e => (s.passTo (e + 1001)).badEdge true
    | none => s)

/-- TIMEREF_10M_LOSS: the 10 MHz reference disappears, and while edges go on a notice says so (R40). (DEDUCED, log entry 62.) -/
def execTimeref10mLoss (s : State) : Host.Outcome State Fault Refusal :=
  .next (
    if s.time.lost10m || !bitOf (s.regs.val 0x40010).toNat 1 then s
    else
      let s := { s with time := { s.time with lost10m := true } }
      if s.time.extSelectable then s.raise Src.time 0x04 0 else s)

/-- BMC_TIME_COUNT: a count from the board management controller replaces its earlier one (R40, R41). -/
def execBmcTimeCount (count : Nat) (s : State) : Host.Outcome State Fault Refusal :=
  .next { s with time := { s.time with bmcCount := some ⟨count % 2 ^ 48, s.clock, none⟩ } }

/-- TIME_SET (R41, R60). (DEDUCED, log entry 61.) -/
def execTimeSet (c : Cmd) (s : State) : Host.Outcome State Fault Refusal :=
  .next (s.command c .g (chk (!bitOf (s.regs.val 0x40010).toNat 0) Cs.refusedState 2) fun s =>
    let old := s.time.drvCount
    ({ s with time := { s.time with drvCount := some ⟨bitsOf c.d.p0 47 0, s.clock, some c⟩ } }).endCount old (Cs.aborted, 3))

/-- TIME_SET_TIMEOUT: no edge has been accepted within 2 s (R41). -/
def execTimeSetTimeout (s : State) : Host.Outcome State Fault Refusal :=
  .next (match s.time.drvCount with
    | some h =>
      let s := s.passTo (h.arrived + 2000000000)
      ({ s with time := { s.time with drvCount := none } }).endCount (some h) (Cs.aborted, 2)
    | none => s)

/-! ### Time messages -/

/-- A port's time record. -/
def PortTime.init : PortTime := ⟨0, false, 0, 0, 255, 0, 0, 0, none⟩

/-- The STATE byte of a time message (R42). -/
def State.stateByte (s : State) : Nat := modeCode s.time.mode + (decide (s.time.src = 12)).toNat * 16

/-- TIME_MSG_SEND: at each interval every trained port whose `PORT_EN` bit is 1 sends a time message (R42). (DEDUCED, log entry 64.) -/
def execTimeMsgSend (s : State) : Host.Outcome State Fault Refusal :=
  .next (
    let s := s.passTo (s.time.msgAt + s.regs.fld 0x40014 19 0)
    let s := { s with time := { s.time with msgAt := s.clock } }
    ((List.range 12).filter fun n => (s.jl n).st == 5 && bitOf (s.regs.val 0x40010).toNat (n + 4)).foldl (fun s n =>
      let t := (s.time.ports.get n).getD PortTime.init
      let s := s.emit (.timeMsg n t.txSeq s.time.ft t.echoTx t.echoRx s.advHops s.stateByte (s.regs.fld 0x40010 31 16))
      { s with time := { s.time with ports := s.time.ports.put n { t with txSeq := (t.txSeq + 1) % 65536 } } }) s)

/-- The offset of the peer's time from the node's own, in units of 1/32 ns (R43); t1 and t2 are the echoes, t3 the peer's transmit time and
t4 the arrival; a is in units of 1/16 ns. -/
def thetaOf (t1 t2 t3 t4 : Nat) (a : Int) : Int := ((t2 - t1 : Int) - (t4 - t3 : Int)) * 16 - a

/-- TIME_MSG_RECEIVE: a message gives what its sender offers, and with its echoes an offset sample (R42 to R44, R353). -/
def execTimeMsgReceive (jl : JPort) (m : TimeMsg) (s : State) : Host.Outcome State Fault Refusal :=
  .next (
    let n := jl.val
    if (s.jl n).st ≠ 5 ∨ !bitOf (s.regs.val 0x40010).toNat (n + 4) then s
    else
      let t4 := s.time.ft
      let t := (s.time.ports.get n).getD PortTime.init
      let t := { t with hops := m.hops, state := m.state, domain := m.domain, echoTx := m.txFt, echoRx := t4 }
      let theta := thetaOf m.echoTx m.echoRx m.txFt t4 (signedOf 16 (s.regs.fld (0x40040 + 4 * n) 15 0))
      let oneWay : Int := ((t4 : Int) - m.txFt) * 32 + theta
      let late := match t.delay with | some d => decide (d + 1600 < oneWay) | none => false
      if m.echoTx == 0 || late then
        ({ s with time := { s.time with ports := s.time.ports.put n t } }).reselect
      else
        let t := { t with heard := true, theta := theta, delay := some (Config.filterDelay t.delay oneWay) }
        let was := s.time.src
        let s := (s.setJl n { s.jl n with exchanges := (s.jl n).exchanges - 1 })
        let s := ({ s with time := { s.time with ports := s.time.ports.put n t } }).reselect
        if s.time.src = n ∧ (was = n ∨ !s.time.onceSet) then s.steer theta else s)

/-! ### Time states -/

/-- ACQUIRE_LOCK_TIMER: the filtered offset has been within 4 ns for 1 s (R45). -/
def execAcquireLockTimer (s : State) : Host.Outcome State Fault Refusal :=
  .next (match s.time.mode, s.time.inside with
    | .acquiring, some t => (s.passTo (t + 1000000000)).enterLocked
    | _, _ => s)

/-- LOCK_OFFSET_TIMER: the filtered offset has exceeded 16 ns for 10 ms (R45). -/
def execLockOffsetTimer (s : State) : Host.Outcome State Fault Refusal :=
  .next (match s.time.mode, s.time.outside with
    | .locked, some t =>
      let s := s.passTo (t + 10000000)
      { s with time := { s.time with mode := .acquiring, inside := none, outside := none } }
    | _, _ => s)

/-- HOLDOVER_EXPIRY: 60 s of HOLDOVER; slot assignments stop, and a pending plan swap is aborted (R45, R47, R69). -/
def execHoldoverExpiry (s : State) : Host.Outcome State Fault Refusal :=
  .next (
    if s.time.mode ≠ .holdover then s
    else
      let s := s.passTo (s.time.lostAt + 60000000000)
      let s := ({ s with time := { s.time with mode := .suspended, src := 15, running := false } }).raise Src.time 0x02 4
      (s.time.events.filter fun e => e.kind == .planSwap).foldl (fun s e => s.abortEvent e) s)

/-- PLAN_RESUME: the first cycle boundary after 1 s of LOCKED (R47). -/
def execPlanResume (s : State) : Host.Outcome State Fault Refusal :=
  .next (match s.time.active with
    | some p =>
      if s.time.mode = .locked ∧ !s.time.running then
        let s := s.passTo (s.time.lockedAt + 1000000000)
        let s := s.passToFt (roundUp s.time.ft (128 * 2 ^ p.slotLog2))
        { s with time := { s.time with running := true } }
      else s
    | none => s)

/-! ### Plan commands -/

/-- A little-endian field of an image. -/
def field (bs : List Byte) (off n : Nat) : Nat := leValue ((bs.drop off).take n)

/-- Consecutive little-endian fields of n bytes each. -/
def words (n : Nat) : Nat → List Byte → List Nat
  | 0, _ => []
  | k + 1, bs => leValue (bs.take n) :: words n k (bs.drop n)

/-- The pairs of a list with their index, from i on, whose value is not 0. -/
def nonZero (i : Nat) : List Nat → Table Nat
  | [] => []
  | v :: t => if v = 0 then nonZero (i + 1) t else (i, v) :: nonZero (i + 1) t

/-- A plan image as the pool keeps it (R52 to R55). -/
def planOf (bs : List Byte) : Plan :=
  let l := field bs 0xA 1
  let maps := (List.range 12).map fun n =>
    (nonZero 0 (words 2 (2 ^ l) (bs.drop (0x40C0 + 2 ^ (l + 1) * n)))).map fun (e : Nat × Nat) => (n * 8192 + e.1, e.2)
  { level := field bs 6 2, domain := field bs 8 2, slotLog2 := l, lend := bitOf (field bs 0xB 1) 0, portMask := field bs 0xC 2 % 4096,
    planId := field bs 0x10 4, flows := nonZero 0 (words 4 4096 (bs.drop 0x40)), road := nonZero 0 (words 8 16 (bs.drop 0x4040)),
    slots := maps.flatten }

/-- Has a reserved field of an image a bit set (R52 to R55)? -/
def planReserved (bs : List Byte) : Bool :=
  let l := field bs 0xA 1
  bitsOf (field bs 0xB 1) 7 1 != 0 || bitsOf (field bs 0xC 2) 15 12 != 0 || field bs 0xE 2 != 0 || field bs 0x16 42 != 0 ||
    (words 4 4096 (bs.drop 0x40)).any (fun e => bitsOf e 26 24 != 0 || bitsOf e 15 10 != 0) ||
    (words 8 16 (bs.drop 0x4040)).any (fun e => bitsOf e 63 25 != 0) ||
    (words 2 (12 * 2 ^ l) (bs.drop 0x40C0)).any (fun e => bitsOf e 13 12 != 0)

/-- Is a flow valid in a plan, with its entry as the flow table gives it? -/
def Plan.valid (p : Plan) (f : Nat) : Bool := bitOf ((p.flows.get f).getD 0) 31

/-- Does the flow table break check 7 of R56? -/
def Plan.badFlows (p : Plan) : Bool :=
  p.flows.has 0 || p.flows.any fun e => bitOf e.2 31 && (bitsOf e.2 23 16 == 0 || decide (52 < bitsOf e.2 23 16))

/-- Does a slot entry break check 8 of R56? -/
def Plan.badSlot (p : Plan) (e : Nat) : Bool :=
  let ty := bitsOf e 15 14
  let arg := bitsOf e 11 0
  if ty = 0 then arg != 0
  else if ty = 1 then arg == 0 || !p.valid arg
  else if ty = 2 then bitsOf arg 11 4 != 0
  else true

/-- The longest run of true in a list. -/
def longestRun : List Bool → Nat → Nat → Nat
  | [], cur, best => max cur best
  | b :: t, cur, best => if b then longestRun t (cur + 1) best else longestRun t 0 (max cur best)

/-- Is a port's map short of OPEN slots (check 9 of R56)? Runs are counted across the cycle boundary. -/
def Plan.badOpen (p : Plan) (port : Nat) : Bool :=
  let n := 2 ^ p.slotLog2
  let busy := (List.range n).map fun i => bitsOf ((p.slots.get (port * 8192 + i)).getD 0) 15 14 != 0
  decide ((busy.filter fun b => !b).length < n / 64) || decide (64 < longestRun (busy ++ busy) 0 0)

/-- The fields of a channel's roadworks entry: START, EVERY, PHASE, ENABLE (R55). (DEDUCED, log entry 64.) -/
def Plan.roadOf (p : Plan) (m : Nat) : Nat × Nat × Nat × Bool :=
  let e := (p.road.get m).getD 0
  (bitsOf e 15 0, bitsOf e 19 16, bitsOf e 23 20, bitOf e 24)

/-- Does a roadworks entry break check 10 of R56? `ENABLE` 0 is allowed only for a channel that is empty or retired. (DEDUCED, log entry
64.) -/
def State.badRoad (s : State) (p : Plan) (m : Nat) : Bool :=
  let e := p.roadOf m
  let t := e.2.1 * 128 * 2 ^ p.slotLog2
  if e.2.2.2 then decide (2 ^ p.slotLog2 < e.1 + 5) || e.2.1 == 0 || decide (e.2.1 ≤ e.2.2.1) || decide (t < 1000000) || decide (2000000 < t)
  else (s.chan m).inService && (s.cprot m).st != 3

/-- Can the windows of two channels overlap (check 11 of R56)? -/
def Plan.roadsMeet (p : Plan) (a b : Nat) : Bool :=
  let x := p.roadOf a
  let y := p.roadOf b
  let g := Nat.gcd x.2.1 y.2.1
  x.2.2.2 && y.2.2.2 && decide (x.1 < y.1 + 5) && decide (y.1 < x.1 + 5) && x.2.2.1 % g == y.2.2.1 % g

/-- The first check of R56 that an image fails. (DEDUCED, log entry 64.) -/
def State.planCheck (s : State) (bs : List Byte) : Option Nat :=
  let n := bs.length
  let l := field bs 0xA 1
  let p := planOf bs
  if field bs 0 4 ≠ 0x4E414C50 ∨ field bs 4 2 ≠ 1 ∨ field bs 0x10 4 = 0 then some 1
  else if crc32c (bs.take (n - 4)) ≠ field bs (n - 4) 4 then some 2
  else if l < 10 ∨ 13 < l ∨ n ≠ 0x40C0 + 24 * 2 ^ l + 4 then some 3
  else if p.domain ≠ s.regs.fld 0x40010 31 16 then some 4
  else if ((s.boot.fw.map (·.featureMax)).getD 0) < p.level then some 5
  else if planReserved bs then some 6
  else if p.badFlows then some 7
  else if p.slots.any (fun e => p.badSlot e.2 || !bitOf p.portMask (e.1 / 8192)) then some 8
  else if (List.range 12).any (fun k => bitOf p.portMask k && p.badOpen k) then some 9
  else if (List.range 16).any (fun m => s.badRoad p m) then some 10
  else if (List.range 16).any (fun a => (List.range a).any fun b => p.roadsMeet a b) then some 11
  else none

/-- Is a plan swap pending? -/
def State.swapPending (s : State) : Bool := s.time.events.any fun e => e.kind == .planSwap

/-- PLAN_LOAD: the image is read from `BUF` (R60). -/
def execPlanLoad (c : Cmd) (s : State) : Host.Outcome State Fault Refusal :=
  .next (s.command c .g (chk s.swapPending Cs.refusedState) fun s => s.readBuf c (bitsOf c.d.p0 31 0))

/-- The image of a PLAN_LOAD has been read: it is checked, and replaces the standby bank's content (R56). -/
def State.planRead (s : State) (c : Cmd) (bs : List Byte) : State :=
  if s.swapPending then s.endWith c (Cs.refusedState, 0)
  else match s.planCheck bs with
  | some k => s.endWith c (Cs.refusedParam, k)
  | none => ({ s with time := { s.time with standby := some (planOf bs) } }).done c (planOf bs).planId

/-- The cycle period of a plan in ns; of the built-in table where there is none (R48, R59). -/
def cycleOf (p : Option Plan) : Nat := 128 * 2 ^ ((p.map (·.slotLog2)).getD 13)

/-- The last window of a channel that opens before an instant, and the first that opens at or after it, under the plan in force: one of the
cycles around the instant holds it (R55, R59). -/
def State.lastWindow (s : State) (m t : Nat) : Option Nat :=
  let e := s.roadEntry m
  let cycle := 128 * 2 ^ e.2.2.2.2
  ((List.range 17).map fun i => (t / cycle - i) * cycle + 128 * e.1).find? fun w => decide (w < t) && s.opensAt m w

/-- Does the swap of R67 break a channel's window spacing? A channel without a window on one side has no spacing. (DESIGN CHOICE, log entry
63.) -/
def State.badSwap (s : State) (t : Nat) : Bool :=
  let new := { s with time := { s.time with active := s.time.standby } }
  (List.range 16).any fun m => match s.lastWindow m t, new.nextWindow m t with
    | some a, some b => decide (b < a + 1000000) || decide (a + 2000000 < b)
    | _, _ => false

/-- PLAN_ACTIVATE (R61, R67). (DEDUCED, log entry 64.) -/
def execPlanActivate (c : Cmd) (s : State) : Host.Outcome State Fault Refusal :=
  .next (
    let t := c.d.p0
    s.command c .g (lowestOf [
      chk (s.time.standby.isNone || s.time.mode != .locked) Cs.refusedState,
      chk (!s.eventRoom) Cs.refusedResource,
      chk (!s.instantOk t || t % max (cycleOf s.time.active) (cycleOf s.time.standby) != 0 || s.badSwap t) Cs.refusedParam]) fun s =>
    s.addEvent ⟨t, .planSwap, some c⟩)

/-- PLAN_DISCARD (R60). -/
def execPlanDiscard (c : Cmd) (s : State) : Host.Outcome State Fault Refusal :=
  .next (s.command c .g none fun s =>
    let s := (s.time.events.filter fun e => e.kind == .planSwap).foldl (fun s e => s.abortEvent e) s
    ({ s with time := { s.time with standby := none } }).done c 0)

end Sys2Proof.Machine
end

