-- ==== Sys2Proof/Machine/Security.lean ====
section
/-! DEFINITION. Keys, sealed models, SPDM, IDE and TDISP, zeroise, and staging firmware (R448 to R467, R523). A command that reads `BUF`
goes on in the function named for it once the bytes have arrived. -/

namespace Sys2Proof.Machine

open Sys2Proof

/-! ### Keys -/

/-- Is an SPDM session open (R451, R454)? -/
def State.sessionOpen (s : State) (id : Nat) : Bool := ((s.sec.sessions.get id).map (·.finished)).getD false

/-- Checks 1 to 4 of R454 on a blob that must carry a type, a slot, a District and an epoch. (DESIGN CHOICE, log entry 75.) -/
def State.blobCheck (s : State) (bs : List Byte) (session type slot district epoch : Nat) : Option Stop :=
  firstOf [
    chk (!s.sessionOpen session) Cs.refusedState 1,
    chk (field bs 4 1 != type || field bs 5 1 != slot || field bs 6 2 % 1024 != district || field bs 8 4 != epoch) Cs.refusedParam 2,
    chk (field bs 12 4 != s.sec.gen) Cs.refusedParam 3,
    chk (!Config.tagOk session bs) Cs.refusedParam 4]

/-- Has a District a mapped page or a flash locator (R454)? -/
def State.hasPages (s : State) (d : Nat) : Bool := !(s.maps.leaves d).isEmpty

/-- KEY_INSTALL (R454): the blob is read. -/
def execKeyInstall (c : Cmd) (s : State) : Host.Outcome State Fault Refusal :=
  .next (
    let type := bitsOf c.d.p0 2 0
    let full := type == 2 && decide (4096 ≤ s.sec.models.length)
    s.command c .d (firstOf [
      chk (!s.sessionOpen (bitsOf c.d.p1 31 0)) Cs.refusedState 1,
      chk full Cs.refusedResource,
      chk (decide (2 < type)) Cs.refusedParam 2]) fun s => s.readBuf c 128)

/-- The blob of a KEY_INSTALL has arrived (R453, R454, R465). -/
def State.keyRead (s : State) (c : Cmd) (bs : List Byte) : State :=
  let d := c.d.district
  let type := bitsOf c.d.p0 2 0
  let slot := bitsOf c.d.p0 5 3
  match s.district d with
  | none => s.endWith c (Cs.refusedState, 0)
  | some x =>
    let key := Config.keyName (bitsOf c.d.p1 31 0) bs
    match firstOf [
      s.blobCheck bs (bitsOf c.d.p1 31 0) type slot d x.epoch,
      chk (x.level == 0 || (type != 2 && s.hasPages d) || (type == 2 && s.sec.models.has (d * 8 + slot))) Cs.refusedState 5] with
    | some e => s.endWith c e
    | none =>
      let s := if type = 0 then
          ({ s with sec := { s.sec with dramKeys := s.sec.dramKeys.put d 1 } }).setDistrict d { x with dramInstalled := true }
        else if type = 1 then
          ({ s with sec := { s.sec with flashKeys := s.sec.flashKeys.put d 1 } }).setDistrict d { x with flashInstalled := true }
        else { s with sec := { s.sec with models := s.sec.models.put (d * 8 + slot) key } }
      (s.raise Src.security 0x05 (type + slot * 8) (some d)).done c 0

/-- LINK_KEY_STAGE (R459): the blob is read. -/
def execLinkKeyStage (c : Cmd) (s : State) : Host.Outcome State Fault Refusal :=
  .next (s.command c .g (firstOf [
    chk (!s.sessionOpen (bitsOf c.d.p1 31 0)) Cs.refusedState 1,
    chk (decide (11 < bitsOf c.d.p0 3 0)) Cs.refusedParam]) fun s => s.readBuf c 128)

/-- The blob of a LINK_KEY_STAGE has arrived: the key is staged in its direction (R459). (DEDUCED, log entry 69.) -/
def State.linkKeyRead (s : State) (c : Cmd) (bs : List Byte) : State :=
  let n := bitsOf c.d.p0 3 0
  let rx := bitOf c.d.p0 4
  match s.blobCheck bs (bitsOf c.d.p1 31 0) 3 (bitsOf c.d.p0 4 0) 0 0 with
  | some e => s.endWith c e
  | none =>
    let p := s.jl n
    let s := s.setJl n (if rx then { p with rxNext := true } else { p with txNext := true })
    (s.raise Src.security 0x05 (3 + n % 8 * 8)).done c 0

/-! ### Sealed models -/

/-- A byte of District memory as the pool reads it for a check: in DRAM or in its flash copy. -/
def State.districtByte (s : State) (d da : Nat) : Byte :=
  match s.site d none da with
  | .at pa => s.mem.byte pa
  | .flash => match s.maps.leafAt d (da / 4096) with
    | some (_, l) => readCell s.flash.cells (l.addr * 4096 + da % 4096)
    | none => 0
  | _ => 0

/-- Checks 1 to 3 of R457 on a bind. (DESIGN CHOICE, log entry 75.) -/
def State.bindCheck (s : State) (c : Cmd) : Option Stop :=
  let d := c.d.district
  let id := bitsOf c.d.p0 15 0
  let slot := bitsOf c.d.p0 18 16
  let image := bitsOf c.d.p1 47 0
  let len := bitsOf c.d.p2 39 0
  let ck := oprefOf c.d.p3
  let w := s.maps.windows.get id
  let plain := match w with | some w => w.kind == 0 && w.district == d && !w.w && !w.a | none => false
  let span := (w.map (·.span)).getD 0
  firstOf [
    chk (!plain) Cs.refusedParam 1,
    chk (image % 256 != 0 || len % 256 != 0 || len == 0 || decide (span < image + len) || !s.oprefOk d ck (len / 64) (·.r)) Cs.refusedParam 2,
    chk (!s.sec.models.has (d * 8 + slot) || s.sec.bindings.has id ||
      decide (4 ≤ (s.sec.bindings.filter fun b => b.2.district == d && b.2.slot == slot).length)) Cs.refusedState 3]

/-- MODEL_LOAD (R457): a bind reads its manifest; an unbind waits for the jobs that use the window. -/
def execModelLoad (c : Cmd) (s : State) : Host.Outcome State Fault Refusal :=
  .next (
    let id := bitsOf c.d.p0 15 0
    let act := bitsOf c.d.p0 21 20
    let bound := match s.sec.bindings.get id with
      | some b => b.district == c.d.district && b.slot == bitsOf c.d.p0 18 16
      | none => false
    if s.windowMoving id then s
    else s.command c .d (if act = 0 then s.bindCheck c else lowestOf [chk (act != 3 && !bound) Cs.refusedState, chk (act == 3) Cs.refusedParam]) fun s =>
      if act = 0 then s.readBuf c 128
      else match s.maps.windows.get id with
        | none => s
        | some w =>
          let x : Drain :=
            { cmd := c, district := c.d.district, first := w.base / 4096, last := w.base / 4096 + w.lastPage, window := some (id, w),
              needSearch := false, translated := false, stamp := s.coh.stamp, kept := recOf c Cs.done 0 0, unmap := false, moves := [],
              unbind := true }
          { s with maps := { s.maps with drains := s.maps.drains ++ [x] } })

/-- The manifest of a bind has arrived (R456, R457). -/
def State.modelRead (s : State) (c : Cmd) (bs : List Byte) : State :=
  let d := c.d.district
  let len := bitsOf c.d.p2 39 0
  let ck := oprefOf c.d.p3
  let slot := bitsOf c.d.p0 18 16
  let key := (s.sec.models.get (d * 8 + slot)).getD 0
  let plane := (List.range (len / 64)).map fun i => s.districtByte d (s.daOf ck + i)
  match firstOf [
    s.bindCheck c,
    chk (!Config.tagOk key bs || field bs 8 8 != len) Cs.refusedParam 4,
    chk (!Config.planeOk bs plane) Cs.refusedParam 5] with
  | some e => s.endWith c e
  | none =>
    let b : Binding := ⟨d, slot, bitsOf c.d.p1 47 0, len, ck, field bs 4 4⟩
    ({ s with sec := { s.sec with bindings := s.sec.bindings.put (bitsOf c.d.p0 15 0) b } }).done c 0

/-! ### Bounce buffers -/

/-- BOUNCE_SET (R462). -/
def execBounceSet (c : Cmd) (s : State) : Host.Outcome State Fault Refusal :=
  .next (
    let d := c.d.district
    let len := bitsOf c.d.p2 39 0
    let x := s.district d
    let valid := bitOf c.d.p0 4
    s.command c .d (lowestOf [
      chk ((x.map (·.conf)) == some true && (x.map (·.owner)) != some (ringFn c.ring)) Cs.refusedOwner,
      chk ((x.map (·.conf)) != some true || c.d.p1 % 4096 != 0 || len % 4096 != 0 || decide (2 ^ 64 < c.d.p1 + len)) Cs.refusedParam]) fun s =>
    let k := d * 16 + bitsOf c.d.p0 3 0
    let t := if valid then s.sec.bounce.put k ⟨c.d.p1, len⟩ else s.sec.bounce.del k
    ({ s with sec := { s.sec with bounce := t } }).done c 0)

/-! ### Zeroise -/

/-- A non-zero value completes a PAIR write of `SEC_ZEROISE_ARM.VALUE` (R464, R466). (DEDUCED, log entry 69.) -/
def State.armZeroise (s : State) (v : Nat) : State := { s with sec := { s.sec with arm := some (v % 65536, s.clock) } }

/-- ZEROISE_ARM_EXPIRY: 100 ms without use (R464). -/
def execZeroiseArmExpiry (s : State) : Host.Outcome State Fault Refusal :=
  .next (match s.sec.arm with
    | some a => let s := s.passTo (a.2 + 100000000); { s with sec := { s.sec with arm := none } }
    | none => s)

/-- The windows bound to slots of a District. -/
def State.boundTo (s : State) (d : Nat) (slots : List Nat) : List (Nat × Window) :=
  (s.sec.bindings.filter fun b => b.2.district == d && slots.contains b.2.slot).filterMap fun b => (s.maps.windows.get b.1).map fun w => (b.1, w)

/-- Scopes 0 and 1 of KEY_ZEROISE: the windows of the slots are unbound after their jobs, and the slots are cleared (R464). (DEDUCED, log
entry 69.) -/
def State.zeroiseSlots (s : State) (c : Cmd) : State :=
  let d := bitsOf c.d.p1 9 0
  let slots := if bitsOf c.d.p0 17 16 = 0 then [bitsOf c.d.p1 18 16] else List.range 8
  match s.boundTo d slots with
  | [] => (s.afterUnbind c).done c 0
  | ws => ws.foldl (fun s (e : Nat × Window) =>
      let x : Drain :=
        { cmd := c, district := d, first := e.2.base / 4096, last := e.2.base / 4096 + e.2.lastPage, window := some e, needSearch := false,
          translated := false, stamp := s.coh.stamp, kept := recOf c Cs.done 0 0, unmap := false, moves := [], unbind := true }
      { s with maps := { s.maps with drains := s.maps.drains ++ [x] } }) s

/-- Scope 2: the keys of a port go; an encrypted link goes down and stays down until new keys are staged (R464). (DEDUCED, log entry 69.) -/
def State.zeroisePort (s : State) (n : Nat) : State :=
  let p := s.jl n
  let up := (p.st == 5 || p.st == 6) && p.encOn
  let s := s.setJl n { p with txKey := false, rxKey := false, txNext := false, rxNext := false, txAt := none, rxAt := none,
                              hardStop := p.hardStop || up }
  if up then s.linkDown n false else s

/-- Scope 3: every key, session and depot copy goes, and every District ends (R464). (DEDUCED, log entry 69.) -/
def State.zeroiseAll (s : State) (c : Cmd) : State :=
  let s := { s with sec := { s.sec with zeroised := true, sessions := [], ide := [], dramKeys := [], flashKeys := [], models := [] } }
  let s := (List.range 12).foldl (fun s n => s.zeroisePort n) s
  let s := (s.maps.districts.map (·.1)).foldl (fun s d => if ((s.district d).map (·.st)) == some .erasing then s else s.startErase d none) s
  let s := s.raise Src.security 0x01 3
  if s.maps.districts.isEmpty then s.done c 0 else { s with sec := { s.sec with zeroCmd := some c } }

/-- KEY_ZEROISE (R464): it must start within 100 ms of its arming, which it uses up. (DEDUCED, log entry 69.) -/
def execKeyZeroise (c : Cmd) (s : State) : Host.Outcome State Fault Refusal :=
  .next (
    let armed := match s.sec.arm with
      | some a => a.1 == bitsOf c.d.p0 15 0 && decide (s.clock ≤ a.2 + 100000000)
      | none => false
    let scope := bitsOf c.d.p0 17 16
    let port := bitsOf c.d.p1 3 0
    s.command c .g (chk (!armed || (scope == 2 && decide (11 < port))) Cs.refusedParam) fun s =>
    let s := { s with sec := { s.sec with arm := none } }
    if scope = 0 ∨ scope = 1 then s.zeroiseSlots c
    else if scope = 2 then ((s.zeroisePort port).raise Src.security 0x01 (2 + port * 256)).done c 0
    else s.zeroiseAll c)

/-! ### SPDM -/

/-- The number of a transport in a session's record and in an answer. (PRESUMED, log entry 67.) -/
def transportNo : Transport → Nat
  | .mctp => 0
  | .doe p => 1 + p % 2
  | .relay => 3

/-- Response codes of SPDM 1.3. (PRESUMED, log entry 67.) -/
def Spdm.version : Nat := 0x04
def Spdm.capabilities : Nat := 0x61
def Spdm.algorithms : Nat := 0x63
def Spdm.digests : Nat := 0x01
def Spdm.certificate : Nat := 0x02
def Spdm.challengeAuth : Nat := 0x03
def Spdm.measurements : Nat := 0x60
def Spdm.keyExchange : Nat := 0x64
def Spdm.finish : Nat := 0x65
def Spdm.heartbeat : Nat := 0x68
def Spdm.keyUpdate : Nat := 0x69
def Spdm.endSession : Nat := 0x6C
def Spdm.error : Nat := 0x7F
/-- The error codes Busy, InvalidRequest and DecryptError. -/
def Spdm.busy : Nat := 3
def Spdm.invalid : Nat := 1
def Spdm.decryptError : Nat := 6

/-- Send an SPDM response on a transport: the output names transport × 256 + response code. -/
def State.spdm (s : State) (t : Transport) (code value : Nat) : State := s.emit (.answer (transportNo t * 256 + code) value)

/-- SPDM_GET_VERSION: SPDM 1.3 (R451). -/
def execSpdmGetVersion (t : Transport) (s : State) : Host.Outcome State Fault Refusal := .next (s.spdm t Spdm.version 0x13)

/-- SPDM_GET_CAPABILITIES (R451). -/
def execSpdmGetCapabilities (t : Transport) (s : State) : Host.Outcome State Fault Refusal :=
  .next (s.spdm t Spdm.capabilities (Config.spdmBody Spdm.capabilities 0 0))

/-- SPDM_NEGOTIATE_ALGORITHMS: of the algorithms offered, those the pool supports: 0 ECDSA P-384 with SHA-384, 1 DHE over secp384r1,
2 AES-256-GCM (R451). -/
def execSpdmNegotiateAlgorithms (t : Transport) (offered : List Nat) (s : State) : Host.Outcome State Fault Refusal :=
  .next (s.spdm t Spdm.algorithms (((List.range 3).filter fun a => offered.contains a).foldl (fun n a => n + 2 ^ a) 0))

/-- SPDM_GET_DIGESTS: of slot 0 (R450, R451). -/
def execSpdmGetDigests (t : Transport) (s : State) : Host.Outcome State Fault Refusal :=
  .next (s.spdm t Spdm.digests (Config.spdmBody Spdm.digests 0 0))

/-- SPDM_GET_CERTIFICATE: a part of the chain of slot 0; the pool has no other slot (R450). -/
def execSpdmGetCertificate (t : Transport) (slot offset length : Nat) (s : State) : Host.Outcome State Fault Refusal :=
  .next (if slot = 0 then s.spdm t Spdm.certificate (Config.spdmBody Spdm.certificate offset length) else s.spdm t Spdm.error Spdm.invalid)

/-- SPDM_CHALLENGE: signed with the alias key of slot 0 (R450, R451). -/
def execSpdmChallenge (t : Transport) (slot nonce : Nat) (s : State) : Host.Outcome State Fault Refusal :=
  .next (if slot = 0 then s.spdm t Spdm.challengeAuth (Config.spdmBody Spdm.challengeAuth nonce s.sec.gen) else s.spdm t Spdm.error Spdm.invalid)

/-- SPDM_GET_MEASUREMENTS: `op` 0 gives the number of blocks, 1 to 8 a block, 255 all of them (R452). Block 8 is `SEC_STAT.GEN`. -/
def execSpdmGetMeasurements (t : Transport) (op nonce : Nat) (sign : Bool) (s : State) : Host.Outcome State Fault Refusal :=
  .next (
    if op = 0 then s.spdm t Spdm.measurements 8
    else if op ≤ 8 ∨ op = 255 then s.spdm t Spdm.measurements (Config.spdmBody (Spdm.measurements + sign.toNat * 256) (op + nonce * 256) s.sec.gen)
    else s.spdm t Spdm.error Spdm.invalid)

/-- SPDM_KEY_EXCHANGE: up to 16 sessions; a seventeenth is answered Busy (R451). (DESIGN CHOICE, log entry 68.) -/
def execSpdmKeyExchange (t : Transport) (share : Nat) (s : State) : Host.Outcome State Fault Refusal :=
  .next (
    if 16 ≤ s.sec.sessions.length then s.spdm t Spdm.error Spdm.busy
    else
      let id := s.sec.nextSession + 1
      let s := { s with sec := { s.sec with nextSession := id, sessions := s.sec.sessions.put id ⟨transportNo t, false, 0⟩ } }
      s.spdm t Spdm.keyExchange (Config.spdmBody Spdm.keyExchange share id))

/-- Is a session known on a transport? -/
def State.sessionOn (s : State) (t : Transport) (id : Nat) : Option Session :=
  (s.sec.sessions.get id).filter fun x => x.transport == transportNo t

/-- The state with a session changed. (DESIGN CHOICE, log entry 68.) -/
def State.setSession (s : State) (id : Nat) (x : Session) : State := { s with sec := { s.sec with sessions := s.sec.sessions.put id x } }

/-- SPDM_FINISH (R451): a FINISH that does not verify leaves the session unfinished. (DESIGN CHOICE, log entry 68.) -/
def execSpdmFinish (t : Transport) (session : Nat) (ok : Bool) (s : State) : Host.Outcome State Fault Refusal :=
  .next (match s.sessionOn t session with
    | some x => if ok then (s.setSession session { x with finished := true }).spdm t Spdm.finish session else s.spdm t Spdm.error Spdm.decryptError
    | none => s.spdm t Spdm.error Spdm.invalid)

/-- SPDM_HEARTBEAT (R451). -/
def execSpdmHeartbeat (t : Transport) (session : Nat) (s : State) : Host.Outcome State Fault Refusal :=
  .next (match s.sessionOn t session with
    | some x => if x.finished then s.spdm t Spdm.heartbeat session else s.spdm t Spdm.error Spdm.invalid
    | none => s.spdm t Spdm.error Spdm.invalid)

/-- SPDM_KEY_UPDATE (R451). -/
def execSpdmKeyUpdate (t : Transport) (session : Nat) (s : State) : Host.Outcome State Fault Refusal :=
  .next (match s.sessionOn t session with
    | some x =>
      if x.finished then (s.setSession session { x with keyGen := x.keyGen + 1 }).spdm t Spdm.keyUpdate session
      else s.spdm t Spdm.error Spdm.invalid
    | none => s.spdm t Spdm.error Spdm.invalid)

/-- A session ends, with its notice (R451, R465). -/
def State.closeSession (s : State) (id why : Nat) : State :=
  ({ s with sec := { s.sec with sessions := s.sec.sessions.del id } }).raise Src.security 0x03 (id % 2 ^ 32 + why * 2 ^ 32)

/-- SPDM_END_SESSION (R451). -/
def execSpdmEndSession (t : Transport) (session : Nat) (s : State) : Host.Outcome State Fault Refusal :=
  .next (match s.sessionOn t session with
    | some _ => (s.spdm t Spdm.endSession session).closeSession session 1
    | none => s.spdm t Spdm.error Spdm.invalid)

/-- SPDM_HEARTBEAT_TIMEOUT: a heartbeat has been missed for three periods (R451). (DESIGN CHOICE, log entry 68.) -/
def execSpdmHeartbeatTimeout (session : Nat) (s : State) : Host.Outcome State Fault Refusal :=
  .next (if (s.sec.sessions.get session).isSome then s.closeSession session 2 else s)

/-- SPDM_RELAY: one SPDM message is read from `BUF` (R451). (DEDUCED, log entry 70.) -/
def execSpdmRelay (c : Cmd) (s : State) : Host.Outcome State Fault Refusal :=
  .next (s.command c .pf none fun s => s.draw.readBuf c (Config.relayLength s.free))

/-- The message of an SPDM_RELAY has arrived: the response is written at `BUF` (R451). (DEDUCED, log entry 70.) -/
def State.relayRead (s : State) (c : Cmd) (bs : List Byte) : State :=
  s.draw.writeBuf c (Config.relayAnswer s.free bs) (recOf c Cs.done 0 0)

/-! ### IDE, TDISP and the entropy source -/

/-- The operations of an IDE_KM message and of a TDISP message, as their specifications number them. (PRESUMED, log entry 67.) -/
def ideKeyProg : Nat := 2
def ideSetGo : Nat := 4
def ideSetStop : Nat := 5
def tdiLock : Nat := 0x83
def tdiStart : Nat := 0x86
def tdiStop : Nat := 0x87

/-- Is a session open on a host port's DOE mailbox (R451, R461)? -/
def State.doeOpen (s : State) (port session : Nat) : Bool :=
  match s.sec.sessions.get session with
  | some x => x.finished && x.transport == 1 + port
  | none => false

/-- IDE_KM_MESSAGE: keys of the link stream and of up to 64 selective streams are programmed, set going and stopped (R461). -/
def execIdeKmMessage (port : HPort) (session stream op key : Nat) (s : State) : Host.Outcome State Fault Refusal :=
  .next (
    let k := port.val * 128 + stream
    let set := fun (s : State) (v : Nat) => { s with sec := { s.sec with ide := s.sec.ide.put k v } }
    if !s.doeOpen port session ∨ 64 < stream then s.emit (.answer (0x1000 + op) 1)
    else
      let s := match s.sec.ide.get k with
        | some v => if op = ideSetGo then set s (v / 2 * 2 + 1) else if op = ideSetStop then set s (v / 2 * 2) else if op = ideKeyProg then set s (key * 2 + v % 2) else s
        | none => if op = ideKeyProg then set s (key * 2) else s
      s.emit (.answer (0x1000 + op) 0))

/-- The code of a TDISP state, as TDISP numbers them. -/
def tdiCode : Tdi → Nat
  | .unlocked => 0
  | .locked => 1
  | .run => 2
  | .error => 3

/-- TDISP_MESSAGE: a VF interface is locked, started or stopped; leaving RUN raises TDISP_STATE (R418, R461, R462). -/
def execTdispMessage (port : HPort) (session fn op : Nat) (s : State) : Host.Outcome State Fault Refusal :=
  .next (
    let f := port.val * 256 + fn % 256
    let old := (s.host.tdi.get f).getD .unlocked
    if !s.doeOpen port session ∨ fn % 256 = 0 then s.emit (.answer (0x2000 + op) 4)
    else
      let new : Tdi := if op = tdiLock ∧ old = .unlocked then .locked else if op = tdiStart ∧ old = .locked then .run
        else if op = tdiStop then .unlocked else old
      let s := { s with host := { s.host with tdi := s.host.tdi.put f new } }
      let s := if old = .run ∧ new ≠ .run then s.raise Src.security 0x04 (f + tdiCode new * 2 ^ 16) else s
      s.emit (.answer (0x2000 + op) (tdiCode new)))

/-- ENTROPY_FAIL (R448, R465). -/
def execEntropyFail (s : State) : Host.Outcome State Fault Refusal :=
  .next (({ s with sec := { s.sec with entropyOk := false } }).raiseLevel Src.security 0x06 0)

/-! ### Staging firmware -/

/-- The bundle that bytes spell (R523). (DESIGN CHOICE, log entry 75.) -/
def bundleOf (bs : List Byte) : Bundle :=
  let f := Config.bundleField bs
  { length := f 0, formatOk := f 1 == 1, signatureOk := f 2 == 1, secVersion := f 3, major := f 4, minor := f 5, build := f 6,
    ifMajor := f 7, ifMinor := f 8, revLo := f 9, revHi := f 10, featureMax := f 11, depotFormat := f 12, digest := f 13 }

/-- The checks of R523 on a staged bundle of a length. -/
def State.stageCheck (s : State) (b : Bundle) (len : Nat) : Option Stop :=
  let run := s.boot.fw
  let hi := (run.map (·.revHi)).getD 0
  let level := (s.time.active.map (·.level)).getD 0
  let fmt := (run.map (·.depotFormat)).getD 0
  firstOf [
    chk (!b.formatOk || b.length != len) Cs.refusedParam,
    chk (!b.signatureOk) Cs.refusedParam,
    chk (decide (b.secVersion < Config.minSecVersion)) Cs.refusedParam,
    chk (decide (hi < b.revLo) || decide (b.revHi < hi) || decide (b.revHi < level)) Cs.refusedParam,
    chk (!Config.depotReads b.depotFormat fmt || !Config.depotReads fmt b.depotFormat) Cs.refusedParam,
    chk s.avail.roll.isSome Cs.refusedState]

/-- FW_STAGE (R523): at most 64 MiB are read. -/
def execFwStage (c : Cmd) (s : State) : Host.Outcome State Fault Refusal :=
  .next (s.command c .g (chk (decide (2 ^ 26 < bitsOf c.d.p0 31 0)) Cs.refusedParam) fun s => s.readBuf c (bitsOf c.d.p0 31 0))

/-- A bundle has arrived for staging: it replaces any bundle staged earlier (R523). -/
def State.stageBundle (s : State) (b : Bundle) : State := { s with avail := { s.avail with staged := some b } }

/-- The bundle of an FW_STAGE has been read. -/
def State.fwRead (s : State) (c : Cmd) (bs : List Byte) : State :=
  let b := bundleOf bs
  match s.stageCheck b bs.length with
  | some e => s.endWith c e
  | none => (s.stageBundle b).done c (fwWord b)

end Sys2Proof.Machine
end

