-- ==== Sys2Proof/Machine/Island.lean ====
section
/-! DEFINITION. The metering island and its activity pipe (R489 to R503, R561). -/

namespace Sys2Proof.Machine

open Sys2Proof

/-! ### Values and layouts -/

/-- Crystal ticks of 40 ns in 100 µs, in a metering period and in 100 ms (R490, R491, R500). (DESIGN CHOICE, log entry 71.) -/
def tapTicks : Nat := 2500
def periodTicks : Nat := 25000000
def lossTicks : Nat := 2500000

/-- A signed quantity as a 64-bit field. -/
def u64 (x : Int) : Nat := (x.emod (2 ^ 64)).toNat

/-- An accumulator floored to 1 µJ (R491). -/
def microJoule (acc : Int) : Int := acc / (1000 * 2 ^ 32)

/-- The integrator bank; fields never written read 0 (R492). -/
def Isl.bankBytes (i : Isl) : List Byte := i.bank.getD (leBytes 64 0)

/-- `NODE_CHANS`, the formula in force and `METER_CONST` (R492). -/
def Isl.nodeChans (i : Isl) : Nat := fieldOf i.bankBytes 32 1
def Isl.formula (i : Isl) : Nat := if fieldOf i.bankBytes 33 1 = 0 then 1 else fieldOf i.bankBytes 33 1
def Isl.meterConst (i : Isl) : Nat := fieldOf i.bankBytes 34 2
/-- A bank without a shunt value leaves the island uncalibrated (R492). -/
def Isl.uncal (i : Isl) : Bool := fieldOf i.bankBytes 0 4 == 0

/-- The node energy of two channel energies: the sum of the channels that `NODE_CHANS` selects (R491). -/
def Isl.nodeOf (i : Isl) (e0 e1 : Int) : Int :=
  (if bitOf i.nodeChans 0 then e0 else 0) + (if bitOf i.nodeChans 1 then e1 else 0)

/-- The cumulative node energy. -/
def Isl.node (i : Isl) : Int := i.nodeOf (microJoule i.acc0) (microJoule i.acc1)

/-- The 32 bytes of an event-log entry (R496). -/
def IslEvent.bytes (e : IslEvent) : List Byte :=
  leBytes 4 e.seq ++ leBytes 8 e.itime ++ leBytes 8 e.ft ++ leBytes 1 e.type ++ leBytes 1 0 ++ leBytes 2 e.data16 ++ leBytes 8 e.data64

/-- The 48 bytes of an allocation entry of a District (R501). -/
def Alloc.bytes (d : Nat) (a : Alloc) : List Byte :=
  leBytes 4 a.seq ++ leBytes 2 d ++ leBytes 1 (a.inService.toNat + 2 * a.incomplete.toNat) ++ leBytes 1 0 ++ leBytes 8 a.seq ++
  leBytes 8 a.direct ++ leBytes 8 a.base ++ leBytes 8 a.cum ++ leBytes 4 a.epoch ++ leBytes 4 0

/-- The allocation table's 49,152 bytes, District 0 first (R501). A District without an entry has the record's `SEQ` and zeros. -/
def allocBytes (seq : Nat) (t : Table Alloc) : List Byte :=
  (List.range 1024).flatMap fun d => Alloc.bytes d ((t.get d).getD ⟨seq, false, false, 0, 0, 0, 0⟩)

/-- Bytes 0 to 191 of a node record (R494). -/
def NodeRecord.body (r : NodeRecord) : List Byte :=
  leBytes 4 0x54524D56 ++ leBytes 2 1 ++ leBytes 2 r.formula ++ leBytes 8 Config.serial.toNat ++ leBytes 8 r.seq ++ leBytes 8 r.itime ++
  leBytes 8 r.ft ++ leBytes 8 r.period ++ leBytes 8 r.e0 ++ leBytes 8 r.e1 ++ leBytes 8 r.eNode ++ leBytes 4 r.vMean ++
  leBytes 4 (u64 r.iMean) ++ leBytes 4 r.flags ++ leBytes 4 r.eventSeq ++ leBytes 8 0 ++ leBytes 48 r.allocHash ++ leBytes 48 r.chain

/-- The BAR4 header region of the island (R494, R502): the newest record with its signature stands at byte 128. -/
def Isl.header (i : Isl) : List Byte :=
  leBytes 4 i.seq ++ leBytes 4 0x5244484D ++ leBytes 4 Config.romVersion ++ leBytes 4 i.formula ++ leBytes 8 Config.serial.toNat ++
  leBytes 1 i.status ++ leBytes 3 0 ++ leBytes 4 i.discarded ++ leBytes 48 Config.romHash ++ leBytes 48 0 ++
  (match i.newest with
   | some r => r.body ++ leBytes 96 r.signature
   | none => leBytes 288 0)

/-- The event region at 0xD000: the newest 255 entries in ascending `SEQ`. -/
def Isl.eventRegion (i : Isl) : List Byte :=
  leBytes 4 i.eventSeq ++ leBytes 4 i.eventSeq ++ leBytes 24 0 ++ (i.events.drop (i.events.length - 255)).flatMap IslEvent.bytes

/-- A byte of the BAR4 image (R443). (DEDUCED, log entry 9.) -/
def Isl.bar4 (i : Isl) (off : Nat) : Byte :=
  if off < 0x1000 then i.header.getD off 0
  else if off < 0xD000 then (allocBytes i.seq i.allocs).getD (off - 0x1000) 0
  else if off < 0xF000 then i.eventRegion.getD (off - 0xD000) 0
  else Config.islandCert (off - 0xF000)

/-! ### Events and slots -/

/-- Log an event: the chain commits to it, and a full ring loses its oldest entry (R493, R494, R496). -/
def Isl.log (i : Isl) (type : Nat) (data16 : Nat := 0) (data64 : Nat := 0) : Isl :=
  let e := IslEvent.mk (i.eventSeq + 1) i.itime i.lastFt type data16 data64
  let events := i.events ++ [e]
  { i with
    eventSeq := i.eventSeq + 1
    events := if 8192 < events.length then events.drop 1 else events
    chain := Config.sha384 (leBytes 48 i.chain ++ e.bytes)
    viewGen := if bitOf i.sel 31 then i.viewGen + 1 else i.viewGen }

/-- Set a flag of the period (R495). -/
def Isl.flag (i : Isl) (n : Nat) : Isl := { i with flags := i.flags ||| 2 ^ n }

/-- Is slot 0 the newer of the two slots? -/
def Isl.zeroNewer (i : Isl) : Bool :=
  decide (i.slot1.seq < i.slot0.seq) || (i.slot1.seq == i.slot0.seq && decide (i.slot1.itime < i.slot0.itime))

/-- Write a cumulative slot, alternately (R493). (DESIGN CHOICE, log entry 72.) -/
def Isl.writeSlot (i : Isl) : Isl :=
  let c := CumSlot.mk i.seq (microJoule i.acc0) (microJoule i.acc1) i.itime
  if i.zeroNewer then { i with slot1 := c } else { i with slot0 := c }

/-- A change of the island alone (R489). -/
def State.island (s : State) (f : Isl → Isl) : State := { s with isl := f s.isl }

/-! ### Start and stop -/

/-- The slot with the higher SEQ of those that pass their CRC (R493). (DESIGN CHOICE, log entry 72.) -/
def Isl.bestSlot (i : Isl) (st : IslandStart) : CumSlot :=
  let best := if i.zeroNewer then i.slot0 else i.slot1
  let other := if i.zeroNewer then i.slot1 else i.slot0
  let bestOk := if i.zeroNewer then st.slot0Ok else st.slot1Ok
  let otherOk := if i.zeroNewer then st.slot1Ok else st.slot0Ok
  if bestOk then best else if otherOk then other else ⟨0, 0, 0, 0⟩

/-- The island at a start, before its checks: measured totals come from the store, and a first period begins (R493, R495, R497). (DESIGN
CHOICE, log entry 72.) -/
def Isl.boot (i : Isl) (st : IslandStart) : Isl :=
  let c := i.bestSlot st
  { i with
    acc0 := c.e0 * (1000 * 2 ^ 32), acc1 := c.e1 * (1000 * 2 ^ 32), seq := c.seq, itime := c.itime, from0 := c.itime
    base0 := c.e0, base1 := c.e1, flags := 1, vSum := 0, iSum := 0, samples := 0, counts := [], frames := 0, installed := 0
    lastFrame := c.itime, lost := false, lostFrom := 0, lostSum := 0, lastFt := 0, sel := 0, crystalBad := false, resetPin := false }

/-- Does the integrator bank, where one is written, pass its CRC-32C (R492)? (DEDUCED, log entry 73.) -/
def Isl.bankOk (i : Isl) : Bool :=
  match i.bank with
  | none => true
  | some b => crc32c (b.take 60) == fieldOf b 60 4

/-- ISLAND_START (R497). (DESIGN CHOICE, log entry 72.) -/
def execIslandStart (st : IslandStart) (s : State) : Host.Outcome State Fault Refusal :=
  .next (s.island fun i =>
    if i.status ≠ 1 then i
    else
      let pin := i.resetPin
      let ok := st.selfTestOk && i.bankOk
      let i := i.boot st
      let i := if pin && (ok || st.storeOk) then i.log 0x0B else i
      if ok then ({ (i.log 0x01 (st.unmeasured % 65536)) with status := 0 })
      else if st.storeOk then { (i.log 0x09) with status := 2 }
      else { i with status := 2 })

/-- ISLAND_BROWN_OUT: a slot and POWER_DOWN are written, and the island stops (R497). -/
def execIslandBrownOut (s : State) : Host.Outcome State Fault Refusal :=
  .next (s.island fun i =>
    if i.status = 1 then i
    else { (i.writeSlot.log 0x02 0 (u64 (microJoule i.acc0))) with status := 1 })

/-- MTR_RST_N_ASSERT: the board resets the island alone (R489). (DESIGN CHOICE, log entry 72.) -/
def execMtrRstNAssert (s : State) : Host.Outcome State Fault Refusal :=
  .next (s.island fun i => { i with status := 1, resetPin := true })

/-! ### Measurement -/

/-- A value held to a range (R491). -/
def clip (lo hi x : Int) : Int := if x < lo then lo else if hi < x then hi else x

/-- The full scales of voltage and current, in nV at the pins (R491). -/
def clipV (v : Int) : Int := clip 0 1250000000 v
def clipI (i : Int) : Int := clip (-62500000) 62500000 i

/-- The energy of sample pairs of a channel (R491). (DESIGN CHOICE, log entry 71.) -/
def Isl.energyOf (i : Isl) (ch : Nat) (xs : List (Int × Int)) : Int :=
  xs.foldl (fun (e : Int) (x : Int × Int) => e + Config.sampleEnergy ch i.bankBytes (clipV x.1) (clipI x.2)) 0

/-- Was a sample clipped? -/
def clipped (xs : List (Int × Int)) : Bool := xs.any fun (x : Int × Int) => clipV x.1 != x.1 || clipI x.2 != x.2

/-- A clipped sample flags its period; the first of a period logs OVERRANGE (R491, R503). (DESIGN CHOICE, log entry 71.) -/
def Isl.overrange (i : Isl) (xs : List (Int × Int)) : Isl :=
  if !clipped xs || bitOf i.flags 1 then i else (i.flag 1).log 0x06

/-- Pulses of `MTR_PULSE` that have fallen due by a node energy (R492). -/
def Isl.pulsesAt (i : Isl) (node : Int) : Int := node * i.meterConst / 3600000000000

/-- Take the samples of 100 µs, and update the tap (R490, R491). (DESIGN CHOICE, log entry 71.) -/
def Isl.tap (i : Isl) (s0 s1 : List (Int × Int)) : Isl :=
  let i := { i with itime := i.itime + tapTicks }
  let i := i.overrange (s0 ++ s1)
  let acc0 := i.acc0 + i.energyOf 0 s0
  let acc1 := i.acc1 + i.energyOf 1 s1
  { i with
    acc0 := acc0, acc1 := acc1
    vSum := s0.foldl (fun (n : Int) (x : Int × Int) => n + clipV x.1) i.vSum
    iSum := s0.foldl (fun (n : Int) (x : Int × Int) => n + clipI x.2) i.iSum
    samples := i.samples + s0.length
    tap0 := u64 (microJoule acc0), tap1 := u64 (microJoule acc1), count := (i.count + 1) % 65536 }

/-- TAP_UPDATE: the sample pairs of both channels since the last, as voltages and currents in nV at the pins (R490 to R492). (DESIGN CHOICE,
log entry 71.) -/
def execTapUpdate (s0 s1 : List (Int × Int)) (s : State) : Host.Outcome State Fault Refusal :=
  .next (
    if s.isl.status ≠ 0 then s
    else
      let i := s.isl.tap s0 s1
      let n := (i.pulsesAt i.node - i.pulsesAt s.isl.node).toNat
      (List.range n).foldl (fun (s : State) _ => s.islEmit .meterPulse) { s with isl := i })

/-- CRYSTAL_FAULT: the island goes on, on the RC oscillator, and flags each period (R491, R495, R503). (DEDUCED, log entry 73.) -/
def execCrystalFault (s : State) : Host.Outcome State Fault Refusal :=
  .next (s.island fun i =>
    if i.status ≠ 0 || i.crystalBad then i else (({ i with crystalBad := true }).flag 3).log 0x07)

/-- TAMPER_CHANGE (R495, R496, R503). (DEDUCED, log entry 73.) -/
def execTamperChange (asserted : Bool) (s : State) : Host.Outcome State Fault Refusal :=
  .next (s.island fun i =>
    if i.tamper == asserted then i
    else
      let i := { i with tamper := asserted }
      if i.status ≠ 0 then i
      else if asserted then (i.flag 5).log 0x0A 1 else i.log 0x0A 0)

/-- OTP_PROGRAM: the integrator bank is written once, while `MTR_PROG_EN` is high (R492, R503). (DEDUCED, log entry 73.) -/
def execOtpProgram (data : List Byte) (progEn : Bool) (s : State) : Host.Outcome State Fault Refusal :=
  .next (s.island fun i =>
    if !progEn || i.bank.isSome then i
    else
      let b := (data ++ leBytes 64 0).take 64
      ({ i with bank := some b }).log 0x03 0 (fieldOf b 60 4))

/-- HISTORY_SELECT: a write of `MTR_I3C_SEL` (R502). -/
def execHistorySelect (sel : Nat) (s : State) : Host.Outcome State Fault Refusal :=
  .next (s.island fun i =>
    let x := sel % 2 ^ 13
    let new := (bitOf sel 31).toNat * 2 ^ 31 + x
    if (if bitOf sel 31 then 63 else 2047) < x || new == i.sel then i
    else { i with sel := new, viewGen := i.viewGen + 1 })

/-! ### The activity pipe -/

/-- The DRAM pages that a District holds: data, copies and their parity, and staging (R498). (DEDUCED, log entry 74.) -/
def State.dramPages (s : State) (d : Nat) : Nat :=
  let strength := ((s.district d).map (·.strength)).getD 0
  (pageCost (s.residentPages d + s.dramCopies d) strength + 63) / 64 + s.stagingUsed d

/-- The counts of a District over a frame (R498). (DEDUCED, log entry 74.) -/
def State.activityOf (s : State) (d epoch : Nat) : Activity :=
  let c := Config.activity s.free d
  ⟨epoch, c 0, c 1, c 2, c 3, c 4, c 5, s.dramPages d⟩

/-- ACTIVITY_FRAME_SEND (R498). (DEDUCED, log entry 74.) -/
def execActivityFrameSend (s : State) : Host.Outcome State Fault Refusal :=
  .next (
    if !s.boot.fwReady then s
    else
      let s := s.passTo s.pwr.frameAt
      let f : Frame := ⟨true, s.pwr.frameNo, s.time.ft, s.installed / 4096,
        s.maps.districts.map fun (e : Nat × District) => (e.1, s.activityOf e.1 e.2.epoch)⟩
      let s := { s with pwr := { s.pwr with frameNo := (s.pwr.frameNo + 1) % 2 ^ 32, frameAt := s.clock + 10000000 } }
      (s.emit (.frame f)).draw)

/-- Counts added. -/
def Activity.add (a b : Activity) : Activity :=
  ⟨b.epoch, a.engS + b.engS, a.engV + b.engV, a.engA + b.engA, a.bursts + b.bursts, a.acts + b.acts, a.cells + b.cells, a.pages + b.pages⟩

/-- Counts under an earlier epoch of their District, which go to District 0, are held at key 1024 (R499). (DEDUCED, log entry 73.) -/
def strayKey : Nat := 1024

/-- Add an entry to the counts of the period (R498, R499). (DEDUCED, log entry 73.) -/
def addCount (t : Table Activity) (e : Nat × Activity) : Table Activity :=
  let d := e.1 % 1024
  match t.get d with
  | none => t.put d e.2
  | some a =>
    if a.epoch = e.2.epoch then t.put d (Activity.add a e.2)
    else
      let stray := match t.get strayKey with
        | some x => Activity.add x a
        | none => a
      (t.put strayKey stray).put d e.2

/-- ACTIVITY_FRAME_RECEIVE (R498 to R500). -/
def execActivityFrameReceive (f : Frame) (s : State) : Host.Outcome State Fault Refusal :=
  .next (s.island fun i =>
    if i.status ≠ 0 then i
    else if !f.ok then { i with discarded := (i.discarded + 1) % 2 ^ 32 }
    else
      let back := i.lost
      let i := { i with
        lastFrame := i.itime, lastFt := f.ft, frames := i.frames + 1, installed := f.installed
        counts := f.entries.foldl addCount i.counts }
      if back then ({ i with lost := false, lostSum := i.lostSum + (i.node - i.lostFrom) }).log 0x05 else i)

/-- PIPE_LOST: no valid frame has arrived for 100 ms of island time (R500). (DEDUCED, log entry 73.) -/
def execPipeLost (s : State) : Host.Outcome State Fault Refusal :=
  .next (s.island fun i =>
    if i.status ≠ 0 || i.lost then i
    else
      let i := { i with itime := max i.itime (i.lastFrame + lossTicks) }
      (({ i with lost := true, lostFrom := i.node }).flag 4).log 0x04)

/-! ### The period end -/

/-- The direct energy of counts in µJ under an allocation formula (R499). (DEDUCED, log entry 74.) -/
def directOf (formula : Nat) (a : Activity) : Nat :=
  if formula = 1 then
    (2304 * a.engS + 4096 * a.engV + 7424 * a.engA + 75 * a.bursts + 20 * a.acts + a.cells) / 10000
  else Config.otherFormula formula [a.engS, a.engV, a.engA, a.bursts, a.acts, a.cells] / 1000

/-- What formula version 1 gives the Districts of a period, by District: d_i and base_i (R499). `e` is the energy that counts divide and
`alone` what goes to District 0 as a whole (R500). -/
def divide (formula : Nat) (counts : Table Activity) (frames installed : Nat) (e alone : Int) : Table (Int × Int) :=
  let stray : Nat := ((counts.get strayKey).map (directOf formula)).getD 0
  let raw : Table Int := (counts.only fun k _ => k != strayKey).map fun (x : Nat × Activity) =>
    (x.1, ((directOf formula x.2 + (if x.1 = 0 then stray else 0) : Nat) : Int))
  let raw := if raw.has 0 then raw else raw.put 0 (stray : Int)
  let dsum : Int := raw.foldl (fun (n : Int) (x : Nat × Int) => n + x.2) 0
  let d : Table Int := if e < dsum then raw.each fun _ x => x * e / dsum else raw
  let b : Int := e - d.foldl (fun (n : Int) (x : Nat × Int) => n + x.2) 0
  let baseOf : Nat → Int := fun k => match counts.get k with
    | some a => if frames * installed = 0 then 0 else b * a.pages / (frames * installed)
    | none => 0
  let given : Int := d.foldl (fun (n : Int) (x : Nat × Int) => if x.1 = 0 then n else n + baseOf x.1) 0
  d.map fun (x : Nat × Int) => (x.1, x.2, if x.1 = 0 then b - given + alone else baseOf x.1)

/-- The allocation table of a period (R501). (DEDUCED, log entry 73.) -/
def Isl.newAllocs (i : Isl) (seq : Nat) (parts : Table (Int × Int)) : Table Alloc :=
  let inc := bitOf i.flags 4
  let kept : Table Alloc := i.allocs.each fun _ a => { a with seq := seq, inService := false, incomplete := inc, direct := 0, base := 0 }
  parts.foldl (fun (t : Table Alloc) (x : Nat × Int × Int) =>
    let old := i.allocs.get x.1
    let epoch := ((i.counts.get x.1).map (·.epoch)).getD ((old.map (·.epoch)).getD 0)
    let before := match old with
      | some a => if a.epoch = epoch then a.cum else 0
      | none => 0
    t.put x.1 ⟨seq, i.counts.has x.1, inc, u64 x.2.1, u64 x.2.2, u64 (before + x.2.1 + x.2.2), epoch⟩) kept

/-- METERING_PERIOD_END: the record of the period, its allocation table, the slot and the hourly record (R493 to R495, R499, R501). -/
def Isl.periodEnd (i : Isl) : Isl :=
  let i := { i with itime := max i.itime (i.from0 + periodTicks), seq := i.seq + 1 }
  let e0 := microJoule i.acc0
  let e1 := microJoule i.acc1
  let eNode := i.node - i.nodeOf i.base0 i.base1
  let alone := i.lostSum + (if i.lost then i.node - i.lostFrom else 0)
  let allocs := i.newAllocs i.seq (divide i.formula i.counts i.frames i.installed (eNode - alone) alone)
  let flags := if i.uncal then i.flags ||| 4 else i.flags
  let r := NodeRecord.mk i.formula i.seq i.itime i.lastFt (i.itime - i.from0) (u64 e0) (u64 e1) (u64 eNode)
    (Config.meanVolt i.bankBytes i.vSum i.samples) (Config.meanAmp i.bankBytes i.iSum i.samples) flags i.eventSeq
    (Config.sha384 (allocBytes i.seq allocs)) i.chain 0
  let r := { r with signature := Config.islandSign (Config.sha384 r.body) }
  let hour := i.itime / (3600 * periodTicks)
  let first := i.hourly.isEmpty || hour != i.hour
  let i := { i with
    allocs := allocs, newest := some r
    hourly := if first then (r :: i.hourly).take 2048 else i.hourly
    hour := hour
    viewGen := if first && !bitOf i.sel 31 then i.viewGen + 1 else i.viewGen
    from0 := i.itime, base0 := e0, base1 := e1
    flags := (if i.crystalBad then 8 else 0) + (if i.lost then 16 else 0) + (if i.tamper then 32 else 0)
    vSum := 0, iSum := 0, samples := 0, counts := [], frames := 0, lostSum := 0, lostFrom := i.node }
  i.writeSlot

/-- METERING_PERIOD_END (R494). In fault, in reset and while it starts the island signs no record (R490, R497). (DESIGN CHOICE, log entry
71.) -/
def execMeteringPeriodEnd (s : State) : Host.Outcome State Fault Refusal :=
  .next (s.island fun i => if i.status ≠ 0 then i else i.periodEnd)

end Sys2Proof.Machine
end

