-- ==== Sys2Proof/Machine/Survey.lean ====
section
/-! DEFINITION. SURVEY and DISTRICT_QUERY (R390, R414 to R417), and what the management port answers (R557). -/

namespace Sys2Proof.Machine

open Sys2Proof

/-! ### Sections -/

/-- The entry sizes of the sections, 1 to 15 (R416). -/
def sectionSize (id : Nat) : Nat := [0, 8, 16, 16, 32, 64, 40, 32, 16, 32, 32, 16, 16, 16, 16, 16].getD id 0

def shareCode : ShareState → Nat
  | .opened => 0
  | .gap => 1
  | .handover => 2
  | .unserved => 3

def ringCode : RingState → Nat
  | .disabled => 0
  | .running => 1
  | .stopped => 2
  | .draining => 3

def distCode : DistState → Nat
  | .creating => 0
  | .inService => 1
  | .erasing => 2
  | .renumbering => 3
  | .converting => 4

/-- SHARES. -/
def State.shareEntry (s : State) (n : Nat) : List Byte :=
  leBytes 1 n ++ leBytes 1 ((s.servedBy n).getD 0xF) ++ leBytes 1 (shareCode (s.share n).st) ++ leBytes 5 0

/-- AVENUES. -/
def State.avEntry (s : State) (a : Nat) : List Byte :=
  let x := s.av a
  leBytes 1 a ++ leBytes 1 (roleCode x.role) ++ leBytes 1 (x.share.getD 0xFF) ++
    leBytes 1 (engIdx.filter fun e => (s.engOf a e).inService).length ++ leBytes 4 x.build ++ leBytes 8 x.checkpoint

/-- The next swap of a central pair: the periodic one, or an earlier event of the queue (R66, R520). -/
def State.nextSwap (s : State) (p : Nat) : Nat :=
  let period := s.regs.fld 0x10180 31 0 * 1000000000
  let d := (p * period / 3 + period - s.time.ft % period) % period
  let next := s.time.ft + (if d = 0 then period else d)
  (s.time.events.filter fun e => match e.kind with | .roleSwap q _ => q == p | _ => false).foldl (fun m e => min m e.instant) next

/-- CORES. -/
def State.coreEntry (s : State) (p : Nat) : List Byte :=
  let x := s.core p
  leBytes 1 p ++ leBytes 1 x.active ++ leBytes 1 x.standbyFailed.toNat ++ leBytes 5 0 ++ leBytes 8 (s.nextSwap p)

/-- RINGS. (DEDUCED, log entry 32.) -/
def State.ringEntry (s : State) (k : Nat) : List Byte :=
  let r := s.ring k
  leBytes 2 k ++ leBytes 1 (ringCode r.st) ++ leBytes 1 r.cause ++ leBytes 4 r.head ++ leBytes 4 r.tail ++ leBytes 4 r.cplTail ++
    leBytes 4 r.cplHead ++ leBytes 1 r.n ++ leBytes 1 r.m ++ leBytes 2 (r.waiting.length + r.running.length) ++ leBytes 4 r.lastCmd ++ leBytes 4 0

/-- DISTRICTS: the entry that DISTRICT_QUERY writes too. -/
def State.districtEntry (s : State) (d : Nat) (x : District) : List Byte :=
  leBytes 2 d ++ leBytes 1 (distCode x.st) ++ leBytes 1 (x.level + x.strength * 4 + x.tiered.toNat * 16 + x.conf.toNat * 32) ++
    leBytes 2 x.owner ++ leBytes 1 x.priority ++ leBytes 1 0 ++ leBytes 8 (s.mappedPages d) ++ leBytes 8 (s.residentPages d) ++
    leBytes 8 (s.dramCopies d) ++ leBytes 8 (s.flashCopies d) ++ leBytes 4 x.nextVersion ++
    leBytes 2 (s.maps.windows.filter fun w => w.2.district == d).length ++
    leBytes 2 (s.cr.blocks.filter fun b => b.2.2 == d).length ++ leBytes 3 x.engines ++ leBytes 1 0 ++
    leBytes 4 (s.host.rings.filter fun r => (r.2.acc.map (·.district)) == some d).length ++ leBytes 8 0

/-- CROSSINGS: a block's first number, its count and its District. -/
def State.blockEntry (s : State) (n : Nat) (b : Nat × Nat) : List Byte :=
  let xs := (List.range b.1).filterMap fun i => s.crossing (n + i)
  leBytes 2 b.2 ++ leBytes 2 n ++ leBytes 1 b.1 ++ leBytes 1 0 ++ leBytes 2 (xs.filter (·.sat)).length ++
    leBytes 4 (s.cr.regs.filter fun r => decide (n ≤ r.crossing) && decide (r.crossing < n + b.1)).length ++
    leBytes 4 (crc32c (xs.map fun x => leBytes 8 x.seq).flatten)

/-- TIME_PLAN. -/
def State.timeEntry (s : State) : List Byte :=
  let next := s.time.events.foldl (fun (m : Option Nat) e => some (match m with | some x => min x e.instant | none => e.instant)) none
  leBytes 1 (modeCode s.time.mode) ++ leBytes 1 s.time.src ++ leBytes 1 s.advHops ++
    leBytes 1 (s.planOn.toNat + s.swapPending.toNat * 2 + s.time.standby.isSome.toNat * 4) ++ leBytes 4 s.errBound ++
    leBytes 4 ((s.time.active.map (·.planId)).getD 0) ++ leBytes 4 ((s.time.standby.map (·.planId)).getD 0) ++
    leBytes 2 ((s.time.active.map (·.level)).getD 0) ++ leBytes 1 ((s.time.active.map (·.slotLog2)).getD 0) ++ leBytes 1 0 ++
    leBytes 2 s.time.events.length ++ leBytes 2 0 ++ leBytes 8 (next.getD 0)

/-- POWER. -/
def State.powerEntry (s : State) : List Byte :=
  let p := s.pwr
  leBytes 2 p.present.cap ++ leBytes 2 (inWatts s.estimate) ++ leBytes 2 (inWatts p.links) ++ leBytes 2 (inWatts p.mem) ++
    leBytes 2 (inWatts p.comp) ++ leBytes 1 ((List.range 9).foldl (fun n a => n + s.powered a) 0) ++ leBytes 1 p.calibrated.toNat ++
    leBytes 4 0 ++ leBytes 8 p.calFt ++ leBytes 8 0

/-- PORTS: the twelve links, the two host ports and the four flash root ports. The state, width and rate codes of the PCIe ports are free:
the spec gives none. (DEDUCED, log entry 32.) -/
def State.portEntry (s : State) (k : Nat) : List Byte :=
  if k < 12 then
    let p := s.jl k
    leBytes 1 0 ++ leBytes 1 k ++ leBytes 1 p.st ++ leBytes 1 p.width ++ leBytes 1 p.rev ++ leBytes 1 p.encOn.toNat ++
      leBytes 2 p.partner ++ leBytes 8 0
  else
    let kind := if k < 14 then 1 else 2
    let i := if k < 14 then k - 12 else k - 14
    let enc := kind == 1 && ((s.sec.ide.get (i * 128)).map fun v => v % 2 == 1).getD false
    leBytes 1 kind ++ leBytes 1 i ++ leBytes 1 (Config.pciePort s.free k 0) ++ leBytes 1 (Config.pciePort s.free k 1) ++
      leBytes 1 (Config.pciePort s.free k 2) ++ leBytes 1 enc.toNat ++ leBytes 10 0

/-- CHANNELS. -/
def State.chanEntry (s : State) (m : Nat) : List Byte :=
  let x := s.cprot m
  leBytes 1 m ++ leBytes 1 x.st ++ leBytes 1 (s.chan m).mode ++ leBytes 1 (x.moved * 100 / 15) ++
    leBytes 2 (if (s.chan m).inService then s.dram.geom.capGib else 0) ++ leBytes 1 x.detours.length ++ leBytes 1 0 ++
    leBytes 4 (s.reserveFree m / 262144) ++ leBytes 4 0

/-- FLASH: slots 0 to 15, then groups 0 to 15. -/
def State.flashEntry (s : State) (k : Nat) : List Byte :=
  if k < 16 then
    let st := ((s.flash.slots.get k).map (·.st)).getD 0
    let mem := s.flash.groups.findSome? fun (g : Nat × Group) =>
      (g.2.members.findIdx? fun m => m.slot == k).map fun i => (g.1, i)
    leBytes 1 0 ++ leBytes 1 k ++ leBytes 1 st ++ leBytes 1 ((mem.map (·.1)).getD 0xFF) ++ leBytes 1 ((mem.map (·.2)).getD 0xFF) ++ leBytes 11 0
  else match s.flash.groups.get (k - 16) with
    | some g => leBytes 1 1 ++ leBytes 1 (k - 16) ++ leBytes 1 g.mode ++ leBytes 1 g.st ++ leBytes 4 0 ++ leBytes 8 g.freePages
    | none => leBytes 1 1 ++ leBytes 1 (k - 16) ++ leBytes 1 0 ++ leBytes 1 4 ++ leBytes 12 0

/-- The entries of a section as a function of a host port sees them (R414, R416). (DEDUCED, log entry 32.) -/
def State.section (s : State) (fn id : Nat) : List (List Byte) :=
  let owns := fun d => ((s.district d).map fun x => x.owner == fn).getD false
  match id with
  | 1 => (List.range 8).map s.shareEntry
  | 2 => (List.range 9).map s.avEntry
  | 3 => (List.range 3).map s.coreEntry
  | 4 => ((s.host.rings.filter fun (r : Nat × Ring) => r.2.st != .disabled &&
      (if isAccRing r.1 then (r.2.acc.map fun a => owns a.district).getD false else ringFn r.1 == fn)).map fun r => s.ringEntry r.1)
  | 5 => (s.maps.districts.filter fun (d : Nat × District) => !d.2.conf || d.2.owner == fn).map fun d => s.districtEntry d.1 d.2
  | 6 => (s.maps.windows.filter fun (w : Nat × Window) => owns w.2.district).map fun w => leBytes 8 w.1 ++ leBytes 32 w.2.bits
  | 7 => (s.ms.slots.filter fun (m : Nat × MsSlot) => owns (m.1 / 16)).map fun m => leBytes 32 (s.msRecord (m.1 / 16) (m.1 % 16))
  | 8 => (s.cr.blocks.filter fun (b : Nat × Nat × Nat) => owns b.2.2).map fun b => s.blockEntry b.1 b.2
  | 9 => [s.timeEntry]
  | 10 => [s.powerEntry]
  | 11 => [leBytes 4 s.oldestErr ++ leBytes 4 s.newestErr ++ leBytes 8 0]
  | 12 => (List.range 18).map s.portEntry
  | 13 => (List.range 16).map s.chanEntry
  | 14 => (List.range 32).map s.flashEntry
  | 15 => s.coh.fenced.map fun (f : Nat × Nat) => leBytes 2 f.1 ++ leBytes 6 0 ++ leBytes 8 f.2
  | _ => []

/-! ### The whole of SURVEY -/

/-- Bytes of the header and the directory (R414). (DEDUCED, log entry 32.) -/
def surveyHead : Nat := 64 + 15 * 16

/-- The sections asked for (R390). (DEDUCED, log entry 32.) -/
def sectionsOf (mask : Nat) : List Nat :=
  ((List.range 16).drop 1).filter fun i => mask % 65536 / 2 == 0 || bitOf mask i

/-- Whole sections in directory order while they fit; the rest have no place (R414). (DEDUCED, log entry 32.) -/
def place (len : Nat) : Nat → List (Nat × List (List Byte)) → List (Nat × List (List Byte) × Option Nat)
  | _, [] => []
  | at', (id, es) :: rest =>
    let n := es.length * sectionSize id
    if at' + n ≤ len then (id, es, some at') :: place len (at' + n) rest
    else (id, es, none) :: rest.map fun x => (x.1, x.2, none)

/-- A directory entry (R415). -/
def dirEntry (placed : List (Nat × List (List Byte) × Option Nat)) (id : Nat) : List Byte :=
  let x := match placed.find? fun p => p.1 == id with
    | some (_, es, some off) => (es.length, off)
    | some (_, _, none) => (0xFFFFFFFF, 0)
    | none => (0, 0)
  leBytes 1 id ++ leBytes 1 0 ++ leBytes 2 (sectionSize id) ++ leBytes 4 x.1 ++ leBytes 8 x.2

/-- What SURVEY writes for a function with a section mask and a buffer length, and the bytes needed (R414, R415). A buffer too short for the
header and directory takes nothing. (DEDUCED, log entry 32.) -/
def State.survey (s : State) (fn mask len : Nat) : List Byte × Nat :=
  let all := (sectionsOf mask).map fun id => (id, s.section fn id)
  let total := surveyHead + all.foldl (fun n x => n + x.2.length * sectionSize x.1) 0
  if len < surveyHead then ([], total)
  else
    let placed := place len surveyHead all
    let present := placed.foldl (fun n x => if x.2.2.isSome then n + 2 ^ x.1 else n) 0
    let fw := s.boot.fw
    let holder := match s.host.token with | some p => p + 1 | none => 0
    let mine := match s.host.token with | some p => p == fn / 256 | none => false
    let header := leBytes 4 0x56525553 ++ leBytes 2 1 ++ leBytes 2 present ++ leBytes 8 s.time.ft ++ leBytes 4 ((fw.map fwWord).getD 0) ++
      leBytes 1 ((fw.map (·.ifMajor)).getD 0) ++ leBytes 1 ((fw.map (·.ifMinor)).getD 0) ++
      leBytes 1 ((fw.map (·.revLo)).getD 0) ++ leBytes 1 ((fw.map (·.revHi)).getD 0) ++
      leBytes 2 ((s.time.active.map (·.level)).getD 0) ++ leBytes 2 s.node ++ leBytes 1 (holder + mine.toNat * 4) ++ leBytes 2 fn ++
      leBytes 1 0 ++ leBytes 8 total ++ leBytes 24 0
    let dir := ((List.range 16).drop 1).flatMap (dirEntry placed)
    (header ++ dir ++ placed.flatMap fun x => if x.2.2.isSome then x.2.1.flatten else [], total)

/-- SURVEY (R414). -/
def execSurvey (c : Cmd) (s : State) : Host.Outcome State Fault Refusal :=
  .next (s.command c .any none fun s =>
    let x := s.survey (ringFn c.ring) (c.d.p1 % 2 ^ 16) (bitsOf c.d.p0 31 0)
    (s.draw).writeBuf c x.1 (recOf c Cs.done 0 (x.1.length % 2 ^ 32 + x.2 % 2 ^ 32 * 2 ^ 32)))

/-- DISTRICT_QUERY (R390, R416). -/
def execDistrictQuery (c : Cmd) (s : State) : Host.Outcome State Fault Refusal :=
  .next (s.command c .q (chk (s.district c.d.district).isNone Cs.refusedState) fun s =>
    match s.district c.d.district with
    | some x => s.writeBuf c (s.districtEntry c.d.district x) (recOf c Cs.done 0 0)
    | none => s)

/-! ### The management port -/

/-- MCTP_CONTROL: answered from the release of CHIP_RESET_N; the content is MCTP's (R557). (DESIGN CHOICE, log entry 33.) -/
def execMctpControl (cmd arg : Nat) (s : State) : Host.Outcome State Fault Refusal :=
  .next ((s.emit (.answer (0x3000 + cmd) (Config.mgmtAnswer s.free cmd arg))).draw)

/-- PLDM_BASE: type 0, answered from the release of CHIP_RESET_N; the content is PLDM's (R557). (DESIGN CHOICE, log entry 33.) -/
def execPldmBase (cmd : Nat) (s : State) : Host.Outcome State Fault Refusal :=
  .next ((s.emit (.answer (0x3100 + cmd) (Config.mgmtAnswer s.free (256 + cmd) 0))).draw)

/-- A numeric sensor's value: the Avenues' Tj, 0 to 8, the rails' power, 9 to 23 in the order of R547, the estimate and the cap in W (R557).
The sensors' numbers and units are the model's. (DESIGN CHOICE, log entry 34.) -/
def State.sensor (s : State) (n : Nat) : Nat :=
  if n < 9 then u64 (s.av n).tj
  else if n = 24 then inWatts s.estimate
  else if n = 25 then s.pwr.present.cap
  else Config.mgmtAnswer s.free 512 n

/-- PLDM_MONITOR: type 2, from `FW_READY` onward (R557). (DESIGN CHOICE, log entry 33.) -/
def execPldmMonitor (sensor : Nat) (s : State) : Host.Outcome State Fault Refusal :=
  .next (if s.boot.fwReady then (s.emit (.answer 0x3200 (s.sensor sensor))).draw else s)

/-- PLDM_FW_UPDATE: a type 5 update that completes with a verified bundle stages it (R523, R557). -/
def execPldmFwUpdate (b : Bundle) (s : State) : Host.Outcome State Fault Refusal :=
  .next (if s.boot.fwReady && (s.stageCheck b b.length).isNone then s.stageBundle b else s)

end Sys2Proof.Machine
end

