-- ==== Sys2Proof/Machine/DmaRows.lean ====
section
/-! DEFINITION. The host's side of a DMA: translations, page requests, invalidations and the pages that have moved (R94 to R97, R245). -/

namespace Sys2Proof.Machine

open Sys2Proof

/-- The tag of the pool accesses of a host copy: above those of jobs and rings. (DEDUCED, log entry 26.) -/
def copyTag (k : Nat) : Nat := 2 ^ 41 + k

/-- A host copy's record with `BYTES_DONE` in result bytes 0 to 7 and a location, host or pool, in bytes 12 to 19 (R95, R245, R396).
(DEDUCED, log entry 26.) -/
def copyRecord (c : Cmd) (status detail bytesDone loc : Nat) : Record :=
  recOf c status detail (bytesDone % 2 ^ 64 + loc % 2 ^ 64 * 2 ^ 96) (detail != 0)

/-- A DMA ends with its command (R95). -/
def State.endDma (s : State) (k : Nat) (rcd : Record) : State :=
  match s.host.dmas.get k with
  | none => s
  | some d => ((s.dropDma k).dropWork (copyTag k)).finish d.cmd rcd

/-- The host does not grant the page that a DMA has come to: its command ends FAULT_TRANSLATION with the host address, and the pages below
stand as moved (R95). (DEDUCED, log entry 25.) -/
def State.dmaFault (s : State) (k : Nat) (d : Dma) : State :=
  let at' := d.addr + d.done
  s.endDma k (match d.use with
    | .hostCopy => copyRecord d.cmd Cs.faultTranslation 2 d.done at'
    | _ => recFault d.cmd Cs.faultTranslation 2 at')

/-- ATS_TRANSLATION_COMPLETION: the page may move, or a Page Request is sent; a function whose page requests are off faults (R94, R95).
(DEDUCED, log entry 25.) -/
def execAtsTranslationCompletion (dma : Nat) (granted : Bool) (s : State) : Host.Outcome State Fault Refusal :=
  .next (match s.host.dmas.get dma with
    | none => s
    | some d =>
      if d.translated || d.waitingPri then s
      else if granted then
        let s := s.setDma dma { d with translated := true }
        if d.toHost then s else s.emit (.hostRead d.fn (d.addr + d.done) d.chunk)
      else if s.host.priOff.contains d.fn then s.dmaFault dma d
      else (s.setDma dma { d with waitingPri := true, priAt := s.clock }).emit (.pageRequest d.fn d.page))

/-- The response codes of a Page Request Group Response, as PCIe numbers them. -/
def prgSuccess : Nat := 0
def prgInvalid : Nat := 1
def prgFailure : Nat := 15

/-- PRG_RESPONSE (R95): after Response Failure the function sends no more Page Requests, and PRI_OFF is raised. (DEDUCED, log entry 25.) -/
def execPrgResponse (dma code : Nat) (s : State) : Host.Outcome State Fault Refusal :=
  .next (match s.host.dmas.get dma with
    | none => s
    | some d =>
      if !d.waitingPri then s
      else if code = prgSuccess then (s.setDma dma { d with waitingPri := false }).emit (.atsRequest d.fn d.page)
      else if code = prgInvalid then s.dmaFault dma d
      else if code = prgFailure then
        let s := { s with host := { s.host with priOff := s.host.priOff.ins d.fn } }
        (s.raise (Src.host (d.fn / 256)) 0x07 d.fn).dmaFault dma d
      else s)

/-- PRI_TIMEOUT: no response within 2 s (R95). (DEDUCED, log entry 25.) -/
def execPriTimeout (dma : Nat) (s : State) : Host.Outcome State Fault Refusal :=
  .next (match s.host.dmas.get dma with
    | none => s
    | some d => if d.waitingPri then (s.passTo (d.priAt + 2000000000)).dmaFault dma d else s)

/-- ATS_INVALIDATE: completed once no DMA uses the translation (R96). -/
def execAtsInvalidate (port : HPort) (fn page : Nat) (s : State) : Host.Outcome State Fault Refusal :=
  .next (
    let f := fnKey port fn
    ({ s with host := { s.host with invals := s.host.invals ++ [(f, page)] } }).answerInvals f page)

/-- A command goes on with the bytes that it has read from `BUF`. -/
def State.resume (s : State) (c : Cmd) (bs : List Byte) : State :=
  match c.d.opcode with
  | 0x67 => s.fwRead c bs
  | 0x70 => s.planRead c bs
  | 0x80 => s.keyRead c bs
  | 0x82 => s.relayRead c bs
  | 0x83 => s.modelRead c bs
  | 0x84 => s.linkKeyRead c bs
  | _ => s

/-- What a DMA had to move next has moved: within the same host page it goes on, else it requests the next page, or ends (R95). -/
def State.dmaNext (s : State) (k : Nat) (d : Dma) (n : Nat) : State :=
  let d' := { d with done := d.done + n }
  if d'.done < d.len ∧ d'.page = d.page then
    let s := s.setDma k d'
    if d.toHost then s else s.emit (.hostRead d.fn (d.addr + d'.done) d'.chunk)
  else
    let s := (s.setDma k { d' with translated := false }).answerInvals d.fn d.page
    if d'.done < d.len then s.emit (.atsRequest d.fn d'.page)
    else match d.use with
      | .result r => s.endDma k r
      | .command => (s.dropDma k).resume d.cmd d.data
      | .hostCopy => if s.poolBusy (copyTag k) then s else s.endDma k (copyRecord d.cmd Cs.done 0 d.len 0)

/-- The pool side of a host copy at its next page: the window, and the first line that cannot be had (R238, R245). (DEDUCED, log entry 26.)
-/
def State.copyStop (s : State) (d : Dma) (n : Nat) : Option (Nat × Nat) :=
  let o := oprefOf d.cmd.d.p2
  match (s.opWindow d.cmd.d.district o).filter fun w => if d.toHost then w.r else w.w with
  | none => some (Cs.faultAccess, o.window + (o.offset + d.done) * 2 ^ 16)
  | some w =>
    let bound := if w.msBind then some w.msSlot else none
    (linesOf (w.base + o.offset + d.done) n).findSome? fun da =>
      match s.site d.cmd.d.district bound da with
      | .unmapped _ => some (Cs.faultTranslation, o.window + (da - w.base) * 2 ^ 16)
      | .lost => some (Cs.faultUncorrectable, o.window + (da - w.base) * 2 ^ 16)
      | _ => none

/-- The bytes of a District range, once every line of it is at hand; else the first line that is uncorrectable, or neither. (DEDUCED, log
entry 26.) -/
def gathered (xs : List (Nat × Look)) : Option (List Byte) × Option Nat :=
  let bad := xs.findSome? fun (x : Nat × Look) => match x.2 with | .poison => some x.1 | .unmapped _ => some x.1 | _ => none
  if bad.isSome then (none, bad)
  else if xs.any fun (x : Nat × Look) => x.2 == .wait then (none, none)
  else (some (xs.flatMap fun (x : Nat × Look) => match x.2 with | .value v => leBytes 64 v.toNat | _ => []), none)

/-- A page of a host copy (R245). From the host its lines are home writes; to the host its lines are read first, and where one is still on
its way the page waits. (DEDUCED, log entry 26.) -/
def State.copyPage (s : State) (k : Nat) (d : Dma) (n : Nat) (data : List Byte) : State :=
  match s.copyStop d n with
  | some x => s.endDma k (copyRecord d.cmd x.1 1 d.done x.2)
  | none =>
    let o := oprefOf d.cmd.d.p2
    match s.opWindow d.cmd.d.district o with
    | none => s
    | some w =>
      let da := w.base + o.offset + d.done
      if d.toHost then
        let r := s.pullLines (copyTag k) o.window d.cmd.d.district (if w.msBind then some w.msSlot else none) (linesOf da n)
        match gathered r.2 with
        | (some bs, _) => (r.1.emit (.hostWrite d.fn (d.addr + d.done) (bs.take n))).dmaNext k d n
        | (none, some bad) => r.1.endDma k (copyRecord d.cmd Cs.faultUncorrectable 1 d.done (o.window + (bad - w.base) * 2 ^ 16))
        | (none, none) => r.1
      else (s.poolBytes (copyTag k) o.window d.cmd.d.district 65 da (data.take n)).dmaNext k d n

/-- HOST_DMA_PAGE_DONE: the host-memory reads or writes of one page of a DMA complete (R95, R245). A host copy all of whose pages have moved
ends here once its last writes are acknowledged; a command that reads no bytes goes on at once. (DEDUCED, log entry 25.) -/
def execHostDmaPageDone (dma : Nat) (data : List Byte) (s : State) : Host.Outcome State Fault Refusal :=
  .next (match s.host.dmas.get dma with
    | none => s
    | some d =>
      let n := d.chunk
      if n = 0 then match d.use with
        | .hostCopy => if s.poolBusy (copyTag dma) then s else s.endDma dma (copyRecord d.cmd Cs.done 0 d.len 0)
        | .result r => s.endDma dma r
        | .command => (s.dropDma dma).resume d.cmd d.data
      else if !d.translated || (!d.toHost && data.length != n) then s
      else match d.use with
        | .hostCopy => s.copyPage dma d n data
        | .result _ => (s.emit (.hostWrite d.fn (d.addr + d.done) ((d.data.drop d.done).take n))).dmaNext dma d n
        | .command => s.dmaNext dma { d with data := d.data ++ data } n)

end Sys2Proof.Machine
end

