-- ==== Sys2Proof/Machine/Link.lean ====
section
/-! DEFINITION. The commands of the Joush Link ports: training, flits, credits, acknowledgement, replay, retrain and rekey (R334 to
R363). -/

namespace Sys2Proof.Machine

open Sys2Proof

/-- The widest width of R336 that a set of passing lanes gives, coded as `JL_STAT.WIDTH`. -/
def widthOf (lanes : Nat) : Nat :=
  if lanes % 16 = 15 then 3
  else if lanes % 4 = 3 ∨ lanes / 4 % 4 = 3 then 2
  else if lanes % 16 = 0 then 0 else 1

/-- The width a port may run at, given its passing lanes; 0 when none satisfies `JL_CTL.WIDTH_MIN` (R336). -/
def State.widthFor (s : State) (n lanes : Nat) : Nat :=
  let w := widthOf lanes
  if w ≤ s.regs.fld (jlBase n) 5 4 then 0 else w

/-- Training has failed: the port is DOWN until its retry (R337). -/
def State.trainFail (s : State) (n : Nat) : State :=
  let p := s.jl n
  s.setJl n { p with st := 7, width := 0, rev := 0, since := s.clock, failed := p.failed + 1 }

/-- JL_PARTNER_DETECT (R337): a port in DETECT goes to EQUALIZE. -/
def execJlPartnerDetect (n : JPort) (s : State) : Host.Outcome State Fault Refusal :=
  let p := s.jl n
  .next (if p.st = 1 then s.setJl n { p with st := 2 } else s)

/-- JL_EQUALIZE_DONE (R336, R337): the widest passing width, or DOWN when none passes. -/
def execJlEqualizeDone (n : JPort) (lanes : Nat) (s : State) : Host.Outcome State Fault Refusal :=
  let p := s.jl n
  .next (
    if p.st = 2 then
      if s.widthFor n lanes = 0 then s.trainFail n
      else s.setJl n { p with st := 3, width := s.widthFor n lanes, lanesOk := lanes % 16 }
    else s)

/-- JL_ALIGN_DONE (R337): flit lock is reached and the parameters are exchanged. -/
def execJlAlignDone (n : JPort) (s : State) : Host.Outcome State Fault Refusal :=
  let p := s.jl n
  .next (if p.st = 3 then s.setJl n { p with st := 4 } else s)

/-- Does a port hold a present or a staged key in each direction (R459)? -/
def LinkPort.keyed (p : LinkPort) : Bool := (p.txKey || p.txNext) && (p.rxKey || p.rxNext)

/-- `ENC_CAP` as the port sends it: `JL_ENC_CFG.EN` while each direction holds a key (R363, R459); in `HARD_STOP` it takes a staged
transmit key (R360). -/
def State.encCap (s : State) (n : Nat) : Bool :=
  let p := s.jl n
  bitOf (s.regs.val (jlBase n + 0x10)).toNat 0 && p.keyed && (!p.hardStop || p.txNext)

/-- The first cause of R339 that keeps a link from coming up, coded as PARAM_FAIL's `DATA` (R440); 0 when there is none. -/
def State.paramCause (s : State) (n : Nat) (b : ParamBlock) : Nat :=
  let p := s.jl n
  let fw := s.boot.fw
  let lo := (fw.map (·.revLo)).getD 0
  let hi := (fw.map (·.revHi)).getD 0
  let cap := s.encCap n
  let req := bitOf (s.regs.val (jlBase n + 0x10)).toNat 1
  let enc := req || b.encReq || (cap && b.encCap)
  if hi < b.revLo ∨ b.revHi < lo then 1
  else if b.node = s.node then 2
  else if (req ∧ !b.encCap) ∨ (b.encReq ∧ !cap) ∨ (p.hardStop ∧ !p.txNext) then 3
  else if (List.range 9).any fun v => decide (b.credits.getD v 0 < if v = 8 then 32 else 16) then 4
  else if enc ∧ p.rxKey ∧ b.encCtr < p.rxCtr then 5
  else 0

/-- JL_PARAM_RECEIVE (R338, R339, R361, R459): the link goes ACTIVE with the agreed revision, credits and keys, or DOWN with a notice
that names the cause. -/
def execJlParamReceive (n : JPort) (b : ParamBlock) (s : State) : Host.Outcome State Fault Refusal :=
  let p := s.jl n
  .next (
    if p.st ≠ 4 then s
    else
      let c := s.paramCause n b
      if c ≠ 0 then (s.raise (Src.link n) 0x02 c).trainFail n
      else
        let hi := (s.boot.fw.map (·.revHi)).getD 0
        let req := bitOf (s.regs.val (jlBase n + 0x10)).toNat 1
        let enc := req || b.encReq || (s.encCap n && b.encCap)
        let newTx := enc && p.txNext && (!p.txKey || p.hardStop)
        let newRx := enc && p.rxNext && !p.rxKey
        let s := s.setJl n
          { p with st := 5, rev := min hi b.revHi, encOn := enc, partner := b.node, partnerPort := b.port % 16,
                   partnerRev := b.revHi, lanesOk := p.lanesOk, credits := (List.range 9).map (fun v => (v, b.credits.getD v 0)),
                   owed := [], txSeq := 0, rxSeq := 0, lastAck := 0xFFF, buf := [], asked := false, lastRun := none, bad := 0,
                   txKey := p.txKey || newTx, txNext := p.txNext && !newTx, txCtr := if newTx then 0 else p.txCtr,
                   rxKey := p.rxKey || newRx, rxNext := p.rxNext && !newRx, rxCtr := if newRx then 0 else if enc then b.encCtr else p.rxCtr,
                   hardStop := p.hardStop && !newTx, rekeyDue := p.rekeyDue && !newTx, txAt := none, rxAt := none,
                   exchanges := 0, failed := 0, newest := none, rx := [], byDriver := false }
        if b.revHi < hi then s.raise (Src.link n) 0x07 b.revHi else s)

/-- JL_DOWN_RETRY (R337): 100 ms after going down, and every 1 s while training fails, the port looks for a partner again. -/
def execJlDownRetry (n : JPort) (s : State) : Host.Outcome State Fault Refusal :=
  let p := s.jl n
  .next (
    if p.st = 7 ∧ bitOf (s.regs.val (jlBase n)).toNat 0 then
      (s.passTo (p.since + if p.failed ≤ 1 then 100000000 else 1000000000)).setJl n { p with st := 1 }
    else s)

/-! ### Receiving -/

/-- Take an `ACK` (R348): every held flit up to the one named is acknowledged. -/
def LinkPort.takeAck (p : LinkPort) (ack : Nat) : LinkPort :=
  { p with lastAck := ack, buf := p.buf.filter fun f => !decide ((ack + 4096 - f.seq) % 4096 < 2048) }

/-- Does an `ACK` name a flit that the port has not yet sent (R349)? -/
def LinkPort.ackAhead (p : LinkPort) (ack : Nat) : Bool := decide ((ack + 4096 - p.txSeq) % 4096 < 2048)

/-- Count received cells per VC (R383). -/
def State.countRx (s : State) (n : Nat) (ms : List Msg) : State :=
  ms.foldl (fun s m => if m.vc < 9 then s.tally (0x1A8008 + 0x400 * n + 0x40 * m.vc) m.cells else s) s

/-- A good flit in order (R347, R349, R358 to R360, R564): its tag, its credit return and its messages. -/
def State.acceptFlit (s : State) (n : Nat) (f : FlitIn) : State :=
  let p := s.jl n
  let switch := p.encOn && p.rxAt == some f.seq
  let authOk := !p.encOn || (f.tagOk && (!switch || p.rxNext))
  if !authOk then
    ((s.tally (jlBase n + 0x78) 1).raise (Src.link n) 0x04 0).linkDown n false
  else
    let credits := if f.crVc < 9 then p.credits.put f.crVc ((p.credits.get f.crVc).getD 0 + 2 * f.crCnt) else p.credits
    let p := { p with rxSeq := (f.seq + 1) % 4096, asked := false, credits := credits,
                      rxCtr := if switch then 1 else if p.encOn then p.rxCtr + 1 else p.rxCtr,
                      rxNext := p.rxNext && !switch, rxAt := if switch then none else p.rxAt, rx := p.rx ++ f.msgs }
    let s := ((s.setJl n p).tally (jlBase n + 0x48) 1).countRx n f.msgs
    if f.parses then s else (s.tally (jlBase n + 0x80) 1).linkDown n true

/-- FLIT_RECEIVE (R340, R345, R349, R352): a flit is checked, and delivered, discarded or answered with a Replay request. (DEDUCED, log
entry 35.) -/
def execFlitReceive (n : JPort) (f : FlitIn) (s : State) : Host.Outcome State Fault Refusal :=
  .next (
    if (s.jl n).st ≠ 5 then s
    else if f.training then s.retrain n
    else if f.bad then
      let s := s.tally (jlBase n + 0x58) 1
      let s := s.setJl n { s.jl n with bad := (s.jl n).bad + 1 }
      if 8 ≤ (s.jl n).bad then s.retrain n else s
    else
      let s := if f.corrected then s.tally (jlBase n + 0x50) 1 else s
      let s := s.setJl n { s.jl n with bad := 0 }
      if (s.jl n).ackAhead f.ack then s.linkDown n false
      else
        let p := (s.jl n).takeAck f.ack
        let s := s.setJl n p
        if f.seq = p.rxSeq then s.acceptFlit n f
        else if (f.seq + 4096 - p.rxSeq) % 4096 < 2048 ∧ !p.asked then
          s.setJl n { p with asked := true, ctl := p.ctl ++ [(6, p.rxSeq)] }
        else s)

/-- CREDIT_MESSAGE (R344, R347): cells come back on the virtual channels named. (DEDUCED, log entry 35.) -/
def execCreditMessage (n : JPort) (credits : List (Nat × Nat)) (s : State) : Host.Outcome State Fault Refusal :=
  let p := s.jl n
  .next (
    if p.st = 5 then
      s.setJl n { p with credits := credits.foldl (fun t c =>
        if c.1 < 9 then t.put c.1 ((t.get c.1).getD 0 + c.2) else t) p.credits }
    else s)

/-- REKEY_MESSAGE (R360): the receiver will switch to its staged key at the flit named. (DEDUCED, log entry 35.) -/
def execRekeyMessage (n : JPort) (fromSeq : Nat) (s : State) : Host.Outcome State Fault Refusal :=
  let p := s.jl n
  .next (if p.st = 5 ∧ p.encOn then s.setJl n { p with rxAt := some (fromSeq % 4096) } else s)

/-! ### Replay and retrain -/

/-- Send a held flit again with the present `ACK` (R350, R352). -/
def State.resend (s : State) (n : Nat) (f : Sent) : State :=
  s.emit (.flit n f.seq (((s.jl n).rxSeq + 4095) % 4096) f.msgs)

/-- The run of R351: a flit has been replayed `REPLAY_MAX` times and would be replayed again. -/
def State.replayRun (s : State) (n : Nat) : State :=
  let p := s.jl n
  match p.lastRun with
  | some t =>
    if s.clock < t + 10000000000 then s.linkDown n false
    else (s.setJl n { p with lastRun := some s.clock }).retrain n
  | none => (s.setJl n { p with lastRun := some s.clock }).retrain n

/-- Replay every held flit from one on (R350, R351). -/
def State.replayFrom (s : State) (n : Nat) (seq : Nat) : State :=
  let p := s.jl n
  let lim := s.regs.fld (jlBase n + 0x4) 11 8
  let due := p.buf.filter fun f => decide ((f.seq + 4096 - seq) % 4096 < 2048)
  if due.any fun f => decide (lim ≤ f.replays) then s.replayRun n
  else
    let s := due.foldl (fun s f => s.resend n f) s
    let s := s.tally (jlBase n + 0x60) due.length
    s.setJl n { p with buf := p.buf.map fun f =>
      if (f.seq + 4096 - seq) % 4096 < 2048 then { f with replays := f.replays + 1, sentAt := s.clock } else f }

/-- REPLAY_REQUEST_RECEIVE (R350): replays from the flit named; one that is no longer held declares the link down. -/
def execReplayRequestReceive (n : JPort) (fromSeq : Nat) (s : State) : Host.Outcome State Fault Refusal :=
  let p := s.jl n
  .next (
    if p.st ≠ 5 then s
    else if p.buf.any fun f => f.seq == fromSeq then s.replayFrom n fromSeq
    else s.linkDown n false)

/-- REPLAY_TIMEOUT (R350): the oldest unacknowledged flit has gone `REPLAY_TO` without its acknowledgement. -/
def execReplayTimeout (n : JPort) (s : State) : Host.Outcome State Fault Refusal :=
  let p := s.jl n
  .next (
    match p.st, p.buf with
    | 5, f :: _ => (s.passTo (f.sentAt + s.regs.fld (jlBase n + 0x4) 31 16)).replayFrom n f.seq
    | _, _ => s)

/-- RETRAIN_DONE (R336, R352, R353): back to ACTIVE at the width that passes, or down below `WIDTH_MIN`; a wider width than before only
when the driver asked for the retrain; every unacknowledged flit goes again. -/
def execRetrainDone (n : JPort) (lanes : Nat) (s : State) : Host.Outcome State Fault Refusal :=
  let p := s.jl n
  .next (
    if p.st ≠ 6 then s
    else
      let w := s.widthFor n lanes
      let w := if p.byDriver then w else min w p.width
      if w = 0 ∨ w ≤ s.regs.fld (jlBase n) 5 4 then s.linkDown n false
      else
        let s := s.setJl n { p with st := 5, width := w, lanesOk := lanes % 16, exchanges := 2, byDriver := false,
                                    buf := p.buf.map fun f => { f with sentAt := s.clock } }
        let s := s.forgetPort n
        let s := if w = p.width then s else s.raise (Src.link n) 0x03 w
        p.buf.foldl (fun s f => s.resend n f) s)

/-- RETRAIN_TIMEOUT (R352): a retrain that lasts longer than 1 ms declares the link down. -/
def execRetrainTimeout (n : JPort) (s : State) : Host.Outcome State Fault Refusal :=
  let p := s.jl n
  .next (if p.st = 6 then (s.passTo (p.since + 1000000)).linkDown n false else s)

/-- JL_REFCLK_LOSS (R562): a JL reference clock stops, and its four ports go down. -/
def execJlRefclkLoss (q : Fin 3) (s : State) : Host.Outcome State Fault Refusal :=
  .next ((List.range 4).foldl (fun s i =>
    let n := 4 * q.val + i
    if (s.jl n).st = 0 ∨ (s.jl n).st = 7 then s else s.linkDown n false) s)

/-! ### Building a flit -/

/-- The cells of a link-local message (R344). -/
def ctlCells (kind : Nat) : Nat := if kind = 4 then 2 else 1

/-- What a flit still has room for, and what it holds so far. -/
structure Fill where
  room : Nat
  msgs : List Msg
  s : State

/-- Move one queued message into the flit: it leaves the queue and spends its credits (R347). -/
def Fill.take (f : Fill) (n : Nat) (q : Queued) : Fill :=
  let p := f.s.jl n
  let p := { p with queue := p.queue.erase q, credits := p.credits.put q.m.vc ((p.credits.get q.m.vc).getD 0 - q.m.cells) }
  let s := (f.s.setJl n p).tally (0x1A8000 + 0x400 * n + 0x40 * q.m.vc) q.m.cells
  ⟨f.room - q.m.cells, f.msgs ++ [q.m], s⟩

/-- Fill with the messages that a test accepts, oldest first, until one does not fit. -/
def Fill.oldest (f : Fill) (n : Nat) (ok : State → Queued → Bool) : Nat → Fill
  | 0 => f
  | k + 1 =>
    match (f.s.jl n).queue.find? (ok f.s) with
    | some q => if q.m.cells ≤ f.room then (f.take n q).oldest n ok k else f
    | none => f

/-- Is a message its flow's planned traffic at this port (R50, R367)? -/
def State.planned (s : State) (n : Nat) (q : Queued) : Bool :=
  q.m.flow != 0 && q.m.vc % 2 == 0 && q.m.cls != 4 && s.planOn && (s.flowEntry q.m.flow).isSome && q.ent.pri == n

/-- Has a planned message been held over from an earlier slot (R50)? -/
def State.heldOver (s : State) (q : Queued) : Bool := decide (q.since + s.time.ft % 128 < s.clock)

/-- Is a message open traffic at this port (R50)? -/
def State.openMsg (s : State) (n : Nat) (q : Queued) : Bool :=
  q.m.cls != 4 && q.m.vc % 2 == 0 && q.mark != .red &&
    (!s.planned n q || (s.heldOver q && bitOf ((s.flowEntry q.m.flow).getD 0) 30))

/-- The egress class of an open message (R376). -/
def State.egressClass (s : State) (n : Nat) (q : Queued) : Nat :=
  if q.mark = .yellow then s.regs.fld (0x142000 + 16 * n) 18 16
  else match (if q.m.flow = 0 then none else s.flowEntry q.m.flow) with
    | some e => bitsOf e 29 27
    | none => (q.oldClass).getD <| s.regs.fld 0x140008 (4 * q.m.cls + 2) (4 * q.m.cls)

/-- Is a message held for want of credit? -/
def State.mayGo (s : State) (n : Nat) (q : Queued) : Bool := s.hasCredit n q.m.vc q.m.cells

/-- The oldest eligible open message of a class (R378). -/
def State.headOf (s : State) (n c : Nat) : Option Queued :=
  (s.jl n).queue.find? fun q => s.openMsg n q && s.mayGo n q && s.egressClass n q == c

/-- The weighted part of R378: on from the class last served, adding each class's quantum on arrival. -/
def State.visit (s : State) (n ns : Nat) : Nat → Nat → Table Nat → Option (Queued × Table Nat × Nat)
  | 0, _, _ => none
  | k + 1, c, def' =>
    let nxt := if c + 1 > 7 then ns else c + 1
    match s.headOf n c with
    | none => s.visit n ns k nxt (def'.put c 0)
    | some q =>
      let d := (def'.get c).getD 0 + s.regs.fld (0x142004 + 16 * n) (4 * c + 3) (4 * c) * 64
      let l := s.effLen n q.m
      if l ≤ d then some (q, def'.put c (d - l), c) else s.visit n ns k nxt (def'.put c d)

/-- The next open message under R378, with the scheduler's new deficits and class. -/
def State.nextOpen (s : State) (n : Nat) : Option (Queued × Table Nat × Nat) :=
  let p := s.jl n
  let ns := s.regs.fld (0x142000 + 16 * n) 2 0
  match (List.range ns).findSome? (s.headOf n) with
  | some q => some (q, p.deficit, p.lastClass)
  | none =>
    let again := if ns ≤ p.lastClass then (s.headOf n p.lastClass).filter fun q =>
      decide (s.effLen n q.m ≤ (p.deficit.get p.lastClass).getD 0) else none
    match again with
    | some q => some (q, p.deficit.put p.lastClass ((p.deficit.get p.lastClass).getD 0 - s.effLen n q.m), p.lastClass)
    | none => s.visit n ns 80 (if p.lastClass < ns ∨ 7 ≤ p.lastClass then ns else p.lastClass + 1) p.deficit

/-- Fill with open messages as the scheduler chooses them (R378). -/
def Fill.open (f : Fill) (n : Nat) : Nat → Fill
  | 0 => f
  | k + 1 =>
    match f.s.nextOpen n with
    | some (q, d, c) =>
      if q.m.cells ≤ f.room then
        let f := f.take n q
        ({ f with s := f.s.setJl n { f.s.jl n with deficit := d, lastClass := c } }).open n k
      else f
    | none => f

/-- Mark the held-over messages of spilling flows at their meters before they go as open traffic (R379, R380). -/
def State.markSpill (s : State) (n : Nat) : State :=
  let p := s.jl n
  p.queue.foldl (fun s q =>
    match q.meter with
    | some m =>
      if s.planned n q && s.heldOver q && bitOf ((s.flowEntry q.m.flow).getD 0) 30 && q.mark == .off && !s.redHeld m then
        let r := s.markAt m (s.effLen n q.m)
        let p := r.1.jl n
        r.1.setJl n { p with queue := p.queue.map fun x => if x = q then { x with mark := r.2 } else x }
      else s
    | none => s) s

/-- The class messages of a flit, in the order of R50 and R375. The second part says whether the flow of a FLOW slot was served. -/
def Fill.classes (f : Fill) (n : Nat) : Fill × Bool :=
  let e := f.s.slotEntry n
  let ty := bitsOf e 15 14
  let flow := bitsOf e 11 0
  let lim := bitsOf ((f.s.flowEntry flow).getD 0) 23 16
  let used := if (f.s.jl n).slotAt = f.s.slotNow then (f.s.jl n).slotFlow else 0
  let own := fun (s : State) (q : Queued) => s.planned n q && q.m.flow == flow && s.mayGo n q
  let late := fun (s : State) (q : Queued) => s.planned n q && s.heldOver q && s.mayGo n q
  let esc := fun (s : State) (q : Queued) => q.m.cls != 4 && q.m.vc % 2 == 1 && s.mayGo n q
  let q := (f.s.jl n).queue
  if ty = 1 ∧ used < lim ∧ q.any (own f.s) then (f.oldest n own 15, true)
  else if ty = 2 ∧ q.any (late f.s) then (f.oldest n late 15, false)
  else if q.any (esc f.s) then (f.oldest n esc 15, false)
  else if ty = 1 ∧ !(f.s.time.active.map (·.lend)).getD false then (f, false)
  else (({ f with s := f.s.markSpill n }).open n 15, false)

/-- Count the time for which messages have waited without credit since the last flit start (R383). -/
def State.countStalls (s : State) (n : Nat) : State :=
  let p := s.jl n
  (List.range 9).foldl (fun s v =>
    match p.queue.find? fun q => q.m.vc == v && !s.mayGo n q with
    | some q => s.tally (0x1A8010 + 0x400 * n + 0x40 * v) (s.clock - max q.since p.lastBuild)
    | none => s) s

/-- Prepare the link-local messages of the next flit: the Rekey that a staged key calls for (R360) and the credits owed (R347). -/
def LinkPort.prepare (p : LinkPort) : LinkPort :=
  let p := if p.encOn && p.txNext && p.txAt.isNone
    then { p with ctl := p.ctl ++ [(7, (p.txSeq + 1) % 4096)], txAt := some ((p.txSeq + 1) % 4096) } else p
  if p.owed.isEmpty then p
  else { p with ctl := p.ctl ++ [(5, (p.owed.map fun c => c.2 * 4096 ^ c.1).foldl (· + ·) 0)], owed := [] }

/-- The counters of R358 and R360 as a new flit takes its number: the switch to a staged key, and the notice at 2^40. (DEDUCED, log entry
35.) -/
def State.stepKey (s : State) (n : Nat) : State :=
  let p := s.jl n
  if !p.encOn then s
  else if p.txAt = some p.txSeq ∧ p.txNext then
    s.setJl n { p with txCtr := 0, txNext := false, txAt := none, rekeyDue := false }
  else if 2 ^ 40 ≤ p.txCtr ∧ !p.txNext ∧ !p.rekeyDue then
    (s.setJl n { p with rekeyDue := true }).raise (Src.link n) 0x05 0
  else s

/-- Send a new flit (R343, R348). -/
def State.newFlit (s : State) (n : Nat) : State :=
  let s := s.stepKey n
  let p := (s.jl n).prepare
  let s := s.setJl n { p with ctl := [] }
  let s := p.ctl.foldl (fun s c => s.emit (.linkMsg n c.1 c.2)) s
  let room := (if p.encOn then 14 else 15) - (p.ctl.map fun c => ctlCells c.1).foldl (· + ·) 0
  let f := (Fill.mk room [] s).oldest n (fun s q => q.m.cls == 4 && s.mayGo n q) 15
  let r := f.classes n
  let s := r.1.s
  let p := s.jl n
  let fresh := p.slotAt != s.slotNow
  let x : Sent := ⟨p.txSeq, r.1.msgs, 0, s.clock⟩
  let s := s.setJl n { p with
    txSeq := (p.txSeq + 1) % 4096, txCtr := if p.encOn then p.txCtr + 1 else p.txCtr, buf := p.buf ++ [x], newest := some x,
    slotAt := s.slotNow, slotFlow := (if fresh then 0 else p.slotFlow) + r.2.toNat,
    slotUsed := (if fresh then 0 else p.slotUsed) + 1, lastBuild := s.clock }
  (s.tally (jlBase n + 0x40) 1).emit (.flit n x.seq ((p.rxSeq + 4095) % 4096) x.msgs)

/-- Has a port something new to send, or has it sent nothing yet? -/
def State.somethingNew (s : State) (n : Nat) : Bool :=
  let p := s.jl n
  !p.prepare.ctl.isEmpty || p.newest.isNone || p.queue.any fun q =>
    s.mayGo n q && (q.m.cls == 4 || q.m.vc % 2 == 1 || s.openMsg n q || s.planned n q)

/-- FLIT_BUILD (R343, R348, R350, R360): at a flit start the port sends a new flit, or its newest flit again when it has none to send or
its replay buffer is full; at a counter of 2^62 it stops and the link goes down. -/
def execFlitBuild (n : JPort) (s : State) : Host.Outcome State Fault Refusal :=
  let p := s.jl n
  .next (
    if p.st ≠ 5 then s
    else if p.encOn ∧ 2 ^ 62 ≤ p.txCtr then
      ((s.setJl n { p with hardStop := true }).raise (Src.link n) 0x06 0).linkDown n false
    else
      let s := s.countStalls n
      if 512 ≤ p.buf.length ∨ !s.somethingNew n then
        match p.newest with
        | some f => (s.resend n f).setJl n { s.jl n with lastBuild := s.clock }
        | none => s
      else s.newFlit n)

end Sys2Proof.Machine
end

