-- ==== Sys2Proof/Machine/RegWrite.lean ====
section
/-! DEFINITION. Writes of set-up registers: access classes, guards, the control token, shadows and commits, covered fields and the
configuration check, ring and notice registers (R5 to R9, R19, R263, R274, R306, R374, R383, R406, R420 to R443, R569). -/

namespace Sys2Proof.Machine

open Sys2Proof

/-! ### What lies at an offset -/

/-- Is an offset one of a list of ranges, given as first offset and length? -/
def inRanges (off : Nat) (rs : List (Nat × Nat)) : Bool := rs.any fun r => decide (r.1 ≤ off) && decide (off < r.1 + r.2)

/-- Offsets that hold only read-only fields outside the JL, AV and DC blocks, as first offset and length (R5). (DEDUCED, log entry 9.) -/
def roRanges : List (Nat × Nat) := [
  (0x0, 4), (0x8, 20), (0x50, 4), (0x100, 148),
  (0x10014, 4), (0x40000, 16), (0x40018, 8), (0x140010, 4), (0x140040, 40),
  (0x600010, 4), (0x600040, 64), (0x600100, 48), (0x680004, 4), (0x680010, 24), (0x700000, 4), (0x700008, 4),
  (0x780004, 20), (0x780020, 24), (0x780040, 32)]

/-- Does an offset hold a register none of whose fields can be written? A write to it is ignored without a notice (R5). (DEDUCED, log entry
9.) -/
def roAt (off : Nat) : Bool :=
  if 0x80000 ≤ off ∧ off < 0x140000 then inRanges (off % 0x10000) [(0x8, 8), (0x14, 12), (0x40, 72)]
  else if 0x200000 ≤ off ∧ off < 0x440000 then
    inRanges (off % 0x40000) [(0x0, 4), (0x204, 4), (0x30C, 68), (0x400, 4), (0x408, 24), (0x504, 36), (0x600, 24), (0x620, 4), (0x628, 56),
      (0x700, 4), (0x708, 56), (0x800, 8), (0x810, 24), (0x900, 8), (0x910, 24)]
  else if 0x500000 ≤ off ∧ off < 0x600000 then
    inRanges (off % 0x10000) [(0x4, 4), (0xC, 20), (0x20, 64), (0x208, 8)] ||
      (off / 0x10000 % 2 == 0 && inRanges (off % 0x10000) [(0x120, 4)])
  else if 0x190000 ≤ off ∧ off < 0x194000 then off % 16 == 12
  else if 0x194010 ≤ off ∧ off < 0x1A4000 then off % 16 == 12
  else if 0x1A8000 ≤ off ∧ off < 0x1AB000 then
    (decide (off % 0x400 < 0x240) && decide (off % 0x40 < 0x1C)) || (decide (0x240 ≤ off % 0x400) && decide (off % 0x400 < 0x258))
  else inRanges off roRanges

/-- Is an offset the companion of a register with a PAIR field (R7, R421)? (DEDUCED, log entry 10.) -/
def companionOf (off : Nat) : Bool := decide (0x1000 ≤ off) && ((regAt (off - 0x1000)).map (·.paired)).getD false

/-! ### Ignored writes -/

/-- A write is ignored; the notice is raised once firmware runs (R423, R536, R541). (DESIGN CHOICE, log entry 18.) -/
def State.ignore (s : State) (off : Nat) (val : Word) : State := if s.boot.fwReady then s.writeIgnored off val.toNat else s

/-- A port's guard fails (R7). -/
def State.failGuard (s : State) (port : Nat) : State :=
  match s.regs.guards.get port with
  | none => s
  | some g => ({ s with regs := { s.regs with guards := s.regs.guards.del port } }).guardFailed g.off g.val.toNat

/-! ### The control token -/

/-- The token passes to a port, or to none; a guard open on the port that loses it breaks, and both PFs are told (R406, R411, R422). An arm
of the zeroise guard goes with the token (R464). (DEDUCED, log entry 14.) -/
def State.passToken (s : State) (port : Nat) (new : Option Nat) (forced : Bool) : State :=
  let s := match s.host.token with
    | some p => if new = some p then s else { s.failGuard p with sec := { (s.failGuard p).sec with arm := none } }
    | none => s
  ({ s with host := { s.host with token := new } }).raise (Src.host port) 0x03
    ((match new with | some p => p + 1 | none => 0) + forced.toNat * 4)

/-- A completed write of `CFG_TOKEN` (R406, R430). (DESIGN CHOICE, log entry 18.) -/
def State.tokenWrite (s : State) (port : Nat) (val : Word) : State :=
  let h := s.host.token
  match val.toNat % 4 with
  | 1 =>
    if h = none then s.passToken port (some port) false
    else if h = some port then s
    else s.raise (Src.host port) 0x03 ((match h with | some p => p + 1 | none => 0) + 8)
  | 2 => if h = some port then s.passToken port none false else s.ignore 0x10000 val
  | 3 => if h = some port then s else s.passToken port (some port) true
  | _ => s

/-! ### Locks -/

/-- Are bits [10:8] of the three hash masks invertible as a matrix over GF(2) (R19)? -/
def Regs.hashOk (g : Regs) : Bool :=
  let b := fun (i k : Nat) => bitOf (g.val (0x10100 + 8 * i)).toNat k
  let m := fun (i a c : Nat) => b i a && b ((i + 1) % 3) c
  let d := fun (x y z : Bool) => xor x (xor y z)
  d (b 0 0 && xor (m 1 1 2) (b 1 2 && b 2 1)) (b 0 1 && xor (b 1 0 && b 2 2) (b 1 2 && b 2 0)) (b 0 2 && xor (b 1 0 && b 2 1) (b 1 1 && b 2 0))

/-- The number of local-address bits in use, by the channel capacity in GiB (R20, R262). -/
def laBits (capGib : Nat) : Nat := Nat.log2 (2 * capGib * 2 ^ 30 - 1) + 1

/-- Do the bank-mapping masks meet R263 against the trained geometry? -/
def State.dmapOk (s : State) : Bool :=
  let cap := s.dram.geom.capGib
  decide (0 < cap) && (List.range 7).all fun k =>
    let m := (s.regs.val (0x10120 + 4 * k)).toNat
    (List.range 7).all (fun j => bitOf m j == (j == k)) && decide (m * 256 < 2 ^ laBits cap)

/-! ### Commits -/

/-- Is a register one of a meter's (R385)? -/
def isMeter (off : Nat) : Bool := decide (0x190000 ≤ off) && decide (off < 0x1A4000)

/-- The value that a register would have after a commit. -/
def Regs.pendingVal (g : Regs) (off : Nat) : Word := (g.shadow.get off).getD (g.val off)

/-- Would a commit break R381 for the meter at an offset? -/
def Regs.badMeter (g : Regs) (b : Nat) : Bool :=
  let cir := bitsOf (g.pendingVal b).toNat 23 0
  let pir := bitsOf (g.pendingVal (b + 4)).toNat 23 0
  let pbs := bitsOf (g.pendingVal (b + 8)).toNat 31 16
  let cbs := bitsOf (g.pendingVal (b + 8)).toNat 15 0
  decide (pir < cir) || decide (pbs < cbs) || (decide (pbs < 8) && pir != 0)

/-- Is a pending value kept out of its commit (R569)? -/
def Regs.keptOut (g : Regs) (off : Nat) (val : Word) : Bool :=
  (match regAt off with | some r => !(r.rangeOk val && r.relOk val) | none => false) ||
    (isMeter off && g.badMeter (off / 16 * 16))

/-- Commit the pending values of a range of offsets: each register kept out gives one notice (R6, R569). A meter's tokens are brought up to
date under its old values (R374, R380). (DESIGN CHOICE, log entry 16.) -/
def State.commit (s : State) (first last : Nat) : State :=
  let g := s.regs
  let mine := g.shadow.filter fun (x : Nat × Word) => decide (first ≤ x.1) && decide (x.1 < last)
  let s := ((mine.filter fun (x : Nat × Word) => isMeter x.1).map fun x => x.1 / 16 * 16).eraseDups.foldl (fun (s : State) m =>
    s.setBucket m (s.bucketNow m)) s
  let put := fun (a : Table Word) (x : Nat × Word) => if g.keptOut x.1 x.2 then a else a.put x.1 x.2
  let s := { s with regs := { s.regs with
    act := mine.foldl put g.act
    shadow := g.shadow.filter fun (x : Nat × Word) => !(decide (first ≤ x.1) && decide (x.1 < last)) } }
  ((mine.filter fun (x : Nat × Word) => g.keptOut x.1 x.2).foldl (fun (s : State) (x : Nat × Word) => s.writeIgnored x.1 x.2.toNat) s).quiet

/-- Set every egress high-water mark to the present depth (R383). -/
def State.clearHwm (s : State) : State :=
  let keys := (List.range 12).flatMap fun p => (List.range 9).map fun vc => (p, vc)
  let t := keys.foldl (fun (t : Table Nat) (k : Nat × Nat) =>
    let d := (s.jl k.1).depth k.2
    if d = 0 then t else t.put (k.1 * 16 + k.2) d) []
  { s with net := { s.net with hwm := t } }

/-! ### Registers with effects -/

/-- A write that a register's own rule ignores: locked masks, taken settings, a node ID on a running link, and the arming of a flip mask for
no write (R19, R263, R306, R307, R333, R364). -/
def State.frozen (s : State) (off : Nat) (val : Word) : Bool :=
  (s.regs.hashValid && decide (0x10100 ≤ off) && decide (off ≤ 0x10118)) ||
  (s.regs.dmapValid && decide (0x10120 ≤ off) && decide (off ≤ 0x1013C)) ||
  (off == 0x10118 && val.getLsbD 0 && !s.regs.hashOk) ||
  (off == 0x1013C && val.getLsbD 0 && !s.dmapOk) ||
  (off == 0x10140 && s.boot.initStarted) || (off == 0x600000 && s.boot.flashStarted) ||
  (off == 0x140000 && (List.range 12).any fun n => (s.jl n).st != 0 && (s.jl n).st != 7) ||
  (decide (0x500000 ≤ off) && decide (off < 0x600000) && off % 0x10000 == 0x200 && val.getLsbD 0 && bitsOf val.toNat 15 8 == 0)

/-- `JL_CTL.EN` cleared: a link that is up goes down, and the port is DISABLED (R337, R354). (DEDUCED, log entry 13.) -/
def State.portStop (s : State) (n : Nat) : State :=
  let s := if (s.jl n).st = 5 ∨ (s.jl n).st = 6 then s.linkDown n false else s
  s.setJl n { s.jl n with st := 0, width := 0, rev := 0 }

/-- A write of `JL_CTL` (R337, R352). (DEDUCED, log entry 13.) -/
def State.jlCtl (s : State) (n : Nat) (r : RegD) (val : Word) : State :=
  let s := { s with regs := s.regs.set (jlBase n) (r.apply (s.regs.val (jlBase n)) (val &&& ~~~ 2)) }
  let s := if !val.getLsbD 0 then (if (s.jl n).st = 0 then s else s.portStop n) else s.portStart n
  if val.getLsbD 1 then s.retrain n true else s

/-- What follows from a write that has been stored (R19, R40, R263, R306, R364, R433). -/
def State.afterWrite (s : State) (off : Nat) (val : Word) : State :=
  if off = 0x10118 then (if val.getLsbD 0 then { s with regs := { s.regs with hashValid := true } } else s)
  else if off = 0x1013C then (if val.getLsbD 0 then { s with regs := { s.regs with dmapValid := true } } else s)
  else if off = 0x10010 ∨ off = 0x10018 then s.quiet
  else if off = 0x40010 then s.reselect
  else if off = 0x140000 then (List.range 12).foldl (fun s n => s.portStart n) s
  else if 0x500000 ≤ off ∧ off < 0x600000 ∧ off % 0x10000 = 0x200 then
    (if val.getLsbD 0 then
      let m := (off - 0x500000) / 0x10000
      s.setCprot m { s.cprot m with fired := 0 }
     else s)
  else s

/-- A covered write to an AV block goes to the share's configuration copy first; the block's other fields take it at once (R434). (DEDUCED,
log entry 17.) -/
def State.avWrite (s : State) (off : Nat) (r : RegD) (val : Word) : State :=
  let a := (off - 0x200000) / 0x40000
  let rel := off % 0x40000
  let share := if (s.av a).role = .serving then (s.av a).share else none
  match share.filter fun n => (s.share n).st != .gap && (s.share n).st != .handover with
  | none => s.ignore off val
  | some n =>
    let copy := r.apply (s.regs.copyWord n rel r.reset) val &&& r.coverMask
    let old := s.regs.val off
    let now := (old &&& r.coverMask) ||| (r.apply old val &&& ~~~ r.coverMask)
    let s := { s with regs := { s.regs.set off now with
      shareCfg := s.regs.shareCfg.put (n * 2 ^ 18 + rel) copy, avPend := s.regs.avPend ++ [AvPend.mk a off copy] } }
    (if rel = 0x300 then { s with coh := { s.coh with earlySent := s.coh.earlySent.del n } } else s).quiet

/-- A write that authority and guard allow, to the register at an offset (R423). -/
def State.accept (s : State) (port off : Nat) (r : RegD) (val : Word) : State :=
  if off = 0x10000 then s.tokenWrite port val
  else if r.shadowed then
    ({ s with regs := { s.regs with shadow := s.regs.shadow.put off (r.apply (s.regs.pendingVal off) val) } }).quiet
  else if !(r.rangeOk val && r.relOk val) || s.frozen off val then s.ignore off val
  else if off = 0x4C then s.bootGo port val
  else if off = 0x700004 then s.armZeroise val.toNat
  else if off = 0x14000C then
    let s := if val.getLsbD 0 then s.commit 0x140000 0x200000 else s
    if val.getLsbD 1 then s.clearHwm else s
  else if 0x80000 ≤ off ∧ off < 0x140000 ∧ off % 0x10000 = 0 then (s.jlCtl ((off - 0x80000) / 0x10000) r val).quiet
  else if 0x200000 ≤ off ∧ off < 0x440000 then s.avWrite off r val
  else if 0x500000 ≤ off ∧ off < 0x600000 ∧ off % 0x10000 = 0x11C then
    (if val.getLsbD 0 then s.commit (off / 0x10000 * 0x10000 + 0x100) (off / 0x10000 * 0x10000 + 0x11C) else s)
  else
    let s := ({ s with regs := s.regs.set off (r.apply (s.regs.val off) val) }).afterWrite off val
    if r.covered then s.quiet else s

/-! ### 64-bit quantities -/

/-- The key of a lower word held for a function and a block (R424). -/
def heldKey (fn block : Nat) : Nat := fn * 256 + block % 256

/-- Any write to a block takes the lower word that is held for it; it is used only where the write is of its upper word (R424). (DESIGN
CHOICE, log entry 18.) -/
def State.takeHeld (s : State) (fn block off : Nat) : State × Option Word :=
  match s.regs.held.get (heldKey fn block) with
  | none => (s, none)
  | some h => ({ s with regs := { s.regs with held := s.regs.held.del (heldKey fn block) } }, if off = h.off + 4 then some h.val else none)

/-- Hold a lower word. (DESIGN CHOICE, log entry 18.) -/
def State.hold (s : State) (fn block off : Nat) (val : Word) : State :=
  { s with regs := { s.regs with held := s.regs.held.put (heldKey fn block) ⟨off, val⟩ } }

/-- A 64-bit quantity with its upper word written, and its lower word where one was held. -/
def joinWords (old : Nat) (low : Option Word) (high : Word) : Nat := (low.map (·.toNat)).getD (old % 2 ^ 32) + high.toNat * 2 ^ 32

/-! ### Ring and notice registers -/

/-- Is a ring set up so that it can be enabled (R387, R437)? -/
def Ring.ready (r : Ring) : Bool :=
  r.cmdBase % (64 * 2 ^ r.n) == 0 && r.cplBase % (32 * 2 ^ r.m) == 0 && (!r.sweep || r.shadowAddr % 4 == 0)

/-- A write of `RING_EN_k` of a function (R409, R437, R442). -/
def State.ringEn (s : State) (fn k off : Nat) (val : Word) : State :=
  ((List.range 16).filter fun i => val.getLsbD (16 + i) && (isPf fn || decide (i < 4))).foldl (fun (s : State) i =>
    let n := hostRing fn (16 * k + i)
    let r := s.ring n
    if val.getLsbD i then
      if r.st ≠ .disabled then s
      else if !r.ready then s.ignore off val
      else s.setRing n { r with st := .running, cause := 0, head := 0, tail := 0, cplTail := 0, cplHead := 0, armed := true }
    else s.drainRing n) s

/-- A write to the registers of ring r of a function, at an offset in its 64 bytes (R436, R442). -/
def State.ringReg (s : State) (fn r rel off : Nat) (val : Word) (low : Option Word) (block : Nat) : State :=
  let n := hostRing fn r
  let x := s.ring n
  if 0x1C ≤ rel then (if rel < 0x30 then s else s.ignore off val)
  else if x.st ≠ .disabled then s.ignore off val
  else match rel with
    | 0x00 => s.hold fn block off val
    | 0x08 => s.hold fn block off val
    | 0x10 => s.hold fn block off val
    | 0x04 => s.setRing n { x with cmdBase := joinWords x.cmdBase low val }
    | 0x0C => s.setRing n { x with cplBase := joinWords x.cplBase low val }
    | 0x14 => s.setRing n { x with shadowAddr := joinWords x.shadowAddr low val }
    | 0x18 =>
      let v := val.toNat
      let nn := bitsOf v 3 0
      let mm := bitsOf v 7 4
      let vec := bitsOf v 22 16
      if nn < 4 ∨ 12 < nn ∨ mm < 5 ∨ 13 < mm ∨ (!isPf fn ∧ 7 < vec) then s.ignore off val
      else s.setRing n { x with n := nn, m := mm, sweep := bitOf v 8, vector := vec }
    | _ => s.ignore off val

/-- The notices held since power-up go to a PF's ring, and every condition that holds now (R412, R539). (DEDUCED, log entry 14.) -/
def State.tellHeld (s : State) (fn : Nat) : State :=
  let s := if s.host.heldTold.contains fn then s
    else
      let s0 := { s with host := { s.host with heldTold := s.host.heldTold.ins fn, anyRing := true } }
      let s0 := if s.host.heldDropped = 0 then s0
        else s0.deliver fn ⟨Src.host (fn / 256), 0x05, false, s.time.ft, none, s.host.heldDropped % 2 ^ 32⟩
      s.host.heldNotices.foldl (fun (s : State) n =>
        if n.level && !(s.host.conds.any fun c => c.source == n.source && c.cause == n.cause) then s else s.deliver fn n) s0
  s.host.conds.foldl (fun (s : State) n => s.deliver fn n) s

/-- A write of `NTC_CFG` of a function (R439). (DEDUCED, log entry 14.) -/
def State.ntcCfg (s : State) (fn off : Nat) (val : Word) : State :=
  let v := val.toNat
  let r := s.ntc fn
  let k := bitsOf v 3 0
  let vec := bitsOf v 14 8
  if k < 4 ∨ 12 < k ∨ (!isPf fn ∧ 7 < vec) then s.ignore off val
  else
    let r := { r with k := k, vector := vec }
    if bitOf v 16 && !r.en then
      if r.base % (32 * 2 ^ k) ≠ 0 then s.ignore off val
      else
        let s := s.setNtc fn { r with en := true, head := 0, tail := 0, seq := 0, armed := true, dropped := 0, pending := [], outstanding := [] }
        if isPf fn then s.tellHeld fn else s
    else s.setNtc fn { r with en := bitOf v 16 }

/-- A write to the notice registers of a function, at an offset in them (R439). -/
def State.ntcReg (s : State) (fn rel off : Nat) (val : Word) (low : Option Word) (block : Nat) : State :=
  let r := s.ntc fn
  match rel with
  | 0x00 => if r.en then s.ignore off val else s.hold fn block off val
  | 0x04 => if r.en then s.ignore off val else s.setNtc fn { r with base := joinWords r.base low val }
  | 0x08 => s.ntcCfg fn off val
  | _ => if rel < 0x1C then s else s.ignore off val

/-- A write to a VF's BAR0 (R418, R442). (DEDUCED, log entry 12.) -/
def State.vfWrite (s : State) (fn off : Nat) (val : Word) (low : Option Word) : State :=
  let tdi := (s.host.tdi.get fn).getD .unlocked
  if !s.boot.fwReady then s
  else if tdi = .locked ∨ tdi = .run then s.ignore off val
  else if off < 0x100 then s.ringReg fn (off / 64) (off % 64) off val low 0
  else if off = 0x2000 then s.ringEn fn 0 off val
  else if 0x8000 ≤ off ∧ off < 0x801C then s.ntcReg fn (off - 0x8000) off val low 0x80
  else s.ignore off val

/-! ### A write of BAR0 -/

/-- The boot registers (R536). (DEDUCED, log entry 11.) -/
def isBoot (off : Nat) : Bool := decide (0x40 ≤ off) && decide (off < 0x50)

/-- A write of BAR0 by a PF that neither completes nor breaks a guard any more (R420 to R422, R424, R536, R541). (DEDUCED, log entry 11.) -/
def State.pfWrite (s : State) (port off : Nat) (val : Word) (low : Option Word) : State :=
  let fn := port * 256
  let block := off / 0x10000
  if companionOf off then s.ignore off val
  else if isBoot off then
    if s.boot.st = .wait ∨ s.boot.st = .failed then
      (match off with
       | 0x40 => s.hold fn block off val
       | 0x44 =>
         let g := match low with | some w => s.regs.set 0x40 w | none => s.regs
         { s with regs := g.set 0x44 val }
       | _ => match regAt off with | some r => s.accept port off r val | none => s)
    else s.ignore off val
  else if !s.boot.fwReady then s
  else if 0x20000 ≤ off ∧ off < 0x21000 then s.ringReg fn ((off - 0x20000) / 64) (off % 64) off val low block
  else if 0x22000 ≤ off ∧ off < 0x22010 then s.ringEn fn ((off - 0x22000) / 4) off val
  else if 0x30000 ≤ off ∧ off < 0x3001C then s.ntcReg fn (off - 0x30000) off val low block
  else match regAt off with
    | none => if roAt off then s else s.ignore off val
    | some r =>
      if off ≠ 0x10000 ∧ s.host.token ≠ some port then s.ignore off val
      else if r.paired then { s with regs := { s.regs with guards := s.regs.guards.put port ⟨off, val, s.clock⟩ } }
      else s.accept port off r val

/-- A write of BAR0 by a PF: the guard first (R7, R421). (DEDUCED, log entry 12.) -/
def State.guarded (s : State) (port off : Nat) (val : Word) (low : Option Word) (shape : Bool) : State :=
  match s.regs.guards.get port with
  | none => if shape then s.pfWrite port off val low else s.ignore off val
  | some g =>
    if off = g.off + 0x1000 ∧ shape ∧ s.clock ≤ g.opened + 10000 then
      (if val = ~~~ g.val then
        match regAt g.off with
        | some r => ({ s with regs := { s.regs with guards := s.regs.guards.del port } }).accept port g.off r g.val
        | none => s
       else s.failGuard port)
    else if shape then (s.failGuard port).pfWrite port off val low else (s.failGuard port).ignore off val

/-- A write of a function's BAR0 (R420, R442). Nothing is accepted while CHIP_RESET_N is low or SYS_CLK is lost (R533, R562). (DEDUCED, log
entry 12.) -/
def State.barWrite (s : State) (port : HPort) (fn off size : Nat) (val : Word) : State :=
  let f := fnKey port fn
  let shape := size == 4 && off % 4 == 0
  if s.mute then s
  else
    let t := s.takeHeld f (if isPf f then off / 0x10000 else off / 0x100) off
    if isPf f then t.1.guarded port off val t.2 shape
    else if shape then t.1.vfWrite f off val t.2 else t.1.ignore off val

/-- A whole PAIR write: the value, then its complement at the companion (R7). (DEDUCED, log entry 10.) -/
def State.pairWrite (s : State) (port : HPort) (off : Nat) (val : Word) : State :=
  (s.barWrite port 0 off 4 val).barWrite port 0 (off + 0x1000) 4 (~~~ val)

/-! ### The rows -/

/-- REGISTER_WRITE (R5, R420 to R425, R442). -/
def execRegisterWrite (port : HPort) (fn off size : Nat) (val : Word) (s : State) : Host.Outcome State Fault Refusal :=
  .next (s.barWrite port fn off size val)

/-- PAIR_VALUE_WRITE (R7). (DEDUCED, log entry 10.) -/
def execPairValueWrite (port : HPort) (off : Nat) (val : Word) (s : State) : Host.Outcome State Fault Refusal :=
  .next (s.barWrite port 0 off 4 val)

/-- PAIR_COMPLEMENT_WRITE: `off` is the companion's offset (R7). (DEDUCED, log entry 10.) -/
def execPairComplementWrite (port : HPort) (off : Nat) (val : Word) (s : State) : Host.Outcome State Fault Refusal :=
  .next (s.barWrite port 0 off 4 val)

/-- PAIR_GUARD_TIMEOUT: the guard fails when its 10 µs expire (R7). -/
def execPairGuardTimeout (port : HPort) (s : State) : Host.Outcome State Fault Refusal :=
  .next (match s.regs.guards.get port with
    | some g => (s.passTo (g.opened + 10000)).failGuard port
    | none => s)

/-- HASH_LOCK: a PAIR write of `CFG_HASH_CTRL` (R19). -/
def execHashLock (port : HPort) (val : Word) (s : State) : Host.Outcome State Fault Refusal := .next (s.pairWrite port 0x10118 val)

/-- DMAP_LOCK: a PAIR write of `CFG_DMAP_CTRL` (R263). -/
def execDmapLock (port : HPort) (val : Word) (s : State) : Host.Outcome State Fault Refusal := .next (s.pairWrite port 0x1013C val)

/-- TOKEN_CLAIM: a PAIR write of CLAIM to `CFG_TOKEN` (R406). -/
def execTokenClaim (port : HPort) (s : State) : Host.Outcome State Fault Refusal := .next (s.pairWrite port 0x10000 1)

/-- TOKEN_RELEASE (R406). -/
def execTokenRelease (port : HPort) (s : State) : Host.Outcome State Fault Refusal := .next (s.pairWrite port 0x10000 2)

/-- TOKEN_FORCE (R406). -/
def execTokenForce (port : HPort) (s : State) : Host.Outcome State Fault Refusal := .next (s.pairWrite port 0x10000 3)

/-- DC_ARB_COMMIT (R274, R569). -/
def execDcArbCommit (port : HPort) (share : Share) (val : Word) (s : State) : Host.Outcome State Fault Refusal :=
  .next (s.barWrite port 0 (0x50011C + share.val * 0x20000) 4 val)

/-- RT_COMMIT (R374, R569). -/
def execRtCommit (port : HPort) (val : Word) (s : State) : Host.Outcome State Fault Refusal := .next (s.barWrite port 0 0x14000C 4 val)

/-- HWM_CLR: a write of `RT_COMMIT` (R383). -/
def execHwmClr (port : HPort) (val : Word) (s : State) : Host.Outcome State Fault Refusal := .next (s.barWrite port 0 0x14000C 4 val)

/-- NODE_ID_WRITE: a PAIR write of `RT_NODE` (R364). -/
def execNodeIdWrite (port : HPort) (val : Word) (s : State) : Host.Outcome State Fault Refusal := .next (s.pairWrite port 0x140000 val)

/-- The offset of `RING_EN_k` in a function's BAR0 (R437, R442). -/
def ringEnOff (fn k : Nat) : Nat := if fn % 256 = 0 then 0x22000 + 4 * k else 0x2000 + 4 * k

/-- RING_ENABLE: a write of `RING_EN_k` (R437). -/
def execRingEnable (port : HPort) (fn k : Nat) (val : Word) (s : State) : Host.Outcome State Fault Refusal :=
  .next (s.barWrite port fn (ringEnOff fn k) 4 val)

/-- RING_DRAIN: a write of `RING_EN_k` (R409, R437). -/
def execRingDrain (port : HPort) (fn k : Nat) (val : Word) (s : State) : Host.Outcome State Fault Refusal :=
  .next (s.barWrite port fn (ringEnOff fn k) 4 val)

/-- NOTICE_RING_ENABLE: a write of `NTC_CFG` (R439, R539). -/
def execNoticeRingEnable (port : HPort) (fn : Nat) (val : Word) (s : State) : Host.Outcome State Fault Refusal :=
  .next (s.barWrite port fn (if fn % 256 = 0 then 0x30008 else 0x8008) 4 val)

/-- JL_PORT_ENABLE: a write of `JL_CTL` (R337, R540). -/
def execJlPortEnable (port : HPort) (jl : JPort) (val : Word) (s : State) : Host.Outcome State Fault Refusal :=
  .next (s.barWrite port 0 (jlBase jl) 4 val)

/-- JL_RETRAIN_REQUEST: a write of `JL_CTL` (R352). -/
def execJlRetrainRequest (port : HPort) (jl : JPort) (val : Word) (s : State) : Host.Outcome State Fault Refusal :=
  .next (s.barWrite port 0 (jlBase jl) 4 val)

/-- FLIP_ARM: a PAIR write of `DC_FLIP_CTL` (R306). -/
def execFlipArm (port : HPort) (ch : Chan) (val : Word) (s : State) : Host.Outcome State Fault Refusal :=
  .next (s.pairWrite port (0x500200 + ch.val * 0x10000) val)

/-- ZEROISE_ARM: a PAIR write of `SEC_ZEROISE_ARM` (R464, R466). -/
def execZeroiseArm (port : HPort) (val : Word) (s : State) : Host.Outcome State Fault Refusal := .next (s.pairWrite port 0x700004 val)

/-- AV_CONFIG_APPLY: accepted covered writes take effect in an Avenue (R434). (DEDUCED, log entry 17.) -/
def execAvConfigApply (av : Avenue) (s : State) : Host.Outcome State Fault Refusal :=
  .next (
    let mine := s.regs.avPend.filter fun p => p.av == av.val
    let g := mine.foldl (fun (g : Regs) (p : AvPend) =>
      let m := ((regAt p.off).map (·.coverMask)).getD 0
      g.set p.off ((g.val p.off &&& ~~~ m) ||| (p.val &&& m))) s.regs
    { s with regs := { g with avPend := g.avPend.filter fun p => p.av != av.val } })

/-! ### The configuration check -/

/-- The covered words of a list of registers placed at a base: offset, mask and reset value. -/
def coveredAt (base : Nat) (rs : List RegD) : List (Nat × Word × Nat) :=
  (rs.filter (·.covered)).flatMap fun r => (List.range r.count).map fun i => (base + r.base + i * r.stride, r.coverMask, r.reset)

/-- The registers that the check takes, in the order of R432, for the Avenues that serve shares 0 to 7. -/
def coveredWords (serving : List Nat) : List (Nat × Word × Nat) :=
  let sorted := sortBy fun (a b : Nat × Word × Nat) => decide (a.1 ≤ b.1)
  let glob := coveredAt 0 globRegs
  sorted (glob.filter fun x => decide (x.1 < 0x80000)) ++
    (List.range 12).flatMap (fun n => coveredAt (jlBase n) jlRegs) ++
    sorted (glob.filter fun x => decide (0x140000 ≤ x.1) && decide (x.1 < 0x200000)) ++
    serving.flatMap (fun a => coveredAt (0x200000 + a * 0x40000) avRegs) ++
    (List.range 16).flatMap (fun m => coveredAt (0x500000 + m * 0x10000) (if m % 2 = 0 then dcRegs ++ arbRegs else dcRegs)) ++
    sorted (glob.filter fun x => decide (0x600000 ≤ x.1))

/-- The running CRC of the configuration (R9, R432). (DEDUCED, log entry 15.) -/
def State.configCrc (s : State) : Word :=
  let ws := coveredWords ((List.range 8).filterMap s.servedBy)
  BitVec.ofNat 32 (crc32c (ws.flatMap fun (x : Nat × Word × Nat) =>
    leBytes 4 (((s.regs.act.get x.1).getD (BitVec.ofNat 32 x.2.2) &&& x.2.1).toNat)))

/-- The check's result for a CRC: outside a quiet period, and while `EN` is 1, a mismatch is a level condition (R433). (DEDUCED, log entry
15.) -/
def State.takeCrc (s : State) (crc : Word) : State :=
  let ref := s.regs.val 0x10018
  let ok := crc == ref
  let known := s.host.conds.any fun c => c.source == Src.config && c.cause == 0x03
  let s := { s with regs := { s.regs with crc := crc, crcMatch := ok } }
  if ok || !(s.regs.val 0x10010).getLsbD 0 then s.endLevel Src.config 0x03
  else if s.clock < s.regs.quietUntil || known then s
  else
    let s := { s with regs := { s.regs with mismatches := min 0xFFFF (s.regs.mismatches + 1) } }
    s.raiseLevel Src.config 0x03 (crc.toNat + ref.toNat * 2 ^ 32)

/-- CONFIG_CRC_UPDATE (R432, R433). -/
def execConfigCrcUpdate (s : State) : Host.Outcome State Fault Refusal := .next (s.takeCrc s.configCrc)

end Sys2Proof.Machine
end

