-- ==== Sys2Proof/Machine/Router.lean ====
section
/-! DEFINITION. The commands of the router and of its timers (R364 to R384). -/

namespace Sys2Proof.Machine

open Sys2Proof

/-- MESSAGE_FORWARD (R366, R368): a message for another node leaves its receiver buffer for an egress port, or has no route. (DEDUCED, log
entry 36.) -/
def execMessageForward (port : JPort) (m : Msg) (s : State) : Host.Outcome State Fault Refusal :=
  .next (
    if m.dst = s.node then s
    else
      let s := s.takeRx port m.cls m.src
      let r := s.tryPost m (some port) none
      if r.2 then r.1 else r.1.noRoute m)

/-- UNEXPECTED_MESSAGE (R71, R565): a message for the pool that the pool does not take is discarded and counted, with at most one
notice a second; a REQ of a reserved type is answered. -/
def execUnexpectedMessage (port : JPort) (byte0 src cells vc : Nat) (s : State) : Host.Outcome State Fault Refusal :=
  let cls := if byte0 = 0x3F then 4 else byte0 / 64
  let p := s.jl port
  let p := { p with rx := match p.rx.find? fun m => m.cls == cls && m.src == src with
                      | some m => p.rx.erase m
                      | none => p.rx,
                    owed := p.owed.put vc ((p.owed.get vc).getD 0 + cells) }
  let s := s.setJl port p
  .next (
    if cls = 0 then s.sendDat port 0 none ⟨.comp, src, 0, Jl.accessFault, 0, Af.malformed, none⟩
    else
      let s := s.tally 0x140060 1
      let due := match s.net.lastUnexpected with
        | some t => decide (t + 1000000000 ≤ s.clock)
        | none => true
      if due then
        ({ s with net := { s.net with lastUnexpected := some s.clock } }).raise Src.router 0x02 (src % 65536 + byte0 % 256 * 65536)
      else s)

/-- ESCAPE_WAIT_TIMEOUT (R366, R372): a message that has waited `ESC_WAIT` moves to the escape VC of its class on its `ESC_PORT`, unless
moves are frozen or its port has come free. (DEDUCED, log entry 36.) -/
def execEscapeWaitTimeout (n : JPort) (idx : Nat) (s : State) : Host.Outcome State Fault Refusal :=
  .next (
    match (s.jl n).queue[idx]? with
    | none => s
    | some q =>
      if q.m.cls = 4 ∨ q.m.vc % 2 = 1 then s
      else
        let s := s.passTo (q.since + s.regs.fld 0x140004 15 0)
        let out := s.setJl n { s.jl n with queue := (s.jl n).queue.eraseIdx idx }
        match (s.choose q.m q.ent q.arrival true).1 with
        | .road p => (out.tally (0x1A8240 + 0x400 * n) 1).enqueue p { q with m := { q.m with vc := 2 * q.m.cls + 1 } }
        | .via p => if p = n then s else out.enqueue p q
        | .wait => s
        | .none => out.noRoute q.m)

/-- BYPASS_DROP_TIMEOUT (R369): a routed Bypass message that has waited `BYP_DROP` for its credit is discarded. -/
def execBypassDropTimeout (n : JPort) (idx : Nat) (s : State) : Host.Outcome State Fault Refusal :=
  .next (
    match (s.jl n).queue[idx]? with
    | none => s
    | some q =>
      if q.m.cls ≠ 4 then s
      else
        let s := s.passTo (q.since + s.regs.fld 0x140004 23 16 * 1000)
        if s.hasCredit n q.m.vc q.m.cells then s
        else (s.setJl n { s.jl n with queue := (s.jl n).queue.eraseIdx idx }).tally 0x140050 1)

/-- ESCAPE_HOLD_TIMEOUT (R373): an escape message held for 100 ms after a Ring Road break has no route. -/
def execEscapeHoldTimeout (idx : Nat) (s : State) : Host.Outcome State Fault Refusal :=
  .next (
    match s.net.held[idx]? with
    | none => s
    | some q =>
      let s := s.passTo (q.since + 100000000)
      ({ s with net := { s.net with held := s.net.held.eraseIdx idx } }).noRoute q.m)

/-- The red messages of a meter with their ports, oldest first. -/
def State.redOf (s : State) (m : Nat) : List (Nat × Queued) :=
  let all := (s.net.ports.map fun e => (e.2.queue.filter fun q => q.meter == some m && q.mark == .red).map fun q => (e.1, q)).flatten
  all.foldr (fun x acc => (acc.takeWhile fun y => decide (y.2.since < x.2.since)) ++ x ::
    (acc.dropWhile fun y => decide (y.2.since < x.2.since))) []

/-- Mark held messages of a meter again, oldest first, until one is red (R380). -/
def State.remark (s : State) (m : Nat) : List (Nat × Queued) → State
  | [] => s
  | (n, q) :: t =>
    let r := s.markAt m (s.effLen n q.m)
    if r.2 = .red then r.1
    else
      let p := r.1.jl n
      let s := r.1.setJl n { p with queue := p.queue.map fun x => if x = q then { x with mark := r.2 } else x }
      (if r.2 = .yellow then s.tally (0x1A8248 + 0x400 * n) 1 else s).remark m t

/-- The time at which a meter's peak bucket holds a length (R380). -/
def State.refillAt (s : State) (m len : Nat) : Nat :=
  let b := s.bucketNow m
  let rate := s.regs.fld (m + 4) 23 0 * 256
  if len * 256000 ≤ b.tp ∨ rate = 0 then s.clock else s.clock + (len * 256000 - b.tp + (rate - 1)) / rate

/-- METER_RELEASE (R380): the peak bucket of a held message's meter has refilled, and the meter's held messages are marked again. (DEDUCED,
log entry 36.) -/
def execMeterRelease (n : JPort) (idx : Nat) (s : State) : Host.Outcome State Fault Refusal :=
  .next (
    match (s.jl n).queue[idx]? with
    | none => s
    | some q =>
      match q.meter with
      | none => s
      | some m =>
        if q.mark ≠ .red then s
        else
          let len := match s.redOf m with
            | [] => 0
            | x :: _ => s.effLen x.1 x.2.m
          let s := s.passTo (s.refillAt m len)
          s.remark m (s.redOf m))

end Sys2Proof.Machine
end

