-- ==== Sys2Proof/Machine/Dispatch.lean ====
section
/-! DEFINITION. One arm for each command: the direct call of its meaning. -/

namespace Sys2Proof.Machine

/-- What a command does to everything but the queue. (DESIGN CHOICE, log entry 1.) -/
def exec (i : Instr) (s : State) : Host.Outcome State Fault Refusal :=
  match i with
  | .registerWrite port fn off size val => Sys2Proof.Machine.execRegisterWrite port fn off size val s
  | .pairValueWrite port off val => Sys2Proof.Machine.execPairValueWrite port off val s
  | .pairComplementWrite port off val => Sys2Proof.Machine.execPairComplementWrite port off val s
  | .pairGuardTimeout port => Sys2Proof.Machine.execPairGuardTimeout port s
  | .hashLock port val => Sys2Proof.Machine.execHashLock port val s
  | .dmapLock port val => Sys2Proof.Machine.execDmapLock port val s
  | .tokenClaim port => Sys2Proof.Machine.execTokenClaim port s
  | .tokenRelease port => Sys2Proof.Machine.execTokenRelease port s
  | .tokenForce port => Sys2Proof.Machine.execTokenForce port s
  | .configCrcUpdate => Sys2Proof.Machine.execConfigCrcUpdate s
  | .avConfigApply av => Sys2Proof.Machine.execAvConfigApply av s
  | .dcArbCommit port share val => Sys2Proof.Machine.execDcArbCommit port share val s
  | .rtCommit port val => Sys2Proof.Machine.execRtCommit port val s
  | .hwmClr port val => Sys2Proof.Machine.execHwmClr port val s
  | .nodeIdWrite port val => Sys2Proof.Machine.execNodeIdWrite port val s
  | .ringEnable port fn k val => Sys2Proof.Machine.execRingEnable port fn k val s
  | .ringDrain port fn k val => Sys2Proof.Machine.execRingDrain port fn k val s
  | .ringDrained ring => Sys2Proof.Machine.execRingDrained ring s
  | .noticeRingEnable port fn val => Sys2Proof.Machine.execNoticeRingEnable port fn val s
  | .jlPortEnable port jl val => Sys2Proof.Machine.execJlPortEnable port jl val s
  | .jlRetrainRequest port jl val => Sys2Proof.Machine.execJlRetrainRequest port jl val s
  | .flipArm port ch val => Sys2Proof.Machine.execFlipArm port ch val s
  | .zeroiseArm port val => Sys2Proof.Machine.execZeroiseArm port val s
  | .zeroiseArmExpiry => Sys2Proof.Machine.execZeroiseArmExpiry s
  | .bootGo port val => Sys2Proof.Machine.execBootGo port val s
  | .bootLoadDone res => Sys2Proof.Machine.execBootLoadDone res s
  | .fwStartDone res => Sys2Proof.Machine.execFwStartDone res s
  | .commandTailDoorbell port fn r size val => Sys2Proof.Machine.execCommandTailDoorbell port fn r size val s
  | .completionHeadDoorbell port fn r size val => Sys2Proof.Machine.execCompletionHeadDoorbell port fn r size val s
  | .noticeHeadDoorbell port fn size val => Sys2Proof.Machine.execNoticeHeadDoorbell port fn size val s
  | .noticeClaimRead port fn => Sys2Proof.Machine.execNoticeClaimRead port fn s
  | .noticeCompletionWrite port fn size val => Sys2Proof.Machine.execNoticeCompletionWrite port fn size val s
  | .shadowTailSweep ring read => Sys2Proof.Machine.execShadowTailSweep ring read s
  | .descriptorFetch ring read => Sys2Proof.Machine.execDescriptorFetch ring read s
  | .retentionExpire issuer cmdId => Sys2Proof.Machine.execRetentionExpire issuer cmdId s
  | .functionLevelReset port fn => Sys2Proof.Machine.execFunctionLevelReset port fn s
  | .hostPerst port => Sys2Proof.Machine.execHostPerst port s
  | .hostLinkDown port => Sys2Proof.Machine.execHostLinkDown port s
  | .districtCreate c => Sys2Proof.Machine.execDistrictCreate c s
  | .districtErase c => Sys2Proof.Machine.execDistrictErase c s
  | .districtEraseProceed district => Sys2Proof.Machine.execDistrictEraseProceed district s
  | .districtQuery c => Sys2Proof.Machine.execDistrictQuery c s
  | .windowMap c => Sys2Proof.Machine.execWindowMap c s
  | .translationDrainDone ring cmdId => Sys2Proof.Machine.execTranslationDrainDone ring cmdId s
  | .directorySearchDone ring cmdId => Sys2Proof.Machine.execDirectorySearchDone ring cmdId s
  | .memMap c => Sys2Proof.Machine.execMemMap c s
  | .memUnmap c => Sys2Proof.Machine.execMemUnmap c s
  | .districtStrength c => Sys2Proof.Machine.execDistrictStrength c s
  | .strengthPageDone district => Sys2Proof.Machine.execStrengthPageDone district s
  | .districtLimits c => Sys2Proof.Machine.execDistrictLimits c s
  | .windowQuery c => Sys2Proof.Machine.execWindowQuery c s
  | .accRingCreate c => Sys2Proof.Machine.execAccRingCreate c s
  | .accRingDestroy c => Sys2Proof.Machine.execAccRingDestroy c s
  | .districtReown c => Sys2Proof.Machine.execDistrictReown c s
  | .milestoneCut c => Sys2Proof.Machine.execMilestoneCut c s
  | .milestoneOpen c => Sys2Proof.Machine.execMilestoneOpen c s
  | .milestoneClose c => Sys2Proof.Machine.execMilestoneClose c s
  | .milestoneRelease c => Sys2Proof.Machine.execMilestoneRelease c s
  | .milestoneRenumber c => Sys2Proof.Machine.execMilestoneRenumber c s
  | .renumberDone district => Sys2Proof.Machine.execRenumberDone district s
  | .milestoneQuery c => Sys2Proof.Machine.execMilestoneQuery c s
  | .crossingCreate c => Sys2Proof.Machine.execCrossingCreate c s
  | .crossingDestroy c => Sys2Proof.Machine.execCrossingDestroy c s
  | .crossingReset c => Sys2Proof.Machine.execCrossingReset c s
  | .crossingQuery c => Sys2Proof.Machine.execCrossingQuery c s
  | .opFill c => Sys2Proof.Machine.execOpFill c s
  | .opCopy c => Sys2Proof.Machine.execOpCopy c s
  | .opCompare c => Sys2Proof.Machine.execOpCompare c s
  | .opReduce c => Sys2Proof.Machine.execOpReduce c s
  | .opGather c => Sys2Proof.Machine.execOpGather c s
  | .opScatter c => Sys2Proof.Machine.execOpScatter c s
  | .opHostCopy c => Sys2Proof.Machine.execOpHostCopy c s
  | .opGemv c => Sys2Proof.Machine.execOpGemv c s
  | .opAttend c => Sys2Proof.Machine.execOpAttend c s
  | .opKvAppend c => Sys2Proof.Machine.execOpKvAppend c s
  | .opQuant c => Sys2Proof.Machine.execOpQuant c s
  | .opDequant c => Sys2Proof.Machine.execOpDequant c s
  | .jobAbort c => Sys2Proof.Machine.execJobAbort c s
  | .tierPromote c => Sys2Proof.Machine.execTierPromote c s
  | .tierDemote c => Sys2Proof.Machine.execTierDemote c s
  | .tierPin c => Sys2Proof.Machine.execTierPin c s
  | .flashGroupCreate c => Sys2Proof.Machine.execFlashGroupCreate c s
  | .flashGroupDestroy c => Sys2Proof.Machine.execFlashGroupDestroy c s
  | .slotPower c => Sys2Proof.Machine.execSlotPower c s
  | .ssdReplace c => Sys2Proof.Machine.execSsdReplace c s
  | .tierQuery c => Sys2Proof.Machine.execTierQuery c s
  | .avenueRetire c => Sys2Proof.Machine.execAvenueRetire c s
  | .avenueAdmit c => Sys2Proof.Machine.execAvenueAdmit c s
  | .memRetire c => Sys2Proof.Machine.execMemRetire c s
  | .errlogRead c => Sys2Proof.Machine.execErrlogRead c s
  | .nodeUnfence c => Sys2Proof.Machine.execNodeUnfence c s
  | .roleSwap c => Sys2Proof.Machine.execRoleSwap c s
  | .healthRead c => Sys2Proof.Machine.execHealthRead c s
  | .fwStage c => Sys2Proof.Machine.execFwStage c s
  | .fwRoll c => Sys2Proof.Machine.execFwRoll c s
  | .rollSpareReady passed => Sys2Proof.Machine.execRollSpareReady passed s
  | .planLoad c => Sys2Proof.Machine.execPlanLoad c s
  | .planActivate c => Sys2Proof.Machine.execPlanActivate c s
  | .planDiscard c => Sys2Proof.Machine.execPlanDiscard c s
  | .timeSet c => Sys2Proof.Machine.execTimeSet c s
  | .timeSetTimeout => Sys2Proof.Machine.execTimeSetTimeout s
  | .eventSchedule c => Sys2Proof.Machine.execEventSchedule c s
  | .eventCancel c => Sys2Proof.Machine.execEventCancel c s
  | .powerCap c => Sys2Proof.Machine.execPowerCap c s
  | .powerProfile c => Sys2Proof.Machine.execPowerProfile c s
  | .powerQuery c => Sys2Proof.Machine.execPowerQuery c s
  | .energyRead c => Sys2Proof.Machine.execEnergyRead c s
  | .keyInstall c => Sys2Proof.Machine.execKeyInstall c s
  | .keyZeroise c => Sys2Proof.Machine.execKeyZeroise c s
  | .spdmRelay c => Sys2Proof.Machine.execSpdmRelay c s
  | .modelLoad c => Sys2Proof.Machine.execModelLoad c s
  | .linkKeyStage c => Sys2Proof.Machine.execLinkKeyStage c s
  | .bounceSet c => Sys2Proof.Machine.execBounceSet c s
  | .survey c => Sys2Proof.Machine.execSurvey c s
  | .nop c => Sys2Proof.Machine.execNop c s
  | .readShared port r => Sys2Proof.Machine.execReadShared port r s
  | .readOwn port r => Sys2Proof.Machine.execReadOwn port r s
  | .readOnce port r => Sys2Proof.Machine.execReadOnce port r s
  | .readGather port r => Sys2Proof.Machine.execReadGather port r s
  | .writeLine port r => Sys2Proof.Machine.execWriteLine port r s
  | .writeBack port r => Sys2Proof.Machine.execWriteBack port r s
  | .writebackTrackerGrant share => Sys2Proof.Machine.execWritebackTrackerGrant share s
  | .atomicAdd port r => Sys2Proof.Machine.execAtomicAdd port r s
  | .atomicAnd port r => Sys2Proof.Machine.execAtomicAnd port r s
  | .atomicOr port r => Sys2Proof.Machine.execAtomicOr port r s
  | .atomicXor port r => Sys2Proof.Machine.execAtomicXor port r s
  | .atomicSmax port r => Sys2Proof.Machine.execAtomicSmax port r s
  | .atomicSmin port r => Sys2Proof.Machine.execAtomicSmin port r s
  | .atomicUmax port r => Sys2Proof.Machine.execAtomicUmax port r s
  | .atomicUmin port r => Sys2Proof.Machine.execAtomicUmin port r s
  | .atomicSwap port r => Sys2Proof.Machine.execAtomicSwap port r s
  | .atomicCas port r => Sys2Proof.Machine.execAtomicCas port r s
  | .atomicAnyNear port atop r => Sys2Proof.Machine.execAtomicAnyNear port atop r s
  | .crRead port any r => Sys2Proof.Machine.execCrRead port any r s
  | .semRelease port any r => Sys2Proof.Machine.execSemRelease port any r s
  | .semAcquire port any r => Sys2Proof.Machine.execSemAcquire port any r s
  | .semWait port any r => Sys2Proof.Machine.execSemWait port any r s
  | .jctArrive port any r => Sys2Proof.Machine.execJctArrive port any r s
  | .jctWait port any r => Sys2Proof.Machine.execJctWait port any r s
  | .flagSet port any r => Sys2Proof.Machine.execFlagSet port any r s
  | .flagOr port any r => Sys2Proof.Machine.execFlagOr port any r s
  | .flagClear port any r => Sys2Proof.Machine.execFlagClear port any r s
  | .flagWait port any r => Sys2Proof.Machine.execFlagWait port any r s
  | .tktTake port any r => Sys2Proof.Machine.execTktTake port any r s
  | .tktRelease port any r => Sys2Proof.Machine.execTktRelease port any r s
  | .tktWait port any r => Sys2Proof.Machine.execTktWait port any r s
  | .crUnwait port any r => Sys2Proof.Machine.execCrUnwait port any r s
  | .registrationExpired crossing node cookie => Sys2Proof.Machine.execRegistrationExpired crossing node cookie s
  | .recallAck port m => Sys2Proof.Machine.execRecallAck port m s
  | .recallData port m => Sys2Proof.Machine.execRecallData port m s
  | .recallTimeout line node => Sys2Proof.Machine.execRecallTimeout line node s
  | .recallallTimeout share district node => Sys2Proof.Machine.execRecallallTimeout share district node s
  | .wbwTimeout line node => Sys2Proof.Machine.execWbwTimeout line node s
  | .earlyDecision port src tag dataError => Sys2Proof.Machine.execEarlyDecision port src tag dataError s
  | .earlyDeadline port src tag => Sys2Proof.Machine.execEarlyDeadline port src tag s
  | .mirrorConfirm line => Sys2Proof.Machine.execMirrorConfirm line s
  | .snoopLapDone line => Sys2Proof.Machine.execSnoopLapDone line s
  | .predictorDecay share => Sys2Proof.Machine.execPredictorDecay share s
  | .unexpectedMessage port byte0 src cells vc => Sys2Proof.Machine.execUnexpectedMessage port byte0 src cells vc s
  | .messageForward port m => Sys2Proof.Machine.execMessageForward port m s
  | .requestHeldTimeout port src tag => Sys2Proof.Machine.execRequestHeldTimeout port src tag s
  | .cowSweepDone district slot => Sys2Proof.Machine.execCowSweepDone district slot s
  | .cowChunksDone district page => Sys2Proof.Machine.execCowChunksDone district page s
  | .cowMapInvalidated district page => Sys2Proof.Machine.execCowMapInvalidated district page s
  | .cowCopyRestart district page => Sys2Proof.Machine.execCowCopyRestart district page s
  | .copyPageReturn district slot => Sys2Proof.Machine.execCopyPageReturn district slot s
  | .copyDemote district => Sys2Proof.Machine.execCopyDemote district s
  | .copySpaceFreed district => Sys2Proof.Machine.execCopySpaceFreed district s
  | .schedulerPass => Sys2Proof.Machine.execSchedulerPass s
  | .engineWakeDone av eng => Sys2Proof.Machine.execEngineWakeDone av eng s
  | .activationLoadDone job => Sys2Proof.Machine.execActivationLoadDone job s
  | .engineReadData job share => Sys2Proof.Machine.execEngineReadData job share s
  | .rowGroupDone job share eng => Sys2Proof.Machine.execRowGroupDone job share eng s
  | .partialSumArrive job share => Sys2Proof.Machine.execPartialSumArrive job share s
  | .jobCommitStart job bad => Sys2Proof.Machine.execJobCommitStart job bad s
  | .jobCommitDone job => Sys2Proof.Machine.execJobCommitDone job s
  | .engineScrubDone av eng => Sys2Proof.Machine.execEngineScrubDone av eng s
  | .engineCheckFail av eng => Sys2Proof.Machine.execEngineCheckFail av eng s
  | .ageingCheck av eng low => Sys2Proof.Machine.execAgeingCheck av eng low s
  | .dramTrainingDone results => Sys2Proof.Machine.execDramTrainingDone results s
  | .memInitStart => Sys2Proof.Machine.execMemInitStart s
  | .memInitDone => Sys2Proof.Machine.execMemInitDone s
  | .depotBuildDone => Sys2Proof.Machine.execDepotBuildDone s
  | .refsbDue ch rank sc bank issue => Sys2Proof.Machine.execRefsbDue ch rank sc bank issue s
  | .rfmIssue ch rank sc bank => Sys2Proof.Machine.execRfmIssue ch rank sc bank s
  | .dimmTempPoll ch celsius => Sys2Proof.Machine.execDimmTempPoll ch celsius s
  | .writeAgeDrain ch => Sys2Proof.Machine.execWriteAgeDrain ch s
  | .roadworksWindowOpen ch => Sys2Proof.Machine.execRoadworksWindowOpen ch s
  | .roadworksPauseEnd ch corr => Sys2Proof.Machine.execRoadworksPauseEnd ch corr s
  | .arbCreditPeriod share => Sys2Proof.Machine.execArbCreditPeriod share s
  | .arbGrantEnd share => Sys2Proof.Machine.execArbGrantEnd share s
  | .dramReadDone line bad => Sys2Proof.Machine.execDramReadDone line bad s
  | .pageQuiesced frame => Sys2Proof.Machine.execPageQuiesced frame s
  | .reconstructDone frame failed syndrome depot => Sys2Proof.Machine.execReconstructDone frame failed syndrome depot s
  | .parityDelta frame par line => Sys2Proof.Machine.execParityDelta frame par line s
  | .parityRmwDone frame par bad => Sys2Proof.Machine.execParityRmwDone frame par bad s
  | .parityReencode frame par bad => Sys2Proof.Machine.execParityReencode frame par bad s
  | .scrubLine share line bad => Sys2Proof.Machine.execScrubLine share line bad s
  | .scrubLapWarn share => Sys2Proof.Machine.execScrubLapWarn share s
  | .channelFailed ch => Sys2Proof.Machine.execChannelFailed ch s
  | .evacSliceDone ch => Sys2Proof.Machine.execEvacSliceDone ch s
  | .nvmeReadDone slot cid pi => Sys2Proof.Machine.execNvmeReadDone slot cid pi s
  | .fillDone district page => Sys2Proof.Machine.execFillDone district page s
  | .demotionStart district => Sys2Proof.Machine.execDemotionStart district s
  | .nvmeWriteDone slot cid => Sys2Proof.Machine.execNvmeWriteDone slot cid s
  | .nvmeCmdTimeout slot cid => Sys2Proof.Machine.execNvmeCmdTimeout slot cid s
  | .nvmeAbortTimeout slot cid => Sys2Proof.Machine.execNvmeAbortTimeout slot cid s
  | .nvmeResetTimeout slot => Sys2Proof.Machine.execNvmeResetTimeout slot s
  | .nvmeErrorCompletion slot cid media => Sys2Proof.Machine.execNvmeErrorCompletion slot cid media s
  | .ssdRebuildStep group => Sys2Proof.Machine.execSsdRebuildStep group s
  | .slotPresenceChange slot present => Sys2Proof.Machine.execSlotPresenceChange slot present s
  | .slotInrushTurn => Sys2Proof.Machine.execSlotInrushTurn s
  | .slotPgAssert slot => Sys2Proof.Machine.execSlotPgAssert slot s
  | .slotInrushTimeout slot => Sys2Proof.Machine.execSlotInrushTimeout slot s
  | .slotPerstRelease slot => Sys2Proof.Machine.execSlotPerstRelease slot s
  | .slotLinkUp slot width rate lbas usable => Sys2Proof.Machine.execSlotLinkUp slot width rate lbas usable s
  | .slotFault slot => Sys2Proof.Machine.execSlotFault slot s
  | .slotRetryTimer slot => Sys2Proof.Machine.execSlotRetryTimer slot s
  | .railDroopAssert => Sys2Proof.Machine.execRailDroopAssert s
  | .railDroopClear => Sys2Proof.Machine.execRailDroopClear s
  | .droopResume => Sys2Proof.Machine.execDroopResume s
  | .droopLong => Sys2Proof.Machine.execDroopLong s
  | .jlPartnerDetect jl => Sys2Proof.Machine.execJlPartnerDetect jl s
  | .jlEqualizeDone jl lanes => Sys2Proof.Machine.execJlEqualizeDone jl lanes s
  | .jlAlignDone jl => Sys2Proof.Machine.execJlAlignDone jl s
  | .jlParamReceive jl p => Sys2Proof.Machine.execJlParamReceive jl p s
  | .jlDownRetry jl => Sys2Proof.Machine.execJlDownRetry jl s
  | .flitReceive jl f => Sys2Proof.Machine.execFlitReceive jl f s
  | .flitBuild jl => Sys2Proof.Machine.execFlitBuild jl s
  | .replayRequestReceive jl fromSeq => Sys2Proof.Machine.execReplayRequestReceive jl fromSeq s
  | .replayTimeout jl => Sys2Proof.Machine.execReplayTimeout jl s
  | .creditMessage jl credits => Sys2Proof.Machine.execCreditMessage jl credits s
  | .rekeyMessage jl fromSeq => Sys2Proof.Machine.execRekeyMessage jl fromSeq s
  | .retrainDone jl lanes => Sys2Proof.Machine.execRetrainDone jl lanes s
  | .retrainTimeout jl => Sys2Proof.Machine.execRetrainTimeout jl s
  | .escapeWaitTimeout jl idx => Sys2Proof.Machine.execEscapeWaitTimeout jl idx s
  | .bypassDropTimeout jl idx => Sys2Proof.Machine.execBypassDropTimeout jl idx s
  | .escapeHoldTimeout idx => Sys2Proof.Machine.execEscapeHoldTimeout idx s
  | .meterRelease jl idx => Sys2Proof.Machine.execMeterRelease jl idx s
  | .timerefPpsEdge dt => Sys2Proof.Machine.execTimerefPpsEdge dt s
  | .ppsEdgeMissed => Sys2Proof.Machine.execPpsEdgeMissed s
  | .timeref10mLoss => Sys2Proof.Machine.execTimeref10mLoss s
  | .bmcTimeCount count => Sys2Proof.Machine.execBmcTimeCount count s
  | .timeMsgSend => Sys2Proof.Machine.execTimeMsgSend s
  | .timeMsgReceive jl m => Sys2Proof.Machine.execTimeMsgReceive jl m s
  | .acquireLockTimer => Sys2Proof.Machine.execAcquireLockTimer s
  | .lockOffsetTimer => Sys2Proof.Machine.execLockOffsetTimer s
  | .holdoverExpiry => Sys2Proof.Machine.execHoldoverExpiry s
  | .planResume => Sys2Proof.Machine.execPlanResume s
  | .eventInstant instant => Sys2Proof.Machine.execEventInstant instant s
  | .roleSwapDone pair => Sys2Proof.Machine.execRoleSwapDone pair s
  | .handoverDirCopyDone => Sys2Proof.Machine.execHandoverDirCopyDone s
  | .handoverDrainStart => Sys2Proof.Machine.execHandoverDrainStart s
  | .handoverLedgerClose => Sys2Proof.Machine.execHandoverLedgerClose s
  | .handoverSwitch => Sys2Proof.Machine.execHandoverSwitch s
  | .handoverReopen => Sys2Proof.Machine.execHandoverReopen s
  | .powerEstimateTick raw => Sys2Proof.Machine.execPowerEstimateTick raw s
  | .calibrationTick => Sys2Proof.Machine.execCalibrationTick s
  | .regulatorPoll answers => Sys2Proof.Machine.execRegulatorPoll answers s
  | .fastPowerLimit => Sys2Proof.Machine.execFastPowerLimit s
  | .fastLimitRelease => Sys2Proof.Machine.execFastLimitRelease s
  | .junctionTrip av => Sys2Proof.Machine.execJunctionTrip av s
  | .junctionTripRelease av => Sys2Proof.Machine.execJunctionTripRelease av s
  | .thermalStep tj => Sys2Proof.Machine.execThermalStep tj s
  | .neighbourLimit av other volt temp => Sys2Proof.Machine.execNeighbourLimit av other volt temp s
  | .neighbourDrain av other inLimits => Sys2Proof.Machine.execNeighbourDrain av other inLimits s
  | .tavgSample av tj => Sys2Proof.Machine.execTavgSample av tj s
  | .tschedHourly => Sys2Proof.Machine.execTschedHourly s
  | .hintPrewake job => Sys2Proof.Machine.execHintPrewake job s
  | .prewakeExpiry ring => Sys2Proof.Machine.execPrewakeExpiry ring s
  | .vddDroopStretch av => Sys2Proof.Machine.execVddDroopStretch av s
  | .avenueCheckpoint av => Sys2Proof.Machine.execAvenueCheckpoint av s
  | .coreCheckpoint pair => Sys2Proof.Machine.execCoreCheckpoint pair s
  | .standbySelfTest pair passed => Sys2Proof.Machine.execStandbySelfTest pair passed s
  | .coreWatchdog pair => Sys2Proof.Machine.execCoreWatchdog pair s
  | .avenueFailed av => Sys2Proof.Machine.execAvenueFailed av s
  | .spareConnect share => Sys2Proof.Machine.execSpareConnect share s
  | .spareLoadDone share => Sys2Proof.Machine.execSpareLoadDone share s
  | .shareReopen share => Sys2Proof.Machine.execShareReopen share s
  | .refreshKeeperTakeover share => Sys2Proof.Machine.execRefreshKeeperTakeover share s
  | .selfTestLapStart av => Sys2Proof.Machine.execSelfTestLapStart av s
  | .selfTestSegmentDone av segment passed last => Sys2Proof.Machine.execSelfTestSegmentDone av segment passed last s
  | .spdmGetVersion t => Sys2Proof.Machine.execSpdmGetVersion t s
  | .spdmGetCapabilities t => Sys2Proof.Machine.execSpdmGetCapabilities t s
  | .spdmNegotiateAlgorithms t offered => Sys2Proof.Machine.execSpdmNegotiateAlgorithms t offered s
  | .spdmGetDigests t => Sys2Proof.Machine.execSpdmGetDigests t s
  | .spdmGetCertificate t slot offset length => Sys2Proof.Machine.execSpdmGetCertificate t slot offset length s
  | .spdmChallenge t slot nonce => Sys2Proof.Machine.execSpdmChallenge t slot nonce s
  | .spdmGetMeasurements t op nonce sign => Sys2Proof.Machine.execSpdmGetMeasurements t op nonce sign s
  | .spdmKeyExchange t share => Sys2Proof.Machine.execSpdmKeyExchange t share s
  | .spdmFinish t session ok => Sys2Proof.Machine.execSpdmFinish t session ok s
  | .spdmHeartbeat t session => Sys2Proof.Machine.execSpdmHeartbeat t session s
  | .spdmKeyUpdate t session => Sys2Proof.Machine.execSpdmKeyUpdate t session s
  | .spdmEndSession t session => Sys2Proof.Machine.execSpdmEndSession t session s
  | .spdmHeartbeatTimeout session => Sys2Proof.Machine.execSpdmHeartbeatTimeout session s
  | .ideKmMessage port session stream op key => Sys2Proof.Machine.execIdeKmMessage port session stream op key s
  | .tdispMessage port session fn op => Sys2Proof.Machine.execTdispMessage port session fn op s
  | .entropyFail => Sys2Proof.Machine.execEntropyFail s
  | .mctpControl cmd arg => Sys2Proof.Machine.execMctpControl cmd arg s
  | .pldmBase cmd => Sys2Proof.Machine.execPldmBase cmd s
  | .pldmMonitor sensor => Sys2Proof.Machine.execPldmMonitor sensor s
  | .pldmFwUpdate b => Sys2Proof.Machine.execPldmFwUpdate b s
  | .prgResponse dma code => Sys2Proof.Machine.execPrgResponse dma code s
  | .priTimeout dma => Sys2Proof.Machine.execPriTimeout dma s
  | .atsInvalidate port fn page => Sys2Proof.Machine.execAtsInvalidate port fn page s
  | .chipResetAssert => Sys2Proof.Machine.execChipResetAssert s
  | .chipResetRelease scaOk scbOk => Sys2Proof.Machine.execChipResetRelease scaOk scbOk s
  | .sysClkLoss => Sys2Proof.Machine.execSysClkLoss s
  | .jlRefclkLoss q => Sys2Proof.Machine.execJlRefclkLoss q s
  | .islandStart store => Sys2Proof.Machine.execIslandStart store s
  | .islandBrownOut => Sys2Proof.Machine.execIslandBrownOut s
  | .tapUpdate s0 s1 => Sys2Proof.Machine.execTapUpdate s0 s1 s
  | .meteringPeriodEnd => Sys2Proof.Machine.execMeteringPeriodEnd s
  | .activityFrameSend => Sys2Proof.Machine.execActivityFrameSend s
  | .activityFrameReceive f => Sys2Proof.Machine.execActivityFrameReceive f s
  | .pipeLost => Sys2Proof.Machine.execPipeLost s
  | .tamperChange asserted => Sys2Proof.Machine.execTamperChange asserted s
  | .crystalFault => Sys2Proof.Machine.execCrystalFault s
  | .otpProgram data progEn => Sys2Proof.Machine.execOtpProgram data progEn s
  | .historySelect sel => Sys2Proof.Machine.execHistorySelect sel s
  | .atsTranslationCompletion dma granted => Sys2Proof.Machine.execAtsTranslationCompletion dma granted s
  | .hostDmaPageDone dma data => Sys2Proof.Machine.execHostDmaPageDone dma data s
  | .nvmeControllerReady slot => Sys2Proof.Machine.execNvmeControllerReady slot s
  | .ssdLinkDown slot => Sys2Proof.Machine.execSsdLinkDown slot s
  | .offEngineTest av eng done passed => Sys2Proof.Machine.execOffEngineTest av eng done passed s
  | .postponedRoleSwap pair => Sys2Proof.Machine.execPostponedRoleSwap pair s
  | .channelRestoreDone ch ok => Sys2Proof.Machine.execChannelRestoreDone ch ok s
  | .mtrRstNAssert => Sys2Proof.Machine.execMtrRstNAssert s

end Sys2Proof.Machine
end

