-- ==== Sys2Proof/Machine/Step.lean ====
section
/-! DEFINITION. One step: the command at the front of the queue; on an empty queue a nanosecond passes. -/

namespace Sys2Proof.Machine

open Sys2Proof

/-- A nanosecond of an idle block: the local clock and Fabric Time advance (R36). (DESIGN CHOICE, log entry 3.) -/
def State.idle (s : State) : State :=
  { s with clock := s.clock + 1, time := { s.time with ft := s.time.ft + 1 } }

/-- One step: exec on the command at the front of the queue and the state with the queue's rest. (DESIGN CHOICE, log entries 1, 3, 76.) -/
def step (s : State) : Host.Outcome State Fault Refusal :=
  match s.pending with
  | [] => .next s.idle
  | c :: rest => exec c { s with pending := rest }

/-- The state with the command that a word spells put at the front of the queue. (DEDUCED, log entry 5.) -/
def State.withFetchWord (s : State) (nbits w : Nat) : State :=
  match decodeTableWord nbits w with
  | none => s
  | some c => { s with pending := c :: s.pending }

end Sys2Proof.Machine
end

