-- ==== Sys2Proof/WellFormed.lean ====
section
/-! DEFINITION. Well-formed commands: every operand fits the field in which the spec carries it. The meanings are total and do not
depend on it. -/

namespace Sys2Proof

/-- Does a value fit a field of n bits? -/
def fits (v n : Nat) : Bool := decide (v < 2 ^ n)

/-- The fields of R388. -/
def Desc.wf (d : Desc) : Bool :=
  fits d.opcode 8 && fits d.ifv 8 && fits d.district 10 && fits d.cmdId 32 && fits d.buf 64 &&
    [d.p0, d.p1, d.p2, d.p3, d.p4, d.p5].all (fun p => fits p 64)

/-- A ring number of 16 bits (R386) and the descriptor. -/
def Cmd.wf (c : Cmd) : Bool := fits c.ring 16 && c.d.wf

/-- The fields of R70 and R73; a gather has at most 16 elements (R88). -/
def Req.wf (r : Req) : Bool :=
  fits r.src 16 && fits r.tag 16 && fits r.window 16 && fits r.flow 12 && fits r.cells 4 && fits r.gcount 4 &&
    fits r.offset 48 && fits r.length 16 && fits r.size 8 && decide (r.elems.length ≤ 16)

/-- The fields of R70 and R105. -/
def Rsp.wf (m : Rsp) : Bool :=
  fits m.src 16 && fits m.tag 16 && fits m.district 10 && fits m.line 48 && fits m.rflags 8

/-- The fields of R70; four classes and Bypass, nine VCs. -/
def Msg.wf (m : Msg) : Bool :=
  decide (m.cls < 5) && decide (m.vc < 9) && fits m.dst 16 && fits m.src 16 && fits m.flow 12 && fits m.cells 4 && fits m.op 8 &&
    fits m.tag 16

/-- The fields of R338. -/
def ParamBlock.wf (p : ParamBlock) : Bool :=
  fits p.node 16 && fits p.port 4 && fits p.revLo 8 && fits p.revHi 8 && fits p.lanes 4 && p.credits.length == 9 &&
    p.credits.all (fun c => fits c 16) && fits p.encCtr 64

/-- The fields of R342, and messages that the cells of one flit can hold (R343). -/
def FlitIn.wf (f : FlitIn) : Bool :=
  fits f.seq 12 && fits f.ack 12 && fits f.crVc 4 && decide (f.crCnt ≤ 14) && f.msgs.all Msg.wf &&
    decide ((f.msgs.map (·.cells)).sum ≤ 15)

/-- The fields of R42. -/
def TimeMsg.wf (m : TimeMsg) : Bool :=
  fits m.seq 16 && fits m.domain 16 && fits m.hops 8 && fits m.state 8 && fits m.txFt 64 && fits m.echoTx 64 && fits m.echoRx 64

/-- An activity frame has entries of Districts 0 to 1,023 (R498). -/
def Frame.wf (f : Frame) : Bool :=
  fits f.seq 32 && fits f.ft 64 && f.entries.all (fun e => fits e.1 10)

/-- Is a command well formed? -/
def Instr.wf : Instr → Bool
  | .registerWrite _ fn off size _ => fits fn 8 && fits off 24 && decide (size ≤ 8)
  | .pairValueWrite _ off _ => fits off 24
  | .pairComplementWrite _ off _ => fits off 24
  | .pairGuardTimeout _ => true
  | .hashLock _ _ => true
  | .dmapLock _ _ => true
  | .tokenClaim _ => true
  | .tokenRelease _ => true
  | .tokenForce _ => true
  | .configCrcUpdate => true
  | .avConfigApply _ => true
  | .dcArbCommit _ _ _ => true
  | .rtCommit _ _ => true
  | .hwmClr _ _ => true
  | .nodeIdWrite _ _ => true
  | .ringEnable _ fn k _ => fits fn 8 && decide (k < 4)
  | .ringDrain _ fn k _ => fits fn 8 && decide (k < 4)
  | .ringDrained ring => fits ring 16
  | .noticeRingEnable _ fn _ => fits fn 8
  | .jlPortEnable _ _ _ => true
  | .jlRetrainRequest _ _ _ => true
  | .flipArm _ _ _ => true
  | .zeroiseArm _ _ => true
  | .zeroiseArmExpiry => true
  | .bootGo _ _ => true
  | .bootLoadDone _ => true
  | .fwStartDone _ => true
  | .commandTailDoorbell _ fn r size _ => fits fn 8 && fits r 6 && decide (size ≤ 8)
  | .completionHeadDoorbell _ fn r size _ => fits fn 8 && fits r 6 && decide (size ≤ 8)
  | .noticeHeadDoorbell _ fn size _ => fits fn 8 && decide (size ≤ 8)
  | .noticeClaimRead _ fn => fits fn 8
  | .noticeCompletionWrite _ fn size _ => fits fn 8 && decide (size ≤ 8)
  | .shadowTailSweep ring _ => fits ring 16
  | .descriptorFetch ring read => fits ring 16 && read.all Desc.wf
  | .retentionExpire issuer cmdId => fits issuer 16 && fits cmdId 32
  | .functionLevelReset _ fn => fits fn 8
  | .hostPerst _ => true
  | .hostLinkDown _ => true
  | .districtCreate c => c.wf
  | .districtErase c => c.wf
  | .districtEraseProceed district => fits district 10
  | .districtQuery c => c.wf
  | .windowMap c => c.wf
  | .translationDrainDone ring cmdId => fits ring 16 && fits cmdId 32
  | .directorySearchDone ring cmdId => fits ring 16 && fits cmdId 32
  | .memMap c => c.wf
  | .memUnmap c => c.wf
  | .districtStrength c => c.wf
  | .strengthPageDone district => fits district 10
  | .districtLimits c => c.wf
  | .windowQuery c => c.wf
  | .accRingCreate c => c.wf
  | .accRingDestroy c => c.wf
  | .districtReown c => c.wf
  | .milestoneCut c => c.wf
  | .milestoneOpen c => c.wf
  | .milestoneClose c => c.wf
  | .milestoneRelease c => c.wf
  | .milestoneRenumber c => c.wf
  | .renumberDone district => fits district 10
  | .milestoneQuery c => c.wf
  | .crossingCreate c => c.wf
  | .crossingDestroy c => c.wf
  | .crossingReset c => c.wf
  | .crossingQuery c => c.wf
  | .opFill c => c.wf
  | .opCopy c => c.wf
  | .opCompare c => c.wf
  | .opReduce c => c.wf
  | .opGather c => c.wf
  | .opScatter c => c.wf
  | .opHostCopy c => c.wf
  | .opGemv c => c.wf
  | .opAttend c => c.wf
  | .opKvAppend c => c.wf
  | .opQuant c => c.wf
  | .opDequant c => c.wf
  | .jobAbort c => c.wf
  | .tierPromote c => c.wf
  | .tierDemote c => c.wf
  | .tierPin c => c.wf
  | .flashGroupCreate c => c.wf
  | .flashGroupDestroy c => c.wf
  | .slotPower c => c.wf
  | .ssdReplace c => c.wf
  | .tierQuery c => c.wf
  | .avenueRetire c => c.wf
  | .avenueAdmit c => c.wf
  | .memRetire c => c.wf
  | .errlogRead c => c.wf
  | .nodeUnfence c => c.wf
  | .roleSwap c => c.wf
  | .healthRead c => c.wf
  | .fwStage c => c.wf
  | .fwRoll c => c.wf
  | .rollSpareReady _ => true
  | .planLoad c => c.wf
  | .planActivate c => c.wf
  | .planDiscard c => c.wf
  | .timeSet c => c.wf
  | .timeSetTimeout => true
  | .eventSchedule c => c.wf
  | .eventCancel c => c.wf
  | .powerCap c => c.wf
  | .powerProfile c => c.wf
  | .powerQuery c => c.wf
  | .energyRead c => c.wf
  | .keyInstall c => c.wf
  | .keyZeroise c => c.wf
  | .spdmRelay c => c.wf
  | .modelLoad c => c.wf
  | .linkKeyStage c => c.wf
  | .bounceSet c => c.wf
  | .survey c => c.wf
  | .nop c => c.wf
  | .readShared _ r => r.wf
  | .readOwn _ r => r.wf
  | .readOnce _ r => r.wf
  | .readGather _ r => r.wf
  | .writeLine _ r => r.wf
  | .writeBack _ r => r.wf
  | .writebackTrackerGrant _ => true
  | .atomicAdd _ r => r.wf
  | .atomicAnd _ r => r.wf
  | .atomicOr _ r => r.wf
  | .atomicXor _ r => r.wf
  | .atomicSmax _ r => r.wf
  | .atomicSmin _ r => r.wf
  | .atomicUmax _ r => r.wf
  | .atomicUmin _ r => r.wf
  | .atomicSwap _ r => r.wf
  | .atomicCas _ r => r.wf
  | .atomicAnyNear _ atop r => fits atop 8 && r.wf
  | .crRead _ _ r => r.wf
  | .semRelease _ _ r => r.wf
  | .semAcquire _ _ r => r.wf
  | .semWait _ _ r => r.wf
  | .jctArrive _ _ r => r.wf
  | .jctWait _ _ r => r.wf
  | .flagSet _ _ r => r.wf
  | .flagOr _ _ r => r.wf
  | .flagClear _ _ r => r.wf
  | .flagWait _ _ r => r.wf
  | .tktTake _ _ r => r.wf
  | .tktRelease _ _ r => r.wf
  | .tktWait _ _ r => r.wf
  | .crUnwait _ _ r => r.wf
  | .registrationExpired crossing node cookie => fits crossing 15 && fits node 16 && fits cookie 16
  | .recallAck _ m => m.wf
  | .recallData _ m => m.wf
  | .recallTimeout line node => fits line 47 && fits node 16
  | .recallallTimeout _ district node => fits district 10 && fits node 16
  | .wbwTimeout line node => fits line 47 && fits node 16
  | .earlyDecision _ src tag _ => fits src 16 && fits tag 16
  | .earlyDeadline _ src tag => fits src 16 && fits tag 16
  | .mirrorConfirm line => fits line 47
  | .snoopLapDone line => fits line 47
  | .predictorDecay _ => true
  | .unexpectedMessage _ byte0 src cells vc => fits byte0 8 && fits src 16 && fits cells 4 && decide (vc < 9)
  | .messageForward _ m => m.wf
  | .requestHeldTimeout _ src tag => fits src 16 && fits tag 16
  | .cowSweepDone district slot => fits district 10 && decide (slot < 8)
  | .cowChunksDone district page => fits district 10 && fits page 36
  | .cowMapInvalidated district page => fits district 10 && fits page 36
  | .cowCopyRestart district page => fits district 10 && fits page 36
  | .copyPageReturn district slot => fits district 10 && decide (slot < 8)
  | .copyDemote district => fits district 10
  | .copySpaceFreed district => fits district 10
  | .schedulerPass => true
  | .engineWakeDone _ _ => true
  | .activationLoadDone _ => true
  | .engineReadData _ _ => true
  | .rowGroupDone _ _ _ => true
  | .partialSumArrive _ _ => true
  | .jobCommitStart _ _ => true
  | .jobCommitDone _ => true
  | .engineScrubDone _ _ => true
  | .engineCheckFail _ _ => true
  | .ageingCheck _ _ _ => true
  | .dramTrainingDone _ => true
  | .memInitStart => true
  | .memInitDone => true
  | .depotBuildDone => true
  | .refsbDue _ rank sc bank _ => fits rank 4 && fits sc 1 && decide (bank < 32)
  | .rfmIssue _ rank sc bank => fits rank 4 && fits sc 1 && decide (bank < 32)
  | .dimmTempPoll _ _ => true
  | .writeAgeDrain _ => true
  | .roadworksWindowOpen _ => true
  | .roadworksPauseEnd _ _ => true
  | .arbCreditPeriod _ => true
  | .arbGrantEnd _ => true
  | .dramReadDone line bad => fits line 47 && decide (bad ≤ 11)
  | .pageQuiesced frame => fits frame 40
  | .reconstructDone frame _ _ _ => fits frame 40
  | .parityDelta frame par line => fits frame 40 && decide (par < 64) && fits line 47
  | .parityRmwDone frame par _ => fits frame 40 && decide (par < 64)
  | .parityReencode frame par _ => fits frame 40 && decide (par < 64)
  | .scrubLine _ line bad => fits line 47 && decide (bad ≤ 11)
  | .scrubLapWarn _ => true
  | .channelFailed _ => true
  | .evacSliceDone _ => true
  | .nvmeReadDone _ cid _ => fits cid 16
  | .fillDone district page => fits district 10 && fits page 36
  | .demotionStart district => fits district 10
  | .nvmeWriteDone _ cid => fits cid 16
  | .nvmeCmdTimeout _ cid => fits cid 16
  | .nvmeAbortTimeout _ cid => fits cid 16
  | .nvmeResetTimeout _ => true
  | .nvmeErrorCompletion _ cid _ => fits cid 16
  | .ssdRebuildStep group => fits group 4
  | .slotPresenceChange _ _ => true
  | .slotInrushTurn => true
  | .slotPgAssert _ => true
  | .slotInrushTimeout _ => true
  | .slotPerstRelease _ => true
  | .slotLinkUp _ width rate _ _ => fits width 5 && fits rate 3
  | .slotFault _ => true
  | .slotRetryTimer _ => true
  | .railDroopAssert => true
  | .railDroopClear => true
  | .droopResume => true
  | .droopLong => true
  | .jlPartnerDetect _ => true
  | .jlEqualizeDone _ lanes => fits lanes 4
  | .jlAlignDone _ => true
  | .jlParamReceive _ p => p.wf
  | .jlDownRetry _ => true
  | .flitReceive _ f => f.wf
  | .flitBuild _ => true
  | .replayRequestReceive _ fromSeq => fits fromSeq 12
  | .replayTimeout _ => true
  | .creditMessage _ credits => credits.all (fun e => decide (e.1 < 9) && decide (e.2 < 65536))
  | .rekeyMessage _ fromSeq => fits fromSeq 12
  | .retrainDone _ lanes => fits lanes 4
  | .retrainTimeout _ => true
  | .escapeWaitTimeout _ _ => true
  | .bypassDropTimeout _ _ => true
  | .escapeHoldTimeout _ => true
  | .meterRelease _ _ => true
  | .timerefPpsEdge _ => true
  | .ppsEdgeMissed => true
  | .timeref10mLoss => true
  | .bmcTimeCount count => fits count 32
  | .timeMsgSend => true
  | .timeMsgReceive _ m => m.wf
  | .acquireLockTimer => true
  | .lockOffsetTimer => true
  | .holdoverExpiry => true
  | .planResume => true
  | .eventInstant instant => fits instant 64
  | .roleSwapDone _ => true
  | .handoverDirCopyDone => true
  | .handoverDrainStart => true
  | .handoverLedgerClose => true
  | .handoverSwitch => true
  | .handoverReopen => true
  | .powerEstimateTick _ => true
  | .calibrationTick => true
  | .regulatorPoll _ => true
  | .fastPowerLimit => true
  | .fastLimitRelease => true
  | .junctionTrip _ => true
  | .junctionTripRelease _ => true
  | .thermalStep _ => true
  | .neighbourLimit _ _ _ _ => true
  | .neighbourDrain _ _ _ => true
  | .tavgSample _ _ => true
  | .tschedHourly => true
  | .hintPrewake _ => true
  | .prewakeExpiry ring => fits ring 16
  | .vddDroopStretch _ => true
  | .avenueCheckpoint _ => true
  | .coreCheckpoint _ => true
  | .standbySelfTest _ _ => true
  | .coreWatchdog _ => true
  | .avenueFailed _ => true
  | .spareConnect _ => true
  | .spareLoadDone _ => true
  | .shareReopen _ => true
  | .refreshKeeperTakeover _ => true
  | .selfTestLapStart _ => true
  | .selfTestSegmentDone _ segment _ _ => fits segment 8
  | .spdmGetVersion _ => true
  | .spdmGetCapabilities _ => true
  | .spdmNegotiateAlgorithms _ _ => true
  | .spdmGetDigests _ => true
  | .spdmGetCertificate _ slot offset length => fits slot 4 && fits offset 16 && fits length 16
  | .spdmChallenge _ slot nonce => fits slot 4 && fits nonce 256
  | .spdmGetMeasurements _ op nonce _ => fits op 8 && fits nonce 256
  | .spdmKeyExchange _ _ => true
  | .spdmFinish _ session _ => fits session 32
  | .spdmHeartbeat _ session => fits session 32
  | .spdmKeyUpdate _ session => fits session 32
  | .spdmEndSession _ session => fits session 32
  | .spdmHeartbeatTimeout session => fits session 32
  | .ideKmMessage _ session stream op _ => fits session 32 && fits stream 8 && fits op 8
  | .tdispMessage _ session fn op => fits session 32 && fits fn 8 && fits op 8
  | .entropyFail => true
  | .mctpControl cmd arg => fits cmd 8 && fits arg 8
  | .pldmBase cmd => fits cmd 8
  | .pldmMonitor _ => true
  | .pldmFwUpdate _ => true
  | .prgResponse _ code => fits code 4
  | .priTimeout _ => true
  | .atsInvalidate _ fn page => fits fn 8 && fits page 36
  | .chipResetAssert => true
  | .chipResetRelease _ _ => true
  | .sysClkLoss => true
  | .jlRefclkLoss _ => true
  | .islandStart _ => true
  | .islandBrownOut => true
  | .tapUpdate _ _ => true
  | .meteringPeriodEnd => true
  | .activityFrameSend => true
  | .activityFrameReceive f => f.wf
  | .pipeLost => true
  | .tamperChange _ => true
  | .crystalFault => true
  | .otpProgram data _ => decide (data.length = 64)
  | .historySelect sel => fits sel 32
  | .atsTranslationCompletion _ _ => true
  | .hostDmaPageDone _ data => decide (data.length ≤ 4096)
  | .nvmeControllerReady _ => true
  | .ssdLinkDown _ => true
  | .offEngineTest _ _ _ _ => true
  | .postponedRoleSwap _ => true
  | .channelRestoreDone _ _ => true
  | .mtrRstNAssert => true

end Sys2Proof
end

