-- ==== Sys2Proof/Certificates/Slice0/Obligations.lean ====
section
/-! DEFINITION. What is claimed of the model: each obligation states rules of the spec, or what follows from them. -/

namespace Sys2Proof.Claims

open Sys2Proof Sys2Proof.Machine

/-! ### What statements are made of -/

/-- A command answers a next state of which something holds. -/
abbrev Runs (c : Instr) (s : State) (P : State → Prop) : Prop := ∃ t, exec c s = .next t ∧ P t

/-- A ring whose records can be written: it runs, the outputs are not mute, and a host ring's link is up (R397, R408, R504). -/
def RingUp (s : State) (ring : Nat) : Prop :=
  (s.ring ring).st = .running ∧ s.mute = false ∧ ((s.ring ring).acc.isNone = true → s.host.hostDown.contains (ringFn ring / 256) = false)

/-- A command at hand that nothing holds back: no replay and no duplicate (R292, R403), no earlier command in its way (R394), and steps 2 to 4
of R393 pass, the command's own checks aside; its ring can take its record, and no copy of it waits. -/
def Starts (s : State) (c : Cmd) (k : Kind) : Prop :=
  RingUp s c.ring ∧ (s.ring c.ring).acc.isSome = isAccRing c.ring ∧ (s.pick c).copiesOf c = [] ∧ (s.pick c).recordLost c = false ∧ (s.pick c).retainedOf c = none ∧ (s.pick c).sameRunning c = none ∧
    (s.pick c).mustWait c = false ∧ (s.pick c).refusal c k none = none

/-- The state in which a command has started. -/
def started (s : State) (c : Cmd) : State := (s.pick c).launch c

/-- A command's completion record has been sent, with a status, a detail and result bytes (R395). -/
def Ends (t : State) (c : Cmd) (status detail result : Nat) : Prop :=
  ∃ slot phase r, Out.record c.ring slot phase r ∈ t.out ∧ r.cmdId = c.d.cmdId ∧ r.status = status ∧ r.detail = detail ∧ r.result = result

/-- A command has started, and its ring holds it until it completes (R394). -/
def Running (t : State) (c : Cmd) : Prop := c ∈ (t.ring c.ring).running

/-- A DMA has begun for a command: the translation of its first host page is asked for (R94, R95). -/
def DmaBegun (t : State) (c : Cmd) (toHost : Bool) (len : Nat) : Prop :=
  ∃ k d, t.host.dmas.get k = some d ∧ d.cmd = c ∧ d.toHost = toHost ∧ d.addr = c.d.buf ∧ d.len = len ∧ d.done = 0 ∧
    Out.atsRequest d.fn (c.d.buf / 4096) ∈ t.out

/-! ### Set-up registers -/

/-- A PF write finds its port free: the die is up, firmware runs, no guard is open on the port and no lower word is held for the block (R7,
R424, R536). -/
def PortFree (s : State) (port : HPort) (off : Nat) : Prop :=
  s.mute = false ∧ s.boot.fwReady = true ∧ s.regs.guards.get port = none ∧ s.regs.held.get (heldKey (port.val * 256) (off / 0x10000)) = none

/-- An offset whose register has no rule of its own beyond its fields: none of the boot, token, ring, notice, lock, node and time-source
registers, and none in the JL, AV and DC blocks. -/
def Plain (off : Nat) : Prop :=
  off % 4 = 0 ∧ ¬(0x40 ≤ off ∧ off < 0x50) ∧ ¬(0x20000 ≤ off ∧ off < 0x22010) ∧ ¬(0x30000 ≤ off ∧ off < 0x3001C) ∧
    ¬(0x80000 ≤ off ∧ off < 0x140000) ∧ ¬(0x200000 ≤ off ∧ off < 0x600000) ∧
    off ∉ [0x10000, 0x10010, 0x10018, 0x10118, 0x1013C, 0x40010, 0x140000, 0x14000C, 0x700004] ∧ companionOf off = false

end Sys2Proof.Claims

open Sys2Proof Sys2Proof.Machine Sys2Proof.Claims

/-- R5, R6, R406, R422, R423, R569: a 4-byte write by the token's holder to a register with neither a PAIR nor an SH field, whose fields are
all in range, gives the register the value that its access classes say, and every other register keeps its value; a write to a register with
an SH field changes its pending value only; without the control token a PF's write outside `CFG_TOKEN`, its rings and its notice ring
changes no register. -/
def Obligations.RegisterWrites : Prop :=
  (∀ (s : State) (port : HPort) (fn off : Nat) (val : Word) (r : RegD),
     PortFree s port off → fn % 256 = 0 → s.host.token = some port.val → Plain off → regAt off = some r →
     r.paired = false → r.shadowed = false → r.rangeOk val = true → r.relOk val = true → s.frozen off val = false →
     Runs (.registerWrite port fn off 4 val) s fun t =>
       t.regs.val off = r.apply (s.regs.val off) val ∧ (∀ o, o ≠ off → t.regs.val o = s.regs.val o) ∧
       t.regs.shadow = s.regs.shadow ∧ t.regs.cnt = s.regs.cnt ∧ t = { s with regs := t.regs }) ∧
  (∀ (s : State) (port : HPort) (fn off : Nat) (val : Word) (r : RegD),
     PortFree s port off → fn % 256 = 0 → s.host.token = some port.val → off % 4 = 0 → ¬(0x40 ≤ off ∧ off < 0x50) →
     ¬(0x20000 ≤ off ∧ off < 0x22010) → ¬(0x30000 ≤ off ∧ off < 0x3001C) → off ≠ 0x10000 → companionOf off = false →
     regAt off = some r → r.paired = false → r.shadowed = true →
     Runs (.registerWrite port fn off 4 val) s fun t =>
       t.regs.pendingVal off = r.apply (s.regs.pendingVal off) val ∧ (∀ o, o ≠ off → t.regs.pendingVal o = s.regs.pendingVal o) ∧
       t.regs.act = s.regs.act ∧ t = { s with regs := t.regs }) ∧
  (∀ (s : State) (port : HPort) (fn off : Nat) (val : Word),
     PortFree s port off → fn % 256 = 0 → s.host.token ≠ some port.val → off ≠ 0x10000 → ¬(0x40 ≤ off ∧ off < 0x50) →
     ¬(0x20000 ≤ off ∧ off < 0x22010) → ¬(0x30000 ≤ off ∧ off < 0x3001C) →
     Runs (.registerWrite port fn off 4 val) s fun t => t.regs = s.regs ∧ t.host.token = s.host.token)

/-- R7: a write of a PAIR register opens the port's guard and changes no register; the complement within 10 µs completes the write; when 10
µs pass the guard fails. Rests on log entry 10. -/
def Obligations.PairGuard : Prop :=
  (∀ (s : State) (port : HPort) (off : Nat) (val : Word) (r : RegD),
    PortFree s port off → s.host.token = some port.val → Plain off → regAt off = some r → r.paired = true →
    Runs (.pairValueWrite port off val) s fun t =>
      t.regs.guards.get port = some ⟨off, val, s.clock⟩ ∧ t.regs.act = s.regs.act ∧ t = { s with regs := t.regs }) ∧
  (∀ (s : State) (port : HPort) (off : Nat) (val : Word) (r : RegD) (g : Guard),
    s.mute = false → s.boot.fwReady = true → s.regs.held.get (heldKey (port.val * 256) ((off + 0x1000) / 0x10000)) = none →
    s.regs.guards.get port = some g → g.off = off → g.val = val → s.clock ≤ g.opened + 10000 →
    Plain off → regAt off = some r → r.shadowed = false → r.rangeOk val = true → r.relOk val = true →
    ({ s with regs := { s.regs with guards := s.regs.guards.del port } } : State).frozen off val = false →
    Runs (.pairComplementWrite port (off + 0x1000) (~~~ val)) s fun t =>
      t.regs.val off = r.apply (s.regs.val off) val ∧ (∀ o, o ≠ off → t.regs.val o = s.regs.val o) ∧
      t.regs.guards = s.regs.guards.del port ∧ t = { s with regs := t.regs }) ∧
  (∀ (s : State) (port : HPort) (g : Guard), s.regs.guards.get port = some g →
    Runs (.pairGuardTimeout port) s fun t =>
      t.regs.guards = s.regs.guards.del port ∧ t.regs.act = s.regs.act ∧ g.opened + 10000 ≤ t.clock ∧ t.maps = s.maps ∧ t.mem = s.mem)
namespace Sys2Proof.Claims

open Sys2Proof Sys2Proof.Machine

/-- Every register but those of a list keeps its active value. -/
def RegsKept (s t : State) (offs : List Nat) : Prop := ∀ o, o ∉ offs → t.regs.val o = s.regs.val o

/-- A commit of a range: what is pending there becomes active, but for what R569 keeps out, and nothing else changes. -/
def Committed (s t : State) (first last : Nat) : Prop :=
  (∀ o v, first ≤ o → o < last → s.regs.shadow.get o = some v → s.regs.keptOut o v = false → t.regs.val o = v) ∧
    (∀ o v, first ≤ o → o < last → s.regs.shadow.get o = some v → s.regs.keptOut o v = true → t.regs.val o = s.regs.val o) ∧
    (∀ o, ¬(first ≤ o ∧ o < last ∧ (s.regs.shadow.get o).isSome) → t.regs.val o = s.regs.val o) ∧
    (∀ o, first ≤ o → o < last → t.regs.shadow.get o = none) ∧
    (∀ o, ¬(first ≤ o ∧ o < last) → t.regs.shadow.get o = s.regs.shadow.get o)

end Sys2Proof.Claims

/-- R406, R422, R464: the control token is claimed when nobody holds it, released by its holder, and forced from its holder, whose guard
breaks and whose arm of the zeroise guard ends. Rests on log entries 10, 14. -/
def Obligations.ControlToken : Prop :=
  (∀ (s : State) (port : HPort), PortFree s port 0x10000 → s.host.token = none →
    Runs (.tokenClaim port) s fun t => t.host.token = some port.val ∧ t.regs = s.regs ∧ t.sec = s.sec) ∧
  (∀ (s : State) (port : HPort) (q : Nat), PortFree s port 0x10000 → s.host.token = some q →
    Runs (.tokenClaim port) s fun t => t.host.token = some q ∧ t.regs = s.regs ∧ t.sec = s.sec) ∧
  (∀ (s : State) (port : HPort), PortFree s port 0x10000 → s.host.token = some port.val →
    Runs (.tokenRelease port) s fun t => t.host.token = none ∧ t.sec.arm = none ∧ t.regs = s.regs) ∧
  (∀ (s : State) (port : HPort), PortFree s port 0x10000 → s.host.token ≠ some port.val →
    Runs (.tokenRelease port) s fun t => t.host.token = s.host.token ∧ t.regs = s.regs) ∧
  (∀ (s : State) (port : HPort) (q : Nat), PortFree s port 0x10000 → s.host.token = some q → q ≠ port.val →
    Runs (.tokenForce port) s fun t => t.host.token = some port.val ∧ t.sec.arm = none ∧ t.regs.guards = s.regs.guards.del q)

/-- R19, R263, R306, R364, R464: `LOCK` is taken once, when the masks meet their conditions, and the masks then stay as they are; the node
ID takes its value while no port is up; a flip mask is armed with its pattern; the zeroise guard is armed for 100 ms. Rests on log entries
6, 10. -/
def Obligations.LocksAndArms : Prop :=
  (∀ (s : State) (port : HPort) (val : Word), PortFree s port 0x10118 → s.host.token = some port.val → s.regs.hashValid = false →
    val.getLsbD 0 = true → s.regs.hashOk = true →
    Runs (.hashLock port val) s fun t => t.regs.hashValid = true ∧ RegsKept s t [0x10118] ∧ t = { s with regs := t.regs }) ∧
  (∀ (s : State) (port : HPort) (val : Word), PortFree s port 0x1013C → s.host.token = some port.val → s.regs.dmapValid = false →
    val.getLsbD 0 = true → s.dmapOk = true →
    Runs (.dmapLock port val) s fun t => t.regs.dmapValid = true ∧ RegsKept s t [0x1013C] ∧ t = { s with regs := t.regs }) ∧
  (∀ (s : State) (port : HPort) (off : Nat) (val : Word) (g : Guard), s.mute = false → s.boot.fwReady = true →
    s.regs.held.get (heldKey (port.val * 256) 1) = none → s.regs.guards.get port = some g → g.off = off → g.val = val →
    s.clock ≤ g.opened + 10000 → s.regs.hashValid = true → off ∈ [0x10100, 0x10104, 0x10108, 0x1010C, 0x10110, 0x10114] →
    Runs (.pairComplementWrite port (off + 0x1000) (~~~ val)) s fun t => RegsKept s t []) ∧
  (∀ (s : State) (port : HPort) (val : Word), PortFree s port 0x140000 → s.host.token = some port.val →
    (∀ n, n < 12 → (s.jl n).st = 0 ∨ (s.jl n).st = 7) →
    Runs (.nodeIdWrite port val) s fun t => t.node = val.toNat % 65536 ∧ RegsKept s t [0x140000]) ∧
  (∀ (s : State) (port : HPort) (ch : Chan) (val : Word), PortFree s port (0x500200 + ch.val * 0x10000) → s.host.token = some port.val →
    val.getLsbD 0 = true → bitsOf val.toNat 15 8 ≠ 0 → bitsOf val.toNat 3 2 ≤ 2 →
    Runs (.flipArm port ch val) s fun t =>
      t.regs.fld (0x500200 + ch.val * 0x10000) 15 8 = bitsOf val.toNat 15 8 ∧ t.regs.fld (0x500200 + ch.val * 0x10000) 0 0 = 1 ∧
        (t.cprot ch.val).fired = 0 ∧ RegsKept s t [0x500200 + ch.val * 0x10000]) ∧
  (∀ (s : State) (port : HPort) (val : Word), PortFree s port 0x700004 → s.host.token = some port.val →
    1 ≤ val.toNat → val.toNat ≤ 65535 →
    Runs (.zeroiseArm port val) s fun t => t.sec.arm = some (val.toNat, s.clock) ∧ RegsKept s t [] ∧ t.host = s.host) ∧
  (∀ (s : State) (v since : Nat), s.sec.arm = some (v, since) →
    Runs .zeroiseArmExpiry s fun t => t.sec = { s.sec with arm := none } ∧ since + 100000000 ≤ t.clock)

/-- R409, R437, R439: enabling a ring whose registers fit starts it with its counts at 0; draining one aborts what has not started; it is
DISABLED when what had started has finished; enabling a VF's notice ring starts it empty and armed. Rests on log entries 14, 22. -/
def Obligations.RingEnables : Prop :=
  (∀ (s : State) (port : HPort) (fn k : Nat) (val : Word) (i : Nat), s.mute = false → s.boot.fwReady = true → s.regs.guards.get port = none →
    s.regs.held.get (heldKey (port.val * 256) 2) = none → fn % 256 = 0 → k < 4 → i < 16 → val = BitVec.ofNat 32 (2 ^ i + 2 ^ (16 + i)) →
    (s.ring (hostRing (port.val * 256) (16 * k + i))).st = .disabled → (s.ring (hostRing (port.val * 256) (16 * k + i))).ready = true →
    Runs (.ringEnable port fn k val) s fun t =>
      t.ring (hostRing (port.val * 256) (16 * k + i)) = { s.ring (hostRing (port.val * 256) (16 * k + i)) with
        st := .running, cause := 0, head := 0, tail := 0, cplTail := 0, cplHead := 0, armed := true } ∧
      ∀ n, n ≠ hostRing (port.val * 256) (16 * k + i) → t.ring n = s.ring n) ∧
  (∀ (s : State) (port : HPort) (fn k : Nat) (val : Word) (i : Nat), s.mute = false → s.boot.fwReady = true → s.regs.guards.get port = none →
    s.regs.held.get (heldKey (port.val * 256) 2) = none → fn % 256 = 0 → k < 4 → i < 16 → val = BitVec.ofNat 32 (2 ^ (16 + i)) →
    (s.ring (hostRing (port.val * 256) (16 * k + i))).st = .running → (s.ring (hostRing (port.val * 256) (16 * k + i))).waiting = [] →
    Runs (.ringDrain port fn k val) s fun t =>
      t.ring (hostRing (port.val * 256) (16 * k + i)) = { s.ring (hostRing (port.val * 256) (16 * k + i)) with st := .draining, cause := 0 } ∧
      ∀ n, n ≠ hostRing (port.val * 256) (16 * k + i) → t.ring n = s.ring n) ∧
  (∀ (s : State) (ring : Nat), (s.ring ring).st = .draining → (s.ring ring).running = [] → (s.ring ring).flr = false →
    Runs (.ringDrained ring) s fun t => (t.ring ring).st = .disabled ∧ (t.ring ring).waiting = [] ∧ ∀ n, n ≠ ring → t.ring n = s.ring n) ∧
  (∀ (s : State) (port : HPort) (fn : Nat) (val : Word), s.mute = false → s.boot.fwReady = true → fn % 256 ≠ 0 →
    s.regs.held.get (heldKey (port.val * 256 + fn % 256) 0x80) = none → (s.host.tdi.get (port.val * 256 + fn % 256)).getD .unlocked = .unlocked →
    4 ≤ bitsOf val.toNat 3 0 → bitsOf val.toNat 3 0 ≤ 12 → bitsOf val.toNat 14 8 ≤ 7 → bitOf val.toNat 16 = true →
    (s.ntc (port.val * 256 + fn % 256)).en = false → (s.ntc (port.val * 256 + fn % 256)).base % (32 * 2 ^ bitsOf val.toNat 3 0) = 0 →
    Runs (.noticeRingEnable port fn val) s fun t =>
      t.ntc (port.val * 256 + fn % 256) = ⟨true, (s.ntc (port.val * 256 + fn % 256)).base, bitsOf val.toNat 14 8, bitsOf val.toNat 3 0,
        0, 0, 0, true, 0, [], []⟩)

/-- R274, R374, R383, R432 to R434, R569: a commit makes what is pending in its block active, register by register, and leaves out what a
range or a relation forbids; `HWM_CLR` sets every high-water mark to the present depth; the running CRC is taken over the covered fields and
compared, and outside a quiet period a mismatch is counted once; covered fields written to an Avenue take effect with the rest of the
register as it stands. Rests on log entries 15, 16, 17. -/
def Obligations.CommitsAndChecks : Prop :=
  (∀ (s : State) (port : HPort) (share : Share) (val : Word), PortFree s port (0x50011C + share.val * 0x20000) →
    s.host.token = some port.val → s.regs.shadow.wf = true → val.getLsbD 0 = true →
    Runs (.dcArbCommit port share val) s fun t => Committed s t (0x500100 + share.val * 0x20000) (0x50011C + share.val * 0x20000)) ∧
  (∀ (s : State) (port : HPort) (val : Word), PortFree s port 0x14000C → s.host.token = some port.val → s.regs.shadow.wf = true →
    val.getLsbD 0 = true → val.getLsbD 1 = false →
    Runs (.rtCommit port val) s fun t => Committed s t 0x140000 0x200000 ∧ t.net.ports = s.net.ports ∧ t.net.hwm = s.net.hwm) ∧
  (∀ (s : State) (port : HPort) (val : Word), PortFree s port 0x14000C → s.host.token = some port.val →
    val.getLsbD 0 = false → val.getLsbD 1 = true →
    Runs (.hwmClr port val) s fun t =>
      (∀ p vc, p < 12 → vc < 9 → (t.net.hwm.get (p * 16 + vc)).getD 0 = (s.jl p).depth vc) ∧ RegsKept s t [] ∧
        t.net.ports = s.net.ports) ∧
  (∀ s : State, Runs .configCrcUpdate s fun t => t.regs.crc = s.configCrc ∧ t.regs.crcMatch = (s.configCrc == s.regs.val 0x10018) ∧
    RegsKept s t []) ∧
  (∀ s : State, s.configCrc ≠ s.regs.val 0x10018 → (s.regs.val 0x10010).getLsbD 0 = true → s.regs.quietUntil ≤ s.clock →
    (∀ n ∈ s.host.conds, ¬(n.source = Src.config ∧ n.cause = 3)) → s.regs.mismatches < 0xFFFF →
    Runs .configCrcUpdate s fun t => t.regs.mismatches = s.regs.mismatches + 1) ∧
  (∀ (s : State) (av : Avenue) (off : Nat) (v : Word) (r : RegD), s.regs.avPend = [AvPend.mk av.val off v] → regAt off = some r →
    Runs (.avConfigApply av) s fun t => t.regs.avPend = [] ∧ RegsKept s t [off] ∧
      t.regs.val off = ((s.regs.val off &&& ~~~ r.coverMask) ||| (v &&& r.coverMask)) ∧ t = { s with regs := t.regs })

namespace Sys2Proof.Claims

open Sys2Proof Sys2Proof.Machine

/-- How far one 32-bit count is ahead of another, modulo 2^32 (R398). -/
def ahead (a b : Nat) : Nat := (a + 2 ^ 32 - b) % 2 ^ 32

/-- Every ring but one keeps its state. -/
def RingsKept (s t : State) (ring : Nat) : Prop := ∀ n, n ≠ ring → t.ring n = s.ring n

end Sys2Proof.Claims

/-- R398 to R400, R410, R412: a tail count that is ahead by less than 2^31 and fits the command ring is taken, from the doorbell page or
from the shadow tail; a head count frees slots, and the vector is armed where nothing remains; the claim word gives the oldest unclaimed
level record and claims it while its condition holds, and otherwise names SPURIOUS; a completion of a claimed condition that holds no more
frees its record, and any other is a fault. Rests on log entry 20. -/
def Obligations.Doorbells : Prop :=
  (∀ (s : State) (port : HPort) (fn r : Nat) (val : Word64),
    let ring := hostRing (port.val * 256 + fn % 256) r
    (fn % 256 = 0 ∧ r < 64 ∨ r < 4) → val.toNat < 2 ^ 32 → (s.ring ring).st ≠ .disabled →
    0 < ahead val.toNat (s.ring ring).tail → ahead val.toNat (s.ring ring).tail < 2 ^ 31 →
    ahead val.toNat (s.ring ring).head ≤ 2 ^ (s.ring ring).n - 1 →
    Runs (.commandTailDoorbell port fn r 8 val) s fun t =>
      t.ring ring = { s.ring ring with tail := val.toNat } ∧ RingsKept s t ring ∧ t = { s with host := t.host }) ∧
  (∀ (s : State) (port : HPort) (fn r : Nat) (val : Word64),
    let ring := hostRing (port.val * 256 + fn % 256) r
    (fn % 256 = 0 ∧ r < 64 ∨ r < 4) → 2 ^ 32 ≤ val.toNat ∨ (s.ring ring).st = .disabled →
    Runs (.commandTailDoorbell port fn r 8 val) s fun t => ∀ n, t.ring n = s.ring n) ∧
  (∀ (s : State) (ring v : Nat), (s.ring ring).st = .running → (s.ring ring).sweep = true → v < 2 ^ 32 →
    0 < ahead v (s.ring ring).tail → ahead v (s.ring ring).tail < 2 ^ 31 →
    ahead v (s.ring ring).head ≤ 2 ^ (s.ring ring).n - 1 →
    Runs (.shadowTailSweep ring (some v)) s fun t =>
      t.ring ring = { s.ring ring with tail := v } ∧ RingsKept s t ring ∧ t = { s with host := t.host }) ∧
  (∀ (s : State) (ring : Nat), (s.ring ring).st = .running → (s.ring ring).sweep = true →
    Runs (.shadowTailSweep ring none) s fun t => t.ring ring = { s.ring ring with st := .stopped, cause := 3 } ∧ RingsKept s t ring) ∧
  (∀ (s : State) (port : HPort) (fn r : Nat) (val : Word64),
    let ring := hostRing (port.val * 256 + fn % 256) r
    (fn % 256 = 0 ∧ r < 64 ∨ r < 4) → val.toNat < 2 ^ 32 → (s.ring ring).st ≠ .disabled →
    0 < ahead val.toNat (s.ring ring).cplHead → ahead val.toNat (s.ring ring).cplHead < 2 ^ 31 →
    ahead val.toNat (s.ring ring).cplHead ≤ ahead (s.ring ring).cplTail (s.ring ring).cplHead →
    (s.ring ring).acc = none →
    Runs (.completionHeadDoorbell port fn r 8 val) s fun t =>
      (t.ring ring).cplHead = val.toNat ∧ (t.ring ring).armed = ((s.ring ring).cplTail == val.toNat) ∧ RingsKept s t ring ∧
        ((s.ring ring).cplTail ≠ val.toNat → s.mute = false → t.out = s.out ++ [.msix (ringFn ring) (s.ring ring).vector]) ∧
        ((s.ring ring).cplTail = val.toNat → t.out = s.out)) ∧
  (∀ (s : State) (port : HPort) (fn : Nat) (val : Word64),
    let f := port.val * 256 + fn % 256
    val.toNat < 2 ^ 32 → (s.ntc f).en = true → (s.ntc f).pending = [] → (s.ntc f).dropped = 0 →
    0 < ahead val.toNat (s.ntc f).head → ahead val.toNat (s.ntc f).head < 2 ^ 31 →
    ahead val.toNat (s.ntc f).head ≤ ahead (s.ntc f).tail (s.ntc f).head →
    Runs (.noticeHeadDoorbell port fn 8 val) s fun t =>
      t.ntc f = { s.ntc f with head := val.toNat, armed := (s.ntc f).tail == val.toNat } ∧ (∀ n, n ≠ f → t.ntc n = s.ntc n) ∧
        ((s.ntc f).tail ≠ val.toNat → s.mute = false → t.out = s.out ++ [.msix f (s.ntc f).vector])) ∧
  (∀ (s : State) (port : HPort) (fn : Nat) (o : Outstanding) (rest : List Outstanding),
    let f := port.val * 256 + fn % 256
    (s.ntc f).outstanding = o :: rest → o.claimed = false → o ∉ rest → s.mute = false →
    (∃ n ∈ s.host.conds, n.source = o.source ∧ n.cause = o.cause) →
    Runs (.noticeClaimRead port fn) s fun t =>
      (t.ntc f).outstanding = { o with claimed := true } :: rest ∧
        t.out = s.out ++ [.claimRead f (o.seq % 65536 + o.source % 1024 * 65536 + 2 ^ 31)]) ∧
  (∀ (s : State) (port : HPort) (fn : Nat) (o : Outstanding) (rest : List Outstanding),
    let f := port.val * 256 + fn % 256
    (s.ntc f).outstanding = o :: rest → o.claimed = false → s.mute = false →
    (∀ n ∈ s.host.conds, ¬(n.source = o.source ∧ n.cause = o.cause)) →
    Runs (.noticeClaimRead port fn) s fun t =>
      (t.ntc f).outstanding = rest ∧ t.out = s.out ++ [.claimRead f (o.seq % 65536 + 0x3FF * 65536 + 2 ^ 31)]) ∧
  (∀ (s : State) (port : HPort) (fn : Nat) (val : Word64) (o : Outstanding) (rest : List Outstanding),
    let f := port.val * 256 + fn % 256
    (s.ntc f).outstanding = o :: rest → o.claimed = true → o.source = bitsOf val.toNat 9 0 → o.cause = bitsOf val.toNat 23 16 →
    (∀ n ∈ s.host.conds, ¬(n.source = o.source ∧ n.cause = o.cause)) →
    Runs (.noticeCompletionWrite port fn 8 val) s fun t => t.ntc f = { s.ntc f with outstanding := rest } ∧ t.out = s.out) ∧
  (∀ (s : State) (port : HPort) (fn size : Nat) (val : Word64),
    let f := port.val * 256 + fn % 256
    (s.ntc f).outstanding = [] →
    exec (.noticeCompletionWrite port fn size val) s =
      .next (s.raise port.val 0x08 (bitsOf val.toNat 9 0 + bitsOf val.toNat 23 16 * 65536 + f * 2 ^ 32)))

/-- R409, R426, R504, R534: a VF's function-level reset drains its rings and disables its notice ring; a PF's also gives up its token and
its guard; PERST# resets every function of its port, whose link is then up; a host link that goes down gives up the token. Rests on log
entry 22. -/
def Obligations.HostResets : Prop :=
  (∀ (s : State) (port : HPort) (fn : Nat), fn % 256 ≠ 0 → s.fnRings (port.val * 256 + fn % 256) = [] →
    Runs (.functionLevelReset port fn) s fun t =>
      t.ntc (port.val * 256 + fn % 256) = { s.ntc (port.val * 256 + fn % 256) with en := false, pending := [], outstanding := [] } ∧
        t.host.token = s.host.token ∧ t.regs = s.regs ∧ t.out = s.out) ∧
  (∀ (s : State) (port : HPort) (fn ring : Nat), fn % 256 ≠ 0 → s.fnRings (port.val * 256 + fn % 256) = [ring] →
    (s.ring ring).st = .running → (s.ring ring).waiting = [] → (s.ring ring).running ≠ [] →
    Runs (.functionLevelReset port fn) s fun t =>
      t.ring ring = { s.ring ring with st := .draining, cause := 0, flr := false } ∧ RingsKept s t ring) ∧
  (∀ (s : State) (port : HPort) (fn : Nat), fn % 256 = 0 → s.fnRings (port.val * 256) = [] → s.host.token = some port.val →
    Runs (.functionLevelReset port fn) s fun t =>
      (t.ntc (port.val * 256)).en = false ∧ t.host.token = none ∧ t.sec.arm = none ∧ t.regs.guards = s.regs.guards.del port.val ∧
        RegsKept s t []) ∧
  (∀ (s : State) (port : HPort), (s.boot.st ≠ .loading ∨ s.boot.port ≠ port.val) → s.portFns port.val = [port.val * 256] →
    s.fnRings (port.val * 256) = [] →
    Runs (.hostPerst port) s fun t =>
      t.ntc (port.val * 256) = NoticeRing.init ∧ t.host.hostDown.contains port.val = false ∧
        (∀ f ∈ t.host.priOff, f / 256 ≠ port.val) ∧ t.regs.guards = s.regs.guards.del port.val ∧
        RegsKept s t [] ∧ t.maps = s.maps ∧ t.mem = s.mem) ∧
  (∀ (s : State) (port : HPort), s.host.token = some port.val → (s.boot.st ≠ .loading ∨ s.boot.port ≠ port.val) →
    Runs (.hostLinkDown port) s fun t =>
      t.host.hostDown = s.host.hostDown.ins port.val ∧ t.host.token = none ∧ t.sec.arm = none ∧ t.boot = s.boot ∧ t.maps = s.maps) ∧
  (∀ (s : State) (port : HPort), s.boot.st = .loading → s.boot.port = port.val →
    Runs (.hostLinkDown port) s fun t => t.boot = { s.boot with st := .failed, code := 2 })

/-- R390, R392, R393, R395, R402, R403: a descriptor is fetched in order once its completion slots are reserved; a retained command is
answered again from its record, which then keeps its place until its time; a NOP that nothing holds back completes DONE, and a command from
an issuer that its kind does not allow is refused with REFUSED_OWNER, and a reserved opcode and one that an accelerator ring does not accept
with REFUSED_PARAM; a refusal changes nothing else. Rests on log entries 6, 19. -/
def Obligations.CommandsOfRings : Prop :=
  (∀ (s : State) (ring : Nat) (d : Desc), (s.ring ring).st = .running → (s.ring ring).head ≠ (s.ring ring).tail →
    (s.ring ring).reserved + slotsFor d.opcode ≤ (s.ring ring).freeSlots → s.retainedOf ⟨ring, d⟩ = none → knownOpcode d.opcode = true →
    Runs (.descriptorFetch ring (some d)) s fun t =>
      t.ring ring = { s.ring ring with head := ((s.ring ring).head + 1) % 2 ^ 32, waiting := (s.ring ring).waiting ++ [⟨ring, d⟩] } ∧
        RingsKept s t ring ∧ t.out = s.out) ∧
  (∀ (s : State) (ring : Nat) (d : Desc), RingUp s ring → isAccRing ring = false → (s.ring ring).acc = none →
    (s.ring ring).head ≠ (s.ring ring).tail → (s.ring ring).reserved + slotsFor d.opcode ≤ (s.ring ring).freeSlots →
    s.retainedOf ⟨ring, d⟩ = none → s.recordLost ⟨ring, d⟩ = false → s.sameRunning ⟨ring, d⟩ = none → knownOpcode d.opcode = false →
    d.ifv = ((s.boot.fw.map (·.ifMajor)).getD 0) → s.gate ⟨ring, d⟩ = none → s.host.retained.length < 4194304 →
    Runs (.descriptorFetch ring (some d)) s fun t =>
      Ends t ⟨ring, d⟩ 0x14 0 0 ∧ RingsKept s t ring ∧ t.maps = s.maps ∧ t.mem = s.mem ∧ t.sec = s.sec) ∧
  (∀ (s : State) (ring : Nat) (d : Desc) (x : Retained), RingUp s ring → (s.ring ring).head ≠ (s.ring ring).tail →
    (s.ring ring).reserved + slotsFor d.opcode ≤ (s.ring ring).freeSlots → s.retainedOf ⟨ring, d⟩ = some x → x.opcode = d.opcode →
    x.district = d.district → ⟨ring, d⟩ ∉ (s.ring ring).waiting → ⟨ring, d⟩ ∉ (s.ring ring).running →
    Runs (.descriptorFetch ring (some d)) s fun t =>
      Ends t ⟨ring, d⟩ 3 x.kept.status x.kept.result ∧ t.host.retained = s.host.retained ∧
        (t.ring ring).waiting = (s.ring ring).waiting ∧ (t.ring ring).running = (s.ring ring).running) ∧
  (∀ (s : State) (ring : Nat) (d : Desc), (s.ring ring).st = .running → (s.ring ring).head ≠ (s.ring ring).tail →
    (s.ring ring).freeSlots < (s.ring ring).reserved + slotsFor d.opcode →
    exec (.descriptorFetch ring (some d)) s = .next s) ∧
  (∀ (s : State) (ring : Nat), (s.ring ring).st = .running → (s.ring ring).head ≠ (s.ring ring).tail →
    Runs (.descriptorFetch ring none) s fun t => t.ring ring = { s.ring ring with st := .stopped, cause := 1 } ∧ RingsKept s t ring) ∧
  (∀ (s : State) (issuer cmdId : Nat) (x : Retained), s.host.retained.get (retainKey issuer cmdId) = some x →
    Runs (.retentionExpire issuer cmdId) s fun t =>
      t.host.retained = s.host.retained.del (retainKey issuer cmdId) ∧ x.expires ≤ t.clock ∧ t.maps = s.maps ∧ t.mem = s.mem) ∧
  (∀ (s : State) (c : Cmd), Starts s c .any →
    Runs (.nop c) s fun t => Ends t c 0 0 0 ∧ t.maps = s.maps ∧ t.mem = s.mem ∧ t.sec = s.sec) ∧
  (∀ (s : State) (c : Cmd), RingUp s c.ring → (s.pick c).recordLost c = false → (s.pick c).retainedOf c = none →
    (s.pick c).sameRunning c = none → (s.pick c).mustWait c = false → c.d.ifv = ((s.boot.fw.map (·.ifMajor)).getD 0) →
    s.admits .g c = false → isAccRing c.ring = false → c.d.opcode = 0x0C →
    Runs (.districtReown c) s fun t => Ends t c 0x11 0 0 ∧ t.maps = s.maps ∧ t.mem = s.mem ∧ t.sec = s.sec) ∧
  (∀ (s : State) (c : Cmd), RingUp s c.ring → (s.pick c).recordLost c = false → (s.pick c).retainedOf c = none →
    (s.pick c).sameRunning c = none → (s.pick c).mustWait c = false → c.d.ifv = ((s.boot.fw.map (·.ifMajor)).getD 0) →
    isAccRing c.ring = true → c.d.opcode = 0x0C →
    Runs (.districtReown c) s fun t => Ends t c 0x14 0xFC 0 ∧ t.maps = s.maps ∧ t.mem = s.mem ∧ t.sec = s.sec)

/-- R22, R533: at reset no register has a value of its own, both locks are open, the ROM waits, nothing is sent and no command waits; every
register that this table gives reads its reset value. Rests on log entry 4. -/
def Obligations.AtReset : Prop :=
  (∀ off r, regAt off = some r → State.reset.regs.val off = BitVec.ofNat 32 r.reset) ∧ State.reset.regs.hashValid = false ∧
    State.reset.regs.dmapValid = false ∧ State.reset.host.token = none ∧ State.reset.boot.st = .wait ∧
    State.reset.boot.fwReady = false ∧ State.reset.boot.memReady = false ∧ State.reset.pending = [] ∧ State.reset.out = [] ∧
    (∀ a b, State.reset.av a = Av.init ∧ State.reset.ring b = Ring.init) ∧ State.reset.mem.wf = true ∧ State.reset.mute = false
/-- R533, R562: CHIP_RESET_N and the loss of SYS_CLK put everything but the metering island at reset and keep the outputs inactive; at the
release the ROM waits on SC-A, on SC-B where SC-A fails, and stops where both fail. Rests on log entry 55. -/
def Obligations.ChipResets : Prop :=
  (∀ s : State, Runs .chipResetAssert s fun t =>
    t.isl = s.isl ∧ t.mute = true ∧ t.regs = State.reset.regs ∧ t.host = State.reset.host ∧ t.maps = State.reset.maps ∧
      t.mem = State.reset.mem ∧ t.sec = State.reset.sec ∧ t.net = State.reset.net ∧ t.out = s.out ∧ t.pending = s.pending) ∧
  (∀ (s : State) (a b : Bool), s.boot.resetLow = true → Runs (.chipResetRelease a b) s fun t =>
    t.isl = s.isl ∧ t.mute = false ∧ t.boot.st = (if a || b then .wait else .failed) ∧ t.boot.code = (if a || b then 0 else 5) ∧
      t.boot.sc = (if !a && b then 1 else 0) ∧ t.boot.fwReady = false ∧ t.regs = State.reset.regs) ∧
  (∀ s : State, Runs .sysClkLoss s fun t =>
    t.isl = s.isl ∧ t.mute = true ∧ t.mem = State.reset.mem ∧ t.host = State.reset.host ∧ t.boot.clockLost = true ∧
      t.boot.resetLow = s.boot.resetLow) ∧
  (∀ (s : State) (o : Out), s.mute = true → s.emit o = s)

/-- R195, R523, R536 to R538: `GO` is taken while the ROM waits, and the push then loads from the port that wrote it; the ROM starts a
bundle whose format, signature and security version pass, and names the first check that fails; at the start every Avenue that passed its
self-test serves the share of its number, the others are FAILED, and Avenue S takes the first share that lacks one. Rests on log entries 55,
75. -/
def Obligations.Boot : Prop :=
  (∀ (s : State) (port : HPort) (val : Word), s.mute = false → s.boot.code ≠ 5 → s.boot.st = .wait ∨ s.boot.st = .failed →
     val.getLsbD 0 = true →
     Runs (.bootGo port val) s fun t =>
       t.boot = { s.boot with st := .loading, code := 0, port := port.val } ∧ t = { s with boot := t.boot }) ∧
  (∀ (s : State) (b : Bundle), s.boot.st = .loading → b.formatOk = true → b.length = s.regs.fld 0x48 26 0 →
    (s.regs.val 0x40).toNat % 64 = 0 → b.signatureOk = true →
    Runs (.bootLoadDone (.arrived b)) s fun t => t = { s with boot := t.boot } ∧
      (Config.minSecVersion ≤ b.secVersion → t.boot = { s.boot with st := .starting, fw := some b }) ∧
      (b.secVersion < Config.minSecVersion → t.boot = { s.boot with st := .failed, code := 4 })) ∧
  (∀ (s : State) (b : Bundle), s.boot.st = .loading →
    b.formatOk = false ∨ b.length ≠ s.regs.fld 0x48 26 0 ∨ (s.regs.val 0x40).toNat % 64 ≠ 0 →
    Runs (.bootLoadDone (.arrived b)) s fun t => t.boot = { s.boot with st := .failed, code := 1 }) ∧
  (∀ (s : State) (b : Bundle), s.boot.st = .loading → b.formatOk = true → b.length = s.regs.fld 0x48 26 0 →
    (s.regs.val 0x40).toNat % 64 = 0 → b.signatureOk = false →
    Runs (.bootLoadDone (.arrived b)) s fun t => t.boot = { s.boot with st := .failed, code := 3 }) ∧
  (∀ s : State, s.boot.st = .loading →
    Runs (.bootLoadDone .failed) s fun t => t.boot = { s.boot with st := .failed, code := 2 }) ∧
  (∀ (s : State) (r : StartResult), s.boot.st = .starting → r.imagesOk = true →
    Runs (.fwStartDone r) s fun t =>
      t.boot.st = .running ∧ t.boot.fwReady = true ∧ t.sec.entropyOk = true ∧
        (∀ n, n < 8 → n ∈ r.avenuesPassed → (t.av n).role = .serving ∧ (t.av n).share = some n) ∧
        (∀ n, n < 9 → n ∉ r.avenuesPassed → (t.av n).role = .failed) ∧
        (∀ n, n < 8 → n ∉ r.avenuesPassed → 8 ∈ r.avenuesPassed → (∀ k, k < n → k ∈ r.avenuesPassed) →
          (t.av 8).role = .serving ∧ (t.av 8).share = some n)) ∧
  (∀ (s : State) (r : StartResult), s.boot.st = .starting → r.imagesOk = false →
    Runs (.fwStartDone r) s fun t => t.boot = { s.boot with st := .failed, code := 6, fw := none } ∧ t.avail = s.avail)

/-- R257, R258, R290, R307, R540: training puts the channels of the reference geometry in service; memory initialisation starts once both
locks are valid, takes `CFG_SPARE` and leaves every byte zero; with the depot built the shares open and `MEM_READY` is set. Rests on log
entries 50, 53, 55. -/
def Obligations.BringUp : Prop :=
  (∀ (s : State) (rs : List TrainResult) (r : TrainResult), s.boot.fwReady = true → s.boot.trained = false → r ∈ rs →
    (∀ x ∈ rs, x.trained = true ∧ x.ch < 16 ∧ (s.servedBy (x.ch / 2)).isSome = true ∧ geomShape x = geomShape r) →
    Runs (.dramTrainingDone rs) s fun t =>
      t.boot = { s.boot with trained := true } ∧ t.dram.geom.capGib = r.capGib ∧ t.dram.geom.rate = poolRate rs r.dpc ∧
        ∀ x ∈ rs, (t.chan x.ch).inService = true ∧ (t.chan x.ch).mode = 1) ∧
  (∀ (s : State) (a b : TrainResult), s.boot.fwReady = true → s.boot.trained = false → a.trained = true → b.trained = false →
    a.ch < 16 → b.ch < 16 → a.ch ≠ b.ch → (s.servedBy (a.ch / 2)).isSome = true → (s.servedBy (b.ch / 2)).isSome = true →
    Runs (.dramTrainingDone [a, b]) s fun t =>
      (t.chan a.ch).inService = true ∧ (t.chan b.ch).inService = false ∧ (t.cprot b.ch).st = 3) ∧
  (∀ s : State, s.boot.trained = true → s.regs.hashValid = true → s.regs.dmapValid = true → s.boot.initStarted = false →
    s.allServed = true →
    Runs .memInitStart s fun t =>
      t.boot = { s.boot with initStarted := true, spare := s.regs.fld 0x10140 3 0 } ∧ t = { s with boot := t.boot }) ∧
  (∀ s : State, s.boot.initStarted = true → s.boot.initDone = false → s.allServed = true →
    Runs .memInitDone s fun t =>
      t.boot = { s.boot with initDone := true } ∧ (∀ pa, t.mem.byte pa = 0) ∧ ∀ l, t.mem.poisoned l = false) ∧
  (∀ s : State, s.boot.initDone = true → s.boot.memReady = false → s.sec.entropyOk = true →
    Runs .depotBuildDone s fun t =>
      t.boot.memReady = true ∧ t.sec.dramKeys.get 0 = some 0 ∧ (∀ n, n < 8 → (t.share n).st = .opened) ∧
        (∀ m, m < 16 → (s.chan m).inService = true → (t.chan m).mode = 2) ∧
        (∀ n, n < 12 → bitOf (s.regs.val (jlBase n)).toNat 0 = true → s.node ≠ 0 → (s.jl n).st = 0 → (t.jl n).st = 1) ∧
        t.mem = s.mem ∧ t.regs.act = s.regs.act)
namespace Sys2Proof.Claims

open Sys2Proof Sys2Proof.Machine

/-- Every port but one keeps its state. -/
def PortsKept (s t : State) (n : Nat) : Prop := ∀ m, m ≠ n → t.jl m = s.jl m

end Sys2Proof.Claims

/-- R336 to R339, R347, R352: `EN` starts a port once memory is ready and the node has an ID; a partner, the widest passing width and flit
lock take it on step by step; `WIDTH_MIN` or no lane at all sends it DOWN; the driver's retrain takes an ACTIVE link to RETRAIN; a partner's
parameters bring an unencrypted link up at the lower of the two revisions with the credits that it gives, or the first cause that forbids it
keeps the link down. Rests on log entries 13, 35. -/
def Obligations.LinksComeUp : Prop :=
  (∀ (s : State) (port : HPort) (n : JPort) (val : Word), PortFree s port (jlBase n) → s.host.token = some port.val →
    val.getLsbD 0 = true → val.getLsbD 1 = false → bitsOf val.toNat 5 4 ≤ 2 → s.boot.memReady = true → s.node ≠ 0 → (s.jl n).st = 0 →
    Runs (.jlPortEnable port n val) s fun t => t.jl n = { s.jl n with st := 1 } ∧ PortsKept s t n ∧ RegsKept s t [jlBase n]) ∧
  (∀ (s : State) (port : HPort) (n : JPort) (val : Word), PortFree s port (jlBase n) → s.host.token = some port.val →
    val.getLsbD 0 = true → val.getLsbD 1 = true → bitsOf val.toNat 5 4 ≤ 2 → (s.jl n).st = 5 →
    Runs (.jlRetrainRequest port n val) s fun t =>
      t.jl n = { s.jl n with st := 6, since := s.clock, bad := 0, byDriver := true } ∧ PortsKept s t n ∧ RegsKept s t [jlBase n]) ∧
  (∀ (s : State) (n : JPort), (s.jl n).st = 1 →
    Runs (.jlPartnerDetect n) s fun t => t.jl n = { s.jl n with st := 2 } ∧ PortsKept s t n ∧ t = { s with net := t.net }) ∧
  (∀ (s : State) (n : JPort) (lanes : Nat), (s.jl n).st = 2 → lanes % 16 ≠ 0 → s.regs.fld (jlBase n) 5 4 = 0 →
    Runs (.jlEqualizeDone n lanes) s fun t =>
      (t.jl n).st = 3 ∧ (t.jl n).lanesOk = lanes % 16 ∧ PortsKept s t n ∧
        (t.jl n).width = (if lanes % 16 = 15 then 3 else if lanes % 4 = 3 ∨ lanes / 4 % 4 = 3 then 2 else 1)) ∧
  (∀ (s : State) (n : JPort) (lanes : Nat), (s.jl n).st = 2 → lanes % 16 = 0 →
    Runs (.jlEqualizeDone n lanes) s fun t => (t.jl n).st = 7 ∧ (t.jl n).failed = (s.jl n).failed + 1 ∧ PortsKept s t n) ∧
  (∀ (s : State) (n : JPort), (s.jl n).st = 3 →
    Runs (.jlAlignDone n) s fun t => t.jl n = { s.jl n with st := 4 } ∧ PortsKept s t n ∧ t = { s with net := t.net }) ∧
  (∀ (s : State) (n : JPort), (s.jl n).st = 7 → bitOf (s.regs.val (jlBase n)).toNat 0 = true → (s.jl n).failed ≤ 1 →
    Runs (.jlDownRetry n) s fun t =>
      t.jl n = { s.jl n with st := 1 } ∧ PortsKept s t n ∧ (s.jl n).since + 100000000 ≤ t.clock) ∧
  (∀ (s : State) (n : JPort) (b : ParamBlock) (fw : Bundle), (s.jl n).st = 4 → s.boot.fw = some fw → s.regs.val (jlBase n + 0x10) = 0 →
    b.encReq = false → (s.jl n).hardStop = false → b.revLo ≤ fw.revHi → fw.revLo ≤ b.revHi → b.node ≠ s.node →
    (∀ v, v < 9 → (if v = 8 then 32 else 16) ≤ b.credits.getD v 0) →
    Runs (.jlParamReceive n b) s fun t =>
      (t.jl n).st = 5 ∧ (t.jl n).rev = min fw.revHi b.revHi ∧ (t.jl n).encOn = false ∧ (t.jl n).partner = b.node ∧ (t.jl n).txSeq = 0 ∧
        (t.jl n).rxSeq = 0 ∧ (t.jl n).buf = [] ∧ (∀ v, v < 9 → (t.jl n).credits.get v = some (b.credits.getD v 0)) ∧ PortsKept s t n) ∧
  (∀ (s : State) (n : JPort) (b : ParamBlock) (fw : Bundle), (s.jl n).st = 4 → s.boot.fw = some fw →
    fw.revHi < b.revLo ∨ b.revHi < fw.revLo ∨ b.node = s.node →
    Runs (.jlParamReceive n b) s fun t => (t.jl n).st = 7 ∧ PortsKept s t n)

/-- R343, R347 to R352, R354, R562: a good flit in order is taken: its messages stand in the receiver's buffer, its acknowledgement frees
held flits, its credits are added; a bad flit and a flit out of order deliver nothing, and the first of those asks for a replay; a new flit
takes the next number and is held until it is acknowledged, and with nothing to send the newest flit goes again; a replay sends every held
flit from the one named again, while none has gone `REPLAY_MAX` times; a flit that is no longer held, a retrain of more than 1 ms and a
stopped reference clock take the link down. Rests on log entries 35, 6. -/
def Obligations.FlitsAndReplay : Prop :=
  (∀ (s : State) (n : JPort) (f : FlitIn), (s.jl n).st = 5 → (s.jl n).encOn = false → f.training = false → f.bad = false →
    f.corrected = false → (s.jl n).ackAhead f.ack = false → f.seq = (s.jl n).rxSeq → f.crVc < 9 → f.parses = true →
    Runs (.flitReceive n f) s fun t =>
      (t.jl n).rx = (s.jl n).rx ++ f.msgs ∧ (t.jl n).rxSeq = (f.seq + 1) % 4096 ∧ (t.jl n).lastAck = f.ack ∧ (t.jl n).st = 5 ∧
        (t.jl n).buf = ((s.jl n).buf.filter fun x => !decide ((f.ack + 4096 - x.seq) % 4096 < 2048)) ∧
        ((t.jl n).credits.get f.crVc).getD 0 = ((s.jl n).credits.get f.crVc).getD 0 + 2 * f.crCnt ∧ PortsKept s t n) ∧
  (∀ (s : State) (n : JPort) (f : FlitIn), (s.jl n).st = 5 → f.training = false → f.bad = true → (s.jl n).bad < 7 →
    Runs (.flitReceive n f) s fun t =>
      t.jl n = { s.jl n with bad := (s.jl n).bad + 1 } ∧ PortsKept s t n ∧
        t.regs.counter (jlBase n + 0x58) = (s.regs.counter (jlBase n + 0x58) + 1) % 2 ^ 64) ∧
  (∀ (s : State) (n : JPort) (f : FlitIn), (s.jl n).st = 5 → f.training = false → f.bad = false → f.corrected = false →
    (s.jl n).ackAhead f.ack = false → f.seq ≠ (s.jl n).rxSeq → (f.seq + 4096 - (s.jl n).rxSeq) % 4096 < 2048 → (s.jl n).asked = false →
    Runs (.flitReceive n f) s fun t =>
      (t.jl n).rx = (s.jl n).rx ∧ (t.jl n).rxSeq = (s.jl n).rxSeq ∧ (t.jl n).asked = true ∧
        (t.jl n).ctl = (s.jl n).ctl ++ [(6, (s.jl n).rxSeq)]) ∧
  (∀ (s : State) (n : JPort) (v k : Nat), (s.jl n).st = 5 → v < 9 →
    Runs (.creditMessage n [(v, k)]) s fun t =>
      ((t.jl n).credits.get v).getD 0 = ((s.jl n).credits.get v).getD 0 + k ∧
        (∀ w, w ≠ v → (t.jl n).credits.get w = (s.jl n).credits.get w) ∧ PortsKept s t n) ∧
  (∀ (s : State) (n : JPort) (x : Nat), (s.jl n).st = 5 → (s.jl n).encOn = true →
    Runs (.rekeyMessage n x) s fun t => t.jl n = { s.jl n with rxAt := some (x % 4096) } ∧ PortsKept s t n) ∧
  (∀ (s : State) (n : JPort), (s.jl n).st = 5 → (s.jl n).encOn = false → (s.jl n).buf.length < 512 → s.mute = false →
    (s.jl n).newest = none ∨ (s.jl n).ctl ≠ [] →
    Runs (.flitBuild n) s fun t =>
      (t.jl n).txSeq = ((s.jl n).txSeq + 1) % 4096 ∧ (t.jl n).ctl = [] ∧ PortsKept s t n ∧
        ∃ x, (t.jl n).buf = (s.jl n).buf ++ [x] ∧ x.seq = (s.jl n).txSeq ∧ (t.jl n).newest = some x ∧
          Out.flit n x.seq (((s.jl n).rxSeq + 4095) % 4096) x.msgs ∈ t.out) ∧
  (∀ (s : State) (n : JPort) (x : Sent), (s.jl n).st = 5 → (s.jl n).encOn = false → (s.jl n).newest = some x → (s.jl n).ctl = [] →
    (s.jl n).owed = [] → (s.jl n).queue = [] → s.mute = false →
    Runs (.flitBuild n) s fun t =>
      t.jl n = { s.jl n with lastBuild := s.clock } ∧ PortsKept s t n ∧
        t.out = s.out ++ [.flit n x.seq (((s.jl n).rxSeq + 4095) % 4096) x.msgs]) ∧
  (∀ (s : State) (n : JPort), (s.jl n).st = 5 → (s.jl n).encOn = true → 2 ^ 62 ≤ (s.jl n).txCtr →
    Runs (.flitBuild n) s fun t => (t.jl n).st = 7 ∧ (t.jl n).hardStop = true) ∧
  (∀ (s : State) (n : JPort) (x : Sent) (rest : List Sent), (s.jl n).st = 5 → (s.jl n).buf = x :: rest →
    (∀ f ∈ (s.jl n).buf, (f.seq + 4096 - x.seq) % 4096 < 2048 ∧ f.replays < s.regs.fld (jlBase n + 0x4) 11 8) → s.mute = false →
    Runs (.replayRequestReceive n x.seq) s fun t =>
      (t.jl n).buf = ((s.jl n).buf.map fun f => { f with replays := f.replays + 1, sentAt := s.clock }) ∧
        t.out = s.out ++ ((s.jl n).buf.map fun f => Out.flit n f.seq (((s.jl n).rxSeq + 4095) % 4096) f.msgs)) ∧
  (∀ (s : State) (n : JPort) (x : Nat), (s.jl n).st = 5 → (∀ f ∈ (s.jl n).buf, f.seq ≠ x) →
    Runs (.replayRequestReceive n x) s fun t => (t.jl n).st = 7) ∧
  (∀ (s : State) (n : JPort) (x : Sent) (rest : List Sent), (s.jl n).st = 5 → (s.jl n).buf = x :: rest →
    (∀ f ∈ (s.jl n).buf, (f.seq + 4096 - x.seq) % 4096 < 2048 ∧ f.replays < s.regs.fld (jlBase n + 0x4) 11 8) →
    Runs (.replayTimeout n) s fun t =>
      x.sentAt + s.regs.fld (jlBase n + 0x4) 31 16 ≤ t.clock ∧
        (t.jl n).buf = ((s.jl n).buf.map fun f => { f with replays := f.replays + 1, sentAt := t.clock })) ∧
  (∀ (s : State) (n : JPort) (lanes : Nat), (s.jl n).st = 6 → lanes % 16 = 15 → (s.jl n).width = 3 → s.regs.fld (jlBase n) 5 4 < 3 →
    Runs (.retrainDone n lanes) s fun t =>
      (t.jl n).st = 5 ∧ (t.jl n).width = 3 ∧ (t.jl n).buf.map (·.seq) = (s.jl n).buf.map (·.seq)) ∧
  (∀ (s : State) (n : JPort), (s.jl n).st = 6 →
    Runs (.retrainTimeout n) s fun t => (t.jl n).st = 7 ∧ (s.jl n).since + 1000000 ≤ t.clock) ∧
  (∀ (s : State) (q : Fin 3), Runs (.jlRefclkLoss q) s fun t =>
    ∀ n, (t.jl n).st = (if n / 4 = q.val ∧ (s.jl n).st ≠ 0 then 7 else (s.jl n).st))

/-- R71, R366, R368, R369, R372, R373, R380, R565: a message for another node joins the queue of its primary port; one without a route is
discarded and counted, and a REQ is answered MISROUTED; a message that the pool does not take is counted; a message that waits too long
moves to its escape channel, a Bypass message without credit is discarded, an escape message held after a break of the Ring Road is
discarded, and a red message is marked anew when its meter has refilled. Rests on log entries 6, 36. -/
def Obligations.Routing : Prop :=
  (∀ (s : State) (port : JPort) (m : Msg) (e : RouteEnt), m.dst ≠ s.node → s.routeOf m.dst = some e → m.cls ≠ 4 → m.vc % 2 = 0 →
    s.usable e.pri = true → e.pri ≠ port.val → s.hasCredit e.pri (2 * m.cls) m.cells = true →
    Runs (.messageForward port m) s fun t =>
      ∃ q, (t.jl e.pri).queue = (s.jl e.pri).queue ++ [q] ∧ q.m = m ∧ q.arrival = some port.val ∧ t.out = s.out) ∧
  (∀ (s : State) (port : JPort) (m : Msg), m.dst ≠ s.node → s.routeOf m.dst = none → m.cls = 0 → s.mute = false →
    Runs (.messageForward port m) s fun t => Out.dat 12 ⟨failOp m.op, m.src, m.tag, 7, 0, 0, none⟩ ∈ t.out) ∧
  (∀ (s : State) (port : JPort) (m : Msg), m.dst ≠ s.node → s.routeOf m.dst = none → m.cls ≠ 0 →
    Runs (.messageForward port m) s fun t =>
      t.regs.counter 0x140048 = (s.regs.counter 0x140048 + 1) % 2 ^ 64 ∧ ∀ n, (t.jl n).queue = (s.jl n).queue) ∧
  (∀ (s : State) (port : JPort) (byte0 src cells vc : Nat), byte0 / 64 ≠ 0 ∨ byte0 = 0x3F →
    Runs (.unexpectedMessage port byte0 src cells vc) s fun t =>
      t.regs.counter 0x140060 = (s.regs.counter 0x140060 + 1) % 2 ^ 64 ∧
        ((t.jl port).owed.get vc).getD 0 = ((s.jl port).owed.get vc).getD 0 + cells) ∧
  (∀ (s : State) (port : JPort) (byte0 src cells vc : Nat), byte0 / 64 = 0 → byte0 ≠ 0x3F → s.mute = false →
    Runs (.unexpectedMessage port byte0 src cells vc) s fun t =>
      Out.dat port ⟨.comp, src, 0, 4, 0, 5, none⟩ ∈ t.out) ∧
  (∀ (s : State) (n : JPort) (idx : Nat) (q : Queued), (s.jl n).queue[idx]? = some q → q.m.cls ≠ 4 → q.m.vc % 2 = 0 →
    s.usable q.ent.pri = true → q.arrival ≠ some q.ent.pri → s.hasCredit q.ent.pri (2 * q.m.cls) q.m.cells = false →
    q.ent.adapt = false → s.usable q.ent.esc = true → q.arrival ≠ some q.ent.esc → bitOf (s.regs.val 0x140004).toNat 24 = false →
    Runs (.escapeWaitTimeout n idx) s fun t =>
      (∃ x, (t.jl q.ent.esc).queue.getLast? = some x ∧ x.m = { q.m with vc := 2 * q.m.cls + 1 }) ∧
        q.since + s.regs.fld 0x140004 15 0 ≤ t.clock) ∧
  (∀ (s : State) (n : JPort) (idx : Nat) (q : Queued), (s.jl n).queue[idx]? = some q → q.m.cls = 4 →
    s.hasCredit n q.m.vc q.m.cells = false →
    Runs (.bypassDropTimeout n idx) s fun t =>
      (t.jl n).queue = (s.jl n).queue.eraseIdx idx ∧ PortsKept s t n ∧
        t.regs.counter 0x140050 = (s.regs.counter 0x140050 + 1) % 2 ^ 64 ∧ q.since + s.regs.fld 0x140004 23 16 * 1000 ≤ t.clock) ∧
  (∀ (s : State) (idx : Nat) (q : Queued), s.net.held[idx]? = some q → q.m.cls ≠ 0 →
    Runs (.escapeHoldTimeout idx) s fun t =>
      t.net.held = s.net.held.eraseIdx idx ∧ t.net.ports = s.net.ports ∧ q.since + 100000000 ≤ t.clock ∧
        t.regs.counter 0x140048 = (s.regs.counter 0x140048 + 1) % 2 ^ 64) ∧
  (∀ (s : State) (n : JPort) (idx m : Nat) (q : Queued), (s.jl n).queue[idx]? = some q → q.meter = some m → q.mark = .red →
    s.redOf m = [(n.val, q)] → ((s.net.buckets.get m).getD ⟨0, 0, 0⟩).upd ≤ s.clock →
    s.effLen n q.m ≤ s.regs.fld (m + 8) 31 16 * 64 →
    Runs (.meterRelease n idx) s fun t => ∃ x, (t.jl n).queue[idx]? = some x ∧ x.m = q.m ∧ x.mark ≠ .red)

/-- R57, R58, R260, R264 to R269, R271 to R274: a refresh that falls due is issued with those owed on its bank index, and owed while the
channel pauses; an RFM starts its bank's activate count again; tREFI halves above 85 °C and returns at 83 °C; a roadworks window opens a
pause, at whose end the refreshes owed are issued, the count goes on, and after task 1 the write strobe is corrected within ±64; credits
become the weights at each period; a grant goes to the winner of the phase under the burst limit in force and admits no more than that
limit; an old write starts a drain. Rests on log entries 6, 16, 54. -/
def Obligations.DramController : Prop :=
  (∀ (s : State) (ch : Chan) (rank sc bank : Nat), (s.chan ch).inService = true → s.refreshes ch = true → (s.chan ch).pause = false →
    s.mute = false →
    Runs (.refsbDue ch rank sc bank true) s fun t =>
      (t.chan ch).owed = (s.chan ch).owed.del (bankKey rank sc bank) ∧
        t.out = s.out ++ List.replicate (((s.chan ch).owed.get (bankKey rank sc bank)).getD 0 + 1) (Out.dram ch 0 rank sc (bank % 4))) ∧
  (∀ (s : State) (ch : Chan) (rank sc bank : Nat) (issue : Bool), (s.chan ch).inService = true → (s.chan ch).pause = true →
    Runs (.refsbDue ch rank sc bank issue) s fun t =>
      ((t.chan ch).owed.get (bankKey rank sc bank)).getD 0 = ((s.chan ch).owed.get (bankKey rank sc bank)).getD 0 + 1 ∧ t.out = s.out) ∧
  (∀ (s : State) (ch : Chan) (rank sc bank : Nat), s.refreshes ch = true → (s.chan ch).pause = false → s.mute = false →
    Runs (.rfmIssue ch rank sc bank) s fun t =>
      (t.chan ch).raa = (s.chan ch).raa.del (raaKey rank sc bank) ∧ t.out = s.out ++ [.dram ch 1 rank sc (bank % 32)]) ∧
  (∀ (s : State) (ch : Chan) (c : Int), Runs (.dimmTempPoll ch c) s fun t =>
    (t.chan ch).temp = c ∧ (85 < c → (t.chan ch).hot = true) ∧ (c ≤ 83 → (t.chan ch).hot = false) ∧
      (83 < c → c ≤ 85 → (t.chan ch).hot = (s.chan ch).hot) ∧ ∀ m, m ≠ ch.val → t.chan m = s.chan m) ∧
  (∀ (s : State) (ch : Chan) (w : Nat), s.nextWindow ch s.time.ft = some w → s.boot.trained = true → (s.chan ch).pause = false →
    (s.chan ch).inService = true → (s.cprot ch).st ≠ 3 → (s.share (ch.val / 2)).st ≠ .gap → s.mute = false →
    Runs (.roadworksWindowOpen ch) s fun t =>
      (t.chan ch).pause = true ∧ (t.chan ch).pauses = (s.chan ch).pauses ∧
        t.out = s.out ++ [.dram ch 3 0 0 0, .dram ch (4 + (s.chan ch).pauses % 4) (s.pauseTarget ch / 2) (s.pauseTarget ch % 2) 0] ∧
        t.regs.counter (dcBase ch + 0x38) = (s.regs.counter (dcBase ch + 0x38) + 1) % 2 ^ 64) ∧
  (∀ (s : State) (ch : Chan) (corr : Int), (s.chan ch).pause = true → (s.chan ch).pauses % 4 ≠ 1 →
    Runs (.roadworksPauseEnd ch corr) s fun t =>
      (t.chan ch).pause = false ∧ (t.chan ch).pauses = (s.chan ch).pauses + 1 ∧ (t.chan ch).owed = [] ∧ (t.chan ch).corr = (s.chan ch).corr) ∧
  (∀ (s : State) (ch : Chan) (corr : Int), (s.chan ch).pause = true → (s.chan ch).pauses % 4 = 1 →
    Runs (.roadworksPauseEnd ch corr) s fun t =>
      (t.chan ch).pause = false ∧ (t.chan ch).owed = [] ∧
        ((t.chan ch).corr.get (s.pauseTarget ch)).getD 0 =
          max (-64) (min 64 (((s.chan ch).corr.get (s.pauseTarget ch)).getD 0 + corr))) ∧
  (∀ (s : State) (share : Share), Runs (.arbCreditPeriod share) s fun t =>
    (∀ i, i < 6 → (t.arb share).credits.getD i 0 = s.regs.fld (dcBase (2 * share.val) + 0x104 + 4 * i) 11 0) ∧
      (t.arb share).owner = (s.arb share).owner ∧ (t.arb share).ready = (s.arb share).ready) ∧
  (∀ (s : State) (share : Share), (s.arb share).ready = [] →
    Runs (.arbGrantEnd share) s fun t => (t.arb share).owner = 7 ∧ (t.arb share).used = 0) ∧
  (∀ (s : State) (share : Share) (x : Access), x ∈ (s.arb share).ready → x.input < 6 →
    bitOf (s.regs.val (dcBase (2 * share.val) + 0x100)).toNat 0 = false →
    (s.chan (2 * share.val)).ordCause ≠ 3 →
    Runs (.arbGrantEnd share) s fun t =>
      ∃ y ∈ (s.arb share).ready, (t.arb share).owner = y.input ∧ (t.arb share).used ≤ s.burstLimit share ∧
        (0 < x.input → 0 < y.input ∧ (s.arb share).credits.getD x.input 0 ≤ (s.arb share).credits.getD y.input 0)) ∧
  (∀ (s : State) (ch : Chan) (w : Access), (s.chan ch).mode = 2 → w ∈ (s.chan ch).writes → w.since + 8000 < s.clock →
    Runs (.writeAgeDrain ch) s fun t => t.chan ch = { s.chan ch with drain := true } ∧ t = { s with dram := t.dram })
namespace Sys2Proof.Claims

open Sys2Proof Sys2Proof.Machine

/-- Every District but one keeps its state. -/
def DistrictsKept (s t : State) (d : Nat) : Prop := ∀ e, e ≠ d → t.district e = s.district e

end Sys2Proof.Claims

/-- R312, R390, R445, R446, R449, R463: a District is created in service with the parameters given, its next epoch and fresh keys; its
limits and its owner change on command; every other District stays as it is; with its guard right, an erase takes its District out of
service; when nothing of it is open, its windows, pages and keys go, and the command completes. Rests on log entry 27. -/
def Obligations.Districts : Prop :=
  (∀ (s : State) (c : Cmd), Starts s c .g → c.d.opcode = 0x01 → c.d.district ≠ 0 → s.district c.d.district = none →
    s.noFlash (bitsOf c.d.p0 11 8) (c.d.p3 + c.d.p4) 0 = false →
    (bitOf c.d.p0 4 = true → pageCost c.d.p2 (bitsOf c.d.p0 3 2) ≤ s.freeLines) →
    s.waysUsed + fenceWays (bitsOf c.d.p0 1 0) ≤ 8 →
    s.enginesGiven (bitsOf c.d.p0 1 0) (bitsOf c.d.p0 14 12) (bitsOf c.d.p0 23 16) = true → s.sec.entropyOk = true →
    bitsOf c.d.p0 3 2 ≠ 3 → (bitOf c.d.p0 5 = true → isPf (bitsOf c.d.p5 8 0) = false ∧ 2 ≤ bitsOf c.d.p0 1 0) →
    1 ≤ bitsOf c.d.p0 41 28 → bitsOf c.d.p0 41 28 ≤ 8192 →
    (bitsOf c.d.p0 1 0 = 2 ↔ bitsOf c.d.p0 14 12 ≠ 0) → bitsOf c.d.p0 14 12 ≤ 6 → (bitsOf c.d.p0 1 0 = 3 ↔ bitsOf c.d.p0 23 16 ≠ 0) →
    s.badQuota (bitOf c.d.p0 4) (bitsOf c.d.p0 11 8) c.d.p2 c.d.p3 c.d.p4 = false → (s.maps.epochs.get c.d.district).getD 0 ≠ 0xFFFFFFFF →
    Runs (.districtCreate c) s fun t =>
      (∃ x, t.district c.d.district = some x ∧ x.st = .inService ∧ x.level = bitsOf c.d.p0 1 0 ∧ x.strength = bitsOf c.d.p0 3 2 ∧
        x.tiered = bitOf c.d.p0 4 ∧ x.conf = bitOf c.d.p0 5 ∧ x.trkLimit = bitsOf c.d.p0 41 28 ∧ x.priority = bitsOf c.d.p0 27 24 ∧
        x.owner = bitsOf c.d.p5 8 0 ∧ x.epoch = (s.maps.epochs.get c.d.district).getD 0 + 1 ∧ x.nextVersion = 1 ∧
        x.copyQuota = bitsOf c.d.p1 31 0 ∧ x.staging = bitsOf c.d.p1 63 32 ∧ x.residentMax = c.d.p2 ∧ x.flashQuota = c.d.p3 ∧
        x.fcopyQuota = c.d.p4) ∧
      t.maps.epochs.get c.d.district = some ((s.maps.epochs.get c.d.district).getD 0 + 1) ∧
      (t.sec.dramKeys.get c.d.district).isSome = true ∧ (t.sec.flashKeys.get c.d.district).isSome = true ∧
      DistrictsKept s t c.d.district ∧ t.mem = s.mem ∧ Ends t c 0 0 0) ∧
  (∀ (s : State) (c : Cmd) (x : District), Starts s c .g → c.d.opcode = 0x08 → s.district c.d.district = some x →
    s.noFlash x.fgroup (c.d.p3 + c.d.p4) (x.flashQuota + x.fcopyQuota) = false →
    (x.tiered = true → pageCost c.d.p2 x.strength ≤ s.freeLines + pageCost (s.residentPages c.d.district) x.strength) →
    1 ≤ bitsOf c.d.p0 41 28 → bitsOf c.d.p0 41 28 ≤ 8192 → s.badQuota x.tiered x.fgroup c.d.p2 c.d.p3 c.d.p4 = false →
    Runs (.districtLimits c) s fun t =>
      t.district c.d.district = some { x with
        priority := bitsOf c.d.p0 27 24, trkLimit := bitsOf c.d.p0 41 28, copyQuota := bitsOf c.d.p1 31 0, staging := bitsOf c.d.p1 63 32,
        residentMax := c.d.p2, flashQuota := c.d.p3, fcopyQuota := c.d.p4 } ∧
      DistrictsKept s t c.d.district ∧ t.mem = s.mem ∧ t.sec = s.sec ∧ Ends t c 0 0 0) ∧
  (∀ (s : State) (c : Cmd) (x : District), Starts s c .g → c.d.opcode = 0x0C → s.district c.d.district = some x → x.conf = false →
    Runs (.districtReown c) s fun t =>
      t.district c.d.district = some { x with owner := bitsOf c.d.p5 8 0 } ∧ DistrictsKept s t c.d.district ∧ t.mem = s.mem ∧
        t.sec = s.sec ∧ Ends t c 0 0 0) ∧
  (∀ (s : State) (c : Cmd) (x : District), Starts s c .d → c.d.opcode = 0x02 → s.district c.d.district = some x → x.st = .inService →
    x.convCmd = none → s.jobsOf c.d.district = [] → c.d.p0 = 65535 - c.d.district →
    Runs (.districtErase c) s fun t =>
      t.district c.d.district = some { x with st := .erasing, busyCmd := some c, convCmd := none } ∧ Running t c ∧
        DistrictsKept s t c.d.district) ∧
  (∀ (s : State) (c : Cmd), Starts s c .d → c.d.opcode = 0x02 → c.d.p0 ≠ 65535 - c.d.district →
    Runs (.districtErase c) s fun t => t.maps = s.maps ∧ t.sec = s.sec ∧ t.mem = s.mem ∧ Ends t c 0x14 0 0) ∧
  (∀ (s : State) (d : Nat) (x : District) (c : Cmd), s.district d = some x → x.st = .erasing → x.busyCmd = some c → s.eraseBusy d = false →
    s.entriesIn d 0 (2 ^ 36) = [] → s.sec.zeroCmd = none → s.maps.districts.wf = true →
    s.host.rings.wf = true → RingUp s c.ring → (s.ring c.ring).acc = none →
    Runs (.districtEraseProceed d) s fun t =>
      t.district d = none ∧ t.sec.dramKeys = s.sec.dramKeys.del d ∧ t.sec.flashKeys = s.sec.flashKeys.del d ∧
        (∀ w y, t.maps.windows.get w = some y → y.district ≠ d) ∧ Ends t c 0 0 0)

/-- R79, R87, R114, R152, R171, R567: a window is created at once; a change takes force at once and waits for the requests under the old
entry, and until then a query shows the entry as it stood before; a translation change completes when every request under the old entry has
been answered, after the directory search where it needs one. Rests on log entry 27. -/
def Obligations.WindowsAndDrains : Prop :=
  (∀ (s : State) (c : Cmd),
    let id := bitsOf c.d.p0 15 0
    let w := winOf c.d.p1 c.d.p2 c.d.p3
    Starts s c .d → c.d.opcode = 0x04 → bitsOf c.d.p0 17 16 = 0 → s.windowMoving id = false → s.maps.windows.get id = none →
    w.district = c.d.district → (w.msBind = true → ((s.msSlot c.d.district w.msSlot).map (·.st)) = some 2) →
    winReserved c.d.p1 c.d.p2 c.d.p3 c.d.p4 = false → s.badWindow w (bitOf c.d.p1 0) = false →
    Runs (.windowMap c) s fun t =>
      t.maps = { s.maps with windows := s.maps.windows.put id w } ∧ t.mem = s.mem ∧ t.sec = s.sec ∧ Ends t c 0 0 0) ∧
  (∀ (s : State) (c : Cmd) (old : Window),
    let id := bitsOf c.d.p0 15 0
    let w := winOf c.d.p1 c.d.p2 c.d.p3
    Starts s c .d → c.d.opcode = 0x04 → bitsOf c.d.p0 17 16 = 1 → s.windowMoving id = false → s.maps.windows.get id = some old →
    old.district = c.d.district → w.district = c.d.district → s.sec.bindings.has id = false →
    (w.msBind = true → ((s.msSlot c.d.district w.msSlot).map (·.st)) = some 2) → winReserved c.d.p1 c.d.p2 c.d.p3 c.d.p4 = false →
    s.badWindow w (bitOf c.d.p1 0) = false →
    Runs (.windowMap c) s fun t =>
      t.maps.windows = s.maps.windows.put id w ∧ t.maps.pages = s.maps.pages ∧ Running t c ∧ t.out = s.out ∧
        ∃ x, t.maps.drains = s.maps.drains ++ [x] ∧ x.cmd = c ∧ x.window = some (id, old)) ∧
  (∀ (s : State) (c : Cmd) (old : Window),
    let id := bitsOf c.d.p0 15 0
    Starts s c .d → c.d.opcode = 0x04 → bitsOf c.d.p0 17 16 = 2 → s.windowMoving id = false → s.maps.windows.get id = some old →
    old.district = c.d.district → s.sec.bindings.has id = false → c.d.p1 = 0 → c.d.p2 = 0 → c.d.p3 = 0 → c.d.p4 = 0 →
    Runs (.windowMap c) s fun t =>
      t.maps.windows = s.maps.windows.del id ∧ Running t c ∧ ∃ x, t.maps.drains = s.maps.drains ++ [x] ∧ x.cmd = c ∧ x.needSearch = (old.kind == 0)) ∧
  (∀ (s : State) (c : Cmd) (w : Window), Starts s c .q → c.d.opcode = 0x09 → s.maps.drains = [] →
    s.maps.windows.get (bitsOf c.d.p0 15 0) = some w → w.district = c.d.district → (s.district c.d.district).isSome = true →
    Runs (.windowQuery c) s fun t => t.maps = s.maps ∧ t.mem = s.mem ∧ Ends t c 0 0 w.bits) ∧
  (∀ (s : State) (c : Cmd) (w : Window) (x : Drain), Starts s c .q → c.d.opcode = 0x09 → s.maps.drains = [x] →
    x.window = some (bitsOf c.d.p0 15 0, w) → w.district = c.d.district → (s.district c.d.district).isSome = true →
    Runs (.windowQuery c) s fun t => t.maps = s.maps ∧ Ends t c 0 0 w.bits) ∧
  (∀ (s : State) (x : Drain), s.maps.drains = [x] → x.translated = false → s.drainClear x = true → x.needSearch = false → x.unmap = false →
    x.moves = [] → x.unbind = false → (∀ y ∈ x.window, y.2.msBind = false) → s.coh.moveWait = [] → RingUp s x.cmd.ring →
    x.kept.cmdId = x.cmd.d.cmdId →
    Runs (.translationDrainDone x.cmd.ring x.cmd.d.cmdId) s fun t =>
      t.maps.drains = [] ∧ t.maps.pages = s.maps.pages ∧ Ends t x.cmd x.kept.status x.kept.detail x.kept.result) ∧
  (∀ (s : State) (x : Drain), s.maps.drains = [x] → x.translated = false → s.drainClear x = false → x.moves = [] →
    exec (.translationDrainDone x.cmd.ring x.cmd.d.cmdId) s = .next s) ∧
  (∀ (s : State) (x : Drain), s.maps.drains = [x] → x.translated = true → s.entriesIn x.district x.first x.last = [] →
    x.unmap = false → x.moves = [] → x.unbind = false → (∀ y ∈ x.window, y.2.msBind = false) → s.coh.moveWait = [] →
    RingUp s x.cmd.ring → x.kept.cmdId = x.cmd.d.cmdId →
    Runs (.directorySearchDone x.cmd.ring x.cmd.d.cmdId) s fun t =>
      t.maps.drains = [] ∧ Ends t x.cmd x.kept.status x.kept.detail x.kept.result)

/-- R85, R164, R295, R566: MEM_MAP maps every page of its range that is not mapped and counts them; MEM_UNMAP of mapped pages waits for the
requests that use them, and of none completes at once; a change of strength converts the District's pages in ascending order, each taking
its new strength; a District that is at its strength already completes at once. Rests on log entries 28, 29. -/
def Obligations.Pages : Prop :=
  (∀ (s : State) (c : Cmd) (x : District),
    let ps := bitsOf c.d.p2 1 0
    let pages := (List.range (c.d.p1 / sizeBytes ps)).map fun i => c.d.p0 / 4096 + i * leafPages ps
    Starts s c .d → c.d.opcode = 0x05 → s.district c.d.district = some x → badRange c.d.p0 c.d.p1 ps = false →
    (x.tiered = true → ps = 0) → (∀ e ∈ s.leavesIn c.d.district (c.d.p0 / 4096) (c.d.p1 / 4096), e.2.size = ps) →
    (s.mapAll c.d.district x ps pages).isSome = true → ((started s c).mapAll c.d.district x ps pages).isSome = true →
    Runs (.memMap c) s fun t =>
      (∀ p ∈ pages, (t.maps.pages.get (pageKey c.d.district p)).isSome = true) ∧
        (∀ k, (s.maps.pages.get k).isSome = true → t.maps.pages.get k = s.maps.pages.get k) ∧ t.maps.districts = s.maps.districts ∧
        ∀ r ∈ (started s c).mapAll c.d.district x ps pages, Ends t c 0 0 r.2) ∧
  (∀ (s : State) (c : Cmd),
    let ps := bitsOf c.d.p2 1 0
    Starts s c .d → c.d.opcode = 0x06 → badRange c.d.p0 c.d.p1 ps = false →
    s.leavesIn c.d.district (c.d.p0 / 4096) (c.d.p1 / 4096) ≠ [] →
    (∀ e ∈ s.leavesIn c.d.district (c.d.p0 / 4096) (c.d.p1 / 4096),
      c.d.p0 / 4096 ≤ e.1 ∧ e.1 + leafPages e.2.size ≤ c.d.p0 / 4096 + c.d.p1 / 4096) →
    Runs (.memUnmap c) s fun t =>
      Running t c ∧ t.maps.pages = s.maps.pages ∧ t.out = s.out ∧
        ∃ x, t.maps.drains = s.maps.drains ++ [x] ∧ x.cmd = c ∧ x.unmap = true ∧ x.needSearch = true ∧ x.first = c.d.p0 / 4096) ∧
  (∀ (s : State) (c : Cmd), Starts s c .d → c.d.opcode = 0x06 → badRange c.d.p0 c.d.p1 (bitsOf c.d.p2 1 0) = false →
    s.leavesIn c.d.district (c.d.p0 / 4096) (c.d.p1 / 4096) = [] →
    Runs (.memUnmap c) s fun t => t.maps = s.maps ∧ t.mem = s.mem ∧ Ends t c 0 0 0) ∧
  (∀ (s : State) (c : Cmd) (x : District), Starts s c .d → c.d.opcode = 0x07 → s.district c.d.district = some x → x.convCmd = none →
    bitsOf c.d.p0 1 0 ≠ 3 → x.strength = bitsOf c.d.p0 1 0 →
    Runs (.districtStrength c) s fun t => t.maps = s.maps ∧ t.mem = s.mem ∧ Ends t c 0 0 0) ∧
  (∀ (s : State) (c : Cmd) (x : District), Starts s c .d → c.d.opcode = 0x07 → s.district c.d.district = some x → x.st = .inService →
    x.convCmd = none → bitsOf c.d.p0 1 0 ≠ 3 → x.strength ≠ bitsOf c.d.p0 1 0 →
    s.convertCost c.d.district (bitsOf c.d.p0 1 0) ≤ s.freeLines → (s.toConvert c.d.district (bitsOf c.d.p0 1 0)).1 ≠ [] →
    Runs (.districtStrength c) s fun t =>
      t.district c.d.district = some { x with
        st := .converting, convCmd := some c, convNext := 0, convDone := 0, convTo := bitsOf c.d.p0 1 0 } ∧ Running t c ∧
        t.maps.pages = s.maps.pages) ∧
  (∀ (s : State) (d : Nat) (x : District) (c : Cmd) (p : Nat) (l : Leaf) (rest : List (Nat × Leaf)) (cs : List (Nat × CopyPage)),
    s.district d = some x → x.convCmd = some c → s.toConvert d x.convTo = ((p, l) :: rest, cs) →
    Runs (.strengthPageDone d) s fun t =>
      t.maps.pages.get (pageKey d p) = some { l with strength := x.convTo } ∧
        (∀ k, k ≠ pageKey d p → t.maps.pages.get k = s.maps.pages.get k) ∧
        ∀ f ∈ t.mem.parityLost, f ∈ s.mem.parityLost ∧ ¬(l.addr ≤ f ∧ f < l.addr + leafPages l.size))

/-- R183, R386, R387, R390, R391, R409: an accelerator ring is created at the lowest free index, running and empty, and is gone once it has
been destroyed and has drained; Crossings are created in blocks of 64 at the lowest free numbers with their initial values; a reset gives
them anew and leaves `SEQ` and the journal; a query returns the word asked for and the number of registrations; a block is destroyed whole.
Rests on log entries 29, 30. -/
def Obligations.CrossingsAndRings : Prop :=
  (∀ (s : State) (c : Cmd) (i : Nat),
    let d := c.d.district
    let cmd := oprefOf c.d.p0
    let cpl := oprefOf c.d.p1
    let n := bitsOf c.d.p2 3 0
    let m := bitsOf c.d.p2 7 4
    Starts s c .d → c.d.opcode = 0x0A → i < 4096 → s.host.rings.has (32768 + i) = false → (∀ j, j < i → s.host.rings.has (32768 + j) = true) →
    4 ≤ n → n ≤ 12 → 5 ≤ m → m ≤ 13 → bitOf c.d.p2 23 = false → c.d.p3 = 0 →
    s.oprefOk d cmd (64 * 2 ^ n) (·.r) = true → s.oprefOk d cpl (32 * 2 ^ m) (·.w) = true →
    s.daOf cmd % (64 * 2 ^ n) = 0 → s.daOf cpl % (32 * 2 ^ m) = 0 → isAccRing c.ring = false →
    Runs (.accRingCreate c) s fun t =>
      t.ring (32768 + i) = { Ring.init with
        st := .running, n := n, m := m, armed := true, acc := some ⟨d, cmd, cpl, none, false, bitsOf c.d.p2 22 8, bitsOf c.d.p2 29 24⟩ } ∧
      t.maps = s.maps ∧ t.mem = s.mem ∧ Ends t c 0 0 (32768 + i)) ∧
  (∀ (s : State) (c : Cmd) (r : Ring) (a : AccInfo),
    let k := 32768 + bitsOf c.d.p0 11 0
    Starts s c .d → c.d.opcode = 0x0B → s.host.rings.get k = some r → r.acc = some a → a.district = c.d.district → r.st = .running →
    r.waiting = [] → r.running = [] → s.host.rings.wf = true → isAccRing c.ring = false →
    Runs (.accRingDestroy c) s fun t => t.host.rings.get k = none ∧ t.maps = s.maps ∧ t.mem = s.mem ∧ Ends t c 0 0 0) ∧
  (∀ (s : State) (c : Cmd) (first : Nat),
    let k := bitsOf c.d.p0 6 0
    let ty := bitsOf c.d.p0 9 8
    let members := bitsOf c.d.p2 15 0
    Starts s c .d → c.d.opcode = 0x20 → 1 ≤ k → k ≤ 64 → s.findRun k = some first → badInit ty (c.d.p1 % 2 ^ 64) members = false →
    Runs (.crossingCreate c) s fun t =>
      (∀ n, first ≤ n → n < first + 64 * k →
        t.crossing n = some ⟨c.d.district, ty, members, c.d.p1 % 2 ^ 64, 0, 0, false, [], 0, [], 0, false⟩) ∧
      (∀ n, ¬(first ≤ n ∧ n < first + 64 * k) → t.crossing n = s.crossing n) ∧
      t.cr.blocks.get first = some (k, c.d.district) ∧ t.mem = s.mem ∧ t.maps = s.maps ∧ Ends t c 0 0 first) ∧
  (∀ (s : State) (c : Cmd),
    let first := bitsOf c.d.p0 14 0
    let k := bitsOf c.d.p0 22 16
    Starts s c .d → c.d.opcode = 0x21 → s.cr.blocks.get first = some (k, c.d.district) → s.cr.blocks.wf = true → s.cr.regs = [] →
    (∀ w ∈ s.maps.windows, w.2.kind ≠ 1 ∨ first + 64 * k ≤ w.2.crossings.1 ∨ w.2.crossings.1 + w.2.crossings.2 ≤ first) →
    Runs (.crossingDestroy c) s fun t =>
      (∀ n, first ≤ n → n < first + 64 * k → t.crossing n = none) ∧
      (∀ n, ¬(first ≤ n ∧ n < first + 64 * k) → t.crossing n = s.crossing n) ∧ t.cr.blocks.get first = none ∧ Ends t c 0 0 0) ∧
  (∀ (s : State) (c : Cmd) (x : Crossing),
    let n := bitsOf c.d.p0 14 0
    Starts s c .d → c.d.opcode = 0x22 → s.crossing n = some x → x.district = c.d.district →
    badInit (bitsOf c.d.p0 17 16) (c.d.p1 % 2 ^ 64) (bitsOf c.d.p2 15 0) = false → (∀ r ∈ s.cr.regs, r.crossing ≠ n) →
    Runs (.crossingReset c) s fun t =>
      t.crossing n = some { x with
        type := bitsOf c.d.p0 17 16, members := bitsOf c.d.p2 15 0, value := c.d.p1 % 2 ^ 64, value2 := 0, sat := false } ∧
      (∀ m, m ≠ n → t.crossing m = s.crossing m) ∧ Ends t c 0 0 0) ∧
  (∀ (s : State) (c : Cmd) (x : Crossing),
    let n := bitsOf c.d.p0 14 0
    let sel := bitsOf c.d.p0 19 16
    Starts s c .d → c.d.opcode = 0x23 → s.crossing n = some x → x.district = c.d.district → sel ≤ 13 →
    Runs (.crossingQuery c) s fun t =>
      t.cr = s.cr ∧ t.mem = s.mem ∧
        Ends t c 0 0 (x.word sel % 2 ^ 64 + (s.cr.regs.filter fun r => r.crossing == n).length % 65536 * 2 ^ 64))

/-- R147, R151, R154 to R156, R158: a cut takes the District's next version in its lowest empty slot, at once or at its instant; a hold is
taken and given back; a release waits for holds and bindings, and one that is still scheduled is cancelled; a query shows the record of
R155. Rests on log entries 29, 31. -/
def Obligations.Milestones : Prop :=
  (∀ (s : State) (c : Cmd) (x : District) (slot : Nat),
    let d := c.d.district
    let ids := cutWindows c.d
    Starts s c .d → c.d.opcode = 0x10 → s.district d = some x → x.st ≠ .erasing → x.st ≠ .renumbering → s.emptySlot d = some slot →
    x.copyQuota ≠ 0 → c.d.p0 = 0 → 1 ≤ bitsOf c.d.p1 3 0 → bitsOf c.d.p1 3 0 ≤ 8 → ids.Nodup →
    (∀ k ∈ ids, ∃ w ∈ s.maps.windows.get k, w.kind = 0 ∧ w.district = d ∧ w.msBind = false) → x.nextVersion < 2 ^ 32 →
    s.anyGap = false →
    Runs (.milestoneCut c) s fun t =>
      t.msSlot d slot = some ⟨2, x.nextVersion, 0, s.time.ft, ids.filterMap fun k => (s.maps.windows.get k).map fun w =>
        (w.base / 4096, w.base / 4096 + w.lastPage), false, none⟩ ∧
      t.district d = some { x with nextVersion := x.nextVersion + 1 } ∧ t.mem = s.mem ∧ t.maps.pages = s.maps.pages ∧
      Ends t c 0 0 (x.nextVersion + slot * 2 ^ 32 + s.time.ft % 2 ^ 64 * 2 ^ 64)) ∧
  (∀ (s : State) (c : Cmd) (x : District) (slot : Nat),
    let d := c.d.district
    let ids := cutWindows c.d
    Starts s c .d → c.d.opcode = 0x10 → s.district d = some x → x.st ≠ .erasing → x.st ≠ .renumbering → s.emptySlot d = some slot →
    x.copyQuota ≠ 0 → c.d.p0 ≠ 0 → s.eventRoom = true → s.instantOk c.d.p0 = true → 1 ≤ bitsOf c.d.p1 3 0 → bitsOf c.d.p1 3 0 ≤ 8 →
    ids.Nodup → (∀ k ∈ ids, ∃ w ∈ s.maps.windows.get k, w.kind = 0 ∧ w.district = d ∧ w.msBind = false) →
    x.nextVersion < 2 ^ 32 →
    Runs (.milestoneCut c) s fun t =>
      (∃ m, t.msSlot d slot = some m ∧ m.st = 1 ∧ m.version = x.nextVersion ∧ m.cmd = some c) ∧
      t.time.events = s.time.events ++ [⟨c.d.p0, .cut d slot, some c⟩] ∧ Running t c ∧ t.out = s.out) ∧
  (∀ (s : State) (c : Cmd) (k : Nat) (m : MsSlot), Starts s c .d → c.d.opcode = 0x11 → k < 16 → s.msSlot c.d.district k = some m →
    m.st = 2 → m.version = bitsOf c.d.p0 31 0 → m.holds < 65535 →
    (∀ j, j < k → ∀ y ∈ s.msSlot c.d.district j, ¬(y.st = 2 ∧ y.version = bitsOf c.d.p0 31 0)) →
    Runs (.milestoneOpen c) s fun t =>
      t.msSlot c.d.district k = some { m with holds := m.holds + 1 } ∧ t.maps = s.maps ∧ t.mem = s.mem ∧
        Ends t c 0 0 (k + (m.holds + 1) * 65536)) ∧
  (∀ (s : State) (c : Cmd) (m : MsSlot), Starts s c .d → c.d.opcode = 0x12 → bitsOf c.d.p0 7 0 ≤ 15 →
    s.msSlot c.d.district (bitsOf c.d.p0 7 0) = some m → m.st = 2 → 0 < m.holds →
    Runs (.milestoneClose c) s fun t =>
      t.msSlot c.d.district (bitsOf c.d.p0 7 0) = some { m with holds := m.holds - 1 } ∧ t.maps = s.maps ∧ t.mem = s.mem ∧
        Ends t c 0 0 ((m.holds - 1) * 65536)) ∧
  (∀ (s : State) (c : Cmd) (m : MsSlot), Starts s c .d → c.d.opcode = 0x12 → bitsOf c.d.p0 7 0 ≤ 15 →
    s.msSlot c.d.district (bitsOf c.d.p0 7 0) = some m → m.st = 3 → m.holds = 1 → s.bound c.d.district (bitsOf c.d.p0 7 0) = 0 →
    s.ms.slots.wf = true →
    Runs (.milestoneClose c) s fun t => t.msSlot c.d.district (bitsOf c.d.p0 7 0) = none ∧ Ends t c 0 0 0) ∧
  (∀ (s : State) (c : Cmd) (m : MsSlot), Starts s c .d → c.d.opcode = 0x13 → bitsOf c.d.p0 7 0 ≤ 15 →
    s.msSlot c.d.district (bitsOf c.d.p0 7 0) = some m → m.st = 2 → 0 < m.holds →
    Runs (.milestoneRelease c) s fun t =>
      t.msSlot c.d.district (bitsOf c.d.p0 7 0) = some { m with st := 3 } ∧ t.maps = s.maps ∧ t.mem = s.mem ∧ Ends t c 0 0 3) ∧
  (∀ (s : State) (c : Cmd) (m : MsSlot), Starts s c .d → c.d.opcode = 0x13 → bitsOf c.d.p0 7 0 ≤ 15 →
    s.msSlot c.d.district (bitsOf c.d.p0 7 0) = some m → m.st = 1 → m.cmd = none → s.ms.slots.wf = true →
    Runs (.milestoneRelease c) s fun t =>
      t.msSlot c.d.district (bitsOf c.d.p0 7 0) = none ∧
        (∀ e ∈ t.time.events, e.kind ≠ .cut c.d.district (bitsOf c.d.p0 7 0)) ∧ Ends t c 0 0 0) ∧
  (∀ (s : State) (c : Cmd), Starts s c .d → c.d.opcode = 0x15 → bitsOf c.d.p0 7 0 ≤ 15 →
    Runs (.milestoneQuery c) s fun t =>
      t.ms = s.ms ∧ t.maps = s.maps ∧ t.mem = s.mem ∧ Ends t c 0 0 (s.msRecord c.d.district (bitsOf c.d.p0 7 0)))

/-- R151, R157, R159 to R165: renumbering stops service until the District's Milestones are numbered from 1 in the order of their cuts; a
sweep marks what still has to be copied; a finished copy holds the page's content and is named in the map of every Milestone that needs it;
the changes that waited go on; an abandoned copy starts again; the pages of a freed Milestone return. Rests on log entry 31. -/
def Obligations.CopiesAndRenumbering : Prop :=
  (∀ (s : State) (c : Cmd) (x : District), Starts s c .d → c.d.opcode = 0x14 → s.district c.d.district = some x → x.st ≠ .erasing →
    x.st ≠ .renumbering → (∀ k, k < 16 → ∀ m ∈ s.msSlot c.d.district k, m.st ≠ 1) →
    Runs (.milestoneRenumber c) s fun t =>
      t.district c.d.district = some { x with st := .renumbering, busyCmd := some c } ∧ Running t c ∧ t.ms = s.ms ∧
        DistrictsKept s t c.d.district) ∧
  (∀ (s : State) (d : Nat) (x : District) (c : Cmd), s.district d = some x → x.st = .renumbering → x.busyCmd = some c → RingUp s c.ring →
    s.ms.slots.wf = true →
    Runs (.renumberDone d) s fun t =>
      let n := ((List.range 16).filter fun k => (s.msSlot d k).isSome).length
      t.district d = some { x with
        st := if x.convCmd.isSome then .converting else .inService, nextVersion := n + 1, busyCmd := none } ∧
      (∀ k, k < 16 → ∀ m ∈ s.msSlot d k, t.msSlot d k = some { m with version := s.cutRank d k m + 1 }) ∧
      (∀ e k, e ≠ d → k < 16 → t.msSlot e k = s.msSlot e k) ∧
      Ends t c 0 0 ((if n = 0 then 0 else 1) + (n + 1) * 2 ^ 32)) ∧
  (∀ (s : State) (d slot : Nat) (m : MsSlot), s.msSlot d slot = some m → m.st = 2 ∨ m.st = 3 →
    Runs (.cowSweepDone d slot) s fun t => t.msSlot d slot = some { m with swept := true } ∧ t.mem = s.mem ∧ t.out = s.out) ∧
  (∀ (s : State) (d page : Nat) (c : Copying) (first : Nat) (l : Leaf), s.copyingAt d page = some c → s.maps.leafAt d page = some (first, l) →
    c.landed = false → c.abandoned = false → (l.tiered = true → l.resident = true) → s.anyGap = false → c.olds = [] →
    s.mem.isUnbound (leafFrame first l page) = false → c.frame ≠ leafFrame first l page → s.mem.wf = true →
    Runs (.cowChunksDone d page) s fun t =>
      (∀ i, i < 64 → t.mem.line (c.frame * 64 + i) = s.mem.line (leafFrame first l page * 64 + i)) ∧
      (∀ k ∈ c.slots, t.ms.maps.get (mapKey d k page) = some ⟨false, false, false, c.frame⟩)) ∧
  (∀ (s : State) (d page : Nat) (c : Copying), s.copyingAt d page = some c → c.landed = true → c.waiting = [] →
    (∀ e ∈ s.coh.dir, ∀ b ∈ e.2.busy, b.awaited ≠ [] ∨ b.wbw ≠ []) →
    Runs (.cowMapInvalidated d page) s fun t => c ∉ t.ms.copying ∧ t.mem = s.mem ∧ t.out = s.out) ∧
  (∀ (s : State) (d page : Nat) (c : Copying) (first : Nat) (l : Leaf), s.copyingAt d page = some c →
    s.maps.leafAt d page = some (first, l) → c.abandoned = true → (∀ k, k < 8 → s.isOpen k = true) →
    (s.allocRun 1 (s.regs.colour (page * 4096)) l.strength).isSome = true → s.ms.copying = [c] →
    Runs (.cowCopyRestart d page) s fun t => ∀ r ∈ s.allocRun 1 (s.regs.colour (page * 4096)) l.strength,
      t.ms.copying = [{ c with frame := r.1, abandoned := false }] ∧
      (∀ k ∈ c.slots, t.ms.maps.get (mapKey d k page) = some ⟨false, false, true, r.1⟩)) ∧
  (∀ (s : State) (d slot : Nat) (fs : List Nat), s.ms.returning.get (slotKey d slot) = some fs → (∀ f ∈ fs, f < flashMark) →
    s.ms.returning.wf = true →
    Runs (.copyPageReturn d slot) s fun t =>
      t.ms.returning.get (slotKey d slot) = none ∧ t.maps.freed = s.maps.freed ++ fs.map fun f => (f, 1)) ∧
  (∀ (s : State) (d : Nat) (x : District), s.district d = some x → x.copyQuota * 90 ≤ s.dramCopies d * 100 →
    Runs (.copyDemote d) s fun t =>
      t.dramCopies d * 100 < x.copyQuota * 80 ∨ x.fcopyQuota ≤ t.flashCopies d ∨ t.coldCopy d = none ∨ t.allocLoc x.fgroup = none) ∧
  (∀ (s : State) (d : Nat) (x : District), s.district d = some x → (∀ p ∈ s.ms.spaceWait, p.district ≠ d) →
    Runs (.copySpaceFreed d) s fun t => t.district d = some { x with waitTold := false } ∧ t.ms = s.ms) ∧
  (∀ (s : State) (d : Nat) (p : Pend), s.ms.spaceWait = [p] → p.district = d → s.copyRoom p = true → p.op = .writeLine → p.mask ≠ 0 →
    p.bound = none → s.coh.early = [] → s.coh.dir = [] → s.ms.copying = [] → s.needCopy d (p.da / 4096) ≠ [] →
    Runs (.copySpaceFreed d) s fun t =>
      t.ms.spaceWait = [] ∧ ∃ c, t.ms.copying = [c] ∧ c.waiting = [p] ∧ c.page = p.da / 4096 ∧ c.slots = s.needCopy d (p.da / 4096))
namespace Sys2Proof.Claims

open Sys2Proof Sys2Proof.Machine

/-- No recall is about to end: every BUSY entry still awaits something (R134). -/
def NoneEnding (s : State) : Prop := ∀ e ∈ s.coh.dir, ∀ b ∈ e.2.busy, b.awaited ≠ [] ∨ b.wbw ≠ []

/-- Nothing at its home stands in the way of an access to some lines of a District page that is mapped to `pa`: the page is resident and not
being moved, copied or demoted, its share is open, no directory entry and no early read concerns the lines, which stand in the line cache
in clear, and no recall is about to end (R84, R87, R123, R132, R160, R289). -/
def Homed (s : State) (d da pa len : Nat) : Prop :=
  (∃ e ∈ s.maps.leafAt d (da / 4096), (e.2.tiered = true → e.2.resident = true) ∧
    s.maps.leafLost d (da / 4096) = false ∧ pa = leafFrame e.1 e.2 (da / 4096) * 4096 + da % 4096) ∧
  s.maps.drains = [] ∧ s.flash.demos = [] ∧ (s.share (s.regs.home pa)).st = .opened ∧ s.needCopy d (da / 4096) = [] ∧ s.ms.copying = [] ∧
  s.coh.early = [] ∧ s.coh.fetch = [] ∧ NoneEnding s ∧
  (∀ l ∈ [pa / 64, (pa + len - 1) / 64], s.coh.dir.get l = none ∧ s.mem.cache.has l = true ∧ s.mem.poisoned l = false ∧
    s.mem.known l = BitVec.allOnes 64 ∧ s.setFull l = false)

/-- A request passes steps 2 to 8 of R80 on a memory window that binds no Milestone, and its page is `Homed`. -/
def Served (s : State) (port : JPort) (r : Req) (off len : Nat) (perm : Window → Bool) (w : Window) (pa : Nat) : Prop :=
  s.coh.ledger = [] ∧ s.maps.windows.get r.window = some w ∧
    (∃ d ∈ s.district w.district, (d.st = .inService ∨ d.st = .converting) ∧ (d.level = 3 → (s.jl port).encOn = true) ∧
      s.coh.trackers.length + 1 < d.trkLimit) ∧
    s.isFenced r.src = false ∧ w.admits r.src = true ∧ w.kind = 0 ∧ perm w = true ∧ off + len ≤ w.span ∧ w.msBind = false ∧
    w.base % 4096 = 0 ∧ (s.share (s.regs.steer off)).st = .opened ∧ s.coh.trackers.length + s.avFld (s.regs.steer off) 0x200 10 0 + 1 < 8192 ∧
    Homed s w.district (w.base + off) pa len ∧ s.mute = false

/-- An answer to a requester has been sent (R76). -/
def Answered (t : State) (port : Nat) (op : DatOp) (src tag status elem detail : Nat) (data : Option (List Byte)) : Prop :=
  Out.dat port ⟨op, src, tag, status, elem, detail, data⟩ ∈ t.out

/-- An answer is ready and waits until its change is mirrored, or in DRAM (R30, R31). -/
def AnswerHeld (t : State) (line : Nat) (a : Dat) : Prop :=
  ∃ x ∈ t.coh.acks, x.line = line ∧ x.answer = a ∧ (x.needMirror = true ∨ x.needDram = true)

end Sys2Proof.Claims

/-- R75, R77, R80, R81, R110, R116, R133: reads of a line that nobody holds are answered with its bytes; a ReadShared makes the requester a
holder in S, a ReadOwn and a near Atomic-Any make it the owner, and a ReadOnce records nothing; a request whose window is not valid, or that
its window does not permit, or that is malformed, changes nothing but its answer, which names the first check that fails. Rests on log entry
37. -/
def Obligations.ReadsAtHome : Prop :=
  (∀ (s : State) (port : JPort) (r : Req) (w : Window) (pa : Nat), reqReadWf r = true → r.earlyOk = false →
    Served s port r r.offset 64 (·.r) w pa →
    Runs (.readShared port r) s fun t =>
      Answered t port .data r.src r.tag 0 0 0 (some (lineBytes (s.mem.line (pa / 64)) 0 64)) ∧
      (∃ e, t.coh.dir.get (pa / 64) = some e ∧ e.st = .shared ∧ e.p0 = r.src ∧ e.p1 = r.src ∧ e.busy = none ∧ e.coarse = false) ∧
      t.mem = s.mem ∧ t.coh.ledger = []) ∧
  (∀ (s : State) (port : JPort) (r : Req) (w : Window) (pa : Nat), reqReadWf r = true → r.earlyOk = false →
    Served s port r r.offset 64 (fun w => w.r && w.w) w pa →
    Runs (.readOwn port r) s fun t =>
      Answered t port .data r.src r.tag 0 0 0 (some (lineBytes (s.mem.line (pa / 64)) 0 64)) ∧
      (∃ e, t.coh.dir.get (pa / 64) = some e ∧ e.st = .owned ∧ e.p0 = r.src ∧ e.p1 = r.src ∧ e.atom = false ∧ e.busy = none) ∧
      t.mem = s.mem) ∧
  (∀ (s : State) (port : JPort) (r : Req) (w : Window) (pa : Nat), reqOnceWf r = true → r.earlyOk = false →
    Served s port r r.offset r.length (·.r) w pa →
    Runs (.readOnce port r) s fun t =>
      (∃ bs, Answered t port .data r.src r.tag 0 0 0 (some bs) ∧ ∀ i, i < r.length → bs.getD (pa % 16 + i) 0 = s.mem.byte (pa + i)) ∧
      t.coh.dir = s.coh.dir ∧ t.mem = s.mem) ∧
  (∀ (s : State) (port : JPort) (r : Req) (w : Window) (pa off len : Nat), reqGatherWf r = true → r.gcount = 0 → r.elems = [(off, len)] →
    s.coh.gathers = [] → Served s port r off len (·.r) w pa →
    Runs (.readGather port r) s fun t =>
      (∃ bs, Answered t port .data r.src r.tag 0 0 0 (some bs) ∧ ∀ i, i < len → bs.getD (pa % 16 + i) 0 = s.mem.byte (pa + i)) ∧
      Answered t port .comp r.src r.tag 0 0 0 none ∧ t.coh.dir = s.coh.dir ∧ t.coh.ledger = [] ∧ t.mem = s.mem) ∧
  (∀ (s : State) (port : JPort) (r : Req) (w : Window) (pa atop : Nat), atop ≤ 9 → reqAtomicWf r atop = true →
    Served s port r r.offset r.size (·.a) w pa → w.r = true → w.w = true → s.avFld (s.regs.home pa) 0x304 1 0 = 1 →
    Runs (.atomicAnyNear port atop r) s fun t =>
      Answered t port .data r.src r.tag 0 0 0 (some (lineBytes (s.mem.line (pa / 64)) 0 64)) ∧
      (∃ e, t.coh.dir.get (pa / 64) = some e ∧ e.st = .owned ∧ e.p0 = r.src ∧ e.atom = true ∧ e.busy = none) ∧ t.mem = s.mem) ∧
  (∀ (s : State) (port : JPort) (r : Req), s.coh.ledger = [] → NoneEnding s → reqReadWf r = false → s.mute = false →
    Runs (.readShared port r) s fun t => Answered t port .data r.src r.tag 4 0 5 none ∧ t.mem = s.mem ∧ t.maps = s.maps) ∧
  (∀ (s : State) (port : JPort) (r : Req), s.coh.ledger = [] → NoneEnding s → reqReadWf r = true → s.maps.windows.get r.window = none → s.mute = false →
    Runs (.readOwn port r) s fun t => Answered t port .data r.src r.tag 4 0 1 none ∧ t.mem = s.mem ∧ t.maps = s.maps) ∧
  (∀ (s : State) (port : JPort) (r : Req) (w : Window) (d : District), s.coh.ledger = [] → NoneEnding s → reqWriteWf r = true →
    s.maps.windows.get r.window = some w → s.district w.district = some d → d.st = .inService → s.isFenced r.src = false →
    w.admits r.src = true → w.kind = 0 → d.level ≠ 3 → w.w = false → w.msBind = false → s.mute = false →
    Runs (.writeLine port r) s fun t => Answered t port .comp r.src r.tag 4 0 3 none ∧ t.mem = s.mem ∧ t.maps = s.maps)

/-- R30, R73, R74, R109, R133: a write, a WriteBack and a far atomic change exactly the bytes that they name, and their answer waits until
the change is mirrored; an atomic answers with the old value, and its new value is the sum, which wraps, the logical combination, the signed
or unsigned extreme, the operand, or the operand where the old value equals the one compared. Rests on log entries 37, 38. -/
def Obligations.WritesAtHome : Prop :=
  (∀ (s : State) (port : JPort) (r : Req) (w : Window) (pa : Nat), reqWriteWf r = true → r.mask ≠ 0 →
    Served s port r r.offset 64 (·.w) w pa →
    Runs (.writeLine port r) s fun t =>
      (∀ i, i < 64 → t.mem.byte (pa / 64 * 64 + i) =
        (if r.mask.getLsbD i then r.data.extractLsb' (i * 8) 8 else s.mem.byte (pa / 64 * 64 + i))) ∧
      (∀ l, l ≠ pa / 64 → t.mem.line l = s.mem.line l) ∧
      AnswerHeld t (pa / 64) ⟨.comp, r.src, r.tag, 0, 0, 0, none⟩ ∧ (∀ o ∈ t.out, o ∈ s.out ∨ o = .snoop (pa / 64))) ∧
  (∀ (s : State) (port : JPort) (r : Req) (w : Window) (pa : Nat) (e : DirEntry), reqWriteWf r = true → r.mask = BitVec.allOnes 64 →
    Served { s with coh := { s.coh with dir := s.coh.dir.del (pa / 64) } } port r r.offset 64 (·.w) w pa →
    s.coh.dir.wf = true → s.coh.dir.get (pa / 64) = some e → e.busy = none → e.st = .owned → e.p0 = r.src →
    Runs (.writeBack port r) s fun t =>
      t.coh.dir.get (pa / 64) = none ∧ t.mem.line (pa / 64) = r.data ∧ (∀ l, l ≠ pa / 64 → t.mem.line l = s.mem.line l) ∧
      AnswerHeld t (pa / 64) ⟨.comp, r.src, r.tag, 0, 0, 0, none⟩) ∧
  (∀ (s : State) (port : JPort) (r : Req) (w : Window) (pa : Nat) (f : JPort → Req → Instr) (atop : Nat),
    (f, atop) ∈ ([(.atomicAdd, 0), (.atomicAnd, 1), (.atomicOr, 2), (.atomicXor, 3), (.atomicSmax, 4), (.atomicSmin, 5), (.atomicUmax, 6),
      (.atomicUmin, 7), (.atomicSwap, 8), (.atomicCas, 9)] : List ((JPort → Req → Instr) × Nat)) →
    reqAtomicWf r atop = true → Served s port r r.offset r.size (·.a) w pa →
    Runs (f port r) s fun t =>
      let old := (s.mem.line (pa / 64) >>> (pa % 64 * 8)).toNat % 2 ^ (8 * r.size)
      (t.mem.line (pa / 64) >>> (pa % 64 * 8)).toNat % 2 ^ (8 * r.size) = atomicValue atop r.size old r.operand.toNat r.compare.toNat ∧
      (∀ a, ¬(pa ≤ a ∧ a < pa + r.size) → t.mem.byte a = s.mem.byte a) ∧
      AnswerHeld t (pa / 64) ⟨.atomicResult, r.src, r.tag, 0, 0, 0, some (leBytes 16 old)⟩) ∧
  (∀ (size old operand compare : Nat), size = 4 ∨ size = 8 → old < 2 ^ (8 * size) → operand < 2 ^ (8 * size) → compare < 2 ^ (8 * size) →
     atomicValue 0 size old operand compare = (old + operand) % 2 ^ (8 * size) ∧
     atomicValue 1 size old operand compare = (old &&& operand) ∧ atomicValue 2 size old operand compare = (old ||| operand) ∧
     atomicValue 3 size old operand compare = (old ^^^ operand) ∧
     signedOf (8 * size) (atomicValue 4 size old operand compare) = max (signedOf (8 * size) old) (signedOf (8 * size) operand) ∧
     signedOf (8 * size) (atomicValue 5 size old operand compare) = min (signedOf (8 * size) old) (signedOf (8 * size) operand) ∧
     atomicValue 6 size old operand compare = max old operand ∧ atomicValue 7 size old operand compare = min old operand ∧
     atomicValue 8 size old operand compare = operand ∧
     atomicValue 9 size old operand compare = (if old = compare then operand else old))

/-- R107, R113, R128, R134: a node's answer to a recall is counted; the data of a node recalled as owner becomes the line; a node that does
not answer, or whose announced WriteBack does not come, is fenced, loses its registrations and counts as having answered. Rests on log
entries 6, 39. -/
def Obligations.RecallAnswers : Prop :=
  (∀ (s : State) (port : JPort) (m : Rsp) (line : Nat) (e : DirEntry) (b : Busy), s.isFenced m.src = false → s.coh.allWaits = [] →
    s.inGap (m.tag / 8192) = false → s.busyOf m.tag = some (line, e) → s.coh.dir.get line = some e → e.busy = some b →
    m.src ∈ b.awaited → (∃ n ∈ b.awaited, n ≠ m.src) → bitOf m.rflags 0 = false →
    Runs (.recallAck port m) s fun t =>
      t.coh.dir.get line = some { e with busy := some { b with awaited := b.awaited.filter (· != m.src) } } ∧ t.mem = s.mem ∧ t.out = s.out) ∧
  (∀ (s : State) (port : JPort) (m : Rsp), s.isFenced m.src = false →
    (∃ a ∈ s.coh.allWaits, a.share = m.tag / 8192 ∧ a.tag = m.tag ∧ a.node = m.src) →
    Runs (.recallAck port m) s fun t =>
      (∀ a ∈ t.coh.allWaits, a ∈ s.coh.allWaits ∧ ¬(a.share = m.tag / 8192 ∧ a.tag = m.tag ∧ a.node = m.src)) ∧ t.mem = s.mem) ∧
  (∀ (s : State) (port : JPort) (m : Rsp) (line : Nat) (e : DirEntry) (b : Busy), s.isFenced m.src = false → s.coh.allWaits = [] →
    s.inGap (m.tag / 8192) = false → s.busyOf m.tag = some (line, e) → s.coh.dir.get line = some e → e.busy = some b →
    b.awaited = [m.src] → b.wbw = [] → b.owner = some m.src → b.kind = .bp → b.req = none → s.coh.waits = [] → s.coh.evictWait = [] →
    s.coh.dir.wf = true → s.needCopy e.district (e.da / 4096) = [] → s.ms.copying = [] →
    Runs (.recallData port m) s fun t =>
      t.mem.line line = m.data ∧ (∀ l, l ≠ line → t.mem.line l = s.mem.line l) ∧ t.coh.dir.get line = none) ∧
  (∀ (s : State) (line node : Nat) (e : DirEntry) (b : Busy), s.coh.dir.get line = some e → e.busy = some b → node ∈ b.awaited →
    (∃ n ∈ b.awaited, n ≠ node) → s.isFenced node = false →
    Runs (.recallTimeout line node) s fun t =>
      t.coh.fenced.get node = some s.time.ft ∧ (∀ r ∈ t.cr.regs, r.node ≠ node) ∧ t.mem = s.mem ∧
        t.coh.dir.get line = some { e with busy := some { b with awaited := b.awaited.filter (· != node) } }) ∧
  (∀ (s : State) (share : Share) (d node : Nat), (∃ a ∈ s.coh.allWaits, a.share = share.val ∧ a.district = d ∧ a.node = node) →
    s.isFenced node = false →
    Runs (.recallallTimeout share d node) s fun t =>
      t.coh.fenced.get node = some s.time.ft ∧ (∀ r ∈ t.cr.regs, r.node ≠ node) ∧
        ∀ a ∈ t.coh.allWaits, ¬(a.share = share.val ∧ a.district = d ∧ a.node = node)) ∧
  (∀ (s : State) (line node : Nat) (e : DirEntry) (b : Busy), s.coh.dir.get line = some e → e.busy = some b → node ∈ b.wbw →
    b.awaited ≠ [] → s.isFenced node = false →
    Runs (.wbwTimeout line node) s fun t =>
      t.coh.fenced.get node = some s.time.ft ∧ t.mem = s.mem ∧
        t.coh.dir.get line = some { e with busy := some { b with wbw := b.wbw.filter (· != node) } })

/-- R30, R82, R117, R119, R122, R123, R136, R356: an early read is settled where no reason to revoke it holds, and makes a ReadShared a
holder; a test, or a decision that comes too late, revokes it, and it is then served as if it had just arrived; an answer that waited for
its mirror copy or its snoop lap is sent; the predictor decays; a request held for 2 s is answered RETRY_LATER; a WriteBack that waited for
a tracker is taken up when one is free. Rests on log entries 6, 37. -/
def Obligations.EarlyAndReleased : Prop :=
  (∀ (s : State) (port : JPort) (src tag : Nat) (p : Pend), s.coh.early = [⟨p, false, false, false⟩] → p.port = port.val → p.src = src →
    p.tag = tag → p.op = .readShared → p.bound = none → p.len = 64 → p.pa % 64 = 0 → s.coh.dir.get (p.pa / 64) = none →
    s.setFull (p.pa / 64) = false → s.maps.drains = [] → s.coh.waits = [] → s.mute = false →
    Runs (.earlyDecision port src tag false) s fun t =>
      Out.settle 12 src tag 0 ∈ t.out ∧ t.coh.early = [] ∧ t.mem = s.mem ∧
        ∃ e, t.coh.dir.get (p.pa / 64) = some e ∧ e.st = .shared ∧ e.p0 = src ∧ e.busy = none) ∧
  (∀ (s : State) (port : JPort) (src tag : Nat) (p : Pend) (forced : Bool) (f : JPort → Nat → Nat → Instr) (why : Nat),
    (f, why) ∈ ([(fun q a b => .earlyDecision q a b false, 7), (.earlyDeadline, 5)] : List ((JPort → Nat → Nat → Instr) × Nat)) →
    s.coh.early = [⟨p, true, false, false⟩] → p.port = port.val → p.src = src → p.tag = tag → p.op = .readShared → p.bound = none →
    p.elem = none → p.len = 64 → p.da % 64 = 0 → Homed { s with coh := { s.coh with early := [] } } p.district p.da p.pa 64 →
    p.steer = s.regs.home p.pa → s.coh.waits = [] → s.mute = false →
    Runs (f port src tag) s fun t =>
      Out.settle 12 src tag why ∈ t.out ∧ t.coh.early = [] ∧
        Answered t port .data src tag 0 0 0 (some (lineBytes (s.mem.line (p.pa / 64)) 0 64))) ∧
  (∀ (s : State) (line : Nat) (a : Ack), s.coh.acks = [a] → a.line = line → a.needSnoop = false → a.needDram = false → a.p.port < 12 →
    a.after = [] → s.mem.mirrorWait = [] → s.cr.queue = [] → s.mute = false →
    Runs (.mirrorConfirm line) s fun t => t.coh.acks = [] ∧ Out.dat a.p.port a.answer ∈ t.out) ∧
  (∀ (s : State) (line : Nat) (a : Ack), s.coh.acks = [a] → a.line = line → a.needMirror = false → a.needDram = false → a.p.port < 12 →
    a.after = [] → s.mute = false →
    Runs (.snoopLapDone line) s fun t =>
      t.coh.acks = [] ∧ Out.dat a.p.port a.answer ∈ t.out ∧ ∀ c, t.mem.cache.get line = some c → c.mark = false) ∧
  (∀ (s : State) (share : Share) (k : Nat) (p : Predictor), s.avFld share 0x304 23 8 ≠ 0 → s.coh.pred.get k = some p → k / 4096 = share.val →
    Runs (.predictorDecay share) s fun t => t.coh.pred.get k = some { p with count := p.count - 1 }) ∧
  (∀ (s : State) (port : JPort) (src tag : Nat) (x : Ledger) (p : Pend), s.coh.ledger = [x] → x.port = port.val → x.src = src → x.tag = tag →
    s.heldReqs port src tag = [p] → p.elem = none → s.mute = false →
    Runs (.requestHeldTimeout port src tag) s fun t =>
      Answered t port (p.op.answer false) src tag 2 0 8 none ∧ x.since + 2000000000 ≤ t.clock) ∧
  (∀ (s : State) (share : Share) (p : Pend) (e : DirEntry), s.coh.wbWait = [p] → p.steer = share.val → s.trackersOf share < 8192 →
    p.op = .writeBack → p.port < 12 → p.bound = none → p.mask = BitVec.allOnes 64 → p.steer = s.regs.home p.pa → p.da % 64 = 0 →
    Homed { s with coh := { s.coh with dir := s.coh.dir.del (p.pa / 64) } } p.district p.da p.pa 64 → s.coh.dir.wf = true →
    s.coh.dir.get (p.pa / 64) = some e → e.busy = none → e.st = .owned → e.p0 = p.src →
    Runs (.writebackTrackerGrant share) s fun t =>
      t.coh.wbWait = [] ∧ t.coh.dir.get (p.pa / 64) = none ∧ t.mem.line (p.pa / 64) = p.data)
namespace Sys2Proof.Claims

open Sys2Proof Sys2Proof.Machine

/-- The Crossing operations by their codes (R174). -/
def crossingRows : List ((JPort → Bool → Req → Instr) × Nat) :=
  [(.crRead, 0x10), (.semRelease, 0x11), (.semAcquire, 0x12), (.semWait, 0x13), (.jctArrive, 0x14), (.jctWait, 0x15), (.flagSet, 0x16),
   (.flagOr, 0x17), (.flagClear, 0x18), (.flagWait, 0x19), (.tktTake, 0x1A), (.tktRelease, 0x1B), (.tktWait, 0x1C), (.crUnwait, 0x1D)]

/-- An operation of a type that fits reaches a Crossing with a good argument: its window and its tracker pass R80, and fewer than four operations
on the Crossing await their answers (R171, R172, R177). -/
def AtCrossing (s : State) (port : JPort) (r : Req) (code : Nat) (w : Window) (n : Nat) (c : Crossing) : Prop :=
  s.coh.ledger = [] ∧ reqCrossWf r code = true ∧ s.maps.windows.get r.window = some w ∧
    (∃ d ∈ s.district w.district, (d.st = .inService ∨ d.st = .converting) ∧ (d.level = 3 → (s.jl port).encOn = true) ∧
      s.coh.trackers.length < d.trkLimit) ∧
    s.isFenced r.src = false ∧ w.admits r.src = true ∧ w.kind = 1 ∧ w.a = true ∧ r.offset + 8 ≤ w.span ∧ w.base % 4096 = 0 ∧ n = (w.base + r.offset) / 64 ∧
    (s.share (n % 8)).st = .opened ∧ s.coh.trackers.length + s.avFld (n % 8) 0x200 10 0 < 8192 ∧
    s.crossing n = some c ∧ c.lost = false ∧ s.crOpen n < 4 ∧ s.cr.queue = [] ∧ (opType code = none ∨ opType code = some c.type) ∧
    badArg code (r.operand.toNat % 2 ^ 48) = false ∧ s.mute = false

/-- No registration of the requester with the request's cookie stands in the Crossing's share (R179). -/
def FreshWaiter (s : State) (r : Req) (n : Nat) : Prop :=
  ∀ x ∈ s.cr.regs, x.crossing % 8 = n % 8 → ¬(x.node = r.src ∧ x.cookie = r.operand.toNat / 2 ^ 48)

end Sys2Proof.Claims

/-- R173 to R181: what each operation gives and leaves, by its code, on a Crossing of its type whose counters are not at their maxima; an
operation that changes a Crossing advances `SEQ`, is journalled and is answered once its backing line is written; one that changes nothing
is answered at once; a wait whose condition does not hold registers the requester, and CR_UNWAIT ends its registration. Rests on log entries
6, 30. -/
def Obligations.Crossings : Prop :=
  (∀ (c : Crossing) (a : Nat), c.value + a < 2 ^ 64 → c.value + 1 < 2 ^ 64 → c.value2 + 1 < 2 ^ 48 →
     c.effect 0x10 a = ⟨c, c.word a, 0, false, false, false⟩ ∧
     c.effect 0x11 a = ⟨{ c with value := c.value + a }, c.value, 0, true, false, false⟩ ∧
     (a ≤ c.value → c.effect 0x12 a = ⟨{ c with value := c.value - a }, c.value, 0, true, false, false⟩ ∧ c.effect 0x13 a = c.effect 0x12 a) ∧
     (c.value < a → c.effect 0x12 a = ⟨c, c.value, 3, false, false, false⟩ ∧ c.effect 0x13 a = ⟨c, c.value, 3, false, true, false⟩) ∧
     (c.value + 1 = c.members → c.effect 0x14 a =
       ⟨{ c with value := 0, value2 := c.value2 + 1 }, c.value % 65536 + c.value2 * 65536, 10, true, false, false⟩) ∧
     (c.value + 1 ≠ c.members → c.effect 0x14 a = ⟨{ c with value := c.value + 1 }, c.value % 65536 + c.value2 * 65536, 0, true, false, false⟩) ∧
     c.effect 0x15 a = ⟨c, c.value2, 1, false, c.value2 == a, false⟩ ∧
     c.effect 0x16 a = ⟨{ c with value := a }, c.value, 0, true, false, false⟩ ∧
     c.effect 0x17 a = ⟨{ c with value := c.value ||| a }, c.value, 0, true, false, false⟩ ∧
     ((c.effect 0x18 a).c.value &&& a = 0 ∧ ((c.effect 0x18 a).c.value ||| (c.value &&& a)) = c.value ∧ (c.effect 0x18 a).result = c.value) ∧
     c.effect 0x19 a = ⟨c, c.value, 1, false, c.value &&& a == 0, false⟩ ∧
     c.effect 0x1A a = ⟨{ c with value := c.value + 1 }, c.value, 0, true, false, false⟩ ∧
     (c.value2 = a → c.effect 0x1B a = ⟨{ c with value2 := c.value2 + 1 }, c.value2, 0, true, false, false⟩) ∧
     (c.value2 ≠ a → c.effect 0x1B a = ⟨c, c.value2, 7, false, false, false⟩) ∧
     c.effect 0x1C a = ⟨c, c.value2, 1, false, c.value2 != a, false⟩) ∧
  (∀ (s : State) (port : JPort) (any : Bool) (r : Req) (f : JPort → Bool → Req → Instr) (code : Nat) (w : Window) (n : Nat) (c : Crossing),
    (f, code) ∈ crossingRows → AtCrossing s port r code w n c → (c.effect code (r.operand.toNat % 2 ^ 48)).registers = false → code ≠ 0x1D →
    (code ∈ [0x13, 0x15, 0x19, 0x1C] → FreshWaiter s r n) →
    (c.effect code (r.operand.toNat % 2 ^ 48)).journal = true → (c.effect code (r.operand.toNat % 2 ^ 48)).held = false →
    c.seq + 1 < 2 ^ 64 →
    Runs (f port any r) s fun t =>
      t.crossing n = some { (c.effect code (r.operand.toNat % 2 ^ 48)).c with
        seq := c.seq + 1, sat := c.sat, journal := ((r.src, r.tag, (c.effect code (r.operand.toNat % 2 ^ 48)).result % 2 ^ 32) :: c.journal).take 4 } ∧
      (∀ m, m ≠ n → t.crossing m = s.crossing m) ∧
      AnswerHeld t (crLine n) ⟨.atomicResult, r.src, r.tag, 0, 0, 0, some (crCell (c.effect code (r.operand.toNat % 2 ^ 48)).result
        (c.seq + 1) (c.effect code (r.operand.toNat % 2 ^ 48)).outcome)⟩ ∧ t.mem = s.mem) ∧
  (∀ (s : State) (port : JPort) (any : Bool) (r : Req) (f : JPort → Bool → Req → Instr) (code : Nat) (w : Window) (n : Nat) (c : Crossing),
    (f, code) ∈ crossingRows → AtCrossing s port r code w n c → (c.effect code (r.operand.toNat % 2 ^ 48)).registers = false → code ≠ 0x1D →
    (code ∈ [0x13, 0x15, 0x19, 0x1C] → FreshWaiter s r n) →
    (c.effect code (r.operand.toNat % 2 ^ 48)).journal = false →
    Runs (f port any r) s fun t =>
      t.cr = s.cr ∧ t.mem = s.mem ∧ Answered t port .atomicResult r.src r.tag 0 0 0 (some (crCell
        (c.effect code (r.operand.toNat % 2 ^ 48)).result c.seq (c.effect code (r.operand.toNat % 2 ^ 48)).outcome))) ∧
  (∀ (s : State) (port : JPort) (any : Bool) (r : Req) (f : JPort → Bool → Req → Instr) (code : Nat) (w : Window) (n : Nat) (c : Crossing),
    (f, code) ∈ crossingRows → AtCrossing s port r code w n c → (c.effect code (r.operand.toNat % 2 ^ 48)).registers = true → code ≠ 0x1D →
    FreshWaiter s r n → s.cr.regs.length < 16384 →
    Runs (f port any r) s fun t =>
      t.cr.regs = s.cr.regs ++ [⟨r.src, r.operand.toNat / 2 ^ 48, n, code, r.operand.toNat % 2 ^ 48, s.clock⟩] ∧ t.cr.items = s.cr.items ∧
        AnswerHeld t (crLine n) ⟨.atomicResult, r.src, r.tag, 0, 0, 0, some (crCell
          (c.effect code (r.operand.toNat % 2 ^ 48)).result c.seq 2)⟩) ∧
  (∀ (s : State) (port : JPort) (any : Bool) (r : Req) (w : Window) (n : Nat) (c : Crossing) (x : Registration),
    AtCrossing s port r 0x1D w n c → s.cr.regs = [x] → x.crossing = n → x.node = r.src → x.cookie = r.operand.toNat / 2 ^ 48 →
    Runs (.crUnwait port any r) s fun t => t.cr.regs = [] ∧ t.cr.items = s.cr.items ∧
      AnswerHeld t (crLine n) ⟨.atomicResult, r.src, r.tag, 0, 0, 0, some (crCell 0 c.seq 0)⟩) ∧
  (∀ (s : State) (n node cookie : Nat) (x : Registration) (c : Crossing), s.cr.regs = [x] → x.crossing = n → x.node = node → x.cookie = cookie →
    s.crossing n = some c → s.mute = false →
    Runs (.registrationExpired n node cookie) s fun t =>
      t.cr.regs = [] ∧ t.cr.items = s.cr.items ∧ Out.signal 12 (c.signalTo x 4) ∈ t.out ∧
        x.since + s.avFld (n % 8) 0x500 15 0 * 1000000 ≤ t.clock)
namespace Sys2Proof.Claims

open Sys2Proof Sys2Proof.Machine

/-- A PF's notice ring takes the next notice: it is enabled and not full, and its port's link is up (R412, R504). -/
def Listening (s : State) : Prop :=
  s.mute = false ∧ s.host.anyRing = true ∧
    ∃ p, p < 2 ∧ (s.ntc (p * 256)).en = true ∧ (s.ntc (p * 256)).full = false ∧ s.host.hostDown.contains p = false

/-- A notice record has been written (R412). -/
def Told (t : State) (source cause data : Nat) : Prop :=
  ∃ fn slot phase seq n, Out.notice fn slot phase seq n ∈ t.out ∧ n.source = source ∧ n.cause = cause ∧ n.data = data

/-- The error log holds a record of a type about a channel or a line (R301). -/
def Logged (t : State) (type : Nat) (P : ErrRec → Prop) : Prop := ∃ r ∈ t.prot.log, r.type = type ∧ P r

/-- Every channel's protection state but one is kept. -/
def ChansKept (s t : State) (ch : Nat) : Prop := ∀ m, m ≠ ch → t.cprot m = s.cprot m

end Sys2Proof.Claims

/-- R280, R284, R285, R291: a line read right enters the line cache; one of two or more bad devices joins its page's reconstruction, which
waits until the page is quiet; a decode within the page's strength rebuilds it, and one beyond it poisons the lines and loses the page's
parity. Rests on log entries 51, 53, 59. -/
def Obligations.ReadsOfDram : Prop :=
  (∀ (s : State) (line : Nat), s.reading line = true → (s.share (s.regs.home (line * 64))).st ≠ .gap → s.mem.poison.contains line = false →
    s.onErased line = false → s.mem.cache.has line = false → s.coh.fetch = [] → s.prot.updates = [] → NoneEnding s →
    Runs (.dramReadDone line 0) s fun t =>
      t.mem = { s.mem with cache := s.mem.cache.put line ⟨s.mem.dramLine line, false, false, false⟩ } ∧ t.reading line = false ∧
        t.prot = s.prot ∧ t.out = s.out) ∧
  (∀ (s : State) (line bad : Nat), s.reading line = true → (s.share (s.regs.home (line * 64))).st ≠ .gap →
    s.mem.poison.contains line = false → s.onErased line = false → 10 < bad → s.mem.parityLost.contains (line / 64) = false →
    Runs (.dramReadDone line bad) s fun t =>
      (∃ r, t.prot.recons.get (line / 64) = some r ∧ line ∈ r.bad) ∧ t.mem = s.mem ∧ t.coh = s.coh) ∧
  (∀ (s : State) (line bad : Nat), s.reading line = true → (s.share (s.regs.home (line * 64))).st ≠ .gap →
    s.mem.poison.contains line = false → s.onErased line = false → 10 < bad → s.mem.parityLost.contains (line / 64) = true →
    s.mem.cache.has line = false → s.coh.fetch = [] → s.prot.updates = [] → NoneEnding s →
    Runs (.dramReadDone line bad) s fun t =>
      line ∈ t.mem.poison ∧ t.mem.poisoned line = true ∧ Logged t 3 (fun r => r.line = line ∧ r.detail = 1) ∧ t.mem.cells = s.mem.cells) ∧
  (∀ (s : State) (frame : Nat) (r : Recon), s.prot.recons.get frame = some r → s.inFlight frame = false →
    (∀ k, k < 8 → s.isOpen k = true) →
    Runs (.pageQuiesced frame) s fun t =>
      t.prot.recons.get frame = some { r with quiet := true } ∧ t = { s with prot := t.prot }) ∧
  (∀ (s : State) (frame : Nat) (r : Recon), s.prot.recons.get frame = some r → s.inFlight frame = true →
    exec (.pageQuiesced frame) s = .next s) ∧
  (∀ (s : State) (frame line k : Nat) (depot : Nat × Nat), s.prot.recons.get frame = some ⟨[line], true⟩ →
    s.erasures frame ⟨[line], true⟩ [] = ([line], k) → 1 + k ≤ parityLines (s.frameStrength frame) → s.coh.fetch = [] →
    s.prot.updates = [] → NoneEnding s → s.mem.cache.has line = false → s.mem.poison.contains line = false → s.mem.wf = true →
    Runs (.reconstructDone frame [] false depot) s fun t =>
      t.mem.cache.get line = some ⟨s.mem.dramLine line, false, false, false⟩ ∧ t.mem.parityLost = s.mem.parityLost ∧
        Logged t 2 (fun r => r.line = line ∧ r.detail = min (1 + k) 255) ∧ (∀ a, readCell t.mem.cells a = readCell s.mem.cells a)) ∧
  (∀ (s : State) (frame line k : Nat) (ls : List Nat) (failed : List Nat) (syndrome : Bool), s.prot.recons.get frame = some ⟨[line], true⟩ →
    s.erasures frame ⟨[line], true⟩ failed = (ls, k) → parityLines (s.frameStrength frame) < ls.length + k → s.coh.fetch = [] →
    s.prot.updates = [] → NoneEnding s →
    Runs (.reconstructDone frame failed syndrome (0, 0)) s fun t =>
      (∀ l ∈ ls, l ∈ t.mem.poison) ∧ frame ∈ t.mem.parityLost ∧ Logged t 3 (fun r => r.line = line) ∧ t.mem.cells = s.mem.cells)

/-- R286 to R288, R294, R296, R297, R299, R300, R303, R304: a failed channel is ERASED, or evacuated where that is enabled and there is
room; an evacuation moves slice after slice and retires the channel after its fifteenth; MEM_RETIRE retires a page, a bank, or a channel
that it evacuates; a delta joins its parity line, which is written with every delta that has joined it; an erased parity line is encoded
again; a scrub reads the lines of a share in laps; the error log is read into host memory. Rests on log entries 51, 52, 54. -/
def Obligations.MemoryFailures : Prop :=
  (∀ (s : State) (ch : Chan), (s.cprot ch).st = 0 → (s.chan ch).inService = true → bitOf (s.regs.val 0x10144).toNat 8 = false →
    Runs (.channelFailed ch) s fun t =>
      t.cprot ch = { s.cprot ch with st := 1 } ∧ ChansKept s t ch ∧ Logged t 6 (fun r => r.ch = ch.val ∧ r.seq = s.prot.nextSeq) ∧
        (Listening s → Told t (Src.channel ch) 0x01 0) ∧ t.mem = s.mem ∧ t.maps = s.maps) ∧
  (∀ (s : State) (ch : Chan), (s.cprot ch).st = 0 → (s.chan ch).inService = true → bitOf (s.regs.val 0x10144).toNat 8 = true →
    (s.cprot (ch.val / 2 * 2 + (1 - ch.val % 2))).st = 0 → s.evacOk ch = true →
    Runs (.channelFailed ch) s fun t =>
      t.cprot ch = { s.cprot ch with st := 2, byDriver := false, moved := 0, evacCmd := none } ∧ ChansKept s t ch ∧
        (Listening s → Told t (Src.channel ch) 0x01 1) ∧ t.mem = s.mem) ∧
  (∀ (s : State) (ch : Chan), (s.cprot ch).st = 2 → (s.cprot ch).moved < 14 →
    Runs (.evacSliceDone ch) s fun t =>
      t.cprot ch = { s.cprot ch with moved := (s.cprot ch).moved + 1 } ∧ ChansKept s t ch ∧ t = { s with prot := t.prot }) ∧
  (∀ (s : State) (ch : Chan), (s.cprot ch).st = 2 → (s.cprot ch).moved = 14 → (s.cprot ch).evacCmd = none →
    Runs (.evacSliceDone ch) s fun t =>
      t.cprot ch = { s.cprot ch with st := 3, moved := 15 } ∧ (t.chan ch).mode = 0 ∧ ChansKept s t ch ∧
        Logged t 7 (fun r => r.ch = ch.val) ∧ t = { s with prot := t.prot, dram := t.dram }) ∧
  (∀ (s : State) (ch : Chan) (k : Cmd), (s.cprot ch).st = 2 → (s.cprot ch).moved = 14 → (s.cprot ch).evacCmd = some k → RingUp s k.ring →
    Runs (.evacSliceDone ch) s fun t => (t.cprot ch).st = 3 ∧ (t.cprot ch).evacCmd = none ∧ Ends t k 0 0 0) ∧
  (∀ (s : State) (c : Cmd),
    let f := bitsOf c.d.p2 45 0 / 64
    Starts s c .g → c.d.opcode = 0x62 → bitsOf c.d.p0 1 0 = 0 → s.maps.ownerOf f = none → s.ms.copies.get f = none →
    Runs (.memRetire c) s fun t =>
      f ∈ t.prot.retired ∧ Logged t 8 (fun r => r.line = f * 64) ∧ t.maps = s.maps ∧ t.mem = s.mem ∧ Ends t c 0 0 0) ∧
  (∀ (s : State) (c : Cmd),
    let x := locatorOf c.d.p1
    let bank := (x.rank, x.sc, x.bg, x.ba)
    Starts s c .g → c.d.opcode = 0x62 → bitsOf c.d.p0 1 0 = 2 → x.rank < 2 ^ s.dram.geom.rk → (s.cprot x.ch).detours.length < 16 →
    s.bankLines ≤ s.reserveFree x.ch → bank ∉ (s.cprot x.ch).detours →
    Runs (.memRetire c) s fun t =>
      t.cprot x.ch = { s.cprot x.ch with detours := (s.cprot x.ch).detours ++ [bank] } ∧ ChansKept s t x.ch ∧
        Logged t 8 (fun r => r.ch = x.ch ∧ r.detail = 2) ∧ t.mem = s.mem ∧ Ends t c 0 0 0) ∧
  (∀ (s : State) (c : Cmd),
    let x := locatorOf c.d.p1
    Starts s c .g → c.d.opcode = 0x62 → bitsOf c.d.p0 1 0 = 3 → (s.cprot x.ch).st = 0 →
    (s.cprot (x.ch / 2 * 2 + (1 - x.ch % 2))).st = 0 → s.evacOk x.ch = true →
    Runs (.memRetire c) s fun t =>
      t.cprot x.ch = { s.cprot x.ch with st := 2, byDriver := true, moved := 0, evacCmd := some c } ∧ Running t c ∧ t.out = s.out) ∧
  (∀ (s : State) (frame par line : Nat) (u : Update), s.prot.updates = [u] → u.line = line → line / 64 = frame → u.issued = true →
    par ∈ u.owes → (s.share (parityShare frame par)).st ≠ .gap → ((s.prot.erased.get frame).getD []).contains par = false →
    s.parityErased frame par = false →
    Runs (.parityDelta frame par line) s fun t =>
      t.prot.updates = [{ u with owes := u.owes.filter (· != par), queued := u.queued ++ [par] }] ∧ t = { s with prot := t.prot }) ∧
  (∀ (s : State) (frame par : Nat) (u : Update) (q : Nat), s.prot.updates = [u] → u.line / 64 = frame → u.issued = true → par ∈ u.queued →
    q ∈ u.queued → q ≠ par →
    Runs (.parityRmwDone frame par false) s fun t =>
      t.prot.updates = [{ u with queued := u.queued.filter (· != par) }] ∧ t.prot.erased = s.prot.erased ∧
        t.regs.cnt = (s.regs.count (dcBase (parityChan frame par) + 0x28) 1).cnt ∧ t.mem = s.mem) ∧
  (∀ (s : State) (frame par : Nat) (u : Update) (q : Nat), s.prot.updates = [u] → u.line / 64 = frame → u.issued = true → par ∈ u.queued →
    q ∈ u.queued → q ≠ par →
    Runs (.parityRmwDone frame par true) s fun t => (∃ es, t.prot.erased.get frame = some es ∧ par ∈ es) ∧ t.mem = s.mem) ∧
  (∀ (s : State) (frame par : Nat) (es : List Nat), s.prot.erased.get frame = some es → par ∈ es → s.inFlight frame = false →
    s.prot.recons.has frame = false → s.prot.erased.wf = true →
    Runs (.parityReencode frame par false) s fun t =>
      (∀ fs, t.prot.erased.get frame = some fs → par ∉ fs) ∧ Logged t 2 (fun r => r.detail = 1) ∧ t.mem = s.mem) ∧
  (∀ (s : State) (frame par : Nat) (es : List Nat), s.prot.erased.get frame = some es → par ∈ es → s.inFlight frame = false →
    s.prot.recons.has frame = false →
    Runs (.parityReencode frame par true) s fun t =>
      t.mem = { s.mem with parityLost := s.mem.parityLost.ins frame } ∧ Logged t 4 (fun r => r.parity = true)) ∧
  (∀ (s : State) (share : Share) (line : Nat), s.regs.home (line * 64) = share.val → s.isOpen share = true →
    s.avFld share 0x704 0 0 = 1 → s.onErased line = false → (s.scrub share).last ≤ localAddr (line * 64) / 64 → (s.scrub share).laps ≠ 0 →
    Runs (.scrubLine share line 0) s fun t =>
      t.scrub share = { s.scrub share with last := localAddr (line * 64) / 64 } ∧ t = { s with prot := t.prot, regs := t.regs } ∧
        t.regs.act = s.regs.act) ∧
  (∀ (s : State) (share : Share) (line : Nat), s.regs.home (line * 64) = share.val → s.isOpen share = true →
    s.avFld share 0x704 0 0 = 1 → s.onErased line = false → localAddr (line * 64) / 64 < (s.scrub share).last →
    (s.scrub share).warned = true →
    Runs (.scrubLine share line 0) s fun t =>
      t.scrub share = ⟨min 0xFFFF ((s.scrub share).laps + 1), s.clock, localAddr (line * 64) / 64,
        (s.clock - (s.scrub share).lapStart) / 1000000000, false⟩ ∧
      (∀ n ∈ t.host.conds, ¬(n.source = Src.avenue ((s.servedBy share).getD share) ∧ n.cause = 0x09)) ∧ t.mem = s.mem) ∧
  (∀ (s : State) (share : Share), (s.scrub share).warned = false → s.avFld share 0x704 0 0 = 1 →
    Runs (.scrubLapWarn share) s fun t =>
      t.scrub share = { s.scrub share with warned := true } ∧
        (s.scrub share).lapStart + s.avFld share 0x704 31 16 * 3600000000000 < t.clock ∧
        ∃ n ∈ t.host.conds, n.source = Src.avenue ((s.servedBy share).getD share) ∧ n.cause = 0x09) ∧
  (∀ (s : State) (c : Cmd),
    let n := bitsOf c.d.p0 44 32
    let rs := (s.prot.log.filter fun r => decide (bitsOf c.d.p0 31 0 ≤ r.seq)).take n
    Starts s c .pf → c.d.opcode = 0x63 → 1 ≤ n → n ≤ 4096 → rs ≠ [] →
    Runs (.errlogRead c) s fun t => DmaBegun t c true (32 * rs.length) ∧ Running t c ∧ t.prot = s.prot) ∧
  (∀ (s : State) (c : Cmd), Starts s c .pf → c.d.opcode = 0x63 → 1 ≤ bitsOf c.d.p0 44 32 → bitsOf c.d.p0 44 32 ≤ 4096 → s.prot.log = [] →
    Runs (.errlogRead c) s fun t => (∃ result, result % 2 ^ 32 = 0 ∧ Ends t c 0 0 result) ∧ t.prot = s.prot)
/-- R318 to R322, R324: a tier command of pages that are in place already completes at once, and one that needs pages moved waits for them;
a fill brings its page from flash and a demotion takes it there; a query counts pages. Rests on log entries 57, 58. -/
def Obligations.TierCommands : Prop :=
  (∀ (s : State) (c : Cmd) (x : District), Starts s c .d → c.d.opcode = 0x50 → s.district c.d.district = some x → x.tiered = true →
    rangePages c.d.p0 c.d.p1 ≤ x.residentMax → (∀ e ∈ s.tierLeaves c, e.2.resident = true) →
    Runs (.tierPromote c) s fun t => t.maps = s.maps ∧ t.flash = s.flash ∧ t.mem = s.mem ∧ Ends t c 0 0 0) ∧
  (∀ (s : State) (c : Cmd) (x : District),
    let ps := ((s.tierLeaves c).filter fun e => !e.2.resident).map (·.1)
    Starts s c .d → c.d.opcode = 0x50 → s.district c.d.district = some x → x.tiered = true → rangePages c.d.p0 c.d.p1 ≤ x.residentMax →
    ps ≠ [] →
    Runs (.tierPromote c) s fun t =>
      Running t c ∧ t.flash.jobs = s.flash.jobs ++ [⟨c, ps, 0⟩] ∧
        ∀ p ∈ ps, ∃ f ∈ t.flash.fills, f.district = c.d.district ∧ f.page = p) ∧
  (∀ (s : State) (c : Cmd),
    let ps := ((s.tierLeaves c).filter fun e => e.2.resident && !e.2.pinned).map (·.1)
    Starts s c .d → c.d.opcode = 0x51 → s.isTiered c.d.district = true → ps ≠ [] →
    Runs (.tierDemote c) s fun t =>
      Running t c ∧ t.flash = { s.flash with jobs := s.flash.jobs ++ [⟨c, ps, 0⟩] } ∧ t.maps = s.maps ∧ t.out = s.out) ∧
  (∀ (s : State) (c : Cmd) (x : District) (p : Nat) (l : Leaf), Starts s c .d → c.d.opcode = 0x52 → bitOf c.d.p2 0 = true →
    s.district c.d.district = some x → s.tierLeaves c = [(p, l)] → l.pinned = false → l.resident = true →
    (((s.maps.leaves c.d.district).filter fun e => e.2.pinned).length + leafPages l.size) * 8 ≤ x.residentMax * 7 →
    Runs (.tierPin c) s fun t =>
      t.maps.pages.get (pageKey c.d.district p) = some { l with pinned := true } ∧
        (∀ k, k ≠ pageKey c.d.district p → t.maps.pages.get k = s.maps.pages.get k) ∧ t.mem = s.mem ∧ Ends t c 0 0 1) ∧
  (∀ (s : State) (c : Cmd) (p : Nat) (l : Leaf), Starts s c .d → c.d.opcode = 0x52 → bitOf c.d.p2 0 = false → s.tierLeaves c = [(p, l)] →
    l.pinned = true →
    Runs (.tierPin c) s fun t =>
      t.maps.pages.get (pageKey c.d.district p) = some { l with pinned := false } ∧
        (∀ k, k ≠ pageKey c.d.district p → t.maps.pages.get k = s.maps.pages.get k) ∧ t.mem = s.mem ∧ Ends t c 0 0 1) ∧
  (∀ (s : State) (c : Cmd) (g : Group), Starts s c .q → c.d.opcode = 0x58 → bitOf c.d.p0 0 = true → s.group (bitsOf c.d.p0 7 4) = some g →
    Runs (.tierQuery c) s fun t => t.flash = s.flash ∧ t.maps = s.maps ∧ Ends t c 0 0 (g.st + g.freePages % 2 ^ 64 * 2 ^ 32)) ∧
  (∀ (s : State) (f : FillRec) (fr first : Nat) (l : Leaf) (x : District), s.flash.fills = [f] → f.got = true → f.frame = some fr →
    f.lost = false → f.waiting = [] → s.flash.jobs = [] → (∀ k, k < 8 → s.isOpen k = true) → NoneEnding s →
    s.maps.leafAt f.district f.page = some (first, l) → l.tiered = true → l.resident = false → l.addr = f.locator →
    s.district f.district = some x → s.flash.written.contains f.locator = true → s.flash.poison.get f.locator = none → s.mem.wf = true →
    Runs (.fillDone f.district f.page) s fun t =>
      t.maps.pages.get (pageKey f.district first) = some { l with
        resident := true, addr := fr, strength := x.strength, dirty := false, flash := some f.locator, referenced := true } ∧
      (∀ i, i < 64 → t.mem.line (fr * 64 + i) = BitVec.ofNat 512 (s.flashLine f.locator i)) ∧ fr ∉ t.mem.parityLost ∧ t.flash.fills = []) ∧
  (∀ (s : State) (d p loc : Nat) (l : Leaf) (x : District) (g : Group) (j : TierJob), s.flash.jobs = [j] → j.cmd.d.opcode = 0x51 →
    j.cmd.d.district = d → j.pages = [p] → s.district d = some x → s.maps.leafAt d p = some (p, l) → s.demotable d p l = true →
    s.flash.demos = [] → s.flash.fills = [] → s.entriesIn d p p = [] → (∀ k ∈ s.coh.trackers, ¬(k.district = d ∧ k.page = p)) →
    l.dirty = false → l.flash = some loc → s.copyLocator loc = false → s.group x.fgroup = some g → g.isLost = false → RingUp s j.cmd.ring →
    Runs (.demotionStart d) s fun t =>
      t.maps.pages.get (pageKey d p) = some { l with resident := false, addr := loc, dirty := false, flash := some loc } ∧
        t.flash.jobs = [] ∧ t.flash.demos = [] ∧ t.flash.cells = s.flash.cells ∧ Ends t j.cmd 0 0 (j.done + 1)) ∧
  (∀ (s : State) (slot : Slot) (cid : Nat) (k : NvmeCmd) (f : FillRec), s.flash.cmds = [k] → k.slot = slot.val → k.cid = cid → k.op = 0 →
    s.flash.fills = [f] → f.reads = [(slot.val, cid)] →
    Runs (.nvmeReadDone slot cid true) s fun t =>
      t = { s with flash := { s.flash with cmds := [], fills := [{ f with reads := [], got := true }] } }) ∧
  (∀ (s : State) (slot : Slot) (cid loc first : Nat) (k : NvmeCmd) (x : Demotion) (l : Leaf), s.flash.cmds = [k] → k.slot = slot.val →
    k.cid = cid → k.op = 1 → s.flash.demos = [x] → x.writes = [(slot.val, cid)] → x.locator = some loc →
    s.maps.leafAt x.district x.page = some (first, l) → l.flash = none → s.flash.jobs = [] → s.flash.fills = [] →
    cellsWf s.flash.cells = true →
    Runs (.nvmeWriteDone slot cid) s fun t =>
      (∀ i, i < 64 → t.flashLine loc i = (s.mem.line (l.addr * 64 + i)).toNat) ∧ loc ∈ t.flash.written ∧
        t.maps.pages.get (pageKey x.district first) = some { l with resident := false, addr := loc, dirty := false, flash := some loc } ∧
        t.flash.demos = [] ∧ t.flash.cmds = [])

namespace Sys2Proof.Claims

open Sys2Proof Sys2Proof.Machine

/-- Member i of group k has failed: it is out of service, the group is DEGRADED or LOST, and a PF that listens is told (R326, R327). -/
def MemberFails (s t : State) (k i : Nat) (g : Group) : Prop :=
  let g' : Group := { g with members := g.setMember i false }
  let st := if g'.isLost then 2 else 1
  t.group k = some { g' with st := st } ∧ (Listening s → Told t Src.flash 0x01 (k + st * 16))

end Sys2Proof.Claims

/-- R314, R315, R324 to R327: a group is made of usable SSDs and unmade when no District names it; a command that times out is aborted, and
then its controller is reset and its commands are issued again; a member fails with its write, its reset or its link, and is rebuilt page by
page onto another SSD. Rests on log entries 6, 57, 58. -/
def Obligations.FlashGroups : Prop :=
  (∀ (s : State) (c : Cmd),
    let k := bitsOf c.d.p0 3 0
    let mode := bitsOf c.d.p0 5 4
    let slots := maskSlots c.d.p1
    let n := groupPages mode (slots.map fun i => (s.ssd i).lbas)
    Starts s c .g → c.d.opcode = 0x53 → s.group k = none →
    (∀ i ∈ slots, (s.ssd i).st = 6 ∧ (s.ssd i).usable = true ∧ (s.ssd i).linked = true ∧ s.memberOf i = none) →
    (mode = 0 ∧ slots.length = 1 ∨ mode = 1 ∧ slots.length = 2 ∨ mode = 2 ∧ slots.length = 10) →
    Runs (.flashGroupCreate c) s fun t =>
      t.group k = some ⟨mode, slots.map fun i => ⟨i, true⟩, 0, n, (n + 16383) / 16384, 0, 0, [], none⟩ ∧
        (∀ j, j ≠ k → t.group j = s.group j) ∧ t.maps = s.maps ∧ Ends t c 0 0 n) ∧
  (∀ (s : State) (c : Cmd) (g : Group), Starts s c .g → c.d.opcode = 0x54 → s.group (bitsOf c.d.p0 3 0) = some g → g.rebuild = none →
    s.groupNamed (bitsOf c.d.p0 3 0) = false → s.flash.groups.wf = true →
    Runs (.flashGroupDestroy c) s fun t =>
      t.group (bitsOf c.d.p0 3 0) = none ∧ (∀ j, j ≠ bitsOf c.d.p0 3 0 → t.group j = s.group j) ∧ t.maps = s.maps ∧ Ends t c 0 0 0) ∧
  (∀ (s : State) (c : Cmd) (g : Group),
    let k := bitsOf c.d.p0 3 0
    let i := bitsOf c.d.p0 7 4
    let n := bitsOf c.d.p0 11 8
    Starts s c .g → c.d.opcode = 0x56 → s.group k = some g → g.up i = false → i < g.members.length → g.rebuild = none → (s.ssd n).st = 6 →
    (s.ssd n).usable = true → (s.ssd n).linked = true → s.memberOf n = none →
    Runs (.ssdReplace c) s fun t =>
      t.group k = some { g with
        members := g.members.set i ⟨n, false⟩, st := if g.st = 2 then 2 else 3, rebuild := some (i, g.metaPages, c) } ∧
      Running t c ∧ t.out = s.out) ∧
  (∀ (s : State) (k i p q : Nat) (g : Group) (c : Cmd), s.group k = some g → g.rebuild = some (i, p, c) → g.nextUsed p = some q →
    Runs (.ssdRebuildStep k) s fun t =>
      t.group k = some { g with rebuild := some (i, q + 1, c) } ∧ t = { s with flash := t.flash, regs := t.regs }) ∧
  (∀ (s : State) (k i p : Nat) (g : Group) (c : Cmd), s.group k = some g → g.rebuild = some (i, p, c) → g.nextUsed p = none → RingUp s c.ring →
    Runs (.ssdRebuildStep k) s fun t =>
      (∃ h, t.group k = some h ∧ h.members = g.setMember i true ∧ h.rebuild = none) ∧ Ends t c 0 0 0) ∧
  (∀ (s : State) (slot : Slot) (cid : Nat) (k : NvmeCmd), s.nvmeOf slot cid = some k → k.aborting = none → s.mute = false →
    Runs (.nvmeCmdTimeout slot cid) s fun t =>
      t.nvmeOf slot cid = some { k with aborting := some t.clock } ∧ t.out = s.out ++ [.nvme slot cid 2 0 0] ∧
        k.issued + s.regs.fld 0x60000C 15 0 * 1000000 ≤ t.clock ∧ t.maps = s.maps ∧ t.mem = s.mem) ∧
  (∀ (s : State) (slot : Slot) (cid at' : Nat) (k : NvmeCmd), s.nvmeOf slot cid = some k → k.aborting = some at' →
    (s.ssd slot).resetAt = none → s.mute = false →
    Runs (.nvmeAbortTimeout slot cid) s fun t =>
      t.ssd slot = { s.ssd slot with resetAt := some t.clock } ∧ t.out = s.out ++ [.nvme slot 0 3 0 0] ∧ at' + 100000000 ≤ t.clock ∧
        t.flash.cmds = s.flash.cmds) ∧
  (∀ (s : State) (slot : Slot), (s.ssd slot).resetAt.isSome = true → s.mute = false →
    Runs (.nvmeControllerReady slot) s fun t =>
      (t.ssd slot).resetAt = none ∧
        t.out = s.out ++ (s.flash.cmds.filter fun c => c.slot == slot.val).map (fun c => .nvme slot c.cid c.op c.lba 1) ∧
        ∀ c ∈ t.flash.cmds, c.slot = slot.val → c.aborting = none ∧ c.issued = s.clock) ∧
  (∀ (s : State) (slot : Slot) (k i : Nat) (g : Group), (s.ssd slot).resetAt.isSome = true → s.memberOf slot = some (k, i) →
    s.group k = some g → g.up i = true → g.rebuild = none → (∀ c ∈ s.flash.cmds, c.slot ≠ slot.val) →
    Runs (.nvmeResetTimeout slot) s fun t => MemberFails s t k i g ∧ (t.ssd slot).resetAt = none ∧ t.maps = s.maps) ∧
  (∀ (s : State) (slot : Slot) (k i : Nat) (g : Group), (s.ssd slot).st = 6 → (s.ssd slot).linked = true →
    s.memberOf slot = some (k, i) → s.group k = some g → g.up i = true → g.rebuild = none → (∀ c ∈ s.flash.cmds, c.slot ≠ slot.val) →
    Runs (.ssdLinkDown slot) s fun t =>
      MemberFails s t k i g ∧ t.ssd slot = { s.ssd slot with linked := false, width := 0, rate := 0 } ∧ t.maps = s.maps) ∧
  (∀ (s : State) (slot : Slot) (cid k i : Nat) (media : Bool) (g : Group) (c : NvmeCmd), s.flash.cmds = [c] → c.slot = slot.val → c.cid = cid →
    c.op = 1 → s.flash.demos = [] → s.memberOf slot = some (k, i) → s.group k = some g → g.up i = true → g.rebuild = none →
    Runs (.nvmeErrorCompletion slot cid media) s fun t => MemberFails s t k i g ∧ t.flash.cmds = [] ∧ t.maps = s.maps)

namespace Sys2Proof.Claims

open Sys2Proof Sys2Proof.Machine

/-- Every slot but one is kept. -/
def SlotsKept (s t : State) (n : Nat) : Prop := ∀ k, k ≠ n → t.ssd k = s.ssd k

/-- A slot has lost its power: reset held, no link, its enable taken away (R328). -/
def SlotCut (t : State) (n : Nat) : Prop :=
  (t.ssd n).perst = true ∧ (t.ssd n).linked = false ∧ (t.ssd n).pg = false ∧ Out.pin 0 n false ∈ t.out ∧ Out.pin 1 n false ∈ t.out

end Sys2Proof.Claims

/-- R324, R325, R328 to R331: slots power up one at a time, through power-good and reset to a trained link; faults are retried three times
and then latched; a droop pauses the slots in inrush, which go first when it has ended. Rests on log entries 6, 56. -/
def Obligations.SlotPower : Prop :=
  (∀ (s : State) (c : Cmd), Starts s c .g → c.d.opcode = 0x55 → bitsOf c.d.p0 9 8 = 1 → (s.ssd (bitsOf c.d.p0 3 0)).st = 1 →
    Runs (.slotPower c) s fun t =>
      t.ssd (bitsOf c.d.p0 3 0) = { s.ssd (bitsOf c.d.p0 3 0) with st := 2, since := s.clock, retry := false, notBefore := s.clock } ∧
        SlotsKept s t (bitsOf c.d.p0 3 0) ∧ Ends t c 0 0 2) ∧
  (∀ (s : State) (c : Cmd), Starts s c .g → c.d.opcode = 0x55 → bitsOf c.d.p0 9 8 = 0 → (s.ssd (bitsOf c.d.p0 3 0)).st = 6 →
    s.memberOf (bitsOf c.d.p0 3 0) = none →
    Runs (.slotPower c) s fun t =>
      (t.ssd (bitsOf c.d.p0 3 0)).st = 1 ∧ SlotCut t (bitsOf c.d.p0 3 0) ∧ SlotsKept s t (bitsOf c.d.p0 3 0) ∧ Ends t c 0 0 1) ∧
  (∀ (s : State) (c : Cmd), Starts s c .g → c.d.opcode = 0x55 → bitsOf c.d.p0 9 8 = 2 → (s.ssd (bitsOf c.d.p0 3 0)).st = 7 →
    (s.ssd (bitsOf c.d.p0 3 0)).present = true →
    Runs (.slotPower c) s fun t => (t.ssd (bitsOf c.d.p0 3 0)).st = 1 ∧ (t.ssd (bitsOf c.d.p0 3 0)).retries = 0 ∧ Ends t c 0 0 1) ∧
  (∀ (s : State) (slot : Slot), s.boot.flashStarted = true → s.slotExists slot = true → (s.ssd slot).st = 0 → s.regs.fld 0x600004 0 0 = 1 →
    Runs (.slotPresenceChange slot true) s fun t => (t.ssd slot).st = 2 ∧ (t.ssd slot).present = true ∧ SlotsKept s t slot) ∧
  (∀ (s : State) (slot : Slot), (s.ssd slot).st = 5 → s.mute = false →
    Runs (.slotPresenceChange slot false) s fun t =>
      (t.ssd slot).st = 0 ∧ (t.ssd slot).present = false ∧ SlotCut t slot ∧ SlotsKept s t slot) ∧
  (∀ (s : State) (n : Nat), n < 16 → (s.ssd n).st = 2 → (s.ssd n).notBefore ≤ s.clock →
    (∀ k, k < 16 → k ≠ n → (s.ssd k).st ≠ 2 ∧ (s.ssd k).st ≠ 3) → s.flash.droop = false → s.mute = false →
    Runs .slotInrushTurn s fun t =>
      t.ssd n = { s.ssd n with st := 3, since := t.clock, first := false } ∧ Out.pin 0 n true ∈ t.out ∧ SlotsKept s t n ∧
        s.flash.inrushEnd + s.regs.fld 0x600004 15 8 * 1000000 ≤ t.clock) ∧
  (∀ (s : State) (slot : Slot), (s.ssd slot).st = 3 →
    Runs (.slotPgAssert slot) s fun t =>
      t.ssd slot = { s.ssd slot with st := 5, pg := true, since := s.clock } ∧ t.flash.inrushEnd = s.clock ∧ SlotsKept s t slot ∧
        t = { s with flash := t.flash }) ∧
  (∀ (s : State) (slot : Slot), (s.ssd slot).st = 3 → (s.ssd slot).retries < 3 → s.mute = false →
    Runs (.slotInrushTimeout slot) s fun t =>
      (t.ssd slot).st = 1 ∧ (t.ssd slot).retry = true ∧ (t.ssd slot).notBefore = t.clock + 1000000000 ∧ SlotCut t slot ∧
        (s.ssd slot).since + s.regs.fld 0x600004 23 16 * 1000000 ≤ t.clock ∧ SlotsKept s t slot) ∧
  (∀ (s : State) (slot : Slot), (s.ssd slot).st = 5 → (s.ssd slot).perst = true → s.mute = false →
    Runs (.slotPerstRelease slot) s fun t =>
      t.ssd slot = { s.ssd slot with perst := false } ∧ t.out = s.out ++ [.pin 1 slot true] ∧ (s.ssd slot).since + 100000000 ≤ t.clock ∧
        SlotsKept s t slot) ∧
  (∀ (s : State) (slot : Slot) (width rate lbas : Nat) (usable : Bool), (s.ssd slot).st = 5 → (s.ssd slot).perst = false →
    Runs (.slotLinkUp slot width rate lbas usable) s fun t =>
      t.ssd slot = { s.ssd slot with
        st := 6, linked := true, width := width % 4, rate := rate % 8, lbas := lbas, usable := usable, retries := 0, since := s.clock } ∧
      (usable = false → Listening s → Told t (Src.slot slot) 0x02 0) ∧ (usable = true → t.out = s.out) ∧ SlotsKept s t slot) ∧
  (∀ (s : State) (slot : Slot), (s.ssd slot).st = 5 → 3 ≤ (s.ssd slot).retries → s.mute = false →
    Runs (.slotFault slot) s fun t =>
      (t.ssd slot).st = 7 ∧ (t.ssd slot).flt = true ∧ SlotCut t slot ∧ SlotsKept s t slot ∧
        (Listening s → Told t (Src.slot slot) 0x01 (s.ssd slot).retries)) ∧
  (∀ (s : State) (slot : Slot), (s.ssd slot).st = 1 → (s.ssd slot).retry = true →
    Runs (.slotRetryTimer slot) s fun t =>
      t.ssd slot = { s.ssd slot with st := 2, retry := false, retries := (s.ssd slot).retries + 1, since := t.clock, flt := false } ∧
        (s.ssd slot).notBefore ≤ t.clock ∧ SlotsKept s t slot ∧ t.out = s.out) ∧
  (∀ (s : State) (n : Nat), s.flash.droop = false → n < 16 → (s.ssd n).st = 3 → (∀ k, k < 16 → k ≠ n → (s.ssd k).st ≠ 3) → s.mute = false →
    Runs .railDroopAssert s fun t =>
      t.flash.droop = true ∧ t.flash.droopAt = s.clock ∧ (t.ssd n).st = 4 ∧ SlotCut t n ∧ SlotsKept s t n) ∧
  (∀ (s : State), s.flash.droop = true →
    Runs .railDroopClear s fun t => t = { s with flash := { s.flash with droop := false, droopAt := s.clock } }) ∧
  (∀ (s : State), s.flash.droop = false → (∃ n, n < 16 ∧ (s.ssd n).st = 4) →
    Runs .droopResume s fun t =>
      s.flash.droopAt + 10000000 ≤ t.clock ∧
        (∀ n, n < 16 → (s.ssd n).st = 4 → (t.ssd n).st = 2 ∧ (t.ssd n).first = true) ∧
        ∀ n, ¬(n < 16 ∧ (s.ssd n).st = 4) → t.ssd n = s.ssd n) ∧
  (∀ (s : State), s.flash.droop = true → s.flash.droopTold = false →
    Runs .droopLong s fun t =>
      t.flash = { s.flash with droopTold := true } ∧ s.flash.droopAt + 1000000000 ≤ t.clock ∧ (Listening s → Told t Src.flash 0x04 0))
namespace Sys2Proof.Claims

open Sys2Proof Sys2Proof.Machine

/-- The operators of the engines with their opcodes (R236). -/
def engineOps : List ((Cmd → Instr) × Nat) :=
  [(.opFill, 0x30), (.opCopy, 0x31), (.opCompare, 0x32), (.opReduce, 0x33), (.opGather, 0x34), (.opScatter, 0x35), (.opGemv, 0x38),
   (.opAttend, 0x3A), (.opKvAppend, 0x3B), (.opQuant, 0x3C), (.opDequant, 0x3D)]

/-- Has the queue of 4,096 jobs a place (R201)? -/
def QueueRoom (s : State) : Prop := (s.eng.jobs.filter fun e => e.2.phase == .queued).length < 4096

/-- An engine is free of its job. -/
def EngineFree (t : State) (a e : Nat) : Prop := (t.engOf a e).job = none ∧ (t.engOf a e).group = none

end Sys2Proof.Claims

/-- R201, R235 to R238, R245, R254, R462: each operator that passes its checks is queued as a job with its argument block; while the queue
is full it stays in its ring; a host copy begins its DMA, inside a valid bounce region; an abort ends a job that has not begun its commit.
Rests on log entries 41, 42. -/
def Obligations.OperatorsQueued : Prop :=
  (∀ x ∈ engineOps, ∀ (s u : State) (c : Cmd) (arg : Nat), s.atHand c = true → QueueRoom s → s.readArg c = (u, false, some arg) →
    Starts u c .e → c.d.opcode = x.2 → u.opChecks c (some arg) = none →
    Runs (x.1 c) s fun t =>
      Running t c ∧ t.eng.nextJob = u.eng.nextJob + 1 ∧
        ∃ j, t.job u.eng.nextJob = some j ∧ j.cmd = c ∧ j.phase = .queued ∧ j.arrived = u.clock ∧ j.attempts = 0 ∧
          j.args = leBytes 256 arg ∧ j.granules = (shapeOf c.d arg).granules ∧ j.commitStarted = false) ∧
  (∀ x ∈ engineOps, ∀ (s : State) (c : Cmd), ¬ QueueRoom s → exec (x.1 c) s = .next s) ∧
  (∀ x ∈ engineOps, ∀ (s u : State) (c : Cmd), s.atHand c = true → QueueRoom s → s.readArg c = (u, false, none) → Starts u c .e →
    c.d.opcode = x.2 → badControls c (shapeOf c.d 0).rsv = false →
    Runs (x.1 c) s fun t => t.eng = s.eng ∧ Ends t c 0x14 2 0) ∧
  (∀ (s : State) (c : Cmd), QueueRoom s → Starts s c .d → c.d.opcode = 0x36 → s.opChecks c (some 0) = none →
    s.bounceOk c.d.district c.d.p3 (bitsOf c.d.p4 39 0) = true →
    Runs (.opHostCopy c) s fun t =>
      Running t c ∧ t.eng = s.eng ∧ (∃ k d, t.host.dmas.get k = some d ∧ d.cmd = c ∧ d.toHost = bitOf c.d.p4 40 ∧ d.addr = c.d.p3 ∧
        d.len = bitsOf c.d.p4 39 0 ∧ d.use = .hostCopy) ∧ Out.atsRequest (ringFn c.ring) (c.d.p3 / 4096) ∈ t.out) ∧
  (∀ (s : State) (c : Cmd), QueueRoom s → Starts s c .d → c.d.opcode = 0x36 → s.opChecks c (some 0) = none →
    s.bounceOk c.d.district c.d.p3 (bitsOf c.d.p4 39 0) = false →
    Runs (.opHostCopy c) s fun t => t.mem = s.mem ∧ Ends t c Cs.faultAccess 2 (c.d.p3 % 2 ^ 64 * 2 ^ 96)) ∧
  (∀ (s : State) (c : Cmd) (n : Nat) (j : Job), Starts s c .d → c.d.opcode = 0x3F → s.opChecks c (some 0) = none → s.eng.jobs = [(n, j)] →
    j.phase = .queued → s.engsOf n = [] → j.cmd.ring = bitsOf c.d.p2 47 32 → j.cmd.d.cmdId = bitsOf c.d.p2 31 0 →
    (∃ x ∈ s.district j.cmd.d.district, x.owner = ringFn c.ring) → RingUp s j.cmd.ring →
    Runs (.jobAbort c) s fun t => t.eng.jobs = [] ∧ Ends t j.cmd Cs.aborted 0 0 ∧ Ends t c 0 0 0) ∧
  (∀ (s : State) (c : Cmd), Starts s c .d → c.d.opcode = 0x3F → s.abortTarget c.d = none →
    Runs (.jobAbort c) s fun t => t.eng = s.eng ∧ Ends t c 0x12 0 0)

/-- R193 to R204, R478, R479: the scheduler dispatches a job that fits, waking its engines; the engines load its activations, read and work
off the units of every share, and sum the partials; then its output is decided and committed, and its record is posted when its engines are
clear; a failed engine is retired with a notice; an engine with too little slack loses 10 MHz; a hint wakes engines ahead of their job, and
they are free again when no job takes them. Rests on log entries 6, 41, 42, 43, 44. -/
def Obligations.JobsAndEngines : Prop :=
  (∀ (s : State) (n cost : Nat) (j : Job) (picks : List (Nat × List Nat)),
    let d := j.cmd.d.district
    let ks := (s.clustersOf d).filter fun k => (s.servedBy k).isSome
    s.mayDispatch = true → s.eng.jobs = [(n, j)] → s.ready n j = true →
    s.fits d j.cmd.ring (opClass j.cmd.d.opcode) (s.wanted j ks) ks = some (picks, cost) →
    Runs .schedulerPass s fun t =>
      (∃ i, t.job n = some i ∧ i.phase ≠ .queued ∧ i.cmd = j.cmd ∧ i.attempts = j.attempts + 1) ∧
        (∀ p ∈ picks, ∀ e ∈ p.2, (t.engOf p.1 e).job = some n) ∧ t.pwr.comp = s.pwr.comp + cost * s.pwr.gain / 65536 ∧ t.mem = s.mem) ∧
  (∀ (s : State), s.mayDispatch = false → exec .schedulerPass s = .next s) ∧
  (∀ (s : State) (av : Avenue) (eng : Engine), (s.engOf av eng).st = .waking → (s.engOf av eng).job = none →
    Runs (.engineWakeDone av eng) s fun t =>
      t.engOf av eng = { s.engOf av eng with st := .idle, fcur := s.clockOf av eng } ∧ t = { s with eng := t.eng }) ∧
  (∀ (s : State) (av : Avenue) (eng : Engine) (n : Nat) (j : Job), (s.engOf av eng).st = .waking → (s.engOf av eng).job = some n →
    s.job n = some j → j.phase = .waking → (∀ x ∈ s.engsOf n, x ≠ (av.val, eng.val) → (s.engOf x.1 x.2).st ≠ .waking) →
    Runs (.engineWakeDone av eng) s fun t => t.job n = some { j with phase := .loading } ∧ (t.engOf av eng).st = .idle) ∧
  (∀ (s : State) (n : Nat) (j : Job), s.job n = some j → j.phase = .loading → actNeeds j = [] → j.faults = [] →
    Runs (.activationLoadDone n) s fun t => ∃ i, t.job n = some i ∧ i.phase = .streaming ∧ i.cmd = j.cmd ∧ i.input = j.input) ∧
  (∀ (s : State) (n : Nat) (share : Share) (j : Job) (w : ShareWork) (x : Need) (y : Window) (v : LineData), s.job n = some j →
    j.phase = .streaming → j.work.get share = some w → w.read = false → j.cmd.d.opcode ≠ 0x38 → j.cmd.d.opcode ≠ 0x3A →
    j.cmd.d.opcode ≠ 0x3B → j.faults = [] → s.firstNeeds j = [x] → s.windowHome x.w x.off = share.val →
    s.opWindow j.cmd.d.district ⟨x.w, x.off⟩ = some y → y.r = true → x.off < y.span → j.input.get (inKey x.w x.off) = none →
    s.look j.cmd.d.district (if y.msBind then some y.msSlot else none) (y.base + x.off) = .value v →
    Runs (.engineReadData n share) s fun t =>
      t.job n = some { j with input := j.input.put (inKey x.w x.off) (some v), work := j.work.put share { w with read := true } } ∧
        t.mem.cells = s.mem.cells) ∧
  (∀ (s : State) (n a : Nat) (share : Share) (eng : Engine) (j : Job) (w : ShareWork), s.job n = some j → j.phase = .streaming →
    j.work.get share = some w → w.read = true → s.servedBy w.cluster = some a → (s.engOf a eng).job = some n →
    (s.engOf a eng).group.map (· / 2 ^ 32) = some share.val → j.work.wf = true →
    Runs (.rowGroupDone n share eng) s fun t =>
      (∃ i v, t.job n = some i ∧ i.work.get share = some v ∧ v.done = w.done + 1 ∧ v.total = w.total) ∧ t.mem = s.mem ∧
        ((s.engOf a eng).drain = true → (t.engOf a eng).st = .off ∧ EngineFree t a eng)) ∧
  (∀ (s : State) (n : Nat) (share : Share) (j : Job) (w : ShareWork), s.job n = some j → j.phase = .streaming →
    j.work.get share = some w → (∀ e ∈ j.work, e.2.done = e.2.total ∧ e.2.read = true) →
    Runs (.partialSumArrive n share) s fun t =>
      t.job n = some { j with work := j.work.put share { w with arrived := true } } ∧ t = { s with eng := t.eng }) ∧
  (∀ (s : State) (n : Nat) (j : Job), s.job n = some j → j.phase = .streaming → (∀ e ∈ j.work, e.2.arrived = true) →
    (s.madeOf j).reason = 0 → (s.madeOf j).part = false → j.attempts = 1 →
    (∀ g ∈ (s.madeOf j).segs, s.outFault j.cmd.d.district g.1 g.2.length = 0) →
    Runs (.jobCommitStart n false) s fun t =>
      ∃ i r, t.job n = some i ∧ i.phase = .committing ∧ i.commitStarted = true ∧ i.kept = some r ∧ r.status = 0 ∧
        r.result = (s.madeOf j).result) ∧
  (∀ (s : State) (n : Nat) (j : Job), s.job n = some j → j.phase = .streaming → (∀ e ∈ j.work, e.2.arrived = true) →
    (s.madeOf j).reason ≠ 0 → bitOf j.cmd.d.p0 1 = true →
    (∀ g ∈ (s.madeOf j).segs, s.outFault j.cmd.d.district g.1 g.2.length = 0) →
    Runs (.jobCommitStart n false) s fun t =>
      (∃ i r, t.job n = some i ∧ i.phase = .committing ∧ i.kept = some r ∧ r.status = Cs.faultNumeric ∧
        r.detail = (s.madeOf j).reason) ∧ t.mem = s.mem ∧ t.coh = s.coh) ∧
  (∀ (s : State) (n : Nat) (j : Job) (r : Record), s.job n = some j → j.phase = .committing → s.poolBusy (jobTag n) = false →
    j.after = [] → j.kept = some r → r.cmdId = j.cmd.d.cmdId → s.scrubs j.cmd.d.district = false → s.eng.jobs.wf = true →
    RingUp s j.cmd.ring →
    Runs (.jobCommitDone n) s fun t =>
      t.job n = none ∧ (∀ x ∈ s.engsOf n, EngineFree t x.1 x.2) ∧ Ends t j.cmd r.status r.detail r.result) ∧
  (∀ (s : State) (n : Nat) (j : Job) (r : Record), s.job n = some j → j.phase = .committing → s.poolBusy (jobTag n) = false →
    j.after = [] → j.kept = some r → s.scrubs j.cmd.d.district = true → s.engsOf n ≠ [] →
    Runs (.jobCommitDone n) s fun t =>
      t.job n = some { j with phase := .scrubbing } ∧ (∀ x ∈ s.engsOf n, (t.engOf x.1 x.2).st = .scrub) ∧ t.out = s.out) ∧
  (∀ (s : State) (n : Nat) (av : Avenue) (eng : Engine) (j : Job) (r : Record), (s.engOf av eng).st = .scrub →
    (s.engOf av eng).drain = false → (s.engOf av eng).job = some n → s.engsOf n = [(av.val, eng.val)] → s.job n = some j →
    j.phase = .scrubbing → j.kept = some r → r.cmdId = j.cmd.d.cmdId → RingUp s j.cmd.ring → s.eng.jobs.wf = true →
    Runs (.engineScrubDone av eng) s fun t =>
      (t.engOf av eng).st = .idle ∧ EngineFree t av eng ∧ t.job n = none ∧ Ends t j.cmd r.status r.detail r.result) ∧
  (∀ (s : State) (av : Avenue) (eng : Engine), (s.engOf av eng).st ≠ .retired → (s.engOf av eng).job = none →
    Runs (.engineCheckFail av eng) s fun t =>
      (t.engOf av eng).st = .retired ∧ EngineFree t av eng ∧ t.eng.jobs = s.eng.jobs ∧ t.mem = s.mem ∧
        (Listening s → Told t (Src.avenue av) 0x03 (eng + (s.engOf av eng).fmax * 256))) ∧
  (∀ (s : State) (av : Avenue) (eng : Engine), (s.engOf av eng).st = .retired → exec (.engineCheckFail av eng) s = .next s) ∧
  (∀ (s : State) (av : Avenue) (eng : Engine), (s.engOf av eng).st = .idle ∨ (s.engOf av eng).st = .test →
    Runs (.ageingCheck av eng true) s fun t =>
      t.engOf av eng = { s.engOf av eng with
        fmax := (s.engOf av eng).fmax - 1, fcur := min (s.engOf av eng).fcur ((s.engOf av eng).fmax - 1) } ∧
      (Listening s → Told t (Src.avenue av) 0x04 (eng + ((s.engOf av eng).fmax - 1) * 256)) ∧ t.mem = s.mem) ∧
  (∀ (s : State) (av : Avenue) (eng : Engine), exec (.ageingCheck av eng false) s = .next s) ∧
  (∀ (s : State) (n h cost : Nat) (j : Job) (picks : List (Nat × List Nat)),
    let d := j.cmd.d.district
    let ks := (s.clustersOf d).filter fun k => (s.servedBy k).isSome
    s.job n = some j → j.inFlight = true → s.mayDispatch = true →
    h = ks.foldl (fun m k => min m (s.allotment d k)) (min (bitsOf j.cmd.d.p0 10 8) s.pwr.present.engMax) → h ≠ 0 →
    s.fits d j.cmd.ring 3 h ks = some (picks, cost) →
    Runs (.hintPrewake n) s fun t =>
      (∀ p ∈ picks, ∀ e ∈ p.2, (t.engOf p.1 e).hint = some j.cmd.ring ∧ ((s.engOf p.1 e).st = .off → (t.engOf p.1 e).st = .waking)) ∧
        t.pwr.comp = s.pwr.comp + cost * s.pwr.gain / 65536 ∧ t.eng.jobs = s.eng.jobs) ∧
  (∀ (s : State) (ring : Nat),
    (∀ e ∈ s.eng.jobs, ¬(e.2.cmd.ring = ring ∧ e.2.inFlight = true ∧ bitsOf e.2.cmd.d.p0 10 8 ≠ 0)) →
    Runs (.prewakeExpiry ring) s fun t =>
      (∀ a e, t.engOf a e = if (s.engOf a e).hint = some ring ∧ (s.engOf a e).job.isNone = true then { s.engOf a e with hint := none }
        else s.engOf a e) ∧ t = { s with eng := t.eng })

/-- R240, R242 to R244: what the operators of data movement make. A fill repeats its pattern; a copy gives its source's bytes; a compare
gives the first byte that differs; an element of a gather that faults reads as 0xDEAD_BEEF, and the record names the elements that faulted.
Rests on log entries 43, 47. -/
def Obligations.OperatorResults : Prop :=
  (∀ (s : State) (j : Job), j.cmd.d.opcode = 0x30 →
    ∃ bs, (s.madeOf j).segs = [(oprefOf j.cmd.d.p2, bs)] ∧ bs.length = bitsOf j.cmd.d.p3 39 0 ∧
      ∀ i, i < bitsOf j.cmd.d.p3 39 0 → (bs.getD i 0).toNat = j.cmd.d.p4 / 256 ^ (i % 8) % 256) ∧
  (∀ (s : State) (j : Job), j.cmd.d.opcode = 0x31 →
    ∃ bs, (s.madeOf j).segs = [(oprefOf j.cmd.d.p3, bs)] ∧ bs.length = bitsOf j.cmd.d.p4 39 0 ∧ (s.madeOf j).reason = 0 ∧
      ∀ i, i < bitsOf j.cmd.d.p4 39 0 → (bs.getD i 0).toNat = (s.reader j).at (oprefOf j.cmd.d.p2) i % 256) ∧
  (∀ (s : State) (j : Job) (k : Nat),
    let other := fun i => if bitOf j.cmd.d.p4 40 then j.cmd.d.p3 / 256 ^ (i % 8) % 256 else (s.reader j).at (oprefOf j.cmd.d.p3) i
    j.cmd.d.opcode = 0x32 → k < bitsOf j.cmd.d.p4 39 0 → (s.reader j).at (oprefOf j.cmd.d.p2) k ≠ other k →
    (∀ i, i < k → (s.reader j).at (oprefOf j.cmd.d.p2) i = other i) →
    (s.madeOf j).result = 1 + k * 256 ∧ (s.madeOf j).segs = []) ∧
  (∀ (s : State) (j : Job),
    let other := fun i => if bitOf j.cmd.d.p4 40 then j.cmd.d.p3 / 256 ^ (i % 8) % 256 else (s.reader j).at (oprefOf j.cmd.d.p3) i
    j.cmd.d.opcode = 0x32 → (∀ i, i < bitsOf j.cmd.d.p4 39 0 → (s.reader j).at (oprefOf j.cmd.d.p2) i = other i) →
    (s.madeOf j).result = 0 ∧ (s.madeOf j).segs = []) ∧
  (∀ (s : State) (j : Job), j.cmd.d.opcode = 0x34 → j.elemFaults = [] → bitsOf j.cmd.d.p3 4 0 ≤ 16 →
    (s.madeOf j).part = false ∧ (s.madeOf j).result = 0xFF * 2 ^ 16 ∧
      ∃ bs, (s.madeOf j).segs = [(oprefOf j.cmd.d.p2, bs)] ∧
        bs = ((elemsOf j.cmd.d j.arg).map fun e => (s.reader j).bytes e.2.1 0 e.2.2.1).flatten) ∧
  (∀ (s : State) (j : Job) (k v : Nat), j.cmd.d.opcode = 0x34 → bitsOf j.cmd.d.p3 4 0 ≤ 16 → k < bitsOf j.cmd.d.p3 4 0 → v ≠ 0 →
    j.elemFaults = [(k, v)] →
    (s.madeOf j).part = true ∧ (s.madeOf j).result = 2 ^ k + k * 2 ^ 16 + v * 2 ^ 24)
/-- R469 to R471, R475, R480 to R484: a cap or a profile takes effect at the next 10 µs step; the estimate of the links and the memory
follows its gain; with compute over its share dispatch stops; calibration moves the gain by an eighth of its error; queries change nothing.
Rests on log entries 6, 48. -/
def Obligations.PowerBudget : Prop :=
  (∀ (s : State) (c : Cmd), Starts s c .g → c.d.opcode = 0x78 → 150 ≤ bitsOf c.d.p0 8 0 → bitsOf c.d.p0 8 0 ≤ 360 →
    Runs (.powerCap c) s fun t =>
      t.pwr = { s.pwr with changes := s.pwr.changes ++ [(none, { s.settings with cap := bitsOf c.d.p0 8 0 })] } ∧ t.eng = s.eng ∧
        Ends t c 0 0 s.pwr.present.cap) ∧
  (∀ (s : State) (c : Cmd), Starts s c .g → c.d.opcode = 0x78 → bitsOf c.d.p0 8 0 < 150 ∨ 360 < bitsOf c.d.p0 8 0 →
    Runs (.powerCap c) s fun t => t.pwr = s.pwr ∧ Ends t c 0x14 0 0) ∧
  (∀ (s : State) (c : Cmd),
    let x : Profile := ⟨bitsOf c.d.p0 16 8, bitsOf c.d.p1 2 0, bitsOf c.d.p1 15 8, bitsOf c.d.p1 23 16⟩
    Starts s c .g → c.d.opcode = 0x79 → 150 ≤ x.cap → x.cap ≤ 360 → x.engMax ≤ 6 → x.actCap = 0 ∨ 16 ≤ x.actCap → 100 ≤ x.fTarget →
    x.fTarget ≤ 240 →
    Runs (.powerProfile c) s fun t =>
      t.profile (bitsOf c.d.p0 3 0) = x ∧ (∀ n, n ≠ bitsOf c.d.p0 3 0 → t.profile n = s.profile n) ∧ t.pwr.present = s.pwr.present ∧
        t.pwr.changes = s.pwr.changes ++ (if s.pwr.number = bitsOf c.d.p0 3 0 then [(some (bitsOf c.d.p0 3 0), x)] else []) ∧
        Ends t c 0 0 0) ∧
  (∀ (s : State) (c : Cmd), Starts s c .q → c.d.opcode = 0x7A → s.pwr.present.cap < 2 ^ 16 →
    Runs (.powerQuery c) s fun t =>
      t.pwr = s.pwr ∧ t.eng = s.eng ∧ ∃ result, Ends t c 0 0 result ∧ result % 2 ^ 16 = s.pwr.present.cap ∧
        result / 2 ^ 16 % 2 ^ 16 = inWatts s.estimate % 2 ^ 16) ∧
  (∀ (s : State) (c : Cmd) (x : District), Starts s c .q → c.d.opcode = 0x7B → c.d.district ≠ 0 → s.district c.d.district = some x →
    Runs (.energyRead c) s fun t =>
      t.maps = s.maps ∧ Ends t c 0 0
        (x.energyMetered / 1000000000 % 2 ^ 64 + x.energyEst / 1000000000 % 2 ^ 64 * 2 ^ 64 + x.energyFrom % 2 ^ 64 * 2 ^ 128)) ∧
  (∀ (s : State) (raw : PowerRaw) (p : Option Nat) (x : Profile), s.pwr.changes = [(p, x)] →
    Runs (.powerEstimateTick raw) s fun t =>
      t.pwr.present = x ∧ t.pwr.number = p.getD s.pwr.number ∧ t.pwr.changes = [] ∧ t.pwr.links = raw.links * s.pwr.gain / 65536 ∧
        t.pwr.mem = raw.mem * s.pwr.gain / 65536 ∧ t.mem = s.mem ∧ t.maps = s.maps) ∧
  (∀ (s : State) (raw : PowerRaw), s.pwr.changes = [] →
    (∀ a, a < 9 → ∀ e, e < 6 → (s.engOf a e).st = .off ∨ (s.engOf a e).st = .retired) →
    s.pwr.present.cap * 1000 < s.regs.fld 0x780000 5 0 * 1000 + raw.links * s.pwr.gain / 65536 + raw.mem * s.pwr.gain / 65536 +
      (raw.comp + s.enginesPower) * s.pwr.gain / 65536 →
    Runs (.powerEstimateTick raw) s fun t => t.pwr.stopped = true ∧ t.pwr.present = s.pwr.present ∧ t.mem = s.mem) ∧
  (∀ (s : State),
    let p := s.pwr
    let tap := if s.regs.fld 0x780018 0 0 = 0 then s.isl.tap0 else s.isl.tap1
    let meas : Int := ((tap : Int) - p.tapEnergy) - s.regs.fld 0x780018 26 16 * 100
    let est : Int := p.rawSum / 100
    let n := (s.isl.count + 65536 - p.tapCount) % 65536
    9 ≤ n → n ≤ 11 → 0 < est → 4 * est ≤ 5 * meas → 4 * meas ≤ 5 * est →
    Runs .calibrationTick s fun t =>
      t.pwr.gain = ((p.gain : Int) + (meas * 65536 / est - p.gain) / 8).toNat ∧ t.pwr.validRun = p.validRun + 1 ∧ t.pwr.invalidRun = 0 ∧
        t.pwr.calFt = s.time.ft ∧ t.pwr.calibrated = (p.calibrated || decide (10 ≤ p.validRun + 1)) ∧ t.pwr.rawSum = 0) ∧
  (∀ (s : State), 2 ≤ s.pwr.invalidRun → s.pwr.calibrated = true → (s.isl.count + 65536 - s.pwr.tapCount) % 65536 < 9 →
    Runs .calibrationTick s fun t =>
      t.pwr.calibrated = false ∧ t.pwr.gain = s.pwr.gain ∧ (∃ n ∈ t.host.conds, n.source = Src.power ∧ n.cause = 0x02) ∧
        ∀ k j, t.job k = some j → j.started.isSome = true → j.est = true)

/-- R17, R468, R471 to R474, R480: a regulator that does not answer three times in a row raises its condition; the hardware limits gate the
engines at once; heat, and neighbours too far apart, are answered engine by engine, and a warm day lowers the scheduling limit. Rests on log
entries 6, 49. -/
def Obligations.HeatAndLimits : Prop :=
  (∀ (s : State) (rail : Nat), s.pwr.missed.get rail = some 2 →
    Runs (.regulatorPoll [(rail, none)]) s fun t =>
      t.pwr.missed.get rail = some 3 ∧ (∃ n ∈ t.host.conds, n.source = Src.power ∧ n.cause = 0x06) ∧ t.eng = s.eng) ∧
  (∀ (s : State) (rail v : Nat), (∀ e ∈ s.pwr.missed, e.1 ≠ rail → e.2 ≠ 3) → s.pwr.missed.wf = true →
    Runs (.regulatorPoll [(rail, some v)]) s fun t =>
      t.pwr.missed.get rail = none ∧ ∀ n ∈ t.host.conds, ¬(n.source = Src.power ∧ n.cause = 0x06)) ∧
  (∀ (s : State),
    Runs .fastPowerLimit s fun t =>
      t.pwr = { s.pwr with fastGated := true } ∧
        (∀ a e, a < 9 → e < 6 → (t.engOf a e).st ≠ .running ∧ (t.engOf a e).st ≠ .idle) ∧ (Listening s → Told t Src.power 0x04 0xF)) ∧
  (∀ (s : State), Runs .fastLimitRelease s fun t => t = { s with pwr := { s.pwr with fastGated := false } }) ∧
  (∀ (s : State) (av : Avenue),
    Runs (.junctionTrip av) s fun t =>
      t.av av = { s.av av with tripped := true } ∧ (∀ a, a ≠ av.val → t.av a = s.av a) ∧
        (∀ e, e < 6 → (t.engOf av e).st ≠ .running ∧ (t.engOf av e).st ≠ .idle) ∧
        (Listening s → Told t Src.power 0x04 (av + 2 ^ 8))) ∧
  (∀ (s : State) (av : Avenue),
    Runs (.junctionTripRelease av) s fun t =>
      t.av av = { s.av av with tripped := false } ∧ (∀ a, a ≠ av.val → t.av a = s.av a) ∧ t = { s with avail := t.avail }) ∧
  (∀ (s : State) (a : Nat) (tj : Int), a < 9 → (s.regs.fld 0x780000 21 15 : Int) ≤ tj → (s.av a).tj < s.regs.fld 0x780000 21 15 →
    Runs (.thermalStep [(a, tj)]) s fun t =>
      (t.av a).tj = tj ∧ (∀ b, b ≠ a → t.av b = s.av b) ∧ (Listening s → Told t Src.power 0x03 (a + tempByte tj * 256))) ∧
  (∀ (s : State) (a : Nat) (tj : Int), a < 9 → tj < (s.regs.fld 0x780000 21 15 : Int) → (s.av a).cool = 0 →
    Runs (.thermalStep [(a, tj)]) s fun t => t.av a = { s.av a with tj := tj } ∧ t = { s with avail := t.avail }) ∧
  (∀ (s : State) (av other : Avenue) (volt temp : Bool), (volt || temp) = true →
    Runs (.neighbourLimit av other volt temp) s fun t =>
      t.av av = { s.av av with paired := true } ∧ (∃ n ∈ t.host.conds, n.source = Src.avenue av ∧ n.cause = 0x02) ∧ t.eng = s.eng) ∧
  (∀ (s : State) (av other : Avenue) (e : Nat), (s.av av).paired = true → (s.drainable av).head? = some e → (s.engOf av e).st = .running →
    Runs (.neighbourDrain av other false) s fun t =>
      t.engOf av e = { s.engOf av e with drain := true } ∧ t = { s with eng := t.eng }) ∧
  (∀ (s : State) (av other : Avenue) (e : Nat), (s.av av).paired = true → (s.drainable av).head? = some e → (s.engOf av e).st = .idle →
    Runs (.neighbourDrain av other false) s fun t => (t.engOf av e).st = .off ∧ EngineFree t av e ∧ t.out = s.out) ∧
  (∀ (s : State) (av other : Avenue),
    Runs (.neighbourDrain av other true) s fun t =>
      t.av av = { s.av av with paired := false } ∧ (∀ n ∈ t.host.conds, ¬(n.source = Src.avenue av ∧ n.cause = 0x02)) ∧ t.eng = s.eng) ∧
  (∀ (s : State) (av : Avenue) (tj : Int),
    Runs (.tavgSample av tj) s fun t =>
      t.av av = { s.av av with temps := (tj :: (s.av av).temps).take 86400 } ∧
        t.pwr = (if t.tooWarm = true then { s.pwr with overAt := s.clock } else s.pwr) ∧ t.out = s.out) ∧
  (∀ (s : State), s.tooWarm = true → 85 < s.tSched →
    Runs .tschedHourly s fun t => t.pwr = { s.pwr with tDown := s.pwr.tDown + 1 } ∧ t.eng = s.eng ∧ t.avail = s.avail) ∧
  (∀ (s : State), s.tooWarm = false → s.pwr.overAt + 86400000000000 ≤ s.clock → 0 < s.pwr.tDown →
    Runs .tschedHourly s fun t => t = { s with pwr := { s.pwr with tDown := s.pwr.tDown - 1 } }) ∧
  (∀ (s : State) (av : Avenue),
    Runs (.vddDroopStretch av) s fun t => t = { s with regs := s.regs.count (0x200000 + av * 0x40000 + 0x810) 1 })

/-- R60 to R62, R64, R65, R67, R517, R519: a plan image is read from host memory; its activation and a power event wait for their instants;
a discard empties the standby bank and aborts an activation that is pending; a cancelled event's command completes ABORTED; an event takes
effect when Fabric Time reaches its instant, and outside LOCKED and HOLDOVER its command completes ABORTED; a switch-over ends with the
other core active, and a postponed one follows 1 s after the node is LOCKED. Rests on log entries 6, 63, 64. -/
def Obligations.PlansAndEvents : Prop :=
  (∀ (s : State) (c : Cmd), Starts s c .g → c.d.opcode = 0x70 → s.swapPending = false →
    Runs (.planLoad c) s fun t => DmaBegun t c false (bitsOf c.d.p0 31 0) ∧ Running t c ∧ t.time = s.time) ∧
  (∀ (s : State) (c : Cmd), Starts s c .g → c.d.opcode = 0x71 → s.time.standby.isSome = true → s.time.mode = .locked → s.eventRoom = true →
    s.instantOk c.d.p0 = true → c.d.p0 % max (cycleOf s.time.active) (cycleOf s.time.standby) = 0 → s.badSwap c.d.p0 = false →
    Runs (.planActivate c) s fun t =>
      t.time = { s.time with events := s.time.events ++ [⟨c.d.p0, .planSwap, some c⟩] } ∧ Running t c ∧ t.out = s.out) ∧
  (∀ (s : State) (c : Cmd), Starts s c .g → c.d.opcode = 0x72 → s.time.events = [] →
    Runs (.planDiscard c) s fun t => t.time = { s.time with standby := none } ∧ Ends t c 0 0 0) ∧
  (∀ (s : State) (c k : Cmd) (at' : Nat), Starts s c .g → c.d.opcode = 0x72 → s.time.events = [⟨at', .planSwap, some k⟩] → RingUp s k.ring →
    Runs (.planDiscard c) s fun t =>
      t.time = { s.time with standby := none, events := [] } ∧ Ends t k Cs.aborted 0 0 ∧ Ends t c 0 0 0) ∧
  (∀ (s : State) (c : Cmd), Starts s c .g → c.d.opcode = 0x74 → s.eventRoom = true → bitsOf c.d.p1 7 0 ≤ 15 → s.instantOk c.d.p0 = true →
    Runs (.eventSchedule c) s fun t =>
      t.time = { s.time with events := s.time.events ++ [⟨c.d.p0, .power (bitsOf c.d.p1 7 0), some c⟩] } ∧ Running t c ∧ t.out = s.out) ∧
  (∀ (s : State) (c : Cmd), Starts s c .g → c.d.opcode = 0x74 → s.eventRoom = true → bitsOf c.d.p1 7 0 ≤ 15 → s.instantOk c.d.p0 = false →
    Runs (.eventSchedule c) s fun t => t.time = s.time ∧ Ends t c 0x14 0 0) ∧
  (∀ (s : State) (c k : Cmd) (at' n : Nat), Starts s c .g → c.d.opcode = 0x75 → s.time.events = [⟨at', .power n, some k⟩] →
    k.d.cmdId = bitsOf c.d.p0 31 0 → issuerOf k.ring = bitsOf c.d.p1 8 0 → s.time.ft + 10000 < at' → RingUp s k.ring →
    Runs (.eventCancel c) s fun t => t.time = { s.time with events := [] } ∧ Ends t k Cs.aborted 0 0 ∧ Ends t c 0 0 0) ∧
  (∀ (s : State) (c k : Cmd) (at' n : Nat), Starts s c .g → c.d.opcode = 0x75 → s.time.events = [⟨at', .power n, some k⟩] →
    k.d.cmdId = bitsOf c.d.p0 31 0 → issuerOf k.ring = bitsOf c.d.p1 8 0 → at' ≤ s.time.ft + 10000 →
    Runs (.eventCancel c) s fun t => t.time = s.time ∧ Ends t c 0x12 1 0) ∧
  (∀ (s : State) (at' n : Nat) (k : Cmd), s.boot.fwReady = true → s.time.events = [⟨at', .power n, some k⟩] → s.time.ft ≤ at' →
    s.timeGood = true → s.switchingOver = false → (∀ p, p < 3 → s.periodicAt p at' = false) → RingUp s k.ring →
    Runs (.eventInstant at') s fun t =>
      t.time.ft = at' ∧ t.time.events = [] ∧ t.pwr.changes = s.pwr.changes ++ [(some n, s.profile n)] ∧ Ends t k 0 0 (at' % 2 ^ 64)) ∧
  (∀ (s : State) (at' n : Nat) (k : Cmd), s.boot.fwReady = true → s.time.events = [⟨at', .power n, some k⟩] → s.time.ft ≤ at' →
    s.timeGood = false → (∀ p, p < 3 → s.periodicAt p at' = false) → RingUp s k.ring →
    Runs (.eventInstant at') s fun t =>
      t.time.ft = at' ∧ t.time.events = [] ∧ t.pwr = s.pwr ∧ Ends t k Cs.aborted 0 0) ∧
  (∀ (s : State) (at' : Nat) (k : Cmd), s.boot.fwReady = true → s.time.events = [⟨at', .planSwap, some k⟩] → s.time.ft ≤ at' →
    s.timeGood = true → s.switchingOver = false → (∀ p, p < 3 → s.periodicAt p at' = false) → RingUp s k.ring →
    Runs (.eventInstant at') s fun t =>
      t.time.active = s.time.standby ∧ t.time.standby = s.time.active ∧ t.time.running = true ∧ t.time.events = [] ∧
        Ends t k 0 0 (at' % 2 ^ 64)) ∧
  (∀ (s : State) (pair : Pair) (w : Switch), (s.core pair).switching = some w → w.planned = false → s.time.events = [] →
    Runs (.roleSwapDone pair) s fun t =>
      (t.core pair).active = 1 - (s.core pair).active ∧ (t.core pair).switching = none ∧ (t.core pair).standbyPassed = false ∧
        (∀ p, p ≠ pair.val → t.core p = s.core p) ∧ t.out = s.out) ∧
  (∀ (s : State) (pair : Pair) (w : Switch) (k : Cmd), (s.core pair).switching = some w → w.planned = true → w.cmd = some k →
    s.time.events = [] → RingUp s k.ring →
    Runs (.roleSwapDone pair) s fun t =>
      (t.core pair).active = 1 - (s.core pair).active ∧ (t.core pair).switching = none ∧ Ends t k 0 0 (w.start % 2 ^ 64) ∧
        (Listening s → Told t Src.cores 0x01 (pair + w.forced.toNat * 4 + (1 - (s.core pair).active) * 8))) ∧
  (∀ (s : State) (pair : Pair), s.time.postponed.contains pair.val = true → s.time.mode = .locked → s.swapBlocked false = false →
    s.switchingOver = false → (s.core pair).lost = false → (s.core pair).ready = true →
    Runs (.postponedRoleSwap pair) s fun t =>
      t.core pair = { s.core pair with switching := some ⟨true, false, t.time.ft, none⟩ } ∧ pair.val ∉ t.time.postponed ∧
        s.time.lockedAt + 1000000000 ≤ t.clock)

/-- R38, R40 to R47: an edge with its second count makes the external reference selectable, and three that are missing lose it; time
messages carry the node's time and measure a peer's; the node locks after 1 s within 4 ns, leaves LOCKED after 10 ms beyond 16 ns, and stops
its plan after 60 s of HOLDOVER. Rests on log entries 6, 60, 61, 62. -/
def Obligations.FabricTime : Prop :=
  (∀ (s : State) (c : Cmd), Starts s c .g → c.d.opcode = 0x73 → bitOf (s.regs.val 0x40010).toNat 0 = true → s.time.drvCount = none →
    Runs (.timeSet c) s fun t =>
      t.time = { s.time with drvCount := some ⟨bitsOf c.d.p0 47 0, s.clock, some c⟩ } ∧ Running t c ∧ t.out = s.out) ∧
  (∀ (s : State) (h : HeldCount) (k : Cmd), s.time.drvCount = some h → h.cmd = some k → RingUp s k.ring →
    Runs .timeSetTimeout s fun t => t.time.drvCount = none ∧ h.arrived + 2000000000 ≤ t.clock ∧ Ends t k Cs.aborted 2 0) ∧
  (∀ (s : State) (dt : Nat) (h : HeldCount) (k : Cmd), s.time.drvCount = some h → h.cmd = some k → RingUp s k.ring →
    h.arrived + 100000000 ≤ s.clock + dt → s.clock + dt ≤ h.arrived + 900000000 → s.time.bmcCount = none → s.time.extExpect = none →
    s.time.events = [] →
    Runs (.timerefPpsEdge dt) s fun t =>
      t.time.extSelectable = true ∧ t.time.extExpect = some (s.clock + dt + 1000000000) ∧ t.time.extNext = h.count + 1 ∧
        t.time.extBad = 0 ∧ t.time.drvCount = none ∧ Ends t k 0 0 0) ∧
  (∀ (s : State) (e : Nat), s.time.extExpect = some e → s.time.extBad < 2 →
    Runs .ppsEdgeMissed s fun t =>
      t.time.extBad = s.time.extBad + 1 ∧ t.time.extSelectable = s.time.extSelectable ∧ e + 1001 ≤ t.clock ∧ t.out = s.out) ∧
  (∀ (s : State) (e : Nat), s.time.extExpect = some e → 2 ≤ s.time.extBad →
    Runs .ppsEdgeMissed s fun t => t.time.extSelectable = false ∧ t.time.extExpect = none ∧ t.time.extBad = 0) ∧
  (∀ (s : State), s.time.lost10m = false → bitOf (s.regs.val 0x40010).toNat 1 = true →
    Runs .timeref10mLoss s fun t =>
      t.time = { s.time with lost10m := true } ∧ (s.time.extSelectable = true → Listening s → Told t Src.time 0x04 0)) ∧
  (∀ (s : State) (count : Nat),
    Runs (.bmcTimeCount count) s fun t =>
      t = { s with time := { s.time with bmcCount := some ⟨count % 2 ^ 48, s.clock, none⟩ } }) ∧
  (∀ (s : State) (n : Nat), n < 12 → (s.jl n).st = 5 → bitOf (s.regs.val 0x40010).toNat (n + 4) = true → s.mute = false →
    Runs .timeMsgSend s fun t =>
      (∃ a b hops state, Out.timeMsg n ((s.time.ports.get n).getD PortTime.init).txSeq t.time.ft a b hops state (s.regs.fld 0x40010 31 16) ∈
        t.out) ∧ t.time.msgAt = t.clock ∧ s.time.msgAt + s.regs.fld 0x40014 19 0 ≤ t.clock) ∧
  (∀ (s : State) (jl : JPort) (m : TimeMsg), (s.jl jl).st = 5 → bitOf (s.regs.val 0x40010).toNat (jl.val + 4) = true → m.echoTx = 0 →
    Runs (.timeMsgReceive jl m) s fun t =>
      t.time.ports.get jl = some { (s.time.ports.get jl).getD PortTime.init with
        hops := m.hops, state := m.state, domain := m.domain, echoTx := m.txFt, echoRx := s.time.ft }) ∧
  (∀ (s : State) (jl : JPort) (m : TimeMsg), (s.jl jl).st = 5 → bitOf (s.regs.val 0x40010).toNat (jl.val + 4) = true → m.echoTx ≠ 0 →
    ((s.time.ports.get jl).getD PortTime.init).delay = none → s.time.events = [] →
    Runs (.timeMsgReceive jl m) s fun t =>
      (∃ p, t.time.ports.get jl = some p ∧ p.heard = true ∧ p.hops = m.hops ∧ p.state = m.state ∧ p.domain = m.domain ∧
        p.theta = thetaOf m.echoTx m.echoRx m.txFt s.time.ft (signedOf 16 (s.regs.fld (0x40040 + 4 * jl) 15 0))) ∧
      (t.jl jl).exchanges = (s.jl jl).exchanges - 1) ∧
  (∀ (s : State) (since : Nat), s.time.mode = .acquiring → s.time.inside = some since →
    Runs .acquireLockTimer s fun t =>
      t.time.mode = .locked ∧ t.time.lockedAt = t.clock ∧ since + 1000000000 ≤ t.clock ∧ (Listening s → Told t Src.time 0x03 2)) ∧
  (∀ (s : State) (since : Nat), s.time.mode = .locked → s.time.outside = some since →
    Runs .lockOffsetTimer s fun t => t.time.mode = .acquiring ∧ t.time.inside = none ∧ since + 10000000 ≤ t.clock ∧ t.out = s.out) ∧
  (∀ (s : State), s.time.mode = .holdover →
    Runs .holdoverExpiry s fun t =>
      t.time.mode = .suspended ∧ t.time.running = false ∧ t.planOn = false ∧ s.time.lostAt + 60000000000 ≤ t.clock ∧
        (∀ e ∈ t.time.events, e.kind ≠ .planSwap) ∧ (Listening s → Told t Src.time 0x02 4)) ∧
  (∀ (s : State) (p : Plan), s.time.active = some p → s.time.mode = .locked → s.time.running = false →
    Runs .planResume s fun t =>
      t.planOn = true ∧ t.time.ft % (128 * 2 ^ p.slotLog2) = 0 ∧ s.time.lockedAt + 1000000000 ≤ t.clock ∧ t.out = s.out)
namespace Sys2Proof.Claims

open Sys2Proof Sys2Proof.Machine

/-- Every Avenue but some, and every share but some, keeps its state. -/
def AvsKept (s t : State) (as : List Nat) : Prop := ∀ a, a ∉ as → t.av a = s.av a
def SharesKept (s t : State) (ns : List Nat) : Prop := ∀ n, n ∉ ns → t.share n = s.share n

/-- No handover, roll, admission or retirement is in progress. -/
def Settled (s : State) : Prop := s.avail.handover = none ∧ s.avail.roll = none ∧ s.avail.admitting = none

end Sys2Proof.Claims

/-- R35, R36, R128, R266, R505 to R510: a serving Avenue that fails leaves its share in a gap when a spare is ready, and UNSERVED otherwise;
the spare connects, loads the mirror and the journals, recalls, and reopens the share; a keeper refreshes channels that nobody has. Rests on
log entries 6, 66. -/
def Obligations.FailOver : Prop :=
  (∀ (s : State) (a : Avenue) (n b : Nat), (s.av a).role = AvRole.serving → (s.av a).share = some n → Settled s → s.spare = some b →
    (s.share n).copyLost = false →
    Runs (.avenueFailed a) s fun t =>
      (t.av a).role = AvRole.failed ∧ (t.av a).share = none ∧ AvsKept s t [a] ∧
        t.share n = { s.share n with st := .gap, step := 1, keeper := false } ∧ SharesKept s t [n] ∧
        (∀ e, e < 6 → (t.engOf a e).st = .off ∨ (t.engOf a e).st = .retired) ∧ (Listening s → Told t (Src.avenue a) 0x01 n)) ∧
  (∀ (s : State) (a : Avenue) (n : Nat), (s.av a).role = AvRole.serving → (s.av a).share = some n → Settled s → s.spare = none →
    (s.share n).copyLost = false →
    Runs (.avenueFailed a) s fun t =>
      (t.av a).role = AvRole.failed ∧ t.share n = { s.share n with st := .unserved, step := 0, keeper := false } ∧ SharesKept s t [n]) ∧
  (∀ (s : State) (n : Share) (a : Nat), (s.share n).st = .gap → (s.share n).step = 1 →
    (∀ e ∈ s.avail.avs, ¬(e.2.role = AvRole.loading ∧ e.2.share = some n.val)) →
    (s.avail.avs.find? fun e => e.2.role == .spareReady).map (·.1) = some a →
    Runs (.spareConnect n) s fun t =>
      t.av a = { s.av a with role := AvRole.loading, share := some n.val, lapRunning := false } ∧ AvsKept s t [a] ∧
        t.share n = { s.share n with step := 2, keeper := false } ∧ (t.chan (2 * n)).owed = [] ∧ (t.chan (2 * n + 1)).owed = [] ∧
        t.mem = s.mem) ∧
  (∀ (s : State) (n : Share), (s.share n).st = .gap → (s.share n).step = 2 → s.mute = false →
    Runs (.spareLoadDone n) s fun t =>
      t.share n = { s.share n with step := 3 } ∧ Out.snoop (shareSnoop n) ∈ t.out ∧
        (∀ k c, k % 8 = n.val → s.crossing k = some c →
          t.crossing k = some { c with recovery := c.journal, rseq := c.seq, rft := s.time.ft }) ∧
        (∀ k, k % 8 ≠ n.val → t.crossing k = s.crossing k) ∧ t.mem.cells = s.mem.cells) ∧
  (∀ (s : State) (n : Share) (a : Nat), (s.share n).st = .gap → (s.share n).step = 3 → (∀ w ∈ s.coh.allWaits, w.share ≠ n.val) →
    s.avail.admitting = none → (s.avail.avs.find? fun e => e.2.role == .loading && e.2.share == some n.val).map (·.1) = some a →
    Runs (.shareReopen n) s fun t =>
      (t.share n).st = .opened ∧ (t.share n).wthru = false ∧ t.av a = { s.av a with role := AvRole.serving } ∧ AvsKept s t [a]) ∧
  (∀ (s : State) (n : Share), s.servedBy n = none → (s.share n).st = .unserved → (s.share n).keeper = false →
    Runs (.refreshKeeperTakeover n) s fun t =>
      t.share n = { s.share n with keeper := true } ∧ (t.chan (2 * n)).owed = [] ∧ (t.chan (2 * n + 1)).owed = [] ∧ SharesKept s t [n] ∧
        t.mem = s.mem)

/-- R510, R513 to R515: an Avenue runs its self-test in laps, becomes the spare when a lap passes and is FAILED when a segment fails twice;
an admitted Avenue is tested first and its channels are restored; a retired one serves nothing; engines that are OFF are tested too. Rests
on log entry 65. -/
def Obligations.AvenuesTestedAndAdmitted : Prop :=
  (∀ (s : State) (c : Cmd), Starts s c .g → c.d.opcode = 0x60 → bitsOf c.d.p0 3 0 ≤ 8 → (s.av (bitsOf c.d.p0 3 0)).role = AvRole.spareReady →
    s.changing = false → c.d.p1 = 0 →
    Runs (.avenueRetire c) s fun t =>
      t.av (bitsOf c.d.p0 3 0) = { s.av (bitsOf c.d.p0 3 0) with role := AvRole.retired, share := none, lapRunning := false } ∧
        AvsKept s t [bitsOf c.d.p0 3 0] ∧ Ends t c 0 0 (s.time.ft % 2 ^ 64)) ∧
  (∀ (s : State) (c : Cmd) (n b : Nat), Starts s c .g → c.d.opcode = 0x60 → bitsOf c.d.p0 3 0 ≤ 8 →
    (s.av (bitsOf c.d.p0 3 0)).role = AvRole.serving → (s.av (bitsOf c.d.p0 3 0)).share = some n → s.spare = some b → s.changing = false →
    s.eventRoom = true → c.d.p1 ≠ 0 → s.instantOk c.d.p1 = true →
    Runs (.avenueRetire c) s fun t =>
      t.avail.handover = some ⟨n, bitsOf c.d.p0 3 0, b, c.d.p1, false, none, 0, (s.av b).role, true, some c⟩ ∧
        t.time.events = s.time.events ++ [⟨c.d.p1, .handover, some c⟩] ∧ (t.av b).role = AvRole.loading ∧ AvsKept s t [b] ∧ Running t c) ∧
  (∀ (s : State) (c : Cmd),
    let a := bitsOf c.d.p0 3 0
    let n := bitsOf c.d.p0 7 4
    Starts s c .g → c.d.opcode = 0x61 → a ≤ 8 → n < 8 → c.d.p1 = 0 → (s.av a).role = AvRole.failed → s.changing = false → s.eventRoom = true →
    Runs (.avenueAdmit c) s fun t =>
      (t.av a).role = AvRole.selfTest ∧ (t.av a).lapRunning = true ∧ AvsKept s t [a] ∧ Running t c ∧ SharesKept s t [] ∧
        ∃ x, t.avail.admitting = some x ∧ x.cmd = c ∧ x.av = a ∧ x.share = n ∧ x.lapDone = false) ∧
  (∀ (s : State) (ch : Chan) (x : Admit), s.avail.admitting = some x → x.lapDone = true → x.chans = [ch.val] → x.failed = false →
    (s.av x.av).role = AvRole.serving → RingUp s x.cmd.ring →
    Runs (.channelRestoreDone ch true) s fun t =>
      (t.cprot ch).st = 0 ∧ (t.chan ch).inService = true ∧ (t.chan ch).mode = 2 ∧ t.avail.admitting = none ∧
        Ends t x.cmd 0 0 (s.time.ft % 2 ^ 64)) ∧
  (∀ (s : State) (ch : Chan) (x : Admit), s.avail.admitting = some x → x.lapDone = true → x.chans = [ch.val] →
    (s.av x.av).role = AvRole.serving → RingUp s x.cmd.ring →
    Runs (.channelRestoreDone ch false) s fun t => t.cprot ch = s.cprot ch ∧ t.avail.admitting = none ∧ Ends t x.cmd 0x12 3 0) ∧
  (∀ (s : State) (a : Avenue), (s.av a).role = AvRole.selfTest → (s.av a).lapRunning = false → s.boot.fwReady = true → (s.av a).lapAt = none →
    Runs (.selfTestLapStart a) s fun t =>
      t.av a = { s.av a with lapRunning := true, segment := 0, retried := false, lapAt := some s.clock } ∧ AvsKept s t [a] ∧ t.mem = s.mem) ∧
  (∀ (s : State) (a : Avenue) (segment : Nat), (s.av a).lapRunning = true →
    Runs (.selfTestSegmentDone a segment true false) s fun t =>
      t.av a = { s.av a with segment := segment + 1, retried := false } ∧ t = { s with avail := t.avail }) ∧
  (∀ (s : State) (a : Avenue) (segment : Nat), (s.av a).lapRunning = true → s.avail.admitting = none →
    Runs (.selfTestSegmentDone a segment true true) s fun t =>
      t.av a = { s.av a with role := AvRole.spareReady, lapRunning := false, lastPass := true, laps := (s.av a).laps + 1, lapEnd := s.time.ft } ∧
        AvsKept s t [a] ∧ t.mem = s.mem) ∧
  (∀ (s : State) (a : Avenue) (segment : Nat), (s.av a).lapRunning = true → (s.av a).retried = false →
    Runs (.selfTestSegmentDone a segment false false) s fun t =>
      t.av a = { s.av a with segment := segment, retried := true } ∧ t = { s with avail := t.avail }) ∧
  (∀ (s : State) (a : Avenue) (segment : Nat), (s.av a).lapRunning = true → (s.av a).retried = true → (s.av a).role = AvRole.selfTest →
    Settled s →
    Runs (.selfTestSegmentDone a segment false false) s fun t =>
      (t.av a).role = AvRole.failed ∧ (t.av a).failSeg = segment ∧ (t.av a).lapRunning = false ∧
        (Listening s → Told t (Src.avenue a) 0x01 0xF)) ∧
  (∀ (s : State) (a : Avenue) (e : Engine), (s.av a).role = AvRole.serving → (s.engOf a e).st = .off →
    Runs (.offEngineTest a e false false) s fun t => t.engOf a e = { s.engOf a e with st := .test } ∧ t = { s with eng := t.eng }) ∧
  (∀ (s : State) (a : Avenue) (e : Engine), (s.av a).role = AvRole.serving → (s.engOf a e).st = .test →
    Runs (.offEngineTest a e true true) s fun t => (t.engOf a e).st = .off ∧ EngineFree t a e ∧ t.out = s.out) ∧
  (∀ (s : State) (a : Avenue) (e : Engine), (s.av a).role = AvRole.serving → (s.engOf a e).st = .test →
    Runs (.offEngineTest a e true false) s fun t => (t.engOf a e).st = .retired)

/-- R511, R512, R524 to R526: a handover is prepared by a directory copy and a drain, closes the share's ledger, switches its channels and
reopens it on the incoming Avenue; a firmware roll rotates the Avenues through the spare, step by step. Rests on log entries 6, 65. -/
def Obligations.HandoversAndRolls : Prop :=
  (∀ (s : State) (h : Handover), s.avail.handover = some h → h.phase = 0 →
    Runs .handoverDirCopyDone s fun t =>
      t.avail = { s.avail with handover := some { h with copied := true } } ∧ t = { s with avail := t.avail }) ∧
  (∀ (s : State) (h : Handover), s.avail.handover = some h → h.phase = 0 → h.drain = none →
    Runs .handoverDrainStart s fun t =>
      t.avail.handover = some { h with drain := some t.time.ft } ∧ (t.share h.share).wthru = true ∧
        (t.share ((h.share + 7) % 8)).wthru = true ∧ h.instant - s.drainNs ≤ t.time.ft ∧
        ∀ l ∈ s.dirtyLines h.share, ∃ u ∈ t.prot.updates, u.line = l) ∧
  (∀ (s : State) (h : Handover), s.avail.handover = some h → h.phase = 1 →
    Runs .handoverLedgerClose s fun t =>
      t.avail.handover = some { h with phase := 2 } ∧ h.instant + 12000 ≤ t.time.ft ∧ t.maps = s.maps ∧ t.prot = s.prot) ∧
  (∀ (s : State) (h : Handover), s.avail.handover = some h → h.phase = 2 → h.inAv ≠ h.outAv → h.retire = true →
    Runs .handoverSwitch s fun t =>
      t.avail.handover = some { h with phase := 3 } ∧ t.av h.inAv = { s.av h.inAv with role := AvRole.serving, share := some h.share } ∧
        (t.av h.outAv).role = AvRole.retired ∧ (t.av h.outAv).share = none ∧ h.instant + 15000 ≤ t.time.ft ∧ t.mem.cells = s.mem.cells) ∧
  (∀ (s : State) (h : Handover) (k : Cmd), s.avail.handover = some h → h.phase = 3 → h.cmd = some k → s.avail.roll = none →
    s.coh.moveWait = [] → s.eng.held = [] → RingUp s k.ring →
    Runs .handoverReopen s fun t =>
      t.avail.handover = none ∧ (t.share h.share).st = .opened ∧ (t.share h.share).wthru = false ∧ h.instant + 20000 ≤ t.time.ft ∧
        Ends t k 0 0 (h.instant % 2 ^ 64) ∧ (Listening s → Told t Src.cores 0x05 (h.share + h.outAv * 16 + h.inAv * 256))) ∧
  (∀ (s : State) (c : Cmd) (b : Bundle) (a : Nat), Starts s c .g → c.d.opcode = 0x68 → s.avail.staged = some b → s.spare = some a →
    (∀ n, n < 8 → s.isOpen n = true) → s.time.mode = .locked → s.changing = false → bitsOf c.d.p0 15 0 = 0 → c.d.p1 = 0 →
    ((List.range 8).filter fun n => ((s.servedBy n).map fun o => (s.av o).build) != some b.build) ≠ [] →
    Runs (.fwRoll c) s fun t =>
      t.avail.roll = some ⟨c, 2000, b, (List.range 8).filter fun n => ((s.servedBy n).map fun o => (s.av o).build) != some b.build,
        [2, 1, 0], 0, roundUp (s.time.ft + 2000000000) 128⟩ ∧
      t.av a = { s.av a with role := AvRole.loading, lapRunning := false } ∧ AvsKept s t [a] ∧ Running t c ∧ t.boot = s.boot) ∧
  (∀ (s : State) (r : Roll) (a n o : Nat) (rest : List Nat), s.avail.roll = some r → s.avail.handover = none →
    (s.avail.avs.find? fun e => e.2.role == .loading && e.2.share.isNone).map (·.1) = some a → r.left = n :: rest →
    s.servedBy n = some o → r.nextAt ≠ 0 →
    Runs (.rollSpareReady true) s fun t =>
      t.avail.handover = some ⟨n, o, a, r.nextAt, false, none, 0, AvRole.spareReady, false, none⟩ ∧
        t.time.events = s.time.events ++ [⟨r.nextAt, .handover, none⟩] ∧ (t.av a).build = r.bundle.build ∧ (t.av a).lastPass = true ∧
        t.avail.roll = some r) ∧
  (∀ (s : State) (r : Roll) (a : Nat), s.avail.roll = some r → s.avail.handover = none →
    (s.avail.avs.find? fun e => e.2.role == .loading && e.2.share.isNone).map (·.1) = some a → RingUp s r.cmd.ring →
    Runs (.rollSpareReady false) s fun t =>
      (t.av a).role = AvRole.failed ∧ t.avail.roll = none ∧ Ends t r.cmd Cs.aborted 1 (r.step % 256))

/-- R24, R27, R516 to R522: an active core that fails is replaced by a standby that is ready, and otherwise its pair is lost; checkpoints
are written on time; a swap waits for its instant; an unfenced node may be heard again; the health report goes to host memory. Rests on log
entries 6, 63, 65. -/
def Obligations.CoresAndFences : Prop :=
  (∀ (s : State) (c : Cmd), Starts s c .g → c.d.opcode = 0x64 → s.isFenced (bitsOf c.d.p0 15 0) = true → s.coh.fenced.wf = true →
    Runs (.nodeUnfence c) s fun t =>
      t.isFenced (bitsOf c.d.p0 15 0) = false ∧ (∀ n, n ≠ bitsOf c.d.p0 15 0 → t.isFenced n = s.isFenced n) ∧ t.mem = s.mem ∧
        Ends t c 0 0 0) ∧
  (∀ (s : State) (c : Cmd), Starts s c .g → c.d.opcode = 0x64 → s.isFenced (bitsOf c.d.p0 15 0) = false →
    Runs (.nodeUnfence c) s fun t => t.coh = s.coh ∧ Ends t c 0x12 0 0) ∧
  (∀ (s : State) (c : Cmd),
    let p := bitsOf c.d.p0 1 0
    let at' := c.d.p1
    Starts s c .g → c.d.opcode = 0x65 → p < 3 → (s.core p).ready = true → s.avail.roll = none → s.eventRoom = true → at' ≠ 0 →
    s.instantOk at' = true → s.time.events = [] → (∀ q, q < 3 → q ≠ p → s.periodicNear q at' = false) →
    Runs (.roleSwap c) s fun t =>
      t.time = { s.time with events := [⟨at', .roleSwap p true, some c⟩] } ∧ Running t c ∧ t.out = s.out) ∧
  (∀ (s : State) (c : Cmd), Starts s c .pf → c.d.opcode = 0x66 → bitOf c.d.p1 0 = false → 416 ≤ bitsOf c.d.p0 31 0 →
    Runs (.healthRead c) s fun t => DmaBegun t c true 416 ∧ Running t c ∧ t.avail = s.avail) ∧
  (∀ (s : State) (c : Cmd),
    let n := bitsOf c.d.p3 12 0
    Starts s c .pf → c.d.opcode = 0x66 → bitOf c.d.p1 0 = true → 1 ≤ n → n ≤ 4096 → bitsOf c.d.p2 16 0 + n ≤ 2 ^ 17 →
    n * 256 ≤ bitsOf c.d.p0 31 0 →
    Runs (.healthRead c) s fun t => DmaBegun t c true (n * 256) ∧ t.coh = s.coh) ∧
  (∀ (s : State) (a : Avenue) (n : Nat), (s.av a).role = AvRole.serving → (s.av a).share = some n →
    Runs (.avenueCheckpoint a) s fun t =>
      t.av a = { s.av a with checkpoint := t.time.ft } ∧ (s.av a).checkpoint + 100000000 ≤ t.time.ft ∧
        t.share n = { s.share n with copyLost := false } ∧ AvsKept s t [a] ∧ SharesKept s t [n]) ∧
  (∀ (s : State) (p : Pair), (s.core p).lost = false → (s.core p).switching = none → s.boot.fwReady = true →
    Runs (.coreCheckpoint p) s fun t =>
      t.core p = { s.core p with checkpoint := t.clock } ∧ (s.core p).checkpoint + 10000000 ≤ t.clock) ∧
  (∀ (s : State) (p : Pair), (s.core p).standbyFailed = false → (s.core p).switching = none → s.boot.fwReady = true →
    Runs (.standbySelfTest p true) s fun t =>
      t.core p = { s.core p with standbyPassed := true, lapFails := 0 } ∧ t = { s with avail := t.avail }) ∧
  (∀ (s : State) (p : Pair), (s.core p).standbyFailed = false → (s.core p).switching = none → s.boot.fwReady = true →
    Runs (.standbySelfTest p false) s fun t =>
      t.core p = { s.core p with
        standbyPassed := false, lapFails := (s.core p).lapFails + 1, standbyFailed := decide (3 ≤ (s.core p).lapFails + 1) } ∧
      t = { s with avail := t.avail }) ∧
  (∀ (s : State) (p : Pair), (s.core p).lost = false → (s.core p).switching = none → s.boot.fwReady = true → (s.core p).ready = true →
    Runs (.coreWatchdog p) s fun t =>
      t.core p = { s.core p with switching := some ⟨false, false, s.time.ft, none⟩ } ∧
        (Listening s → Told t Src.cores 0x03 (p.val + 16)) ∧ t.mem = s.mem) ∧
  (∀ (s : State) (p : Pair), (s.core p).lost = false → (s.core p).switching = none → s.boot.fwReady = true → (s.core p).ready = false →
    Runs (.coreWatchdog p) s fun t =>
      t.core p = { s.core p with lost := true } ∧ (∃ n ∈ t.host.conds, n.source = Src.cores ∧ n.cause = 0x04) ∧ t.mem = s.mem)
/-- R451, R453 to R459, R462, R464, R523: keys, models and bundles are read from host memory once their session and operands are right; a
key that passes its checks is installed, and one whose tag fails is refused; an unbind waits for the jobs of its window; bounce regions are
set and cleared. Rests on log entries 25, 69, 75. -/
def Obligations.KeysAndModels : Prop :=
  (∀ (s : State) (c : Cmd), Starts s c .g → c.d.opcode = 0x67 → bitsOf c.d.p0 31 0 ≤ 2 ^ 26 →
    Runs (.fwStage c) s fun t => DmaBegun t c false (bitsOf c.d.p0 31 0) ∧ Running t c ∧ t.avail = s.avail) ∧
  (∀ (s : State) (c : Cmd), Starts s c .d → c.d.opcode = 0x80 → s.sessionOpen (bitsOf c.d.p1 31 0) = true → bitsOf c.d.p0 2 0 ≤ 2 →
    s.sec.models.length < 4096 →
    Runs (.keyInstall c) s fun t => DmaBegun t c false 128 ∧ Running t c ∧ t.sec = s.sec) ∧
  (∀ (s : State) (c : Cmd), Starts s c .d → c.d.opcode = 0x80 → s.sessionOpen (bitsOf c.d.p1 31 0) = false →
    Runs (.keyInstall c) s fun t => t.sec = s.sec ∧ Ends t c 0x12 1 0) ∧
  (∀ (s : State) (c : Cmd) (k fn addr : Nat) (bs : List Byte) (x : District) (pri : Nat), c.d.opcode = 0x80 →
    s.host.dmas.get k = some ⟨fn, c, false, addr, 128, 0, [], true, false, pri, .command⟩ → addr % 4096 = 0 → bs.length = 128 →
    bitsOf c.d.p0 2 0 = 0 → s.district c.d.district = some x → x.level ≠ 0 → s.hasPages c.d.district = false → RingUp s c.ring →
    s.sessionOpen (bitsOf c.d.p1 31 0) = true → field bs 4 1 = 0 → field bs 5 1 = bitsOf c.d.p0 5 3 →
    field bs 6 2 % 1024 = c.d.district → field bs 8 4 = x.epoch → field bs 12 4 = s.sec.gen →
    Runs (.hostDmaPageDone k bs) s fun t =>
      t.sec.models = s.sec.models ∧
        if Config.tagOk (bitsOf c.d.p1 31 0) bs then
          t.sec.dramKeys.get c.d.district = some 1 ∧ t.district c.d.district = some { x with dramInstalled := true } ∧ Ends t c 0 0 0
        else t.sec.dramKeys = s.sec.dramKeys ∧ t.district c.d.district = some x ∧ Ends t c 0x14 4 0) ∧
  (∀ (s : State) (c : Cmd), Starts s c .g → c.d.opcode = 0x84 → s.sessionOpen (bitsOf c.d.p1 31 0) = true → bitsOf c.d.p0 3 0 ≤ 11 →
    Runs (.linkKeyStage c) s fun t => DmaBegun t c false 128 ∧ Running t c ∧ t.sec = s.sec ∧ t.net = s.net) ∧
  (∀ (s : State) (c : Cmd), Starts s c .d → c.d.opcode = 0x83 → bitsOf c.d.p0 21 20 = 0 → s.windowMoving (bitsOf c.d.p0 15 0) = false →
    s.bindCheck c = none →
    Runs (.modelLoad c) s fun t => DmaBegun t c false 128 ∧ Running t c ∧ t.sec = s.sec) ∧
  (∀ (s : State) (c : Cmd) (b : Binding) (w : Window), Starts s c .d → c.d.opcode = 0x83 → bitsOf c.d.p0 21 20 = 1 →
    s.windowMoving (bitsOf c.d.p0 15 0) = false → s.sec.bindings.get (bitsOf c.d.p0 15 0) = some b → b.district = c.d.district →
    b.slot = bitsOf c.d.p0 18 16 → s.maps.windows.get (bitsOf c.d.p0 15 0) = some w →
    Runs (.modelLoad c) s fun t =>
      Running t c ∧ t.sec = s.sec ∧ t.out = s.out ∧
        ∃ x, t.maps.drains = s.maps.drains ++ [x] ∧ x.cmd = c ∧ x.unbind = true ∧ x.window = some (bitsOf c.d.p0 15 0, w)) ∧
  (∀ (s : State) (c : Cmd) (x : District), Starts s c .d → c.d.opcode = 0x85 → s.district c.d.district = some x → x.conf = true →
    x.owner = ringFn c.ring → c.d.p1 % 4096 = 0 → bitsOf c.d.p2 39 0 % 4096 = 0 → c.d.p1 + bitsOf c.d.p2 39 0 ≤ 2 ^ 64 →
    bitOf c.d.p0 4 = true →
    Runs (.bounceSet c) s fun t =>
      t.sec = { s.sec with bounce := s.sec.bounce.put (c.d.district * 16 + bitsOf c.d.p0 3 0) ⟨c.d.p1, bitsOf c.d.p2 39 0⟩ } ∧
        Ends t c 0 0 0) ∧
  (∀ (s : State) (c : Cmd) (x : District), Starts s c .d → c.d.opcode = 0x85 → s.district c.d.district = some x → x.conf = false →
    Runs (.bounceSet c) s fun t => t.sec = s.sec ∧ Ends t c 0x14 0 0) ∧
  (∀ (s : State) (c : Cmd), Starts s c .pf → c.d.opcode = 0x82 →
    Runs (.spdmRelay c) s fun t => (∃ n, DmaBegun t c false n) ∧ Running t c ∧ t.sec = s.sec)

/-- R464, R465: KEY_ZEROISE needs its guard armed with its value and no more than 100 ms ago, and uses the arm up; a port's keys go, and an
encrypted link goes down and stays down; scope 3 clears every key and session. Rests on log entry 69. -/
def Obligations.Zeroise : Prop :=
  (∀ (s : State) (c : Cmd), Starts s c .g → c.d.opcode = 0x81 → s.sec.arm = none →
    Runs (.keyZeroise c) s fun t => t.sec = s.sec ∧ Ends t c 0x14 0 0) ∧
  (∀ (s : State) (c : Cmd) (v since : Nat), Starts s c .g → c.d.opcode = 0x81 → s.sec.arm = some (v, since) →
    v ≠ bitsOf c.d.p0 15 0 ∨ since + 100000000 < s.clock →
    Runs (.keyZeroise c) s fun t => t.sec = s.sec ∧ Ends t c 0x14 0 0) ∧
  (∀ (s : State) (c : Cmd) (since : Nat), Starts s c .g → c.d.opcode = 0x81 → s.sec.arm = some (bitsOf c.d.p0 15 0, since) →
    s.clock ≤ since + 100000000 → bitsOf c.d.p0 17 16 = 2 → bitsOf c.d.p1 3 0 ≤ 11 → (s.jl (bitsOf c.d.p1 3 0)).encOn = false →
    Runs (.keyZeroise c) s fun t =>
      t.sec = { s.sec with arm := none } ∧ Ends t c 0 0 0 ∧
      t.jl (bitsOf c.d.p1 3 0) = { s.jl (bitsOf c.d.p1 3 0) with txKey := false, rxKey := false, txNext := false, rxNext := false, txAt := none, rxAt := none } ∧
      (Listening s → Told t Src.security 0x01 (2 + bitsOf c.d.p1 3 0 * 256))) ∧
  (∀ (s : State) (c : Cmd) (since : Nat), Starts s c .g → c.d.opcode = 0x81 → s.sec.arm = some (bitsOf c.d.p0 15 0, since) →
    s.clock ≤ since + 100000000 → bitsOf c.d.p0 17 16 = 2 → bitsOf c.d.p1 3 0 ≤ 11 → (s.jl (bitsOf c.d.p1 3 0)).encOn = true →
    (s.jl (bitsOf c.d.p1 3 0)).st = 5 →
    Runs (.keyZeroise c) s fun t =>
      t.sec = { s.sec with arm := none } ∧ Ends t c 0 0 0 ∧ (t.jl (bitsOf c.d.p1 3 0)).st = 7 ∧ (t.jl (bitsOf c.d.p1 3 0)).hardStop = true ∧
      (t.jl (bitsOf c.d.p1 3 0)).txKey = false ∧ (t.jl (bitsOf c.d.p1 3 0)).rxKey = false) ∧
  (∀ (s : State) (c : Cmd) (since : Nat), Starts s c .g → c.d.opcode = 0x81 → s.sec.arm = some (bitsOf c.d.p0 15 0, since) →
    s.clock ≤ since + 100000000 → bitsOf c.d.p0 17 16 = 3 →
    Runs (.keyZeroise c) s fun t =>
      t.sec.zeroised = true ∧ t.sec.arm = none ∧ t.sec.sessions = [] ∧ t.sec.ide = [] ∧ t.sec.dramKeys = [] ∧ t.sec.flashKeys = [] ∧
      t.sec.models = [] ∧ (s.maps.districts = [] → Ends t c 0 0 0) ∧ (s.maps.districts ≠ [] → t.sec.zeroCmd = some c))

namespace Sys2Proof.Claims

open Sys2Proof Sys2Proof.Machine

/-- An SPDM request is answered with a response code on its transport, and changes nothing else (R451). -/
def Replies (s t : State) (tr : Transport) (code : Nat) : Prop :=
  ∃ value, t = { s with out := s.out ++ [.answer (transportNo tr * 256 + code) value] }

end Sys2Proof.Claims

/-- R418, R448, R450 to R452, R461, R465: the SPDM responder answers, holds up to 16 sessions and ends them with a notice; host IDE keys are
programmed and set going under a DOE session; a VF interface is locked, started and stopped, and one that leaves RUN is told of; the entropy
source fails. Rests on log entries 67, 68, 75. -/
def Obligations.Attestation : Prop :=
  (∀ (s : State) (tr : Transport), s.mute = false →
    Runs (.spdmGetVersion tr) s fun t => t = { s with out := s.out ++ [.answer (transportNo tr * 256 + 0x04) 0x13] }) ∧
  (∀ (s : State) (tr : Transport), s.mute = false → Runs (.spdmGetCapabilities tr) s fun t => Replies s t tr 0x61) ∧
  (∀ (s : State) (tr : Transport) (offered : List Nat), s.mute = false →
    Runs (.spdmNegotiateAlgorithms tr offered) s fun t =>
      ∃ v, t = { s with out := s.out ++ [.answer (transportNo tr * 256 + 0x63) v] } ∧ v < 8 ∧
        ∀ a, a < 3 → (bitOf v a = true ↔ a ∈ offered)) ∧
  (∀ (s : State) (tr : Transport), s.mute = false → Runs (.spdmGetDigests tr) s fun t => Replies s t tr 0x01) ∧
  (∀ (s : State) (tr : Transport) (offset length : Nat), s.mute = false →
    Runs (.spdmGetCertificate tr 0 offset length) s fun t => Replies s t tr 0x02) ∧
  (∀ (s : State) (tr : Transport) (nonce : Nat), s.mute = false → Runs (.spdmChallenge tr 0 nonce) s fun t => Replies s t tr 0x03) ∧
  (∀ (s : State) (tr : Transport) (nonce : Nat) (sign : Bool), s.mute = false →
    Runs (.spdmGetMeasurements tr 0 nonce sign) s fun t => t = { s with out := s.out ++ [.answer (transportNo tr * 256 + 0x60) 8] }) ∧
  (∀ (s : State) (tr : Transport) (share : Nat), s.mute = false → s.sec.sessions.length < 16 →
    Runs (.spdmKeyExchange tr share) s fun t =>
      t.sec = { s.sec with nextSession := s.sec.nextSession + 1,
                           sessions := s.sec.sessions.put (s.sec.nextSession + 1) ⟨transportNo tr, false, 0⟩ } ∧
        ∃ v, t.out = s.out ++ [.answer (transportNo tr * 256 + 0x64) v]) ∧
  (∀ (s : State) (tr : Transport) (share : Nat), s.mute = false → 16 ≤ s.sec.sessions.length →
    Runs (.spdmKeyExchange tr share) s fun t => t = { s with out := s.out ++ [.answer (transportNo tr * 256 + 0x7F) 3] }) ∧
  (∀ (s : State) (tr : Transport) (id : Nat) (x : Session), s.mute = false → s.sec.sessions.get id = some x → x.transport = transportNo tr →
    Runs (.spdmFinish tr id true) s fun t =>
      t.sessionOpen id = true ∧ (∀ k, k ≠ id → t.sessionOpen k = s.sessionOpen k) ∧ t.out = s.out ++ [.answer (transportNo tr * 256 + 0x65) id]) ∧
  (∀ (s : State) (tr : Transport) (id : Nat) (x : Session), s.mute = false → s.sec.sessions.get id = some x → x.transport = transportNo tr →
    x.finished = true →
    Runs (.spdmHeartbeat tr id) s fun t => t = { s with out := s.out ++ [.answer (transportNo tr * 256 + 0x68) id] }) ∧
  (∀ (s : State) (tr : Transport) (id : Nat) (x : Session), s.mute = false → s.sec.sessions.get id = some x → x.transport = transportNo tr →
    x.finished = true →
    Runs (.spdmKeyUpdate tr id) s fun t =>
      t.sec.sessions.get id = some { x with keyGen := x.keyGen + 1 } ∧ t.out = s.out ++ [.answer (transportNo tr * 256 + 0x69) id]) ∧
  (∀ (s : State) (tr : Transport) (id : Nat) (x : Session), s.mute = false → s.sec.sessions.get id = some x → x.transport = transportNo tr →
    s.sec.sessions.wf = true →
    Runs (.spdmEndSession tr id) s fun t =>
      t.sec.sessions.get id = none ∧ Out.answer (transportNo tr * 256 + 0x6C) id ∈ t.out ∧
        (Listening s → Told t Src.security 0x03 (id % 2 ^ 32 + 2 ^ 32))) ∧
  (∀ (s : State) (id : Nat), (s.sec.sessions.get id).isSome = true → s.sec.sessions.wf = true →
    Runs (.spdmHeartbeatTimeout id) s fun t =>
      t.sec.sessions.get id = none ∧ (∀ k, k ≠ id → t.sec.sessions.get k = s.sec.sessions.get k) ∧
        (Listening s → Told t Src.security 0x03 (id % 2 ^ 32 + 2 * 2 ^ 32))) ∧
  (∀ (s : State) (port : HPort) (session stream key : Nat), s.doeOpen port session = true → stream ≤ 64 →
    s.sec.ide.get (port.val * 128 + stream) = none → s.mute = false →
    Runs (.ideKmMessage port session stream 2 key) s fun t =>
      t.sec = { s.sec with ide := s.sec.ide.put (port.val * 128 + stream) (key * 2) } ∧ t.out = s.out ++ [.answer 0x1002 0]) ∧
  (∀ (s : State) (port : HPort) (session stream v key : Nat), s.doeOpen port session = true → stream ≤ 64 →
    s.sec.ide.get (port.val * 128 + stream) = some v → s.mute = false →
    Runs (.ideKmMessage port session stream 4 key) s fun t =>
      t.sec.ide.get (port.val * 128 + stream) = some (v / 2 * 2 + 1) ∧ t.out = s.out ++ [.answer 0x1004 0]) ∧
  (∀ (s : State) (port : HPort) (session fn : Nat), s.doeOpen port session = true → fn % 256 ≠ 0 →
    (s.host.tdi.get (port.val * 256 + fn % 256)).getD .unlocked = .unlocked → s.mute = false →
    Runs (.tdispMessage port session fn 0x83) s fun t =>
      t.host.tdi.get (port.val * 256 + fn % 256) = some .locked ∧ t.out = s.out ++ [.answer 0x2083 1]) ∧
  (∀ (s : State) (port : HPort) (session fn : Nat), s.doeOpen port session = true → fn % 256 ≠ 0 →
    s.host.tdi.get (port.val * 256 + fn % 256) = some .locked → s.mute = false →
    Runs (.tdispMessage port session fn 0x86) s fun t =>
      t.host.tdi.get (port.val * 256 + fn % 256) = some .run ∧ t.out = s.out ++ [.answer 0x2086 2]) ∧
  (∀ (s : State) (port : HPort) (session fn : Nat), s.doeOpen port session = true → fn % 256 ≠ 0 →
    s.host.tdi.get (port.val * 256 + fn % 256) = some .run →
    Runs (.tdispMessage port session fn 0x87) s fun t =>
      t.host.tdi.get (port.val * 256 + fn % 256) = some .unlocked ∧
        (Listening s → Told t Src.security 0x04 (port.val * 256 + fn % 256))) ∧
  (∀ (s : State),
    Runs .entropyFail s fun t =>
      t.sec = { s.sec with entropyOk := false } ∧ ∃ n ∈ t.host.conds, n.source = Src.security ∧ n.cause = 0x06)
/-- R390, R414 to R416, R523, R557: SURVEY and DISTRICT_QUERY write their reports at `BUF`; the management port is answered from reset on,
and its monitor and its firmware update from `FW_READY` on. Rests on log entries 32, 33, 34. -/
def Obligations.Surveys : Prop :=
  (∀ (s : State) (c : Cmd), Starts s c .any → c.d.opcode = 0xF0 → 304 ≤ bitsOf c.d.p0 31 0 →
    Runs (.survey c) s fun t => (∃ n, 304 ≤ n ∧ DmaBegun t c true n) ∧ Running t c ∧ t.maps = s.maps ∧ t.mem = s.mem) ∧
  (∀ (s : State) (c : Cmd) (x : District), Starts s c .q → c.d.opcode = 0x03 → s.district c.d.district = some x →
    Runs (.districtQuery c) s fun t => DmaBegun t c true 64 ∧ Running t c ∧ t.maps = s.maps) ∧
  (∀ (s : State) (c : Cmd), Starts s c .q → c.d.opcode = 0x03 → s.district c.d.district = none →
    Runs (.districtQuery c) s fun t => t.maps = s.maps ∧ Ends t c 0x12 0 0) ∧
  (∀ (s : State) (cmd arg : Nat), s.mute = false →
    Runs (.mctpControl cmd arg) s fun t => ∃ v, t = { s with out := s.out ++ [.answer (0x3000 + cmd) v], free := s.free + 1 }) ∧
  (∀ (s : State) (cmd : Nat), s.mute = false →
    Runs (.pldmBase cmd) s fun t => ∃ v, t = { s with out := s.out ++ [.answer (0x3100 + cmd) v], free := s.free + 1 }) ∧
  (∀ (s : State) (n : Nat), s.boot.fwReady = true → s.mute = false → n < 9 →
    Runs (.pldmMonitor n) s fun t => t = { s with out := s.out ++ [.answer 0x3200 (u64 (s.av n).tj)], free := s.free + 1 }) ∧
  (∀ (s : State) (n : Nat), s.boot.fwReady = false → exec (.pldmMonitor n) s = .next s) ∧
  (∀ (s : State) (b x : Bundle), s.boot.fwReady = true → s.boot.fw = some x → b.formatOk = true → b.signatureOk = true →
    b.revLo ≤ x.revHi → x.revHi ≤ b.revHi → (∀ p ∈ s.time.active, p.level ≤ b.revHi) → s.avail.roll = none →
    Runs (.pldmFwUpdate b) s fun t =>
      t = if Config.minSecVersion ≤ b.secVersion ∧ Config.depotReads b.depotFormat x.depotFormat = true ∧
          Config.depotReads x.depotFormat b.depotFormat = true
        then { s with avail := { s.avail with staged := some b } } else s)

/-- R94 to R97, R245: a page moves once its translation is granted; a page that is not granted is requested, and a request that fails ends
the command with FAULT_TRANSLATION at the host address; an invalidation waits for the DMA that uses the page; the last page completes the
command. Rests on log entries 25, 26. -/
def Obligations.HostDma : Prop :=
  (∀ (s : State) (k : Nat) (d : Dma), s.host.dmas.get k = some d → d.translated = false → d.waitingPri = false → d.toHost = false →
    s.mute = false →
    Runs (.atsTranslationCompletion k true) s fun t =>
      t.host.dmas.get k = some { d with translated := true } ∧ t.out = s.out ++ [.hostRead d.fn (d.addr + d.done) d.chunk]) ∧
  (∀ (s : State) (k : Nat) (d : Dma), s.host.dmas.get k = some d → d.translated = false → d.waitingPri = false →
    d.fn ∉ s.host.priOff → s.mute = false →
    Runs (.atsTranslationCompletion k false) s fun t =>
      t.host.dmas.get k = some { d with waitingPri := true, priAt := s.clock } ∧ t.out = s.out ++ [.pageRequest d.fn d.page]) ∧
  (∀ (s : State) (k : Nat) (d : Dma), s.host.dmas.get k = some d → d.translated = false → d.waitingPri = false → d.use = .command →
    s.host.priOff.contains d.fn = true → RingUp s d.cmd.ring →
    Runs (.atsTranslationCompletion k false) s fun t =>
      Ends t d.cmd Cs.faultTranslation 2 ((d.addr + d.done) % 2 ^ 64 * 2 ^ 96) ∧ t.mem = s.mem) ∧
  (∀ (s : State) (k : Nat) (d : Dma), s.host.dmas.get k = some d → d.waitingPri = true → s.mute = false →
    Runs (.prgResponse k 0) s fun t =>
      t.host.dmas.get k = some { d with waitingPri := false } ∧ t.out = s.out ++ [.atsRequest d.fn d.page]) ∧
  (∀ (s : State) (k : Nat) (d : Dma), s.host.dmas.get k = some d → d.waitingPri = true → d.use = .command → RingUp s d.cmd.ring →
    Runs (.prgResponse k 1) s fun t => Ends t d.cmd Cs.faultTranslation 2 ((d.addr + d.done) % 2 ^ 64 * 2 ^ 96)) ∧
  (∀ (s : State) (k : Nat) (d : Dma), s.host.dmas.get k = some d → d.waitingPri = true → d.use = .command → RingUp s d.cmd.ring →
    Runs (.prgResponse k 15) s fun t =>
      d.fn ∈ t.host.priOff ∧ Ends t d.cmd Cs.faultTranslation 2 ((d.addr + d.done) % 2 ^ 64 * 2 ^ 96) ∧
        (Listening s → Told t (Src.host (d.fn / 256)) 0x07 d.fn)) ∧
  (∀ (s : State) (k : Nat) (d : Dma), s.host.dmas.get k = some d → d.waitingPri = true → d.use = .command → RingUp s d.cmd.ring →
    Runs (.priTimeout k) s fun t =>
      d.priAt + 2000000000 ≤ t.clock ∧ Ends t d.cmd Cs.faultTranslation 2 ((d.addr + d.done) % 2 ^ 64 * 2 ^ 96)) ∧
  (∀ (s : State) (port : HPort) (fn page : Nat), s.host.invals = [] → s.mute = false →
    (∀ e ∈ s.host.dmas, ¬(e.2.fn = port.val * 256 + fn % 256 ∧ e.2.page = page ∧ e.2.translated = true)) →
    Runs (.atsInvalidate port fn page) s fun t =>
      t = { s with out := s.out ++ [.atsInvalidateDone (port.val * 256 + fn % 256) page] }) ∧
  (∀ (s : State) (port : HPort) (fn page k : Nat) (d : Dma), (k, d) ∈ s.host.dmas → d.fn = port.val * 256 + fn % 256 → d.page = page →
    d.translated = true →
    Runs (.atsInvalidate port fn page) s fun t =>
      t.host = { s.host with invals := s.host.invals ++ [(port.val * 256 + fn % 256, page)] } ∧ t.out = s.out) ∧
  (∀ (s : State) (k : Nat) (d : Dma) (r : Record), s.host.dmas.get k = some d → d.use = .result r → d.toHost = true → d.translated = true →
    0 < d.chunk → d.len ≤ d.done + d.chunk → s.host.invals = [] → r.cmdId = d.cmd.d.cmdId → RingUp s d.cmd.ring →
    Runs (.hostDmaPageDone k []) s fun t =>
      Out.hostWrite d.fn (d.addr + d.done) ((d.data.drop d.done).take d.chunk) ∈ t.out ∧ Ends t d.cmd r.status r.detail r.result) ∧
  (∀ (s : State) (k : Nat) (d : Dma) (r : Record), s.host.dmas.get k = some d → d.use = .result r → d.toHost = true → d.translated = true →
    0 < d.chunk → d.done + d.chunk < d.len → s.host.invals = [] → s.mute = false →
    Runs (.hostDmaPageDone k []) s fun t =>
      t.host.dmas.get k = some { d with done := d.done + d.chunk, translated := false } ∧
        t.out = s.out ++ [.hostWrite d.fn (d.addr + d.done) ((d.data.drop d.done).take d.chunk),
                          .atsRequest d.fn ((d.addr + (d.done + d.chunk)) / 4096)]) ∧
  (∀ (s : State) (k st loc : Nat) (d : Dma) (bs : List Byte), s.host.dmas.get k = some d → d.use = .hostCopy → d.translated = true →
    0 < d.chunk → d.toHost = true ∨ bs.length = d.chunk → s.copyStop d d.chunk = some (st, loc) → RingUp s d.cmd.ring →
    Runs (.hostDmaPageDone k bs) s fun t =>
      Ends t d.cmd st 1 (d.done % 2 ^ 64 + loc % 2 ^ 64 * 2 ^ 96) ∧ t.maps = s.maps)namespace Sys2Proof.Claims

open Sys2Proof Sys2Proof.Machine

/-- The island's event log takes an event, its chain commits to it (R494, R496). -/
def IslLogged (i j : Isl) (type data16 data64 : Nat) : Prop :=
  ∃ e : IslEvent, j.events.getLast? = some e ∧ e.seq = i.eventSeq + 1 ∧ e.itime = j.itime ∧ e.type = type ∧ e.data16 = data16 ∧
    e.data64 = data64 ∧ j.eventSeq = i.eventSeq + 1 ∧ j.chain = Config.sha384 (leBytes 48 i.chain ++ e.bytes)

/-- A change of the island alone, of which something holds (R489). -/
abbrev IslandRuns (c : Instr) (s : State) (P : Isl → Prop) : Prop := ∃ j, exec c s = .next { s with isl := j } ∧ P j

/-- Nothing measured, stored or signed has changed, the event log aside. -/
def SameMeasures (i j : Isl) : Prop :=
  j.acc0 = i.acc0 ∧ j.acc1 = i.acc1 ∧ j.seq = i.seq ∧ j.bank = i.bank ∧ j.newest = i.newest ∧ j.allocs = i.allocs ∧ j.slot0 = i.slot0 ∧
    j.slot1 = i.slot1 ∧ j.hourly = i.hourly

end Sys2Proof.Claims

open Sys2Proof Sys2Proof.Machine Sys2Proof.Claims

/-- R489, R492, R493, R497, R561: a start takes the newer slot whose CRC passes and runs or faults by its self-test and its bank; brown-out
writes the older slot and POWER_DOWN, the event holding the energy of channel 0; the board's reset stops the island; the integrator bank is
written once, while `MTR_PROG_EN` is high, and is ignored otherwise. Rests on log entries 72, 73. -/
def Obligations.IslandStartAndStop : Prop :=
  (∀ (s : State) (st : IslandStart), s.isl.status = 1 → s.isl.resetPin = false → st.selfTestOk = true → s.isl.bankOk = true →
    IslandRuns (.islandStart st) s fun j =>
      j.status = 0 ∧ IslLogged s.isl j 0x01 (st.unmeasured % 65536) 0 ∧ j.flags = 1 ∧ j.bank = s.isl.bank ∧
      (st.slot0Ok = true → (st.slot1Ok = true → s.isl.slot1.seq < s.isl.slot0.seq) →
        microJoule j.acc0 = s.isl.slot0.e0 ∧ microJoule j.acc1 = s.isl.slot0.e1 ∧ j.seq = s.isl.slot0.seq ∧ j.itime = s.isl.slot0.itime) ∧
      (st.slot1Ok = true → (st.slot0Ok = true → s.isl.slot0.seq < s.isl.slot1.seq) →
        microJoule j.acc0 = s.isl.slot1.e0 ∧ microJoule j.acc1 = s.isl.slot1.e1 ∧ j.seq = s.isl.slot1.seq ∧ j.itime = s.isl.slot1.itime)) ∧
  (∀ (s : State) (st : IslandStart), s.isl.status = 1 → s.isl.resetPin = false → st.selfTestOk = false ∨ s.isl.bankOk = false →
    st.storeOk = true → IslandRuns (.islandStart st) s fun j => j.status = 2 ∧ IslLogged s.isl j 0x09 0 0) ∧
  (∀ (s : State) (st : IslandStart), s.isl.status ≠ 1 → exec (.islandStart st) s = .next s) ∧
  (∀ s : State, s.isl.status ≠ 1 → s.isl.slot0.seq < s.isl.slot1.seq →
    IslandRuns .islandBrownOut s fun j =>
      j.status = 1 ∧ IslLogged s.isl j 0x02 0 (u64 (microJoule s.isl.acc0)) ∧ j.slot1 = s.isl.slot1 ∧
        j.slot0 = ⟨s.isl.seq, microJoule s.isl.acc0, microJoule s.isl.acc1, s.isl.itime⟩) ∧
  (∀ s : State, s.isl.status ≠ 1 → s.isl.slot1.seq < s.isl.slot0.seq →
    IslandRuns .islandBrownOut s fun j =>
      j.status = 1 ∧ IslLogged s.isl j 0x02 0 (u64 (microJoule s.isl.acc0)) ∧ j.slot0 = s.isl.slot0 ∧
        j.slot1 = ⟨s.isl.seq, microJoule s.isl.acc0, microJoule s.isl.acc1, s.isl.itime⟩) ∧
  (∀ s : State, IslandRuns .mtrRstNAssert s fun j => j = { s.isl with status := 1, resetPin := true }) ∧
  (∀ (s : State) (data : List Byte), s.isl.bank = none → data.length = 64 →
    IslandRuns (.otpProgram data true) s fun j =>
      j.bank = some data ∧ j.status = s.isl.status ∧ j.acc0 = s.isl.acc0 ∧ j.acc1 = s.isl.acc1 ∧ IslLogged s.isl j 0x03 0 (fieldOf data 60 4)) ∧
  (∀ (s : State) (data : List Byte) (progEn : Bool), progEn = false ∨ s.isl.bank.isSome = true → exec (.otpProgram data progEn) s = .next s)

/-- R490 to R492, R495, R498 to R500, R503: a tap update adds the energy of the clipped samples of both channels to their accumulators,
shows them in µJ and counts modulo 65,536, 2,500 crystal ticks on; a clipped sample flags the period and is logged once; the pulses that
fell due are sent; outside RUN the tap stands still. A crystal fault and the tamper pin flag the period and are logged. The main die's frame
covers every District in service and carries Fabric Time and its number; the island counts a frame it discards, adds the counts of a valid
one, moves counts under an earlier epoch aside, and logs the loss and the return of the pipe. No frame changes a measured value. Rests on
log entries 71, 73, 74. -/
def Obligations.IslandMeasures : Prop :=
  (∀ (s : State) (s0 s1 : List (Int × Int)), s.isl.status = 0 →
    Runs (.tapUpdate s0 s1) s fun t =>
      t = { s with isl := t.isl, out := t.out } ∧ t.isl.itime = s.isl.itime + 2500 ∧ t.isl.count = (s.isl.count + 1) % 65536 ∧
      t.isl.acc0 = s.isl.acc0 + s0.foldl (fun (e : Int) x => e + Config.sampleEnergy 0 s.isl.bankBytes (clipV x.1) (clipI x.2)) 0 ∧
      t.isl.acc1 = s.isl.acc1 + s1.foldl (fun (e : Int) x => e + Config.sampleEnergy 1 s.isl.bankBytes (clipV x.1) (clipI x.2)) 0 ∧
      t.isl.tap0 = u64 (microJoule t.isl.acc0) ∧ t.isl.tap1 = u64 (microJoule t.isl.acc1) ∧
      t.out = s.out ++ List.replicate (t.isl.node * s.isl.meterConst / 3600000000000 - s.isl.node * s.isl.meterConst / 3600000000000).toNat .meterPulse ∧
      (clipped (s0 ++ s1) = true → bitOf s.isl.flags 1 = false →
        t.isl.flags = s.isl.flags ||| 2 ∧ IslLogged s.isl t.isl 0x06 0 0) ∧
      (clipped (s0 ++ s1) = false ∨ bitOf s.isl.flags 1 = true →
        t.isl.flags = s.isl.flags ∧ t.isl.events = s.isl.events ∧ t.isl.chain = s.isl.chain) ∧
      t.isl.bank = s.isl.bank ∧ t.isl.newest = s.isl.newest ∧ t.isl.slot0 = s.isl.slot0 ∧ t.isl.slot1 = s.isl.slot1) ∧
  (∀ (s : State) (s0 s1 : List (Int × Int)), s.isl.status ≠ 0 → exec (.tapUpdate s0 s1) s = .next s) ∧
  (∀ s : State, s.isl.status = 0 → s.isl.crystalBad = false →
    IslandRuns .crystalFault s fun j =>
      j.crystalBad = true ∧ j.flags = s.isl.flags ||| 8 ∧ IslLogged s.isl j 0x07 0 0 ∧ SameMeasures s.isl j) ∧
  (∀ s : State, s.isl.status = 0 → s.isl.tamper = false →
    IslandRuns (.tamperChange true) s fun j =>
      j.tamper = true ∧ j.flags = s.isl.flags ||| 32 ∧ IslLogged s.isl j 0x0A 1 0 ∧ SameMeasures s.isl j) ∧
  (∀ s : State, s.isl.status = 0 → s.isl.tamper = true →
    IslandRuns (.tamperChange false) s fun j =>
      j.tamper = false ∧ j.flags = s.isl.flags ∧ IslLogged s.isl j 0x0A 0 0 ∧ SameMeasures s.isl j) ∧
  (∀ s : State, s.boot.fwReady = true → s.mute = false →
    Runs .activityFrameSend s fun t =>
      s.pwr.frameAt ≤ t.clock ∧ t.pwr = { s.pwr with frameNo := (s.pwr.frameNo + 1) % 2 ^ 32, frameAt := t.clock + 10000000 } ∧ t.isl = s.isl ∧
      ∃ f, t.out = s.out ++ [.frame f] ∧ f.ok = true ∧ f.seq = s.pwr.frameNo ∧ f.ft = t.time.ft ∧
        f.entries.map (·.1) = s.maps.districts.map (·.1) ∧ ∀ d a x, (d, a) ∈ f.entries → (d, x) ∈ s.maps.districts →
          (∀ y, (d, y) ∈ s.maps.districts → y = x) → a.epoch = x.epoch) ∧
  (∀ (s : State) (f : Frame), s.isl.status = 0 → f.ok = false →
    IslandRuns (.activityFrameReceive f) s fun j => j = { s.isl with discarded := (s.isl.discarded + 1) % 2 ^ 32 }) ∧
  (∀ (s : State) (f : Frame), s.isl.status = 0 → f.ok = true → s.isl.lost = false →
    IslandRuns (.activityFrameReceive f) s fun j =>
      SameMeasures s.isl j ∧ j.lastFrame = s.isl.itime ∧ j.lastFt = f.ft ∧ j.frames = s.isl.frames + 1 ∧ j.events = s.isl.events ∧
      (∀ d a, f.entries = [(d, a)] → d < 1024 → s.isl.counts.get d = none → j.counts.get d = some a) ∧
      (∀ d a b, f.entries = [(d, a)] → d < 1024 → s.isl.counts.get d = some b → b.epoch = a.epoch → j.counts.get d = some
        ⟨a.epoch, b.engS + a.engS, b.engV + a.engV, b.engA + a.engA, b.bursts + a.bursts, b.acts + a.acts, b.cells + a.cells, b.pages + a.pages⟩) ∧
      (∀ d a b, f.entries = [(d, a)] → d < 1024 → s.isl.counts.get d = some b → b.epoch ≠ a.epoch → s.isl.counts.get 1024 = none →
        j.counts.get d = some a ∧ j.counts.get 1024 = some b)) ∧
  (∀ (s : State) (f : Frame), s.isl.status = 0 → f.ok = true → s.isl.lost = true →
    IslandRuns (.activityFrameReceive f) s fun j =>
      SameMeasures s.isl j ∧ j.lost = false ∧ j.lostSum = s.isl.lostSum + (s.isl.node - s.isl.lostFrom) ∧ IslLogged s.isl j 0x05 0 0) ∧
  (∀ s : State, s.isl.status = 0 → s.isl.lost = false →
    IslandRuns .pipeLost s fun j =>
      SameMeasures s.isl j ∧ j.lost = true ∧ j.lostFrom = s.isl.node ∧ j.flags = s.isl.flags ||| 16 ∧
        s.isl.lastFrame + 2500000 ≤ j.itime ∧ IslLogged s.isl j 0x04 0 0)

/-- R493 to R495, R501, R502: at a period's end the island signs a record of the measured totals, bound to the allocation table and to the
event chain, writes the older slot and keeps counting from the totals; outside RUN it signs none. A new selector of the history view raises
the view's generation count, other values are ignored. Rests on log entries 6, 72, 73, 75. -/
def Obligations.MeteringRecords : Prop :=
  (∀ s : State, s.isl.status = 0 →
    IslandRuns .meteringPeriodEnd s fun j =>
      j.seq = s.isl.seq + 1 ∧ s.isl.from0 + 25000000 ≤ j.itime ∧ j.acc0 = s.isl.acc0 ∧ j.acc1 = s.isl.acc1 ∧ j.chain = s.isl.chain ∧
      j.events = s.isl.events ∧ j.from0 = j.itime ∧ j.base0 = microJoule s.isl.acc0 ∧ j.base1 = microJoule s.isl.acc1 ∧ j.counts = [] ∧
      (∃ r, j.newest = some r ∧ r.seq = j.seq ∧ r.itime = j.itime ∧ r.ft = s.isl.lastFt ∧ r.period = j.itime - s.isl.from0 ∧
        r.e0 = u64 (microJoule s.isl.acc0) ∧ r.e1 = u64 (microJoule s.isl.acc1) ∧
        r.eNode = u64 (s.isl.node - s.isl.nodeOf s.isl.base0 s.isl.base1) ∧ r.eventSeq = s.isl.eventSeq ∧ r.chain = s.isl.chain ∧
        r.flags = (if s.isl.uncal then s.isl.flags ||| 4 else s.isl.flags) ∧ r.allocHash = Config.sha384 (allocBytes r.seq j.allocs) ∧
        r.signature = Config.islandSign (Config.sha384 r.body)) ∧
      (s.isl.slot0.seq < s.isl.slot1.seq →
        j.slot1 = s.isl.slot1 ∧ j.slot0 = ⟨j.seq, microJoule s.isl.acc0, microJoule s.isl.acc1, j.itime⟩) ∧
      (s.isl.slot1.seq < s.isl.slot0.seq →
        j.slot0 = s.isl.slot0 ∧ j.slot1 = ⟨j.seq, microJoule s.isl.acc0, microJoule s.isl.acc1, j.itime⟩)) ∧
  (∀ s : State, s.isl.status ≠ 0 → exec .meteringPeriodEnd s = .next s) ∧
  (∀ (s : State) (n : Nat), n < 2048 → n ≠ s.isl.sel →
    IslandRuns (.historySelect n) s fun j => j = { s.isl with sel := n, viewGen := s.isl.viewGen + 1 }) ∧
  (∀ (s : State) (n : Nat), n < 64 → 2 ^ 31 + n ≠ s.isl.sel →
    IslandRuns (.historySelect (2 ^ 31 + n)) s fun j => j = { s.isl with sel := 2 ^ 31 + n, viewGen := s.isl.viewGen + 1 }) ∧
  (∀ (s : State) (n : Nat), 2048 ≤ n → n < 8192 → exec (.historySelect n) s = .next s) ∧
  (∀ (s : State) (n : Nat), 64 ≤ n → n < 8192 → exec (.historySelect (2 ^ 31 + n)) s = .next s)

/-- R499, R501: the entries of the allocation table that a period's end leaves sum to the period's node energy exactly, whatever the counts
say; energy that no count explains, and that of a lost pipe, is the rest. Rests on log entries 73, 74. -/
def Obligations.AllocationsSum : Prop :=
  ∀ s : State, s.isl.status = 0 → s.isl.counts.wf = true → s.isl.allocs.wf = true →
    IslandRuns .meteringPeriodEnd s fun j => ∃ r, j.newest = some r ∧
      (j.allocs.foldl (fun (n : Nat) (x : Nat × Alloc) => n + x.2.direct + x.2.base) 0) % 2 ^ 64 = r.eNode % 2 ^ 64

namespace Sys2Proof.Claims

open Sys2Proof Sys2Proof.Machine

/-- The parts of the state that a command may leave as they are. -/
inductive Part where
  | free | clock | out | regs | host | time | maps | mem | coh | boot | avail | sec | net | ms | cr | prot | dram | flash | eng | pwr | isl
  deriving DecidableEq, Repr

/-- A part of the state is unchanged. -/
def Kept (s t : State) : Part → Prop
  | .free => t.free = s.free
  | .clock => t.clock = s.clock
  | .out => t.out = s.out
  | .regs => t.regs = s.regs
  | .host => t.host = s.host
  | .time => t.time = s.time
  | .maps => t.maps = s.maps
  | .mem => t.mem = s.mem
  | .coh => t.coh = s.coh
  | .boot => t.boot = s.boot
  | .avail => t.avail = s.avail
  | .sec => t.sec = s.sec
  | .net => t.net = s.net
  | .ms => t.ms = s.ms
  | .cr => t.cr = s.cr
  | .prot => t.prot = s.prot
  | .dram => t.dram = s.dram
  | .flash => t.flash = s.flash
  | .eng => t.eng = s.eng
  | .pwr => t.pwr = s.pwr
  | .isl => t.isl = s.isl

/-- The parts of the state that a command may change. -/
def writes : Instr → List Part
  | .avConfigApply .. | .vddDroopStretch .. => [.regs]
  | .ringDrained .. => [.host]
  | .bootLoadDone .. | .memInitStart => [.boot]
  | .predictorDecay .. => [.coh]
  | .engineWakeDone .. | .partialSumArrive .. | .prewakeExpiry .. => [.eng]
  | .dimmTempPoll .. | .writeAgeDrain .. | .arbCreditPeriod .. | .arbGrantEnd .. => [.dram]
  | .pageQuiesced .. => [.prot]
  | .slotPgAssert .. | .railDroopClear => [.flash]
  | .jlPartnerDetect .. | .jlEqualizeDone .. | .jlAlignDone .. | .creditMessage .. | .rekeyMessage .. => [.net]
  | .bmcTimeCount .. => [.time]
  | .handoverDirCopyDone | .junctionTripRelease .. | .standbySelfTest .. | .pldmFwUpdate .. => [.avail]
  | .fastLimitRelease => [.pwr]
  | .spdmGetVersion .. | .spdmGetCapabilities .. | .spdmNegotiateAlgorithms .. | .spdmGetDigests .. | .spdmGetCertificate ..
  | .spdmChallenge .. | .spdmGetMeasurements .. | .spdmHeartbeat .. => [.out]
  | .islandStart .. | .islandBrownOut | .meteringPeriodEnd | .activityFrameReceive .. | .pipeLost | .tamperChange .. | .crystalFault
  | .otpProgram .. | .historySelect .. | .mtrRstNAssert => [.isl]
  | .commandTailDoorbell .. | .completionHeadDoorbell .. | .noticeHeadDoorbell .. | .noticeClaimRead .. | .noticeCompletionWrite ..
  | .shadowTailSweep .. | .tdispMessage .. | .atsInvalidate .. => [.out, .host]
  | .cowSweepDone .. | .cowCopyRestart .. => [.maps, .ms]
  | .rowGroupDone .. => [.regs, .eng]
  | .memInitDone => [.mem, .boot]
  | .rfmIssue .. => [.out, .dram]
  | .lockOffsetTimer | .planResume => [.clock, .time]
  | .tavgSample .. => [.avail, .pwr]
  | .spdmKeyExchange .. | .spdmFinish .. | .spdmKeyUpdate .. | .ideKmMessage .. => [.out, .sec]
  | .mctpControl .. | .pldmBase .. | .pldmMonitor .. => [.free, .out]
  | .tapUpdate .. => [.out, .isl]
  | .nvmeControllerReady .. => [.out, .flash]
  | .configCrcUpdate => [.out, .regs, .host]
  | .zeroiseArmExpiry => [.clock, .time, .sec]
  | .bootGo .. => [.out, .host, .boot]
  | .retentionExpire .. => [.clock, .host, .time]
  | .copyDemote .. => [.maps, .ms, .flash]
  | .schedulerPass | .hintPrewake .. => [.regs, .eng, .pwr]
  | .ageingCheck .. => [.out, .host, .eng]
  | .refsbDue .. => [.out, .regs, .dram]
  | .channelFailed .. => [.out, .host, .prot]
  | .nvmeReadDone .. => [.out, .regs, .flash]
  | .slotLinkUp .. => [.out, .host, .flash]
  | .slotRetryTimer .. | .droopResume => [.clock, .time, .flash]
  | .jlParamReceive .. => [.out, .host, .net]
  | .jlDownRetry .. => [.clock, .time, .net]
  | .timeref10mLoss => [.out, .host, .time]
  | .timeMsgSend => [.clock, .out, .time]
  | .regulatorPoll .. | .tschedHourly => [.out, .host, .pwr]
  | .neighbourLimit .. | .coreWatchdog .. => [.out, .host, .avail]
  | .avenueCheckpoint .. | .coreCheckpoint .. => [.clock, .time, .avail]
  | .spdmEndSession .. | .spdmHeartbeatTimeout .. | .entropyFail => [.out, .host, .sec]
  | .hostLinkDown .. => [.out, .host, .boot, .sec]
  | .recallallTimeout .. => [.out, .host, .coh, .cr]
  | .unexpectedMessage .. | .messageForward .. => [.out, .regs, .host, .net]
  | .cowChunksDone .. => [.regs, .maps, .mem, .ms]
  | .roadworksPauseEnd .. => [.out, .regs, .host, .dram]
  | .nvmeAbortTimeout .. | .slotInrushTurn | .slotPerstRelease .. => [.clock, .out, .time, .flash]
  | .bypassDropTimeout .. | .meterRelease .. => [.clock, .regs, .time, .net]
  | .ppsEdgeMissed | .acquireLockTimer => [.clock, .out, .host, .time]
  | .thermalStep .. => [.out, .host, .avail, .eng]
  | .neighbourDrain .. => [.regs, .host, .avail, .eng]
  | .refreshKeeperTakeover .. => [.out, .regs, .avail, .dram]
  | .selfTestLapStart .. => [.clock, .time, .avail, .eng]
  | .pairGuardTimeout .. => [.clock, .out, .regs, .host, .time]
  | .copyPageReturn .. => [.out, .host, .maps, .ms, .flash]
  | .dramTrainingDone .. => [.out, .host, .boot, .prot, .dram]
  | .roadworksWindowOpen .. => [.clock, .out, .regs, .time, .dram]
  | .parityReencode .. => [.out, .regs, .host, .mem, .prot]
  | .scrubLapWarn .. => [.clock, .out, .host, .time, .prot]
  | .nvmeCmdTimeout .. => [.clock, .out, .regs, .time, .flash]
  | .droopLong => [.clock, .out, .host, .time, .flash]
  | .flitReceive .. | .flitBuild .. | .replayRequestReceive .. | .retrainDone .. | .jlRefclkLoss .. => [.out, .regs, .host, .time, .net]
  | .handoverDrainStart => [.clock, .time, .avail, .prot, .dram]
  | .calibrationTick | .fastPowerLimit => [.out, .regs, .host, .eng, .pwr]
  | .junctionTrip .. => [.out, .regs, .host, .avail, .eng]
  | .spareConnect .. => [.out, .regs, .avail, .dram, .eng]
  | .activityFrameSend => [.free, .clock, .out, .time, .pwr]
  | .descriptorFetch .. | .districtQuery .. | .windowQuery .. | .accRingCreate .. | .accRingDestroy .. | .milestoneQuery ..
  | .crossingCreate .. | .crossingDestroy .. | .crossingReset .. | .crossingQuery .. | .tierQuery .. | .errlogRead .. | .healthRead ..
  | .fwStage .. | .planLoad .. | .powerQuery .. | .energyRead .. | .keyInstall .. | .spdmRelay .. | .linkKeyStage .. | .survey ..
  | .nop .. => [.free, .out, .regs, .host, .net, .cr]
  | .snoopLapDone .. => [.out, .regs, .host, .mem, .coh, .net]
  | .scrubLine .. => [.out, .regs, .host, .mem, .prot, .dram]
  | .replayTimeout .. | .retrainTimeout .. | .escapeWaitTimeout .. | .escapeHoldTimeout .. => [.clock, .out, .regs, .host, .time, .net]
  | .powerEstimateTick .. => [.out, .regs, .host, .avail, .eng, .pwr]
  | .functionLevelReset .. | .bounceSet .. => [.free, .out, .regs, .host, .sec, .net, .cr]
  | .windowMap .. | .memUnmap .. | .districtStrength .. | .districtReown .. | .milestoneRenumber .. | .modelLoad .. =>
    [.free, .out, .regs, .host, .maps, .net, .cr]
  | .milestoneOpen .. | .milestoneClose .. => [.free, .out, .regs, .host, .net, .ms, .cr]
  | .tierDemote .. | .flashGroupCreate .. | .flashGroupDestroy .. | .ssdReplace .. | .ssdRebuildStep .. =>
    [.free, .out, .regs, .host, .net, .cr, .flash]
  | .nodeUnfence .. | .crRead .. | .semRelease .. | .semAcquire .. | .semWait .. | .jctArrive .. | .jctWait .. | .flagSet ..
  | .flagOr .. | .flagClear .. | .flagWait .. | .tktTake .. | .tktRelease .. | .tktWait .. | .crUnwait .. =>
    [.free, .out, .regs, .host, .coh, .net, .cr]
  | .roleSwap .. | .planActivate .. | .timeSet .. | .eventSchedule .. => [.free, .out, .regs, .host, .time, .net, .cr]
  | .powerCap .. | .powerProfile .. => [.free, .out, .regs, .host, .net, .cr, .pwr]
  | .registrationExpired .. => [.clock, .out, .regs, .host, .time, .net, .cr]
  | .depotBuildDone => [.maps, .boot, .avail, .sec, .net, .dram, .flash]
  | .hostPerst .. => [.free, .out, .regs, .host, .boot, .sec, .net, .cr]
  | .districtLimits .. | .tierPromote .. | .tierPin .. => [.free, .out, .regs, .host, .maps, .net, .cr, .flash]
  | .milestoneRelease .. => [.free, .out, .regs, .host, .time, .net, .ms, .cr]
  | .renumberDone .. => [.free, .out, .regs, .host, .maps, .net, .ms, .cr]
  | .avenueRetire .. | .fwRoll .. | .rollSpareReady .. => [.free, .out, .regs, .host, .time, .avail, .net, .cr]
  | .timeSetTimeout => [.free, .clock, .out, .regs, .host, .time, .net, .cr]
  | .mirrorConfirm .. => [.free, .out, .regs, .host, .mem, .coh, .net, .cr]
  | .engineScrubDone .. | .engineCheckFail .. | .offEngineTest .. => [.free, .out, .regs, .host, .maps, .net, .cr, .eng]
  | .parityDelta .. | .parityRmwDone .. => [.out, .regs, .host, .mem, .coh, .net, .prot, .dram]
  | .evacSliceDone .. => [.free, .out, .regs, .host, .net, .cr, .prot, .dram]
  | .handoverSwitch => [.clock, .out, .regs, .time, .mem, .avail, .dram, .eng]
  | .spareLoadDone .. => [.out, .regs, .host, .mem, .coh, .avail, .net, .cr]
  | .milestoneCut .. => [.free, .out, .regs, .host, .time, .maps, .net, .ms, .cr]
  | .avenueAdmit .. => [.free, .out, .regs, .host, .time, .avail, .net, .cr, .eng]
  | .planDiscard .. | .eventCancel .. => [.free, .out, .regs, .host, .time, .avail, .net, .ms, .cr]
  | .prgResponse .. | .atsTranslationCompletion .. => [.free, .out, .regs, .host, .coh, .net, .ms, .cr, .flash]
  | .postponedRoleSwap .. => [.free, .clock, .out, .regs, .host, .time, .avail, .net, .cr]
  | .districtCreate .. => [.free, .out, .regs, .host, .maps, .sec, .net, .cr, .flash, .eng]
  | .strengthPageDone .. => [.free, .out, .regs, .host, .maps, .mem, .net, .ms, .cr, .prot]
  | .timeMsgReceive .. => [.free, .out, .regs, .host, .time, .avail, .net, .ms, .cr, .pwr]
  | .holdoverExpiry => [.free, .clock, .out, .regs, .host, .time, .avail, .net, .ms, .cr]
  | .channelRestoreDone .. => [.free, .out, .regs, .host, .time, .avail, .net, .cr, .prot, .dram]
  | .registerWrite .. | .pairValueWrite .. | .pairComplementWrite .. | .hashLock .. | .dmapLock .. | .tokenClaim .. | .tokenRelease ..
  | .tokenForce .. | .dcArbCommit .. | .rtCommit .. | .hwmClr .. | .nodeIdWrite .. | .ringEnable .. | .ringDrain ..
  | .noticeRingEnable .. | .jlPortEnable .. | .jlRetrainRequest .. | .flipArm .. | .zeroiseArm .. =>
    [.free, .out, .regs, .host, .time, .coh, .boot, .sec, .net, .cr, .prot]
  | .fwStartDone .. => [.free, .out, .regs, .host, .maps, .boot, .avail, .sec, .net, .cr, .eng]
  | .districtErase .. | .jobAbort .. => [.free, .out, .regs, .host, .maps, .coh, .net, .ms, .cr, .flash, .eng]
  | .slotPower .. | .demotionStart .. | .nvmeWriteDone .. | .nvmeResetTimeout .. | .nvmeErrorCompletion .. | .slotPresenceChange ..
  | .slotFault .. | .railDroopAssert | .ssdLinkDown .. => [.free, .out, .regs, .host, .maps, .mem, .coh, .net, .cr, .prot, .flash]
  | .memRetire .. => [.free, .out, .regs, .host, .maps, .mem, .coh, .net, .ms, .cr, .prot]
  | .recallAck .. | .recallData .. | .cowMapInvalidated .. | .copySpaceFreed .. | .dramReadDone .. =>
    [.free, .out, .regs, .host, .maps, .mem, .coh, .net, .ms, .prot, .dram]
  | .requestHeldTimeout .. | .priTimeout .. => [.free, .clock, .out, .regs, .host, .time, .coh, .net, .ms, .cr, .flash]
  | .timerefPpsEdge .. | .eventInstant .. => [.free, .clock, .out, .regs, .host, .time, .avail, .net, .ms, .cr, .pwr]
  | .memMap .. => [.free, .out, .regs, .host, .maps, .mem, .coh, .net, .ms, .cr, .prot, .flash]
  | .readShared .. | .readOwn .. | .readOnce .. | .readGather .. | .writeLine .. | .writeBack .. | .writebackTrackerGrant ..
  | .atomicAdd .. | .atomicAnd .. | .atomicOr .. | .atomicXor .. | .atomicSmax .. | .atomicSmin .. | .atomicUmax .. | .atomicUmin ..
  | .atomicSwap .. | .atomicCas .. | .earlyDecision .. | .earlyDeadline .. =>
    [.free, .out, .regs, .host, .maps, .mem, .coh, .net, .ms, .prot, .dram, .flash]
  | .recallTimeout .. | .wbwTimeout .. => [.free, .out, .regs, .host, .maps, .mem, .coh, .net, .ms, .cr, .prot, .dram]
  | .roleSwapDone .. => [.free, .out, .regs, .host, .time, .boot, .avail, .sec, .net, .ms, .cr, .pwr]
  | .handoverLedgerClose => [.free, .clock, .out, .regs, .host, .time, .coh, .avail, .net, .ms, .cr, .flash]
  | .opHostCopy .. | .atomicAnyNear .. | .fillDone .. =>
    [.free, .out, .regs, .host, .maps, .mem, .coh, .net, .ms, .cr, .prot, .dram, .flash]
  | .keyZeroise .. => [.free, .out, .regs, .host, .time, .maps, .coh, .sec, .net, .ms, .cr, .flash, .eng]
  | .slotInrushTimeout .. => [.free, .clock, .out, .regs, .host, .time, .maps, .mem, .coh, .net, .cr, .prot, .flash]
  | .districtEraseProceed .. => [.free, .out, .regs, .host, .maps, .mem, .coh, .sec, .net, .ms, .cr, .prot, .flash, .eng]
  | .translationDrainDone .. | .directorySearchDone .. =>
    [.free, .out, .regs, .host, .maps, .mem, .coh, .sec, .net, .ms, .cr, .prot, .dram, .flash]
  | .opFill .. | .opCopy .. | .opCompare .. | .opReduce .. | .opGather .. | .opScatter .. | .opGemv .. | .opAttend .. | .opKvAppend ..
  | .opQuant .. | .opDequant .. | .activationLoadDone .. | .engineReadData .. | .jobCommitStart .. | .jobCommitDone .. =>
    [.free, .out, .regs, .host, .maps, .mem, .coh, .net, .ms, .cr, .prot, .dram, .flash, .eng]
  | .reconstructDone .. => [.free, .out, .regs, .host, .maps, .mem, .coh, .avail, .net, .ms, .cr, .prot, .dram, .flash, .eng]
  | .avenueFailed .. | .selfTestSegmentDone .. =>
    [.free, .out, .regs, .host, .time, .maps, .mem, .coh, .avail, .net, .ms, .cr, .prot, .dram, .flash, .eng]
  | .hostDmaPageDone .. => [.free, .out, .regs, .host, .time, .maps, .mem, .coh, .avail, .sec, .net, .ms, .cr, .prot, .dram, .flash]
  | .shareReopen .. => [.free, .clock, .out, .regs, .host, .time, .maps, .mem, .coh, .avail, .net, .ms, .cr, .prot, .dram, .flash, .eng]
  | .handoverReopen =>
    [.free, .clock, .out, .regs, .host, .time, .maps, .mem, .coh, .avail, .sec, .net, .ms, .cr, .prot, .dram, .flash, .eng]
  | .chipResetAssert | .chipResetRelease .. | .sysClkLoss =>
    [.clock, .regs, .host, .time, .maps, .mem, .coh, .boot, .avail, .sec, .net, .ms, .cr, .prot, .dram, .flash, .eng, .pwr]

/-- The commands that reach the metering island: its supply, its pins, its crystal, its I3C port, its samples and the activity pipe (R489). -/
def islandCommand : Instr → Bool
  | .islandStart .. | .islandBrownOut | .mtrRstNAssert | .tapUpdate .. | .meteringPeriodEnd | .activityFrameReceive .. | .pipeLost
  | .tamperChange .. | .crystalFault | .otpProgram .. | .historySelect .. => true
  | _ => false

/-- Both memories are in canonical form: addresses strictly rising, no entry equal to what an unlisted address reads as. -/
def MemoriesCanonical (s : State) : Prop := Memory.wf s.mem = true ∧ cellsWf s.flash.cells = true

end Sys2Proof.Claims

open Sys2Proof Sys2Proof.Machine Sys2Proof.Claims

/-- A step takes the command at the front of the queue and runs it on the state with the queue's rest; an empty queue lets a nanosecond
pass, in which the local clock and Fabric Time advance (R36). The queue and the idle step are the model's own. Rests on log entries 1, 3. -/
def Obligations.StepRunsFront : Prop :=
  (∀ (s : State) (c : Instr), step { s with pending := c :: s.pending } = exec c s) ∧
  (∀ (s : State) (c : Instr) (rest : List Instr), s.pending = c :: rest → step s = exec c { s with pending := rest }) ∧
  (∀ s : State, s.pending = [] → step s = .next { s with clock := s.clock + 1, time := { s.time with ft := s.time.ft + 1 } })

/-- Every command of the table completes in every state, leaves the queue as it is, and changes no part of the state but those named for it.
Rests on log entries 1, 6. -/
def Obligations.CommandFrames : Prop :=
  ∀ (i : Instr) (s : State), ∃ t, exec i s = .next t ∧ t.pending = s.pending ∧ ∀ p, p ∉ writes i → Kept s t p

/-- R489: no command outside the island changes anything the island measures, stores or signs; a command of the island changes the island
alone and what it sends; and what the island becomes depends on the command and on the island, on nothing of the main die. Rests on log
entries 73, 74. -/
def Obligations.IslandApart : Prop :=
  (∀ (i : Instr) (s t : State), islandCommand i = false → exec i s = .next t → t.isl = s.isl) ∧
  (∀ (i : Instr) (s t : State), islandCommand i = true → exec i s = .next t → t = { s with isl := t.isl, out := t.out }) ∧
  (∀ (i : Instr) (s s' t : State), islandCommand i = true → s'.isl = s.isl → exec i s = .next t → ∃ t', exec i s' = .next t' ∧ t'.isl = t.isl)

/-- Every step keeps the DRAM and the flash tier in canonical form, from every state in which they are. The form is the model's own. Rests
on log entries 8, 58. -/
def Obligations.StepsKeepMemoryCanonical : Prop :=
  ∀ s t : State, MemoriesCanonical s → step s = .next t → MemoriesCanonical t

/-- After reset both memories are empty, which is canonical. The form is the model's own. Rests on log entry 8. -/
def Obligations.ResetMemoryCanonical : Prop :=
 MemoriesCanonical State.reset ∧ State.reset.pending = []
/-- R18 to R20: the home share of an address is, bit by bit, the parity of PA[51:8] under the three masks, and its local address is
PA[51:11] × 256 + PA[7:0]; with masks that the lock admits the two determine the address, and every aligned 2 KiB block has one chunk of 256
bytes in each share. -/
def Obligations.HomeShares : Prop :=
  (∀ (g : Regs) (pa : Nat), ∀ i < 3,
    (g.home pa).testBit i = (List.range 44).foldl (fun p k => xor p (pa.testBit (k + 8) &&
      (if k < 32 then (g.val (0x10100 + 8 * i)).getLsbD k else (g.val (0x10104 + 8 * i)).getLsbD (k - 32)))) false) ∧
  (∀ (g : Regs) (pa : Nat), g.home pa < 8) ∧
  (∀ pa : Nat, localAddr pa = pa / 2 ^ 11 * 256 + pa % 2 ^ 8) ∧
  (∀ (g : Regs) (a b : Nat), g.hashOk = true → a < 2 ^ 52 → b < 2 ^ 52 → g.home a = g.home b → localAddr a = localAddr b → a = b) ∧
  (∀ (g : Regs) (block share : Nat), g.hashOk = true → block < 2 ^ 41 → share < 8 →
    ∃ k, k < 8 ∧ (∀ x, x < 256 → g.home (block * 2 ^ 11 + k * 256 + x) = share) ∧
      ∀ j, j < 8 → g.home (block * 2 ^ 11 + j * 256) = share → j = k)

/-- R543: until `MEM_READY` is 1 a DISTRICT_CREATE of a right version from the holder of the token completes REFUSED_STATE and creates
nothing. -/
def Obligations.DistrictsNeedMemory : Prop :=
  ∀ (s : State) (c : Cmd), RingUp s c.ring → (s.ring c.ring).acc = none → isAccRing c.ring = false → (s.pick c).copiesOf c = [] →
    (s.pick c).recordLost c = false → (s.pick c).retainedOf c = none → (s.pick c).sameRunning c = none → (s.pick c).mustWait c = false →
    c.d.opcode = 0x01 → c.d.ifv = ((s.boot.fw.map (·.ifMajor)).getD 0) → (s.pick c).admits .g c = true → s.boot.memReady = false →
    Runs (.districtCreate c) s fun t => t.maps = s.maps ∧ t.sec = s.sec ∧ t.eng = s.eng ∧ Ends t c 0x12 0 0
end

