-- ==== Sys2Proof/Laws/Table.lean ====
section
/-! SUPPORT. What the operations of a table do: a read after a write, and the canonical form. -/

namespace Sys2Proof

variable {α : Type}

/-- A read after a write: the value written at its key, the old value at every other. -/
theorem Table.get_put (t : Table α) (n m : Nat) (x : α) : (t.put n x).get m = if m = n then some x else t.get m := by
  induction t with
  | nil => by_cases h : m = n <;> simp [Table.put, Table.get, h]
  | cons e t ih =>
    obtain ⟨k, v⟩ := e
    simp only [Table.put]
    split
    · by_cases h : m = n <;> simp [Table.get, h]
    · split
      · rename_i h1 h2
        subst h2
        by_cases h : m = n <;> simp [Table.get, h]
      · by_cases hk : m = k
        · subst hk
          simp only [Table.get, if_pos]
          rw [if_neg (by omega)]
        · simp [Table.get, hk, ih]

@[simp] theorem Table.get_put_same (t : Table α) (n : Nat) (x : α) : (t.put n x).get n = some x := by simp [Table.get_put]

theorem Table.get_put_of_ne (t : Table α) {n m : Nat} (x : α) (h : m ≠ n) : (t.put n x).get m = t.get m := by
  simp [Table.get_put, h]

/-- Removing a key leaves every other entry. -/
theorem Table.get_del_of_ne (t : Table α) {n m : Nat} (h : m ≠ n) : (t.del n).get m = t.get m := by
  induction t with
  | nil => rfl
  | cons e t ih =>
    obtain ⟨k, v⟩ := e
    simp only [Table.del]
    split
    · subst_vars
      simp [Table.get, h]
    · by_cases hk : m = k <;> simp [Table.get, hk, ih]

/-- Every key of a canonical table's tail lies above its head's. -/
theorem Table.wf_cons {k : Nat} {v : α} {t : Table α} : Table.wf ((k, v) :: t) = true ↔ (∀ e ∈ t, k < e.1) ∧ t.wf = true := by
  induction t generalizing k v with
  | nil => simp [Table.wf]
  | cons e t ih =>
    obtain ⟨j, w⟩ := e
    simp only [Table.wf, Bool.and_eq_true, decide_eq_true_eq]
    rw [ih]
    constructor
    · rintro ⟨h, h1, h2⟩
      refine ⟨?_, h1, h2⟩
      intro e he
      rcases List.mem_cons.1 he with rfl | he
      · exact h
      · exact Nat.lt_trans h (h1 e he)
    · rintro ⟨h, h1, h2⟩
      exact ⟨h _ (List.mem_cons_self), h1, h2⟩

theorem Table.mem_put {t : Table α} {n : Nat} {x : α} {e : Nat × α} (h : e ∈ t.put n x) : e = (n, x) ∨ e ∈ t := by
  induction t with
  | nil => simpa [Table.put] using h
  | cons a t ih =>
    obtain ⟨k, v⟩ := a
    simp only [Table.put] at h
    split at h
    · simpa using h
    · split at h
      · rcases List.mem_cons.1 h with h | h
        · exact .inl h
        · exact .inr (List.mem_cons_of_mem _ h)
      · rcases List.mem_cons.1 h with h | h
        · exact .inr (h ▸ List.mem_cons_self)
        · rcases ih h with h | h
          · exact .inl h
          · exact .inr (List.mem_cons_of_mem _ h)

/-- Setting an entry keeps the canonical form. -/
theorem Table.wf_put {t : Table α} (n : Nat) (x : α) (h : t.wf = true) : (t.put n x).wf = true := by
  induction t with
  | nil => rfl
  | cons a t ih =>
    obtain ⟨k, v⟩ := a
    have hw := Table.wf_cons.1 h
    simp only [Table.put]
    split
    · refine Table.wf_cons.2 ⟨?_, h⟩
      intro e he
      rcases List.mem_cons.1 he with rfl | he
      · assumption
      · exact Nat.lt_trans ‹n < k› (hw.1 e he)
    · split
      · subst_vars
        exact Table.wf_cons.2 hw
      · refine Table.wf_cons.2 ⟨?_, ih hw.2⟩
        intro e he
        rcases Table.mem_put he with rfl | he
        · show k < n
          omega
        · exact hw.1 e he

theorem Table.mem_del {t : Table α} {n : Nat} {e : Nat × α} (h : e ∈ t.del n) : e ∈ t := by
  induction t with
  | nil => simp [Table.del] at h
  | cons a t ih =>
    obtain ⟨k, v⟩ := a
    simp only [Table.del] at h
    split at h
    · exact List.mem_cons_of_mem _ h
    · rcases List.mem_cons.1 h with h | h
      · exact h ▸ List.mem_cons_self
      · exact List.mem_cons_of_mem _ (ih h)

/-- Removing an entry keeps the canonical form. -/
theorem Table.wf_del {t : Table α} (n : Nat) (h : t.wf = true) : (t.del n).wf = true := by
  induction t with
  | nil => rfl
  | cons a t ih =>
    obtain ⟨k, v⟩ := a
    have hw := Table.wf_cons.1 h
    simp only [Table.del]
    split
    · exact hw.2
    · exact Table.wf_cons.2 ⟨fun e he => hw.1 e (Table.mem_del he), ih hw.2⟩

/-- In a canonical table a key that has been removed has no entry. -/
theorem Table.get_del_same {t : Table α} (n : Nat) (h : t.wf = true) : (t.del n).get n = none := by
  induction t with
  | nil => rfl
  | cons a t ih =>
    obtain ⟨k, v⟩ := a
    have hw := Table.wf_cons.1 h
    simp only [Table.del]
    split
    · rename_i hn
      subst hn
      clear ih h
      have hk : ∀ e ∈ t, e.1 ≠ n := fun e he => Nat.ne_of_gt (hw.1 e he)
      clear hw
      induction t with
      | nil => rfl
      | cons b t ih2 =>
        have hb := hk b List.mem_cons_self
        obtain ⟨j, w⟩ := b
        simp only [Table.get]
        rw [if_neg (fun h => hb h.symm)]
        exact ih2 (fun e he => hk e (List.mem_cons_of_mem _ he))
    · simp only [Table.get, ih hw.2]
      rw [if_neg ‹_›]

end Sys2Proof
end

