-- ==== Sys2Proof/Laws/State.lean ====
section
/-! SUPPORT. The parts of the state through choices and folds, and a part after a write of that part. -/

namespace Sys2Proof.Machine

open Sys2Proof

/-! ### Choices and folds -/

@[simp] theorem State.pending_ite (c : Prop) [Decidable c] (a b : State) :
    (if c then a else b).pending = if c then a.pending else b.pending := apply_ite State.pending c a b
@[simp] theorem State.free_ite (c : Prop) [Decidable c] (a b : State) :
    (if c then a else b).free = if c then a.free else b.free := apply_ite State.free c a b
@[simp] theorem State.clock_ite (c : Prop) [Decidable c] (a b : State) :
    (if c then a else b).clock = if c then a.clock else b.clock := apply_ite State.clock c a b
@[simp] theorem State.out_ite (c : Prop) [Decidable c] (a b : State) :
    (if c then a else b).out = if c then a.out else b.out := apply_ite State.out c a b
@[simp] theorem State.regs_ite (c : Prop) [Decidable c] (a b : State) :
    (if c then a else b).regs = if c then a.regs else b.regs := apply_ite State.regs c a b
@[simp] theorem State.host_ite (c : Prop) [Decidable c] (a b : State) :
    (if c then a else b).host = if c then a.host else b.host := apply_ite State.host c a b
@[simp] theorem State.time_ite (c : Prop) [Decidable c] (a b : State) :
    (if c then a else b).time = if c then a.time else b.time := apply_ite State.time c a b
@[simp] theorem State.maps_ite (c : Prop) [Decidable c] (a b : State) :
    (if c then a else b).maps = if c then a.maps else b.maps := apply_ite State.maps c a b
@[simp] theorem State.mem_ite (c : Prop) [Decidable c] (a b : State) :
    (if c then a else b).mem = if c then a.mem else b.mem := apply_ite State.mem c a b
@[simp] theorem State.coh_ite (c : Prop) [Decidable c] (a b : State) :
    (if c then a else b).coh = if c then a.coh else b.coh := apply_ite State.coh c a b
@[simp] theorem State.boot_ite (c : Prop) [Decidable c] (a b : State) :
    (if c then a else b).boot = if c then a.boot else b.boot := apply_ite State.boot c a b
@[simp] theorem State.avail_ite (c : Prop) [Decidable c] (a b : State) :
    (if c then a else b).avail = if c then a.avail else b.avail := apply_ite State.avail c a b
@[simp] theorem State.sec_ite (c : Prop) [Decidable c] (a b : State) :
    (if c then a else b).sec = if c then a.sec else b.sec := apply_ite State.sec c a b
@[simp] theorem State.net_ite (c : Prop) [Decidable c] (a b : State) :
    (if c then a else b).net = if c then a.net else b.net := apply_ite State.net c a b
@[simp] theorem State.ms_ite (c : Prop) [Decidable c] (a b : State) :
    (if c then a else b).ms = if c then a.ms else b.ms := apply_ite State.ms c a b
@[simp] theorem State.cr_ite (c : Prop) [Decidable c] (a b : State) :
    (if c then a else b).cr = if c then a.cr else b.cr := apply_ite State.cr c a b
@[simp] theorem State.prot_ite (c : Prop) [Decidable c] (a b : State) :
    (if c then a else b).prot = if c then a.prot else b.prot := apply_ite State.prot c a b
@[simp] theorem State.dram_ite (c : Prop) [Decidable c] (a b : State) :
    (if c then a else b).dram = if c then a.dram else b.dram := apply_ite State.dram c a b
@[simp] theorem State.flash_ite (c : Prop) [Decidable c] (a b : State) :
    (if c then a else b).flash = if c then a.flash else b.flash := apply_ite State.flash c a b
@[simp] theorem State.eng_ite (c : Prop) [Decidable c] (a b : State) :
    (if c then a else b).eng = if c then a.eng else b.eng := apply_ite State.eng c a b
@[simp] theorem State.pwr_ite (c : Prop) [Decidable c] (a b : State) :
    (if c then a else b).pwr = if c then a.pwr else b.pwr := apply_ite State.pwr c a b
@[simp] theorem State.isl_ite (c : Prop) [Decidable c] (a b : State) :
    (if c then a else b).isl = if c then a.isl else b.isl := apply_ite State.isl c a b

@[simp] theorem State.pending_foldl {α : Type} (f : State → α → State) (l : List α) (s : State)
    (h : ∀ s a, (f s a).pending = s.pending) : (l.foldl f s).pending = s.pending := by
  induction l generalizing s with
  | nil => rfl
  | cons a l ih => exact (ih _).trans (h s a)

@[simp] theorem State.free_foldl {α : Type} (f : State → α → State) (l : List α) (s : State)
    (h : ∀ s a, (f s a).free = s.free) : (l.foldl f s).free = s.free := by
  induction l generalizing s with
  | nil => rfl
  | cons a l ih => exact (ih _).trans (h s a)

@[simp] theorem State.clock_foldl {α : Type} (f : State → α → State) (l : List α) (s : State)
    (h : ∀ s a, (f s a).clock = s.clock) : (l.foldl f s).clock = s.clock := by
  induction l generalizing s with
  | nil => rfl
  | cons a l ih => exact (ih _).trans (h s a)

@[simp] theorem State.out_foldl {α : Type} (f : State → α → State) (l : List α) (s : State)
    (h : ∀ s a, (f s a).out = s.out) : (l.foldl f s).out = s.out := by
  induction l generalizing s with
  | nil => rfl
  | cons a l ih => exact (ih _).trans (h s a)

@[simp] theorem State.regs_foldl {α : Type} (f : State → α → State) (l : List α) (s : State)
    (h : ∀ s a, (f s a).regs = s.regs) : (l.foldl f s).regs = s.regs := by
  induction l generalizing s with
  | nil => rfl
  | cons a l ih => exact (ih _).trans (h s a)

@[simp] theorem State.host_foldl {α : Type} (f : State → α → State) (l : List α) (s : State)
    (h : ∀ s a, (f s a).host = s.host) : (l.foldl f s).host = s.host := by
  induction l generalizing s with
  | nil => rfl
  | cons a l ih => exact (ih _).trans (h s a)

@[simp] theorem State.time_foldl {α : Type} (f : State → α → State) (l : List α) (s : State)
    (h : ∀ s a, (f s a).time = s.time) : (l.foldl f s).time = s.time := by
  induction l generalizing s with
  | nil => rfl
  | cons a l ih => exact (ih _).trans (h s a)

@[simp] theorem State.maps_foldl {α : Type} (f : State → α → State) (l : List α) (s : State)
    (h : ∀ s a, (f s a).maps = s.maps) : (l.foldl f s).maps = s.maps := by
  induction l generalizing s with
  | nil => rfl
  | cons a l ih => exact (ih _).trans (h s a)

@[simp] theorem State.mem_foldl {α : Type} (f : State → α → State) (l : List α) (s : State)
    (h : ∀ s a, (f s a).mem = s.mem) : (l.foldl f s).mem = s.mem := by
  induction l generalizing s with
  | nil => rfl
  | cons a l ih => exact (ih _).trans (h s a)

@[simp] theorem State.coh_foldl {α : Type} (f : State → α → State) (l : List α) (s : State)
    (h : ∀ s a, (f s a).coh = s.coh) : (l.foldl f s).coh = s.coh := by
  induction l generalizing s with
  | nil => rfl
  | cons a l ih => exact (ih _).trans (h s a)

@[simp] theorem State.boot_foldl {α : Type} (f : State → α → State) (l : List α) (s : State)
    (h : ∀ s a, (f s a).boot = s.boot) : (l.foldl f s).boot = s.boot := by
  induction l generalizing s with
  | nil => rfl
  | cons a l ih => exact (ih _).trans (h s a)

@[simp] theorem State.avail_foldl {α : Type} (f : State → α → State) (l : List α) (s : State)
    (h : ∀ s a, (f s a).avail = s.avail) : (l.foldl f s).avail = s.avail := by
  induction l generalizing s with
  | nil => rfl
  | cons a l ih => exact (ih _).trans (h s a)

@[simp] theorem State.sec_foldl {α : Type} (f : State → α → State) (l : List α) (s : State)
    (h : ∀ s a, (f s a).sec = s.sec) : (l.foldl f s).sec = s.sec := by
  induction l generalizing s with
  | nil => rfl
  | cons a l ih => exact (ih _).trans (h s a)

@[simp] theorem State.net_foldl {α : Type} (f : State → α → State) (l : List α) (s : State)
    (h : ∀ s a, (f s a).net = s.net) : (l.foldl f s).net = s.net := by
  induction l generalizing s with
  | nil => rfl
  | cons a l ih => exact (ih _).trans (h s a)

@[simp] theorem State.ms_foldl {α : Type} (f : State → α → State) (l : List α) (s : State)
    (h : ∀ s a, (f s a).ms = s.ms) : (l.foldl f s).ms = s.ms := by
  induction l generalizing s with
  | nil => rfl
  | cons a l ih => exact (ih _).trans (h s a)

@[simp] theorem State.cr_foldl {α : Type} (f : State → α → State) (l : List α) (s : State)
    (h : ∀ s a, (f s a).cr = s.cr) : (l.foldl f s).cr = s.cr := by
  induction l generalizing s with
  | nil => rfl
  | cons a l ih => exact (ih _).trans (h s a)

@[simp] theorem State.prot_foldl {α : Type} (f : State → α → State) (l : List α) (s : State)
    (h : ∀ s a, (f s a).prot = s.prot) : (l.foldl f s).prot = s.prot := by
  induction l generalizing s with
  | nil => rfl
  | cons a l ih => exact (ih _).trans (h s a)

@[simp] theorem State.dram_foldl {α : Type} (f : State → α → State) (l : List α) (s : State)
    (h : ∀ s a, (f s a).dram = s.dram) : (l.foldl f s).dram = s.dram := by
  induction l generalizing s with
  | nil => rfl
  | cons a l ih => exact (ih _).trans (h s a)

@[simp] theorem State.flash_foldl {α : Type} (f : State → α → State) (l : List α) (s : State)
    (h : ∀ s a, (f s a).flash = s.flash) : (l.foldl f s).flash = s.flash := by
  induction l generalizing s with
  | nil => rfl
  | cons a l ih => exact (ih _).trans (h s a)

@[simp] theorem State.eng_foldl {α : Type} (f : State → α → State) (l : List α) (s : State)
    (h : ∀ s a, (f s a).eng = s.eng) : (l.foldl f s).eng = s.eng := by
  induction l generalizing s with
  | nil => rfl
  | cons a l ih => exact (ih _).trans (h s a)

@[simp] theorem State.pwr_foldl {α : Type} (f : State → α → State) (l : List α) (s : State)
    (h : ∀ s a, (f s a).pwr = s.pwr) : (l.foldl f s).pwr = s.pwr := by
  induction l generalizing s with
  | nil => rfl
  | cons a l ih => exact (ih _).trans (h s a)

@[simp] theorem State.isl_foldl {α : Type} (f : State → α → State) (l : List α) (s : State)
    (h : ∀ s a, (f s a).isl = s.isl) : (l.foldl f s).isl = s.isl := by
  induction l generalizing s with
  | nil => rfl
  | cons a l ih => exact (ih _).trans (h s a)

/-- A fold keeps what each of its steps keeps. -/
theorem foldl_keeps {α β : Type} (g : State → β) (f : State → α → State) (l : List α) (s : State)
    (h : ∀ s a, g (f s a) = g s) : g (l.foldl f s) = g s := by
  induction l generalizing s with
  | nil => rfl
  | cons a l ih => exact (ih _).trans (h s a)

/-- The same for a fold that carries a second value. -/
theorem foldl_fst_keeps {α β γ : Type} (g : State → β) (f : State × γ → α → State × γ) (l : List α) (x : State × γ)
    (h : ∀ x a, g (f x a).1 = g x.1) : g (l.foldl f x).1 = g x.1 := by
  induction l generalizing x with
  | nil => rfl
  | cons a l ih => exact (ih _).trans (h x a)

/-! ### A part after a write of that part -/

@[simp] theorem State.share_setShare (s : State) (n m : Nat) (x : ShareSt) : (s.setShare n x).share m = if m = n then x else s.share m := by
  simp only [State.share, State.setShare, Table.get_put]; split <;> rfl

@[simp] theorem State.av_setAv (s : State) (n m : Nat) (x : Av) : (s.setAv n x).av m = if m = n then x else s.av m := by
  simp only [State.av, State.setAv, Table.get_put]; split <;> rfl

@[simp] theorem State.core_setCore (s : State) (n m : Nat) (x : Core) : (s.setCore n x).core m = if m = n then x else s.core m := by
  simp only [State.core, State.setCore, Table.get_put]; split <;> rfl

@[simp] theorem State.ring_setRing (s : State) (n m : Nat) (x : Ring) : (s.setRing n x).ring m = if m = n then x else s.ring m := by
  simp only [State.ring, State.setRing, Table.get_put]; split <;> rfl

@[simp] theorem State.ntc_setNtc (s : State) (n m : Nat) (x : NoticeRing) : (s.setNtc n x).ntc m = if m = n then x else s.ntc m := by
  simp only [State.ntc, State.setNtc, Table.get_put]; split <;> rfl

@[simp] theorem State.chan_setChan (s : State) (n m : Nat) (x : ChanSt) : (s.setChan n x).chan m = if m = n then x else s.chan m := by
  simp only [State.chan, State.setChan, Table.get_put]; split <;> rfl

@[simp] theorem State.cprot_setCprot (s : State) (n m : Nat) (x : ChanProt) : (s.setCprot n x).cprot m = if m = n then x else s.cprot m := by
  simp only [State.cprot, State.setCprot, Table.get_put]; split <;> rfl

@[simp] theorem State.arb_setArb (s : State) (n m : Nat) (x : Arb) : (s.setArb n x).arb m = if m = n then x else s.arb m := by
  simp only [State.arb, State.setArb, Table.get_put]; split <;> rfl

@[simp] theorem State.scrub_setScrub (s : State) (n m : Nat) (x : Scrub) : (s.setScrub n x).scrub m = if m = n then x else s.scrub m := by
  simp only [State.scrub, State.setScrub, Table.get_put]; split <;> rfl

@[simp] theorem State.jl_setJl (s : State) (n m : Nat) (x : LinkPort) : (s.setJl n x).jl m = if m = n then x else s.jl m := by
  simp only [State.jl, State.setJl, Table.get_put]; split <;> rfl

@[simp] theorem State.ssd_setSsd (s : State) (n m : Nat) (x : SsdSlot) : (s.setSsd n x).ssd m = if m = n then x else s.ssd m := by
  simp only [State.ssd, State.setSsd, Table.get_put]; split <;> rfl

@[simp] theorem State.district_setDistrict (s : State) (n m : Nat) (x : District) : (s.setDistrict n x).district m = if m = n then some x else s.district m := by
  simp only [State.district, State.setDistrict, Table.get_put]

@[simp] theorem State.job_setJob (s : State) (n m : Nat) (x : Job) : (s.setJob n x).job m = if m = n then some x else s.job m := by
  simp only [State.job, State.setJob, Table.get_put]

@[simp] theorem State.crossing_setCrossing (s : State) (n m : Nat) (x : Crossing) : (s.setCrossing n x).crossing m = if m = n then some x else s.crossing m := by
  simp only [State.crossing, State.setCrossing, Table.get_put]

@[simp] theorem State.group_setGroup (s : State) (n m : Nat) (x : Group) : (s.setGroup n x).group m = if m = n then some x else s.group m := by
  simp only [State.group, State.setGroup, Table.get_put]

end Sys2Proof.Machine
end

