-- ==== Sys2Proof/Laws/Frame.lean ====
section
/-! SUPPORT. What each shared operation leaves as it is: one lemma per operation, for the parts of the state that it does not touch. -/

namespace Sys2Proof.Machine

open Sys2Proof

set_option linter.unusedTactic false
set_option linter.unreachableTactic false

@[simp] theorem State.logErr_frame (s : State) (r : ErrRec) :
    (s.logErr r).pending = s.pending ∧ (s.logErr r).free = s.free ∧ (s.logErr r).clock = s.clock ∧
    (s.logErr r).out = s.out ∧ (s.logErr r).regs = s.regs ∧ (s.logErr r).host = s.host ∧
    (s.logErr r).time = s.time ∧ (s.logErr r).maps = s.maps ∧ (s.logErr r).mem = s.mem ∧ (s.logErr r).coh = s.coh ∧
    (s.logErr r).boot = s.boot ∧ (s.logErr r).avail = s.avail ∧ (s.logErr r).sec = s.sec ∧
    (s.logErr r).net = s.net ∧ (s.logErr r).ms = s.ms ∧ (s.logErr r).cr = s.cr ∧ (s.logErr r).dram = s.dram ∧
    (s.logErr r).flash = s.flash ∧ (s.logErr r).eng = s.eng ∧ (s.logErr r).pwr = s.pwr ∧
    (s.logErr r).isl = s.isl := by
  simp [State.logErr]

@[simp] theorem State.setRing_frame (s : State) (r : Nat) (x : Ring) :
    (s.setRing r x).pending = s.pending ∧ (s.setRing r x).free = s.free ∧ (s.setRing r x).clock = s.clock ∧
    (s.setRing r x).out = s.out ∧ (s.setRing r x).regs = s.regs ∧ (s.setRing r x).time = s.time ∧
    (s.setRing r x).maps = s.maps ∧ (s.setRing r x).mem = s.mem ∧ (s.setRing r x).coh = s.coh ∧
    (s.setRing r x).boot = s.boot ∧ (s.setRing r x).avail = s.avail ∧ (s.setRing r x).sec = s.sec ∧
    (s.setRing r x).net = s.net ∧ (s.setRing r x).ms = s.ms ∧ (s.setRing r x).cr = s.cr ∧
    (s.setRing r x).prot = s.prot ∧ (s.setRing r x).dram = s.dram ∧ (s.setRing r x).flash = s.flash ∧
    (s.setRing r x).eng = s.eng ∧ (s.setRing r x).pwr = s.pwr ∧ (s.setRing r x).isl = s.isl := by
  simp [State.setRing]

@[simp] theorem State.delDir_frame (s : State) (line : Nat) :
    (s.delDir line).pending = s.pending ∧ (s.delDir line).free = s.free ∧ (s.delDir line).clock = s.clock ∧
    (s.delDir line).out = s.out ∧ (s.delDir line).regs = s.regs ∧ (s.delDir line).host = s.host ∧
    (s.delDir line).time = s.time ∧ (s.delDir line).maps = s.maps ∧ (s.delDir line).mem = s.mem ∧
    (s.delDir line).boot = s.boot ∧ (s.delDir line).avail = s.avail ∧ (s.delDir line).sec = s.sec ∧
    (s.delDir line).net = s.net ∧ (s.delDir line).ms = s.ms ∧ (s.delDir line).cr = s.cr ∧
    (s.delDir line).prot = s.prot ∧ (s.delDir line).dram = s.dram ∧ (s.delDir line).flash = s.flash ∧
    (s.delDir line).eng = s.eng ∧ (s.delDir line).pwr = s.pwr ∧ (s.delDir line).isl = s.isl := by
  simp [State.delDir]

@[simp] theorem State.setDir_frame (s : State) (line : Nat) (e : DirEntry) :
    (s.setDir line e).pending = s.pending ∧ (s.setDir line e).free = s.free ∧ (s.setDir line e).clock = s.clock ∧
    (s.setDir line e).out = s.out ∧ (s.setDir line e).regs = s.regs ∧ (s.setDir line e).host = s.host ∧
    (s.setDir line e).time = s.time ∧ (s.setDir line e).maps = s.maps ∧ (s.setDir line e).mem = s.mem ∧
    (s.setDir line e).boot = s.boot ∧ (s.setDir line e).avail = s.avail ∧ (s.setDir line e).sec = s.sec ∧
    (s.setDir line e).net = s.net ∧ (s.setDir line e).ms = s.ms ∧ (s.setDir line e).cr = s.cr ∧
    (s.setDir line e).prot = s.prot ∧ (s.setDir line e).dram = s.dram ∧ (s.setDir line e).flash = s.flash ∧
    (s.setDir line e).eng = s.eng ∧ (s.setDir line e).pwr = s.pwr ∧ (s.setDir line e).isl = s.isl := by
  simp [State.setDir]

@[simp] theorem State.closeReq_frame (s : State) (p : Pend) :
    (s.closeReq p).pending = s.pending ∧ (s.closeReq p).free = s.free ∧ (s.closeReq p).clock = s.clock ∧
    (s.closeReq p).out = s.out ∧ (s.closeReq p).regs = s.regs ∧ (s.closeReq p).host = s.host ∧
    (s.closeReq p).time = s.time ∧ (s.closeReq p).maps = s.maps ∧ (s.closeReq p).mem = s.mem ∧
    (s.closeReq p).boot = s.boot ∧ (s.closeReq p).avail = s.avail ∧ (s.closeReq p).sec = s.sec ∧
    (s.closeReq p).net = s.net ∧ (s.closeReq p).ms = s.ms ∧ (s.closeReq p).cr = s.cr ∧
    (s.closeReq p).prot = s.prot ∧ (s.closeReq p).dram = s.dram ∧ (s.closeReq p).flash = s.flash ∧
    (s.closeReq p).eng = s.eng ∧ (s.closeReq p).pwr = s.pwr ∧ (s.closeReq p).isl = s.isl := by
  simp [State.closeReq]

@[simp] theorem State.tally_frame (s : State) (off : Nat) (n : Nat) :
    (s.tally off n).pending = s.pending ∧ (s.tally off n).free = s.free ∧ (s.tally off n).clock = s.clock ∧
    (s.tally off n).out = s.out ∧ (s.tally off n).host = s.host ∧ (s.tally off n).time = s.time ∧
    (s.tally off n).maps = s.maps ∧ (s.tally off n).mem = s.mem ∧ (s.tally off n).coh = s.coh ∧
    (s.tally off n).boot = s.boot ∧ (s.tally off n).avail = s.avail ∧ (s.tally off n).sec = s.sec ∧
    (s.tally off n).net = s.net ∧ (s.tally off n).ms = s.ms ∧ (s.tally off n).cr = s.cr ∧
    (s.tally off n).prot = s.prot ∧ (s.tally off n).dram = s.dram ∧ (s.tally off n).flash = s.flash ∧
    (s.tally off n).eng = s.eng ∧ (s.tally off n).pwr = s.pwr ∧ (s.tally off n).isl = s.isl := by
  simp [State.tally]

@[simp] theorem State.setBucket_frame (s : State) (m : Nat) (b : Bucket) :
    (s.setBucket m b).pending = s.pending ∧ (s.setBucket m b).free = s.free ∧ (s.setBucket m b).clock = s.clock ∧
    (s.setBucket m b).out = s.out ∧ (s.setBucket m b).regs = s.regs ∧ (s.setBucket m b).host = s.host ∧
    (s.setBucket m b).time = s.time ∧ (s.setBucket m b).maps = s.maps ∧ (s.setBucket m b).mem = s.mem ∧
    (s.setBucket m b).coh = s.coh ∧ (s.setBucket m b).boot = s.boot ∧ (s.setBucket m b).avail = s.avail ∧
    (s.setBucket m b).sec = s.sec ∧ (s.setBucket m b).ms = s.ms ∧ (s.setBucket m b).cr = s.cr ∧
    (s.setBucket m b).prot = s.prot ∧ (s.setBucket m b).dram = s.dram ∧ (s.setBucket m b).flash = s.flash ∧
    (s.setBucket m b).eng = s.eng ∧ (s.setBucket m b).pwr = s.pwr ∧ (s.setBucket m b).isl = s.isl := by
  simp [State.setBucket]

@[simp] theorem State.markAt_frame (s : State) (m : Nat) (len : Nat) :
    (s.markAt m len).1.pending = s.pending ∧ (s.markAt m len).1.free = s.free ∧ (s.markAt m len).1.clock = s.clock ∧
    (s.markAt m len).1.out = s.out ∧ (s.markAt m len).1.regs = s.regs ∧ (s.markAt m len).1.host = s.host ∧
    (s.markAt m len).1.time = s.time ∧ (s.markAt m len).1.maps = s.maps ∧ (s.markAt m len).1.mem = s.mem ∧
    (s.markAt m len).1.coh = s.coh ∧ (s.markAt m len).1.boot = s.boot ∧ (s.markAt m len).1.avail = s.avail ∧
    (s.markAt m len).1.sec = s.sec ∧ (s.markAt m len).1.ms = s.ms ∧ (s.markAt m len).1.cr = s.cr ∧
    (s.markAt m len).1.prot = s.prot ∧ (s.markAt m len).1.dram = s.dram ∧ (s.markAt m len).1.flash = s.flash ∧
    (s.markAt m len).1.eng = s.eng ∧ (s.markAt m len).1.pwr = s.pwr ∧ (s.markAt m len).1.isl = s.isl := by
  simp only [State.markAt]
  repeat' (first | (simp; done) | split)

@[simp] theorem State.setJl_frame (s : State) (n : Nat) (p : LinkPort) :
    (s.setJl n p).pending = s.pending ∧ (s.setJl n p).free = s.free ∧ (s.setJl n p).clock = s.clock ∧
    (s.setJl n p).out = s.out ∧ (s.setJl n p).regs = s.regs ∧ (s.setJl n p).host = s.host ∧
    (s.setJl n p).time = s.time ∧ (s.setJl n p).maps = s.maps ∧ (s.setJl n p).mem = s.mem ∧
    (s.setJl n p).coh = s.coh ∧ (s.setJl n p).boot = s.boot ∧ (s.setJl n p).avail = s.avail ∧
    (s.setJl n p).sec = s.sec ∧ (s.setJl n p).ms = s.ms ∧ (s.setJl n p).cr = s.cr ∧ (s.setJl n p).prot = s.prot ∧
    (s.setJl n p).dram = s.dram ∧ (s.setJl n p).flash = s.flash ∧ (s.setJl n p).eng = s.eng ∧
    (s.setJl n p).pwr = s.pwr ∧ (s.setJl n p).isl = s.isl := by
  simp [State.setJl]

@[simp] theorem State.enqueue_frame (s : State) (port : Nat) (q : Queued) :
    (s.enqueue port q).pending = s.pending ∧ (s.enqueue port q).free = s.free ∧ (s.enqueue port q).clock = s.clock ∧
    (s.enqueue port q).out = s.out ∧ (s.enqueue port q).host = s.host ∧ (s.enqueue port q).time = s.time ∧
    (s.enqueue port q).maps = s.maps ∧ (s.enqueue port q).mem = s.mem ∧ (s.enqueue port q).coh = s.coh ∧
    (s.enqueue port q).boot = s.boot ∧ (s.enqueue port q).avail = s.avail ∧ (s.enqueue port q).sec = s.sec ∧
    (s.enqueue port q).ms = s.ms ∧ (s.enqueue port q).cr = s.cr ∧ (s.enqueue port q).prot = s.prot ∧
    (s.enqueue port q).dram = s.dram ∧ (s.enqueue port q).flash = s.flash ∧ (s.enqueue port q).eng = s.eng ∧
    (s.enqueue port q).pwr = s.pwr ∧ (s.enqueue port q).isl = s.isl := by
  simp only [State.enqueue]
  repeat' (first | (simp; done) | split)

@[simp] theorem State.tryPost_frame (s : State) (m : Msg) (arrival : Option Nat) (district : Option Nat) :
    (s.tryPost m arrival district).1.pending = s.pending ∧ (s.tryPost m arrival district).1.free = s.free ∧
    (s.tryPost m arrival district).1.clock = s.clock ∧ (s.tryPost m arrival district).1.out = s.out ∧
    (s.tryPost m arrival district).1.host = s.host ∧ (s.tryPost m arrival district).1.time = s.time ∧
    (s.tryPost m arrival district).1.maps = s.maps ∧ (s.tryPost m arrival district).1.mem = s.mem ∧
    (s.tryPost m arrival district).1.coh = s.coh ∧ (s.tryPost m arrival district).1.boot = s.boot ∧
    (s.tryPost m arrival district).1.avail = s.avail ∧ (s.tryPost m arrival district).1.sec = s.sec ∧
    (s.tryPost m arrival district).1.ms = s.ms ∧ (s.tryPost m arrival district).1.cr = s.cr ∧
    (s.tryPost m arrival district).1.prot = s.prot ∧ (s.tryPost m arrival district).1.dram = s.dram ∧
    (s.tryPost m arrival district).1.flash = s.flash ∧ (s.tryPost m arrival district).1.eng = s.eng ∧
    (s.tryPost m arrival district).1.pwr = s.pwr ∧ (s.tryPost m arrival district).1.isl = s.isl := by
  simp only [State.tryPost]
  repeat' (first | (simp; done) | split)

@[simp] theorem State.holdNotice_frame (s : State) (n : Notice) :
    (s.holdNotice n).pending = s.pending ∧ (s.holdNotice n).free = s.free ∧ (s.holdNotice n).clock = s.clock ∧
    (s.holdNotice n).out = s.out ∧ (s.holdNotice n).regs = s.regs ∧ (s.holdNotice n).time = s.time ∧
    (s.holdNotice n).maps = s.maps ∧ (s.holdNotice n).mem = s.mem ∧ (s.holdNotice n).coh = s.coh ∧
    (s.holdNotice n).boot = s.boot ∧ (s.holdNotice n).avail = s.avail ∧ (s.holdNotice n).sec = s.sec ∧
    (s.holdNotice n).net = s.net ∧ (s.holdNotice n).ms = s.ms ∧ (s.holdNotice n).cr = s.cr ∧
    (s.holdNotice n).prot = s.prot ∧ (s.holdNotice n).dram = s.dram ∧ (s.holdNotice n).flash = s.flash ∧
    (s.holdNotice n).eng = s.eng ∧ (s.holdNotice n).pwr = s.pwr ∧ (s.holdNotice n).isl = s.isl := by
  simp [State.holdNotice]

@[simp] theorem State.setNtc_frame (s : State) (fn : Nat) (x : NoticeRing) :
    (s.setNtc fn x).pending = s.pending ∧ (s.setNtc fn x).free = s.free ∧ (s.setNtc fn x).clock = s.clock ∧
    (s.setNtc fn x).out = s.out ∧ (s.setNtc fn x).regs = s.regs ∧ (s.setNtc fn x).time = s.time ∧
    (s.setNtc fn x).maps = s.maps ∧ (s.setNtc fn x).mem = s.mem ∧ (s.setNtc fn x).coh = s.coh ∧
    (s.setNtc fn x).boot = s.boot ∧ (s.setNtc fn x).avail = s.avail ∧ (s.setNtc fn x).sec = s.sec ∧
    (s.setNtc fn x).net = s.net ∧ (s.setNtc fn x).ms = s.ms ∧ (s.setNtc fn x).cr = s.cr ∧
    (s.setNtc fn x).prot = s.prot ∧ (s.setNtc fn x).dram = s.dram ∧ (s.setNtc fn x).flash = s.flash ∧
    (s.setNtc fn x).eng = s.eng ∧ (s.setNtc fn x).pwr = s.pwr ∧ (s.setNtc fn x).isl = s.isl := by
  simp [State.setNtc]

@[simp] theorem State.emit_frame (s : State) (o : Out) :
    (s.emit o).pending = s.pending ∧ (s.emit o).free = s.free ∧ (s.emit o).clock = s.clock ∧
    (s.emit o).regs = s.regs ∧ (s.emit o).host = s.host ∧ (s.emit o).time = s.time ∧ (s.emit o).maps = s.maps ∧
    (s.emit o).mem = s.mem ∧ (s.emit o).coh = s.coh ∧ (s.emit o).boot = s.boot ∧ (s.emit o).avail = s.avail ∧
    (s.emit o).sec = s.sec ∧ (s.emit o).net = s.net ∧ (s.emit o).ms = s.ms ∧ (s.emit o).cr = s.cr ∧
    (s.emit o).prot = s.prot ∧ (s.emit o).dram = s.dram ∧ (s.emit o).flash = s.flash ∧ (s.emit o).eng = s.eng ∧
    (s.emit o).pwr = s.pwr ∧ (s.emit o).isl = s.isl := by
  simp [State.emit]

@[simp] theorem State.writeNotice_frame (s : State) (fn : Nat) (n : Notice) :
    (s.writeNotice fn n).pending = s.pending ∧ (s.writeNotice fn n).free = s.free ∧
    (s.writeNotice fn n).clock = s.clock ∧ (s.writeNotice fn n).regs = s.regs ∧ (s.writeNotice fn n).time = s.time ∧
    (s.writeNotice fn n).maps = s.maps ∧ (s.writeNotice fn n).mem = s.mem ∧ (s.writeNotice fn n).coh = s.coh ∧
    (s.writeNotice fn n).boot = s.boot ∧ (s.writeNotice fn n).avail = s.avail ∧ (s.writeNotice fn n).sec = s.sec ∧
    (s.writeNotice fn n).net = s.net ∧ (s.writeNotice fn n).ms = s.ms ∧ (s.writeNotice fn n).cr = s.cr ∧
    (s.writeNotice fn n).prot = s.prot ∧ (s.writeNotice fn n).dram = s.dram ∧ (s.writeNotice fn n).flash = s.flash ∧
    (s.writeNotice fn n).eng = s.eng ∧ (s.writeNotice fn n).pwr = s.pwr ∧ (s.writeNotice fn n).isl = s.isl := by
  simp [State.writeNotice]

@[simp] theorem State.deliver_frame (s : State) (fn : Nat) (n : Notice) :
    (s.deliver fn n).pending = s.pending ∧ (s.deliver fn n).free = s.free ∧ (s.deliver fn n).clock = s.clock ∧
    (s.deliver fn n).regs = s.regs ∧ (s.deliver fn n).time = s.time ∧ (s.deliver fn n).maps = s.maps ∧
    (s.deliver fn n).mem = s.mem ∧ (s.deliver fn n).coh = s.coh ∧ (s.deliver fn n).boot = s.boot ∧
    (s.deliver fn n).avail = s.avail ∧ (s.deliver fn n).sec = s.sec ∧ (s.deliver fn n).net = s.net ∧
    (s.deliver fn n).ms = s.ms ∧ (s.deliver fn n).cr = s.cr ∧ (s.deliver fn n).prot = s.prot ∧
    (s.deliver fn n).dram = s.dram ∧ (s.deliver fn n).flash = s.flash ∧ (s.deliver fn n).eng = s.eng ∧
    (s.deliver fn n).pwr = s.pwr ∧ (s.deliver fn n).isl = s.isl := by
  simp [State.deliver]

@[simp] theorem State.raiseRaw_frame (s : State) (n : Notice) :
    (s.raiseRaw n).pending = s.pending ∧ (s.raiseRaw n).free = s.free ∧ (s.raiseRaw n).clock = s.clock ∧
    (s.raiseRaw n).regs = s.regs ∧ (s.raiseRaw n).time = s.time ∧ (s.raiseRaw n).maps = s.maps ∧
    (s.raiseRaw n).mem = s.mem ∧ (s.raiseRaw n).coh = s.coh ∧ (s.raiseRaw n).boot = s.boot ∧
    (s.raiseRaw n).avail = s.avail ∧ (s.raiseRaw n).sec = s.sec ∧ (s.raiseRaw n).net = s.net ∧
    (s.raiseRaw n).ms = s.ms ∧ (s.raiseRaw n).cr = s.cr ∧ (s.raiseRaw n).prot = s.prot ∧
    (s.raiseRaw n).dram = s.dram ∧ (s.raiseRaw n).flash = s.flash ∧ (s.raiseRaw n).eng = s.eng ∧
    (s.raiseRaw n).pwr = s.pwr ∧ (s.raiseRaw n).isl = s.isl := by
  simp [State.raiseRaw]

@[simp] theorem State.raise_frame (s : State) (source : Nat) (cause : Nat) (data : Nat) (district : optParam (Option Nat) none) :
    (s.raise source cause data district).pending = s.pending ∧ (s.raise source cause data district).free = s.free ∧
    (s.raise source cause data district).clock = s.clock ∧ (s.raise source cause data district).regs = s.regs ∧
    (s.raise source cause data district).time = s.time ∧ (s.raise source cause data district).maps = s.maps ∧
    (s.raise source cause data district).mem = s.mem ∧ (s.raise source cause data district).coh = s.coh ∧
    (s.raise source cause data district).boot = s.boot ∧ (s.raise source cause data district).avail = s.avail ∧
    (s.raise source cause data district).sec = s.sec ∧ (s.raise source cause data district).net = s.net ∧
    (s.raise source cause data district).ms = s.ms ∧ (s.raise source cause data district).cr = s.cr ∧
    (s.raise source cause data district).prot = s.prot ∧ (s.raise source cause data district).dram = s.dram ∧
    (s.raise source cause data district).flash = s.flash ∧ (s.raise source cause data district).eng = s.eng ∧
    (s.raise source cause data district).pwr = s.pwr ∧ (s.raise source cause data district).isl = s.isl := by
  simp [State.raise]

@[simp] theorem State.noteNoRoute_frame (s : State) (dst : Nat) :
    (s.noteNoRoute dst).pending = s.pending ∧ (s.noteNoRoute dst).free = s.free ∧ (s.noteNoRoute dst).clock = s.clock ∧
    (s.noteNoRoute dst).regs = s.regs ∧ (s.noteNoRoute dst).time = s.time ∧ (s.noteNoRoute dst).maps = s.maps ∧
    (s.noteNoRoute dst).mem = s.mem ∧ (s.noteNoRoute dst).coh = s.coh ∧ (s.noteNoRoute dst).boot = s.boot ∧
    (s.noteNoRoute dst).avail = s.avail ∧ (s.noteNoRoute dst).sec = s.sec ∧ (s.noteNoRoute dst).ms = s.ms ∧
    (s.noteNoRoute dst).cr = s.cr ∧ (s.noteNoRoute dst).prot = s.prot ∧ (s.noteNoRoute dst).dram = s.dram ∧
    (s.noteNoRoute dst).flash = s.flash ∧ (s.noteNoRoute dst).eng = s.eng ∧ (s.noteNoRoute dst).pwr = s.pwr ∧
    (s.noteNoRoute dst).isl = s.isl := by
  simp only [State.noteNoRoute]
  repeat' (first | (simp; done) | split)

@[simp] theorem State.post_frame (s : State) (m : Msg) (district : optParam (Option Nat) none) :
    (s.post m district).pending = s.pending ∧ (s.post m district).free = s.free ∧ (s.post m district).clock = s.clock ∧
    (s.post m district).time = s.time ∧ (s.post m district).maps = s.maps ∧ (s.post m district).mem = s.mem ∧
    (s.post m district).coh = s.coh ∧ (s.post m district).boot = s.boot ∧ (s.post m district).avail = s.avail ∧
    (s.post m district).sec = s.sec ∧ (s.post m district).ms = s.ms ∧ (s.post m district).cr = s.cr ∧
    (s.post m district).prot = s.prot ∧ (s.post m district).dram = s.dram ∧ (s.post m district).flash = s.flash ∧
    (s.post m district).eng = s.eng ∧ (s.post m district).pwr = s.pwr ∧ (s.post m district).isl = s.isl := by
  simp [State.post]

@[simp] theorem State.sendDat_frame (s : State) (port : Nat) (flow : Nat) (district : Option Nat) (d : Dat) :
    (s.sendDat port flow district d).pending = s.pending ∧ (s.sendDat port flow district d).free = s.free ∧
    (s.sendDat port flow district d).clock = s.clock ∧ (s.sendDat port flow district d).time = s.time ∧
    (s.sendDat port flow district d).maps = s.maps ∧ (s.sendDat port flow district d).mem = s.mem ∧
    (s.sendDat port flow district d).coh = s.coh ∧ (s.sendDat port flow district d).boot = s.boot ∧
    (s.sendDat port flow district d).avail = s.avail ∧ (s.sendDat port flow district d).sec = s.sec ∧
    (s.sendDat port flow district d).ms = s.ms ∧ (s.sendDat port flow district d).cr = s.cr ∧
    (s.sendDat port flow district d).prot = s.prot ∧ (s.sendDat port flow district d).dram = s.dram ∧
    (s.sendDat port flow district d).flash = s.flash ∧ (s.sendDat port flow district d).eng = s.eng ∧
    (s.sendDat port flow district d).pwr = s.pwr ∧ (s.sendDat port flow district d).isl = s.isl := by
  simp [State.sendDat]

@[simp] theorem State.draw_frame (s : State) :
    s.draw.pending = s.pending ∧ s.draw.clock = s.clock ∧ s.draw.out = s.out ∧ s.draw.regs = s.regs ∧
    s.draw.host = s.host ∧ s.draw.time = s.time ∧ s.draw.maps = s.maps ∧ s.draw.mem = s.mem ∧
    s.draw.coh = s.coh ∧ s.draw.boot = s.boot ∧ s.draw.avail = s.avail ∧ s.draw.sec = s.sec ∧
    s.draw.net = s.net ∧ s.draw.ms = s.ms ∧ s.draw.cr = s.cr ∧ s.draw.prot = s.prot ∧
    s.draw.dram = s.dram ∧ s.draw.flash = s.flash ∧ s.draw.eng = s.eng ∧ s.draw.pwr = s.pwr ∧
    s.draw.isl = s.isl := by
  simp [State.draw]

@[simp] theorem State.gatherDone_frame (s : State) (p : Pend) (k : Nat) (status : Nat) :
    (s.gatherDone p k status).pending = s.pending ∧ (s.gatherDone p k status).free = s.free ∧
    (s.gatherDone p k status).clock = s.clock ∧ (s.gatherDone p k status).time = s.time ∧
    (s.gatherDone p k status).maps = s.maps ∧ (s.gatherDone p k status).mem = s.mem ∧
    (s.gatherDone p k status).boot = s.boot ∧ (s.gatherDone p k status).avail = s.avail ∧
    (s.gatherDone p k status).sec = s.sec ∧ (s.gatherDone p k status).ms = s.ms ∧ (s.gatherDone p k status).cr = s.cr ∧
    (s.gatherDone p k status).prot = s.prot ∧ (s.gatherDone p k status).dram = s.dram ∧
    (s.gatherDone p k status).flash = s.flash ∧ (s.gatherDone p k status).eng = s.eng ∧
    (s.gatherDone p k status).pwr = s.pwr ∧ (s.gatherDone p k status).isl = s.isl := by
  simp only [State.gatherDone]
  repeat' (first | (simp; done) | split)

@[simp] theorem State.reply_frame (s : State) (p : Pend) (status : Nat) (detail : Nat) (data : Option (List Byte)) :
    (s.reply p status detail data).pending = s.pending ∧ (s.reply p status detail data).clock = s.clock ∧
    (s.reply p status detail data).time = s.time ∧ (s.reply p status detail data).maps = s.maps ∧
    (s.reply p status detail data).mem = s.mem ∧ (s.reply p status detail data).boot = s.boot ∧
    (s.reply p status detail data).avail = s.avail ∧ (s.reply p status detail data).sec = s.sec ∧
    (s.reply p status detail data).ms = s.ms ∧ (s.reply p status detail data).cr = s.cr ∧
    (s.reply p status detail data).prot = s.prot ∧ (s.reply p status detail data).dram = s.dram ∧
    (s.reply p status detail data).flash = s.flash ∧ (s.reply p status detail data).eng = s.eng ∧
    (s.reply p status detail data).pwr = s.pwr ∧ (s.reply p status detail data).isl = s.isl := by
  simp only [State.reply]
  repeat' (first | (simp; done) | split)

@[simp] theorem State.tallyAv_frame (s : State) (n : Nat) (off : Nat) :
    (s.tallyAv n off).pending = s.pending ∧ (s.tallyAv n off).free = s.free ∧ (s.tallyAv n off).clock = s.clock ∧
    (s.tallyAv n off).out = s.out ∧ (s.tallyAv n off).host = s.host ∧ (s.tallyAv n off).time = s.time ∧
    (s.tallyAv n off).maps = s.maps ∧ (s.tallyAv n off).mem = s.mem ∧ (s.tallyAv n off).coh = s.coh ∧
    (s.tallyAv n off).boot = s.boot ∧ (s.tallyAv n off).avail = s.avail ∧ (s.tallyAv n off).sec = s.sec ∧
    (s.tallyAv n off).net = s.net ∧ (s.tallyAv n off).ms = s.ms ∧ (s.tallyAv n off).cr = s.cr ∧
    (s.tallyAv n off).prot = s.prot ∧ (s.tallyAv n off).dram = s.dram ∧ (s.tallyAv n off).flash = s.flash ∧
    (s.tallyAv n off).eng = s.eng ∧ (s.tallyAv n off).pwr = s.pwr ∧ (s.tallyAv n off).isl = s.isl := by
  simp [State.tallyAv]

@[simp] theorem State.setLeaf_frame (s : State) (d : Nat) (first : Nat) (l : Leaf) :
    (s.setLeaf d first l).pending = s.pending ∧ (s.setLeaf d first l).free = s.free ∧
    (s.setLeaf d first l).clock = s.clock ∧ (s.setLeaf d first l).out = s.out ∧ (s.setLeaf d first l).regs = s.regs ∧
    (s.setLeaf d first l).host = s.host ∧ (s.setLeaf d first l).time = s.time ∧ (s.setLeaf d first l).mem = s.mem ∧
    (s.setLeaf d first l).coh = s.coh ∧ (s.setLeaf d first l).boot = s.boot ∧ (s.setLeaf d first l).avail = s.avail ∧
    (s.setLeaf d first l).sec = s.sec ∧ (s.setLeaf d first l).net = s.net ∧ (s.setLeaf d first l).ms = s.ms ∧
    (s.setLeaf d first l).cr = s.cr ∧ (s.setLeaf d first l).prot = s.prot ∧ (s.setLeaf d first l).dram = s.dram ∧
    (s.setLeaf d first l).flash = s.flash ∧ (s.setLeaf d first l).eng = s.eng ∧ (s.setLeaf d first l).pwr = s.pwr ∧
    (s.setLeaf d first l).isl = s.isl := by
  simp [State.setLeaf]

@[simp] theorem State.touchPage_frame (s : State) (d : Nat) (page : Nat) (change : Bool) :
    (s.touchPage d page change).pending = s.pending ∧ (s.touchPage d page change).free = s.free ∧
    (s.touchPage d page change).clock = s.clock ∧ (s.touchPage d page change).out = s.out ∧
    (s.touchPage d page change).regs = s.regs ∧ (s.touchPage d page change).host = s.host ∧
    (s.touchPage d page change).time = s.time ∧ (s.touchPage d page change).mem = s.mem ∧
    (s.touchPage d page change).coh = s.coh ∧ (s.touchPage d page change).boot = s.boot ∧
    (s.touchPage d page change).avail = s.avail ∧ (s.touchPage d page change).sec = s.sec ∧
    (s.touchPage d page change).net = s.net ∧ (s.touchPage d page change).ms = s.ms ∧
    (s.touchPage d page change).cr = s.cr ∧ (s.touchPage d page change).prot = s.prot ∧
    (s.touchPage d page change).dram = s.dram ∧ (s.touchPage d page change).flash = s.flash ∧
    (s.touchPage d page change).eng = s.eng ∧ (s.touchPage d page change).pwr = s.pwr ∧
    (s.touchPage d page change).isl = s.isl := by
  simp only [State.touchPage]
  repeat' (first | (simp; done) | split)

@[simp] theorem State.trainFar_frame (s : State) (line : Nat) (src : Nat) :
    (s.trainFar line src).pending = s.pending ∧ (s.trainFar line src).free = s.free ∧
    (s.trainFar line src).clock = s.clock ∧ (s.trainFar line src).out = s.out ∧ (s.trainFar line src).regs = s.regs ∧
    (s.trainFar line src).host = s.host ∧ (s.trainFar line src).time = s.time ∧ (s.trainFar line src).maps = s.maps ∧
    (s.trainFar line src).mem = s.mem ∧ (s.trainFar line src).boot = s.boot ∧ (s.trainFar line src).avail = s.avail ∧
    (s.trainFar line src).sec = s.sec ∧ (s.trainFar line src).net = s.net ∧ (s.trainFar line src).ms = s.ms ∧
    (s.trainFar line src).cr = s.cr ∧ (s.trainFar line src).prot = s.prot ∧ (s.trainFar line src).dram = s.dram ∧
    (s.trainFar line src).flash = s.flash ∧ (s.trainFar line src).eng = s.eng ∧ (s.trainFar line src).pwr = s.pwr ∧
    (s.trainFar line src).isl = s.isl := by
  simp [State.trainFar]

@[simp] theorem State.afterRead_frame (s : State) (line : Nat) :
    (s.afterRead line).pending = s.pending ∧ (s.afterRead line).clock = s.clock ∧ (s.afterRead line).out = s.out ∧
    (s.afterRead line).regs = s.regs ∧ (s.afterRead line).host = s.host ∧ (s.afterRead line).time = s.time ∧
    (s.afterRead line).maps = s.maps ∧ (s.afterRead line).mem = s.mem ∧ (s.afterRead line).coh = s.coh ∧
    (s.afterRead line).boot = s.boot ∧ (s.afterRead line).avail = s.avail ∧ (s.afterRead line).sec = s.sec ∧
    (s.afterRead line).net = s.net ∧ (s.afterRead line).ms = s.ms ∧ (s.afterRead line).cr = s.cr ∧
    (s.afterRead line).prot = s.prot ∧ (s.afterRead line).dram = s.dram ∧ (s.afterRead line).flash = s.flash ∧
    (s.afterRead line).eng = s.eng ∧ (s.afterRead line).pwr = s.pwr ∧ (s.afterRead line).isl = s.isl := by
  simp [State.afterRead]

@[simp] theorem State.setArb_frame (s : State) (n : Nat) (x : Arb) :
    (s.setArb n x).pending = s.pending ∧ (s.setArb n x).free = s.free ∧ (s.setArb n x).clock = s.clock ∧
    (s.setArb n x).out = s.out ∧ (s.setArb n x).regs = s.regs ∧ (s.setArb n x).host = s.host ∧
    (s.setArb n x).time = s.time ∧ (s.setArb n x).maps = s.maps ∧ (s.setArb n x).mem = s.mem ∧
    (s.setArb n x).coh = s.coh ∧ (s.setArb n x).boot = s.boot ∧ (s.setArb n x).avail = s.avail ∧
    (s.setArb n x).sec = s.sec ∧ (s.setArb n x).net = s.net ∧ (s.setArb n x).ms = s.ms ∧ (s.setArb n x).cr = s.cr ∧
    (s.setArb n x).prot = s.prot ∧ (s.setArb n x).flash = s.flash ∧ (s.setArb n x).eng = s.eng ∧
    (s.setArb n x).pwr = s.pwr ∧ (s.setArb n x).isl = s.isl := by
  simp [State.setArb]

@[simp] theorem State.access_frame (s : State) (line : Nat) (write : Bool) (input : Nat) :
    (s.access line write input).pending = s.pending ∧ (s.access line write input).free = s.free ∧
    (s.access line write input).clock = s.clock ∧ (s.access line write input).out = s.out ∧
    (s.access line write input).regs = s.regs ∧ (s.access line write input).host = s.host ∧
    (s.access line write input).time = s.time ∧ (s.access line write input).maps = s.maps ∧
    (s.access line write input).mem = s.mem ∧ (s.access line write input).coh = s.coh ∧
    (s.access line write input).boot = s.boot ∧ (s.access line write input).avail = s.avail ∧
    (s.access line write input).sec = s.sec ∧ (s.access line write input).net = s.net ∧
    (s.access line write input).ms = s.ms ∧ (s.access line write input).cr = s.cr ∧
    (s.access line write input).prot = s.prot ∧ (s.access line write input).flash = s.flash ∧
    (s.access line write input).eng = s.eng ∧ (s.access line write input).pwr = s.pwr ∧
    (s.access line write input).isl = s.isl := by
  simp [State.access]

@[simp] theorem State.startUpdate_frame (s : State) (line : Nat) :
    (s.startUpdate line).pending = s.pending ∧ (s.startUpdate line).free = s.free ∧
    (s.startUpdate line).clock = s.clock ∧ (s.startUpdate line).out = s.out ∧ (s.startUpdate line).regs = s.regs ∧
    (s.startUpdate line).host = s.host ∧ (s.startUpdate line).time = s.time ∧ (s.startUpdate line).maps = s.maps ∧
    (s.startUpdate line).mem = s.mem ∧ (s.startUpdate line).coh = s.coh ∧ (s.startUpdate line).boot = s.boot ∧
    (s.startUpdate line).avail = s.avail ∧ (s.startUpdate line).sec = s.sec ∧ (s.startUpdate line).net = s.net ∧
    (s.startUpdate line).ms = s.ms ∧ (s.startUpdate line).cr = s.cr ∧ (s.startUpdate line).flash = s.flash ∧
    (s.startUpdate line).eng = s.eng ∧ (s.startUpdate line).pwr = s.pwr ∧ (s.startUpdate line).isl = s.isl := by
  simp [State.startUpdate]

@[simp] theorem State.mirrorPut_frame (s : State) (line : Nat) (d : LineData) (confirmed : Bool) :
    (s.mirrorPut line d confirmed).pending = s.pending ∧ (s.mirrorPut line d confirmed).free = s.free ∧
    (s.mirrorPut line d confirmed).clock = s.clock ∧ (s.mirrorPut line d confirmed).out = s.out ∧
    (s.mirrorPut line d confirmed).host = s.host ∧ (s.mirrorPut line d confirmed).time = s.time ∧
    (s.mirrorPut line d confirmed).maps = s.maps ∧ (s.mirrorPut line d confirmed).coh = s.coh ∧
    (s.mirrorPut line d confirmed).boot = s.boot ∧ (s.mirrorPut line d confirmed).avail = s.avail ∧
    (s.mirrorPut line d confirmed).sec = s.sec ∧ (s.mirrorPut line d confirmed).net = s.net ∧
    (s.mirrorPut line d confirmed).ms = s.ms ∧ (s.mirrorPut line d confirmed).cr = s.cr ∧
    (s.mirrorPut line d confirmed).flash = s.flash ∧ (s.mirrorPut line d confirmed).eng = s.eng ∧
    (s.mirrorPut line d confirmed).pwr = s.pwr ∧ (s.mirrorPut line d confirmed).isl = s.isl := by
  simp only [State.mirrorPut]
  repeat' (first | (simp; done) | split)

@[simp] theorem State.homeWrite_frame (s : State) (line : Nat) (d : LineData) (mask : BitVec 64) (confirmed : Bool) :
    (s.homeWrite line d mask confirmed).1.pending = s.pending ∧ (s.homeWrite line d mask confirmed).1.free = s.free ∧
    (s.homeWrite line d mask confirmed).1.clock = s.clock ∧ (s.homeWrite line d mask confirmed).1.host = s.host ∧
    (s.homeWrite line d mask confirmed).1.time = s.time ∧ (s.homeWrite line d mask confirmed).1.maps = s.maps ∧
    (s.homeWrite line d mask confirmed).1.coh = s.coh ∧ (s.homeWrite line d mask confirmed).1.boot = s.boot ∧
    (s.homeWrite line d mask confirmed).1.avail = s.avail ∧ (s.homeWrite line d mask confirmed).1.sec = s.sec ∧
    (s.homeWrite line d mask confirmed).1.net = s.net ∧ (s.homeWrite line d mask confirmed).1.ms = s.ms ∧
    (s.homeWrite line d mask confirmed).1.cr = s.cr ∧ (s.homeWrite line d mask confirmed).1.flash = s.flash ∧
    (s.homeWrite line d mask confirmed).1.eng = s.eng ∧ (s.homeWrite line d mask confirmed).1.pwr = s.pwr ∧
    (s.homeWrite line d mask confirmed).1.isl = s.isl := by
  simp only [State.homeWrite]
  repeat' (first | (simp; done) | split)

@[simp] theorem State.sendSignal_frame (s : State) (m : Signal) :
    (s.sendSignal m).pending = s.pending ∧ (s.sendSignal m).free = s.free ∧ (s.sendSignal m).clock = s.clock ∧
    (s.sendSignal m).time = s.time ∧ (s.sendSignal m).maps = s.maps ∧ (s.sendSignal m).mem = s.mem ∧
    (s.sendSignal m).coh = s.coh ∧ (s.sendSignal m).boot = s.boot ∧ (s.sendSignal m).avail = s.avail ∧
    (s.sendSignal m).sec = s.sec ∧ (s.sendSignal m).ms = s.ms ∧ (s.sendSignal m).cr = s.cr ∧
    (s.sendSignal m).prot = s.prot ∧ (s.sendSignal m).dram = s.dram ∧ (s.sendSignal m).flash = s.flash ∧
    (s.sendSignal m).eng = s.eng ∧ (s.sendSignal m).pwr = s.pwr ∧ (s.sendSignal m).isl = s.isl := by
  simp [State.sendSignal]

@[simp] theorem State.ackOrReply_frame (s : State) (line : Nat) (p : Pend) (a : Dat) (need : Bool × Bool × Bool) (after : List Signal) :
    (s.ackOrReply line p a need after).pending = s.pending ∧ (s.ackOrReply line p a need after).free = s.free ∧
    (s.ackOrReply line p a need after).clock = s.clock ∧ (s.ackOrReply line p a need after).time = s.time ∧
    (s.ackOrReply line p a need after).maps = s.maps ∧ (s.ackOrReply line p a need after).mem = s.mem ∧
    (s.ackOrReply line p a need after).boot = s.boot ∧ (s.ackOrReply line p a need after).avail = s.avail ∧
    (s.ackOrReply line p a need after).sec = s.sec ∧ (s.ackOrReply line p a need after).ms = s.ms ∧
    (s.ackOrReply line p a need after).cr = s.cr ∧ (s.ackOrReply line p a need after).prot = s.prot ∧
    (s.ackOrReply line p a need after).dram = s.dram ∧ (s.ackOrReply line p a need after).flash = s.flash ∧
    (s.ackOrReply line p a need after).eng = s.eng ∧ (s.ackOrReply line p a need after).pwr = s.pwr ∧
    (s.ackOrReply line p a need after).isl = s.isl := by
  simp [State.ackOrReply]

@[simp] theorem State.applyChange_frame (s : State) (p : Pend) :
    (s.applyChange p).pending = s.pending ∧ (s.applyChange p).clock = s.clock ∧ (s.applyChange p).time = s.time ∧
    (s.applyChange p).boot = s.boot ∧ (s.applyChange p).avail = s.avail ∧ (s.applyChange p).sec = s.sec ∧
    (s.applyChange p).ms = s.ms ∧ (s.applyChange p).cr = s.cr ∧ (s.applyChange p).flash = s.flash ∧
    (s.applyChange p).eng = s.eng ∧ (s.applyChange p).pwr = s.pwr ∧ (s.applyChange p).isl = s.isl := by
  simp only [State.applyChange]
  repeat' (first | (simp; done) | split)

@[simp] theorem State.writeBackHome_frame (s : State) (p : Pend) :
    (s.writeBackHome p).pending = s.pending ∧ (s.writeBackHome p).clock = s.clock ∧ (s.writeBackHome p).time = s.time ∧
    (s.writeBackHome p).boot = s.boot ∧ (s.writeBackHome p).avail = s.avail ∧ (s.writeBackHome p).sec = s.sec ∧
    (s.writeBackHome p).ms = s.ms ∧ (s.writeBackHome p).cr = s.cr ∧ (s.writeBackHome p).flash = s.flash ∧
    (s.writeBackHome p).eng = s.eng ∧ (s.writeBackHome p).pwr = s.pwr ∧ (s.writeBackHome p).isl = s.isl := by
  simp only [State.writeBackHome]
  repeat' (first | (simp; done) | split)

@[simp] theorem State.waitLine_frame (s : State) (line : Nat) (p : Pend) :
    (s.waitLine line p).pending = s.pending ∧ (s.waitLine line p).free = s.free ∧ (s.waitLine line p).clock = s.clock ∧
    (s.waitLine line p).out = s.out ∧ (s.waitLine line p).regs = s.regs ∧ (s.waitLine line p).host = s.host ∧
    (s.waitLine line p).time = s.time ∧ (s.waitLine line p).maps = s.maps ∧ (s.waitLine line p).mem = s.mem ∧
    (s.waitLine line p).boot = s.boot ∧ (s.waitLine line p).avail = s.avail ∧ (s.waitLine line p).sec = s.sec ∧
    (s.waitLine line p).net = s.net ∧ (s.waitLine line p).ms = s.ms ∧ (s.waitLine line p).cr = s.cr ∧
    (s.waitLine line p).prot = s.prot ∧ (s.waitLine line p).dram = s.dram ∧ (s.waitLine line p).flash = s.flash ∧
    (s.waitLine line p).eng = s.eng ∧ (s.waitLine line p).pwr = s.pwr ∧ (s.waitLine line p).isl = s.isl := by
  simp [State.waitLine]

@[simp] theorem State.copySpace_frame (s : State) (leader : Nat) (d : Nat) (data : Nat) :
    (s.copySpace leader d data).pending = s.pending ∧ (s.copySpace leader d data).free = s.free ∧
    (s.copySpace leader d data).clock = s.clock ∧ (s.copySpace leader d data).regs = s.regs ∧
    (s.copySpace leader d data).time = s.time ∧ (s.copySpace leader d data).maps = s.maps ∧
    (s.copySpace leader d data).mem = s.mem ∧ (s.copySpace leader d data).coh = s.coh ∧
    (s.copySpace leader d data).boot = s.boot ∧ (s.copySpace leader d data).avail = s.avail ∧
    (s.copySpace leader d data).sec = s.sec ∧ (s.copySpace leader d data).net = s.net ∧
    (s.copySpace leader d data).ms = s.ms ∧ (s.copySpace leader d data).cr = s.cr ∧
    (s.copySpace leader d data).prot = s.prot ∧ (s.copySpace leader d data).dram = s.dram ∧
    (s.copySpace leader d data).flash = s.flash ∧ (s.copySpace leader d data).eng = s.eng ∧
    (s.copySpace leader d data).pwr = s.pwr ∧ (s.copySpace leader d data).isl = s.isl := by
  simp [State.copySpace]

@[simp] theorem State.setDistrict_frame (s : State) (d : Nat) (x : District) :
    (s.setDistrict d x).pending = s.pending ∧ (s.setDistrict d x).free = s.free ∧ (s.setDistrict d x).clock = s.clock ∧
    (s.setDistrict d x).out = s.out ∧ (s.setDistrict d x).regs = s.regs ∧ (s.setDistrict d x).host = s.host ∧
    (s.setDistrict d x).time = s.time ∧ (s.setDistrict d x).mem = s.mem ∧ (s.setDistrict d x).coh = s.coh ∧
    (s.setDistrict d x).boot = s.boot ∧ (s.setDistrict d x).avail = s.avail ∧ (s.setDistrict d x).sec = s.sec ∧
    (s.setDistrict d x).net = s.net ∧ (s.setDistrict d x).ms = s.ms ∧ (s.setDistrict d x).cr = s.cr ∧
    (s.setDistrict d x).prot = s.prot ∧ (s.setDistrict d x).dram = s.dram ∧ (s.setDistrict d x).flash = s.flash ∧
    (s.setDistrict d x).eng = s.eng ∧ (s.setDistrict d x).pwr = s.pwr ∧ (s.setDistrict d x).isl = s.isl := by
  simp [State.setDistrict]

@[simp] theorem State.waitSpace_frame (s : State) (p : Pend) (tell : Bool) :
    (s.waitSpace p tell).pending = s.pending ∧ (s.waitSpace p tell).free = s.free ∧
    (s.waitSpace p tell).clock = s.clock ∧ (s.waitSpace p tell).time = s.time ∧ (s.waitSpace p tell).mem = s.mem ∧
    (s.waitSpace p tell).coh = s.coh ∧ (s.waitSpace p tell).boot = s.boot ∧ (s.waitSpace p tell).avail = s.avail ∧
    (s.waitSpace p tell).sec = s.sec ∧ (s.waitSpace p tell).net = s.net ∧ (s.waitSpace p tell).cr = s.cr ∧
    (s.waitSpace p tell).prot = s.prot ∧ (s.waitSpace p tell).dram = s.dram ∧ (s.waitSpace p tell).flash = s.flash ∧
    (s.waitSpace p tell).eng = s.eng ∧ (s.waitSpace p tell).pwr = s.pwr ∧ (s.waitSpace p tell).isl = s.isl := by
  simp only [State.waitSpace]
  repeat' (first | (simp; done) | split)

theorem State.allocRun_frame {s : State} {run colour st n : Nat} {t : State} (h : s.allocRun run colour st = some (n, t)) :
    t.pending = s.pending ∧ t.free = s.free ∧ t.clock = s.clock ∧ t.out = s.out ∧ t.regs = s.regs ∧ t.host = s.host ∧ t.time = s.time ∧
    t.mem = s.mem ∧ t.coh = s.coh ∧ t.boot = s.boot ∧ t.avail = s.avail ∧ t.sec = s.sec ∧ t.net = s.net ∧ t.ms = s.ms ∧ t.cr = s.cr ∧
    t.prot = s.prot ∧ t.dram = s.dram ∧ t.flash = s.flash ∧ t.eng = s.eng ∧ t.pwr = s.pwr ∧ t.isl = s.isl := by
  simp only [State.allocRun] at h
  repeat' split at h
  all_goals first | (cases h; done) | (cases h; simp)

@[simp] theorem State.writeMaps_frame (s : State) (d : Nat) (p : Nat) (slots : List Nat) (e : MapEnt) :
    (s.writeMaps d p slots e).pending = s.pending ∧ (s.writeMaps d p slots e).free = s.free ∧
    (s.writeMaps d p slots e).clock = s.clock ∧ (s.writeMaps d p slots e).out = s.out ∧
    (s.writeMaps d p slots e).regs = s.regs ∧ (s.writeMaps d p slots e).host = s.host ∧
    (s.writeMaps d p slots e).time = s.time ∧ (s.writeMaps d p slots e).maps = s.maps ∧
    (s.writeMaps d p slots e).mem = s.mem ∧ (s.writeMaps d p slots e).coh = s.coh ∧
    (s.writeMaps d p slots e).boot = s.boot ∧ (s.writeMaps d p slots e).avail = s.avail ∧
    (s.writeMaps d p slots e).sec = s.sec ∧ (s.writeMaps d p slots e).net = s.net ∧ (s.writeMaps d p slots e).cr = s.cr ∧
    (s.writeMaps d p slots e).prot = s.prot ∧ (s.writeMaps d p slots e).dram = s.dram ∧
    (s.writeMaps d p slots e).flash = s.flash ∧ (s.writeMaps d p slots e).eng = s.eng ∧
    (s.writeMaps d p slots e).pwr = s.pwr ∧ (s.writeMaps d p slots e).isl = s.isl := by
  simp [State.writeMaps]

@[simp] theorem State.checkCopyLevel_frame (s : State) (leader : Nat) (d : Nat) :
    (s.checkCopyLevel leader d).pending = s.pending ∧ (s.checkCopyLevel leader d).free = s.free ∧
    (s.checkCopyLevel leader d).clock = s.clock ∧ (s.checkCopyLevel leader d).regs = s.regs ∧
    (s.checkCopyLevel leader d).time = s.time ∧ (s.checkCopyLevel leader d).mem = s.mem ∧
    (s.checkCopyLevel leader d).coh = s.coh ∧ (s.checkCopyLevel leader d).boot = s.boot ∧
    (s.checkCopyLevel leader d).avail = s.avail ∧ (s.checkCopyLevel leader d).sec = s.sec ∧
    (s.checkCopyLevel leader d).net = s.net ∧ (s.checkCopyLevel leader d).ms = s.ms ∧
    (s.checkCopyLevel leader d).cr = s.cr ∧ (s.checkCopyLevel leader d).prot = s.prot ∧
    (s.checkCopyLevel leader d).dram = s.dram ∧ (s.checkCopyLevel leader d).flash = s.flash ∧
    (s.checkCopyLevel leader d).eng = s.eng ∧ (s.checkCopyLevel leader d).pwr = s.pwr ∧
    (s.checkCopyLevel leader d).isl = s.isl := by
  simp only [State.checkCopyLevel]
  repeat' (first | (simp; done) | split)

@[simp] theorem State.startCopy_frame (s : State) (p : Pend) (page : Nat) (frame : Nat) (slots : List Nat) :
    (s.startCopy p page frame slots).pending = s.pending ∧ (s.startCopy p page frame slots).free = s.free ∧
    (s.startCopy p page frame slots).clock = s.clock ∧ (s.startCopy p page frame slots).time = s.time ∧
    (s.startCopy p page frame slots).mem = s.mem ∧ (s.startCopy p page frame slots).coh = s.coh ∧
    (s.startCopy p page frame slots).boot = s.boot ∧ (s.startCopy p page frame slots).avail = s.avail ∧
    (s.startCopy p page frame slots).sec = s.sec ∧ (s.startCopy p page frame slots).net = s.net ∧
    (s.startCopy p page frame slots).cr = s.cr ∧ (s.startCopy p page frame slots).prot = s.prot ∧
    (s.startCopy p page frame slots).dram = s.dram ∧ (s.startCopy p page frame slots).flash = s.flash ∧
    (s.startCopy p page frame slots).eng = s.eng ∧ (s.startCopy p page frame slots).pwr = s.pwr ∧
    (s.startCopy p page frame slots).isl = s.isl := by
  simp only [State.startCopy]
  (repeat' apply And.intro) <;> repeat' (first | (simp; done) | (simp [State.allocRun_frame ‹State.allocRun _ _ _ _ = some _›]; done) |
    (simp [State.allocLoc_frame ‹State.allocLoc _ _ = some _›]; done) | split |
      refine (foldl_keeps _ _ _ _ (fun _ _ => ?_)).trans ?_ | simp)

@[simp] theorem State.sendRead_frame (s : State) (p : Pend) :
    (s.sendRead p).pending = s.pending ∧ (s.sendRead p).clock = s.clock ∧ (s.sendRead p).time = s.time ∧
    (s.sendRead p).maps = s.maps ∧ (s.sendRead p).mem = s.mem ∧ (s.sendRead p).boot = s.boot ∧
    (s.sendRead p).avail = s.avail ∧ (s.sendRead p).sec = s.sec ∧ (s.sendRead p).ms = s.ms ∧
    (s.sendRead p).cr = s.cr ∧ (s.sendRead p).prot = s.prot ∧ (s.sendRead p).dram = s.dram ∧
    (s.sendRead p).flash = s.flash ∧ (s.sendRead p).eng = s.eng ∧ (s.sendRead p).pwr = s.pwr ∧
    (s.sendRead p).isl = s.isl := by
  simp [State.sendRead]

@[simp] theorem State.trainRecall_frame (s : State) (line : Nat) (e : DirEntry) :
    (s.trainRecall line e).pending = s.pending ∧ (s.trainRecall line e).free = s.free ∧
    (s.trainRecall line e).clock = s.clock ∧ (s.trainRecall line e).out = s.out ∧ (s.trainRecall line e).regs = s.regs ∧
    (s.trainRecall line e).host = s.host ∧ (s.trainRecall line e).time = s.time ∧ (s.trainRecall line e).maps = s.maps ∧
    (s.trainRecall line e).mem = s.mem ∧ (s.trainRecall line e).boot = s.boot ∧ (s.trainRecall line e).avail = s.avail ∧
    (s.trainRecall line e).sec = s.sec ∧ (s.trainRecall line e).net = s.net ∧ (s.trainRecall line e).ms = s.ms ∧
    (s.trainRecall line e).cr = s.cr ∧ (s.trainRecall line e).prot = s.prot ∧ (s.trainRecall line e).dram = s.dram ∧
    (s.trainRecall line e).flash = s.flash ∧ (s.trainRecall line e).eng = s.eng ∧ (s.trainRecall line e).pwr = s.pwr ∧
    (s.trainRecall line e).isl = s.isl := by
  simp [State.trainRecall]

@[simp] theorem State.sendRcl_frame (s : State) (op : RclOp) (dst : Nat) (tag : Nat) (district : Nat) (line : Nat) :
    (s.sendRcl op dst tag district line).pending = s.pending ∧ (s.sendRcl op dst tag district line).free = s.free ∧
    (s.sendRcl op dst tag district line).clock = s.clock ∧ (s.sendRcl op dst tag district line).time = s.time ∧
    (s.sendRcl op dst tag district line).maps = s.maps ∧ (s.sendRcl op dst tag district line).mem = s.mem ∧
    (s.sendRcl op dst tag district line).coh = s.coh ∧ (s.sendRcl op dst tag district line).boot = s.boot ∧
    (s.sendRcl op dst tag district line).avail = s.avail ∧ (s.sendRcl op dst tag district line).sec = s.sec ∧
    (s.sendRcl op dst tag district line).ms = s.ms ∧ (s.sendRcl op dst tag district line).cr = s.cr ∧
    (s.sendRcl op dst tag district line).prot = s.prot ∧ (s.sendRcl op dst tag district line).dram = s.dram ∧
    (s.sendRcl op dst tag district line).flash = s.flash ∧ (s.sendRcl op dst tag district line).eng = s.eng ∧
    (s.sendRcl op dst tag district line).pwr = s.pwr ∧ (s.sendRcl op dst tag district line).isl = s.isl := by
  simp [State.sendRcl]

@[simp] theorem State.startRecall_frame (s : State) (line : Nat) (e : DirEntry) (kind : BusyKind) (op : RclOp) (targets : List Nat)
    (req : Option Pend) :
    (s.startRecall line e kind op targets req).pending = s.pending ∧ (s.startRecall line e kind op targets req).free = s.free ∧
    (s.startRecall line e kind op targets req).clock = s.clock ∧ (s.startRecall line e kind op targets req).time = s.time ∧
    (s.startRecall line e kind op targets req).maps = s.maps ∧ (s.startRecall line e kind op targets req).mem = s.mem ∧
    (s.startRecall line e kind op targets req).boot = s.boot ∧ (s.startRecall line e kind op targets req).avail = s.avail ∧
    (s.startRecall line e kind op targets req).sec = s.sec ∧ (s.startRecall line e kind op targets req).ms = s.ms ∧
    (s.startRecall line e kind op targets req).cr = s.cr ∧ (s.startRecall line e kind op targets req).prot = s.prot ∧
    (s.startRecall line e kind op targets req).dram = s.dram ∧ (s.startRecall line e kind op targets req).flash = s.flash ∧
    (s.startRecall line e kind op targets req).eng = s.eng ∧ (s.startRecall line e kind op targets req).pwr = s.pwr ∧
    (s.startRecall line e kind op targets req).isl = s.isl := by
  simp [State.startRecall]

@[simp] theorem State.unown_frame (s : State) (l : Nat) :
    (s.unown l).pending = s.pending ∧ (s.unown l).free = s.free ∧ (s.unown l).clock = s.clock ∧
    (s.unown l).out = s.out ∧ (s.unown l).regs = s.regs ∧ (s.unown l).host = s.host ∧ (s.unown l).time = s.time ∧
    (s.unown l).maps = s.maps ∧ (s.unown l).mem = s.mem ∧ (s.unown l).boot = s.boot ∧ (s.unown l).avail = s.avail ∧
    (s.unown l).sec = s.sec ∧ (s.unown l).net = s.net ∧ (s.unown l).ms = s.ms ∧ (s.unown l).cr = s.cr ∧
    (s.unown l).prot = s.prot ∧ (s.unown l).dram = s.dram ∧ (s.unown l).flash = s.flash ∧ (s.unown l).eng = s.eng ∧
    (s.unown l).pwr = s.pwr ∧ (s.unown l).isl = s.isl := by
  simp only [State.unown]
  repeat' (first | (simp; done) | split)

@[simp] theorem State.grantShared_frame (s : State) (p : Pend) :
    (s.grantShared p).pending = s.pending ∧ (s.grantShared p).clock = s.clock ∧ (s.grantShared p).time = s.time ∧
    (s.grantShared p).maps = s.maps ∧ (s.grantShared p).mem = s.mem ∧ (s.grantShared p).boot = s.boot ∧
    (s.grantShared p).avail = s.avail ∧ (s.grantShared p).sec = s.sec ∧ (s.grantShared p).ms = s.ms ∧
    (s.grantShared p).cr = s.cr ∧ (s.grantShared p).prot = s.prot ∧ (s.grantShared p).dram = s.dram ∧
    (s.grantShared p).flash = s.flash ∧ (s.grantShared p).eng = s.eng ∧ (s.grantShared p).pwr = s.pwr ∧
    (s.grantShared p).isl = s.isl := by
  simp only [State.grantShared]
  repeat' (first | (simp; done) | split)

@[simp] theorem State.grantOwned_frame (s : State) (p : Pend) (atom : Bool) :
    (s.grantOwned p atom).pending = s.pending ∧ (s.grantOwned p atom).clock = s.clock ∧
    (s.grantOwned p atom).time = s.time ∧ (s.grantOwned p atom).maps = s.maps ∧ (s.grantOwned p atom).mem = s.mem ∧
    (s.grantOwned p atom).boot = s.boot ∧ (s.grantOwned p atom).avail = s.avail ∧ (s.grantOwned p atom).sec = s.sec ∧
    (s.grantOwned p atom).ms = s.ms ∧ (s.grantOwned p atom).cr = s.cr ∧ (s.grantOwned p atom).prot = s.prot ∧
    (s.grantOwned p atom).dram = s.dram ∧ (s.grantOwned p atom).flash = s.flash ∧ (s.grantOwned p atom).eng = s.eng ∧
    (s.grantOwned p atom).pwr = s.pwr ∧ (s.grantOwned p atom).isl = s.isl := by
  simp [State.grantOwned]

@[simp] theorem State.evictFor_frame (s : State) (p : Pend) :
    (s.evictFor p).pending = s.pending ∧ (s.evictFor p).clock = s.clock ∧ (s.evictFor p).time = s.time ∧
    (s.evictFor p).maps = s.maps ∧ (s.evictFor p).mem = s.mem ∧ (s.evictFor p).boot = s.boot ∧
    (s.evictFor p).avail = s.avail ∧ (s.evictFor p).sec = s.sec ∧ (s.evictFor p).ms = s.ms ∧
    (s.evictFor p).cr = s.cr ∧ (s.evictFor p).prot = s.prot ∧ (s.evictFor p).dram = s.dram ∧
    (s.evictFor p).flash = s.flash ∧ (s.evictFor p).eng = s.eng ∧ (s.evictFor p).pwr = s.pwr ∧
    (s.evictFor p).isl = s.isl := by
  simp only [State.evictFor]
  repeat' (first | (simp; done) | split)

@[simp] theorem State.serve_frame (s : State) (p : Pend) :
    (s.serve p).pending = s.pending ∧ (s.serve p).clock = s.clock ∧ (s.serve p).time = s.time ∧
    (s.serve p).boot = s.boot ∧ (s.serve p).avail = s.avail ∧ (s.serve p).sec = s.sec ∧ (s.serve p).ms = s.ms ∧
    (s.serve p).cr = s.cr ∧ (s.serve p).flash = s.flash ∧ (s.serve p).eng = s.eng ∧ (s.serve p).pwr = s.pwr ∧
    (s.serve p).isl = s.isl := by
  simp only [State.serve]
  repeat' (first | (simp; done) | split)

@[simp] theorem State.atHome_frame (s : State) (p : Pend) :
    (s.atHome p).pending = s.pending ∧ (s.atHome p).clock = s.clock ∧ (s.atHome p).time = s.time ∧
    (s.atHome p).boot = s.boot ∧ (s.atHome p).avail = s.avail ∧ (s.atHome p).sec = s.sec ∧ (s.atHome p).cr = s.cr ∧
    (s.atHome p).flash = s.flash ∧ (s.atHome p).eng = s.eng ∧ (s.atHome p).pwr = s.pwr ∧
    (s.atHome p).isl = s.isl := by
  simp [State.atHome]

@[simp] theorem State.takeWaits_frame (s : State) (line : Nat) :
    (s.takeWaits line).1.pending = s.pending ∧ (s.takeWaits line).1.free = s.free ∧
    (s.takeWaits line).1.clock = s.clock ∧ (s.takeWaits line).1.out = s.out ∧ (s.takeWaits line).1.regs = s.regs ∧
    (s.takeWaits line).1.host = s.host ∧ (s.takeWaits line).1.time = s.time ∧ (s.takeWaits line).1.maps = s.maps ∧
    (s.takeWaits line).1.mem = s.mem ∧ (s.takeWaits line).1.boot = s.boot ∧ (s.takeWaits line).1.avail = s.avail ∧
    (s.takeWaits line).1.sec = s.sec ∧ (s.takeWaits line).1.net = s.net ∧ (s.takeWaits line).1.ms = s.ms ∧
    (s.takeWaits line).1.cr = s.cr ∧ (s.takeWaits line).1.prot = s.prot ∧ (s.takeWaits line).1.dram = s.dram ∧
    (s.takeWaits line).1.flash = s.flash ∧ (s.takeWaits line).1.eng = s.eng ∧ (s.takeWaits line).1.pwr = s.pwr ∧
    (s.takeWaits line).1.isl = s.isl := by
  simp [State.takeWaits]

@[simp] theorem State.atHomeAll_frame (s : State) (ps : List Pend) :
    (s.atHomeAll ps).pending = s.pending ∧ (s.atHomeAll ps).clock = s.clock ∧ (s.atHomeAll ps).time = s.time ∧
    (s.atHomeAll ps).boot = s.boot ∧ (s.atHomeAll ps).avail = s.avail ∧ (s.atHomeAll ps).sec = s.sec ∧
    (s.atHomeAll ps).cr = s.cr ∧ (s.atHomeAll ps).flash = s.flash ∧ (s.atHomeAll ps).eng = s.eng ∧
    (s.atHomeAll ps).pwr = s.pwr ∧ (s.atHomeAll ps).isl = s.isl := by
  simp [State.atHomeAll]

@[simp] theorem State.keepEntry_frame (s : State) (line : Nat) (e : DirEntry) (k : BusyKind) :
    (s.keepEntry line e k).pending = s.pending ∧ (s.keepEntry line e k).free = s.free ∧ (s.keepEntry line e k).clock = s.clock ∧
    (s.keepEntry line e k).out = s.out ∧ (s.keepEntry line e k).regs = s.regs ∧ (s.keepEntry line e k).host = s.host ∧
    (s.keepEntry line e k).time = s.time ∧ (s.keepEntry line e k).maps = s.maps ∧ (s.keepEntry line e k).mem = s.mem ∧
    (s.keepEntry line e k).boot = s.boot ∧ (s.keepEntry line e k).avail = s.avail ∧ (s.keepEntry line e k).sec = s.sec ∧
    (s.keepEntry line e k).net = s.net ∧ (s.keepEntry line e k).ms = s.ms ∧ (s.keepEntry line e k).cr = s.cr ∧
    (s.keepEntry line e k).prot = s.prot ∧ (s.keepEntry line e k).dram = s.dram ∧ (s.keepEntry line e k).flash = s.flash ∧
    (s.keepEntry line e k).eng = s.eng ∧ (s.keepEntry line e k).pwr = s.pwr ∧ (s.keepEntry line e k).isl = s.isl := by
  simp only [State.keepEntry]
  repeat' (first | (simp; done) | split)

@[simp] theorem State.completeBusy_frame (s : State) (line : Nat) :
    (s.completeBusy line).pending = s.pending ∧ (s.completeBusy line).clock = s.clock ∧
    (s.completeBusy line).time = s.time ∧ (s.completeBusy line).boot = s.boot ∧ (s.completeBusy line).avail = s.avail ∧
    (s.completeBusy line).sec = s.sec ∧ (s.completeBusy line).cr = s.cr ∧ (s.completeBusy line).flash = s.flash ∧
    (s.completeBusy line).eng = s.eng ∧ (s.completeBusy line).pwr = s.pwr ∧ (s.completeBusy line).isl = s.isl := by
  simp only [State.completeBusy]
  repeat' (first | (simp; done) | split)

@[simp] theorem State.settleBusy_frame (s : State) :
    s.settleBusy.pending = s.pending ∧ s.settleBusy.clock = s.clock ∧ s.settleBusy.time = s.time ∧
    s.settleBusy.boot = s.boot ∧ s.settleBusy.avail = s.avail ∧ s.settleBusy.sec = s.sec ∧
    s.settleBusy.cr = s.cr ∧ s.settleBusy.flash = s.flash ∧ s.settleBusy.eng = s.eng ∧
    s.settleBusy.pwr = s.pwr ∧ s.settleBusy.isl = s.isl := by
  simp [State.settleBusy]

@[simp] theorem State.takeRx_frame (s : State) (port : Nat) (cls : Nat) (src : Nat) :
    (s.takeRx port cls src).pending = s.pending ∧ (s.takeRx port cls src).free = s.free ∧
    (s.takeRx port cls src).clock = s.clock ∧ (s.takeRx port cls src).out = s.out ∧
    (s.takeRx port cls src).regs = s.regs ∧ (s.takeRx port cls src).host = s.host ∧
    (s.takeRx port cls src).time = s.time ∧ (s.takeRx port cls src).maps = s.maps ∧ (s.takeRx port cls src).mem = s.mem ∧
    (s.takeRx port cls src).coh = s.coh ∧ (s.takeRx port cls src).boot = s.boot ∧
    (s.takeRx port cls src).avail = s.avail ∧ (s.takeRx port cls src).sec = s.sec ∧ (s.takeRx port cls src).ms = s.ms ∧
    (s.takeRx port cls src).cr = s.cr ∧ (s.takeRx port cls src).prot = s.prot ∧ (s.takeRx port cls src).dram = s.dram ∧
    (s.takeRx port cls src).flash = s.flash ∧ (s.takeRx port cls src).eng = s.eng ∧ (s.takeRx port cls src).pwr = s.pwr ∧
    (s.takeRx port cls src).isl = s.isl := by
  simp only [State.takeRx]
  repeat' (first | (simp; done) | split)

@[simp] theorem State.arrive_pending (s : State) (port : Nat) (r : Req) (op : ReqOp) (len : Nat) (wf : Bool) (kinds : List Nat)
    (perm : Window → Bool)
    (go : State → Pend → Window → State) (h : ∀ s p w, (go s p w).pending = s.pending) :
    (s.arrive port r op len wf kinds perm go).pending = s.pending := by
  simp only [State.arrive]
  repeat' (first | (simp [h]; done) | split | simp [h])
@[simp] theorem State.arrive_clock (s : State) (port : Nat) (r : Req) (op : ReqOp) (len : Nat) (wf : Bool) (kinds : List Nat)
    (perm : Window → Bool)
    (go : State → Pend → Window → State) (h : ∀ s p w, (go s p w).clock = s.clock) :
    (s.arrive port r op len wf kinds perm go).clock = s.clock := by
  simp only [State.arrive]
  repeat' (first | (simp [h]; done) | split | simp [h])
@[simp] theorem State.arrive_time (s : State) (port : Nat) (r : Req) (op : ReqOp) (len : Nat) (wf : Bool) (kinds : List Nat)
    (perm : Window → Bool)
    (go : State → Pend → Window → State) (h : ∀ s p w, (go s p w).time = s.time) :
    (s.arrive port r op len wf kinds perm go).time = s.time := by
  simp only [State.arrive]
  repeat' (first | (simp [h]; done) | split | simp [h])
@[simp] theorem State.arrive_maps (s : State) (port : Nat) (r : Req) (op : ReqOp) (len : Nat) (wf : Bool) (kinds : List Nat)
    (perm : Window → Bool)
    (go : State → Pend → Window → State) (h : ∀ s p w, (go s p w).maps = s.maps) :
    (s.arrive port r op len wf kinds perm go).maps = s.maps := by
  simp only [State.arrive]
  repeat' (first | (simp [h]; done) | split | simp [h])
@[simp] theorem State.arrive_mem (s : State) (port : Nat) (r : Req) (op : ReqOp) (len : Nat) (wf : Bool) (kinds : List Nat)
    (perm : Window → Bool)
    (go : State → Pend → Window → State) (h : ∀ s p w, (go s p w).mem = s.mem) : (s.arrive port r op len wf kinds perm go).mem = s.mem := by
  simp only [State.arrive]
  repeat' (first | (simp [h]; done) | split | simp [h])
@[simp] theorem State.arrive_boot (s : State) (port : Nat) (r : Req) (op : ReqOp) (len : Nat) (wf : Bool) (kinds : List Nat)
    (perm : Window → Bool)
    (go : State → Pend → Window → State) (h : ∀ s p w, (go s p w).boot = s.boot) :
    (s.arrive port r op len wf kinds perm go).boot = s.boot := by
  simp only [State.arrive]
  repeat' (first | (simp [h]; done) | split | simp [h])
@[simp] theorem State.arrive_avail (s : State) (port : Nat) (r : Req) (op : ReqOp) (len : Nat) (wf : Bool) (kinds : List Nat)
    (perm : Window → Bool)
    (go : State → Pend → Window → State) (h : ∀ s p w, (go s p w).avail = s.avail) :
    (s.arrive port r op len wf kinds perm go).avail = s.avail := by
  simp only [State.arrive]
  repeat' (first | (simp [h]; done) | split | simp [h])
@[simp] theorem State.arrive_sec (s : State) (port : Nat) (r : Req) (op : ReqOp) (len : Nat) (wf : Bool) (kinds : List Nat)
    (perm : Window → Bool)
    (go : State → Pend → Window → State) (h : ∀ s p w, (go s p w).sec = s.sec) : (s.arrive port r op len wf kinds perm go).sec = s.sec := by
  simp only [State.arrive]
  repeat' (first | (simp [h]; done) | split | simp [h])
@[simp] theorem State.arrive_ms (s : State) (port : Nat) (r : Req) (op : ReqOp) (len : Nat) (wf : Bool) (kinds : List Nat)
    (perm : Window → Bool)
    (go : State → Pend → Window → State) (h : ∀ s p w, (go s p w).ms = s.ms) : (s.arrive port r op len wf kinds perm go).ms = s.ms := by
  simp only [State.arrive]
  repeat' (first | (simp [h]; done) | split | simp [h])
@[simp] theorem State.arrive_cr (s : State) (port : Nat) (r : Req) (op : ReqOp) (len : Nat) (wf : Bool) (kinds : List Nat)
    (perm : Window → Bool)
    (go : State → Pend → Window → State) (h : ∀ s p w, (go s p w).cr = s.cr) : (s.arrive port r op len wf kinds perm go).cr = s.cr := by
  simp only [State.arrive]
  repeat' (first | (simp [h]; done) | split | simp [h])
@[simp] theorem State.arrive_prot (s : State) (port : Nat) (r : Req) (op : ReqOp) (len : Nat) (wf : Bool) (kinds : List Nat)
    (perm : Window → Bool)
    (go : State → Pend → Window → State) (h : ∀ s p w, (go s p w).prot = s.prot) :
    (s.arrive port r op len wf kinds perm go).prot = s.prot := by
  simp only [State.arrive]
  repeat' (first | (simp [h]; done) | split | simp [h])
@[simp] theorem State.arrive_dram (s : State) (port : Nat) (r : Req) (op : ReqOp) (len : Nat) (wf : Bool) (kinds : List Nat)
    (perm : Window → Bool)
    (go : State → Pend → Window → State) (h : ∀ s p w, (go s p w).dram = s.dram) :
    (s.arrive port r op len wf kinds perm go).dram = s.dram := by
  simp only [State.arrive]
  repeat' (first | (simp [h]; done) | split | simp [h])
@[simp] theorem State.arrive_flash (s : State) (port : Nat) (r : Req) (op : ReqOp) (len : Nat) (wf : Bool) (kinds : List Nat)
    (perm : Window → Bool)
    (go : State → Pend → Window → State) (h : ∀ s p w, (go s p w).flash = s.flash) :
    (s.arrive port r op len wf kinds perm go).flash = s.flash := by
  simp only [State.arrive]
  repeat' (first | (simp [h]; done) | split | simp [h])
@[simp] theorem State.arrive_eng (s : State) (port : Nat) (r : Req) (op : ReqOp) (len : Nat) (wf : Bool) (kinds : List Nat)
    (perm : Window → Bool)
    (go : State → Pend → Window → State) (h : ∀ s p w, (go s p w).eng = s.eng) : (s.arrive port r op len wf kinds perm go).eng = s.eng := by
  simp only [State.arrive]
  repeat' (first | (simp [h]; done) | split | simp [h])
@[simp] theorem State.arrive_pwr (s : State) (port : Nat) (r : Req) (op : ReqOp) (len : Nat) (wf : Bool) (kinds : List Nat)
    (perm : Window → Bool)
    (go : State → Pend → Window → State) (h : ∀ s p w, (go s p w).pwr = s.pwr) : (s.arrive port r op len wf kinds perm go).pwr = s.pwr := by
  simp only [State.arrive]
  repeat' (first | (simp [h]; done) | split | simp [h])
@[simp] theorem State.arrive_isl (s : State) (port : Nat) (r : Req) (op : ReqOp) (len : Nat) (wf : Bool) (kinds : List Nat)
    (perm : Window → Bool)
    (go : State → Pend → Window → State) (h : ∀ s p w, (go s p w).isl = s.isl) : (s.arrive port r op len wf kinds perm go).isl = s.isl := by
  simp only [State.arrive]
  repeat' (first | (simp [h]; done) | split | simp [h])

@[simp] theorem State.retry_frame (s : State) (p : Pend) (reason : Nat) :
    (s.retry p reason).pending = s.pending ∧ (s.retry p reason).clock = s.clock ∧ (s.retry p reason).time = s.time ∧
    (s.retry p reason).maps = s.maps ∧ (s.retry p reason).mem = s.mem ∧ (s.retry p reason).boot = s.boot ∧
    (s.retry p reason).avail = s.avail ∧ (s.retry p reason).sec = s.sec ∧ (s.retry p reason).ms = s.ms ∧
    (s.retry p reason).cr = s.cr ∧ (s.retry p reason).prot = s.prot ∧ (s.retry p reason).dram = s.dram ∧
    (s.retry p reason).flash = s.flash ∧ (s.retry p reason).eng = s.eng ∧ (s.retry p reason).pwr = s.pwr ∧
    (s.retry p reason).isl = s.isl := by
  simp [State.retry]

@[simp] theorem State.enter_frame (s : State) (p : Pend) :
    (s.enter p).pending = s.pending ∧ (s.enter p).free = s.free ∧ (s.enter p).clock = s.clock ∧
    (s.enter p).out = s.out ∧ (s.enter p).regs = s.regs ∧ (s.enter p).host = s.host ∧ (s.enter p).time = s.time ∧
    (s.enter p).maps = s.maps ∧ (s.enter p).mem = s.mem ∧ (s.enter p).boot = s.boot ∧ (s.enter p).avail = s.avail ∧
    (s.enter p).sec = s.sec ∧ (s.enter p).net = s.net ∧ (s.enter p).ms = s.ms ∧ (s.enter p).cr = s.cr ∧
    (s.enter p).prot = s.prot ∧ (s.enter p).dram = s.dram ∧ (s.enter p).flash = s.flash ∧ (s.enter p).eng = s.eng ∧
    (s.enter p).pwr = s.pwr ∧ (s.enter p).isl = s.isl := by
  simp [State.enter]

@[simp] theorem State.grantTracker_frame (s : State) (p : Pend) :
    (s.grantTracker p).pending = s.pending ∧ (s.grantTracker p).free = s.free ∧ (s.grantTracker p).clock = s.clock ∧
    (s.grantTracker p).out = s.out ∧ (s.grantTracker p).regs = s.regs ∧ (s.grantTracker p).host = s.host ∧
    (s.grantTracker p).time = s.time ∧ (s.grantTracker p).maps = s.maps ∧ (s.grantTracker p).mem = s.mem ∧
    (s.grantTracker p).boot = s.boot ∧ (s.grantTracker p).avail = s.avail ∧ (s.grantTracker p).sec = s.sec ∧
    (s.grantTracker p).net = s.net ∧ (s.grantTracker p).ms = s.ms ∧ (s.grantTracker p).cr = s.cr ∧
    (s.grantTracker p).prot = s.prot ∧ (s.grantTracker p).dram = s.dram ∧ (s.grantTracker p).flash = s.flash ∧
    (s.grantTracker p).eng = s.eng ∧ (s.grantTracker p).pwr = s.pwr ∧ (s.grantTracker p).isl = s.isl := by
  simp [State.grantTracker]

@[simp] theorem State.take_pending (s : State) (p : Pend) (go : State → Pend → State) (h : ∀ s p, (go s p).pending = s.pending) :
    (s.take p go).pending = s.pending := by
  simp only [State.take]
  repeat' (first | (simp [h]; done) | split | simp [h])
@[simp] theorem State.take_clock (s : State) (p : Pend) (go : State → Pend → State) (h : ∀ s p, (go s p).clock = s.clock) :
    (s.take p go).clock = s.clock := by
  simp only [State.take]
  repeat' (first | (simp [h]; done) | split | simp [h])
@[simp] theorem State.take_time (s : State) (p : Pend) (go : State → Pend → State) (h : ∀ s p, (go s p).time = s.time) :
    (s.take p go).time = s.time := by
  simp only [State.take]
  repeat' (first | (simp [h]; done) | split | simp [h])
@[simp] theorem State.take_maps (s : State) (p : Pend) (go : State → Pend → State) (h : ∀ s p, (go s p).maps = s.maps) :
    (s.take p go).maps = s.maps := by
  simp only [State.take]
  repeat' (first | (simp [h]; done) | split | simp [h])
@[simp] theorem State.take_mem (s : State) (p : Pend) (go : State → Pend → State) (h : ∀ s p, (go s p).mem = s.mem) :
    (s.take p go).mem = s.mem := by
  simp only [State.take]
  repeat' (first | (simp [h]; done) | split | simp [h])
@[simp] theorem State.take_boot (s : State) (p : Pend) (go : State → Pend → State) (h : ∀ s p, (go s p).boot = s.boot) :
    (s.take p go).boot = s.boot := by
  simp only [State.take]
  repeat' (first | (simp [h]; done) | split | simp [h])
@[simp] theorem State.take_avail (s : State) (p : Pend) (go : State → Pend → State) (h : ∀ s p, (go s p).avail = s.avail) :
    (s.take p go).avail = s.avail := by
  simp only [State.take]
  repeat' (first | (simp [h]; done) | split | simp [h])
@[simp] theorem State.take_sec (s : State) (p : Pend) (go : State → Pend → State) (h : ∀ s p, (go s p).sec = s.sec) :
    (s.take p go).sec = s.sec := by
  simp only [State.take]
  repeat' (first | (simp [h]; done) | split | simp [h])
@[simp] theorem State.take_ms (s : State) (p : Pend) (go : State → Pend → State) (h : ∀ s p, (go s p).ms = s.ms) :
    (s.take p go).ms = s.ms := by
  simp only [State.take]
  repeat' (first | (simp [h]; done) | split | simp [h])
@[simp] theorem State.take_cr (s : State) (p : Pend) (go : State → Pend → State) (h : ∀ s p, (go s p).cr = s.cr) :
    (s.take p go).cr = s.cr := by
  simp only [State.take]
  repeat' (first | (simp [h]; done) | split | simp [h])
@[simp] theorem State.take_prot (s : State) (p : Pend) (go : State → Pend → State) (h : ∀ s p, (go s p).prot = s.prot) :
    (s.take p go).prot = s.prot := by
  simp only [State.take]
  repeat' (first | (simp [h]; done) | split | simp [h])
@[simp] theorem State.take_dram (s : State) (p : Pend) (go : State → Pend → State) (h : ∀ s p, (go s p).dram = s.dram) :
    (s.take p go).dram = s.dram := by
  simp only [State.take]
  repeat' (first | (simp [h]; done) | split | simp [h])
@[simp] theorem State.take_flash (s : State) (p : Pend) (go : State → Pend → State) (h : ∀ s p, (go s p).flash = s.flash) :
    (s.take p go).flash = s.flash := by
  simp only [State.take]
  repeat' (first | (simp [h]; done) | split | simp [h])
@[simp] theorem State.take_eng (s : State) (p : Pend) (go : State → Pend → State) (h : ∀ s p, (go s p).eng = s.eng) :
    (s.take p go).eng = s.eng := by
  simp only [State.take]
  repeat' (first | (simp [h]; done) | split | simp [h])
@[simp] theorem State.take_pwr (s : State) (p : Pend) (go : State → Pend → State) (h : ∀ s p, (go s p).pwr = s.pwr) :
    (s.take p go).pwr = s.pwr := by
  simp only [State.take]
  repeat' (first | (simp [h]; done) | split | simp [h])
@[simp] theorem State.take_isl (s : State) (p : Pend) (go : State → Pend → State) (h : ∀ s p, (go s p).isl = s.isl) :
    (s.take p go).isl = s.isl := by
  simp only [State.take]
  repeat' (first | (simp [h]; done) | split | simp [h])

@[simp] theorem State.setFill_frame (s : State) (f : FillRec) :
    (s.setFill f).pending = s.pending ∧ (s.setFill f).free = s.free ∧ (s.setFill f).clock = s.clock ∧
    (s.setFill f).out = s.out ∧ (s.setFill f).regs = s.regs ∧ (s.setFill f).host = s.host ∧
    (s.setFill f).time = s.time ∧ (s.setFill f).maps = s.maps ∧ (s.setFill f).mem = s.mem ∧
    (s.setFill f).coh = s.coh ∧ (s.setFill f).boot = s.boot ∧ (s.setFill f).avail = s.avail ∧
    (s.setFill f).sec = s.sec ∧ (s.setFill f).net = s.net ∧ (s.setFill f).ms = s.ms ∧ (s.setFill f).cr = s.cr ∧
    (s.setFill f).prot = s.prot ∧ (s.setFill f).dram = s.dram ∧ (s.setFill f).eng = s.eng ∧
    (s.setFill f).pwr = s.pwr ∧ (s.setFill f).isl = s.isl := by
  simp [State.setFill]

@[simp] theorem State.nvmeIssue_frame (s : State) (g : Group) (op : Nat) (d : Nat) (page : Nat) (x5 : List (Nat × Nat)) :
    (s.nvmeIssue g op d page x5).1.pending = s.pending ∧ (s.nvmeIssue g op d page x5).1.free = s.free ∧
    (s.nvmeIssue g op d page x5).1.clock = s.clock ∧ (s.nvmeIssue g op d page x5).1.regs = s.regs ∧
    (s.nvmeIssue g op d page x5).1.host = s.host ∧ (s.nvmeIssue g op d page x5).1.time = s.time ∧
    (s.nvmeIssue g op d page x5).1.maps = s.maps ∧ (s.nvmeIssue g op d page x5).1.mem = s.mem ∧
    (s.nvmeIssue g op d page x5).1.coh = s.coh ∧ (s.nvmeIssue g op d page x5).1.boot = s.boot ∧
    (s.nvmeIssue g op d page x5).1.avail = s.avail ∧ (s.nvmeIssue g op d page x5).1.sec = s.sec ∧
    (s.nvmeIssue g op d page x5).1.net = s.net ∧ (s.nvmeIssue g op d page x5).1.ms = s.ms ∧
    (s.nvmeIssue g op d page x5).1.cr = s.cr ∧ (s.nvmeIssue g op d page x5).1.prot = s.prot ∧
    (s.nvmeIssue g op d page x5).1.dram = s.dram ∧ (s.nvmeIssue g op d page x5).1.eng = s.eng ∧
    (s.nvmeIssue g op d page x5).1.pwr = s.pwr ∧ (s.nvmeIssue g op d page x5).1.isl = s.isl := by
  induction x5 generalizing s with
  | nil => simp [State.nvmeIssue]
  | cons a l ih =>
    simp only [State.nvmeIssue]
    repeat' (first | (simp [ih]; done) | split)

@[simp] theorem State.tryFill_frame (s : State) (f : FillRec) :
    (s.tryFill f).pending = s.pending ∧ (s.tryFill f).free = s.free ∧ (s.tryFill f).clock = s.clock ∧
    (s.tryFill f).regs = s.regs ∧ (s.tryFill f).host = s.host ∧ (s.tryFill f).time = s.time ∧
    (s.tryFill f).mem = s.mem ∧ (s.tryFill f).coh = s.coh ∧ (s.tryFill f).boot = s.boot ∧
    (s.tryFill f).avail = s.avail ∧ (s.tryFill f).sec = s.sec ∧ (s.tryFill f).net = s.net ∧
    (s.tryFill f).ms = s.ms ∧ (s.tryFill f).cr = s.cr ∧ (s.tryFill f).prot = s.prot ∧ (s.tryFill f).dram = s.dram ∧
    (s.tryFill f).eng = s.eng ∧ (s.tryFill f).pwr = s.pwr ∧ (s.tryFill f).isl = s.isl := by
  simp only [State.tryFill]
  (repeat' apply And.intro) <;> repeat' (first | (simp; done) | (simp [State.allocRun_frame ‹State.allocRun _ _ _ _ = some _›]; done) |
    (simp [State.allocLoc_frame ‹State.allocLoc _ _ = some _›]; done) | split |
      refine (foldl_keeps _ _ _ _ (fun _ _ => ?_)).trans ?_ | simp)

@[simp] theorem State.joinFill_frame (s : State) (d : Nat) (page : Nat) (loc : Nat) (waiting : List Pend) :
    (s.joinFill d page loc waiting).pending = s.pending ∧ (s.joinFill d page loc waiting).free = s.free ∧
    (s.joinFill d page loc waiting).clock = s.clock ∧ (s.joinFill d page loc waiting).regs = s.regs ∧
    (s.joinFill d page loc waiting).host = s.host ∧ (s.joinFill d page loc waiting).time = s.time ∧
    (s.joinFill d page loc waiting).mem = s.mem ∧ (s.joinFill d page loc waiting).coh = s.coh ∧
    (s.joinFill d page loc waiting).boot = s.boot ∧ (s.joinFill d page loc waiting).avail = s.avail ∧
    (s.joinFill d page loc waiting).sec = s.sec ∧ (s.joinFill d page loc waiting).net = s.net ∧
    (s.joinFill d page loc waiting).ms = s.ms ∧ (s.joinFill d page loc waiting).cr = s.cr ∧
    (s.joinFill d page loc waiting).prot = s.prot ∧ (s.joinFill d page loc waiting).dram = s.dram ∧
    (s.joinFill d page loc waiting).eng = s.eng ∧ (s.joinFill d page loc waiting).pwr = s.pwr ∧
    (s.joinFill d page loc waiting).isl = s.isl := by
  simp only [State.joinFill]
  repeat' (first | (simp; done) | split)

@[simp] theorem State.setGroup_frame (s : State) (g : Nat) (x : Group) :
    (s.setGroup g x).pending = s.pending ∧ (s.setGroup g x).free = s.free ∧ (s.setGroup g x).clock = s.clock ∧
    (s.setGroup g x).out = s.out ∧ (s.setGroup g x).regs = s.regs ∧ (s.setGroup g x).host = s.host ∧
    (s.setGroup g x).time = s.time ∧ (s.setGroup g x).maps = s.maps ∧ (s.setGroup g x).mem = s.mem ∧
    (s.setGroup g x).coh = s.coh ∧ (s.setGroup g x).boot = s.boot ∧ (s.setGroup g x).avail = s.avail ∧
    (s.setGroup g x).sec = s.sec ∧ (s.setGroup g x).net = s.net ∧ (s.setGroup g x).ms = s.ms ∧
    (s.setGroup g x).cr = s.cr ∧ (s.setGroup g x).prot = s.prot ∧ (s.setGroup g x).dram = s.dram ∧
    (s.setGroup g x).eng = s.eng ∧ (s.setGroup g x).pwr = s.pwr ∧ (s.setGroup g x).isl = s.isl := by
  simp [State.setGroup]

@[simp] theorem State.abandonDemotion_frame (s : State) (d : Nat) (page : Nat) :
    (s.abandonDemotion d page).pending = s.pending ∧ (s.abandonDemotion d page).free = s.free ∧
    (s.abandonDemotion d page).clock = s.clock ∧ (s.abandonDemotion d page).out = s.out ∧
    (s.abandonDemotion d page).regs = s.regs ∧ (s.abandonDemotion d page).host = s.host ∧
    (s.abandonDemotion d page).time = s.time ∧ (s.abandonDemotion d page).maps = s.maps ∧
    (s.abandonDemotion d page).mem = s.mem ∧ (s.abandonDemotion d page).coh = s.coh ∧
    (s.abandonDemotion d page).boot = s.boot ∧ (s.abandonDemotion d page).avail = s.avail ∧
    (s.abandonDemotion d page).sec = s.sec ∧ (s.abandonDemotion d page).net = s.net ∧
    (s.abandonDemotion d page).ms = s.ms ∧ (s.abandonDemotion d page).cr = s.cr ∧
    (s.abandonDemotion d page).prot = s.prot ∧ (s.abandonDemotion d page).dram = s.dram ∧
    (s.abandonDemotion d page).eng = s.eng ∧ (s.abandonDemotion d page).pwr = s.pwr ∧
    (s.abandonDemotion d page).isl = s.isl := by
  simp only [State.abandonDemotion]
  repeat' (first | (simp; done) | split)

@[simp] theorem State.sendEarly_frame (s : State) (p : Pend) :
    (s.sendEarly p).pending = s.pending ∧ (s.sendEarly p).free = s.free ∧ (s.sendEarly p).clock = s.clock ∧
    (s.sendEarly p).time = s.time ∧ (s.sendEarly p).maps = s.maps ∧ (s.sendEarly p).mem = s.mem ∧
    (s.sendEarly p).boot = s.boot ∧ (s.sendEarly p).avail = s.avail ∧ (s.sendEarly p).sec = s.sec ∧
    (s.sendEarly p).ms = s.ms ∧ (s.sendEarly p).cr = s.cr ∧ (s.sendEarly p).prot = s.prot ∧
    (s.sendEarly p).dram = s.dram ∧ (s.sendEarly p).flash = s.flash ∧ (s.sendEarly p).eng = s.eng ∧
    (s.sendEarly p).pwr = s.pwr ∧ (s.sendEarly p).isl = s.isl := by
  simp [State.sendEarly]

@[simp] theorem State.decideAny_frame (s : State) (p : Pend) :
    (s.decideAny p).1.pending = s.pending ∧ (s.decideAny p).1.free = s.free ∧ (s.decideAny p).1.clock = s.clock ∧
    (s.decideAny p).1.out = s.out ∧ (s.decideAny p).1.regs = s.regs ∧ (s.decideAny p).1.host = s.host ∧
    (s.decideAny p).1.time = s.time ∧ (s.decideAny p).1.maps = s.maps ∧ (s.decideAny p).1.mem = s.mem ∧
    (s.decideAny p).1.boot = s.boot ∧ (s.decideAny p).1.avail = s.avail ∧ (s.decideAny p).1.sec = s.sec ∧
    (s.decideAny p).1.net = s.net ∧ (s.decideAny p).1.ms = s.ms ∧ (s.decideAny p).1.cr = s.cr ∧
    (s.decideAny p).1.prot = s.prot ∧ (s.decideAny p).1.dram = s.dram ∧ (s.decideAny p).1.flash = s.flash ∧
    (s.decideAny p).1.eng = s.eng ∧ (s.decideAny p).1.pwr = s.pwr ∧ (s.decideAny p).1.isl = s.isl := by
  simp only [State.decideAny]
  repeat' (first | (simp; done) | split)

@[simp] theorem State.toHome_frame (s : State) (p : Pend) (pa : Nat) :
    (s.toHome p pa).pending = s.pending ∧ (s.toHome p pa).clock = s.clock ∧ (s.toHome p pa).time = s.time ∧
    (s.toHome p pa).boot = s.boot ∧ (s.toHome p pa).avail = s.avail ∧ (s.toHome p pa).sec = s.sec ∧
    (s.toHome p pa).cr = s.cr ∧ (s.toHome p pa).flash = s.flash ∧ (s.toHome p pa).eng = s.eng ∧
    (s.toHome p pa).pwr = s.pwr ∧ (s.toHome p pa).isl = s.isl := by
  simp [State.toHome]

@[simp] theorem State.touchCopy_frame (s : State) (f : Nat) :
    (s.touchCopy f).pending = s.pending ∧ (s.touchCopy f).free = s.free ∧ (s.touchCopy f).clock = s.clock ∧
    (s.touchCopy f).out = s.out ∧ (s.touchCopy f).regs = s.regs ∧ (s.touchCopy f).host = s.host ∧
    (s.touchCopy f).time = s.time ∧ (s.touchCopy f).maps = s.maps ∧ (s.touchCopy f).mem = s.mem ∧
    (s.touchCopy f).coh = s.coh ∧ (s.touchCopy f).boot = s.boot ∧ (s.touchCopy f).avail = s.avail ∧
    (s.touchCopy f).sec = s.sec ∧ (s.touchCopy f).net = s.net ∧ (s.touchCopy f).cr = s.cr ∧
    (s.touchCopy f).prot = s.prot ∧ (s.touchCopy f).dram = s.dram ∧ (s.touchCopy f).flash = s.flash ∧
    (s.touchCopy f).eng = s.eng ∧ (s.touchCopy f).pwr = s.pwr ∧ (s.touchCopy f).isl = s.isl := by
  simp [State.touchCopy]

@[simp] theorem State.resolve_frame (s : State) (p : Pend) :
    (s.resolve p).pending = s.pending ∧ (s.resolve p).clock = s.clock ∧ (s.resolve p).time = s.time ∧
    (s.resolve p).boot = s.boot ∧ (s.resolve p).avail = s.avail ∧ (s.resolve p).sec = s.sec ∧
    (s.resolve p).cr = s.cr ∧ (s.resolve p).eng = s.eng ∧ (s.resolve p).pwr = s.pwr ∧
    (s.resolve p).isl = s.isl := by
  simp only [State.resolve]
  repeat' (first | (simp; done) | split)

@[simp] theorem State.memReq_frame (s : State) (port : Nat) (r : Req) (op : ReqOp) (len : Nat) (wf : Bool) (perm : Window → Bool) :
    (s.memReq port r op len wf perm).pending = s.pending ∧ (s.memReq port r op len wf perm).clock = s.clock ∧
    (s.memReq port r op len wf perm).time = s.time ∧ (s.memReq port r op len wf perm).boot = s.boot ∧
    (s.memReq port r op len wf perm).avail = s.avail ∧ (s.memReq port r op len wf perm).sec = s.sec ∧
    (s.memReq port r op len wf perm).cr = s.cr ∧ (s.memReq port r op len wf perm).eng = s.eng ∧
    (s.memReq port r op len wf perm).pwr = s.pwr ∧ (s.memReq port r op len wf perm).isl = s.isl := by
  simp [State.memReq]

@[simp] theorem State.atomicReq_frame (s : State) (port : Nat) (r : Req) (atop : Nat) :
    (s.atomicReq port r atop).pending = s.pending ∧ (s.atomicReq port r atop).clock = s.clock ∧
    (s.atomicReq port r atop).time = s.time ∧ (s.atomicReq port r atop).boot = s.boot ∧
    (s.atomicReq port r atop).avail = s.avail ∧ (s.atomicReq port r atop).sec = s.sec ∧
    (s.atomicReq port r atop).cr = s.cr ∧ (s.atomicReq port r atop).eng = s.eng ∧ (s.atomicReq port r atop).pwr = s.pwr ∧
    (s.atomicReq port r atop).isl = s.isl := by
  simp [State.atomicReq]

@[simp] theorem State.reserve_frame (s : State) (fgroup : Nat) (add : Nat) (sub : Nat) :
    (s.reserve fgroup add sub).pending = s.pending ∧ (s.reserve fgroup add sub).free = s.free ∧
    (s.reserve fgroup add sub).clock = s.clock ∧ (s.reserve fgroup add sub).out = s.out ∧
    (s.reserve fgroup add sub).regs = s.regs ∧ (s.reserve fgroup add sub).host = s.host ∧
    (s.reserve fgroup add sub).time = s.time ∧ (s.reserve fgroup add sub).maps = s.maps ∧
    (s.reserve fgroup add sub).mem = s.mem ∧ (s.reserve fgroup add sub).coh = s.coh ∧
    (s.reserve fgroup add sub).boot = s.boot ∧ (s.reserve fgroup add sub).avail = s.avail ∧
    (s.reserve fgroup add sub).sec = s.sec ∧ (s.reserve fgroup add sub).net = s.net ∧
    (s.reserve fgroup add sub).ms = s.ms ∧ (s.reserve fgroup add sub).cr = s.cr ∧
    (s.reserve fgroup add sub).prot = s.prot ∧ (s.reserve fgroup add sub).dram = s.dram ∧
    (s.reserve fgroup add sub).eng = s.eng ∧ (s.reserve fgroup add sub).pwr = s.pwr ∧
    (s.reserve fgroup add sub).isl = s.isl := by
  simp only [State.reserve]
  (repeat' apply And.intro) <;> repeat' (first | (simp; done) | split | refine (foldl_keeps _ _ _ _ (fun _ _ => ?_)).trans ?_ | simp)

@[simp] theorem State.resolveAll_frame (s : State) (ps : List Pend) :
    (s.resolveAll ps).pending = s.pending ∧ (s.resolveAll ps).clock = s.clock ∧ (s.resolveAll ps).time = s.time ∧
    (s.resolveAll ps).boot = s.boot ∧ (s.resolveAll ps).avail = s.avail ∧ (s.resolveAll ps).sec = s.sec ∧
    (s.resolveAll ps).cr = s.cr ∧ (s.resolveAll ps).eng = s.eng ∧ (s.resolveAll ps).pwr = s.pwr ∧
    (s.resolveAll ps).isl = s.isl := by
  simp [State.resolveAll]

@[simp] theorem State.releaseMoves_frame (s : State) :
    s.releaseMoves.pending = s.pending ∧ s.releaseMoves.clock = s.clock ∧ s.releaseMoves.time = s.time ∧
    s.releaseMoves.boot = s.boot ∧ s.releaseMoves.avail = s.avail ∧ s.releaseMoves.sec = s.sec ∧
    s.releaseMoves.cr = s.cr ∧ s.releaseMoves.eng = s.eng ∧ s.releaseMoves.pwr = s.pwr ∧
    s.releaseMoves.isl = s.isl := by
  simp [State.releaseMoves]

@[simp] theorem State.fenceNode_frame (s : State) (share : Nat) (node : Nat) :
    (s.fenceNode share node).pending = s.pending ∧ (s.fenceNode share node).free = s.free ∧
    (s.fenceNode share node).clock = s.clock ∧ (s.fenceNode share node).regs = s.regs ∧
    (s.fenceNode share node).time = s.time ∧ (s.fenceNode share node).maps = s.maps ∧
    (s.fenceNode share node).mem = s.mem ∧ (s.fenceNode share node).boot = s.boot ∧
    (s.fenceNode share node).avail = s.avail ∧ (s.fenceNode share node).sec = s.sec ∧
    (s.fenceNode share node).net = s.net ∧ (s.fenceNode share node).ms = s.ms ∧ (s.fenceNode share node).prot = s.prot ∧
    (s.fenceNode share node).dram = s.dram ∧ (s.fenceNode share node).flash = s.flash ∧
    (s.fenceNode share node).eng = s.eng ∧ (s.fenceNode share node).pwr = s.pwr ∧
    (s.fenceNode share node).isl = s.isl := by
  simp [State.fenceNode]

@[simp] theorem State.setEng_frame (s : State) (av : Nat) (e : Nat) (x : Eng) :
    (s.setEng av e x).pending = s.pending ∧ (s.setEng av e x).free = s.free ∧ (s.setEng av e x).clock = s.clock ∧
    (s.setEng av e x).out = s.out ∧ (s.setEng av e x).regs = s.regs ∧ (s.setEng av e x).host = s.host ∧
    (s.setEng av e x).time = s.time ∧ (s.setEng av e x).maps = s.maps ∧ (s.setEng av e x).mem = s.mem ∧
    (s.setEng av e x).coh = s.coh ∧ (s.setEng av e x).boot = s.boot ∧ (s.setEng av e x).avail = s.avail ∧
    (s.setEng av e x).sec = s.sec ∧ (s.setEng av e x).net = s.net ∧ (s.setEng av e x).ms = s.ms ∧
    (s.setEng av e x).cr = s.cr ∧ (s.setEng av e x).prot = s.prot ∧ (s.setEng av e x).dram = s.dram ∧
    (s.setEng av e x).flash = s.flash ∧ (s.setEng av e x).pwr = s.pwr ∧ (s.setEng av e x).isl = s.isl := by
  simp [State.setEng]

@[simp] theorem State.engOff_frame (s : State) (av : Nat) (e : Nat) :
    (s.engOff av e).pending = s.pending ∧ (s.engOff av e).free = s.free ∧ (s.engOff av e).clock = s.clock ∧
    (s.engOff av e).out = s.out ∧ (s.engOff av e).regs = s.regs ∧ (s.engOff av e).host = s.host ∧
    (s.engOff av e).time = s.time ∧ (s.engOff av e).maps = s.maps ∧ (s.engOff av e).mem = s.mem ∧
    (s.engOff av e).coh = s.coh ∧ (s.engOff av e).boot = s.boot ∧ (s.engOff av e).avail = s.avail ∧
    (s.engOff av e).sec = s.sec ∧ (s.engOff av e).net = s.net ∧ (s.engOff av e).ms = s.ms ∧
    (s.engOff av e).cr = s.cr ∧ (s.engOff av e).prot = s.prot ∧ (s.engOff av e).dram = s.dram ∧
    (s.engOff av e).flash = s.flash ∧ (s.engOff av e).pwr = s.pwr ∧ (s.engOff av e).isl = s.isl := by
  simp [State.engOff]

@[simp] theorem State.engIdle_frame (s : State) (av : Nat) (e : Nat) :
    (s.engIdle av e).pending = s.pending ∧ (s.engIdle av e).free = s.free ∧ (s.engIdle av e).clock = s.clock ∧
    (s.engIdle av e).out = s.out ∧ (s.engIdle av e).regs = s.regs ∧ (s.engIdle av e).host = s.host ∧
    (s.engIdle av e).time = s.time ∧ (s.engIdle av e).maps = s.maps ∧ (s.engIdle av e).mem = s.mem ∧
    (s.engIdle av e).coh = s.coh ∧ (s.engIdle av e).boot = s.boot ∧ (s.engIdle av e).avail = s.avail ∧
    (s.engIdle av e).sec = s.sec ∧ (s.engIdle av e).net = s.net ∧ (s.engIdle av e).ms = s.ms ∧
    (s.engIdle av e).cr = s.cr ∧ (s.engIdle av e).prot = s.prot ∧ (s.engIdle av e).dram = s.dram ∧
    (s.engIdle av e).flash = s.flash ∧ (s.engIdle av e).pwr = s.pwr ∧ (s.engIdle av e).isl = s.isl := by
  simp [State.engIdle]

@[simp] theorem State.releaseEngines_frame (s : State) (n : Nat) (d : Nat) :
    (s.releaseEngines n d).pending = s.pending ∧ (s.releaseEngines n d).free = s.free ∧
    (s.releaseEngines n d).clock = s.clock ∧ (s.releaseEngines n d).out = s.out ∧ (s.releaseEngines n d).regs = s.regs ∧
    (s.releaseEngines n d).host = s.host ∧ (s.releaseEngines n d).time = s.time ∧ (s.releaseEngines n d).maps = s.maps ∧
    (s.releaseEngines n d).mem = s.mem ∧ (s.releaseEngines n d).coh = s.coh ∧ (s.releaseEngines n d).boot = s.boot ∧
    (s.releaseEngines n d).avail = s.avail ∧ (s.releaseEngines n d).sec = s.sec ∧ (s.releaseEngines n d).net = s.net ∧
    (s.releaseEngines n d).ms = s.ms ∧ (s.releaseEngines n d).cr = s.cr ∧ (s.releaseEngines n d).prot = s.prot ∧
    (s.releaseEngines n d).dram = s.dram ∧ (s.releaseEngines n d).flash = s.flash ∧ (s.releaseEngines n d).pwr = s.pwr ∧
    (s.releaseEngines n d).isl = s.isl := by
  simp [State.releaseEngines]

@[simp] theorem State.armZeroise_frame (s : State) (v : Nat) :
    (s.armZeroise v).pending = s.pending ∧ (s.armZeroise v).free = s.free ∧ (s.armZeroise v).clock = s.clock ∧
    (s.armZeroise v).out = s.out ∧ (s.armZeroise v).regs = s.regs ∧ (s.armZeroise v).host = s.host ∧
    (s.armZeroise v).time = s.time ∧ (s.armZeroise v).maps = s.maps ∧ (s.armZeroise v).mem = s.mem ∧
    (s.armZeroise v).coh = s.coh ∧ (s.armZeroise v).boot = s.boot ∧ (s.armZeroise v).avail = s.avail ∧
    (s.armZeroise v).net = s.net ∧ (s.armZeroise v).ms = s.ms ∧ (s.armZeroise v).cr = s.cr ∧
    (s.armZeroise v).prot = s.prot ∧ (s.armZeroise v).dram = s.dram ∧ (s.armZeroise v).flash = s.flash ∧
    (s.armZeroise v).eng = s.eng ∧ (s.armZeroise v).pwr = s.pwr ∧ (s.armZeroise v).isl = s.isl := by
  simp [State.armZeroise]

@[simp] theorem State.spaceGo_frame (s : State) (d : Nat) (x2 : List Pend) :
    (s.spaceGo d x2).pending = s.pending ∧ (s.spaceGo d x2).clock = s.clock ∧ (s.spaceGo d x2).time = s.time ∧
    (s.spaceGo d x2).boot = s.boot ∧ (s.spaceGo d x2).avail = s.avail ∧ (s.spaceGo d x2).sec = s.sec ∧
    (s.spaceGo d x2).cr = s.cr ∧ (s.spaceGo d x2).flash = s.flash ∧ (s.spaceGo d x2).eng = s.eng ∧
    (s.spaceGo d x2).pwr = s.pwr ∧ (s.spaceGo d x2).isl = s.isl := by
  induction x2 generalizing s with
  | nil => simp [State.spaceGo]
  | cons a l ih =>
    simp only [State.spaceGo]
    repeat' (first | (simp [ih]; done) | split)

@[simp] theorem State.logNotice_frame (s : State) (r : ErrRec) :
    (s.logNotice r).pending = s.pending ∧ (s.logNotice r).free = s.free ∧ (s.logNotice r).clock = s.clock ∧
    (s.logNotice r).regs = s.regs ∧ (s.logNotice r).time = s.time ∧ (s.logNotice r).maps = s.maps ∧
    (s.logNotice r).mem = s.mem ∧ (s.logNotice r).coh = s.coh ∧ (s.logNotice r).boot = s.boot ∧
    (s.logNotice r).avail = s.avail ∧ (s.logNotice r).sec = s.sec ∧ (s.logNotice r).net = s.net ∧
    (s.logNotice r).ms = s.ms ∧ (s.logNotice r).cr = s.cr ∧ (s.logNotice r).dram = s.dram ∧
    (s.logNotice r).flash = s.flash ∧ (s.logNotice r).eng = s.eng ∧ (s.logNotice r).pwr = s.pwr ∧
    (s.logNotice r).isl = s.isl := by
  simp [State.logNotice]

@[simp] theorem State.setCprot_frame (s : State) (m : Nat) (x : ChanProt) :
    (s.setCprot m x).pending = s.pending ∧ (s.setCprot m x).free = s.free ∧ (s.setCprot m x).clock = s.clock ∧
    (s.setCprot m x).out = s.out ∧ (s.setCprot m x).regs = s.regs ∧ (s.setCprot m x).host = s.host ∧
    (s.setCprot m x).time = s.time ∧ (s.setCprot m x).maps = s.maps ∧ (s.setCprot m x).mem = s.mem ∧
    (s.setCprot m x).coh = s.coh ∧ (s.setCprot m x).boot = s.boot ∧ (s.setCprot m x).avail = s.avail ∧
    (s.setCprot m x).sec = s.sec ∧ (s.setCprot m x).net = s.net ∧ (s.setCprot m x).ms = s.ms ∧
    (s.setCprot m x).cr = s.cr ∧ (s.setCprot m x).dram = s.dram ∧ (s.setCprot m x).flash = s.flash ∧
    (s.setCprot m x).eng = s.eng ∧ (s.setCprot m x).pwr = s.pwr ∧ (s.setCprot m x).isl = s.isl := by
  simp [State.setCprot]

@[simp] theorem State.flipWrite_frame (s : State) (m : Nat) (sc : Nat) (line : Nat) (parity : Bool) (la : Nat) :
    (s.flipWrite m sc line parity la).pending = s.pending ∧ (s.flipWrite m sc line parity la).free = s.free ∧
    (s.flipWrite m sc line parity la).clock = s.clock ∧ (s.flipWrite m sc line parity la).time = s.time ∧
    (s.flipWrite m sc line parity la).maps = s.maps ∧ (s.flipWrite m sc line parity la).mem = s.mem ∧
    (s.flipWrite m sc line parity la).coh = s.coh ∧ (s.flipWrite m sc line parity la).boot = s.boot ∧
    (s.flipWrite m sc line parity la).avail = s.avail ∧ (s.flipWrite m sc line parity la).sec = s.sec ∧
    (s.flipWrite m sc line parity la).net = s.net ∧ (s.flipWrite m sc line parity la).ms = s.ms ∧
    (s.flipWrite m sc line parity la).cr = s.cr ∧ (s.flipWrite m sc line parity la).dram = s.dram ∧
    (s.flipWrite m sc line parity la).flash = s.flash ∧ (s.flipWrite m sc line parity la).eng = s.eng ∧
    (s.flipWrite m sc line parity la).pwr = s.pwr ∧ (s.flipWrite m sc line parity la).isl = s.isl := by
  simp [State.flipWrite]

@[simp] theorem State.setChan_frame (s : State) (m : Nat) (x : ChanSt) :
    (s.setChan m x).pending = s.pending ∧ (s.setChan m x).free = s.free ∧ (s.setChan m x).clock = s.clock ∧
    (s.setChan m x).out = s.out ∧ (s.setChan m x).regs = s.regs ∧ (s.setChan m x).host = s.host ∧
    (s.setChan m x).time = s.time ∧ (s.setChan m x).maps = s.maps ∧ (s.setChan m x).mem = s.mem ∧
    (s.setChan m x).coh = s.coh ∧ (s.setChan m x).boot = s.boot ∧ (s.setChan m x).avail = s.avail ∧
    (s.setChan m x).sec = s.sec ∧ (s.setChan m x).net = s.net ∧ (s.setChan m x).ms = s.ms ∧
    (s.setChan m x).cr = s.cr ∧ (s.setChan m x).prot = s.prot ∧ (s.setChan m x).flash = s.flash ∧
    (s.setChan m x).eng = s.eng ∧ (s.setChan m x).pwr = s.pwr ∧ (s.setChan m x).isl = s.isl := by
  simp [State.setChan]

@[simp] theorem State.accessDone_frame (s : State) (line : Nat) (write : Bool) :
    (s.accessDone line write).pending = s.pending ∧ (s.accessDone line write).free = s.free ∧
    (s.accessDone line write).clock = s.clock ∧ (s.accessDone line write).out = s.out ∧
    (s.accessDone line write).regs = s.regs ∧ (s.accessDone line write).host = s.host ∧
    (s.accessDone line write).time = s.time ∧ (s.accessDone line write).maps = s.maps ∧
    (s.accessDone line write).mem = s.mem ∧ (s.accessDone line write).coh = s.coh ∧
    (s.accessDone line write).boot = s.boot ∧ (s.accessDone line write).avail = s.avail ∧
    (s.accessDone line write).sec = s.sec ∧ (s.accessDone line write).net = s.net ∧ (s.accessDone line write).ms = s.ms ∧
    (s.accessDone line write).cr = s.cr ∧ (s.accessDone line write).prot = s.prot ∧
    (s.accessDone line write).flash = s.flash ∧ (s.accessDone line write).eng = s.eng ∧
    (s.accessDone line write).pwr = s.pwr ∧ (s.accessDone line write).isl = s.isl := by
  simp [State.accessDone]

@[simp] theorem State.dramWrite_frame (s : State) (line : Nat) (d : LineData) (poison : Bool) :
    (s.dramWrite line d poison).pending = s.pending ∧ (s.dramWrite line d poison).free = s.free ∧
    (s.dramWrite line d poison).clock = s.clock ∧ (s.dramWrite line d poison).time = s.time ∧
    (s.dramWrite line d poison).maps = s.maps ∧ (s.dramWrite line d poison).coh = s.coh ∧
    (s.dramWrite line d poison).boot = s.boot ∧ (s.dramWrite line d poison).avail = s.avail ∧
    (s.dramWrite line d poison).sec = s.sec ∧ (s.dramWrite line d poison).net = s.net ∧
    (s.dramWrite line d poison).ms = s.ms ∧ (s.dramWrite line d poison).cr = s.cr ∧
    (s.dramWrite line d poison).flash = s.flash ∧ (s.dramWrite line d poison).eng = s.eng ∧
    (s.dramWrite line d poison).pwr = s.pwr ∧ (s.dramWrite line d poison).isl = s.isl := by
  simp [State.dramWrite]

@[simp] theorem State.evacStart_frame (s : State) (m : Nat) (byDriver : Bool) (cmd : Option Cmd) :
    (s.evacStart m byDriver cmd).pending = s.pending ∧ (s.evacStart m byDriver cmd).free = s.free ∧
    (s.evacStart m byDriver cmd).clock = s.clock ∧ (s.evacStart m byDriver cmd).out = s.out ∧
    (s.evacStart m byDriver cmd).regs = s.regs ∧ (s.evacStart m byDriver cmd).host = s.host ∧
    (s.evacStart m byDriver cmd).time = s.time ∧ (s.evacStart m byDriver cmd).maps = s.maps ∧
    (s.evacStart m byDriver cmd).mem = s.mem ∧ (s.evacStart m byDriver cmd).coh = s.coh ∧
    (s.evacStart m byDriver cmd).boot = s.boot ∧ (s.evacStart m byDriver cmd).avail = s.avail ∧
    (s.evacStart m byDriver cmd).sec = s.sec ∧ (s.evacStart m byDriver cmd).net = s.net ∧
    (s.evacStart m byDriver cmd).ms = s.ms ∧ (s.evacStart m byDriver cmd).cr = s.cr ∧
    (s.evacStart m byDriver cmd).dram = s.dram ∧ (s.evacStart m byDriver cmd).flash = s.flash ∧
    (s.evacStart m byDriver cmd).eng = s.eng ∧ (s.evacStart m byDriver cmd).pwr = s.pwr ∧
    (s.evacStart m byDriver cmd).isl = s.isl := by
  simp [State.evacStart]

@[simp] theorem State.failChannel_frame (s : State) (m : Nat) :
    (s.failChannel m).pending = s.pending ∧ (s.failChannel m).free = s.free ∧ (s.failChannel m).clock = s.clock ∧
    (s.failChannel m).regs = s.regs ∧ (s.failChannel m).time = s.time ∧ (s.failChannel m).maps = s.maps ∧
    (s.failChannel m).mem = s.mem ∧ (s.failChannel m).coh = s.coh ∧ (s.failChannel m).boot = s.boot ∧
    (s.failChannel m).avail = s.avail ∧ (s.failChannel m).sec = s.sec ∧ (s.failChannel m).net = s.net ∧
    (s.failChannel m).ms = s.ms ∧ (s.failChannel m).cr = s.cr ∧ (s.failChannel m).dram = s.dram ∧
    (s.failChannel m).flash = s.flash ∧ (s.failChannel m).eng = s.eng ∧ (s.failChannel m).pwr = s.pwr ∧
    (s.failChannel m).isl = s.isl := by
  simp [State.failChannel]

@[simp] theorem State.countUe_frame (s : State) (m : Nat) :
    (s.countUe m).pending = s.pending ∧ (s.countUe m).free = s.free ∧ (s.countUe m).clock = s.clock ∧
    (s.countUe m).time = s.time ∧ (s.countUe m).maps = s.maps ∧ (s.countUe m).mem = s.mem ∧
    (s.countUe m).coh = s.coh ∧ (s.countUe m).boot = s.boot ∧ (s.countUe m).avail = s.avail ∧
    (s.countUe m).sec = s.sec ∧ (s.countUe m).net = s.net ∧ (s.countUe m).ms = s.ms ∧ (s.countUe m).cr = s.cr ∧
    (s.countUe m).dram = s.dram ∧ (s.countUe m).flash = s.flash ∧ (s.countUe m).eng = s.eng ∧
    (s.countUe m).pwr = s.pwr ∧ (s.countUe m).isl = s.isl := by
  simp [State.countUe]

@[simp] theorem State.markPoison_frame (s : State) (line : Nat) :
    (s.markPoison line).pending = s.pending ∧ (s.markPoison line).free = s.free ∧ (s.markPoison line).clock = s.clock ∧
    (s.markPoison line).out = s.out ∧ (s.markPoison line).host = s.host ∧ (s.markPoison line).time = s.time ∧
    (s.markPoison line).maps = s.maps ∧ (s.markPoison line).coh = s.coh ∧ (s.markPoison line).boot = s.boot ∧
    (s.markPoison line).avail = s.avail ∧ (s.markPoison line).sec = s.sec ∧ (s.markPoison line).net = s.net ∧
    (s.markPoison line).ms = s.ms ∧ (s.markPoison line).cr = s.cr ∧ (s.markPoison line).prot = s.prot ∧
    (s.markPoison line).dram = s.dram ∧ (s.markPoison line).flash = s.flash ∧ (s.markPoison line).eng = s.eng ∧
    (s.markPoison line).pwr = s.pwr ∧ (s.markPoison line).isl = s.isl := by
  simp [State.markPoison]

@[simp] theorem State.startRecon_frame (s : State) (line : Nat) :
    (s.startRecon line).pending = s.pending ∧ (s.startRecon line).free = s.free ∧ (s.startRecon line).clock = s.clock ∧
    (s.startRecon line).out = s.out ∧ (s.startRecon line).regs = s.regs ∧ (s.startRecon line).host = s.host ∧
    (s.startRecon line).time = s.time ∧ (s.startRecon line).maps = s.maps ∧ (s.startRecon line).mem = s.mem ∧
    (s.startRecon line).coh = s.coh ∧ (s.startRecon line).boot = s.boot ∧ (s.startRecon line).avail = s.avail ∧
    (s.startRecon line).sec = s.sec ∧ (s.startRecon line).net = s.net ∧ (s.startRecon line).ms = s.ms ∧
    (s.startRecon line).cr = s.cr ∧ (s.startRecon line).dram = s.dram ∧ (s.startRecon line).flash = s.flash ∧
    (s.startRecon line).eng = s.eng ∧ (s.startRecon line).pwr = s.pwr ∧ (s.startRecon line).isl = s.isl := by
  simp [State.startRecon]

@[simp] theorem State.decodeLine_frame (s : State) (line : Nat) (bad : Nat) :
    (s.decodeLine line bad).1.pending = s.pending ∧ (s.decodeLine line bad).1.free = s.free ∧
    (s.decodeLine line bad).1.clock = s.clock ∧ (s.decodeLine line bad).1.time = s.time ∧
    (s.decodeLine line bad).1.maps = s.maps ∧ (s.decodeLine line bad).1.coh = s.coh ∧
    (s.decodeLine line bad).1.boot = s.boot ∧ (s.decodeLine line bad).1.avail = s.avail ∧
    (s.decodeLine line bad).1.sec = s.sec ∧ (s.decodeLine line bad).1.net = s.net ∧ (s.decodeLine line bad).1.ms = s.ms ∧
    (s.decodeLine line bad).1.cr = s.cr ∧ (s.decodeLine line bad).1.flash = s.flash ∧
    (s.decodeLine line bad).1.eng = s.eng ∧ (s.decodeLine line bad).1.pwr = s.pwr ∧
    (s.decodeLine line bad).1.isl = s.isl := by
  simp only [State.decodeLine]
  repeat' (first | (simp; done) | split)

@[simp] theorem State.setAv_frame (s : State) (a : Nat) (x : Av) :
    (s.setAv a x).pending = s.pending ∧ (s.setAv a x).free = s.free ∧ (s.setAv a x).clock = s.clock ∧
    (s.setAv a x).out = s.out ∧ (s.setAv a x).regs = s.regs ∧ (s.setAv a x).host = s.host ∧
    (s.setAv a x).time = s.time ∧ (s.setAv a x).maps = s.maps ∧ (s.setAv a x).mem = s.mem ∧
    (s.setAv a x).coh = s.coh ∧ (s.setAv a x).boot = s.boot ∧ (s.setAv a x).sec = s.sec ∧
    (s.setAv a x).net = s.net ∧ (s.setAv a x).ms = s.ms ∧ (s.setAv a x).cr = s.cr ∧ (s.setAv a x).prot = s.prot ∧
    (s.setAv a x).dram = s.dram ∧ (s.setAv a x).flash = s.flash ∧ (s.setAv a x).eng = s.eng ∧
    (s.setAv a x).pwr = s.pwr ∧ (s.setAv a x).isl = s.isl := by
  simp [State.setAv]

@[simp] theorem State.applyRecall_frame (s : State) (district : Nat) (da : Nat) (line : Nat) (data : LineData) :
    (s.applyRecall district da line data).pending = s.pending ∧ (s.applyRecall district da line data).free = s.free ∧
    (s.applyRecall district da line data).clock = s.clock ∧ (s.applyRecall district da line data).host = s.host ∧
    (s.applyRecall district da line data).time = s.time ∧ (s.applyRecall district da line data).coh = s.coh ∧
    (s.applyRecall district da line data).boot = s.boot ∧ (s.applyRecall district da line data).avail = s.avail ∧
    (s.applyRecall district da line data).sec = s.sec ∧ (s.applyRecall district da line data).net = s.net ∧
    (s.applyRecall district da line data).cr = s.cr ∧ (s.applyRecall district da line data).flash = s.flash ∧
    (s.applyRecall district da line data).eng = s.eng ∧ (s.applyRecall district da line data).pwr = s.pwr ∧
    (s.applyRecall district da line data).isl = s.isl := by
  simp only [State.applyRecall]
  (repeat' apply And.intro) <;> repeat' (first | (simp; done) | (simp [State.allocRun_frame ‹State.allocRun _ _ _ _ = some _›]; done) |
    (simp [State.allocLoc_frame ‹State.allocLoc _ _ = some _›]; done) | split |
      refine (foldl_keeps _ _ _ _ (fun _ _ => ?_)).trans ?_ | simp)

@[simp] theorem State.recallAllData_frame (s : State) (n : Nat) (m : Rsp) :
    (s.recallAllData n m).pending = s.pending ∧ (s.recallAllData n m).free = s.free ∧
    (s.recallAllData n m).clock = s.clock ∧ (s.recallAllData n m).host = s.host ∧ (s.recallAllData n m).time = s.time ∧
    (s.recallAllData n m).boot = s.boot ∧ (s.recallAllData n m).avail = s.avail ∧ (s.recallAllData n m).sec = s.sec ∧
    (s.recallAllData n m).net = s.net ∧ (s.recallAllData n m).cr = s.cr ∧ (s.recallAllData n m).flash = s.flash ∧
    (s.recallAllData n m).eng = s.eng ∧ (s.recallAllData n m).pwr = s.pwr ∧ (s.recallAllData n m).isl = s.isl := by
  simp only [State.recallAllData]
  repeat' (first | (simp; done) | split)

@[simp] theorem State.raiseLevel_frame (s : State) (source : Nat) (cause : Nat) (data : Nat) (district : optParam (Option Nat) none) :
    (s.raiseLevel source cause data district).pending = s.pending ∧ (s.raiseLevel source cause data district).free = s.free ∧
    (s.raiseLevel source cause data district).clock = s.clock ∧ (s.raiseLevel source cause data district).regs = s.regs ∧
    (s.raiseLevel source cause data district).time = s.time ∧ (s.raiseLevel source cause data district).maps = s.maps ∧
    (s.raiseLevel source cause data district).mem = s.mem ∧ (s.raiseLevel source cause data district).coh = s.coh ∧
    (s.raiseLevel source cause data district).boot = s.boot ∧ (s.raiseLevel source cause data district).avail = s.avail ∧
    (s.raiseLevel source cause data district).sec = s.sec ∧ (s.raiseLevel source cause data district).net = s.net ∧
    (s.raiseLevel source cause data district).ms = s.ms ∧ (s.raiseLevel source cause data district).cr = s.cr ∧
    (s.raiseLevel source cause data district).prot = s.prot ∧ (s.raiseLevel source cause data district).dram = s.dram ∧
    (s.raiseLevel source cause data district).flash = s.flash ∧ (s.raiseLevel source cause data district).eng = s.eng ∧
    (s.raiseLevel source cause data district).pwr = s.pwr ∧ (s.raiseLevel source cause data district).isl = s.isl := by
  simp [State.raiseLevel]

@[simp] theorem State.issueUpdate_frame (s : State) (line : Nat) :
    (s.issueUpdate line).pending = s.pending ∧ (s.issueUpdate line).free = s.free ∧
    (s.issueUpdate line).clock = s.clock ∧ (s.issueUpdate line).time = s.time ∧ (s.issueUpdate line).maps = s.maps ∧
    (s.issueUpdate line).coh = s.coh ∧ (s.issueUpdate line).boot = s.boot ∧ (s.issueUpdate line).avail = s.avail ∧
    (s.issueUpdate line).sec = s.sec ∧ (s.issueUpdate line).net = s.net ∧ (s.issueUpdate line).ms = s.ms ∧
    (s.issueUpdate line).cr = s.cr ∧ (s.issueUpdate line).flash = s.flash ∧ (s.issueUpdate line).eng = s.eng ∧
    (s.issueUpdate line).pwr = s.pwr ∧ (s.issueUpdate line).isl = s.isl := by
  simp only [State.issueUpdate]
  (repeat' apply And.intro) <;> repeat' (first | (simp; done) | split | refine (foldl_keeps _ _ _ _ (fun _ _ => ?_)).trans ?_ | simp)

@[simp] theorem State.pumpUpdates_frame (s : State) :
    s.pumpUpdates.pending = s.pending ∧ s.pumpUpdates.free = s.free ∧ s.pumpUpdates.clock = s.clock ∧
    s.pumpUpdates.time = s.time ∧ s.pumpUpdates.maps = s.maps ∧ s.pumpUpdates.coh = s.coh ∧
    s.pumpUpdates.boot = s.boot ∧ s.pumpUpdates.avail = s.avail ∧ s.pumpUpdates.sec = s.sec ∧
    s.pumpUpdates.net = s.net ∧ s.pumpUpdates.ms = s.ms ∧ s.pumpUpdates.cr = s.cr ∧
    s.pumpUpdates.flash = s.flash ∧ s.pumpUpdates.eng = s.eng ∧ s.pumpUpdates.pwr = s.pwr ∧
    s.pumpUpdates.isl = s.isl := by
  simp [State.pumpUpdates]

@[simp] theorem State.dropReqs_frame (s : State) (is : Pend → Bool) :
    (s.dropReqs is).pending = s.pending ∧ (s.dropReqs is).free = s.free ∧ (s.dropReqs is).clock = s.clock ∧
    (s.dropReqs is).out = s.out ∧ (s.dropReqs is).regs = s.regs ∧ (s.dropReqs is).host = s.host ∧
    (s.dropReqs is).time = s.time ∧ (s.dropReqs is).maps = s.maps ∧ (s.dropReqs is).mem = s.mem ∧
    (s.dropReqs is).boot = s.boot ∧ (s.dropReqs is).avail = s.avail ∧ (s.dropReqs is).sec = s.sec ∧
    (s.dropReqs is).net = s.net ∧ (s.dropReqs is).prot = s.prot ∧ (s.dropReqs is).dram = s.dram ∧
    (s.dropReqs is).eng = s.eng ∧ (s.dropReqs is).pwr = s.pwr ∧ (s.dropReqs is).isl = s.isl := by
  simp [State.dropReqs]

@[simp] theorem State.dropWork_frame (s : State) (tag : Nat) :
    (s.dropWork tag).pending = s.pending ∧ (s.dropWork tag).free = s.free ∧ (s.dropWork tag).clock = s.clock ∧
    (s.dropWork tag).out = s.out ∧ (s.dropWork tag).regs = s.regs ∧ (s.dropWork tag).host = s.host ∧
    (s.dropWork tag).time = s.time ∧ (s.dropWork tag).maps = s.maps ∧ (s.dropWork tag).mem = s.mem ∧
    (s.dropWork tag).boot = s.boot ∧ (s.dropWork tag).avail = s.avail ∧ (s.dropWork tag).sec = s.sec ∧
    (s.dropWork tag).net = s.net ∧ (s.dropWork tag).prot = s.prot ∧ (s.dropWork tag).dram = s.dram ∧
    (s.dropWork tag).eng = s.eng ∧ (s.dropWork tag).pwr = s.pwr ∧ (s.dropWork tag).isl = s.isl := by
  simp [State.dropWork]

@[simp] theorem State.leaveRing_frame (s : State) (c : Cmd) :
    (s.leaveRing c).pending = s.pending ∧ (s.leaveRing c).free = s.free ∧ (s.leaveRing c).clock = s.clock ∧
    (s.leaveRing c).out = s.out ∧ (s.leaveRing c).regs = s.regs ∧ (s.leaveRing c).time = s.time ∧
    (s.leaveRing c).maps = s.maps ∧ (s.leaveRing c).mem = s.mem ∧ (s.leaveRing c).coh = s.coh ∧
    (s.leaveRing c).boot = s.boot ∧ (s.leaveRing c).avail = s.avail ∧ (s.leaveRing c).sec = s.sec ∧
    (s.leaveRing c).net = s.net ∧ (s.leaveRing c).ms = s.ms ∧ (s.leaveRing c).cr = s.cr ∧
    (s.leaveRing c).prot = s.prot ∧ (s.leaveRing c).dram = s.dram ∧ (s.leaveRing c).flash = s.flash ∧
    (s.leaveRing c).eng = s.eng ∧ (s.leaveRing c).pwr = s.pwr ∧ (s.leaveRing c).isl = s.isl := by
  simp [State.leaveRing]

@[simp] theorem State.stopRing_frame (s : State) (ring : Nat) (cause : Nat) :
    (s.stopRing ring cause).pending = s.pending ∧ (s.stopRing ring cause).free = s.free ∧
    (s.stopRing ring cause).clock = s.clock ∧ (s.stopRing ring cause).regs = s.regs ∧
    (s.stopRing ring cause).time = s.time ∧ (s.stopRing ring cause).maps = s.maps ∧ (s.stopRing ring cause).mem = s.mem ∧
    (s.stopRing ring cause).coh = s.coh ∧ (s.stopRing ring cause).boot = s.boot ∧
    (s.stopRing ring cause).avail = s.avail ∧ (s.stopRing ring cause).sec = s.sec ∧ (s.stopRing ring cause).net = s.net ∧
    (s.stopRing ring cause).ms = s.ms ∧ (s.stopRing ring cause).cr = s.cr ∧ (s.stopRing ring cause).prot = s.prot ∧
    (s.stopRing ring cause).dram = s.dram ∧ (s.stopRing ring cause).flash = s.flash ∧
    (s.stopRing ring cause).eng = s.eng ∧ (s.stopRing ring cause).pwr = s.pwr ∧ (s.stopRing ring cause).isl = s.isl := by
  simp [State.stopRing]

@[simp] theorem State.setCrossing_frame (s : State) (n : Nat) (c : Crossing) :
    (s.setCrossing n c).pending = s.pending ∧ (s.setCrossing n c).free = s.free ∧ (s.setCrossing n c).clock = s.clock ∧
    (s.setCrossing n c).out = s.out ∧ (s.setCrossing n c).regs = s.regs ∧ (s.setCrossing n c).host = s.host ∧
    (s.setCrossing n c).time = s.time ∧ (s.setCrossing n c).maps = s.maps ∧ (s.setCrossing n c).mem = s.mem ∧
    (s.setCrossing n c).coh = s.coh ∧ (s.setCrossing n c).boot = s.boot ∧ (s.setCrossing n c).avail = s.avail ∧
    (s.setCrossing n c).sec = s.sec ∧ (s.setCrossing n c).net = s.net ∧ (s.setCrossing n c).ms = s.ms ∧
    (s.setCrossing n c).prot = s.prot ∧ (s.setCrossing n c).dram = s.dram ∧ (s.setCrossing n c).flash = s.flash ∧
    (s.setCrossing n c).eng = s.eng ∧ (s.setCrossing n c).pwr = s.pwr ∧ (s.setCrossing n c).isl = s.isl := by
  simp [State.setCrossing]

@[simp] theorem State.sendSignals_frame (s : State) (ms : List Signal) :
    (s.sendSignals ms).pending = s.pending ∧ (s.sendSignals ms).free = s.free ∧ (s.sendSignals ms).clock = s.clock ∧
    (s.sendSignals ms).time = s.time ∧ (s.sendSignals ms).maps = s.maps ∧ (s.sendSignals ms).mem = s.mem ∧
    (s.sendSignals ms).coh = s.coh ∧ (s.sendSignals ms).boot = s.boot ∧ (s.sendSignals ms).avail = s.avail ∧
    (s.sendSignals ms).sec = s.sec ∧ (s.sendSignals ms).ms = s.ms ∧ (s.sendSignals ms).cr = s.cr ∧
    (s.sendSignals ms).prot = s.prot ∧ (s.sendSignals ms).dram = s.dram ∧ (s.sendSignals ms).flash = s.flash ∧
    (s.sendSignals ms).eng = s.eng ∧ (s.sendSignals ms).pwr = s.pwr ∧ (s.sendSignals ms).isl = s.isl := by
  simp [State.sendSignals]

@[simp] theorem State.dropRegs_frame (s : State) (rs : List Registration) :
    (s.dropRegs rs).pending = s.pending ∧ (s.dropRegs rs).free = s.free ∧ (s.dropRegs rs).clock = s.clock ∧
    (s.dropRegs rs).out = s.out ∧ (s.dropRegs rs).regs = s.regs ∧ (s.dropRegs rs).host = s.host ∧
    (s.dropRegs rs).time = s.time ∧ (s.dropRegs rs).maps = s.maps ∧ (s.dropRegs rs).mem = s.mem ∧
    (s.dropRegs rs).coh = s.coh ∧ (s.dropRegs rs).boot = s.boot ∧ (s.dropRegs rs).avail = s.avail ∧
    (s.dropRegs rs).sec = s.sec ∧ (s.dropRegs rs).net = s.net ∧ (s.dropRegs rs).ms = s.ms ∧
    (s.dropRegs rs).prot = s.prot ∧ (s.dropRegs rs).dram = s.dram ∧ (s.dropRegs rs).flash = s.flash ∧
    (s.dropRegs rs).eng = s.eng ∧ (s.dropRegs rs).pwr = s.pwr ∧ (s.dropRegs rs).isl = s.isl := by
  simp [State.dropRegs]

@[simp] theorem State.flagOr_frame (s : State) (n : Nat) (bit : Nat) :
    (s.flagOr n bit).pending = s.pending ∧ (s.flagOr n bit).clock = s.clock ∧ (s.flagOr n bit).time = s.time ∧
    (s.flagOr n bit).maps = s.maps ∧ (s.flagOr n bit).mem = s.mem ∧ (s.flagOr n bit).coh = s.coh ∧
    (s.flagOr n bit).boot = s.boot ∧ (s.flagOr n bit).avail = s.avail ∧ (s.flagOr n bit).sec = s.sec ∧
    (s.flagOr n bit).ms = s.ms ∧ (s.flagOr n bit).prot = s.prot ∧ (s.flagOr n bit).dram = s.dram ∧
    (s.flagOr n bit).flash = s.flash ∧ (s.flagOr n bit).eng = s.eng ∧ (s.flagOr n bit).pwr = s.pwr ∧
    (s.flagOr n bit).isl = s.isl := by
  simp only [State.flagOr]
  repeat' (first | (simp; done) | split)

@[simp] theorem State.putRecord_frame (s : State) (ring : Nat) (rcd : Record) :
    (s.putRecord ring rcd).pending = s.pending ∧ (s.putRecord ring rcd).clock = s.clock ∧
    (s.putRecord ring rcd).time = s.time ∧ (s.putRecord ring rcd).maps = s.maps ∧ (s.putRecord ring rcd).mem = s.mem ∧
    (s.putRecord ring rcd).coh = s.coh ∧ (s.putRecord ring rcd).boot = s.boot ∧ (s.putRecord ring rcd).avail = s.avail ∧
    (s.putRecord ring rcd).sec = s.sec ∧ (s.putRecord ring rcd).ms = s.ms ∧ (s.putRecord ring rcd).prot = s.prot ∧
    (s.putRecord ring rcd).dram = s.dram ∧ (s.putRecord ring rcd).flash = s.flash ∧ (s.putRecord ring rcd).eng = s.eng ∧
    (s.putRecord ring rcd).pwr = s.pwr ∧ (s.putRecord ring rcd).isl = s.isl := by
  simp only [State.putRecord]
  repeat' (first | (simp; done) | split)

@[simp] theorem State.finish_frame (s : State) (c : Cmd) (rcd : Record) :
    (s.finish c rcd).pending = s.pending ∧ (s.finish c rcd).clock = s.clock ∧ (s.finish c rcd).time = s.time ∧
    (s.finish c rcd).maps = s.maps ∧ (s.finish c rcd).mem = s.mem ∧ (s.finish c rcd).coh = s.coh ∧
    (s.finish c rcd).boot = s.boot ∧ (s.finish c rcd).avail = s.avail ∧ (s.finish c rcd).sec = s.sec ∧
    (s.finish c rcd).ms = s.ms ∧ (s.finish c rcd).prot = s.prot ∧ (s.finish c rcd).dram = s.dram ∧
    (s.finish c rcd).flash = s.flash ∧ (s.finish c rcd).eng = s.eng ∧ (s.finish c rcd).pwr = s.pwr ∧
    (s.finish c rcd).isl = s.isl := by
  simp [State.finish]

@[simp] theorem State.postJob_frame (s : State) (n : Nat) (j : Job) (r : Record) :
    (s.postJob n j r).pending = s.pending ∧ (s.postJob n j r).clock = s.clock ∧ (s.postJob n j r).time = s.time ∧
    (s.postJob n j r).mem = s.mem ∧ (s.postJob n j r).coh = s.coh ∧ (s.postJob n j r).boot = s.boot ∧
    (s.postJob n j r).avail = s.avail ∧ (s.postJob n j r).sec = s.sec ∧ (s.postJob n j r).ms = s.ms ∧
    (s.postJob n j r).prot = s.prot ∧ (s.postJob n j r).dram = s.dram ∧ (s.postJob n j r).flash = s.flash ∧
    (s.postJob n j r).pwr = s.pwr ∧ (s.postJob n j r).isl = s.isl := by
  simp only [State.postJob]
  repeat' (first | (simp; done) | split)

@[simp] theorem State.setJob_frame (s : State) (n : Nat) (j : Job) :
    (s.setJob n j).pending = s.pending ∧ (s.setJob n j).free = s.free ∧ (s.setJob n j).clock = s.clock ∧
    (s.setJob n j).out = s.out ∧ (s.setJob n j).regs = s.regs ∧ (s.setJob n j).host = s.host ∧
    (s.setJob n j).time = s.time ∧ (s.setJob n j).maps = s.maps ∧ (s.setJob n j).mem = s.mem ∧
    (s.setJob n j).coh = s.coh ∧ (s.setJob n j).boot = s.boot ∧ (s.setJob n j).avail = s.avail ∧
    (s.setJob n j).sec = s.sec ∧ (s.setJob n j).net = s.net ∧ (s.setJob n j).ms = s.ms ∧ (s.setJob n j).cr = s.cr ∧
    (s.setJob n j).prot = s.prot ∧ (s.setJob n j).dram = s.dram ∧ (s.setJob n j).flash = s.flash ∧
    (s.setJob n j).pwr = s.pwr ∧ (s.setJob n j).isl = s.isl := by
  simp [State.setJob]

@[simp] theorem State.endJob_frame (s : State) (n : Nat) (j : Job) (r : Record) :
    (s.endJob n j r).pending = s.pending ∧ (s.endJob n j r).clock = s.clock ∧ (s.endJob n j r).time = s.time ∧
    (s.endJob n j r).mem = s.mem ∧ (s.endJob n j r).boot = s.boot ∧ (s.endJob n j r).avail = s.avail ∧
    (s.endJob n j r).sec = s.sec ∧ (s.endJob n j r).prot = s.prot ∧ (s.endJob n j r).dram = s.dram ∧
    (s.endJob n j r).pwr = s.pwr ∧ (s.endJob n j r).isl = s.isl := by
  simp [State.endJob]

@[simp] theorem State.abortJob_frame (s : State) (n : Nat) (j : Job) :
    (s.abortJob n j).pending = s.pending ∧ (s.abortJob n j).clock = s.clock ∧ (s.abortJob n j).time = s.time ∧
    (s.abortJob n j).mem = s.mem ∧ (s.abortJob n j).boot = s.boot ∧ (s.abortJob n j).avail = s.avail ∧
    (s.abortJob n j).sec = s.sec ∧ (s.abortJob n j).prot = s.prot ∧ (s.abortJob n j).dram = s.dram ∧
    (s.abortJob n j).pwr = s.pwr ∧ (s.abortJob n j).isl = s.isl := by
  simp [State.abortJob]

@[simp] theorem State.reissueJob_frame (s : State) (n : Nat) (j : Job) :
    (s.reissueJob n j).pending = s.pending ∧ (s.reissueJob n j).clock = s.clock ∧ (s.reissueJob n j).time = s.time ∧
    (s.reissueJob n j).mem = s.mem ∧ (s.reissueJob n j).boot = s.boot ∧ (s.reissueJob n j).avail = s.avail ∧
    (s.reissueJob n j).sec = s.sec ∧ (s.reissueJob n j).prot = s.prot ∧ (s.reissueJob n j).dram = s.dram ∧
    (s.reissueJob n j).pwr = s.pwr ∧ (s.reissueJob n j).isl = s.isl := by
  simp [State.reissueJob]

@[simp] theorem State.quiet_frame (s : State) :
    s.quiet.pending = s.pending ∧ s.quiet.free = s.free ∧ s.quiet.clock = s.clock ∧ s.quiet.out = s.out ∧
    s.quiet.host = s.host ∧ s.quiet.time = s.time ∧ s.quiet.maps = s.maps ∧ s.quiet.mem = s.mem ∧
    s.quiet.coh = s.coh ∧ s.quiet.boot = s.boot ∧ s.quiet.avail = s.avail ∧ s.quiet.sec = s.sec ∧
    s.quiet.net = s.net ∧ s.quiet.ms = s.ms ∧ s.quiet.cr = s.cr ∧ s.quiet.prot = s.prot ∧
    s.quiet.dram = s.dram ∧ s.quiet.flash = s.flash ∧ s.quiet.eng = s.eng ∧ s.quiet.pwr = s.pwr ∧
    s.quiet.isl = s.isl := by
  simp [State.quiet]

@[simp] theorem State.writeIgnored_frame (s : State) (off : Nat) (val : Nat) :
    (s.writeIgnored off val).pending = s.pending ∧ (s.writeIgnored off val).free = s.free ∧
    (s.writeIgnored off val).clock = s.clock ∧ (s.writeIgnored off val).regs = s.regs ∧
    (s.writeIgnored off val).time = s.time ∧ (s.writeIgnored off val).maps = s.maps ∧
    (s.writeIgnored off val).mem = s.mem ∧ (s.writeIgnored off val).coh = s.coh ∧
    (s.writeIgnored off val).boot = s.boot ∧ (s.writeIgnored off val).avail = s.avail ∧
    (s.writeIgnored off val).sec = s.sec ∧ (s.writeIgnored off val).net = s.net ∧ (s.writeIgnored off val).ms = s.ms ∧
    (s.writeIgnored off val).cr = s.cr ∧ (s.writeIgnored off val).prot = s.prot ∧
    (s.writeIgnored off val).dram = s.dram ∧ (s.writeIgnored off val).flash = s.flash ∧
    (s.writeIgnored off val).eng = s.eng ∧ (s.writeIgnored off val).pwr = s.pwr ∧
    (s.writeIgnored off val).isl = s.isl := by
  simp [State.writeIgnored]

@[simp] theorem State.commit_frame (s : State) (first : Nat) (last : Nat) :
    (s.commit first last).pending = s.pending ∧ (s.commit first last).free = s.free ∧
    (s.commit first last).clock = s.clock ∧ (s.commit first last).time = s.time ∧ (s.commit first last).maps = s.maps ∧
    (s.commit first last).mem = s.mem ∧ (s.commit first last).coh = s.coh ∧ (s.commit first last).boot = s.boot ∧
    (s.commit first last).avail = s.avail ∧ (s.commit first last).sec = s.sec ∧ (s.commit first last).ms = s.ms ∧
    (s.commit first last).cr = s.cr ∧ (s.commit first last).prot = s.prot ∧ (s.commit first last).dram = s.dram ∧
    (s.commit first last).flash = s.flash ∧ (s.commit first last).eng = s.eng ∧ (s.commit first last).pwr = s.pwr ∧
    (s.commit first last).isl = s.isl := by
  simp [State.commit]

@[simp] theorem State.setClocks_frame (s : State) (a : Nat) :
    (s.setClocks a).pending = s.pending ∧ (s.setClocks a).free = s.free ∧ (s.setClocks a).clock = s.clock ∧
    (s.setClocks a).regs = s.regs ∧ (s.setClocks a).host = s.host ∧ (s.setClocks a).time = s.time ∧
    (s.setClocks a).maps = s.maps ∧ (s.setClocks a).mem = s.mem ∧ (s.setClocks a).coh = s.coh ∧
    (s.setClocks a).boot = s.boot ∧ (s.setClocks a).sec = s.sec ∧ (s.setClocks a).net = s.net ∧
    (s.setClocks a).ms = s.ms ∧ (s.setClocks a).cr = s.cr ∧ (s.setClocks a).prot = s.prot ∧
    (s.setClocks a).dram = s.dram ∧ (s.setClocks a).flash = s.flash ∧ (s.setClocks a).pwr = s.pwr ∧
    (s.setClocks a).isl = s.isl := by
  simp [State.setClocks]

@[simp] theorem State.setAllClocks_frame (s : State) :
    s.setAllClocks.pending = s.pending ∧ s.setAllClocks.free = s.free ∧ s.setAllClocks.clock = s.clock ∧
    s.setAllClocks.regs = s.regs ∧ s.setAllClocks.host = s.host ∧ s.setAllClocks.time = s.time ∧
    s.setAllClocks.maps = s.maps ∧ s.setAllClocks.mem = s.mem ∧ s.setAllClocks.coh = s.coh ∧
    s.setAllClocks.boot = s.boot ∧ s.setAllClocks.sec = s.sec ∧ s.setAllClocks.net = s.net ∧
    s.setAllClocks.ms = s.ms ∧ s.setAllClocks.cr = s.cr ∧ s.setAllClocks.prot = s.prot ∧
    s.setAllClocks.dram = s.dram ∧ s.setAllClocks.flash = s.flash ∧ s.setAllClocks.pwr = s.pwr ∧
    s.setAllClocks.isl = s.isl := by
  simp [State.setAllClocks]

@[simp] theorem State.freeLoc_frame (s : State) (loc : Nat) :
    (s.freeLoc loc).pending = s.pending ∧ (s.freeLoc loc).free = s.free ∧ (s.freeLoc loc).clock = s.clock ∧
    (s.freeLoc loc).out = s.out ∧ (s.freeLoc loc).regs = s.regs ∧ (s.freeLoc loc).host = s.host ∧
    (s.freeLoc loc).time = s.time ∧ (s.freeLoc loc).maps = s.maps ∧ (s.freeLoc loc).mem = s.mem ∧
    (s.freeLoc loc).coh = s.coh ∧ (s.freeLoc loc).boot = s.boot ∧ (s.freeLoc loc).avail = s.avail ∧
    (s.freeLoc loc).sec = s.sec ∧ (s.freeLoc loc).net = s.net ∧ (s.freeLoc loc).ms = s.ms ∧
    (s.freeLoc loc).cr = s.cr ∧ (s.freeLoc loc).prot = s.prot ∧ (s.freeLoc loc).dram = s.dram ∧
    (s.freeLoc loc).eng = s.eng ∧ (s.freeLoc loc).pwr = s.pwr ∧ (s.freeLoc loc).isl = s.isl := by
  simp only [State.freeLoc]
  repeat' (first | (simp; done) | split)

@[simp] theorem State.ignore_frame (s : State) (off : Nat) (val : Word) :
    (s.ignore off val).pending = s.pending ∧ (s.ignore off val).free = s.free ∧ (s.ignore off val).clock = s.clock ∧
    (s.ignore off val).regs = s.regs ∧ (s.ignore off val).time = s.time ∧ (s.ignore off val).maps = s.maps ∧
    (s.ignore off val).mem = s.mem ∧ (s.ignore off val).coh = s.coh ∧ (s.ignore off val).boot = s.boot ∧
    (s.ignore off val).avail = s.avail ∧ (s.ignore off val).sec = s.sec ∧ (s.ignore off val).net = s.net ∧
    (s.ignore off val).ms = s.ms ∧ (s.ignore off val).cr = s.cr ∧ (s.ignore off val).prot = s.prot ∧
    (s.ignore off val).dram = s.dram ∧ (s.ignore off val).flash = s.flash ∧ (s.ignore off val).eng = s.eng ∧
    (s.ignore off val).pwr = s.pwr ∧ (s.ignore off val).isl = s.isl := by
  simp [State.ignore]

@[simp] theorem State.hold_frame (s : State) (fn : Nat) (block : Nat) (off : Nat) (val : Word) :
    (s.hold fn block off val).pending = s.pending ∧ (s.hold fn block off val).free = s.free ∧
    (s.hold fn block off val).clock = s.clock ∧ (s.hold fn block off val).out = s.out ∧
    (s.hold fn block off val).host = s.host ∧ (s.hold fn block off val).time = s.time ∧
    (s.hold fn block off val).maps = s.maps ∧ (s.hold fn block off val).mem = s.mem ∧
    (s.hold fn block off val).coh = s.coh ∧ (s.hold fn block off val).boot = s.boot ∧
    (s.hold fn block off val).avail = s.avail ∧ (s.hold fn block off val).sec = s.sec ∧
    (s.hold fn block off val).net = s.net ∧ (s.hold fn block off val).ms = s.ms ∧ (s.hold fn block off val).cr = s.cr ∧
    (s.hold fn block off val).prot = s.prot ∧ (s.hold fn block off val).dram = s.dram ∧
    (s.hold fn block off val).flash = s.flash ∧ (s.hold fn block off val).eng = s.eng ∧
    (s.hold fn block off val).pwr = s.pwr ∧ (s.hold fn block off val).isl = s.isl := by
  simp [State.hold]

@[simp] theorem State.guardFailed_frame (s : State) (off : Nat) (val : Nat) :
    (s.guardFailed off val).pending = s.pending ∧ (s.guardFailed off val).free = s.free ∧
    (s.guardFailed off val).clock = s.clock ∧ (s.guardFailed off val).regs = s.regs ∧
    (s.guardFailed off val).time = s.time ∧ (s.guardFailed off val).maps = s.maps ∧ (s.guardFailed off val).mem = s.mem ∧
    (s.guardFailed off val).coh = s.coh ∧ (s.guardFailed off val).boot = s.boot ∧
    (s.guardFailed off val).avail = s.avail ∧ (s.guardFailed off val).sec = s.sec ∧ (s.guardFailed off val).net = s.net ∧
    (s.guardFailed off val).ms = s.ms ∧ (s.guardFailed off val).cr = s.cr ∧ (s.guardFailed off val).prot = s.prot ∧
    (s.guardFailed off val).dram = s.dram ∧ (s.guardFailed off val).flash = s.flash ∧
    (s.guardFailed off val).eng = s.eng ∧ (s.guardFailed off val).pwr = s.pwr ∧ (s.guardFailed off val).isl = s.isl := by
  simp [State.guardFailed]

@[simp] theorem State.failGuard_frame (s : State) (port : Nat) :
    (s.failGuard port).pending = s.pending ∧ (s.failGuard port).free = s.free ∧ (s.failGuard port).clock = s.clock ∧
    (s.failGuard port).time = s.time ∧ (s.failGuard port).maps = s.maps ∧ (s.failGuard port).mem = s.mem ∧
    (s.failGuard port).coh = s.coh ∧ (s.failGuard port).boot = s.boot ∧ (s.failGuard port).avail = s.avail ∧
    (s.failGuard port).sec = s.sec ∧ (s.failGuard port).net = s.net ∧ (s.failGuard port).ms = s.ms ∧
    (s.failGuard port).cr = s.cr ∧ (s.failGuard port).prot = s.prot ∧ (s.failGuard port).dram = s.dram ∧
    (s.failGuard port).flash = s.flash ∧ (s.failGuard port).eng = s.eng ∧ (s.failGuard port).pwr = s.pwr ∧
    (s.failGuard port).isl = s.isl := by
  simp only [State.failGuard]
  repeat' (first | (simp; done) | split)

@[simp] theorem State.passToken_frame (s : State) (port : Nat) (new : Option Nat) (forced : Bool) :
    (s.passToken port new forced).pending = s.pending ∧ (s.passToken port new forced).free = s.free ∧
    (s.passToken port new forced).clock = s.clock ∧ (s.passToken port new forced).time = s.time ∧
    (s.passToken port new forced).maps = s.maps ∧ (s.passToken port new forced).mem = s.mem ∧
    (s.passToken port new forced).coh = s.coh ∧ (s.passToken port new forced).boot = s.boot ∧
    (s.passToken port new forced).avail = s.avail ∧ (s.passToken port new forced).net = s.net ∧
    (s.passToken port new forced).ms = s.ms ∧ (s.passToken port new forced).cr = s.cr ∧
    (s.passToken port new forced).prot = s.prot ∧ (s.passToken port new forced).dram = s.dram ∧
    (s.passToken port new forced).flash = s.flash ∧ (s.passToken port new forced).eng = s.eng ∧
    (s.passToken port new forced).pwr = s.pwr ∧ (s.passToken port new forced).isl = s.isl := by
  simp only [State.passToken]
  repeat' (first | (simp; done) | split)

@[simp] theorem State.tokenWrite_frame (s : State) (port : Nat) (val : Word) :
    (s.tokenWrite port val).pending = s.pending ∧ (s.tokenWrite port val).free = s.free ∧
    (s.tokenWrite port val).clock = s.clock ∧ (s.tokenWrite port val).time = s.time ∧
    (s.tokenWrite port val).maps = s.maps ∧ (s.tokenWrite port val).mem = s.mem ∧ (s.tokenWrite port val).coh = s.coh ∧
    (s.tokenWrite port val).boot = s.boot ∧ (s.tokenWrite port val).avail = s.avail ∧
    (s.tokenWrite port val).net = s.net ∧ (s.tokenWrite port val).ms = s.ms ∧ (s.tokenWrite port val).cr = s.cr ∧
    (s.tokenWrite port val).prot = s.prot ∧ (s.tokenWrite port val).dram = s.dram ∧
    (s.tokenWrite port val).flash = s.flash ∧ (s.tokenWrite port val).eng = s.eng ∧ (s.tokenWrite port val).pwr = s.pwr ∧
    (s.tokenWrite port val).isl = s.isl := by
  simp only [State.tokenWrite]
  repeat' (first | (simp; done) | split)

@[simp] theorem State.bootGo_frame (s : State) (port : Nat) (val : Word) :
    (s.bootGo port val).pending = s.pending ∧ (s.bootGo port val).free = s.free ∧ (s.bootGo port val).clock = s.clock ∧
    (s.bootGo port val).regs = s.regs ∧ (s.bootGo port val).time = s.time ∧ (s.bootGo port val).maps = s.maps ∧
    (s.bootGo port val).mem = s.mem ∧ (s.bootGo port val).coh = s.coh ∧ (s.bootGo port val).avail = s.avail ∧
    (s.bootGo port val).sec = s.sec ∧ (s.bootGo port val).net = s.net ∧ (s.bootGo port val).ms = s.ms ∧
    (s.bootGo port val).cr = s.cr ∧ (s.bootGo port val).prot = s.prot ∧ (s.bootGo port val).dram = s.dram ∧
    (s.bootGo port val).flash = s.flash ∧ (s.bootGo port val).eng = s.eng ∧ (s.bootGo port val).pwr = s.pwr ∧
    (s.bootGo port val).isl = s.isl := by
  simp [State.bootGo]

@[simp] theorem State.clearHwm_frame (s : State) :
    s.clearHwm.pending = s.pending ∧ s.clearHwm.free = s.free ∧ s.clearHwm.clock = s.clock ∧
    s.clearHwm.out = s.out ∧ s.clearHwm.regs = s.regs ∧ s.clearHwm.host = s.host ∧
    s.clearHwm.time = s.time ∧ s.clearHwm.maps = s.maps ∧ s.clearHwm.mem = s.mem ∧ s.clearHwm.coh = s.coh ∧
    s.clearHwm.boot = s.boot ∧ s.clearHwm.avail = s.avail ∧ s.clearHwm.sec = s.sec ∧ s.clearHwm.ms = s.ms ∧
    s.clearHwm.cr = s.cr ∧ s.clearHwm.prot = s.prot ∧ s.clearHwm.dram = s.dram ∧
    s.clearHwm.flash = s.flash ∧ s.clearHwm.eng = s.eng ∧ s.clearHwm.pwr = s.pwr ∧
    s.clearHwm.isl = s.isl := by
  simp [State.clearHwm]

@[simp] theorem State.enterAcquiring_frame (s : State) (src : Nat) (off : Int) :
    (s.enterAcquiring src off).pending = s.pending ∧ (s.enterAcquiring src off).free = s.free ∧
    (s.enterAcquiring src off).clock = s.clock ∧ (s.enterAcquiring src off).out = s.out ∧
    (s.enterAcquiring src off).regs = s.regs ∧ (s.enterAcquiring src off).host = s.host ∧
    (s.enterAcquiring src off).maps = s.maps ∧ (s.enterAcquiring src off).mem = s.mem ∧
    (s.enterAcquiring src off).coh = s.coh ∧ (s.enterAcquiring src off).boot = s.boot ∧
    (s.enterAcquiring src off).avail = s.avail ∧ (s.enterAcquiring src off).sec = s.sec ∧
    (s.enterAcquiring src off).net = s.net ∧ (s.enterAcquiring src off).ms = s.ms ∧
    (s.enterAcquiring src off).cr = s.cr ∧ (s.enterAcquiring src off).prot = s.prot ∧
    (s.enterAcquiring src off).dram = s.dram ∧ (s.enterAcquiring src off).flash = s.flash ∧
    (s.enterAcquiring src off).eng = s.eng ∧ (s.enterAcquiring src off).pwr = s.pwr ∧
    (s.enterAcquiring src off).isl = s.isl := by
  simp [State.enterAcquiring]

@[simp] theorem State.enterLocked_frame (s : State) :
    s.enterLocked.pending = s.pending ∧ s.enterLocked.free = s.free ∧ s.enterLocked.clock = s.clock ∧
    s.enterLocked.regs = s.regs ∧ s.enterLocked.maps = s.maps ∧ s.enterLocked.mem = s.mem ∧
    s.enterLocked.coh = s.coh ∧ s.enterLocked.boot = s.boot ∧ s.enterLocked.avail = s.avail ∧
    s.enterLocked.sec = s.sec ∧ s.enterLocked.net = s.net ∧ s.enterLocked.ms = s.ms ∧
    s.enterLocked.cr = s.cr ∧ s.enterLocked.prot = s.prot ∧ s.enterLocked.dram = s.dram ∧
    s.enterLocked.flash = s.flash ∧ s.enterLocked.eng = s.eng ∧ s.enterLocked.pwr = s.pwr ∧
    s.enterLocked.isl = s.isl := by
  simp [State.enterLocked]

@[simp] theorem State.reselect_frame (s : State) :
    s.reselect.pending = s.pending ∧ s.reselect.free = s.free ∧ s.reselect.clock = s.clock ∧
    s.reselect.regs = s.regs ∧ s.reselect.maps = s.maps ∧ s.reselect.mem = s.mem ∧ s.reselect.coh = s.coh ∧
    s.reselect.boot = s.boot ∧ s.reselect.avail = s.avail ∧ s.reselect.sec = s.sec ∧
    s.reselect.net = s.net ∧ s.reselect.ms = s.ms ∧ s.reselect.cr = s.cr ∧ s.reselect.prot = s.prot ∧
    s.reselect.dram = s.dram ∧ s.reselect.flash = s.flash ∧ s.reselect.eng = s.eng ∧
    s.reselect.pwr = s.pwr ∧ s.reselect.isl = s.isl := by
  simp only [State.reselect]
  repeat' (first | (simp; done) | split)

@[simp] theorem State.forgetPort_frame (s : State) (n : Nat) :
    (s.forgetPort n).pending = s.pending ∧ (s.forgetPort n).free = s.free ∧ (s.forgetPort n).clock = s.clock ∧
    (s.forgetPort n).regs = s.regs ∧ (s.forgetPort n).maps = s.maps ∧ (s.forgetPort n).mem = s.mem ∧
    (s.forgetPort n).coh = s.coh ∧ (s.forgetPort n).boot = s.boot ∧ (s.forgetPort n).avail = s.avail ∧
    (s.forgetPort n).sec = s.sec ∧ (s.forgetPort n).net = s.net ∧ (s.forgetPort n).ms = s.ms ∧
    (s.forgetPort n).cr = s.cr ∧ (s.forgetPort n).prot = s.prot ∧ (s.forgetPort n).dram = s.dram ∧
    (s.forgetPort n).flash = s.flash ∧ (s.forgetPort n).eng = s.eng ∧ (s.forgetPort n).pwr = s.pwr ∧
    (s.forgetPort n).isl = s.isl := by
  simp [State.forgetPort]

@[simp] theorem State.noRoute_frame (s : State) (m : Msg) :
    (s.noRoute m).pending = s.pending ∧ (s.noRoute m).free = s.free ∧ (s.noRoute m).clock = s.clock ∧
    (s.noRoute m).time = s.time ∧ (s.noRoute m).maps = s.maps ∧ (s.noRoute m).mem = s.mem ∧
    (s.noRoute m).coh = s.coh ∧ (s.noRoute m).boot = s.boot ∧ (s.noRoute m).avail = s.avail ∧
    (s.noRoute m).sec = s.sec ∧ (s.noRoute m).ms = s.ms ∧ (s.noRoute m).cr = s.cr ∧ (s.noRoute m).prot = s.prot ∧
    (s.noRoute m).dram = s.dram ∧ (s.noRoute m).flash = s.flash ∧ (s.noRoute m).eng = s.eng ∧
    (s.noRoute m).pwr = s.pwr ∧ (s.noRoute m).isl = s.isl := by
  simp [State.noRoute]

@[simp] theorem State.reroute_frame (s : State) (port : Nat) :
    (s.reroute port).pending = s.pending ∧ (s.reroute port).free = s.free ∧ (s.reroute port).clock = s.clock ∧
    (s.reroute port).time = s.time ∧ (s.reroute port).maps = s.maps ∧ (s.reroute port).mem = s.mem ∧
    (s.reroute port).coh = s.coh ∧ (s.reroute port).boot = s.boot ∧ (s.reroute port).avail = s.avail ∧
    (s.reroute port).sec = s.sec ∧ (s.reroute port).ms = s.ms ∧ (s.reroute port).cr = s.cr ∧
    (s.reroute port).prot = s.prot ∧ (s.reroute port).dram = s.dram ∧ (s.reroute port).flash = s.flash ∧
    (s.reroute port).eng = s.eng ∧ (s.reroute port).pwr = s.pwr ∧ (s.reroute port).isl = s.isl := by
  simp only [State.reroute]
  (repeat' apply And.intro) <;> repeat' (first | (simp; done) | split | refine (foldl_keeps _ _ _ _ (fun _ _ => ?_)).trans ?_ | simp)

@[simp] theorem State.linkDown_frame (s : State) (port : Nat) (packing : Bool) :
    (s.linkDown port packing).pending = s.pending ∧ (s.linkDown port packing).free = s.free ∧
    (s.linkDown port packing).clock = s.clock ∧ (s.linkDown port packing).maps = s.maps ∧
    (s.linkDown port packing).mem = s.mem ∧ (s.linkDown port packing).coh = s.coh ∧
    (s.linkDown port packing).boot = s.boot ∧ (s.linkDown port packing).avail = s.avail ∧
    (s.linkDown port packing).sec = s.sec ∧ (s.linkDown port packing).ms = s.ms ∧ (s.linkDown port packing).cr = s.cr ∧
    (s.linkDown port packing).prot = s.prot ∧ (s.linkDown port packing).dram = s.dram ∧
    (s.linkDown port packing).flash = s.flash ∧ (s.linkDown port packing).eng = s.eng ∧
    (s.linkDown port packing).pwr = s.pwr ∧ (s.linkDown port packing).isl = s.isl := by
  simp [State.linkDown]

@[simp] theorem State.portStop_frame (s : State) (n : Nat) :
    (s.portStop n).pending = s.pending ∧ (s.portStop n).free = s.free ∧ (s.portStop n).clock = s.clock ∧
    (s.portStop n).maps = s.maps ∧ (s.portStop n).mem = s.mem ∧ (s.portStop n).coh = s.coh ∧
    (s.portStop n).boot = s.boot ∧ (s.portStop n).avail = s.avail ∧ (s.portStop n).sec = s.sec ∧
    (s.portStop n).ms = s.ms ∧ (s.portStop n).cr = s.cr ∧ (s.portStop n).prot = s.prot ∧
    (s.portStop n).dram = s.dram ∧ (s.portStop n).flash = s.flash ∧ (s.portStop n).eng = s.eng ∧
    (s.portStop n).pwr = s.pwr ∧ (s.portStop n).isl = s.isl := by
  simp [State.portStop]

@[simp] theorem State.portStart_frame (s : State) (n : Nat) :
    (s.portStart n).pending = s.pending ∧ (s.portStart n).free = s.free ∧ (s.portStart n).clock = s.clock ∧
    (s.portStart n).out = s.out ∧ (s.portStart n).regs = s.regs ∧ (s.portStart n).host = s.host ∧
    (s.portStart n).time = s.time ∧ (s.portStart n).maps = s.maps ∧ (s.portStart n).mem = s.mem ∧
    (s.portStart n).coh = s.coh ∧ (s.portStart n).boot = s.boot ∧ (s.portStart n).avail = s.avail ∧
    (s.portStart n).sec = s.sec ∧ (s.portStart n).ms = s.ms ∧ (s.portStart n).cr = s.cr ∧
    (s.portStart n).prot = s.prot ∧ (s.portStart n).dram = s.dram ∧ (s.portStart n).flash = s.flash ∧
    (s.portStart n).eng = s.eng ∧ (s.portStart n).pwr = s.pwr ∧ (s.portStart n).isl = s.isl := by
  simp [State.portStart]

@[simp] theorem State.retrain_frame (s : State) (port : Nat) (byDriver : optParam Bool false) :
    (s.retrain port byDriver).pending = s.pending ∧ (s.retrain port byDriver).free = s.free ∧
    (s.retrain port byDriver).clock = s.clock ∧ (s.retrain port byDriver).out = s.out ∧
    (s.retrain port byDriver).host = s.host ∧ (s.retrain port byDriver).time = s.time ∧
    (s.retrain port byDriver).maps = s.maps ∧ (s.retrain port byDriver).mem = s.mem ∧
    (s.retrain port byDriver).coh = s.coh ∧ (s.retrain port byDriver).boot = s.boot ∧
    (s.retrain port byDriver).avail = s.avail ∧ (s.retrain port byDriver).sec = s.sec ∧
    (s.retrain port byDriver).ms = s.ms ∧ (s.retrain port byDriver).cr = s.cr ∧ (s.retrain port byDriver).prot = s.prot ∧
    (s.retrain port byDriver).dram = s.dram ∧ (s.retrain port byDriver).flash = s.flash ∧
    (s.retrain port byDriver).eng = s.eng ∧ (s.retrain port byDriver).pwr = s.pwr ∧
    (s.retrain port byDriver).isl = s.isl := by
  simp [State.retrain]

@[simp] theorem State.jlCtl_frame (s : State) (n : Nat) (r : RegD) (val : Word) :
    (s.jlCtl n r val).pending = s.pending ∧ (s.jlCtl n r val).free = s.free ∧ (s.jlCtl n r val).clock = s.clock ∧
    (s.jlCtl n r val).maps = s.maps ∧ (s.jlCtl n r val).mem = s.mem ∧ (s.jlCtl n r val).coh = s.coh ∧
    (s.jlCtl n r val).boot = s.boot ∧ (s.jlCtl n r val).avail = s.avail ∧ (s.jlCtl n r val).sec = s.sec ∧
    (s.jlCtl n r val).ms = s.ms ∧ (s.jlCtl n r val).cr = s.cr ∧ (s.jlCtl n r val).prot = s.prot ∧
    (s.jlCtl n r val).dram = s.dram ∧ (s.jlCtl n r val).flash = s.flash ∧ (s.jlCtl n r val).eng = s.eng ∧
    (s.jlCtl n r val).pwr = s.pwr ∧ (s.jlCtl n r val).isl = s.isl := by
  simp [State.jlCtl]

@[simp] theorem State.avWrite_frame (s : State) (off : Nat) (r : RegD) (val : Word) :
    (s.avWrite off r val).pending = s.pending ∧ (s.avWrite off r val).free = s.free ∧
    (s.avWrite off r val).clock = s.clock ∧ (s.avWrite off r val).time = s.time ∧ (s.avWrite off r val).maps = s.maps ∧
    (s.avWrite off r val).mem = s.mem ∧ (s.avWrite off r val).boot = s.boot ∧ (s.avWrite off r val).avail = s.avail ∧
    (s.avWrite off r val).sec = s.sec ∧ (s.avWrite off r val).net = s.net ∧ (s.avWrite off r val).ms = s.ms ∧
    (s.avWrite off r val).cr = s.cr ∧ (s.avWrite off r val).prot = s.prot ∧ (s.avWrite off r val).dram = s.dram ∧
    (s.avWrite off r val).flash = s.flash ∧ (s.avWrite off r val).eng = s.eng ∧ (s.avWrite off r val).pwr = s.pwr ∧
    (s.avWrite off r val).isl = s.isl := by
  simp only [State.avWrite]
  repeat' (first | (simp; done) | split)

@[simp] theorem State.afterWrite_frame (s : State) (off : Nat) (val : Word) :
    (s.afterWrite off val).pending = s.pending ∧ (s.afterWrite off val).free = s.free ∧
    (s.afterWrite off val).clock = s.clock ∧ (s.afterWrite off val).maps = s.maps ∧ (s.afterWrite off val).mem = s.mem ∧
    (s.afterWrite off val).coh = s.coh ∧ (s.afterWrite off val).boot = s.boot ∧ (s.afterWrite off val).avail = s.avail ∧
    (s.afterWrite off val).sec = s.sec ∧ (s.afterWrite off val).ms = s.ms ∧ (s.afterWrite off val).cr = s.cr ∧
    (s.afterWrite off val).dram = s.dram ∧ (s.afterWrite off val).flash = s.flash ∧ (s.afterWrite off val).eng = s.eng ∧
    (s.afterWrite off val).pwr = s.pwr ∧ (s.afterWrite off val).isl = s.isl := by
  simp [State.afterWrite]

@[simp] theorem State.accept_frame (s : State) (port : Nat) (off : Nat) (r : RegD) (val : Word) :
    (s.accept port off r val).pending = s.pending ∧ (s.accept port off r val).free = s.free ∧
    (s.accept port off r val).clock = s.clock ∧ (s.accept port off r val).maps = s.maps ∧
    (s.accept port off r val).mem = s.mem ∧ (s.accept port off r val).avail = s.avail ∧
    (s.accept port off r val).ms = s.ms ∧ (s.accept port off r val).cr = s.cr ∧ (s.accept port off r val).dram = s.dram ∧
    (s.accept port off r val).flash = s.flash ∧ (s.accept port off r val).eng = s.eng ∧
    (s.accept port off r val).pwr = s.pwr ∧ (s.accept port off r val).isl = s.isl := by
  simp [State.accept]

@[simp] theorem State.ringReg_frame (s : State) (fn : Nat) (r : Nat) (rel : Nat) (off : Nat) (val : Word) (low : Option Word)
    (block : Nat) :
    (s.ringReg fn r rel off val low block).pending = s.pending ∧ (s.ringReg fn r rel off val low block).free = s.free ∧
    (s.ringReg fn r rel off val low block).clock = s.clock ∧ (s.ringReg fn r rel off val low block).time = s.time ∧
    (s.ringReg fn r rel off val low block).maps = s.maps ∧ (s.ringReg fn r rel off val low block).mem = s.mem ∧
    (s.ringReg fn r rel off val low block).coh = s.coh ∧ (s.ringReg fn r rel off val low block).boot = s.boot ∧
    (s.ringReg fn r rel off val low block).avail = s.avail ∧ (s.ringReg fn r rel off val low block).sec = s.sec ∧
    (s.ringReg fn r rel off val low block).net = s.net ∧ (s.ringReg fn r rel off val low block).ms = s.ms ∧
    (s.ringReg fn r rel off val low block).cr = s.cr ∧ (s.ringReg fn r rel off val low block).prot = s.prot ∧
    (s.ringReg fn r rel off val low block).dram = s.dram ∧ (s.ringReg fn r rel off val low block).flash = s.flash ∧
    (s.ringReg fn r rel off val low block).eng = s.eng ∧ (s.ringReg fn r rel off val low block).pwr = s.pwr ∧
    (s.ringReg fn r rel off val low block).isl = s.isl := by
  simp only [State.ringReg]
  repeat' (first | (simp; done) | split)

@[simp] theorem State.endWith_frame (s : State) (c : Cmd) (x : Stop) :
    (s.endWith c x).pending = s.pending ∧ (s.endWith c x).clock = s.clock ∧ (s.endWith c x).time = s.time ∧
    (s.endWith c x).maps = s.maps ∧ (s.endWith c x).mem = s.mem ∧ (s.endWith c x).coh = s.coh ∧
    (s.endWith c x).boot = s.boot ∧ (s.endWith c x).avail = s.avail ∧ (s.endWith c x).sec = s.sec ∧
    (s.endWith c x).ms = s.ms ∧ (s.endWith c x).prot = s.prot ∧ (s.endWith c x).dram = s.dram ∧
    (s.endWith c x).flash = s.flash ∧ (s.endWith c x).eng = s.eng ∧ (s.endWith c x).pwr = s.pwr ∧
    (s.endWith c x).isl = s.isl := by
  simp [State.endWith]

@[simp] theorem State.drainRing_frame (s : State) (ring : Nat) :
    (s.drainRing ring).pending = s.pending ∧ (s.drainRing ring).clock = s.clock ∧ (s.drainRing ring).time = s.time ∧
    (s.drainRing ring).maps = s.maps ∧ (s.drainRing ring).mem = s.mem ∧ (s.drainRing ring).coh = s.coh ∧
    (s.drainRing ring).boot = s.boot ∧ (s.drainRing ring).avail = s.avail ∧ (s.drainRing ring).sec = s.sec ∧
    (s.drainRing ring).ms = s.ms ∧ (s.drainRing ring).prot = s.prot ∧ (s.drainRing ring).dram = s.dram ∧
    (s.drainRing ring).flash = s.flash ∧ (s.drainRing ring).eng = s.eng ∧ (s.drainRing ring).pwr = s.pwr ∧
    (s.drainRing ring).isl = s.isl := by
  simp [State.drainRing]

@[simp] theorem State.ringEn_frame (s : State) (fn : Nat) (k : Nat) (off : Nat) (val : Word) :
    (s.ringEn fn k off val).pending = s.pending ∧ (s.ringEn fn k off val).clock = s.clock ∧
    (s.ringEn fn k off val).time = s.time ∧ (s.ringEn fn k off val).maps = s.maps ∧ (s.ringEn fn k off val).mem = s.mem ∧
    (s.ringEn fn k off val).coh = s.coh ∧ (s.ringEn fn k off val).boot = s.boot ∧
    (s.ringEn fn k off val).avail = s.avail ∧ (s.ringEn fn k off val).sec = s.sec ∧ (s.ringEn fn k off val).ms = s.ms ∧
    (s.ringEn fn k off val).prot = s.prot ∧ (s.ringEn fn k off val).dram = s.dram ∧
    (s.ringEn fn k off val).flash = s.flash ∧ (s.ringEn fn k off val).eng = s.eng ∧ (s.ringEn fn k off val).pwr = s.pwr ∧
    (s.ringEn fn k off val).isl = s.isl := by
  simp [State.ringEn]

@[simp] theorem State.tellHeld_frame (s : State) (fn : Nat) :
    (s.tellHeld fn).pending = s.pending ∧ (s.tellHeld fn).free = s.free ∧ (s.tellHeld fn).clock = s.clock ∧
    (s.tellHeld fn).regs = s.regs ∧ (s.tellHeld fn).time = s.time ∧ (s.tellHeld fn).maps = s.maps ∧
    (s.tellHeld fn).mem = s.mem ∧ (s.tellHeld fn).coh = s.coh ∧ (s.tellHeld fn).boot = s.boot ∧
    (s.tellHeld fn).avail = s.avail ∧ (s.tellHeld fn).sec = s.sec ∧ (s.tellHeld fn).net = s.net ∧
    (s.tellHeld fn).ms = s.ms ∧ (s.tellHeld fn).cr = s.cr ∧ (s.tellHeld fn).prot = s.prot ∧
    (s.tellHeld fn).dram = s.dram ∧ (s.tellHeld fn).flash = s.flash ∧ (s.tellHeld fn).eng = s.eng ∧
    (s.tellHeld fn).pwr = s.pwr ∧ (s.tellHeld fn).isl = s.isl := by
  simp [State.tellHeld]

@[simp] theorem State.ntcCfg_frame (s : State) (fn : Nat) (off : Nat) (val : Word) :
    (s.ntcCfg fn off val).pending = s.pending ∧ (s.ntcCfg fn off val).free = s.free ∧
    (s.ntcCfg fn off val).clock = s.clock ∧ (s.ntcCfg fn off val).regs = s.regs ∧ (s.ntcCfg fn off val).time = s.time ∧
    (s.ntcCfg fn off val).maps = s.maps ∧ (s.ntcCfg fn off val).mem = s.mem ∧ (s.ntcCfg fn off val).coh = s.coh ∧
    (s.ntcCfg fn off val).boot = s.boot ∧ (s.ntcCfg fn off val).avail = s.avail ∧ (s.ntcCfg fn off val).sec = s.sec ∧
    (s.ntcCfg fn off val).net = s.net ∧ (s.ntcCfg fn off val).ms = s.ms ∧ (s.ntcCfg fn off val).cr = s.cr ∧
    (s.ntcCfg fn off val).prot = s.prot ∧ (s.ntcCfg fn off val).dram = s.dram ∧ (s.ntcCfg fn off val).flash = s.flash ∧
    (s.ntcCfg fn off val).eng = s.eng ∧ (s.ntcCfg fn off val).pwr = s.pwr ∧ (s.ntcCfg fn off val).isl = s.isl := by
  simp [State.ntcCfg]

@[simp] theorem State.ntcReg_frame (s : State) (fn : Nat) (rel : Nat) (off : Nat) (val : Word) (low : Option Word) (block : Nat) :
    (s.ntcReg fn rel off val low block).pending = s.pending ∧ (s.ntcReg fn rel off val low block).free = s.free ∧
    (s.ntcReg fn rel off val low block).clock = s.clock ∧ (s.ntcReg fn rel off val low block).time = s.time ∧
    (s.ntcReg fn rel off val low block).maps = s.maps ∧ (s.ntcReg fn rel off val low block).mem = s.mem ∧
    (s.ntcReg fn rel off val low block).coh = s.coh ∧ (s.ntcReg fn rel off val low block).boot = s.boot ∧
    (s.ntcReg fn rel off val low block).avail = s.avail ∧ (s.ntcReg fn rel off val low block).sec = s.sec ∧
    (s.ntcReg fn rel off val low block).net = s.net ∧ (s.ntcReg fn rel off val low block).ms = s.ms ∧
    (s.ntcReg fn rel off val low block).cr = s.cr ∧ (s.ntcReg fn rel off val low block).prot = s.prot ∧
    (s.ntcReg fn rel off val low block).dram = s.dram ∧ (s.ntcReg fn rel off val low block).flash = s.flash ∧
    (s.ntcReg fn rel off val low block).eng = s.eng ∧ (s.ntcReg fn rel off val low block).pwr = s.pwr ∧
    (s.ntcReg fn rel off val low block).isl = s.isl := by
  simp only [State.ntcReg]
  repeat' (first | (simp; done) | split)

@[simp] theorem State.pfWrite_frame (s : State) (port : Nat) (off : Nat) (val : Word) (low : Option Word) :
    (s.pfWrite port off val low).pending = s.pending ∧ (s.pfWrite port off val low).clock = s.clock ∧
    (s.pfWrite port off val low).maps = s.maps ∧ (s.pfWrite port off val low).mem = s.mem ∧
    (s.pfWrite port off val low).avail = s.avail ∧ (s.pfWrite port off val low).ms = s.ms ∧
    (s.pfWrite port off val low).dram = s.dram ∧ (s.pfWrite port off val low).flash = s.flash ∧
    (s.pfWrite port off val low).eng = s.eng ∧ (s.pfWrite port off val low).pwr = s.pwr ∧
    (s.pfWrite port off val low).isl = s.isl := by
  simp only [State.pfWrite]
  repeat' (first | (simp; done) | split)

@[simp] theorem State.guarded_frame (s : State) (port : Nat) (off : Nat) (val : Word) (low : Option Word) (shape : Bool) :
    (s.guarded port off val low shape).pending = s.pending ∧ (s.guarded port off val low shape).clock = s.clock ∧
    (s.guarded port off val low shape).maps = s.maps ∧ (s.guarded port off val low shape).mem = s.mem ∧
    (s.guarded port off val low shape).avail = s.avail ∧ (s.guarded port off val low shape).ms = s.ms ∧
    (s.guarded port off val low shape).dram = s.dram ∧ (s.guarded port off val low shape).flash = s.flash ∧
    (s.guarded port off val low shape).eng = s.eng ∧ (s.guarded port off val low shape).pwr = s.pwr ∧
    (s.guarded port off val low shape).isl = s.isl := by
  simp only [State.guarded]
  repeat' (first | (simp; done) | split)

@[simp] theorem State.setShare_frame (s : State) (n : Nat) (x : ShareSt) :
    (s.setShare n x).pending = s.pending ∧ (s.setShare n x).free = s.free ∧ (s.setShare n x).clock = s.clock ∧
    (s.setShare n x).out = s.out ∧ (s.setShare n x).regs = s.regs ∧ (s.setShare n x).host = s.host ∧
    (s.setShare n x).time = s.time ∧ (s.setShare n x).maps = s.maps ∧ (s.setShare n x).mem = s.mem ∧
    (s.setShare n x).coh = s.coh ∧ (s.setShare n x).boot = s.boot ∧ (s.setShare n x).sec = s.sec ∧
    (s.setShare n x).net = s.net ∧ (s.setShare n x).ms = s.ms ∧ (s.setShare n x).cr = s.cr ∧
    (s.setShare n x).prot = s.prot ∧ (s.setShare n x).dram = s.dram ∧ (s.setShare n x).flash = s.flash ∧
    (s.setShare n x).eng = s.eng ∧ (s.setShare n x).pwr = s.pwr ∧ (s.setShare n x).isl = s.isl := by
  simp [State.setShare]

@[simp] theorem State.awaitSpare_frame (s : State) (n : Nat) :
    (s.awaitSpare n).pending = s.pending ∧ (s.awaitSpare n).free = s.free ∧ (s.awaitSpare n).clock = s.clock ∧
    (s.awaitSpare n).out = s.out ∧ (s.awaitSpare n).regs = s.regs ∧ (s.awaitSpare n).host = s.host ∧
    (s.awaitSpare n).time = s.time ∧ (s.awaitSpare n).maps = s.maps ∧ (s.awaitSpare n).mem = s.mem ∧
    (s.awaitSpare n).boot = s.boot ∧ (s.awaitSpare n).sec = s.sec ∧ (s.awaitSpare n).net = s.net ∧
    (s.awaitSpare n).ms = s.ms ∧ (s.awaitSpare n).cr = s.cr ∧ (s.awaitSpare n).prot = s.prot ∧
    (s.awaitSpare n).dram = s.dram ∧ (s.awaitSpare n).flash = s.flash ∧ (s.awaitSpare n).eng = s.eng ∧
    (s.awaitSpare n).pwr = s.pwr ∧ (s.awaitSpare n).isl = s.isl := by
  simp [State.awaitSpare]

@[simp] theorem State.emits_frame (s : State) (os : List Out) :
    (s.emits os).pending = s.pending ∧ (s.emits os).free = s.free ∧ (s.emits os).clock = s.clock ∧
    (s.emits os).regs = s.regs ∧ (s.emits os).host = s.host ∧ (s.emits os).time = s.time ∧
    (s.emits os).maps = s.maps ∧ (s.emits os).mem = s.mem ∧ (s.emits os).coh = s.coh ∧ (s.emits os).boot = s.boot ∧
    (s.emits os).avail = s.avail ∧ (s.emits os).sec = s.sec ∧ (s.emits os).net = s.net ∧ (s.emits os).ms = s.ms ∧
    (s.emits os).cr = s.cr ∧ (s.emits os).prot = s.prot ∧ (s.emits os).dram = s.dram ∧
    (s.emits os).flash = s.flash ∧ (s.emits os).eng = s.eng ∧ (s.emits os).pwr = s.pwr ∧
    (s.emits os).isl = s.isl := by
  simp [State.emits]

@[simp] theorem State.answerInvals_frame (s : State) (fn : Nat) (page : Nat) :
    (s.answerInvals fn page).pending = s.pending ∧ (s.answerInvals fn page).free = s.free ∧
    (s.answerInvals fn page).clock = s.clock ∧ (s.answerInvals fn page).regs = s.regs ∧
    (s.answerInvals fn page).time = s.time ∧ (s.answerInvals fn page).maps = s.maps ∧
    (s.answerInvals fn page).mem = s.mem ∧ (s.answerInvals fn page).coh = s.coh ∧
    (s.answerInvals fn page).boot = s.boot ∧ (s.answerInvals fn page).avail = s.avail ∧
    (s.answerInvals fn page).sec = s.sec ∧ (s.answerInvals fn page).net = s.net ∧ (s.answerInvals fn page).ms = s.ms ∧
    (s.answerInvals fn page).cr = s.cr ∧ (s.answerInvals fn page).prot = s.prot ∧
    (s.answerInvals fn page).dram = s.dram ∧ (s.answerInvals fn page).flash = s.flash ∧
    (s.answerInvals fn page).eng = s.eng ∧ (s.answerInvals fn page).pwr = s.pwr ∧
    (s.answerInvals fn page).isl = s.isl := by
  simp [State.answerInvals]

@[simp] theorem State.dropDma_frame (s : State) (k : Nat) :
    (s.dropDma k).pending = s.pending ∧ (s.dropDma k).free = s.free ∧ (s.dropDma k).clock = s.clock ∧
    (s.dropDma k).regs = s.regs ∧ (s.dropDma k).time = s.time ∧ (s.dropDma k).maps = s.maps ∧
    (s.dropDma k).mem = s.mem ∧ (s.dropDma k).coh = s.coh ∧ (s.dropDma k).boot = s.boot ∧
    (s.dropDma k).avail = s.avail ∧ (s.dropDma k).sec = s.sec ∧ (s.dropDma k).net = s.net ∧
    (s.dropDma k).ms = s.ms ∧ (s.dropDma k).cr = s.cr ∧ (s.dropDma k).prot = s.prot ∧ (s.dropDma k).dram = s.dram ∧
    (s.dropDma k).flash = s.flash ∧ (s.dropDma k).eng = s.eng ∧ (s.dropDma k).pwr = s.pwr ∧
    (s.dropDma k).isl = s.isl := by
  simp only [State.dropDma]
  (repeat' apply And.intro) <;> repeat' (first | (simp; done) | split | refine (foldl_keeps _ _ _ _ (fun _ _ => ?_)).trans ?_ | simp)

@[simp] theorem State.endDma_frame (s : State) (k : Nat) (rcd : Record) :
    (s.endDma k rcd).pending = s.pending ∧ (s.endDma k rcd).clock = s.clock ∧ (s.endDma k rcd).time = s.time ∧
    (s.endDma k rcd).maps = s.maps ∧ (s.endDma k rcd).mem = s.mem ∧ (s.endDma k rcd).boot = s.boot ∧
    (s.endDma k rcd).avail = s.avail ∧ (s.endDma k rcd).sec = s.sec ∧ (s.endDma k rcd).prot = s.prot ∧
    (s.endDma k rcd).dram = s.dram ∧ (s.endDma k rcd).eng = s.eng ∧ (s.endDma k rcd).pwr = s.pwr ∧
    (s.endDma k rcd).isl = s.isl := by
  simp only [State.endDma]
  (repeat' apply And.intro) <;> repeat' (first | (simp; done) | split | refine (foldl_keeps _ _ _ _ (fun _ _ => ?_)).trans ?_ | simp)

@[simp] theorem State.pull_frame (s : State) (tag : Nat) (window : Nat) (d : Nat) (bound : Option Nat) (da : Nat) :
    (s.pull tag window d bound da).pending = s.pending ∧ (s.pull tag window d bound da).clock = s.clock ∧
    (s.pull tag window d bound da).time = s.time ∧ (s.pull tag window d bound da).boot = s.boot ∧
    (s.pull tag window d bound da).avail = s.avail ∧ (s.pull tag window d bound da).sec = s.sec ∧
    (s.pull tag window d bound da).cr = s.cr ∧ (s.pull tag window d bound da).eng = s.eng ∧
    (s.pull tag window d bound da).pwr = s.pwr ∧ (s.pull tag window d bound da).isl = s.isl := by
  simp [State.pull]

@[simp] theorem State.pullLines_frame (s : State) (tag : Nat) (window : Nat) (d : Nat) (bound : Option Nat) (x5 : List Nat) :
    (s.pullLines tag window d bound x5).1.pending = s.pending ∧ (s.pullLines tag window d bound x5).1.clock = s.clock ∧
    (s.pullLines tag window d bound x5).1.time = s.time ∧ (s.pullLines tag window d bound x5).1.boot = s.boot ∧
    (s.pullLines tag window d bound x5).1.avail = s.avail ∧ (s.pullLines tag window d bound x5).1.sec = s.sec ∧
    (s.pullLines tag window d bound x5).1.cr = s.cr ∧ (s.pullLines tag window d bound x5).1.eng = s.eng ∧
    (s.pullLines tag window d bound x5).1.pwr = s.pwr ∧ (s.pullLines tag window d bound x5).1.isl = s.isl := by
  induction x5 generalizing s with
  | nil => simp [State.pullLines]
  | cons a l ih =>
    simp only [State.pullLines, ih]
    repeat' (first | (simp; done) | split)

@[simp] theorem State.setDma_frame (s : State) (k : Nat) (d : Dma) :
    (s.setDma k d).pending = s.pending ∧ (s.setDma k d).free = s.free ∧ (s.setDma k d).clock = s.clock ∧
    (s.setDma k d).out = s.out ∧ (s.setDma k d).regs = s.regs ∧ (s.setDma k d).time = s.time ∧
    (s.setDma k d).maps = s.maps ∧ (s.setDma k d).mem = s.mem ∧ (s.setDma k d).coh = s.coh ∧
    (s.setDma k d).boot = s.boot ∧ (s.setDma k d).avail = s.avail ∧ (s.setDma k d).sec = s.sec ∧
    (s.setDma k d).net = s.net ∧ (s.setDma k d).ms = s.ms ∧ (s.setDma k d).cr = s.cr ∧
    (s.setDma k d).prot = s.prot ∧ (s.setDma k d).dram = s.dram ∧ (s.setDma k d).flash = s.flash ∧
    (s.setDma k d).eng = s.eng ∧ (s.setDma k d).pwr = s.pwr ∧ (s.setDma k d).isl = s.isl := by
  simp [State.setDma]

@[simp] theorem State.done_frame (s : State) (c : Cmd) (result : Nat) :
    (s.done c result).pending = s.pending ∧ (s.done c result).clock = s.clock ∧ (s.done c result).time = s.time ∧
    (s.done c result).maps = s.maps ∧ (s.done c result).mem = s.mem ∧ (s.done c result).coh = s.coh ∧
    (s.done c result).boot = s.boot ∧ (s.done c result).avail = s.avail ∧ (s.done c result).sec = s.sec ∧
    (s.done c result).ms = s.ms ∧ (s.done c result).prot = s.prot ∧ (s.done c result).dram = s.dram ∧
    (s.done c result).flash = s.flash ∧ (s.done c result).eng = s.eng ∧ (s.done c result).pwr = s.pwr ∧
    (s.done c result).isl = s.isl := by
  simp [State.done]

@[simp] theorem State.stageBundle_frame (s : State) (b : Bundle) :
    (s.stageBundle b).pending = s.pending ∧ (s.stageBundle b).free = s.free ∧ (s.stageBundle b).clock = s.clock ∧
    (s.stageBundle b).out = s.out ∧ (s.stageBundle b).regs = s.regs ∧ (s.stageBundle b).host = s.host ∧
    (s.stageBundle b).time = s.time ∧ (s.stageBundle b).maps = s.maps ∧ (s.stageBundle b).mem = s.mem ∧
    (s.stageBundle b).coh = s.coh ∧ (s.stageBundle b).boot = s.boot ∧ (s.stageBundle b).sec = s.sec ∧
    (s.stageBundle b).net = s.net ∧ (s.stageBundle b).ms = s.ms ∧ (s.stageBundle b).cr = s.cr ∧
    (s.stageBundle b).prot = s.prot ∧ (s.stageBundle b).dram = s.dram ∧ (s.stageBundle b).flash = s.flash ∧
    (s.stageBundle b).eng = s.eng ∧ (s.stageBundle b).pwr = s.pwr ∧ (s.stageBundle b).isl = s.isl := by
  simp [State.stageBundle]

@[simp] theorem State.fwRead_frame (s : State) (c : Cmd) (bs : List Byte) :
    (s.fwRead c bs).pending = s.pending ∧ (s.fwRead c bs).clock = s.clock ∧ (s.fwRead c bs).time = s.time ∧
    (s.fwRead c bs).maps = s.maps ∧ (s.fwRead c bs).mem = s.mem ∧ (s.fwRead c bs).coh = s.coh ∧
    (s.fwRead c bs).boot = s.boot ∧ (s.fwRead c bs).sec = s.sec ∧ (s.fwRead c bs).ms = s.ms ∧
    (s.fwRead c bs).prot = s.prot ∧ (s.fwRead c bs).dram = s.dram ∧ (s.fwRead c bs).flash = s.flash ∧
    (s.fwRead c bs).eng = s.eng ∧ (s.fwRead c bs).pwr = s.pwr ∧ (s.fwRead c bs).isl = s.isl := by
  simp only [State.fwRead]
  repeat' (first | (simp; done) | split)

@[simp] theorem State.planRead_frame (s : State) (c : Cmd) (bs : List Byte) :
    (s.planRead c bs).pending = s.pending ∧ (s.planRead c bs).clock = s.clock ∧ (s.planRead c bs).maps = s.maps ∧
    (s.planRead c bs).mem = s.mem ∧ (s.planRead c bs).coh = s.coh ∧ (s.planRead c bs).boot = s.boot ∧
    (s.planRead c bs).avail = s.avail ∧ (s.planRead c bs).sec = s.sec ∧ (s.planRead c bs).ms = s.ms ∧
    (s.planRead c bs).prot = s.prot ∧ (s.planRead c bs).dram = s.dram ∧ (s.planRead c bs).flash = s.flash ∧
    (s.planRead c bs).eng = s.eng ∧ (s.planRead c bs).pwr = s.pwr ∧ (s.planRead c bs).isl = s.isl := by
  simp only [State.planRead]
  (repeat' apply And.intro) <;> repeat' (first | (simp; done) | split | refine (foldl_keeps _ _ _ _ (fun _ _ => ?_)).trans ?_ | simp)

@[simp] theorem State.keyRead_frame (s : State) (c : Cmd) (bs : List Byte) :
    (s.keyRead c bs).pending = s.pending ∧ (s.keyRead c bs).clock = s.clock ∧ (s.keyRead c bs).time = s.time ∧
    (s.keyRead c bs).mem = s.mem ∧ (s.keyRead c bs).coh = s.coh ∧ (s.keyRead c bs).boot = s.boot ∧
    (s.keyRead c bs).avail = s.avail ∧ (s.keyRead c bs).ms = s.ms ∧ (s.keyRead c bs).prot = s.prot ∧
    (s.keyRead c bs).dram = s.dram ∧ (s.keyRead c bs).flash = s.flash ∧ (s.keyRead c bs).eng = s.eng ∧
    (s.keyRead c bs).pwr = s.pwr ∧ (s.keyRead c bs).isl = s.isl := by
  simp only [State.keyRead]
  repeat' (first | (simp; done) | split)

@[simp] theorem State.startDma_frame (s : State) (c : Cmd) (fn : Nat) (toHost : Bool) (addr : Nat) (len : Nat) (data : List Byte)
    (use : DmaUse) :
    (s.startDma c fn toHost addr len data use).pending = s.pending ∧ (s.startDma c fn toHost addr len data use).free = s.free ∧
    (s.startDma c fn toHost addr len data use).clock = s.clock ∧ (s.startDma c fn toHost addr len data use).regs = s.regs ∧
    (s.startDma c fn toHost addr len data use).time = s.time ∧ (s.startDma c fn toHost addr len data use).maps = s.maps ∧
    (s.startDma c fn toHost addr len data use).mem = s.mem ∧ (s.startDma c fn toHost addr len data use).coh = s.coh ∧
    (s.startDma c fn toHost addr len data use).boot = s.boot ∧ (s.startDma c fn toHost addr len data use).avail = s.avail ∧
    (s.startDma c fn toHost addr len data use).sec = s.sec ∧ (s.startDma c fn toHost addr len data use).net = s.net ∧
    (s.startDma c fn toHost addr len data use).ms = s.ms ∧ (s.startDma c fn toHost addr len data use).cr = s.cr ∧
    (s.startDma c fn toHost addr len data use).prot = s.prot ∧ (s.startDma c fn toHost addr len data use).dram = s.dram ∧
    (s.startDma c fn toHost addr len data use).flash = s.flash ∧ (s.startDma c fn toHost addr len data use).eng = s.eng ∧
    (s.startDma c fn toHost addr len data use).pwr = s.pwr ∧ (s.startDma c fn toHost addr len data use).isl = s.isl := by
  simp [State.startDma]

@[simp] theorem State.writeBuf_frame (s : State) (c : Cmd) (data : List Byte) (rcd : Record) :
    (s.writeBuf c data rcd).pending = s.pending ∧ (s.writeBuf c data rcd).clock = s.clock ∧
    (s.writeBuf c data rcd).time = s.time ∧ (s.writeBuf c data rcd).maps = s.maps ∧ (s.writeBuf c data rcd).mem = s.mem ∧
    (s.writeBuf c data rcd).coh = s.coh ∧ (s.writeBuf c data rcd).boot = s.boot ∧
    (s.writeBuf c data rcd).avail = s.avail ∧ (s.writeBuf c data rcd).sec = s.sec ∧ (s.writeBuf c data rcd).ms = s.ms ∧
    (s.writeBuf c data rcd).prot = s.prot ∧ (s.writeBuf c data rcd).dram = s.dram ∧
    (s.writeBuf c data rcd).flash = s.flash ∧ (s.writeBuf c data rcd).eng = s.eng ∧ (s.writeBuf c data rcd).pwr = s.pwr ∧
    (s.writeBuf c data rcd).isl = s.isl := by
  simp [State.writeBuf]

@[simp] theorem State.relayRead_frame (s : State) (c : Cmd) (bs : List Byte) :
    (s.relayRead c bs).pending = s.pending ∧ (s.relayRead c bs).clock = s.clock ∧ (s.relayRead c bs).time = s.time ∧
    (s.relayRead c bs).maps = s.maps ∧ (s.relayRead c bs).mem = s.mem ∧ (s.relayRead c bs).coh = s.coh ∧
    (s.relayRead c bs).boot = s.boot ∧ (s.relayRead c bs).avail = s.avail ∧ (s.relayRead c bs).sec = s.sec ∧
    (s.relayRead c bs).ms = s.ms ∧ (s.relayRead c bs).prot = s.prot ∧ (s.relayRead c bs).dram = s.dram ∧
    (s.relayRead c bs).flash = s.flash ∧ (s.relayRead c bs).eng = s.eng ∧ (s.relayRead c bs).pwr = s.pwr ∧
    (s.relayRead c bs).isl = s.isl := by
  simp [State.relayRead]

@[simp] theorem State.modelRead_frame (s : State) (c : Cmd) (bs : List Byte) :
    (s.modelRead c bs).pending = s.pending ∧ (s.modelRead c bs).clock = s.clock ∧ (s.modelRead c bs).time = s.time ∧
    (s.modelRead c bs).maps = s.maps ∧ (s.modelRead c bs).mem = s.mem ∧ (s.modelRead c bs).coh = s.coh ∧
    (s.modelRead c bs).boot = s.boot ∧ (s.modelRead c bs).avail = s.avail ∧ (s.modelRead c bs).ms = s.ms ∧
    (s.modelRead c bs).prot = s.prot ∧ (s.modelRead c bs).dram = s.dram ∧ (s.modelRead c bs).flash = s.flash ∧
    (s.modelRead c bs).eng = s.eng ∧ (s.modelRead c bs).pwr = s.pwr ∧ (s.modelRead c bs).isl = s.isl := by
  simp only [State.modelRead]
  (repeat' apply And.intro) <;> repeat' (first | (simp; done) | split | refine (foldl_keeps _ _ _ _ (fun _ _ => ?_)).trans ?_ | simp)

@[simp] theorem State.linkKeyRead_frame (s : State) (c : Cmd) (bs : List Byte) :
    (s.linkKeyRead c bs).pending = s.pending ∧ (s.linkKeyRead c bs).clock = s.clock ∧
    (s.linkKeyRead c bs).time = s.time ∧ (s.linkKeyRead c bs).maps = s.maps ∧ (s.linkKeyRead c bs).mem = s.mem ∧
    (s.linkKeyRead c bs).coh = s.coh ∧ (s.linkKeyRead c bs).boot = s.boot ∧ (s.linkKeyRead c bs).avail = s.avail ∧
    (s.linkKeyRead c bs).sec = s.sec ∧ (s.linkKeyRead c bs).ms = s.ms ∧ (s.linkKeyRead c bs).prot = s.prot ∧
    (s.linkKeyRead c bs).dram = s.dram ∧ (s.linkKeyRead c bs).flash = s.flash ∧ (s.linkKeyRead c bs).eng = s.eng ∧
    (s.linkKeyRead c bs).pwr = s.pwr ∧ (s.linkKeyRead c bs).isl = s.isl := by
  simp only [State.linkKeyRead]
  repeat' (first | (simp; done) | split)

@[simp] theorem State.resume_frame (s : State) (c : Cmd) (bs : List Byte) :
    (s.resume c bs).pending = s.pending ∧ (s.resume c bs).clock = s.clock ∧ (s.resume c bs).mem = s.mem ∧
    (s.resume c bs).coh = s.coh ∧ (s.resume c bs).boot = s.boot ∧ (s.resume c bs).ms = s.ms ∧
    (s.resume c bs).prot = s.prot ∧ (s.resume c bs).dram = s.dram ∧ (s.resume c bs).flash = s.flash ∧
    (s.resume c bs).eng = s.eng ∧ (s.resume c bs).pwr = s.pwr ∧ (s.resume c bs).isl = s.isl := by
  simp only [State.resume]
  (repeat' apply And.intro) <;> repeat' (first | (simp; done) | split | refine (foldl_keeps _ _ _ _ (fun _ _ => ?_)).trans ?_ | simp)

@[simp] theorem State.dmaNext_frame (s : State) (k : Nat) (d : Dma) (n : Nat) :
    (s.dmaNext k d n).pending = s.pending ∧ (s.dmaNext k d n).clock = s.clock ∧ (s.dmaNext k d n).mem = s.mem ∧
    (s.dmaNext k d n).boot = s.boot ∧ (s.dmaNext k d n).prot = s.prot ∧ (s.dmaNext k d n).dram = s.dram ∧
    (s.dmaNext k d n).eng = s.eng ∧ (s.dmaNext k d n).pwr = s.pwr ∧ (s.dmaNext k d n).isl = s.isl := by
  simp only [State.dmaNext]
  (repeat' apply And.intro) <;> repeat' (first | (simp; done) | split | refine (foldl_keeps _ _ _ _ (fun _ _ => ?_)).trans ?_ | simp)

@[simp] theorem State.poolPut_frame (s : State) (tag : Nat) (window : Nat) (d : Nat) (da : Nat) (mask : BitVec 64) (data : LineData) :
    (s.poolPut tag window d da mask data).pending = s.pending ∧ (s.poolPut tag window d da mask data).clock = s.clock ∧
    (s.poolPut tag window d da mask data).time = s.time ∧ (s.poolPut tag window d da mask data).boot = s.boot ∧
    (s.poolPut tag window d da mask data).avail = s.avail ∧ (s.poolPut tag window d da mask data).sec = s.sec ∧
    (s.poolPut tag window d da mask data).cr = s.cr ∧ (s.poolPut tag window d da mask data).eng = s.eng ∧
    (s.poolPut tag window d da mask data).pwr = s.pwr ∧ (s.poolPut tag window d da mask data).isl = s.isl := by
  simp [State.poolPut]

@[simp] theorem State.poolBytes_frame (s : State) (tag : Nat) (window : Nat) (d : Nat) (x4 : Nat) (x5 : Nat) (x6 : List Byte) :
    (s.poolBytes tag window d x4 x5 x6).pending = s.pending ∧ (s.poolBytes tag window d x4 x5 x6).clock = s.clock ∧
    (s.poolBytes tag window d x4 x5 x6).time = s.time ∧ (s.poolBytes tag window d x4 x5 x6).boot = s.boot ∧
    (s.poolBytes tag window d x4 x5 x6).avail = s.avail ∧ (s.poolBytes tag window d x4 x5 x6).sec = s.sec ∧
    (s.poolBytes tag window d x4 x5 x6).cr = s.cr ∧ (s.poolBytes tag window d x4 x5 x6).eng = s.eng ∧
    (s.poolBytes tag window d x4 x5 x6).pwr = s.pwr ∧ (s.poolBytes tag window d x4 x5 x6).isl = s.isl := by
  induction x4 generalizing s x5 x6 with
  | zero => simp [State.poolBytes]
  | succ k ih => cases x6 <;> simp [State.poolBytes, ih]

@[simp] theorem State.copyPage_frame (s : State) (k : Nat) (d : Dma) (n : Nat) (data : List Byte) :
    (s.copyPage k d n data).pending = s.pending ∧ (s.copyPage k d n data).clock = s.clock ∧
    (s.copyPage k d n data).boot = s.boot ∧ (s.copyPage k d n data).eng = s.eng ∧ (s.copyPage k d n data).pwr = s.pwr ∧
    (s.copyPage k d n data).isl = s.isl := by
  simp only [State.copyPage]
  (repeat' apply And.intro) <;> repeat' (first | (simp; done) | split | refine (foldl_keeps _ _ _ _ (fun _ _ => ?_)).trans ?_ | simp)

@[simp] theorem State.powerChange_frame (s : State) (profile : Option Nat) (x : Profile) :
    (s.powerChange profile x).pending = s.pending ∧ (s.powerChange profile x).free = s.free ∧
    (s.powerChange profile x).clock = s.clock ∧ (s.powerChange profile x).out = s.out ∧
    (s.powerChange profile x).regs = s.regs ∧ (s.powerChange profile x).host = s.host ∧
    (s.powerChange profile x).time = s.time ∧ (s.powerChange profile x).maps = s.maps ∧
    (s.powerChange profile x).mem = s.mem ∧ (s.powerChange profile x).coh = s.coh ∧
    (s.powerChange profile x).boot = s.boot ∧ (s.powerChange profile x).avail = s.avail ∧
    (s.powerChange profile x).sec = s.sec ∧ (s.powerChange profile x).net = s.net ∧ (s.powerChange profile x).ms = s.ms ∧
    (s.powerChange profile x).cr = s.cr ∧ (s.powerChange profile x).prot = s.prot ∧
    (s.powerChange profile x).dram = s.dram ∧ (s.powerChange profile x).flash = s.flash ∧
    (s.powerChange profile x).eng = s.eng ∧ (s.powerChange profile x).isl = s.isl := by
  simp [State.powerChange]

@[simp] theorem State.usePowerProfile_frame (s : State) (n : Nat) :
    (s.usePowerProfile n).pending = s.pending ∧ (s.usePowerProfile n).free = s.free ∧
    (s.usePowerProfile n).clock = s.clock ∧ (s.usePowerProfile n).out = s.out ∧ (s.usePowerProfile n).regs = s.regs ∧
    (s.usePowerProfile n).host = s.host ∧ (s.usePowerProfile n).time = s.time ∧ (s.usePowerProfile n).maps = s.maps ∧
    (s.usePowerProfile n).mem = s.mem ∧ (s.usePowerProfile n).coh = s.coh ∧ (s.usePowerProfile n).boot = s.boot ∧
    (s.usePowerProfile n).avail = s.avail ∧ (s.usePowerProfile n).sec = s.sec ∧ (s.usePowerProfile n).net = s.net ∧
    (s.usePowerProfile n).ms = s.ms ∧ (s.usePowerProfile n).cr = s.cr ∧ (s.usePowerProfile n).prot = s.prot ∧
    (s.usePowerProfile n).dram = s.dram ∧ (s.usePowerProfile n).flash = s.flash ∧ (s.usePowerProfile n).eng = s.eng ∧
    (s.usePowerProfile n).isl = s.isl := by
  simp [State.usePowerProfile]

@[simp] theorem State.afterUnbind_frame (s : State) (c : Cmd) :
    (s.afterUnbind c).pending = s.pending ∧ (s.afterUnbind c).free = s.free ∧ (s.afterUnbind c).clock = s.clock ∧
    (s.afterUnbind c).regs = s.regs ∧ (s.afterUnbind c).time = s.time ∧ (s.afterUnbind c).maps = s.maps ∧
    (s.afterUnbind c).mem = s.mem ∧ (s.afterUnbind c).coh = s.coh ∧ (s.afterUnbind c).boot = s.boot ∧
    (s.afterUnbind c).avail = s.avail ∧ (s.afterUnbind c).net = s.net ∧ (s.afterUnbind c).ms = s.ms ∧
    (s.afterUnbind c).cr = s.cr ∧ (s.afterUnbind c).prot = s.prot ∧ (s.afterUnbind c).dram = s.dram ∧
    (s.afterUnbind c).flash = s.flash ∧ (s.afterUnbind c).eng = s.eng ∧ (s.afterUnbind c).pwr = s.pwr ∧
    (s.afterUnbind c).isl = s.isl := by
  simp [State.afterUnbind]

@[simp] theorem State.startFailed_frame (s : State) (a : Nat) :
    (s.startFailed a).pending = s.pending ∧ (s.startFailed a).free = s.free ∧ (s.startFailed a).clock = s.clock ∧
    (s.startFailed a).regs = s.regs ∧ (s.startFailed a).time = s.time ∧ (s.startFailed a).maps = s.maps ∧
    (s.startFailed a).mem = s.mem ∧ (s.startFailed a).coh = s.coh ∧ (s.startFailed a).boot = s.boot ∧
    (s.startFailed a).sec = s.sec ∧ (s.startFailed a).net = s.net ∧ (s.startFailed a).ms = s.ms ∧
    (s.startFailed a).cr = s.cr ∧ (s.startFailed a).prot = s.prot ∧ (s.startFailed a).dram = s.dram ∧
    (s.startFailed a).flash = s.flash ∧ (s.startFailed a).eng = s.eng ∧ (s.startFailed a).pwr = s.pwr ∧
    (s.startFailed a).isl = s.isl := by
  simp [State.startFailed]

@[simp] theorem State.splitLeaf_frame (s : State) (d : Nat) (first : Nat) (l : Leaf) :
    (s.splitLeaf d first l).pending = s.pending ∧ (s.splitLeaf d first l).free = s.free ∧
    (s.splitLeaf d first l).clock = s.clock ∧ (s.splitLeaf d first l).out = s.out ∧
    (s.splitLeaf d first l).regs = s.regs ∧ (s.splitLeaf d first l).host = s.host ∧
    (s.splitLeaf d first l).time = s.time ∧ (s.splitLeaf d first l).mem = s.mem ∧ (s.splitLeaf d first l).coh = s.coh ∧
    (s.splitLeaf d first l).boot = s.boot ∧ (s.splitLeaf d first l).avail = s.avail ∧
    (s.splitLeaf d first l).sec = s.sec ∧ (s.splitLeaf d first l).net = s.net ∧ (s.splitLeaf d first l).ms = s.ms ∧
    (s.splitLeaf d first l).cr = s.cr ∧ (s.splitLeaf d first l).prot = s.prot ∧ (s.splitLeaf d first l).dram = s.dram ∧
    (s.splitLeaf d first l).flash = s.flash ∧ (s.splitLeaf d first l).eng = s.eng ∧ (s.splitLeaf d first l).pwr = s.pwr ∧
    (s.splitLeaf d first l).isl = s.isl := by
  simp [State.splitLeaf]

@[simp] theorem State.setSsd_frame (s : State) (n : Nat) (x : SsdSlot) :
    (s.setSsd n x).pending = s.pending ∧ (s.setSsd n x).free = s.free ∧ (s.setSsd n x).clock = s.clock ∧
    (s.setSsd n x).out = s.out ∧ (s.setSsd n x).regs = s.regs ∧ (s.setSsd n x).host = s.host ∧
    (s.setSsd n x).time = s.time ∧ (s.setSsd n x).maps = s.maps ∧ (s.setSsd n x).mem = s.mem ∧
    (s.setSsd n x).coh = s.coh ∧ (s.setSsd n x).boot = s.boot ∧ (s.setSsd n x).avail = s.avail ∧
    (s.setSsd n x).sec = s.sec ∧ (s.setSsd n x).net = s.net ∧ (s.setSsd n x).ms = s.ms ∧ (s.setSsd n x).cr = s.cr ∧
    (s.setSsd n x).prot = s.prot ∧ (s.setSsd n x).dram = s.dram ∧ (s.setSsd n x).eng = s.eng ∧
    (s.setSsd n x).pwr = s.pwr ∧ (s.setSsd n x).isl = s.isl := by
  simp [State.setSsd]

@[simp] theorem State.signalAll_frame (s : State) (n : Nat) (reason : Nat) :
    (s.signalAll n reason).pending = s.pending ∧ (s.signalAll n reason).free = s.free ∧
    (s.signalAll n reason).clock = s.clock ∧ (s.signalAll n reason).time = s.time ∧
    (s.signalAll n reason).maps = s.maps ∧ (s.signalAll n reason).mem = s.mem ∧ (s.signalAll n reason).coh = s.coh ∧
    (s.signalAll n reason).boot = s.boot ∧ (s.signalAll n reason).avail = s.avail ∧ (s.signalAll n reason).sec = s.sec ∧
    (s.signalAll n reason).ms = s.ms ∧ (s.signalAll n reason).prot = s.prot ∧ (s.signalAll n reason).dram = s.dram ∧
    (s.signalAll n reason).flash = s.flash ∧ (s.signalAll n reason).eng = s.eng ∧ (s.signalAll n reason).pwr = s.pwr ∧
    (s.signalAll n reason).isl = s.isl := by
  simp only [State.signalAll]
  repeat' (first | (simp; done) | split)

@[simp] theorem State.dropBlock_frame (s : State) (first : Nat) (k : Nat) :
    (s.dropBlock first k).pending = s.pending ∧ (s.dropBlock first k).free = s.free ∧
    (s.dropBlock first k).clock = s.clock ∧ (s.dropBlock first k).time = s.time ∧ (s.dropBlock first k).maps = s.maps ∧
    (s.dropBlock first k).mem = s.mem ∧ (s.dropBlock first k).coh = s.coh ∧ (s.dropBlock first k).boot = s.boot ∧
    (s.dropBlock first k).avail = s.avail ∧ (s.dropBlock first k).sec = s.sec ∧ (s.dropBlock first k).ms = s.ms ∧
    (s.dropBlock first k).prot = s.prot ∧ (s.dropBlock first k).dram = s.dram ∧ (s.dropBlock first k).flash = s.flash ∧
    (s.dropBlock first k).eng = s.eng ∧ (s.dropBlock first k).pwr = s.pwr ∧ (s.dropBlock first k).isl = s.isl := by
  simp [State.dropBlock]

@[simp] theorem State.replayRun_frame (s : State) (n : Nat) :
    (s.replayRun n).pending = s.pending ∧ (s.replayRun n).free = s.free ∧ (s.replayRun n).clock = s.clock ∧
    (s.replayRun n).maps = s.maps ∧ (s.replayRun n).mem = s.mem ∧ (s.replayRun n).coh = s.coh ∧
    (s.replayRun n).boot = s.boot ∧ (s.replayRun n).avail = s.avail ∧ (s.replayRun n).sec = s.sec ∧
    (s.replayRun n).ms = s.ms ∧ (s.replayRun n).cr = s.cr ∧ (s.replayRun n).prot = s.prot ∧
    (s.replayRun n).dram = s.dram ∧ (s.replayRun n).flash = s.flash ∧ (s.replayRun n).eng = s.eng ∧
    (s.replayRun n).pwr = s.pwr ∧ (s.replayRun n).isl = s.isl := by
  simp only [State.replayRun]
  repeat' (first | (simp; done) | split)

@[simp] theorem State.setWthru_frame (s : State) (n : Nat) (on : Bool) :
    (s.setWthru n on).pending = s.pending ∧ (s.setWthru n on).free = s.free ∧ (s.setWthru n on).clock = s.clock ∧
    (s.setWthru n on).out = s.out ∧ (s.setWthru n on).regs = s.regs ∧ (s.setWthru n on).host = s.host ∧
    (s.setWthru n on).time = s.time ∧ (s.setWthru n on).maps = s.maps ∧ (s.setWthru n on).mem = s.mem ∧
    (s.setWthru n on).coh = s.coh ∧ (s.setWthru n on).boot = s.boot ∧ (s.setWthru n on).sec = s.sec ∧
    (s.setWthru n on).net = s.net ∧ (s.setWthru n on).ms = s.ms ∧ (s.setWthru n on).cr = s.cr ∧
    (s.setWthru n on).prot = s.prot ∧ (s.setWthru n on).dram = s.dram ∧ (s.setWthru n on).flash = s.flash ∧
    (s.setWthru n on).eng = s.eng ∧ (s.setWthru n on).pwr = s.pwr ∧ (s.setWthru n on).isl = s.isl := by
  simp [State.setWthru]

@[simp] theorem State.takeEstimate_frame (s : State) (raw : PowerRaw) :
    (s.takeEstimate raw).pending = s.pending ∧ (s.takeEstimate raw).free = s.free ∧
    (s.takeEstimate raw).clock = s.clock ∧ (s.takeEstimate raw).out = s.out ∧ (s.takeEstimate raw).regs = s.regs ∧
    (s.takeEstimate raw).host = s.host ∧ (s.takeEstimate raw).time = s.time ∧ (s.takeEstimate raw).maps = s.maps ∧
    (s.takeEstimate raw).mem = s.mem ∧ (s.takeEstimate raw).coh = s.coh ∧ (s.takeEstimate raw).boot = s.boot ∧
    (s.takeEstimate raw).avail = s.avail ∧ (s.takeEstimate raw).sec = s.sec ∧ (s.takeEstimate raw).net = s.net ∧
    (s.takeEstimate raw).ms = s.ms ∧ (s.takeEstimate raw).cr = s.cr ∧ (s.takeEstimate raw).prot = s.prot ∧
    (s.takeEstimate raw).dram = s.dram ∧ (s.takeEstimate raw).flash = s.flash ∧ (s.takeEstimate raw).isl = s.isl := by
  simp [State.takeEstimate]

@[simp] theorem State.keepFrames_frame (s : State) (fs : List Nat) :
    (s.keepFrames fs).pending = s.pending ∧ (s.keepFrames fs).free = s.free ∧ (s.keepFrames fs).clock = s.clock ∧
    (s.keepFrames fs).out = s.out ∧ (s.keepFrames fs).regs = s.regs ∧ (s.keepFrames fs).host = s.host ∧
    (s.keepFrames fs).time = s.time ∧ (s.keepFrames fs).maps = s.maps ∧ (s.keepFrames fs).mem = s.mem ∧
    (s.keepFrames fs).coh = s.coh ∧ (s.keepFrames fs).boot = s.boot ∧ (s.keepFrames fs).avail = s.avail ∧
    (s.keepFrames fs).sec = s.sec ∧ (s.keepFrames fs).net = s.net ∧ (s.keepFrames fs).ms = s.ms ∧
    (s.keepFrames fs).cr = s.cr ∧ (s.keepFrames fs).dram = s.dram ∧ (s.keepFrames fs).flash = s.flash ∧
    (s.keepFrames fs).eng = s.eng ∧ (s.keepFrames fs).pwr = s.pwr ∧ (s.keepFrames fs).isl = s.isl := by
  simp [State.keepFrames]

@[simp] theorem State.giveEngine_frame (s : State) (n : Nat) (d : Nat) (a : Nat) (e : Nat) :
    (s.giveEngine n d a e).pending = s.pending ∧ (s.giveEngine n d a e).free = s.free ∧
    (s.giveEngine n d a e).clock = s.clock ∧ (s.giveEngine n d a e).out = s.out ∧ (s.giveEngine n d a e).host = s.host ∧
    (s.giveEngine n d a e).time = s.time ∧ (s.giveEngine n d a e).maps = s.maps ∧ (s.giveEngine n d a e).mem = s.mem ∧
    (s.giveEngine n d a e).coh = s.coh ∧ (s.giveEngine n d a e).boot = s.boot ∧ (s.giveEngine n d a e).avail = s.avail ∧
    (s.giveEngine n d a e).sec = s.sec ∧ (s.giveEngine n d a e).net = s.net ∧ (s.giveEngine n d a e).ms = s.ms ∧
    (s.giveEngine n d a e).cr = s.cr ∧ (s.giveEngine n d a e).prot = s.prot ∧ (s.giveEngine n d a e).dram = s.dram ∧
    (s.giveEngine n d a e).flash = s.flash ∧ (s.giveEngine n d a e).pwr = s.pwr ∧ (s.giveEngine n d a e).isl = s.isl := by
  simp [State.giveEngine]

@[simp] theorem State.wakeStep_frame (s : State) (n : Nat) :
    (s.wakeStep n).pending = s.pending ∧ (s.wakeStep n).free = s.free ∧ (s.wakeStep n).clock = s.clock ∧
    (s.wakeStep n).out = s.out ∧ (s.wakeStep n).regs = s.regs ∧ (s.wakeStep n).host = s.host ∧
    (s.wakeStep n).time = s.time ∧ (s.wakeStep n).maps = s.maps ∧ (s.wakeStep n).mem = s.mem ∧
    (s.wakeStep n).coh = s.coh ∧ (s.wakeStep n).boot = s.boot ∧ (s.wakeStep n).avail = s.avail ∧
    (s.wakeStep n).sec = s.sec ∧ (s.wakeStep n).net = s.net ∧ (s.wakeStep n).ms = s.ms ∧ (s.wakeStep n).cr = s.cr ∧
    (s.wakeStep n).prot = s.prot ∧ (s.wakeStep n).dram = s.dram ∧ (s.wakeStep n).flash = s.flash ∧
    (s.wakeStep n).pwr = s.pwr ∧ (s.wakeStep n).isl = s.isl := by
  simp only [State.wakeStep]
  repeat' (first | (simp; done) | split)

@[simp] theorem State.dispatch_frame (s : State) (n : Nat) (j : Job) (c : Nat) (picks : List (Nat × List Nat)) (cost : Nat) :
    (s.dispatch n j c picks cost).pending = s.pending ∧ (s.dispatch n j c picks cost).free = s.free ∧
    (s.dispatch n j c picks cost).clock = s.clock ∧ (s.dispatch n j c picks cost).out = s.out ∧
    (s.dispatch n j c picks cost).host = s.host ∧ (s.dispatch n j c picks cost).time = s.time ∧
    (s.dispatch n j c picks cost).maps = s.maps ∧ (s.dispatch n j c picks cost).mem = s.mem ∧
    (s.dispatch n j c picks cost).coh = s.coh ∧ (s.dispatch n j c picks cost).boot = s.boot ∧
    (s.dispatch n j c picks cost).avail = s.avail ∧ (s.dispatch n j c picks cost).sec = s.sec ∧
    (s.dispatch n j c picks cost).net = s.net ∧ (s.dispatch n j c picks cost).ms = s.ms ∧
    (s.dispatch n j c picks cost).cr = s.cr ∧ (s.dispatch n j c picks cost).prot = s.prot ∧
    (s.dispatch n j c picks cost).dram = s.dram ∧ (s.dispatch n j c picks cost).flash = s.flash ∧
    (s.dispatch n j c picks cost).isl = s.isl := by
  simp [State.dispatch]

theorem State.walk_frame (s : State) (passed : Bool) (x2 : List (Nat × Job)) (t : State) (h :
    (State.walk s passed x2) = some t) : t.pending = s.pending ∧ t.free = s.free ∧ t.clock = s.clock ∧ t.out = s.out ∧ t.host = s.host ∧
    t.time = s.time ∧ t.maps = s.maps ∧ t.mem = s.mem ∧ t.coh = s.coh ∧ t.boot = s.boot ∧ t.avail = s.avail ∧ t.sec = s.sec ∧
    t.net = s.net ∧ t.ms = s.ms ∧ t.cr = s.cr ∧ t.prot = s.prot ∧ t.dram = s.dram ∧ t.flash = s.flash ∧ t.isl = s.isl := by
  induction x2 generalizing passed with
  | nil => cases h
  | cons a l ih =>
    simp only [State.walk] at h
    split at h
    · cases h
      split <;> simp
    · split at h
      · cases h
      · exact ih _ h

@[simp] theorem State.schedule_frame (s : State) (x1 : Nat) :
    (s.schedule x1).pending = s.pending ∧ (s.schedule x1).free = s.free ∧ (s.schedule x1).clock = s.clock ∧
    (s.schedule x1).out = s.out ∧ (s.schedule x1).host = s.host ∧ (s.schedule x1).time = s.time ∧
    (s.schedule x1).maps = s.maps ∧ (s.schedule x1).mem = s.mem ∧ (s.schedule x1).coh = s.coh ∧
    (s.schedule x1).boot = s.boot ∧ (s.schedule x1).avail = s.avail ∧ (s.schedule x1).sec = s.sec ∧
    (s.schedule x1).net = s.net ∧ (s.schedule x1).ms = s.ms ∧ (s.schedule x1).cr = s.cr ∧
    (s.schedule x1).prot = s.prot ∧ (s.schedule x1).dram = s.dram ∧ (s.schedule x1).flash = s.flash ∧
    (s.schedule x1).isl = s.isl := by
  induction x1 generalizing s with
  | zero => simp [State.schedule]
  | succ k ih =>
    simp only [State.schedule]
    split
    · rename_i hw
      simp [ih, State.walk_frame _ _ _ _ hw]
    · simp

@[simp] theorem State.zeroisePort_frame (s : State) (n : Nat) :
    (s.zeroisePort n).pending = s.pending ∧ (s.zeroisePort n).free = s.free ∧ (s.zeroisePort n).clock = s.clock ∧
    (s.zeroisePort n).maps = s.maps ∧ (s.zeroisePort n).mem = s.mem ∧ (s.zeroisePort n).coh = s.coh ∧
    (s.zeroisePort n).boot = s.boot ∧ (s.zeroisePort n).avail = s.avail ∧ (s.zeroisePort n).sec = s.sec ∧
    (s.zeroisePort n).ms = s.ms ∧ (s.zeroisePort n).cr = s.cr ∧ (s.zeroisePort n).prot = s.prot ∧
    (s.zeroisePort n).dram = s.dram ∧ (s.zeroisePort n).flash = s.flash ∧ (s.zeroisePort n).eng = s.eng ∧
    (s.zeroisePort n).pwr = s.pwr ∧ (s.zeroisePort n).isl = s.isl := by
  simp [State.zeroisePort]

@[simp] theorem State.renumberDone_frame (s : State) (d : Nat) :
    (s.renumberDone d).pending = s.pending ∧ (s.renumberDone d).clock = s.clock ∧ (s.renumberDone d).time = s.time ∧
    (s.renumberDone d).mem = s.mem ∧ (s.renumberDone d).coh = s.coh ∧ (s.renumberDone d).boot = s.boot ∧
    (s.renumberDone d).avail = s.avail ∧ (s.renumberDone d).sec = s.sec ∧ (s.renumberDone d).prot = s.prot ∧
    (s.renumberDone d).dram = s.dram ∧ (s.renumberDone d).flash = s.flash ∧ (s.renumberDone d).eng = s.eng ∧
    (s.renumberDone d).pwr = s.pwr ∧ (s.renumberDone d).isl = s.isl := by
  simp only [State.renumberDone]
  repeat' (first | (simp; done) | split)

@[simp] theorem State.startErase_frame (s : State) (d : Nat) (c : Option Cmd) :
    (s.startErase d c).pending = s.pending ∧ (s.startErase d c).clock = s.clock ∧ (s.startErase d c).time = s.time ∧
    (s.startErase d c).mem = s.mem ∧ (s.startErase d c).boot = s.boot ∧ (s.startErase d c).avail = s.avail ∧
    (s.startErase d c).sec = s.sec ∧ (s.startErase d c).prot = s.prot ∧ (s.startErase d c).dram = s.dram ∧
    (s.startErase d c).pwr = s.pwr ∧ (s.startErase d c).isl = s.isl := by
  simp only [State.startErase]
  repeat' (first | (simp; done) | split)

@[simp] theorem State.zeroiseAll_frame (s : State) (c : Cmd) :
    (s.zeroiseAll c).pending = s.pending ∧ (s.zeroiseAll c).clock = s.clock ∧ (s.zeroiseAll c).mem = s.mem ∧
    (s.zeroiseAll c).boot = s.boot ∧ (s.zeroiseAll c).avail = s.avail ∧ (s.zeroiseAll c).prot = s.prot ∧
    (s.zeroiseAll c).dram = s.dram ∧ (s.zeroiseAll c).pwr = s.pwr ∧ (s.zeroiseAll c).isl = s.isl := by
  simp [State.zeroiseAll]

@[simp] theorem State.interrupt_frame (s : State) (a : Nat) (e : Nat) :
    (s.interrupt a e).pending = s.pending ∧ (s.interrupt a e).free = s.free ∧ (s.interrupt a e).clock = s.clock ∧
    (s.interrupt a e).out = s.out ∧ (s.interrupt a e).host = s.host ∧ (s.interrupt a e).time = s.time ∧
    (s.interrupt a e).maps = s.maps ∧ (s.interrupt a e).mem = s.mem ∧ (s.interrupt a e).coh = s.coh ∧
    (s.interrupt a e).boot = s.boot ∧ (s.interrupt a e).avail = s.avail ∧ (s.interrupt a e).sec = s.sec ∧
    (s.interrupt a e).net = s.net ∧ (s.interrupt a e).ms = s.ms ∧ (s.interrupt a e).cr = s.cr ∧
    (s.interrupt a e).prot = s.prot ∧ (s.interrupt a e).dram = s.dram ∧ (s.interrupt a e).flash = s.flash ∧
    (s.interrupt a e).pwr = s.pwr ∧ (s.interrupt a e).isl = s.isl := by
  simp only [State.interrupt]
  repeat' (first | (simp; done) | split)

@[simp] theorem State.slotArrive_frame (s : State) (n : Nat) :
    (s.slotArrive n).pending = s.pending ∧ (s.slotArrive n).free = s.free ∧ (s.slotArrive n).clock = s.clock ∧
    (s.slotArrive n).out = s.out ∧ (s.slotArrive n).regs = s.regs ∧ (s.slotArrive n).host = s.host ∧
    (s.slotArrive n).time = s.time ∧ (s.slotArrive n).maps = s.maps ∧ (s.slotArrive n).mem = s.mem ∧
    (s.slotArrive n).coh = s.coh ∧ (s.slotArrive n).boot = s.boot ∧ (s.slotArrive n).avail = s.avail ∧
    (s.slotArrive n).sec = s.sec ∧ (s.slotArrive n).net = s.net ∧ (s.slotArrive n).ms = s.ms ∧
    (s.slotArrive n).cr = s.cr ∧ (s.slotArrive n).prot = s.prot ∧ (s.slotArrive n).dram = s.dram ∧
    (s.slotArrive n).eng = s.eng ∧ (s.slotArrive n).pwr = s.pwr ∧ (s.slotArrive n).isl = s.isl := by
  simp [State.slotArrive]

@[simp] theorem Fill.take_frame (f : Fill) (n : Nat) (q : Queued) :
    (f.take n q).s.pending = f.s.pending ∧ (f.take n q).s.free = f.s.free ∧ (f.take n q).s.clock = f.s.clock ∧
    (f.take n q).s.out = f.s.out ∧ (f.take n q).s.host = f.s.host ∧ (f.take n q).s.time = f.s.time ∧ (f.take n q).s.maps = f.s.maps ∧
    (f.take n q).s.mem = f.s.mem ∧ (f.take n q).s.coh = f.s.coh ∧ (f.take n q).s.boot = f.s.boot ∧ (f.take n q).s.avail = f.s.avail ∧
    (f.take n q).s.sec = f.s.sec ∧ (f.take n q).s.ms = f.s.ms ∧ (f.take n q).s.cr = f.s.cr ∧ (f.take n q).s.prot = f.s.prot ∧
    (f.take n q).s.dram = f.s.dram ∧ (f.take n q).s.flash = f.s.flash ∧ (f.take n q).s.eng = f.s.eng ∧ (f.take n q).s.pwr = f.s.pwr ∧
    (f.take n q).s.isl = f.s.isl := by
  simp [Fill.take]

@[simp] theorem Fill.oldest_frame (f : Fill) (n : Nat) (ok : State → Queued → Bool) (k : Nat) :
    (f.oldest n ok k).s.pending = f.s.pending ∧ (f.oldest n ok k).s.free = f.s.free ∧ (f.oldest n ok k).s.clock = f.s.clock ∧
    (f.oldest n ok k).s.out = f.s.out ∧ (f.oldest n ok k).s.host = f.s.host ∧ (f.oldest n ok k).s.time = f.s.time ∧
    (f.oldest n ok k).s.maps = f.s.maps ∧ (f.oldest n ok k).s.mem = f.s.mem ∧ (f.oldest n ok k).s.coh = f.s.coh ∧
    (f.oldest n ok k).s.boot = f.s.boot ∧ (f.oldest n ok k).s.avail = f.s.avail ∧ (f.oldest n ok k).s.sec = f.s.sec ∧
    (f.oldest n ok k).s.ms = f.s.ms ∧ (f.oldest n ok k).s.cr = f.s.cr ∧ (f.oldest n ok k).s.prot = f.s.prot ∧
    (f.oldest n ok k).s.dram = f.s.dram ∧ (f.oldest n ok k).s.flash = f.s.flash ∧ (f.oldest n ok k).s.eng = f.s.eng ∧
    (f.oldest n ok k).s.pwr = f.s.pwr ∧ (f.oldest n ok k).s.isl = f.s.isl := by
  induction k generalizing f with
  | zero => simp [Fill.oldest]
  | succ k ih =>
    simp only [Fill.oldest]
    repeat' (first | (simp [ih]; done) | split)

@[simp] theorem Fill.open_frame (f : Fill) (n : Nat) (k : Nat) :
    (f.open n k).s.pending = f.s.pending ∧ (f.open n k).s.free = f.s.free ∧ (f.open n k).s.clock = f.s.clock ∧
    (f.open n k).s.out = f.s.out ∧ (f.open n k).s.host = f.s.host ∧ (f.open n k).s.time = f.s.time ∧ (f.open n k).s.maps = f.s.maps ∧
    (f.open n k).s.mem = f.s.mem ∧ (f.open n k).s.coh = f.s.coh ∧ (f.open n k).s.boot = f.s.boot ∧ (f.open n k).s.avail = f.s.avail ∧
    (f.open n k).s.sec = f.s.sec ∧ (f.open n k).s.ms = f.s.ms ∧ (f.open n k).s.cr = f.s.cr ∧ (f.open n k).s.prot = f.s.prot ∧
    (f.open n k).s.dram = f.s.dram ∧ (f.open n k).s.flash = f.s.flash ∧ (f.open n k).s.eng = f.s.eng ∧ (f.open n k).s.pwr = f.s.pwr ∧
    (f.open n k).s.isl = f.s.isl := by
  induction k generalizing f with
  | zero => simp [Fill.open]
  | succ k ih =>
    simp only [Fill.open]
    repeat' (first | (simp [ih]; done) | split)

@[simp] theorem State.markSpill_frame (s : State) (n : Nat) :
    (s.markSpill n).pending = s.pending ∧ (s.markSpill n).free = s.free ∧ (s.markSpill n).clock = s.clock ∧
    (s.markSpill n).out = s.out ∧ (s.markSpill n).regs = s.regs ∧ (s.markSpill n).host = s.host ∧
    (s.markSpill n).time = s.time ∧ (s.markSpill n).maps = s.maps ∧ (s.markSpill n).mem = s.mem ∧
    (s.markSpill n).coh = s.coh ∧ (s.markSpill n).boot = s.boot ∧ (s.markSpill n).avail = s.avail ∧
    (s.markSpill n).sec = s.sec ∧ (s.markSpill n).ms = s.ms ∧ (s.markSpill n).cr = s.cr ∧
    (s.markSpill n).prot = s.prot ∧ (s.markSpill n).dram = s.dram ∧ (s.markSpill n).flash = s.flash ∧
    (s.markSpill n).eng = s.eng ∧ (s.markSpill n).pwr = s.pwr ∧ (s.markSpill n).isl = s.isl := by
  simp only [State.markSpill]
  (repeat' apply And.intro) <;> repeat' (first | (simp; done) | split | refine (foldl_keeps _ _ _ _ (fun _ _ => ?_)).trans ?_ | simp)

@[simp] theorem Fill.classes_frame (f : Fill) (n : Nat) :
    (f.classes n).1.s.pending = f.s.pending ∧ (f.classes n).1.s.free = f.s.free ∧ (f.classes n).1.s.clock = f.s.clock ∧
    (f.classes n).1.s.out = f.s.out ∧ (f.classes n).1.s.host = f.s.host ∧ (f.classes n).1.s.time = f.s.time ∧
    (f.classes n).1.s.maps = f.s.maps ∧ (f.classes n).1.s.mem = f.s.mem ∧ (f.classes n).1.s.coh = f.s.coh ∧
    (f.classes n).1.s.boot = f.s.boot ∧ (f.classes n).1.s.avail = f.s.avail ∧ (f.classes n).1.s.sec = f.s.sec ∧
    (f.classes n).1.s.ms = f.s.ms ∧ (f.classes n).1.s.cr = f.s.cr ∧ (f.classes n).1.s.prot = f.s.prot ∧ (f.classes n).1.s.dram = f.s.dram ∧
    (f.classes n).1.s.flash = f.s.flash ∧ (f.classes n).1.s.eng = f.s.eng ∧ (f.classes n).1.s.pwr = f.s.pwr ∧
    (f.classes n).1.s.isl = f.s.isl := by
  simp only [Fill.classes]
  repeat' (first | (simp; done) | split)

@[simp] theorem State.sendSettle_frame (s : State) (dst : Nat) (tag : Nat) (reason : Nat) :
    (s.sendSettle dst tag reason).pending = s.pending ∧ (s.sendSettle dst tag reason).free = s.free ∧
    (s.sendSettle dst tag reason).clock = s.clock ∧ (s.sendSettle dst tag reason).time = s.time ∧
    (s.sendSettle dst tag reason).maps = s.maps ∧ (s.sendSettle dst tag reason).mem = s.mem ∧
    (s.sendSettle dst tag reason).coh = s.coh ∧ (s.sendSettle dst tag reason).boot = s.boot ∧
    (s.sendSettle dst tag reason).avail = s.avail ∧ (s.sendSettle dst tag reason).sec = s.sec ∧
    (s.sendSettle dst tag reason).ms = s.ms ∧ (s.sendSettle dst tag reason).cr = s.cr ∧
    (s.sendSettle dst tag reason).prot = s.prot ∧ (s.sendSettle dst tag reason).dram = s.dram ∧
    (s.sendSettle dst tag reason).flash = s.flash ∧ (s.sendSettle dst tag reason).eng = s.eng ∧
    (s.sendSettle dst tag reason).pwr = s.pwr ∧ (s.sendSettle dst tag reason).isl = s.isl := by
  simp [State.sendSettle]

@[simp] theorem State.releaseLines_frame (s : State) (ls : List Nat) :
    (s.releaseLines ls).pending = s.pending ∧ (s.releaseLines ls).clock = s.clock ∧ (s.releaseLines ls).time = s.time ∧
    (s.releaseLines ls).boot = s.boot ∧ (s.releaseLines ls).avail = s.avail ∧ (s.releaseLines ls).sec = s.sec ∧
    (s.releaseLines ls).cr = s.cr ∧ (s.releaseLines ls).flash = s.flash ∧ (s.releaseLines ls).eng = s.eng ∧
    (s.releaseLines ls).pwr = s.pwr ∧ (s.releaseLines ls).isl = s.isl := by
  simp [State.releaseLines]

@[simp] theorem State.settleEarly_frame (s : State) (e : Early) :
    (s.settleEarly e).pending = s.pending ∧ (s.settleEarly e).clock = s.clock ∧ (s.settleEarly e).time = s.time ∧
    (s.settleEarly e).boot = s.boot ∧ (s.settleEarly e).avail = s.avail ∧ (s.settleEarly e).sec = s.sec ∧
    (s.settleEarly e).cr = s.cr ∧ (s.settleEarly e).flash = s.flash ∧ (s.settleEarly e).eng = s.eng ∧
    (s.settleEarly e).pwr = s.pwr ∧ (s.settleEarly e).isl = s.isl := by
  simp only [State.settleEarly]
  (repeat' apply And.intro) <;> repeat' (first | (simp; done) | split | refine (foldl_keeps _ _ _ _ (fun _ _ => ?_)).trans ?_ | simp)

@[simp] theorem State.freeHeld_frame (s : State) (d : Nat) :
    (s.freeHeld d).pending = s.pending ∧ (s.freeHeld d).free = s.free ∧ (s.freeHeld d).clock = s.clock ∧
    (s.freeHeld d).out = s.out ∧ (s.freeHeld d).regs = s.regs ∧ (s.freeHeld d).host = s.host ∧
    (s.freeHeld d).time = s.time ∧ (s.freeHeld d).maps = s.maps ∧ (s.freeHeld d).mem = s.mem ∧
    (s.freeHeld d).coh = s.coh ∧ (s.freeHeld d).boot = s.boot ∧ (s.freeHeld d).avail = s.avail ∧
    (s.freeHeld d).sec = s.sec ∧ (s.freeHeld d).net = s.net ∧ (s.freeHeld d).ms = s.ms ∧ (s.freeHeld d).cr = s.cr ∧
    (s.freeHeld d).prot = s.prot ∧ (s.freeHeld d).dram = s.dram ∧ (s.freeHeld d).flash = s.flash ∧
    (s.freeHeld d).pwr = s.pwr ∧ (s.freeHeld d).isl = s.isl := by
  simp [State.freeHeld]

@[simp] theorem State.pollOne_frame (s : State) (rail : Nat) (answer : Option Nat) :
    (s.pollOne rail answer).pending = s.pending ∧ (s.pollOne rail answer).free = s.free ∧
    (s.pollOne rail answer).clock = s.clock ∧ (s.pollOne rail answer).regs = s.regs ∧
    (s.pollOne rail answer).time = s.time ∧ (s.pollOne rail answer).maps = s.maps ∧ (s.pollOne rail answer).mem = s.mem ∧
    (s.pollOne rail answer).coh = s.coh ∧ (s.pollOne rail answer).boot = s.boot ∧
    (s.pollOne rail answer).avail = s.avail ∧ (s.pollOne rail answer).sec = s.sec ∧ (s.pollOne rail answer).net = s.net ∧
    (s.pollOne rail answer).ms = s.ms ∧ (s.pollOne rail answer).cr = s.cr ∧ (s.pollOne rail answer).prot = s.prot ∧
    (s.pollOne rail answer).dram = s.dram ∧ (s.pollOne rail answer).flash = s.flash ∧
    (s.pollOne rail answer).eng = s.eng ∧ (s.pollOne rail answer).isl = s.isl := by
  simp only [State.pollOne]
  repeat' (first | (simp; done) | split)

@[simp] theorem State.addEvent_frame (s : State) (e : Event) :
    (s.addEvent e).pending = s.pending ∧ (s.addEvent e).free = s.free ∧ (s.addEvent e).clock = s.clock ∧
    (s.addEvent e).out = s.out ∧ (s.addEvent e).regs = s.regs ∧ (s.addEvent e).host = s.host ∧
    (s.addEvent e).maps = s.maps ∧ (s.addEvent e).mem = s.mem ∧ (s.addEvent e).coh = s.coh ∧
    (s.addEvent e).boot = s.boot ∧ (s.addEvent e).avail = s.avail ∧ (s.addEvent e).sec = s.sec ∧
    (s.addEvent e).net = s.net ∧ (s.addEvent e).ms = s.ms ∧ (s.addEvent e).cr = s.cr ∧
    (s.addEvent e).prot = s.prot ∧ (s.addEvent e).dram = s.dram ∧ (s.addEvent e).flash = s.flash ∧
    (s.addEvent e).eng = s.eng ∧ (s.addEvent e).pwr = s.pwr ∧ (s.addEvent e).isl = s.isl := by
  simp [State.addEvent]

@[simp] theorem State.endOpt_frame (s : State) (c : Option Cmd) (x : Stop) :
    (s.endOpt c x).pending = s.pending ∧ (s.endOpt c x).clock = s.clock ∧ (s.endOpt c x).time = s.time ∧
    (s.endOpt c x).maps = s.maps ∧ (s.endOpt c x).mem = s.mem ∧ (s.endOpt c x).coh = s.coh ∧
    (s.endOpt c x).boot = s.boot ∧ (s.endOpt c x).avail = s.avail ∧ (s.endOpt c x).sec = s.sec ∧
    (s.endOpt c x).ms = s.ms ∧ (s.endOpt c x).prot = s.prot ∧ (s.endOpt c x).dram = s.dram ∧
    (s.endOpt c x).flash = s.flash ∧ (s.endOpt c x).eng = s.eng ∧ (s.endOpt c x).pwr = s.pwr ∧
    (s.endOpt c x).isl = s.isl := by
  simp only [State.endOpt]
  repeat' (first | (simp; done) | split)

@[simp] theorem State.endRoll_frame (s : State) (detail : Nat) :
    (s.endRoll detail).pending = s.pending ∧ (s.endRoll detail).clock = s.clock ∧ (s.endRoll detail).time = s.time ∧
    (s.endRoll detail).maps = s.maps ∧ (s.endRoll detail).mem = s.mem ∧ (s.endRoll detail).coh = s.coh ∧
    (s.endRoll detail).boot = s.boot ∧ (s.endRoll detail).sec = s.sec ∧ (s.endRoll detail).ms = s.ms ∧
    (s.endRoll detail).prot = s.prot ∧ (s.endRoll detail).dram = s.dram ∧ (s.endRoll detail).flash = s.flash ∧
    (s.endRoll detail).eng = s.eng ∧ (s.endRoll detail).pwr = s.pwr ∧ (s.endRoll detail).isl = s.isl := by
  simp only [State.endRoll]
  repeat' (first | (simp; done) | split)

@[simp] theorem State.setCore_frame (s : State) (p : Nat) (x : Core) :
    (s.setCore p x).pending = s.pending ∧ (s.setCore p x).free = s.free ∧ (s.setCore p x).clock = s.clock ∧
    (s.setCore p x).out = s.out ∧ (s.setCore p x).regs = s.regs ∧ (s.setCore p x).host = s.host ∧
    (s.setCore p x).time = s.time ∧ (s.setCore p x).maps = s.maps ∧ (s.setCore p x).mem = s.mem ∧
    (s.setCore p x).coh = s.coh ∧ (s.setCore p x).boot = s.boot ∧ (s.setCore p x).sec = s.sec ∧
    (s.setCore p x).net = s.net ∧ (s.setCore p x).ms = s.ms ∧ (s.setCore p x).cr = s.cr ∧
    (s.setCore p x).prot = s.prot ∧ (s.setCore p x).dram = s.dram ∧ (s.setCore p x).flash = s.flash ∧
    (s.setCore p x).eng = s.eng ∧ (s.setCore p x).pwr = s.pwr ∧ (s.setCore p x).isl = s.isl := by
  simp [State.setCore]

@[simp] theorem State.startSwap_frame (s : State) (p : Nat) (forced : Bool) (cmd : Option Cmd) :
    (s.startSwap p forced cmd).pending = s.pending ∧ (s.startSwap p forced cmd).clock = s.clock ∧
    (s.startSwap p forced cmd).time = s.time ∧ (s.startSwap p forced cmd).maps = s.maps ∧
    (s.startSwap p forced cmd).mem = s.mem ∧ (s.startSwap p forced cmd).coh = s.coh ∧
    (s.startSwap p forced cmd).boot = s.boot ∧ (s.startSwap p forced cmd).sec = s.sec ∧
    (s.startSwap p forced cmd).ms = s.ms ∧ (s.startSwap p forced cmd).prot = s.prot ∧
    (s.startSwap p forced cmd).dram = s.dram ∧ (s.startSwap p forced cmd).flash = s.flash ∧
    (s.startSwap p forced cmd).eng = s.eng ∧ (s.startSwap p forced cmd).pwr = s.pwr ∧
    (s.startSwap p forced cmd).isl = s.isl := by
  simp [State.startSwap]

@[simp] theorem State.roleSwapNow_frame (s : State) (p : Nat) (forced : Bool) (cmd : Option Cmd) :
    (s.roleSwapNow p forced cmd).pending = s.pending ∧ (s.roleSwapNow p forced cmd).clock = s.clock ∧
    (s.roleSwapNow p forced cmd).maps = s.maps ∧ (s.roleSwapNow p forced cmd).mem = s.mem ∧
    (s.roleSwapNow p forced cmd).coh = s.coh ∧ (s.roleSwapNow p forced cmd).boot = s.boot ∧
    (s.roleSwapNow p forced cmd).sec = s.sec ∧ (s.roleSwapNow p forced cmd).ms = s.ms ∧
    (s.roleSwapNow p forced cmd).prot = s.prot ∧ (s.roleSwapNow p forced cmd).dram = s.dram ∧
    (s.roleSwapNow p forced cmd).flash = s.flash ∧ (s.roleSwapNow p forced cmd).eng = s.eng ∧
    (s.roleSwapNow p forced cmd).pwr = s.pwr ∧ (s.roleSwapNow p forced cmd).isl = s.isl := by
  simp [State.roleSwapNow]

@[simp] theorem State.dropRef_frame (s : State) (e : MapEnt) :
    (s.dropRef e).1.pending = s.pending ∧ (s.dropRef e).1.free = s.free ∧ (s.dropRef e).1.clock = s.clock ∧
    (s.dropRef e).1.out = s.out ∧ (s.dropRef e).1.regs = s.regs ∧ (s.dropRef e).1.host = s.host ∧
    (s.dropRef e).1.time = s.time ∧ (s.dropRef e).1.maps = s.maps ∧ (s.dropRef e).1.mem = s.mem ∧
    (s.dropRef e).1.coh = s.coh ∧ (s.dropRef e).1.boot = s.boot ∧ (s.dropRef e).1.avail = s.avail ∧
    (s.dropRef e).1.sec = s.sec ∧ (s.dropRef e).1.net = s.net ∧ (s.dropRef e).1.cr = s.cr ∧
    (s.dropRef e).1.prot = s.prot ∧ (s.dropRef e).1.dram = s.dram ∧ (s.dropRef e).1.flash = s.flash ∧
    (s.dropRef e).1.eng = s.eng ∧ (s.dropRef e).1.pwr = s.pwr ∧ (s.dropRef e).1.isl = s.isl := by
  simp only [State.dropRef]
  repeat' (first | (simp; done) | split)

@[simp] theorem State.dropRefs_frame (s : State) (x1 : List MapEnt) :
    (s.dropRefs x1).1.pending = s.pending ∧ (s.dropRefs x1).1.free = s.free ∧ (s.dropRefs x1).1.clock = s.clock ∧
    (s.dropRefs x1).1.out = s.out ∧ (s.dropRefs x1).1.regs = s.regs ∧ (s.dropRefs x1).1.host = s.host ∧
    (s.dropRefs x1).1.time = s.time ∧ (s.dropRefs x1).1.maps = s.maps ∧ (s.dropRefs x1).1.mem = s.mem ∧
    (s.dropRefs x1).1.coh = s.coh ∧ (s.dropRefs x1).1.boot = s.boot ∧ (s.dropRefs x1).1.avail = s.avail ∧
    (s.dropRefs x1).1.sec = s.sec ∧ (s.dropRefs x1).1.net = s.net ∧ (s.dropRefs x1).1.cr = s.cr ∧
    (s.dropRefs x1).1.prot = s.prot ∧ (s.dropRefs x1).1.dram = s.dram ∧ (s.dropRefs x1).1.flash = s.flash ∧
    (s.dropRefs x1).1.eng = s.eng ∧ (s.dropRefs x1).1.pwr = s.pwr ∧ (s.dropRefs x1).1.isl = s.isl := by
  induction x1 generalizing s with
  | nil => simp [State.dropRefs]
  | cons a l ih => simp [State.dropRefs, ih]

@[simp] theorem State.freeMs_frame (s : State) (d : Nat) (slot : Nat) :
    (s.freeMs d slot).pending = s.pending ∧ (s.freeMs d slot).free = s.free ∧ (s.freeMs d slot).clock = s.clock ∧
    (s.freeMs d slot).out = s.out ∧ (s.freeMs d slot).regs = s.regs ∧ (s.freeMs d slot).host = s.host ∧
    (s.freeMs d slot).time = s.time ∧ (s.freeMs d slot).maps = s.maps ∧ (s.freeMs d slot).mem = s.mem ∧
    (s.freeMs d slot).coh = s.coh ∧ (s.freeMs d slot).boot = s.boot ∧ (s.freeMs d slot).avail = s.avail ∧
    (s.freeMs d slot).sec = s.sec ∧ (s.freeMs d slot).net = s.net ∧ (s.freeMs d slot).cr = s.cr ∧
    (s.freeMs d slot).prot = s.prot ∧ (s.freeMs d slot).dram = s.dram ∧ (s.freeMs d slot).flash = s.flash ∧
    (s.freeMs d slot).eng = s.eng ∧ (s.freeMs d slot).pwr = s.pwr ∧ (s.freeMs d slot).isl = s.isl := by
  simp [State.freeMs]

@[simp] theorem State.trainChan_frame (s : State) (g : TrainResult) (t : TrainResult) :
    (s.trainChan g t).pending = s.pending ∧ (s.trainChan g t).free = s.free ∧ (s.trainChan g t).clock = s.clock ∧
    (s.trainChan g t).regs = s.regs ∧ (s.trainChan g t).time = s.time ∧ (s.trainChan g t).maps = s.maps ∧
    (s.trainChan g t).mem = s.mem ∧ (s.trainChan g t).coh = s.coh ∧ (s.trainChan g t).boot = s.boot ∧
    (s.trainChan g t).avail = s.avail ∧ (s.trainChan g t).sec = s.sec ∧ (s.trainChan g t).net = s.net ∧
    (s.trainChan g t).ms = s.ms ∧ (s.trainChan g t).cr = s.cr ∧ (s.trainChan g t).flash = s.flash ∧
    (s.trainChan g t).eng = s.eng ∧ (s.trainChan g t).pwr = s.pwr ∧ (s.trainChan g t).isl = s.isl := by
  simp [State.trainChan]

@[simp] theorem State.startHandover_frame (s : State) (n : Nat) (outAv : Nat) (inAv : Nat) (instant : Nat) (retire : Bool)
    (cmd : Option Cmd) :
    (s.startHandover n outAv inAv instant retire cmd).pending = s.pending ∧
    (s.startHandover n outAv inAv instant retire cmd).free = s.free ∧
    (s.startHandover n outAv inAv instant retire cmd).clock = s.clock ∧
    (s.startHandover n outAv inAv instant retire cmd).out = s.out ∧
    (s.startHandover n outAv inAv instant retire cmd).regs = s.regs ∧
    (s.startHandover n outAv inAv instant retire cmd).host = s.host ∧
    (s.startHandover n outAv inAv instant retire cmd).maps = s.maps ∧
    (s.startHandover n outAv inAv instant retire cmd).mem = s.mem ∧
    (s.startHandover n outAv inAv instant retire cmd).coh = s.coh ∧
    (s.startHandover n outAv inAv instant retire cmd).boot = s.boot ∧
    (s.startHandover n outAv inAv instant retire cmd).sec = s.sec ∧
    (s.startHandover n outAv inAv instant retire cmd).net = s.net ∧
    (s.startHandover n outAv inAv instant retire cmd).ms = s.ms ∧ (s.startHandover n outAv inAv instant retire cmd).cr = s.cr ∧
    (s.startHandover n outAv inAv instant retire cmd).prot = s.prot ∧
    (s.startHandover n outAv inAv instant retire cmd).dram = s.dram ∧
    (s.startHandover n outAv inAv instant retire cmd).flash = s.flash ∧
    (s.startHandover n outAv inAv instant retire cmd).eng = s.eng ∧
    (s.startHandover n outAv inAv instant retire cmd).pwr = s.pwr ∧
    (s.startHandover n outAv inAv instant retire cmd).isl = s.isl := by
  simp [State.startHandover]

@[simp] theorem State.admitGo_frame (s : State) :
    s.admitGo.pending = s.pending ∧ s.admitGo.clock = s.clock ∧ s.admitGo.maps = s.maps ∧
    s.admitGo.mem = s.mem ∧ s.admitGo.coh = s.coh ∧ s.admitGo.boot = s.boot ∧ s.admitGo.sec = s.sec ∧
    s.admitGo.ms = s.ms ∧ s.admitGo.prot = s.prot ∧ s.admitGo.dram = s.dram ∧ s.admitGo.flash = s.flash ∧
    s.admitGo.eng = s.eng ∧ s.admitGo.pwr = s.pwr ∧ s.admitGo.isl = s.isl := by
  simp only [State.admitGo]
  repeat' (first | (simp; done) | split)

@[simp] theorem State.stepKey_frame (s : State) (n : Nat) :
    (s.stepKey n).pending = s.pending ∧ (s.stepKey n).free = s.free ∧ (s.stepKey n).clock = s.clock ∧
    (s.stepKey n).regs = s.regs ∧ (s.stepKey n).time = s.time ∧ (s.stepKey n).maps = s.maps ∧
    (s.stepKey n).mem = s.mem ∧ (s.stepKey n).coh = s.coh ∧ (s.stepKey n).boot = s.boot ∧
    (s.stepKey n).avail = s.avail ∧ (s.stepKey n).sec = s.sec ∧ (s.stepKey n).ms = s.ms ∧ (s.stepKey n).cr = s.cr ∧
    (s.stepKey n).prot = s.prot ∧ (s.stepKey n).dram = s.dram ∧ (s.stepKey n).flash = s.flash ∧
    (s.stepKey n).eng = s.eng ∧ (s.stepKey n).pwr = s.pwr ∧ (s.stepKey n).isl = s.isl := by
  simp [State.stepKey]

@[simp] theorem State.freeRun_frame (s : State) (a : Nat) (run : Nat) (strength : Nat) :
    (s.freeRun a run strength).pending = s.pending ∧ (s.freeRun a run strength).free = s.free ∧
    (s.freeRun a run strength).clock = s.clock ∧ (s.freeRun a run strength).out = s.out ∧
    (s.freeRun a run strength).regs = s.regs ∧ (s.freeRun a run strength).host = s.host ∧
    (s.freeRun a run strength).time = s.time ∧ (s.freeRun a run strength).mem = s.mem ∧
    (s.freeRun a run strength).coh = s.coh ∧ (s.freeRun a run strength).boot = s.boot ∧
    (s.freeRun a run strength).avail = s.avail ∧ (s.freeRun a run strength).sec = s.sec ∧
    (s.freeRun a run strength).net = s.net ∧ (s.freeRun a run strength).ms = s.ms ∧
    (s.freeRun a run strength).cr = s.cr ∧ (s.freeRun a run strength).prot = s.prot ∧
    (s.freeRun a run strength).dram = s.dram ∧ (s.freeRun a run strength).flash = s.flash ∧
    (s.freeRun a run strength).eng = s.eng ∧ (s.freeRun a run strength).pwr = s.pwr ∧
    (s.freeRun a run strength).isl = s.isl := by
  simp [State.freeRun]

@[simp] theorem State.serviceChans_frame (s : State) (n : Nat) :
    (s.serviceChans n).pending = s.pending ∧ (s.serviceChans n).free = s.free ∧ (s.serviceChans n).clock = s.clock ∧
    (s.serviceChans n).out = s.out ∧ (s.serviceChans n).regs = s.regs ∧ (s.serviceChans n).host = s.host ∧
    (s.serviceChans n).time = s.time ∧ (s.serviceChans n).maps = s.maps ∧ (s.serviceChans n).mem = s.mem ∧
    (s.serviceChans n).coh = s.coh ∧ (s.serviceChans n).boot = s.boot ∧ (s.serviceChans n).avail = s.avail ∧
    (s.serviceChans n).sec = s.sec ∧ (s.serviceChans n).net = s.net ∧ (s.serviceChans n).ms = s.ms ∧
    (s.serviceChans n).cr = s.cr ∧ (s.serviceChans n).prot = s.prot ∧ (s.serviceChans n).flash = s.flash ∧
    (s.serviceChans n).eng = s.eng ∧ (s.serviceChans n).pwr = s.pwr ∧ (s.serviceChans n).isl = s.isl := by
  simp [State.serviceChans]

@[simp] theorem State.endSessions_frame (s : State) :
    s.endSessions.pending = s.pending ∧ s.endSessions.free = s.free ∧ s.endSessions.clock = s.clock ∧
    s.endSessions.regs = s.regs ∧ s.endSessions.time = s.time ∧ s.endSessions.maps = s.maps ∧
    s.endSessions.mem = s.mem ∧ s.endSessions.coh = s.coh ∧ s.endSessions.boot = s.boot ∧
    s.endSessions.avail = s.avail ∧ s.endSessions.net = s.net ∧ s.endSessions.ms = s.ms ∧
    s.endSessions.cr = s.cr ∧ s.endSessions.prot = s.prot ∧ s.endSessions.dram = s.dram ∧
    s.endSessions.flash = s.flash ∧ s.endSessions.eng = s.eng ∧ s.endSessions.pwr = s.pwr ∧
    s.endSessions.isl = s.isl := by
  simp [State.endSessions]

@[simp] theorem State.rollNext_frame (s : State) :
    s.rollNext.pending = s.pending ∧ s.rollNext.free = s.free ∧ s.rollNext.clock = s.clock ∧
    s.rollNext.out = s.out ∧ s.rollNext.regs = s.regs ∧ s.rollNext.host = s.host ∧
    s.rollNext.maps = s.maps ∧ s.rollNext.mem = s.mem ∧ s.rollNext.coh = s.coh ∧ s.rollNext.boot = s.boot ∧
    s.rollNext.avail = s.avail ∧ s.rollNext.sec = s.sec ∧ s.rollNext.net = s.net ∧ s.rollNext.ms = s.ms ∧
    s.rollNext.cr = s.cr ∧ s.rollNext.prot = s.prot ∧ s.rollNext.dram = s.dram ∧
    s.rollNext.flash = s.flash ∧ s.rollNext.eng = s.eng ∧ s.rollNext.pwr = s.pwr ∧
    s.rollNext.isl = s.isl := by
  simp only [State.rollNext]
  repeat' (first | (simp; done) | split)

@[simp] theorem State.rollRotated_frame (s : State) (h : Handover) :
    (s.rollRotated h).pending = s.pending ∧ (s.rollRotated h).free = s.free ∧ (s.rollRotated h).clock = s.clock ∧
    (s.rollRotated h).regs = s.regs ∧ (s.rollRotated h).maps = s.maps ∧ (s.rollRotated h).mem = s.mem ∧
    (s.rollRotated h).coh = s.coh ∧ (s.rollRotated h).boot = s.boot ∧ (s.rollRotated h).net = s.net ∧
    (s.rollRotated h).ms = s.ms ∧ (s.rollRotated h).cr = s.cr ∧ (s.rollRotated h).prot = s.prot ∧
    (s.rollRotated h).dram = s.dram ∧ (s.rollRotated h).flash = s.flash ∧ (s.rollRotated h).eng = s.eng ∧
    (s.rollRotated h).pwr = s.pwr ∧ (s.rollRotated h).isl = s.isl := by
  simp only [State.rollRotated]
  (repeat' apply And.intro) <;> repeat' (first | (simp; done) | split | refine (foldl_keeps _ _ _ _ (fun _ _ => ?_)).trans ?_ | simp)

@[simp] theorem State.pick_frame (s : State) (c : Cmd) :
    (s.pick c).pending = s.pending ∧ (s.pick c).free = s.free ∧ (s.pick c).clock = s.clock ∧
    (s.pick c).out = s.out ∧ (s.pick c).regs = s.regs ∧ (s.pick c).time = s.time ∧ (s.pick c).maps = s.maps ∧
    (s.pick c).mem = s.mem ∧ (s.pick c).coh = s.coh ∧ (s.pick c).boot = s.boot ∧ (s.pick c).avail = s.avail ∧
    (s.pick c).sec = s.sec ∧ (s.pick c).net = s.net ∧ (s.pick c).ms = s.ms ∧ (s.pick c).cr = s.cr ∧
    (s.pick c).prot = s.prot ∧ (s.pick c).dram = s.dram ∧ (s.pick c).flash = s.flash ∧ (s.pick c).eng = s.eng ∧
    (s.pick c).pwr = s.pwr ∧ (s.pick c).isl = s.isl := by
  simp [State.pick]

@[simp] theorem State.refusalNotice_frame (s : State) (c : Cmd) (x : Stop) :
    (s.refusalNotice c x).pending = s.pending ∧ (s.refusalNotice c x).free = s.free ∧
    (s.refusalNotice c x).clock = s.clock ∧ (s.refusalNotice c x).regs = s.regs ∧ (s.refusalNotice c x).time = s.time ∧
    (s.refusalNotice c x).maps = s.maps ∧ (s.refusalNotice c x).mem = s.mem ∧ (s.refusalNotice c x).coh = s.coh ∧
    (s.refusalNotice c x).boot = s.boot ∧ (s.refusalNotice c x).avail = s.avail ∧ (s.refusalNotice c x).sec = s.sec ∧
    (s.refusalNotice c x).net = s.net ∧ (s.refusalNotice c x).ms = s.ms ∧ (s.refusalNotice c x).cr = s.cr ∧
    (s.refusalNotice c x).prot = s.prot ∧ (s.refusalNotice c x).dram = s.dram ∧ (s.refusalNotice c x).flash = s.flash ∧
    (s.refusalNotice c x).eng = s.eng ∧ (s.refusalNotice c x).pwr = s.pwr ∧ (s.refusalNotice c x).isl = s.isl := by
  simp [State.refusalNotice]

@[simp] theorem State.refuseReserved_frame (s : State) (c : Cmd) :
    (s.refuseReserved c).pending = s.pending ∧ (s.refuseReserved c).clock = s.clock ∧
    (s.refuseReserved c).time = s.time ∧ (s.refuseReserved c).maps = s.maps ∧
    (s.refuseReserved c).mem = s.mem ∧ (s.refuseReserved c).coh = s.coh ∧
    (s.refuseReserved c).boot = s.boot ∧ (s.refuseReserved c).avail = s.avail ∧
    (s.refuseReserved c).sec = s.sec ∧ (s.refuseReserved c).ms = s.ms ∧
    (s.refuseReserved c).prot = s.prot ∧ (s.refuseReserved c).dram = s.dram ∧
    (s.refuseReserved c).flash = s.flash ∧ (s.refuseReserved c).eng = s.eng ∧
    (s.refuseReserved c).pwr = s.pwr ∧ (s.refuseReserved c).isl = s.isl := by
  unfold State.refuseReserved
  repeat' (first | (simp; done) | split)

@[simp] theorem State.launch_frame (s : State) (c : Cmd) :
    (s.launch c).pending = s.pending ∧ (s.launch c).free = s.free ∧ (s.launch c).clock = s.clock ∧
    (s.launch c).out = s.out ∧ (s.launch c).regs = s.regs ∧ (s.launch c).time = s.time ∧
    (s.launch c).maps = s.maps ∧ (s.launch c).mem = s.mem ∧ (s.launch c).coh = s.coh ∧ (s.launch c).boot = s.boot ∧
    (s.launch c).avail = s.avail ∧ (s.launch c).sec = s.sec ∧ (s.launch c).net = s.net ∧ (s.launch c).ms = s.ms ∧
    (s.launch c).cr = s.cr ∧ (s.launch c).prot = s.prot ∧ (s.launch c).dram = s.dram ∧
    (s.launch c).flash = s.flash ∧ (s.launch c).eng = s.eng ∧ (s.launch c).pwr = s.pwr ∧
    (s.launch c).isl = s.isl := by
  simp [State.launch]

@[simp] theorem State.command_pending (s : State) (c : Cmd) (k : Kind) (own : Option Stop) (go : State → State) (h : ∀ s,
    (go s).pending = s.pending) : (s.command c k own go).pending = s.pending := by
  simp only [State.command]
  repeat' (first | (simp [h]; done) | split | simp [h])
@[simp] theorem State.command_clock (s : State) (c : Cmd) (k : Kind) (own : Option Stop) (go : State → State) (h : ∀ s,
    (go s).clock = s.clock) : (s.command c k own go).clock = s.clock := by
  simp only [State.command]
  repeat' (first | (simp [h]; done) | split | simp [h])
@[simp] theorem State.command_time (s : State) (c : Cmd) (k : Kind) (own : Option Stop) (go : State → State) (h : ∀ s,
    (go s).time = s.time) : (s.command c k own go).time = s.time := by
  simp only [State.command]
  repeat' (first | (simp [h]; done) | split | simp [h])
@[simp] theorem State.command_maps (s : State) (c : Cmd) (k : Kind) (own : Option Stop) (go : State → State) (h : ∀ s,
    (go s).maps = s.maps) : (s.command c k own go).maps = s.maps := by
  simp only [State.command]
  repeat' (first | (simp [h]; done) | split | simp [h])
@[simp] theorem State.command_mem (s : State) (c : Cmd) (k : Kind) (own : Option Stop) (go : State → State) (h : ∀ s,
    (go s).mem = s.mem) : (s.command c k own go).mem = s.mem := by
  simp only [State.command]
  repeat' (first | (simp [h]; done) | split | simp [h])
@[simp] theorem State.command_coh (s : State) (c : Cmd) (k : Kind) (own : Option Stop) (go : State → State) (h : ∀ s,
    (go s).coh = s.coh) : (s.command c k own go).coh = s.coh := by
  simp only [State.command]
  repeat' (first | (simp [h]; done) | split | simp [h])
@[simp] theorem State.command_boot (s : State) (c : Cmd) (k : Kind) (own : Option Stop) (go : State → State) (h : ∀ s,
    (go s).boot = s.boot) : (s.command c k own go).boot = s.boot := by
  simp only [State.command]
  repeat' (first | (simp [h]; done) | split | simp [h])
@[simp] theorem State.command_avail (s : State) (c : Cmd) (k : Kind) (own : Option Stop) (go : State → State) (h : ∀ s,
    (go s).avail = s.avail) : (s.command c k own go).avail = s.avail := by
  simp only [State.command]
  repeat' (first | (simp [h]; done) | split | simp [h])
@[simp] theorem State.command_sec (s : State) (c : Cmd) (k : Kind) (own : Option Stop) (go : State → State) (h : ∀ s,
    (go s).sec = s.sec) : (s.command c k own go).sec = s.sec := by
  simp only [State.command]
  repeat' (first | (simp [h]; done) | split | simp [h])
@[simp] theorem State.command_ms (s : State) (c : Cmd) (k : Kind) (own : Option Stop) (go : State → State) (h : ∀ s, (go s).ms = s.ms) :
    (s.command c k own go).ms = s.ms := by
  simp only [State.command]
  repeat' (first | (simp [h]; done) | split | simp [h])
@[simp] theorem State.command_prot (s : State) (c : Cmd) (k : Kind) (own : Option Stop) (go : State → State) (h : ∀ s,
    (go s).prot = s.prot) : (s.command c k own go).prot = s.prot := by
  simp only [State.command]
  repeat' (first | (simp [h]; done) | split | simp [h])
@[simp] theorem State.command_dram (s : State) (c : Cmd) (k : Kind) (own : Option Stop) (go : State → State) (h : ∀ s,
    (go s).dram = s.dram) : (s.command c k own go).dram = s.dram := by
  simp only [State.command]
  repeat' (first | (simp [h]; done) | split | simp [h])
@[simp] theorem State.command_flash (s : State) (c : Cmd) (k : Kind) (own : Option Stop) (go : State → State) (h : ∀ s,
    (go s).flash = s.flash) : (s.command c k own go).flash = s.flash := by
  simp only [State.command]
  repeat' (first | (simp [h]; done) | split | simp [h])
@[simp] theorem State.command_eng (s : State) (c : Cmd) (k : Kind) (own : Option Stop) (go : State → State) (h : ∀ s,
    (go s).eng = s.eng) : (s.command c k own go).eng = s.eng := by
  simp only [State.command]
  repeat' (first | (simp [h]; done) | split | simp [h])
@[simp] theorem State.command_pwr (s : State) (c : Cmd) (k : Kind) (own : Option Stop) (go : State → State) (h : ∀ s,
    (go s).pwr = s.pwr) : (s.command c k own go).pwr = s.pwr := by
  simp only [State.command]
  repeat' (first | (simp [h]; done) | split | simp [h])
@[simp] theorem State.command_isl (s : State) (c : Cmd) (k : Kind) (own : Option Stop) (go : State → State) (h : ∀ s,
    (go s).isl = s.isl) : (s.command c k own go).isl = s.isl := by
  simp only [State.command]
  repeat' (first | (simp [h]; done) | split | simp [h])

@[simp] theorem State.releaseAcks_frame (s : State) :
    s.releaseAcks.pending = s.pending ∧ s.releaseAcks.free = s.free ∧ s.releaseAcks.clock = s.clock ∧
    s.releaseAcks.time = s.time ∧ s.releaseAcks.maps = s.maps ∧ s.releaseAcks.mem = s.mem ∧
    s.releaseAcks.boot = s.boot ∧ s.releaseAcks.avail = s.avail ∧ s.releaseAcks.sec = s.sec ∧
    s.releaseAcks.ms = s.ms ∧ s.releaseAcks.cr = s.cr ∧ s.releaseAcks.prot = s.prot ∧
    s.releaseAcks.dram = s.dram ∧ s.releaseAcks.flash = s.flash ∧ s.releaseAcks.eng = s.eng ∧
    s.releaseAcks.pwr = s.pwr ∧ s.releaseAcks.isl = s.isl := by
  simp [State.releaseAcks]

@[simp] theorem State.recallRange_frame (s : State) (d : Nat) (first : Nat) (last : Nat) (stamp : Nat) :
    (s.recallRange d first last stamp).pending = s.pending ∧ (s.recallRange d first last stamp).free = s.free ∧
    (s.recallRange d first last stamp).clock = s.clock ∧ (s.recallRange d first last stamp).time = s.time ∧
    (s.recallRange d first last stamp).maps = s.maps ∧ (s.recallRange d first last stamp).mem = s.mem ∧
    (s.recallRange d first last stamp).boot = s.boot ∧ (s.recallRange d first last stamp).avail = s.avail ∧
    (s.recallRange d first last stamp).sec = s.sec ∧ (s.recallRange d first last stamp).ms = s.ms ∧
    (s.recallRange d first last stamp).cr = s.cr ∧ (s.recallRange d first last stamp).prot = s.prot ∧
    (s.recallRange d first last stamp).dram = s.dram ∧ (s.recallRange d first last stamp).flash = s.flash ∧
    (s.recallRange d first last stamp).eng = s.eng ∧ (s.recallRange d first last stamp).pwr = s.pwr ∧
    (s.recallRange d first last stamp).isl = s.isl := by
  simp [State.recallRange]

@[simp] theorem State.dropFrames_frame (s : State) (f : Nat) (n : Nat) :
    (s.dropFrames f n).pending = s.pending ∧ (s.dropFrames f n).free = s.free ∧ (s.dropFrames f n).clock = s.clock ∧
    (s.dropFrames f n).out = s.out ∧ (s.dropFrames f n).regs = s.regs ∧ (s.dropFrames f n).host = s.host ∧
    (s.dropFrames f n).time = s.time ∧ (s.dropFrames f n).maps = s.maps ∧ (s.dropFrames f n).boot = s.boot ∧
    (s.dropFrames f n).avail = s.avail ∧ (s.dropFrames f n).sec = s.sec ∧ (s.dropFrames f n).net = s.net ∧
    (s.dropFrames f n).ms = s.ms ∧ (s.dropFrames f n).cr = s.cr ∧ (s.dropFrames f n).dram = s.dram ∧
    (s.dropFrames f n).flash = s.flash ∧ (s.dropFrames f n).eng = s.eng ∧ (s.dropFrames f n).pwr = s.pwr ∧
    (s.dropFrames f n).isl = s.isl := by
  simp [State.dropFrames]

@[simp] theorem State.putPage_frame (s : State) (frame : Nat) (loc : Nat) (mask : BitVec 64) :
    (s.putPage frame loc mask).pending = s.pending ∧ (s.putPage frame loc mask).free = s.free ∧
    (s.putPage frame loc mask).clock = s.clock ∧ (s.putPage frame loc mask).out = s.out ∧
    (s.putPage frame loc mask).regs = s.regs ∧ (s.putPage frame loc mask).host = s.host ∧
    (s.putPage frame loc mask).time = s.time ∧ (s.putPage frame loc mask).maps = s.maps ∧
    (s.putPage frame loc mask).boot = s.boot ∧ (s.putPage frame loc mask).avail = s.avail ∧
    (s.putPage frame loc mask).sec = s.sec ∧ (s.putPage frame loc mask).net = s.net ∧
    (s.putPage frame loc mask).ms = s.ms ∧ (s.putPage frame loc mask).cr = s.cr ∧
    (s.putPage frame loc mask).dram = s.dram ∧ (s.putPage frame loc mask).flash = s.flash ∧
    (s.putPage frame loc mask).eng = s.eng ∧ (s.putPage frame loc mask).pwr = s.pwr ∧
    (s.putPage frame loc mask).isl = s.isl := by
  simp [State.putPage]

@[simp] theorem State.passTo_frame (s : State) (t : Nat) :
    (s.passTo t).pending = s.pending ∧ (s.passTo t).free = s.free ∧ (s.passTo t).out = s.out ∧
    (s.passTo t).regs = s.regs ∧ (s.passTo t).host = s.host ∧ (s.passTo t).maps = s.maps ∧
    (s.passTo t).mem = s.mem ∧ (s.passTo t).coh = s.coh ∧ (s.passTo t).boot = s.boot ∧
    (s.passTo t).avail = s.avail ∧ (s.passTo t).sec = s.sec ∧ (s.passTo t).net = s.net ∧ (s.passTo t).ms = s.ms ∧
    (s.passTo t).cr = s.cr ∧ (s.passTo t).prot = s.prot ∧ (s.passTo t).dram = s.dram ∧
    (s.passTo t).flash = s.flash ∧ (s.passTo t).eng = s.eng ∧ (s.passTo t).pwr = s.pwr ∧
    (s.passTo t).isl = s.isl := by
  simp [State.passTo]

@[simp] theorem State.crApply_frame (s : State) (p : Pend) (n : Nat) (c : Crossing) (code : Nat) :
    (s.crApply p n c code).pending = s.pending ∧ (s.crApply p n c code).free = s.free ∧
    (s.crApply p n c code).clock = s.clock ∧ (s.crApply p n c code).time = s.time ∧
    (s.crApply p n c code).maps = s.maps ∧ (s.crApply p n c code).mem = s.mem ∧ (s.crApply p n c code).boot = s.boot ∧
    (s.crApply p n c code).avail = s.avail ∧ (s.crApply p n c code).sec = s.sec ∧ (s.crApply p n c code).ms = s.ms ∧
    (s.crApply p n c code).prot = s.prot ∧ (s.crApply p n c code).dram = s.dram ∧
    (s.crApply p n c code).flash = s.flash ∧ (s.crApply p n c code).eng = s.eng ∧ (s.crApply p n c code).pwr = s.pwr ∧
    (s.crApply p n c code).isl = s.isl := by
  simp only [State.crApply]
  repeat' (first | (simp; done) | split)

@[simp] theorem State.countStalls_frame (s : State) (n : Nat) :
    (s.countStalls n).pending = s.pending ∧ (s.countStalls n).free = s.free ∧ (s.countStalls n).clock = s.clock ∧
    (s.countStalls n).out = s.out ∧ (s.countStalls n).host = s.host ∧ (s.countStalls n).time = s.time ∧
    (s.countStalls n).maps = s.maps ∧ (s.countStalls n).mem = s.mem ∧ (s.countStalls n).coh = s.coh ∧
    (s.countStalls n).boot = s.boot ∧ (s.countStalls n).avail = s.avail ∧ (s.countStalls n).sec = s.sec ∧
    (s.countStalls n).net = s.net ∧ (s.countStalls n).ms = s.ms ∧ (s.countStalls n).cr = s.cr ∧
    (s.countStalls n).prot = s.prot ∧ (s.countStalls n).dram = s.dram ∧ (s.countStalls n).flash = s.flash ∧
    (s.countStalls n).eng = s.eng ∧ (s.countStalls n).pwr = s.pwr ∧ (s.countStalls n).isl = s.isl := by
  simp only [State.countStalls]
  (repeat' apply And.intro) <;> repeat' (first | (simp; done) | split | refine (foldl_keeps _ _ _ _ (fun _ _ => ?_)).trans ?_ | simp)

@[simp] theorem State.refillNotices_frame (s : State) (fn : Nat) :
    (s.refillNotices fn).pending = s.pending ∧ (s.refillNotices fn).free = s.free ∧
    (s.refillNotices fn).clock = s.clock ∧ (s.refillNotices fn).regs = s.regs ∧ (s.refillNotices fn).time = s.time ∧
    (s.refillNotices fn).maps = s.maps ∧ (s.refillNotices fn).mem = s.mem ∧ (s.refillNotices fn).coh = s.coh ∧
    (s.refillNotices fn).boot = s.boot ∧ (s.refillNotices fn).avail = s.avail ∧ (s.refillNotices fn).sec = s.sec ∧
    (s.refillNotices fn).net = s.net ∧ (s.refillNotices fn).ms = s.ms ∧ (s.refillNotices fn).cr = s.cr ∧
    (s.refillNotices fn).prot = s.prot ∧ (s.refillNotices fn).dram = s.dram ∧ (s.refillNotices fn).flash = s.flash ∧
    (s.refillNotices fn).eng = s.eng ∧ (s.refillNotices fn).pwr = s.pwr ∧ (s.refillNotices fn).isl = s.isl := by
  simp [State.refillNotices]

@[simp] theorem State.takeNoticeHead_frame (s : State) (f : Nat) (h : Nat) :
    (s.takeNoticeHead f h).pending = s.pending ∧ (s.takeNoticeHead f h).free = s.free ∧
    (s.takeNoticeHead f h).clock = s.clock ∧ (s.takeNoticeHead f h).regs = s.regs ∧
    (s.takeNoticeHead f h).time = s.time ∧ (s.takeNoticeHead f h).maps = s.maps ∧ (s.takeNoticeHead f h).mem = s.mem ∧
    (s.takeNoticeHead f h).coh = s.coh ∧ (s.takeNoticeHead f h).boot = s.boot ∧ (s.takeNoticeHead f h).avail = s.avail ∧
    (s.takeNoticeHead f h).sec = s.sec ∧ (s.takeNoticeHead f h).net = s.net ∧ (s.takeNoticeHead f h).ms = s.ms ∧
    (s.takeNoticeHead f h).cr = s.cr ∧ (s.takeNoticeHead f h).prot = s.prot ∧ (s.takeNoticeHead f h).dram = s.dram ∧
    (s.takeNoticeHead f h).flash = s.flash ∧ (s.takeNoticeHead f h).eng = s.eng ∧ (s.takeNoticeHead f h).pwr = s.pwr ∧
    (s.takeNoticeHead f h).isl = s.isl := by
  simp [State.takeNoticeHead]

@[simp] theorem State.doneAt_frame (s : State) (c : Option Cmd) (ft : Nat) :
    (s.doneAt c ft).pending = s.pending ∧ (s.doneAt c ft).clock = s.clock ∧ (s.doneAt c ft).time = s.time ∧
    (s.doneAt c ft).maps = s.maps ∧ (s.doneAt c ft).mem = s.mem ∧ (s.doneAt c ft).coh = s.coh ∧
    (s.doneAt c ft).boot = s.boot ∧ (s.doneAt c ft).avail = s.avail ∧ (s.doneAt c ft).sec = s.sec ∧
    (s.doneAt c ft).ms = s.ms ∧ (s.doneAt c ft).prot = s.prot ∧ (s.doneAt c ft).dram = s.dram ∧
    (s.doneAt c ft).flash = s.flash ∧ (s.doneAt c ft).eng = s.eng ∧ (s.doneAt c ft).pwr = s.pwr ∧
    (s.doneAt c ft).isl = s.isl := by
  simp only [State.doneAt]
  repeat' (first | (simp; done) | split)

@[simp] theorem State.swapPlans_frame (s : State) :
    s.swapPlans.pending = s.pending ∧ s.swapPlans.free = s.free ∧ s.swapPlans.clock = s.clock ∧
    s.swapPlans.out = s.out ∧ s.swapPlans.regs = s.regs ∧ s.swapPlans.host = s.host ∧
    s.swapPlans.maps = s.maps ∧ s.swapPlans.mem = s.mem ∧ s.swapPlans.coh = s.coh ∧
    s.swapPlans.boot = s.boot ∧ s.swapPlans.avail = s.avail ∧ s.swapPlans.sec = s.sec ∧
    s.swapPlans.ms = s.ms ∧ s.swapPlans.cr = s.cr ∧ s.swapPlans.prot = s.prot ∧ s.swapPlans.dram = s.dram ∧
    s.swapPlans.flash = s.flash ∧ s.swapPlans.eng = s.eng ∧ s.swapPlans.pwr = s.pwr ∧
    s.swapPlans.isl = s.isl := by
  simp [State.swapPlans]

@[simp] theorem State.dropEvent_frame (s : State) (e : Event) :
    (s.dropEvent e).pending = s.pending ∧ (s.dropEvent e).free = s.free ∧ (s.dropEvent e).clock = s.clock ∧
    (s.dropEvent e).out = s.out ∧ (s.dropEvent e).regs = s.regs ∧ (s.dropEvent e).host = s.host ∧
    (s.dropEvent e).maps = s.maps ∧ (s.dropEvent e).mem = s.mem ∧ (s.dropEvent e).coh = s.coh ∧
    (s.dropEvent e).boot = s.boot ∧ (s.dropEvent e).avail = s.avail ∧ (s.dropEvent e).sec = s.sec ∧
    (s.dropEvent e).net = s.net ∧ (s.dropEvent e).ms = s.ms ∧ (s.dropEvent e).cr = s.cr ∧
    (s.dropEvent e).prot = s.prot ∧ (s.dropEvent e).dram = s.dram ∧ (s.dropEvent e).flash = s.flash ∧
    (s.dropEvent e).eng = s.eng ∧ (s.dropEvent e).pwr = s.pwr ∧ (s.dropEvent e).isl = s.isl := by
  simp [State.dropEvent]

@[simp] theorem State.setMsSlot_frame (s : State) (d : Nat) (slot : Nat) (x : MsSlot) :
    (s.setMsSlot d slot x).pending = s.pending ∧ (s.setMsSlot d slot x).free = s.free ∧
    (s.setMsSlot d slot x).clock = s.clock ∧ (s.setMsSlot d slot x).out = s.out ∧ (s.setMsSlot d slot x).regs = s.regs ∧
    (s.setMsSlot d slot x).host = s.host ∧ (s.setMsSlot d slot x).time = s.time ∧ (s.setMsSlot d slot x).maps = s.maps ∧
    (s.setMsSlot d slot x).mem = s.mem ∧ (s.setMsSlot d slot x).coh = s.coh ∧ (s.setMsSlot d slot x).boot = s.boot ∧
    (s.setMsSlot d slot x).avail = s.avail ∧ (s.setMsSlot d slot x).sec = s.sec ∧ (s.setMsSlot d slot x).net = s.net ∧
    (s.setMsSlot d slot x).cr = s.cr ∧ (s.setMsSlot d slot x).prot = s.prot ∧ (s.setMsSlot d slot x).dram = s.dram ∧
    (s.setMsSlot d slot x).flash = s.flash ∧ (s.setMsSlot d slot x).eng = s.eng ∧ (s.setMsSlot d slot x).pwr = s.pwr ∧
    (s.setMsSlot d slot x).isl = s.isl := by
  simp [State.setMsSlot]

@[simp] theorem State.takeCut_frame (s : State) (d : Nat) (slot : Nat) :
    (s.takeCut d slot).pending = s.pending ∧ (s.takeCut d slot).clock = s.clock ∧ (s.takeCut d slot).time = s.time ∧
    (s.takeCut d slot).maps = s.maps ∧ (s.takeCut d slot).mem = s.mem ∧ (s.takeCut d slot).coh = s.coh ∧
    (s.takeCut d slot).boot = s.boot ∧ (s.takeCut d slot).avail = s.avail ∧ (s.takeCut d slot).sec = s.sec ∧
    (s.takeCut d slot).prot = s.prot ∧ (s.takeCut d slot).dram = s.dram ∧ (s.takeCut d slot).flash = s.flash ∧
    (s.takeCut d slot).eng = s.eng ∧ (s.takeCut d slot).pwr = s.pwr ∧ (s.takeCut d slot).isl = s.isl := by
  simp only [State.takeCut]
  repeat' (first | (simp; done) | split)

@[simp] theorem State.setHandover_frame (s : State) (h : Handover) :
    (s.setHandover h).pending = s.pending ∧ (s.setHandover h).free = s.free ∧ (s.setHandover h).clock = s.clock ∧
    (s.setHandover h).out = s.out ∧ (s.setHandover h).regs = s.regs ∧ (s.setHandover h).host = s.host ∧
    (s.setHandover h).time = s.time ∧ (s.setHandover h).maps = s.maps ∧ (s.setHandover h).mem = s.mem ∧
    (s.setHandover h).coh = s.coh ∧ (s.setHandover h).boot = s.boot ∧ (s.setHandover h).sec = s.sec ∧
    (s.setHandover h).net = s.net ∧ (s.setHandover h).ms = s.ms ∧ (s.setHandover h).cr = s.cr ∧
    (s.setHandover h).prot = s.prot ∧ (s.setHandover h).dram = s.dram ∧ (s.setHandover h).flash = s.flash ∧
    (s.setHandover h).eng = s.eng ∧ (s.setHandover h).pwr = s.pwr ∧ (s.setHandover h).isl = s.isl := by
  simp [State.setHandover]

@[simp] theorem State.dropHandover_frame (s : State) :
    s.dropHandover.pending = s.pending ∧ s.dropHandover.free = s.free ∧ s.dropHandover.clock = s.clock ∧
    s.dropHandover.out = s.out ∧ s.dropHandover.regs = s.regs ∧ s.dropHandover.host = s.host ∧
    s.dropHandover.maps = s.maps ∧ s.dropHandover.mem = s.mem ∧ s.dropHandover.coh = s.coh ∧
    s.dropHandover.boot = s.boot ∧ s.dropHandover.sec = s.sec ∧ s.dropHandover.net = s.net ∧
    s.dropHandover.ms = s.ms ∧ s.dropHandover.cr = s.cr ∧ s.dropHandover.prot = s.prot ∧
    s.dropHandover.dram = s.dram ∧ s.dropHandover.flash = s.flash ∧ s.dropHandover.eng = s.eng ∧
    s.dropHandover.pwr = s.pwr ∧ s.dropHandover.isl = s.isl := by
  simp only [State.dropHandover]
  repeat' (first | (simp; done) | split)

@[simp] theorem State.abandonHandover_frame (s : State) (x : Stop) :
    (s.abandonHandover x).pending = s.pending ∧ (s.abandonHandover x).clock = s.clock ∧
    (s.abandonHandover x).maps = s.maps ∧ (s.abandonHandover x).mem = s.mem ∧ (s.abandonHandover x).coh = s.coh ∧
    (s.abandonHandover x).boot = s.boot ∧ (s.abandonHandover x).sec = s.sec ∧ (s.abandonHandover x).ms = s.ms ∧
    (s.abandonHandover x).prot = s.prot ∧ (s.abandonHandover x).dram = s.dram ∧ (s.abandonHandover x).flash = s.flash ∧
    (s.abandonHandover x).eng = s.eng ∧ (s.abandonHandover x).pwr = s.pwr ∧ (s.abandonHandover x).isl = s.isl := by
  simp [State.abandonHandover]

@[simp] theorem State.beginHandover_frame (s : State) :
    s.beginHandover.pending = s.pending ∧ s.beginHandover.clock = s.clock ∧ s.beginHandover.maps = s.maps ∧
    s.beginHandover.mem = s.mem ∧ s.beginHandover.coh = s.coh ∧ s.beginHandover.boot = s.boot ∧
    s.beginHandover.sec = s.sec ∧ s.beginHandover.ms = s.ms ∧ s.beginHandover.prot = s.prot ∧
    s.beginHandover.dram = s.dram ∧ s.beginHandover.flash = s.flash ∧ s.beginHandover.eng = s.eng ∧
    s.beginHandover.pwr = s.pwr ∧ s.beginHandover.isl = s.isl := by
  simp only [State.beginHandover]
  repeat' (first | (simp; done) | split)

@[simp] theorem State.applyEvent_frame (s : State) (e : Event) :
    (s.applyEvent e).pending = s.pending ∧ (s.applyEvent e).clock = s.clock ∧ (s.applyEvent e).maps = s.maps ∧
    (s.applyEvent e).mem = s.mem ∧ (s.applyEvent e).coh = s.coh ∧ (s.applyEvent e).boot = s.boot ∧
    (s.applyEvent e).sec = s.sec ∧ (s.applyEvent e).prot = s.prot ∧ (s.applyEvent e).dram = s.dram ∧
    (s.applyEvent e).flash = s.flash ∧ (s.applyEvent e).eng = s.eng ∧ (s.applyEvent e).isl = s.isl := by
  simp only [State.applyEvent]
  repeat' (first | (simp; done) | split)

@[simp] theorem State.rechargeComp_frame (s : State) (before : Nat) :
    (s.rechargeComp before).pending = s.pending ∧ (s.rechargeComp before).free = s.free ∧
    (s.rechargeComp before).clock = s.clock ∧ (s.rechargeComp before).out = s.out ∧
    (s.rechargeComp before).regs = s.regs ∧ (s.rechargeComp before).host = s.host ∧
    (s.rechargeComp before).time = s.time ∧ (s.rechargeComp before).maps = s.maps ∧ (s.rechargeComp before).mem = s.mem ∧
    (s.rechargeComp before).coh = s.coh ∧ (s.rechargeComp before).boot = s.boot ∧
    (s.rechargeComp before).avail = s.avail ∧ (s.rechargeComp before).sec = s.sec ∧ (s.rechargeComp before).net = s.net ∧
    (s.rechargeComp before).ms = s.ms ∧ (s.rechargeComp before).cr = s.cr ∧ (s.rechargeComp before).prot = s.prot ∧
    (s.rechargeComp before).dram = s.dram ∧ (s.rechargeComp before).flash = s.flash ∧
    (s.rechargeComp before).eng = s.eng ∧ (s.rechargeComp before).isl = s.isl := by
  simp [State.rechargeComp]

@[simp] theorem State.shedBy_pending (s : State) (f : State → State) (h : ∀ s, (f s).pending = s.pending) :
    (s.shedBy f).pending = s.pending := by
  simp only [State.shedBy]
  repeat' (first | (simp [h]; done) | split | simp [h])
@[simp] theorem State.shedBy_free (s : State) (f : State → State) (h : ∀ s, (f s).free = s.free) : (s.shedBy f).free = s.free := by
  simp only [State.shedBy]
  repeat' (first | (simp [h]; done) | split | simp [h])
@[simp] theorem State.shedBy_clock (s : State) (f : State → State) (h : ∀ s, (f s).clock = s.clock) : (s.shedBy f).clock = s.clock := by
  simp only [State.shedBy]
  repeat' (first | (simp [h]; done) | split | simp [h])
@[simp] theorem State.shedBy_out (s : State) (f : State → State) (h : ∀ s, (f s).out = s.out) : (s.shedBy f).out = s.out := by
  simp only [State.shedBy]
  repeat' (first | (simp [h]; done) | split | simp [h])
@[simp] theorem State.shedBy_regs (s : State) (f : State → State) (h : ∀ s, (f s).regs = s.regs) : (s.shedBy f).regs = s.regs := by
  simp only [State.shedBy]
  repeat' (first | (simp [h]; done) | split | simp [h])
@[simp] theorem State.shedBy_host (s : State) (f : State → State) (h : ∀ s, (f s).host = s.host) : (s.shedBy f).host = s.host := by
  simp only [State.shedBy]
  repeat' (first | (simp [h]; done) | split | simp [h])
@[simp] theorem State.shedBy_time (s : State) (f : State → State) (h : ∀ s, (f s).time = s.time) : (s.shedBy f).time = s.time := by
  simp only [State.shedBy]
  repeat' (first | (simp [h]; done) | split | simp [h])
@[simp] theorem State.shedBy_maps (s : State) (f : State → State) (h : ∀ s, (f s).maps = s.maps) : (s.shedBy f).maps = s.maps := by
  simp only [State.shedBy]
  repeat' (first | (simp [h]; done) | split | simp [h])
@[simp] theorem State.shedBy_mem (s : State) (f : State → State) (h : ∀ s, (f s).mem = s.mem) : (s.shedBy f).mem = s.mem := by
  simp only [State.shedBy]
  repeat' (first | (simp [h]; done) | split | simp [h])
@[simp] theorem State.shedBy_coh (s : State) (f : State → State) (h : ∀ s, (f s).coh = s.coh) : (s.shedBy f).coh = s.coh := by
  simp only [State.shedBy]
  repeat' (first | (simp [h]; done) | split | simp [h])
@[simp] theorem State.shedBy_boot (s : State) (f : State → State) (h : ∀ s, (f s).boot = s.boot) : (s.shedBy f).boot = s.boot := by
  simp only [State.shedBy]
  repeat' (first | (simp [h]; done) | split | simp [h])
@[simp] theorem State.shedBy_avail (s : State) (f : State → State) (h : ∀ s, (f s).avail = s.avail) : (s.shedBy f).avail = s.avail := by
  simp only [State.shedBy]
  repeat' (first | (simp [h]; done) | split | simp [h])
@[simp] theorem State.shedBy_sec (s : State) (f : State → State) (h : ∀ s, (f s).sec = s.sec) : (s.shedBy f).sec = s.sec := by
  simp only [State.shedBy]
  repeat' (first | (simp [h]; done) | split | simp [h])
@[simp] theorem State.shedBy_net (s : State) (f : State → State) (h : ∀ s, (f s).net = s.net) : (s.shedBy f).net = s.net := by
  simp only [State.shedBy]
  repeat' (first | (simp [h]; done) | split | simp [h])
@[simp] theorem State.shedBy_ms (s : State) (f : State → State) (h : ∀ s, (f s).ms = s.ms) : (s.shedBy f).ms = s.ms := by
  simp only [State.shedBy]
  repeat' (first | (simp [h]; done) | split | simp [h])
@[simp] theorem State.shedBy_cr (s : State) (f : State → State) (h : ∀ s, (f s).cr = s.cr) : (s.shedBy f).cr = s.cr := by
  simp only [State.shedBy]
  repeat' (first | (simp [h]; done) | split | simp [h])
@[simp] theorem State.shedBy_prot (s : State) (f : State → State) (h : ∀ s, (f s).prot = s.prot) : (s.shedBy f).prot = s.prot := by
  simp only [State.shedBy]
  repeat' (first | (simp [h]; done) | split | simp [h])
@[simp] theorem State.shedBy_dram (s : State) (f : State → State) (h : ∀ s, (f s).dram = s.dram) : (s.shedBy f).dram = s.dram := by
  simp only [State.shedBy]
  repeat' (first | (simp [h]; done) | split | simp [h])
@[simp] theorem State.shedBy_flash (s : State) (f : State → State) (h : ∀ s, (f s).flash = s.flash) : (s.shedBy f).flash = s.flash := by
  simp only [State.shedBy]
  repeat' (first | (simp [h]; done) | split | simp [h])
@[simp] theorem State.shedBy_eng (s : State) (f : State → State) (h : ∀ s, (f s).eng = s.eng) : (s.shedBy f).eng = s.eng := by
  simp only [State.shedBy]
  repeat' (first | (simp [h]; done) | split | simp [h])
@[simp] theorem State.shedBy_isl (s : State) (f : State → State) (h : ∀ s, (f s).isl = s.isl) : (s.shedBy f).isl = s.isl := by
  simp only [State.shedBy]
  repeat' (first | (simp [h]; done) | split | simp [h])

@[simp] theorem State.lowerClocks_frame (s : State) (x1 : Nat) :
    (s.lowerClocks x1).pending = s.pending ∧ (s.lowerClocks x1).free = s.free ∧ (s.lowerClocks x1).clock = s.clock ∧
    (s.lowerClocks x1).regs = s.regs ∧ (s.lowerClocks x1).host = s.host ∧ (s.lowerClocks x1).time = s.time ∧
    (s.lowerClocks x1).maps = s.maps ∧ (s.lowerClocks x1).mem = s.mem ∧ (s.lowerClocks x1).coh = s.coh ∧
    (s.lowerClocks x1).boot = s.boot ∧ (s.lowerClocks x1).sec = s.sec ∧ (s.lowerClocks x1).net = s.net ∧
    (s.lowerClocks x1).ms = s.ms ∧ (s.lowerClocks x1).cr = s.cr ∧ (s.lowerClocks x1).prot = s.prot ∧
    (s.lowerClocks x1).dram = s.dram ∧ (s.lowerClocks x1).flash = s.flash ∧ (s.lowerClocks x1).isl = s.isl := by
  induction x1 generalizing s with
  | zero => simp [State.lowerClocks]
  | succ k ih =>
    simp only [State.lowerClocks]
    repeat' (first | (simp [ih]; done) | split)

@[simp] theorem State.loseExternal_frame (s : State) :
    s.loseExternal.pending = s.pending ∧ s.loseExternal.free = s.free ∧ s.loseExternal.clock = s.clock ∧
    s.loseExternal.regs = s.regs ∧ s.loseExternal.maps = s.maps ∧ s.loseExternal.mem = s.mem ∧
    s.loseExternal.coh = s.coh ∧ s.loseExternal.boot = s.boot ∧ s.loseExternal.avail = s.avail ∧
    s.loseExternal.sec = s.sec ∧ s.loseExternal.net = s.net ∧ s.loseExternal.ms = s.ms ∧
    s.loseExternal.cr = s.cr ∧ s.loseExternal.prot = s.prot ∧ s.loseExternal.dram = s.dram ∧
    s.loseExternal.flash = s.flash ∧ s.loseExternal.eng = s.eng ∧ s.loseExternal.pwr = s.pwr ∧
    s.loseExternal.isl = s.isl := by
  simp [State.loseExternal]

@[simp] theorem State.badEdge_frame (s : State) (skip : Bool) :
    (s.badEdge skip).pending = s.pending ∧ (s.badEdge skip).free = s.free ∧ (s.badEdge skip).clock = s.clock ∧
    (s.badEdge skip).regs = s.regs ∧ (s.badEdge skip).maps = s.maps ∧ (s.badEdge skip).mem = s.mem ∧
    (s.badEdge skip).coh = s.coh ∧ (s.badEdge skip).boot = s.boot ∧ (s.badEdge skip).avail = s.avail ∧
    (s.badEdge skip).sec = s.sec ∧ (s.badEdge skip).net = s.net ∧ (s.badEdge skip).ms = s.ms ∧
    (s.badEdge skip).cr = s.cr ∧ (s.badEdge skip).prot = s.prot ∧ (s.badEdge skip).dram = s.dram ∧
    (s.badEdge skip).flash = s.flash ∧ (s.badEdge skip).eng = s.eng ∧ (s.badEdge skip).pwr = s.pwr ∧
    (s.badEdge skip).isl = s.isl := by
  simp [State.badEdge]

@[simp] theorem State.stopEngines_frame (s : State) (a : Nat) :
    (s.stopEngines a).pending = s.pending ∧ (s.stopEngines a).free = s.free ∧ (s.stopEngines a).clock = s.clock ∧
    (s.stopEngines a).out = s.out ∧ (s.stopEngines a).host = s.host ∧ (s.stopEngines a).time = s.time ∧
    (s.stopEngines a).maps = s.maps ∧ (s.stopEngines a).mem = s.mem ∧ (s.stopEngines a).coh = s.coh ∧
    (s.stopEngines a).boot = s.boot ∧ (s.stopEngines a).avail = s.avail ∧ (s.stopEngines a).sec = s.sec ∧
    (s.stopEngines a).net = s.net ∧ (s.stopEngines a).ms = s.ms ∧ (s.stopEngines a).cr = s.cr ∧
    (s.stopEngines a).prot = s.prot ∧ (s.stopEngines a).dram = s.dram ∧ (s.stopEngines a).flash = s.flash ∧
    (s.stopEngines a).pwr = s.pwr ∧ (s.stopEngines a).isl = s.isl := by
  simp [State.stopEngines]

@[simp] theorem State.retryFills_frame (s : State) (d : Nat) :
    (s.retryFills d).pending = s.pending ∧ (s.retryFills d).free = s.free ∧ (s.retryFills d).clock = s.clock ∧
    (s.retryFills d).regs = s.regs ∧ (s.retryFills d).host = s.host ∧ (s.retryFills d).time = s.time ∧
    (s.retryFills d).mem = s.mem ∧ (s.retryFills d).coh = s.coh ∧ (s.retryFills d).boot = s.boot ∧
    (s.retryFills d).avail = s.avail ∧ (s.retryFills d).sec = s.sec ∧ (s.retryFills d).net = s.net ∧
    (s.retryFills d).ms = s.ms ∧ (s.retryFills d).cr = s.cr ∧ (s.retryFills d).prot = s.prot ∧
    (s.retryFills d).dram = s.dram ∧ (s.retryFills d).eng = s.eng ∧ (s.retryFills d).pwr = s.pwr ∧
    (s.retryFills d).isl = s.isl := by
  simp [State.retryFills]

@[simp] theorem State.tierDone_frame (s : State) (d : Nat) (page : Nat) (op : Nat → Bool) :
    (s.tierDone d page op).pending = s.pending ∧ (s.tierDone d page op).clock = s.clock ∧
    (s.tierDone d page op).time = s.time ∧ (s.tierDone d page op).mem = s.mem ∧ (s.tierDone d page op).coh = s.coh ∧
    (s.tierDone d page op).boot = s.boot ∧ (s.tierDone d page op).avail = s.avail ∧ (s.tierDone d page op).sec = s.sec ∧
    (s.tierDone d page op).ms = s.ms ∧ (s.tierDone d page op).prot = s.prot ∧ (s.tierDone d page op).dram = s.dram ∧
    (s.tierDone d page op).eng = s.eng ∧ (s.tierDone d page op).pwr = s.pwr ∧ (s.tierDone d page op).isl = s.isl := by
  simp only [State.tierDone]
  (repeat' apply And.intro) <;> repeat' (first | (simp; done) | split | refine (foldl_keeps _ _ _ _ (fun _ _ => ?_)).trans ?_ | simp)

@[simp] theorem State.endDemotion_frame (s : State) (d : Nat) (page : Nat) (loc : Nat) :
    (s.endDemotion d page loc).pending = s.pending ∧ (s.endDemotion d page loc).clock = s.clock ∧
    (s.endDemotion d page loc).time = s.time ∧ (s.endDemotion d page loc).boot = s.boot ∧
    (s.endDemotion d page loc).avail = s.avail ∧ (s.endDemotion d page loc).sec = s.sec ∧
    (s.endDemotion d page loc).ms = s.ms ∧ (s.endDemotion d page loc).dram = s.dram ∧
    (s.endDemotion d page loc).eng = s.eng ∧ (s.endDemotion d page loc).pwr = s.pwr ∧
    (s.endDemotion d page loc).isl = s.isl := by
  simp only [State.endDemotion]
  repeat' (first | (simp; done) | split)

@[simp] theorem State.setCopying_frame (s : State) (c : Copying) :
    (s.setCopying c).pending = s.pending ∧ (s.setCopying c).free = s.free ∧ (s.setCopying c).clock = s.clock ∧
    (s.setCopying c).out = s.out ∧ (s.setCopying c).regs = s.regs ∧ (s.setCopying c).host = s.host ∧
    (s.setCopying c).time = s.time ∧ (s.setCopying c).maps = s.maps ∧ (s.setCopying c).mem = s.mem ∧
    (s.setCopying c).coh = s.coh ∧ (s.setCopying c).boot = s.boot ∧ (s.setCopying c).avail = s.avail ∧
    (s.setCopying c).sec = s.sec ∧ (s.setCopying c).net = s.net ∧ (s.setCopying c).cr = s.cr ∧
    (s.setCopying c).prot = s.prot ∧ (s.setCopying c).dram = s.dram ∧ (s.setCopying c).flash = s.flash ∧
    (s.setCopying c).eng = s.eng ∧ (s.setCopying c).pwr = s.pwr ∧ (s.setCopying c).isl = s.isl := by
  simp [State.setCopying]

@[simp] theorem State.putFlash_frame (s : State) (loc : Nat) (lines : List (Nat × Nat)) (mask : BitVec 64) :
    (s.putFlash loc lines mask).pending = s.pending ∧ (s.putFlash loc lines mask).free = s.free ∧
    (s.putFlash loc lines mask).clock = s.clock ∧ (s.putFlash loc lines mask).out = s.out ∧
    (s.putFlash loc lines mask).regs = s.regs ∧ (s.putFlash loc lines mask).host = s.host ∧
    (s.putFlash loc lines mask).time = s.time ∧ (s.putFlash loc lines mask).maps = s.maps ∧
    (s.putFlash loc lines mask).mem = s.mem ∧ (s.putFlash loc lines mask).coh = s.coh ∧
    (s.putFlash loc lines mask).boot = s.boot ∧ (s.putFlash loc lines mask).avail = s.avail ∧
    (s.putFlash loc lines mask).sec = s.sec ∧ (s.putFlash loc lines mask).net = s.net ∧
    (s.putFlash loc lines mask).ms = s.ms ∧ (s.putFlash loc lines mask).cr = s.cr ∧
    (s.putFlash loc lines mask).prot = s.prot ∧ (s.putFlash loc lines mask).dram = s.dram ∧
    (s.putFlash loc lines mask).eng = s.eng ∧ (s.putFlash loc lines mask).pwr = s.pwr ∧
    (s.putFlash loc lines mask).isl = s.isl := by
  simp [State.putFlash]

@[simp] theorem State.pushLost_frame (s : State) (port : Nat) :
    (s.pushLost port).pending = s.pending ∧ (s.pushLost port).free = s.free ∧ (s.pushLost port).clock = s.clock ∧
    (s.pushLost port).out = s.out ∧ (s.pushLost port).regs = s.regs ∧ (s.pushLost port).host = s.host ∧
    (s.pushLost port).time = s.time ∧ (s.pushLost port).maps = s.maps ∧ (s.pushLost port).mem = s.mem ∧
    (s.pushLost port).coh = s.coh ∧ (s.pushLost port).avail = s.avail ∧ (s.pushLost port).sec = s.sec ∧
    (s.pushLost port).net = s.net ∧ (s.pushLost port).ms = s.ms ∧ (s.pushLost port).cr = s.cr ∧
    (s.pushLost port).prot = s.prot ∧ (s.pushLost port).dram = s.dram ∧ (s.pushLost port).flash = s.flash ∧
    (s.pushLost port).eng = s.eng ∧ (s.pushLost port).pwr = s.pwr ∧ (s.pushLost port).isl = s.isl := by
  simp [State.pushLost]

theorem State.planMoves_frame {s : State} {l : List Nat} {t : State} {ms : List Move} (h : s.planMoves l = some (t, ms)) :
    t.pending = s.pending ∧ t.free = s.free ∧ t.clock = s.clock ∧ t.out = s.out ∧ t.regs = s.regs ∧ t.host = s.host ∧ t.time = s.time ∧
    t.mem = s.mem ∧ t.coh = s.coh ∧ t.boot = s.boot ∧ t.avail = s.avail ∧ t.sec = s.sec ∧ t.net = s.net ∧ t.ms = s.ms ∧ t.cr = s.cr ∧
    t.prot = s.prot ∧ t.dram = s.dram ∧ t.flash = s.flash ∧ t.eng = s.eng ∧ t.pwr = s.pwr ∧ t.isl = s.isl := by
  induction l generalizing s t ms with
  | nil => cases h; simp
  | cons a l ih =>
    simp only [State.planMoves] at h
    repeat' split at h
    all_goals first
      | (cases h; done)
      | exact ih h
      | (rename_i hm; obtain ⟨⟨t', m'⟩, h1, h2⟩ := Option.map_eq_some_iff.1 h; have hi := ih h1; cases h2; simp [hi,
    State.allocRun_frame hm])

theorem State.allocLoc_frame {s : State} {g n : Nat} {t : State} (h : s.allocLoc g = some (n, t)) :
    t.pending = s.pending ∧ t.free = s.free ∧ t.clock = s.clock ∧ t.out = s.out ∧ t.regs = s.regs ∧ t.host = s.host ∧ t.time = s.time ∧
    t.maps = s.maps ∧ t.mem = s.mem ∧ t.coh = s.coh ∧ t.boot = s.boot ∧ t.avail = s.avail ∧ t.sec = s.sec ∧ t.net = s.net ∧ t.ms = s.ms ∧
    t.cr = s.cr ∧ t.prot = s.prot ∧ t.dram = s.dram ∧ t.eng = s.eng ∧ t.pwr = s.pwr ∧ t.isl = s.isl := by
  simp only [State.allocLoc] at h
  repeat' split at h
  all_goals first | (cases h; done) | (cases h; simp)

theorem State.mapPage_frame (s : State) (d : Nat) (x : District) (ps : Nat) (page : Nat) (t : State) (h :
    (State.mapPage s d x ps page) = some t) : t.pending = s.pending ∧ t.free = s.free ∧ t.clock = s.clock ∧ t.out = s.out ∧
    t.regs = s.regs ∧ t.host = s.host ∧ t.time = s.time ∧ t.boot = s.boot ∧ t.avail = s.avail ∧ t.sec = s.sec ∧ t.net = s.net ∧
    t.cr = s.cr ∧ t.dram = s.dram ∧ t.eng = s.eng ∧ t.pwr = s.pwr ∧ t.isl = s.isl := by
  simp only [State.mapPage] at h
  repeat' split at h
  all_goals first | (cases h; done) | (cases h; simp [State.allocRun_frame ‹s.allocRun _ _ _ = some _›]) |
    (cases h; simp [State.allocLoc_frame ‹s.allocLoc _ = some _›])

theorem State.mapAll_frame {s : State} {d : Nat} {x : District} {ps : Nat} {l : List Nat} {t : State} {n : Nat}
    (h : s.mapAll d x ps l = some (t, n)) :
    t.pending = s.pending ∧ t.free = s.free ∧ t.clock = s.clock ∧ t.out = s.out ∧ t.regs = s.regs ∧ t.host = s.host ∧ t.time = s.time ∧
    t.boot = s.boot ∧ t.avail = s.avail ∧ t.sec = s.sec ∧ t.net = s.net ∧ t.cr = s.cr ∧ t.dram = s.dram ∧ t.eng = s.eng ∧ t.pwr = s.pwr ∧
    t.isl = s.isl := by
  induction l generalizing s t n with
  | nil => cases h; simp
  | cons a l ih =>
    simp only [State.mapAll] at h
    split at h
    · exact ih h
    · split at h
      · cases h
      · rename_i hm
        obtain ⟨⟨t', n'⟩, h1, h2⟩ := Option.map_eq_some_iff.1 h
        have hi := ih h1
        cases h2
        simp [hi, State.mapPage_frame _ _ _ _ _ _ hm]

@[simp] theorem State.resend_frame (s : State) (n : Nat) (f : Sent) :
    (s.resend n f).pending = s.pending ∧ (s.resend n f).free = s.free ∧ (s.resend n f).clock = s.clock ∧
    (s.resend n f).regs = s.regs ∧ (s.resend n f).host = s.host ∧ (s.resend n f).time = s.time ∧
    (s.resend n f).maps = s.maps ∧ (s.resend n f).mem = s.mem ∧ (s.resend n f).coh = s.coh ∧
    (s.resend n f).boot = s.boot ∧ (s.resend n f).avail = s.avail ∧ (s.resend n f).sec = s.sec ∧
    (s.resend n f).net = s.net ∧ (s.resend n f).ms = s.ms ∧ (s.resend n f).cr = s.cr ∧
    (s.resend n f).prot = s.prot ∧ (s.resend n f).dram = s.dram ∧ (s.resend n f).flash = s.flash ∧
    (s.resend n f).eng = s.eng ∧ (s.resend n f).pwr = s.pwr ∧ (s.resend n f).isl = s.isl := by
  simp [State.resend]

@[simp] theorem State.endLevel_frame (s : State) (source : Nat) (cause : Nat) :
    (s.endLevel source cause).pending = s.pending ∧ (s.endLevel source cause).free = s.free ∧
    (s.endLevel source cause).clock = s.clock ∧ (s.endLevel source cause).out = s.out ∧
    (s.endLevel source cause).regs = s.regs ∧ (s.endLevel source cause).time = s.time ∧
    (s.endLevel source cause).maps = s.maps ∧ (s.endLevel source cause).mem = s.mem ∧
    (s.endLevel source cause).coh = s.coh ∧ (s.endLevel source cause).boot = s.boot ∧
    (s.endLevel source cause).avail = s.avail ∧ (s.endLevel source cause).sec = s.sec ∧
    (s.endLevel source cause).net = s.net ∧ (s.endLevel source cause).ms = s.ms ∧ (s.endLevel source cause).cr = s.cr ∧
    (s.endLevel source cause).prot = s.prot ∧ (s.endLevel source cause).dram = s.dram ∧
    (s.endLevel source cause).flash = s.flash ∧ (s.endLevel source cause).eng = s.eng ∧
    (s.endLevel source cause).pwr = s.pwr ∧ (s.endLevel source cause).isl = s.isl := by
  simp [State.endLevel]

@[simp] theorem State.nvmeEnd_frame (s : State) (c : NvmeCmd) :
    (s.nvmeEnd c).pending = s.pending ∧ (s.nvmeEnd c).free = s.free ∧ (s.nvmeEnd c).clock = s.clock ∧
    (s.nvmeEnd c).out = s.out ∧ (s.nvmeEnd c).regs = s.regs ∧ (s.nvmeEnd c).host = s.host ∧
    (s.nvmeEnd c).time = s.time ∧ (s.nvmeEnd c).maps = s.maps ∧ (s.nvmeEnd c).mem = s.mem ∧
    (s.nvmeEnd c).coh = s.coh ∧ (s.nvmeEnd c).boot = s.boot ∧ (s.nvmeEnd c).avail = s.avail ∧
    (s.nvmeEnd c).sec = s.sec ∧ (s.nvmeEnd c).net = s.net ∧ (s.nvmeEnd c).ms = s.ms ∧ (s.nvmeEnd c).cr = s.cr ∧
    (s.nvmeEnd c).prot = s.prot ∧ (s.nvmeEnd c).dram = s.dram ∧ (s.nvmeEnd c).eng = s.eng ∧
    (s.nvmeEnd c).pwr = s.pwr ∧ (s.nvmeEnd c).isl = s.isl := by
  simp [State.nvmeEnd]

@[simp] theorem State.replan_frame (s : State) (f : FillRec) (member : Nat) :
    (s.replan f member).pending = s.pending ∧ (s.replan f member).free = s.free ∧ (s.replan f member).clock = s.clock ∧
    (s.replan f member).host = s.host ∧ (s.replan f member).time = s.time ∧ (s.replan f member).maps = s.maps ∧
    (s.replan f member).mem = s.mem ∧ (s.replan f member).coh = s.coh ∧ (s.replan f member).boot = s.boot ∧
    (s.replan f member).avail = s.avail ∧ (s.replan f member).sec = s.sec ∧ (s.replan f member).net = s.net ∧
    (s.replan f member).ms = s.ms ∧ (s.replan f member).cr = s.cr ∧ (s.replan f member).prot = s.prot ∧
    (s.replan f member).dram = s.dram ∧ (s.replan f member).eng = s.eng ∧ (s.replan f member).pwr = s.pwr ∧
    (s.replan f member).isl = s.isl := by
  simp only [State.replan]
  repeat' (first | (simp; done) | split)

@[simp] theorem State.readFailed_frame (s : State) (c : NvmeCmd) (rewrite : Bool) :
    (s.readFailed c rewrite).pending = s.pending ∧ (s.readFailed c rewrite).free = s.free ∧
    (s.readFailed c rewrite).clock = s.clock ∧ (s.readFailed c rewrite).host = s.host ∧
    (s.readFailed c rewrite).time = s.time ∧ (s.readFailed c rewrite).maps = s.maps ∧
    (s.readFailed c rewrite).mem = s.mem ∧ (s.readFailed c rewrite).coh = s.coh ∧
    (s.readFailed c rewrite).boot = s.boot ∧ (s.readFailed c rewrite).avail = s.avail ∧
    (s.readFailed c rewrite).sec = s.sec ∧ (s.readFailed c rewrite).net = s.net ∧ (s.readFailed c rewrite).ms = s.ms ∧
    (s.readFailed c rewrite).cr = s.cr ∧ (s.readFailed c rewrite).prot = s.prot ∧
    (s.readFailed c rewrite).dram = s.dram ∧ (s.readFailed c rewrite).eng = s.eng ∧
    (s.readFailed c rewrite).pwr = s.pwr ∧ (s.readFailed c rewrite).isl = s.isl := by
  simp only [State.readFailed]
  (repeat' apply And.intro) <;> repeat' (first | (simp; done) | split | refine (foldl_keeps _ _ _ _ (fun _ _ => ?_)).trans ?_ | simp)

theorem State.mapRun_frame {s : State} {d : Nat} {x : Option District} {ps : Nat} {l : List Nat} {t : State} {n : Nat}
    (h : s.mapRun d x ps l = some (t, n)) :
    t.pending = s.pending ∧ t.free = s.free ∧ t.clock = s.clock ∧ t.out = s.out ∧ t.regs = s.regs ∧ t.host = s.host ∧ t.time = s.time ∧
    t.boot = s.boot ∧ t.avail = s.avail ∧ t.sec = s.sec ∧ t.net = s.net ∧ t.cr = s.cr ∧ t.dram = s.dram ∧ t.eng = s.eng ∧ t.pwr = s.pwr ∧
    t.isl = s.isl := by
  simp only [State.mapRun] at h
  split at h
  · cases h
  · exact State.mapAll_frame h

@[simp] theorem State.loadMirror_frame (s : State) (n : Nat) :
    (s.loadMirror n).pending = s.pending ∧ (s.loadMirror n).free = s.free ∧ (s.loadMirror n).clock = s.clock ∧
    (s.loadMirror n).out = s.out ∧ (s.loadMirror n).regs = s.regs ∧ (s.loadMirror n).host = s.host ∧
    (s.loadMirror n).time = s.time ∧ (s.loadMirror n).maps = s.maps ∧ (s.loadMirror n).coh = s.coh ∧
    (s.loadMirror n).boot = s.boot ∧ (s.loadMirror n).avail = s.avail ∧ (s.loadMirror n).sec = s.sec ∧
    (s.loadMirror n).net = s.net ∧ (s.loadMirror n).ms = s.ms ∧ (s.loadMirror n).cr = s.cr ∧
    (s.loadMirror n).prot = s.prot ∧ (s.loadMirror n).dram = s.dram ∧ (s.loadMirror n).flash = s.flash ∧
    (s.loadMirror n).eng = s.eng ∧ (s.loadMirror n).pwr = s.pwr ∧ (s.loadMirror n).isl = s.isl := by
  simp [State.loadMirror]

@[simp] theorem State.loseCrossing_frame (s : State) (key : Nat) :
    (s.loseCrossing key).pending = s.pending ∧ (s.loseCrossing key).free = s.free ∧
    (s.loseCrossing key).clock = s.clock ∧ (s.loseCrossing key).out = s.out ∧ (s.loseCrossing key).regs = s.regs ∧
    (s.loseCrossing key).host = s.host ∧ (s.loseCrossing key).time = s.time ∧ (s.loseCrossing key).maps = s.maps ∧
    (s.loseCrossing key).mem = s.mem ∧ (s.loseCrossing key).coh = s.coh ∧ (s.loseCrossing key).boot = s.boot ∧
    (s.loseCrossing key).avail = s.avail ∧ (s.loseCrossing key).sec = s.sec ∧ (s.loseCrossing key).net = s.net ∧
    (s.loseCrossing key).ms = s.ms ∧ (s.loseCrossing key).prot = s.prot ∧ (s.loseCrossing key).dram = s.dram ∧
    (s.loseCrossing key).flash = s.flash ∧ (s.loseCrossing key).eng = s.eng ∧ (s.loseCrossing key).pwr = s.pwr ∧
    (s.loseCrossing key).isl = s.isl := by
  simp only [State.loseCrossing]
  repeat' (first | (simp; done) | split)

@[simp] theorem State.readBuf_frame (s : State) (c : Cmd) (len : Nat) :
    (s.readBuf c len).pending = s.pending ∧ (s.readBuf c len).free = s.free ∧ (s.readBuf c len).clock = s.clock ∧
    (s.readBuf c len).regs = s.regs ∧ (s.readBuf c len).time = s.time ∧ (s.readBuf c len).maps = s.maps ∧
    (s.readBuf c len).mem = s.mem ∧ (s.readBuf c len).coh = s.coh ∧ (s.readBuf c len).boot = s.boot ∧
    (s.readBuf c len).avail = s.avail ∧ (s.readBuf c len).sec = s.sec ∧ (s.readBuf c len).net = s.net ∧
    (s.readBuf c len).ms = s.ms ∧ (s.readBuf c len).cr = s.cr ∧ (s.readBuf c len).prot = s.prot ∧
    (s.readBuf c len).dram = s.dram ∧ (s.readBuf c len).flash = s.flash ∧ (s.readBuf c len).eng = s.eng ∧
    (s.readBuf c len).pwr = s.pwr ∧ (s.readBuf c len).isl = s.isl := by
  simp [State.readBuf]

@[simp] theorem State.takeUnit_frame (s : State) (n : Nat) (a : Nat) (e : Nat) :
    (s.takeUnit n a e).pending = s.pending ∧ (s.takeUnit n a e).free = s.free ∧ (s.takeUnit n a e).clock = s.clock ∧
    (s.takeUnit n a e).out = s.out ∧ (s.takeUnit n a e).regs = s.regs ∧ (s.takeUnit n a e).host = s.host ∧
    (s.takeUnit n a e).time = s.time ∧ (s.takeUnit n a e).maps = s.maps ∧ (s.takeUnit n a e).mem = s.mem ∧
    (s.takeUnit n a e).coh = s.coh ∧ (s.takeUnit n a e).boot = s.boot ∧ (s.takeUnit n a e).avail = s.avail ∧
    (s.takeUnit n a e).sec = s.sec ∧ (s.takeUnit n a e).net = s.net ∧ (s.takeUnit n a e).ms = s.ms ∧
    (s.takeUnit n a e).cr = s.cr ∧ (s.takeUnit n a e).prot = s.prot ∧ (s.takeUnit n a e).dram = s.dram ∧
    (s.takeUnit n a e).flash = s.flash ∧ (s.takeUnit n a e).pwr = s.pwr ∧ (s.takeUnit n a e).isl = s.isl := by
  simp only [State.takeUnit]
  repeat' (first | (simp; done) | split)

@[simp] theorem State.refillJob_frame (s : State) (n : Nat) (j : Job) :
    (s.refillJob n j).pending = s.pending ∧ (s.refillJob n j).free = s.free ∧ (s.refillJob n j).clock = s.clock ∧
    (s.refillJob n j).out = s.out ∧ (s.refillJob n j).host = s.host ∧ (s.refillJob n j).time = s.time ∧
    (s.refillJob n j).maps = s.maps ∧ (s.refillJob n j).mem = s.mem ∧ (s.refillJob n j).coh = s.coh ∧
    (s.refillJob n j).boot = s.boot ∧ (s.refillJob n j).avail = s.avail ∧ (s.refillJob n j).sec = s.sec ∧
    (s.refillJob n j).net = s.net ∧ (s.refillJob n j).ms = s.ms ∧ (s.refillJob n j).cr = s.cr ∧
    (s.refillJob n j).prot = s.prot ∧ (s.refillJob n j).dram = s.dram ∧ (s.refillJob n j).flash = s.flash ∧
    (s.refillJob n j).pwr = s.pwr ∧ (s.refillJob n j).isl = s.isl := by
  simp only [State.refillJob]
  (repeat' apply And.intro) <;> repeat' (first | (simp; done) | split | refine (foldl_keeps _ _ _ _ (fun _ _ => ?_)).trans ?_ | simp)

@[simp] theorem State.refillJobs_frame (s : State) :
    s.refillJobs.pending = s.pending ∧ s.refillJobs.free = s.free ∧ s.refillJobs.clock = s.clock ∧
    s.refillJobs.out = s.out ∧ s.refillJobs.host = s.host ∧ s.refillJobs.time = s.time ∧
    s.refillJobs.maps = s.maps ∧ s.refillJobs.mem = s.mem ∧ s.refillJobs.coh = s.coh ∧
    s.refillJobs.boot = s.boot ∧ s.refillJobs.avail = s.avail ∧ s.refillJobs.sec = s.sec ∧
    s.refillJobs.net = s.net ∧ s.refillJobs.ms = s.ms ∧ s.refillJobs.cr = s.cr ∧
    s.refillJobs.prot = s.prot ∧ s.refillJobs.dram = s.dram ∧ s.refillJobs.flash = s.flash ∧
    s.refillJobs.pwr = s.pwr ∧ s.refillJobs.isl = s.isl := by
  simp [State.refillJobs]

@[simp] theorem State.finishUpdates_frame (s : State) :
    s.finishUpdates.pending = s.pending ∧ s.finishUpdates.free = s.free ∧ s.finishUpdates.clock = s.clock ∧
    s.finishUpdates.time = s.time ∧ s.finishUpdates.maps = s.maps ∧ s.finishUpdates.boot = s.boot ∧
    s.finishUpdates.avail = s.avail ∧ s.finishUpdates.sec = s.sec ∧ s.finishUpdates.ms = s.ms ∧
    s.finishUpdates.cr = s.cr ∧ s.finishUpdates.flash = s.flash ∧ s.finishUpdates.eng = s.eng ∧
    s.finishUpdates.pwr = s.pwr ∧ s.finishUpdates.isl = s.isl := by
  simp only [State.finishUpdates]
  (repeat' apply And.intro) <;> repeat' (first | (simp; done) | split | refine (foldl_keeps _ _ _ _ (fun _ _ => ?_)).trans ?_ | simp)

@[simp] theorem State.deliverLine_frame (s : State) (line : Nat) :
    (s.deliverLine line).pending = s.pending ∧ (s.deliverLine line).clock = s.clock ∧
    (s.deliverLine line).time = s.time ∧ (s.deliverLine line).boot = s.boot ∧ (s.deliverLine line).avail = s.avail ∧
    (s.deliverLine line).sec = s.sec ∧ (s.deliverLine line).cr = s.cr ∧ (s.deliverLine line).flash = s.flash ∧
    (s.deliverLine line).eng = s.eng ∧ (s.deliverLine line).pwr = s.pwr ∧ (s.deliverLine line).isl = s.isl := by
  simp [State.deliverLine]

@[simp] theorem State.unmapLeaf_frame (s : State) (d : Nat) (first : Nat) (l : Leaf) :
    (s.unmapLeaf d first l).pending = s.pending ∧ (s.unmapLeaf d first l).free = s.free ∧
    (s.unmapLeaf d first l).clock = s.clock ∧ (s.unmapLeaf d first l).out = s.out ∧
    (s.unmapLeaf d first l).regs = s.regs ∧ (s.unmapLeaf d first l).host = s.host ∧
    (s.unmapLeaf d first l).time = s.time ∧ (s.unmapLeaf d first l).boot = s.boot ∧
    (s.unmapLeaf d first l).avail = s.avail ∧ (s.unmapLeaf d first l).sec = s.sec ∧ (s.unmapLeaf d first l).net = s.net ∧
    (s.unmapLeaf d first l).cr = s.cr ∧ (s.unmapLeaf d first l).dram = s.dram ∧ (s.unmapLeaf d first l).eng = s.eng ∧
    (s.unmapLeaf d first l).pwr = s.pwr ∧ (s.unmapLeaf d first l).isl = s.isl := by
  simp only [State.unmapLeaf]
  repeat' (first | (simp; done) | split)

@[simp] theorem State.eraseRest_frame (s : State) (d : Nat) (x : District) :
    (s.eraseRest d x).pending = s.pending ∧ (s.eraseRest d x).free = s.free ∧ (s.eraseRest d x).clock = s.clock ∧
    (s.eraseRest d x).time = s.time ∧ (s.eraseRest d x).boot = s.boot ∧ (s.eraseRest d x).avail = s.avail ∧
    (s.eraseRest d x).dram = s.dram ∧ (s.eraseRest d x).eng = s.eng ∧ (s.eraseRest d x).pwr = s.pwr ∧
    (s.eraseRest d x).isl = s.isl := by
  simp [State.eraseRest]

@[simp] theorem State.tryFree_frame (s : State) (d : Nat) (slot : Nat) :
    (s.tryFree d slot).pending = s.pending ∧ (s.tryFree d slot).free = s.free ∧ (s.tryFree d slot).clock = s.clock ∧
    (s.tryFree d slot).out = s.out ∧ (s.tryFree d slot).regs = s.regs ∧ (s.tryFree d slot).host = s.host ∧
    (s.tryFree d slot).time = s.time ∧ (s.tryFree d slot).maps = s.maps ∧ (s.tryFree d slot).mem = s.mem ∧
    (s.tryFree d slot).coh = s.coh ∧ (s.tryFree d slot).boot = s.boot ∧ (s.tryFree d slot).avail = s.avail ∧
    (s.tryFree d slot).sec = s.sec ∧ (s.tryFree d slot).net = s.net ∧ (s.tryFree d slot).cr = s.cr ∧
    (s.tryFree d slot).prot = s.prot ∧ (s.tryFree d slot).dram = s.dram ∧ (s.tryFree d slot).flash = s.flash ∧
    (s.tryFree d slot).eng = s.eng ∧ (s.tryFree d slot).pwr = s.pwr ∧ (s.tryFree d slot).isl = s.isl := by
  simp only [State.tryFree]
  repeat' (first | (simp; done) | split)

@[simp] theorem State.takeUnits_frame (s : State) (n : Nat) :
    (s.takeUnits n).pending = s.pending ∧ (s.takeUnits n).free = s.free ∧ (s.takeUnits n).clock = s.clock ∧
    (s.takeUnits n).out = s.out ∧ (s.takeUnits n).regs = s.regs ∧ (s.takeUnits n).host = s.host ∧
    (s.takeUnits n).time = s.time ∧ (s.takeUnits n).maps = s.maps ∧ (s.takeUnits n).mem = s.mem ∧
    (s.takeUnits n).coh = s.coh ∧ (s.takeUnits n).boot = s.boot ∧ (s.takeUnits n).avail = s.avail ∧
    (s.takeUnits n).sec = s.sec ∧ (s.takeUnits n).net = s.net ∧ (s.takeUnits n).ms = s.ms ∧
    (s.takeUnits n).cr = s.cr ∧ (s.takeUnits n).prot = s.prot ∧ (s.takeUnits n).dram = s.dram ∧
    (s.takeUnits n).flash = s.flash ∧ (s.takeUnits n).pwr = s.pwr ∧ (s.takeUnits n).isl = s.isl := by
  simp [State.takeUnits]

@[simp] theorem State.skipDemote_frame (s : State) (d : Nat) (page : Nat) :
    (s.skipDemote d page).pending = s.pending ∧ (s.skipDemote d page).clock = s.clock ∧
    (s.skipDemote d page).time = s.time ∧ (s.skipDemote d page).maps = s.maps ∧ (s.skipDemote d page).mem = s.mem ∧
    (s.skipDemote d page).coh = s.coh ∧ (s.skipDemote d page).boot = s.boot ∧ (s.skipDemote d page).avail = s.avail ∧
    (s.skipDemote d page).sec = s.sec ∧ (s.skipDemote d page).ms = s.ms ∧ (s.skipDemote d page).prot = s.prot ∧
    (s.skipDemote d page).dram = s.dram ∧ (s.skipDemote d page).eng = s.eng ∧ (s.skipDemote d page).pwr = s.pwr ∧
    (s.skipDemote d page).isl = s.isl := by
  simp [State.skipDemote]

theorem State.locFor_frame {s : State} {own : Option Nat} {g n : Nat} {t : State} (h : s.locFor own g = some (n, t)) :
    t.pending = s.pending ∧ t.free = s.free ∧ t.clock = s.clock ∧ t.out = s.out ∧ t.regs = s.regs ∧ t.host = s.host ∧ t.time = s.time ∧
    t.maps = s.maps ∧ t.mem = s.mem ∧ t.coh = s.coh ∧ t.boot = s.boot ∧ t.avail = s.avail ∧ t.sec = s.sec ∧ t.net = s.net ∧ t.ms = s.ms ∧
    t.cr = s.cr ∧ t.prot = s.prot ∧ t.dram = s.dram ∧ t.eng = s.eng ∧ t.pwr = s.pwr ∧ t.isl = s.isl := by
  simp only [State.locFor] at h
  split at h
  · cases h; simp
  · simp [State.allocLoc_frame h]

@[simp] theorem State.demoteWrite_frame (s : State) (d : Nat) (page : Nat) (loc : Nat) (fgroup : Nat) (mask : BitVec 64) :
    (s.demoteWrite d page loc fgroup mask).pending = s.pending ∧ (s.demoteWrite d page loc fgroup mask).clock = s.clock ∧
    (s.demoteWrite d page loc fgroup mask).time = s.time ∧ (s.demoteWrite d page loc fgroup mask).boot = s.boot ∧
    (s.demoteWrite d page loc fgroup mask).avail = s.avail ∧ (s.demoteWrite d page loc fgroup mask).sec = s.sec ∧
    (s.demoteWrite d page loc fgroup mask).ms = s.ms ∧ (s.demoteWrite d page loc fgroup mask).dram = s.dram ∧
    (s.demoteWrite d page loc fgroup mask).eng = s.eng ∧ (s.demoteWrite d page loc fgroup mask).pwr = s.pwr ∧
    (s.demoteWrite d page loc fgroup mask).isl = s.isl := by
  simp only [State.demoteWrite]
  repeat' (first | (simp; done) | split)

@[simp] theorem State.demoteGo_frame (s : State) (x : Demotion) :
    (s.demoteGo x).pending = s.pending ∧ (s.demoteGo x).clock = s.clock ∧ (s.demoteGo x).time = s.time ∧
    (s.demoteGo x).boot = s.boot ∧ (s.demoteGo x).avail = s.avail ∧ (s.demoteGo x).sec = s.sec ∧
    (s.demoteGo x).ms = s.ms ∧ (s.demoteGo x).dram = s.dram ∧ (s.demoteGo x).eng = s.eng ∧
    (s.demoteGo x).pwr = s.pwr ∧ (s.demoteGo x).isl = s.isl := by
  simp only [State.demoteGo]
  repeat' (first | (simp; done) | (simp [State.locFor_frame ‹State.locFor _ _ _ = some _›]; done) | split)

@[simp] theorem State.demoteTry_frame (s : State) (x : Demotion) :
    (s.demoteTry x).pending = s.pending ∧ (s.demoteTry x).clock = s.clock ∧ (s.demoteTry x).time = s.time ∧
    (s.demoteTry x).boot = s.boot ∧ (s.demoteTry x).avail = s.avail ∧ (s.demoteTry x).sec = s.sec ∧
    (s.demoteTry x).ms = s.ms ∧ (s.demoteTry x).dram = s.dram ∧ (s.demoteTry x).eng = s.eng ∧
    (s.demoteTry x).pwr = s.pwr ∧ (s.demoteTry x).isl = s.isl := by
  simp [State.demoteTry]

@[simp] theorem State.capMet_frame (s : State) :
    s.capMet.pending = s.pending ∧ s.capMet.free = s.free ∧ s.capMet.clock = s.clock ∧
    s.capMet.out = s.out ∧ s.capMet.regs = s.regs ∧ s.capMet.time = s.time ∧ s.capMet.maps = s.maps ∧
    s.capMet.mem = s.mem ∧ s.capMet.coh = s.coh ∧ s.capMet.boot = s.boot ∧ s.capMet.avail = s.avail ∧
    s.capMet.sec = s.sec ∧ s.capMet.net = s.net ∧ s.capMet.ms = s.ms ∧ s.capMet.cr = s.cr ∧
    s.capMet.prot = s.prot ∧ s.capMet.dram = s.dram ∧ s.capMet.flash = s.flash ∧ s.capMet.eng = s.eng ∧
    s.capMet.isl = s.isl := by
  simp [State.capMet]

@[simp] theorem State.reissueShare_frame (s : State) (n : Nat) :
    (s.reissueShare n).pending = s.pending ∧ (s.reissueShare n).clock = s.clock ∧ (s.reissueShare n).time = s.time ∧
    (s.reissueShare n).mem = s.mem ∧ (s.reissueShare n).boot = s.boot ∧ (s.reissueShare n).avail = s.avail ∧
    (s.reissueShare n).sec = s.sec ∧ (s.reissueShare n).prot = s.prot ∧ (s.reissueShare n).dram = s.dram ∧
    (s.reissueShare n).pwr = s.pwr ∧ (s.reissueShare n).isl = s.isl := by
  simp only [State.reissueShare]
  (repeat' apply And.intro) <;> repeat' (first | (simp; done) | split | refine (foldl_keeps _ _ _ _ (fun _ _ => ?_)).trans ?_ | simp)

@[simp] theorem State.setScrub_frame (s : State) (n : Nat) (x : Scrub) :
    (s.setScrub n x).pending = s.pending ∧ (s.setScrub n x).free = s.free ∧ (s.setScrub n x).clock = s.clock ∧
    (s.setScrub n x).out = s.out ∧ (s.setScrub n x).regs = s.regs ∧ (s.setScrub n x).host = s.host ∧
    (s.setScrub n x).time = s.time ∧ (s.setScrub n x).maps = s.maps ∧ (s.setScrub n x).mem = s.mem ∧
    (s.setScrub n x).coh = s.coh ∧ (s.setScrub n x).boot = s.boot ∧ (s.setScrub n x).avail = s.avail ∧
    (s.setScrub n x).sec = s.sec ∧ (s.setScrub n x).net = s.net ∧ (s.setScrub n x).ms = s.ms ∧
    (s.setScrub n x).cr = s.cr ∧ (s.setScrub n x).dram = s.dram ∧ (s.setScrub n x).flash = s.flash ∧
    (s.setScrub n x).eng = s.eng ∧ (s.setScrub n x).pwr = s.pwr ∧ (s.setScrub n x).isl = s.isl := by
  simp [State.setScrub]

@[simp] theorem State.slotPin_frame (s : State) (group : Nat) (n : Nat) (level : Bool) :
    (s.slotPin group n level).pending = s.pending ∧ (s.slotPin group n level).free = s.free ∧
    (s.slotPin group n level).clock = s.clock ∧ (s.slotPin group n level).regs = s.regs ∧
    (s.slotPin group n level).host = s.host ∧ (s.slotPin group n level).time = s.time ∧
    (s.slotPin group n level).maps = s.maps ∧ (s.slotPin group n level).mem = s.mem ∧
    (s.slotPin group n level).coh = s.coh ∧ (s.slotPin group n level).boot = s.boot ∧
    (s.slotPin group n level).avail = s.avail ∧ (s.slotPin group n level).sec = s.sec ∧
    (s.slotPin group n level).net = s.net ∧ (s.slotPin group n level).ms = s.ms ∧ (s.slotPin group n level).cr = s.cr ∧
    (s.slotPin group n level).prot = s.prot ∧ (s.slotPin group n level).dram = s.dram ∧
    (s.slotPin group n level).flash = s.flash ∧ (s.slotPin group n level).eng = s.eng ∧
    (s.slotPin group n level).pwr = s.pwr ∧ (s.slotPin group n level).isl = s.isl := by
  simp [State.slotPin]

@[simp] theorem State.slotCut_frame (s : State) (n : Nat) :
    (s.slotCut n).pending = s.pending ∧ (s.slotCut n).free = s.free ∧ (s.slotCut n).clock = s.clock ∧
    (s.slotCut n).regs = s.regs ∧ (s.slotCut n).host = s.host ∧ (s.slotCut n).time = s.time ∧
    (s.slotCut n).maps = s.maps ∧ (s.slotCut n).mem = s.mem ∧ (s.slotCut n).coh = s.coh ∧
    (s.slotCut n).boot = s.boot ∧ (s.slotCut n).avail = s.avail ∧ (s.slotCut n).sec = s.sec ∧
    (s.slotCut n).net = s.net ∧ (s.slotCut n).ms = s.ms ∧ (s.slotCut n).cr = s.cr ∧ (s.slotCut n).prot = s.prot ∧
    (s.slotCut n).dram = s.dram ∧ (s.slotCut n).flash = s.flash ∧ (s.slotCut n).eng = s.eng ∧
    (s.slotCut n).pwr = s.pwr ∧ (s.slotCut n).isl = s.isl := by
  simp [State.slotCut]

@[simp] theorem State.writeGot_frame (s : State) (slot : Nat) (cid : Nat) :
    (s.writeGot slot cid).pending = s.pending ∧ (s.writeGot slot cid).clock = s.clock ∧
    (s.writeGot slot cid).time = s.time ∧ (s.writeGot slot cid).boot = s.boot ∧ (s.writeGot slot cid).avail = s.avail ∧
    (s.writeGot slot cid).sec = s.sec ∧ (s.writeGot slot cid).ms = s.ms ∧ (s.writeGot slot cid).dram = s.dram ∧
    (s.writeGot slot cid).eng = s.eng ∧ (s.writeGot slot cid).pwr = s.pwr ∧ (s.writeGot slot cid).isl = s.isl := by
  simp only [State.writeGot]
  repeat' (first | (simp; done) | split)

@[simp] theorem State.failMember_frame (s : State) (slot : Nat) :
    (s.failMember slot).pending = s.pending ∧ (s.failMember slot).clock = s.clock ∧ (s.failMember slot).time = s.time ∧
    (s.failMember slot).boot = s.boot ∧ (s.failMember slot).avail = s.avail ∧ (s.failMember slot).sec = s.sec ∧
    (s.failMember slot).ms = s.ms ∧ (s.failMember slot).dram = s.dram ∧ (s.failMember slot).eng = s.eng ∧
    (s.failMember slot).pwr = s.pwr ∧ (s.failMember slot).isl = s.isl := by
  simp only [State.failMember]
  (repeat' apply And.intro) <;> repeat' (first
      | rfl
      | refine (foldl_keeps _ _ _ _ (fun _ _ => ?_)).trans ?_
      | split
      | (simp; done))

@[simp] theorem State.slotLeave_frame (s : State) (n : Nat) (x : SsdSlot) :
    (s.slotLeave n x).pending = s.pending ∧ (s.slotLeave n x).clock = s.clock ∧ (s.slotLeave n x).time = s.time ∧
    (s.slotLeave n x).boot = s.boot ∧ (s.slotLeave n x).avail = s.avail ∧ (s.slotLeave n x).sec = s.sec ∧
    (s.slotLeave n x).ms = s.ms ∧ (s.slotLeave n x).dram = s.dram ∧ (s.slotLeave n x).eng = s.eng ∧
    (s.slotLeave n x).pwr = s.pwr ∧ (s.slotLeave n x).isl = s.isl := by
  simp [State.slotLeave]

@[simp] theorem State.endCount_frame (s : State) (h : Option HeldCount) (x : Stop) :
    (s.endCount h x).pending = s.pending ∧ (s.endCount h x).clock = s.clock ∧ (s.endCount h x).time = s.time ∧
    (s.endCount h x).maps = s.maps ∧ (s.endCount h x).mem = s.mem ∧ (s.endCount h x).coh = s.coh ∧
    (s.endCount h x).boot = s.boot ∧ (s.endCount h x).avail = s.avail ∧ (s.endCount h x).sec = s.sec ∧
    (s.endCount h x).ms = s.ms ∧ (s.endCount h x).prot = s.prot ∧ (s.endCount h x).dram = s.dram ∧
    (s.endCount h x).flash = s.flash ∧ (s.endCount h x).eng = s.eng ∧ (s.endCount h x).pwr = s.pwr ∧
    (s.endCount h x).isl = s.isl := by
  simp [State.endCount]

@[simp] theorem State.countRx_frame (s : State) (n : Nat) (ms : List Msg) :
    (s.countRx n ms).pending = s.pending ∧ (s.countRx n ms).free = s.free ∧ (s.countRx n ms).clock = s.clock ∧
    (s.countRx n ms).out = s.out ∧ (s.countRx n ms).host = s.host ∧ (s.countRx n ms).time = s.time ∧
    (s.countRx n ms).maps = s.maps ∧ (s.countRx n ms).mem = s.mem ∧ (s.countRx n ms).coh = s.coh ∧
    (s.countRx n ms).boot = s.boot ∧ (s.countRx n ms).avail = s.avail ∧ (s.countRx n ms).sec = s.sec ∧
    (s.countRx n ms).net = s.net ∧ (s.countRx n ms).ms = s.ms ∧ (s.countRx n ms).cr = s.cr ∧
    (s.countRx n ms).prot = s.prot ∧ (s.countRx n ms).dram = s.dram ∧ (s.countRx n ms).flash = s.flash ∧
    (s.countRx n ms).eng = s.eng ∧ (s.countRx n ms).pwr = s.pwr ∧ (s.countRx n ms).isl = s.isl := by
  simp [State.countRx]

@[simp] theorem State.acceptFlit_frame (s : State) (n : Nat) (f : FlitIn) :
    (s.acceptFlit n f).pending = s.pending ∧ (s.acceptFlit n f).free = s.free ∧ (s.acceptFlit n f).clock = s.clock ∧
    (s.acceptFlit n f).maps = s.maps ∧ (s.acceptFlit n f).mem = s.mem ∧ (s.acceptFlit n f).coh = s.coh ∧
    (s.acceptFlit n f).boot = s.boot ∧ (s.acceptFlit n f).avail = s.avail ∧ (s.acceptFlit n f).sec = s.sec ∧
    (s.acceptFlit n f).ms = s.ms ∧ (s.acceptFlit n f).cr = s.cr ∧ (s.acceptFlit n f).prot = s.prot ∧
    (s.acceptFlit n f).dram = s.dram ∧ (s.acceptFlit n f).flash = s.flash ∧ (s.acceptFlit n f).eng = s.eng ∧
    (s.acceptFlit n f).pwr = s.pwr ∧ (s.acceptFlit n f).isl = s.isl := by
  simp [State.acceptFlit]

@[simp] theorem State.disturb_frame (s : State) (a : Nat) :
    (s.disturb a).pending = s.pending ∧ (s.disturb a).clock = s.clock ∧ (s.disturb a).maps = s.maps ∧
    (s.disturb a).mem = s.mem ∧ (s.disturb a).coh = s.coh ∧ (s.disturb a).boot = s.boot ∧
    (s.disturb a).sec = s.sec ∧ (s.disturb a).ms = s.ms ∧ (s.disturb a).prot = s.prot ∧
    (s.disturb a).dram = s.dram ∧ (s.disturb a).flash = s.flash ∧ (s.disturb a).eng = s.eng ∧
    (s.disturb a).pwr = s.pwr ∧ (s.disturb a).isl = s.isl := by
  simp only [State.disturb]
  repeat' (first | (simp; done) | split)

@[simp] theorem State.passToFt_frame (s : State) (t : Nat) :
    (s.passToFt t).pending = s.pending ∧ (s.passToFt t).free = s.free ∧ (s.passToFt t).out = s.out ∧
    (s.passToFt t).regs = s.regs ∧ (s.passToFt t).host = s.host ∧ (s.passToFt t).maps = s.maps ∧
    (s.passToFt t).mem = s.mem ∧ (s.passToFt t).coh = s.coh ∧ (s.passToFt t).boot = s.boot ∧
    (s.passToFt t).avail = s.avail ∧ (s.passToFt t).sec = s.sec ∧ (s.passToFt t).net = s.net ∧
    (s.passToFt t).ms = s.ms ∧ (s.passToFt t).cr = s.cr ∧ (s.passToFt t).prot = s.prot ∧
    (s.passToFt t).dram = s.dram ∧ (s.passToFt t).flash = s.flash ∧ (s.passToFt t).eng = s.eng ∧
    (s.passToFt t).pwr = s.pwr ∧ (s.passToFt t).isl = s.isl := by
  simp [State.passToFt]

@[simp] theorem State.takeCrc_frame (s : State) (crc : Word) :
    (s.takeCrc crc).pending = s.pending ∧ (s.takeCrc crc).free = s.free ∧ (s.takeCrc crc).clock = s.clock ∧
    (s.takeCrc crc).time = s.time ∧ (s.takeCrc crc).maps = s.maps ∧ (s.takeCrc crc).mem = s.mem ∧
    (s.takeCrc crc).coh = s.coh ∧ (s.takeCrc crc).boot = s.boot ∧ (s.takeCrc crc).avail = s.avail ∧
    (s.takeCrc crc).sec = s.sec ∧ (s.takeCrc crc).net = s.net ∧ (s.takeCrc crc).ms = s.ms ∧
    (s.takeCrc crc).cr = s.cr ∧ (s.takeCrc crc).prot = s.prot ∧ (s.takeCrc crc).dram = s.dram ∧
    (s.takeCrc crc).flash = s.flash ∧ (s.takeCrc crc).eng = s.eng ∧ (s.takeCrc crc).pwr = s.pwr ∧
    (s.takeCrc crc).isl = s.isl := by
  simp [State.takeCrc]

@[simp] theorem State.takePage_frame (s : State) (d : Nat) (page : Nat) :
    (s.takePage d page).pending = s.pending ∧ (s.takePage d page).free = s.free ∧ (s.takePage d page).clock = s.clock ∧
    (s.takePage d page).out = s.out ∧ (s.takePage d page).regs = s.regs ∧ (s.takePage d page).host = s.host ∧
    (s.takePage d page).time = s.time ∧ (s.takePage d page).boot = s.boot ∧ (s.takePage d page).avail = s.avail ∧
    (s.takePage d page).sec = s.sec ∧ (s.takePage d page).net = s.net ∧ (s.takePage d page).cr = s.cr ∧
    (s.takePage d page).dram = s.dram ∧ (s.takePage d page).flash = s.flash ∧ (s.takePage d page).eng = s.eng ∧
    (s.takePage d page).pwr = s.pwr ∧ (s.takePage d page).isl = s.isl := by
  simp only [State.takePage]
  (repeat' apply And.intro) <;> repeat' (first | (simp; done) | (simp [State.allocRun_frame ‹State.allocRun _ _ _ _ = some _›]; done) |
    (simp [State.allocLoc_frame ‹State.allocLoc _ _ = some _›]; done) | split |
      refine (foldl_keeps _ _ _ _ (fun _ _ => ?_)).trans ?_ | simp)

@[simp] theorem State.takeHeld_frame (s : State) (fn : Nat) (block : Nat) (off : Nat) :
    (s.takeHeld fn block off).1.pending = s.pending ∧ (s.takeHeld fn block off).1.free = s.free ∧
    (s.takeHeld fn block off).1.clock = s.clock ∧ (s.takeHeld fn block off).1.out = s.out ∧
    (s.takeHeld fn block off).1.host = s.host ∧ (s.takeHeld fn block off).1.time = s.time ∧
    (s.takeHeld fn block off).1.maps = s.maps ∧ (s.takeHeld fn block off).1.mem = s.mem ∧
    (s.takeHeld fn block off).1.coh = s.coh ∧ (s.takeHeld fn block off).1.boot = s.boot ∧
    (s.takeHeld fn block off).1.avail = s.avail ∧ (s.takeHeld fn block off).1.sec = s.sec ∧
    (s.takeHeld fn block off).1.net = s.net ∧ (s.takeHeld fn block off).1.ms = s.ms ∧
    (s.takeHeld fn block off).1.cr = s.cr ∧ (s.takeHeld fn block off).1.prot = s.prot ∧
    (s.takeHeld fn block off).1.dram = s.dram ∧ (s.takeHeld fn block off).1.flash = s.flash ∧
    (s.takeHeld fn block off).1.eng = s.eng ∧ (s.takeHeld fn block off).1.pwr = s.pwr ∧
    (s.takeHeld fn block off).1.isl = s.isl := by
  simp only [State.takeHeld]
  repeat' (first | (simp; done) | split)

@[simp] theorem State.vfWrite_frame (s : State) (fn : Nat) (off : Nat) (val : Word) (low : Option Word) :
    (s.vfWrite fn off val low).pending = s.pending ∧ (s.vfWrite fn off val low).clock = s.clock ∧
    (s.vfWrite fn off val low).time = s.time ∧ (s.vfWrite fn off val low).maps = s.maps ∧
    (s.vfWrite fn off val low).mem = s.mem ∧ (s.vfWrite fn off val low).coh = s.coh ∧
    (s.vfWrite fn off val low).boot = s.boot ∧ (s.vfWrite fn off val low).avail = s.avail ∧
    (s.vfWrite fn off val low).sec = s.sec ∧ (s.vfWrite fn off val low).ms = s.ms ∧
    (s.vfWrite fn off val low).prot = s.prot ∧ (s.vfWrite fn off val low).dram = s.dram ∧
    (s.vfWrite fn off val low).flash = s.flash ∧ (s.vfWrite fn off val low).eng = s.eng ∧
    (s.vfWrite fn off val low).pwr = s.pwr ∧ (s.vfWrite fn off val low).isl = s.isl := by
  simp [State.vfWrite]

@[simp] theorem State.barWrite_frame (s : State) (port : HPort) (fn : Nat) (off : Nat) (size : Nat) (val : Word) :
    (s.barWrite port fn off size val).pending = s.pending ∧ (s.barWrite port fn off size val).clock = s.clock ∧
    (s.barWrite port fn off size val).maps = s.maps ∧ (s.barWrite port fn off size val).mem = s.mem ∧
    (s.barWrite port fn off size val).avail = s.avail ∧ (s.barWrite port fn off size val).ms = s.ms ∧
    (s.barWrite port fn off size val).dram = s.dram ∧ (s.barWrite port fn off size val).flash = s.flash ∧
    (s.barWrite port fn off size val).eng = s.eng ∧ (s.barWrite port fn off size val).pwr = s.pwr ∧
    (s.barWrite port fn off size val).isl = s.isl := by
  simp [State.barWrite]

@[simp] theorem State.pairWrite_frame (s : State) (port : HPort) (off : Nat) (val : Word) :
    (s.pairWrite port off val).pending = s.pending ∧ (s.pairWrite port off val).clock = s.clock ∧
    (s.pairWrite port off val).maps = s.maps ∧ (s.pairWrite port off val).mem = s.mem ∧
    (s.pairWrite port off val).avail = s.avail ∧ (s.pairWrite port off val).ms = s.ms ∧
    (s.pairWrite port off val).dram = s.dram ∧ (s.pairWrite port off val).flash = s.flash ∧
    (s.pairWrite port off val).eng = s.eng ∧ (s.pairWrite port off val).pwr = s.pwr ∧
    (s.pairWrite port off val).isl = s.isl := by
  simp [State.pairWrite]

@[simp] theorem State.drainEngine_frame (s : State) (a : Nat) (e : Nat) :
    (s.drainEngine a e).pending = s.pending ∧ (s.drainEngine a e).free = s.free ∧ (s.drainEngine a e).clock = s.clock ∧
    (s.drainEngine a e).out = s.out ∧ (s.drainEngine a e).host = s.host ∧ (s.drainEngine a e).time = s.time ∧
    (s.drainEngine a e).maps = s.maps ∧ (s.drainEngine a e).mem = s.mem ∧ (s.drainEngine a e).coh = s.coh ∧
    (s.drainEngine a e).boot = s.boot ∧ (s.drainEngine a e).avail = s.avail ∧ (s.drainEngine a e).sec = s.sec ∧
    (s.drainEngine a e).net = s.net ∧ (s.drainEngine a e).ms = s.ms ∧ (s.drainEngine a e).cr = s.cr ∧
    (s.drainEngine a e).prot = s.prot ∧ (s.drainEngine a e).dram = s.dram ∧ (s.drainEngine a e).flash = s.flash ∧
    (s.drainEngine a e).pwr = s.pwr ∧ (s.drainEngine a e).isl = s.isl := by
  simp [State.drainEngine]

@[simp] theorem State.drainMany_frame (s : State) (x1 : Nat) (x2 : Int) :
    (s.drainMany x1 x2).pending = s.pending ∧ (s.drainMany x1 x2).free = s.free ∧ (s.drainMany x1 x2).clock = s.clock ∧
    (s.drainMany x1 x2).out = s.out ∧ (s.drainMany x1 x2).host = s.host ∧ (s.drainMany x1 x2).time = s.time ∧
    (s.drainMany x1 x2).maps = s.maps ∧ (s.drainMany x1 x2).mem = s.mem ∧ (s.drainMany x1 x2).coh = s.coh ∧
    (s.drainMany x1 x2).boot = s.boot ∧ (s.drainMany x1 x2).avail = s.avail ∧ (s.drainMany x1 x2).sec = s.sec ∧
    (s.drainMany x1 x2).net = s.net ∧ (s.drainMany x1 x2).ms = s.ms ∧ (s.drainMany x1 x2).cr = s.cr ∧
    (s.drainMany x1 x2).prot = s.prot ∧ (s.drainMany x1 x2).dram = s.dram ∧ (s.drainMany x1 x2).flash = s.flash ∧
    (s.drainMany x1 x2).pwr = s.pwr ∧ (s.drainMany x1 x2).isl = s.isl := by
  induction x1 generalizing s x2 with
  | zero => simp [State.drainMany]
  | succ k ih =>
    simp only [State.drainMany]
    repeat' (first | (simp [ih]; done) | split)

@[simp] theorem State.shedCompute_frame (s : State) :
    s.shedCompute.pending = s.pending ∧ s.shedCompute.free = s.free ∧ s.shedCompute.clock = s.clock ∧
    s.shedCompute.host = s.host ∧ s.shedCompute.time = s.time ∧ s.shedCompute.maps = s.maps ∧
    s.shedCompute.mem = s.mem ∧ s.shedCompute.coh = s.coh ∧ s.shedCompute.boot = s.boot ∧
    s.shedCompute.sec = s.sec ∧ s.shedCompute.net = s.net ∧ s.shedCompute.ms = s.ms ∧
    s.shedCompute.cr = s.cr ∧ s.shedCompute.prot = s.prot ∧ s.shedCompute.dram = s.dram ∧
    s.shedCompute.flash = s.flash ∧ s.shedCompute.isl = s.isl := by
  simp [State.shedCompute]

@[simp] theorem State.doorbellIgnored_frame (s : State) (port : Nat) (ring : Nat) (val : Word64) :
    (s.doorbellIgnored port ring val).pending = s.pending ∧ (s.doorbellIgnored port ring val).free = s.free ∧
    (s.doorbellIgnored port ring val).clock = s.clock ∧ (s.doorbellIgnored port ring val).regs = s.regs ∧
    (s.doorbellIgnored port ring val).time = s.time ∧ (s.doorbellIgnored port ring val).maps = s.maps ∧
    (s.doorbellIgnored port ring val).mem = s.mem ∧ (s.doorbellIgnored port ring val).coh = s.coh ∧
    (s.doorbellIgnored port ring val).boot = s.boot ∧ (s.doorbellIgnored port ring val).avail = s.avail ∧
    (s.doorbellIgnored port ring val).sec = s.sec ∧ (s.doorbellIgnored port ring val).net = s.net ∧
    (s.doorbellIgnored port ring val).ms = s.ms ∧ (s.doorbellIgnored port ring val).cr = s.cr ∧
    (s.doorbellIgnored port ring val).prot = s.prot ∧ (s.doorbellIgnored port ring val).dram = s.dram ∧
    (s.doorbellIgnored port ring val).flash = s.flash ∧ (s.doorbellIgnored port ring val).eng = s.eng ∧
    (s.doorbellIgnored port ring val).pwr = s.pwr ∧ (s.doorbellIgnored port ring val).isl = s.isl := by
  simp [State.doorbellIgnored]

@[simp] theorem State.closeSession_frame (s : State) (id : Nat) (why : Nat) :
    (s.closeSession id why).pending = s.pending ∧ (s.closeSession id why).free = s.free ∧
    (s.closeSession id why).clock = s.clock ∧ (s.closeSession id why).regs = s.regs ∧
    (s.closeSession id why).time = s.time ∧ (s.closeSession id why).maps = s.maps ∧ (s.closeSession id why).mem = s.mem ∧
    (s.closeSession id why).coh = s.coh ∧ (s.closeSession id why).boot = s.boot ∧
    (s.closeSession id why).avail = s.avail ∧ (s.closeSession id why).net = s.net ∧ (s.closeSession id why).ms = s.ms ∧
    (s.closeSession id why).cr = s.cr ∧ (s.closeSession id why).prot = s.prot ∧ (s.closeSession id why).dram = s.dram ∧
    (s.closeSession id why).flash = s.flash ∧ (s.closeSession id why).eng = s.eng ∧ (s.closeSession id why).pwr = s.pwr ∧
    (s.closeSession id why).isl = s.isl := by
  simp [State.closeSession]

@[simp] theorem State.spdm_frame (s : State) (t : Transport) (code : Nat) (value : Nat) :
    (s.spdm t code value).pending = s.pending ∧ (s.spdm t code value).free = s.free ∧
    (s.spdm t code value).clock = s.clock ∧ (s.spdm t code value).regs = s.regs ∧ (s.spdm t code value).host = s.host ∧
    (s.spdm t code value).time = s.time ∧ (s.spdm t code value).maps = s.maps ∧ (s.spdm t code value).mem = s.mem ∧
    (s.spdm t code value).coh = s.coh ∧ (s.spdm t code value).boot = s.boot ∧ (s.spdm t code value).avail = s.avail ∧
    (s.spdm t code value).sec = s.sec ∧ (s.spdm t code value).net = s.net ∧ (s.spdm t code value).ms = s.ms ∧
    (s.spdm t code value).cr = s.cr ∧ (s.spdm t code value).prot = s.prot ∧ (s.spdm t code value).dram = s.dram ∧
    (s.spdm t code value).flash = s.flash ∧ (s.spdm t code value).eng = s.eng ∧ (s.spdm t code value).pwr = s.pwr ∧
    (s.spdm t code value).isl = s.isl := by
  simp [State.spdm]

@[simp] theorem State.abortEvent_frame (s : State) (e : Event) :
    (s.abortEvent e).pending = s.pending ∧ (s.abortEvent e).clock = s.clock ∧ (s.abortEvent e).maps = s.maps ∧
    (s.abortEvent e).mem = s.mem ∧ (s.abortEvent e).coh = s.coh ∧ (s.abortEvent e).boot = s.boot ∧
    (s.abortEvent e).sec = s.sec ∧ (s.abortEvent e).prot = s.prot ∧ (s.abortEvent e).dram = s.dram ∧
    (s.abortEvent e).flash = s.flash ∧ (s.abortEvent e).eng = s.eng ∧ (s.abortEvent e).pwr = s.pwr ∧
    (s.abortEvent e).isl = s.isl := by
  simp only [State.abortEvent]
  repeat' (first | (simp; done) | split)

@[simp] theorem State.runEvents_frame (s : State) (t : Nat) :
    (s.runEvents t).pending = s.pending ∧ (s.runEvents t).clock = s.clock ∧ (s.runEvents t).maps = s.maps ∧
    (s.runEvents t).mem = s.mem ∧ (s.runEvents t).coh = s.coh ∧ (s.runEvents t).boot = s.boot ∧
    (s.runEvents t).sec = s.sec ∧ (s.runEvents t).prot = s.prot ∧ (s.runEvents t).dram = s.dram ∧
    (s.runEvents t).flash = s.flash ∧ (s.runEvents t).eng = s.eng ∧ (s.runEvents t).isl = s.isl := by
  simp [State.runEvents]

@[simp] theorem State.stepForward_frame (s : State) (ns : Nat) :
    (s.stepForward ns).pending = s.pending ∧ (s.stepForward ns).clock = s.clock ∧ (s.stepForward ns).maps = s.maps ∧
    (s.stepForward ns).mem = s.mem ∧ (s.stepForward ns).coh = s.coh ∧ (s.stepForward ns).boot = s.boot ∧
    (s.stepForward ns).sec = s.sec ∧ (s.stepForward ns).prot = s.prot ∧ (s.stepForward ns).dram = s.dram ∧
    (s.stepForward ns).flash = s.flash ∧ (s.stepForward ns).eng = s.eng ∧ (s.stepForward ns).isl = s.isl := by
  simp [State.stepForward]

@[simp] theorem State.steer_frame (s : State) (sample : Int) :
    (s.steer sample).pending = s.pending ∧ (s.steer sample).clock = s.clock ∧ (s.steer sample).maps = s.maps ∧
    (s.steer sample).mem = s.mem ∧ (s.steer sample).coh = s.coh ∧ (s.steer sample).boot = s.boot ∧
    (s.steer sample).sec = s.sec ∧ (s.steer sample).prot = s.prot ∧ (s.steer sample).dram = s.dram ∧
    (s.steer sample).flash = s.flash ∧ (s.steer sample).eng = s.eng ∧ (s.steer sample).isl = s.isl := by
  simp [State.steer]

@[simp] theorem State.acceptEdge_frame (s : State) (n : Nat) :
    (s.acceptEdge n).pending = s.pending ∧ (s.acceptEdge n).clock = s.clock ∧ (s.acceptEdge n).maps = s.maps ∧
    (s.acceptEdge n).mem = s.mem ∧ (s.acceptEdge n).coh = s.coh ∧ (s.acceptEdge n).boot = s.boot ∧
    (s.acceptEdge n).sec = s.sec ∧ (s.acceptEdge n).prot = s.prot ∧ (s.acceptEdge n).dram = s.dram ∧
    (s.acceptEdge n).flash = s.flash ∧ (s.acceptEdge n).eng = s.eng ∧ (s.acceptEdge n).isl = s.isl := by
  simp [State.acceptEdge]

@[simp] theorem State.readArg_frame (s : State) (c : Cmd) :
    (s.readArg c).1.pending = s.pending ∧ (s.readArg c).1.clock = s.clock ∧ (s.readArg c).1.time = s.time ∧
    (s.readArg c).1.boot = s.boot ∧ (s.readArg c).1.avail = s.avail ∧ (s.readArg c).1.sec = s.sec ∧
    (s.readArg c).1.cr = s.cr ∧ (s.readArg c).1.eng = s.eng ∧ (s.readArg c).1.pwr = s.pwr ∧
    (s.readArg c).1.isl = s.isl := by
  simp only [State.readArg]
  repeat' (first | (simp; done) | split)

@[simp] theorem State.operator_pending (s : State) (c : Cmd) (k : Kind) (go : State → Nat → State) (h : ∀ s n,
    (go s n).pending = s.pending) : (s.operator c k go).pending = s.pending := by
  simp only [State.operator]
  repeat' (first | (simp [h]; done) | split | simp [h])
@[simp] theorem State.operator_clock (s : State) (c : Cmd) (k : Kind) (go : State → Nat → State) (h : ∀ s n, (go s n).clock = s.clock) :
    (s.operator c k go).clock = s.clock := by
  simp only [State.operator]
  repeat' (first | (simp [h]; done) | split | simp [h])
@[simp] theorem State.operator_time (s : State) (c : Cmd) (k : Kind) (go : State → Nat → State) (h : ∀ s n, (go s n).time = s.time) :
    (s.operator c k go).time = s.time := by
  simp only [State.operator]
  repeat' (first | (simp [h]; done) | split | simp [h])
@[simp] theorem State.operator_boot (s : State) (c : Cmd) (k : Kind) (go : State → Nat → State) (h : ∀ s n, (go s n).boot = s.boot) :
    (s.operator c k go).boot = s.boot := by
  simp only [State.operator]
  repeat' (first | (simp [h]; done) | split | simp [h])
@[simp] theorem State.operator_avail (s : State) (c : Cmd) (k : Kind) (go : State → Nat → State) (h : ∀ s n, (go s n).avail = s.avail) :
    (s.operator c k go).avail = s.avail := by
  simp only [State.operator]
  repeat' (first | (simp [h]; done) | split | simp [h])
@[simp] theorem State.operator_sec (s : State) (c : Cmd) (k : Kind) (go : State → Nat → State) (h : ∀ s n, (go s n).sec = s.sec) :
    (s.operator c k go).sec = s.sec := by
  simp only [State.operator]
  repeat' (first | (simp [h]; done) | split | simp [h])
@[simp] theorem State.operator_eng (s : State) (c : Cmd) (k : Kind) (go : State → Nat → State) (h : ∀ s n, (go s n).eng = s.eng) :
    (s.operator c k go).eng = s.eng := by
  simp only [State.operator]
  repeat' (first | (simp [h]; done) | split | simp [h])
@[simp] theorem State.operator_pwr (s : State) (c : Cmd) (k : Kind) (go : State → Nat → State) (h : ∀ s n, (go s n).pwr = s.pwr) :
    (s.operator c k go).pwr = s.pwr := by
  simp only [State.operator]
  repeat' (first | (simp [h]; done) | split | simp [h])
@[simp] theorem State.operator_isl (s : State) (c : Cmd) (k : Kind) (go : State → Nat → State) (h : ∀ s n, (go s n).isl = s.isl) :
    (s.operator c k go).isl = s.isl := by
  simp only [State.operator]
  repeat' (first | (simp [h]; done) | split | simp [h])

@[simp] theorem State.squeezeMemory_frame (s : State) :
    s.squeezeMemory.pending = s.pending ∧ s.squeezeMemory.free = s.free ∧ s.squeezeMemory.clock = s.clock ∧
    s.squeezeMemory.regs = s.regs ∧ s.squeezeMemory.time = s.time ∧ s.squeezeMemory.maps = s.maps ∧
    s.squeezeMemory.mem = s.mem ∧ s.squeezeMemory.coh = s.coh ∧ s.squeezeMemory.boot = s.boot ∧
    s.squeezeMemory.avail = s.avail ∧ s.squeezeMemory.sec = s.sec ∧ s.squeezeMemory.net = s.net ∧
    s.squeezeMemory.ms = s.ms ∧ s.squeezeMemory.cr = s.cr ∧ s.squeezeMemory.prot = s.prot ∧
    s.squeezeMemory.dram = s.dram ∧ s.squeezeMemory.flash = s.flash ∧ s.squeezeMemory.eng = s.eng ∧
    s.squeezeMemory.isl = s.isl := by
  simp [State.squeezeMemory]

@[simp] theorem State.writeSegs_frame (s : State) (n : Nat) (d : Nat) (segs : List (Opref × List Byte)) :
    (s.writeSegs n d segs).pending = s.pending ∧ (s.writeSegs n d segs).clock = s.clock ∧
    (s.writeSegs n d segs).time = s.time ∧ (s.writeSegs n d segs).boot = s.boot ∧
    (s.writeSegs n d segs).avail = s.avail ∧ (s.writeSegs n d segs).sec = s.sec ∧ (s.writeSegs n d segs).cr = s.cr ∧
    (s.writeSegs n d segs).eng = s.eng ∧ (s.writeSegs n d segs).pwr = s.pwr ∧ (s.writeSegs n d segs).isl = s.isl := by
  simp only [State.writeSegs]
  (repeat' apply And.intro) <;> repeat' (first | (simp; done) | split | refine (foldl_keeps _ _ _ _ (fun _ _ => ?_)).trans ?_ | simp)

@[simp] theorem State.rollDone_frame (s : State) (r : Roll) :
    (s.rollDone r).pending = s.pending ∧ (s.rollDone r).clock = s.clock ∧ (s.rollDone r).time = s.time ∧
    (s.rollDone r).maps = s.maps ∧ (s.rollDone r).mem = s.mem ∧ (s.rollDone r).coh = s.coh ∧
    (s.rollDone r).sec = s.sec ∧ (s.rollDone r).ms = s.ms ∧ (s.rollDone r).prot = s.prot ∧
    (s.rollDone r).dram = s.dram ∧ (s.rollDone r).flash = s.flash ∧ (s.rollDone r).eng = s.eng ∧
    (s.rollDone r).pwr = s.pwr ∧ (s.rollDone r).isl = s.isl := by
  simp [State.rollDone]

@[simp] theorem State.rollSwapped_frame (s : State) (p : Nat) :
    (s.rollSwapped p).pending = s.pending ∧ (s.rollSwapped p).clock = s.clock ∧ (s.rollSwapped p).maps = s.maps ∧
    (s.rollSwapped p).mem = s.mem ∧ (s.rollSwapped p).coh = s.coh ∧ (s.rollSwapped p).ms = s.ms ∧
    (s.rollSwapped p).prot = s.prot ∧ (s.rollSwapped p).dram = s.dram ∧ (s.rollSwapped p).flash = s.flash ∧
    (s.rollSwapped p).eng = s.eng ∧ (s.rollSwapped p).pwr = s.pwr ∧ (s.rollSwapped p).isl = s.isl := by
  simp only [State.rollSwapped]
  repeat' (first | (simp; done) | split)

@[simp] theorem State.endSwitch_frame (s : State) (p : Nat) (w : Switch) :
    (s.endSwitch p w).pending = s.pending ∧ (s.endSwitch p w).clock = s.clock ∧ (s.endSwitch p w).maps = s.maps ∧
    (s.endSwitch p w).mem = s.mem ∧ (s.endSwitch p w).coh = s.coh ∧ (s.endSwitch p w).ms = s.ms ∧
    (s.endSwitch p w).prot = s.prot ∧ (s.endSwitch p w).dram = s.dram ∧ (s.endSwitch p w).flash = s.flash ∧
    (s.endSwitch p w).eng = s.eng ∧ (s.endSwitch p w).pwr = s.pwr ∧ (s.endSwitch p w).isl = s.isl := by
  simp [State.endSwitch]

@[simp] theorem State.admit_frame (s : State) (n : Nat) (i : Nat) (x3 : Nat) (x4 : List Access) :
    (s.admitAccesses n i x3 x4).pending = s.pending ∧ (s.admitAccesses n i x3 x4).free = s.free ∧ (s.admitAccesses n i x3 x4).clock = s.clock ∧
    (s.admitAccesses n i x3 x4).out = s.out ∧ (s.admitAccesses n i x3 x4).regs = s.regs ∧ (s.admitAccesses n i x3 x4).host = s.host ∧
    (s.admitAccesses n i x3 x4).time = s.time ∧ (s.admitAccesses n i x3 x4).maps = s.maps ∧ (s.admitAccesses n i x3 x4).mem = s.mem ∧
    (s.admitAccesses n i x3 x4).coh = s.coh ∧ (s.admitAccesses n i x3 x4).boot = s.boot ∧ (s.admitAccesses n i x3 x4).avail = s.avail ∧
    (s.admitAccesses n i x3 x4).sec = s.sec ∧ (s.admitAccesses n i x3 x4).net = s.net ∧ (s.admitAccesses n i x3 x4).ms = s.ms ∧
    (s.admitAccesses n i x3 x4).cr = s.cr ∧ (s.admitAccesses n i x3 x4).prot = s.prot ∧ (s.admitAccesses n i x3 x4).flash = s.flash ∧
    (s.admitAccesses n i x3 x4).eng = s.eng ∧ (s.admitAccesses n i x3 x4).pwr = s.pwr ∧ (s.admitAccesses n i x3 x4).isl = s.isl := by
  induction x4 generalizing s x3 with
  | nil => cases x3 <;> simp [State.admitAccesses]
  | cons a l ih =>
    cases x3 with
    | zero => simp [State.admitAccesses]
    | succ k =>
      simp only [State.admitAccesses]
      repeat' (first | (simp [ih]; done) | split)

@[simp] theorem State.withFetchWord_frame (s : State) (nbits : Nat) (w : Nat) :
    (s.withFetchWord nbits w).free = s.free ∧ (s.withFetchWord nbits w).clock = s.clock ∧
    (s.withFetchWord nbits w).out = s.out ∧ (s.withFetchWord nbits w).regs = s.regs ∧
    (s.withFetchWord nbits w).host = s.host ∧ (s.withFetchWord nbits w).time = s.time ∧
    (s.withFetchWord nbits w).maps = s.maps ∧ (s.withFetchWord nbits w).mem = s.mem ∧
    (s.withFetchWord nbits w).coh = s.coh ∧ (s.withFetchWord nbits w).boot = s.boot ∧
    (s.withFetchWord nbits w).avail = s.avail ∧ (s.withFetchWord nbits w).sec = s.sec ∧
    (s.withFetchWord nbits w).net = s.net ∧ (s.withFetchWord nbits w).ms = s.ms ∧ (s.withFetchWord nbits w).cr = s.cr ∧
    (s.withFetchWord nbits w).prot = s.prot ∧ (s.withFetchWord nbits w).dram = s.dram ∧
    (s.withFetchWord nbits w).flash = s.flash ∧ (s.withFetchWord nbits w).eng = s.eng ∧
    (s.withFetchWord nbits w).pwr = s.pwr ∧ (s.withFetchWord nbits w).isl = s.isl := by
  simp only [State.withFetchWord]
  (repeat' apply And.intro) <;> repeat' (first | (simp; done) | split | refine (foldl_keeps _ _ _ _ (fun _ _ => ?_)).trans ?_ | simp)

@[simp] theorem State.writeBackAll_frame (s : State) (n : Nat) :
    (s.writeBackAll n).pending = s.pending ∧ (s.writeBackAll n).free = s.free ∧ (s.writeBackAll n).clock = s.clock ∧
    (s.writeBackAll n).out = s.out ∧ (s.writeBackAll n).regs = s.regs ∧ (s.writeBackAll n).host = s.host ∧
    (s.writeBackAll n).time = s.time ∧ (s.writeBackAll n).maps = s.maps ∧ (s.writeBackAll n).mem = s.mem ∧
    (s.writeBackAll n).coh = s.coh ∧ (s.writeBackAll n).boot = s.boot ∧ (s.writeBackAll n).avail = s.avail ∧
    (s.writeBackAll n).sec = s.sec ∧ (s.writeBackAll n).net = s.net ∧ (s.writeBackAll n).ms = s.ms ∧
    (s.writeBackAll n).cr = s.cr ∧ (s.writeBackAll n).flash = s.flash ∧ (s.writeBackAll n).eng = s.eng ∧
    (s.writeBackAll n).pwr = s.pwr ∧ (s.writeBackAll n).isl = s.isl := by
  simp [State.writeBackAll]

@[simp] theorem State.orderChans_frame (s : State) (n : Nat) :
    (s.orderChans n).pending = s.pending ∧ (s.orderChans n).free = s.free ∧ (s.orderChans n).clock = s.clock ∧
    (s.orderChans n).out = s.out ∧ (s.orderChans n).regs = s.regs ∧ (s.orderChans n).host = s.host ∧
    (s.orderChans n).time = s.time ∧ (s.orderChans n).maps = s.maps ∧ (s.orderChans n).mem = s.mem ∧
    (s.orderChans n).coh = s.coh ∧ (s.orderChans n).boot = s.boot ∧ (s.orderChans n).avail = s.avail ∧
    (s.orderChans n).sec = s.sec ∧ (s.orderChans n).net = s.net ∧ (s.orderChans n).ms = s.ms ∧
    (s.orderChans n).cr = s.cr ∧ (s.orderChans n).prot = s.prot ∧ (s.orderChans n).flash = s.flash ∧
    (s.orderChans n).eng = s.eng ∧ (s.orderChans n).pwr = s.pwr ∧ (s.orderChans n).isl = s.isl := by
  simp [State.orderChans]

@[simp] theorem State.loseShare_frame (s : State) (n : Nat) :
    (s.loseShare n).pending = s.pending ∧ (s.loseShare n).free = s.free ∧ (s.loseShare n).clock = s.clock ∧
    (s.loseShare n).out = s.out ∧ (s.loseShare n).regs = s.regs ∧ (s.loseShare n).host = s.host ∧
    (s.loseShare n).time = s.time ∧ (s.loseShare n).maps = s.maps ∧ (s.loseShare n).boot = s.boot ∧
    (s.loseShare n).avail = s.avail ∧ (s.loseShare n).sec = s.sec ∧ (s.loseShare n).net = s.net ∧
    (s.loseShare n).ms = s.ms ∧ (s.loseShare n).cr = s.cr ∧ (s.loseShare n).flash = s.flash ∧
    (s.loseShare n).eng = s.eng ∧ (s.loseShare n).pwr = s.pwr ∧ (s.loseShare n).isl = s.isl := by
  simp [State.loseShare]

@[simp] theorem State.parkOwn_frame (s : State) (n : Nat) :
    (s.parkOwn n).pending = s.pending ∧ (s.parkOwn n).free = s.free ∧ (s.parkOwn n).clock = s.clock ∧
    (s.parkOwn n).out = s.out ∧ (s.parkOwn n).regs = s.regs ∧ (s.parkOwn n).host = s.host ∧
    (s.parkOwn n).time = s.time ∧ (s.parkOwn n).maps = s.maps ∧ (s.parkOwn n).mem = s.mem ∧
    (s.parkOwn n).boot = s.boot ∧ (s.parkOwn n).avail = s.avail ∧ (s.parkOwn n).sec = s.sec ∧
    (s.parkOwn n).net = s.net ∧ (s.parkOwn n).prot = s.prot ∧ (s.parkOwn n).dram = s.dram ∧
    (s.parkOwn n).eng = s.eng ∧ (s.parkOwn n).pwr = s.pwr ∧ (s.parkOwn n).isl = s.isl := by
  simp [State.parkOwn]

@[simp] theorem State.answerLedgers_frame (s : State) (n : Nat) (reason : Nat) :
    (s.answerLedgers n reason).pending = s.pending ∧ (s.answerLedgers n reason).clock = s.clock ∧
    (s.answerLedgers n reason).time = s.time ∧ (s.answerLedgers n reason).maps = s.maps ∧
    (s.answerLedgers n reason).mem = s.mem ∧ (s.answerLedgers n reason).boot = s.boot ∧
    (s.answerLedgers n reason).avail = s.avail ∧ (s.answerLedgers n reason).sec = s.sec ∧
    (s.answerLedgers n reason).prot = s.prot ∧ (s.answerLedgers n reason).dram = s.dram ∧
    (s.answerLedgers n reason).eng = s.eng ∧ (s.answerLedgers n reason).pwr = s.pwr ∧
    (s.answerLedgers n reason).isl = s.isl := by
  simp [State.answerLedgers]

@[simp] theorem State.shareLost_frame (s : State) (n : Nat) :
    (s.shareLost n).pending = s.pending ∧ (s.shareLost n).clock = s.clock ∧ (s.shareLost n).time = s.time ∧
    (s.shareLost n).boot = s.boot ∧ (s.shareLost n).sec = s.sec ∧ (s.shareLost n).pwr = s.pwr ∧
    (s.shareLost n).isl = s.isl := by
  simp [State.shareLost]

@[simp] theorem State.failAvenue_frame (s : State) (a : Nat) :
    (s.failAvenue a).pending = s.pending ∧ (s.failAvenue a).clock = s.clock ∧ (s.failAvenue a).boot = s.boot ∧
    (s.failAvenue a).sec = s.sec ∧ (s.failAvenue a).pwr = s.pwr ∧ (s.failAvenue a).isl = s.isl := by
  simp only [State.failAvenue]
  repeat' (first | (simp; done) | split)

@[simp] theorem State.splitOnce_frame (s : State) (f : Nat) :
    (s.splitOnce f).pending = s.pending ∧ (s.splitOnce f).free = s.free ∧ (s.splitOnce f).clock = s.clock ∧
    (s.splitOnce f).out = s.out ∧ (s.splitOnce f).regs = s.regs ∧ (s.splitOnce f).host = s.host ∧
    (s.splitOnce f).time = s.time ∧ (s.splitOnce f).mem = s.mem ∧ (s.splitOnce f).coh = s.coh ∧
    (s.splitOnce f).boot = s.boot ∧ (s.splitOnce f).avail = s.avail ∧ (s.splitOnce f).sec = s.sec ∧
    (s.splitOnce f).net = s.net ∧ (s.splitOnce f).ms = s.ms ∧ (s.splitOnce f).cr = s.cr ∧
    (s.splitOnce f).prot = s.prot ∧ (s.splitOnce f).dram = s.dram ∧ (s.splitOnce f).flash = s.flash ∧
    (s.splitOnce f).eng = s.eng ∧ (s.splitOnce f).pwr = s.pwr ∧ (s.splitOnce f).isl = s.isl := by
  simp only [State.splitOnce]
  repeat' (first | (simp; done) | split)

@[simp] theorem State.lineError_frame (s : State) (line : Nat) :
    (s.lineError line).pending = s.pending ∧ (s.lineError line).free = s.free ∧ (s.lineError line).clock = s.clock ∧
    (s.lineError line).regs = s.regs ∧ (s.lineError line).time = s.time ∧ (s.lineError line).maps = s.maps ∧
    (s.lineError line).coh = s.coh ∧ (s.lineError line).boot = s.boot ∧ (s.lineError line).avail = s.avail ∧
    (s.lineError line).sec = s.sec ∧ (s.lineError line).net = s.net ∧ (s.lineError line).ms = s.ms ∧
    (s.lineError line).cr = s.cr ∧ (s.lineError line).dram = s.dram ∧ (s.lineError line).flash = s.flash ∧
    (s.lineError line).eng = s.eng ∧ (s.lineError line).pwr = s.pwr ∧ (s.lineError line).isl = s.isl := by
  simp only [State.lineError]
  (repeat' apply And.intro) <;> repeat' (first | (simp; done) | split | refine (foldl_keeps _ _ _ _ (fun _ _ => ?_)).trans ?_ | simp)

@[simp] theorem State.readyEngines_frame (s : State) (a : Nat) :
    (s.readyEngines a).pending = s.pending ∧ (s.readyEngines a).free = s.free ∧ (s.readyEngines a).clock = s.clock ∧
    (s.readyEngines a).out = s.out ∧ (s.readyEngines a).regs = s.regs ∧ (s.readyEngines a).host = s.host ∧
    (s.readyEngines a).time = s.time ∧ (s.readyEngines a).maps = s.maps ∧ (s.readyEngines a).mem = s.mem ∧
    (s.readyEngines a).coh = s.coh ∧ (s.readyEngines a).boot = s.boot ∧ (s.readyEngines a).avail = s.avail ∧
    (s.readyEngines a).sec = s.sec ∧ (s.readyEngines a).net = s.net ∧ (s.readyEngines a).ms = s.ms ∧
    (s.readyEngines a).cr = s.cr ∧ (s.readyEngines a).prot = s.prot ∧ (s.readyEngines a).dram = s.dram ∧
    (s.readyEngines a).flash = s.flash ∧ (s.readyEngines a).pwr = s.pwr ∧ (s.readyEngines a).isl = s.isl := by
  simp [State.readyEngines]

@[simp] theorem State.isolate_frame (s : State) (f : Nat) :
    (s.isolate f).pending = s.pending ∧ (s.isolate f).free = s.free ∧ (s.isolate f).clock = s.clock ∧
    (s.isolate f).out = s.out ∧ (s.isolate f).regs = s.regs ∧ (s.isolate f).host = s.host ∧
    (s.isolate f).time = s.time ∧ (s.isolate f).mem = s.mem ∧ (s.isolate f).coh = s.coh ∧
    (s.isolate f).boot = s.boot ∧ (s.isolate f).avail = s.avail ∧ (s.isolate f).sec = s.sec ∧
    (s.isolate f).net = s.net ∧ (s.isolate f).ms = s.ms ∧ (s.isolate f).cr = s.cr ∧ (s.isolate f).prot = s.prot ∧
    (s.isolate f).dram = s.dram ∧ (s.isolate f).flash = s.flash ∧ (s.isolate f).eng = s.eng ∧
    (s.isolate f).pwr = s.pwr ∧ (s.isolate f).isl = s.isl := by
  simp [State.isolate]

@[simp] theorem State.copyFrame_frame (s : State) (live : Nat) (frame : Nat) (olds : Table LineData) :
    (s.copyFrame live frame olds).pending = s.pending ∧ (s.copyFrame live frame olds).free = s.free ∧
    (s.copyFrame live frame olds).clock = s.clock ∧ (s.copyFrame live frame olds).out = s.out ∧
    (s.copyFrame live frame olds).regs = s.regs ∧ (s.copyFrame live frame olds).host = s.host ∧
    (s.copyFrame live frame olds).time = s.time ∧ (s.copyFrame live frame olds).maps = s.maps ∧
    (s.copyFrame live frame olds).coh = s.coh ∧ (s.copyFrame live frame olds).boot = s.boot ∧
    (s.copyFrame live frame olds).avail = s.avail ∧ (s.copyFrame live frame olds).sec = s.sec ∧
    (s.copyFrame live frame olds).net = s.net ∧ (s.copyFrame live frame olds).ms = s.ms ∧
    (s.copyFrame live frame olds).cr = s.cr ∧ (s.copyFrame live frame olds).prot = s.prot ∧
    (s.copyFrame live frame olds).dram = s.dram ∧ (s.copyFrame live frame olds).flash = s.flash ∧
    (s.copyFrame live frame olds).eng = s.eng ∧ (s.copyFrame live frame olds).pwr = s.pwr ∧
    (s.copyFrame live frame olds).isl = s.isl := by
  simp [State.copyFrame]

@[simp] theorem State.moveCopy_frame (s : State) (old : Nat) (new : Nat) :
    (s.moveCopy old new).pending = s.pending ∧ (s.moveCopy old new).free = s.free ∧
    (s.moveCopy old new).clock = s.clock ∧ (s.moveCopy old new).out = s.out ∧ (s.moveCopy old new).regs = s.regs ∧
    (s.moveCopy old new).host = s.host ∧ (s.moveCopy old new).time = s.time ∧ (s.moveCopy old new).maps = s.maps ∧
    (s.moveCopy old new).boot = s.boot ∧ (s.moveCopy old new).avail = s.avail ∧ (s.moveCopy old new).sec = s.sec ∧
    (s.moveCopy old new).net = s.net ∧ (s.moveCopy old new).cr = s.cr ∧ (s.moveCopy old new).dram = s.dram ∧
    (s.moveCopy old new).flash = s.flash ∧ (s.moveCopy old new).eng = s.eng ∧ (s.moveCopy old new).pwr = s.pwr ∧
    (s.moveCopy old new).isl = s.isl := by
  simp only [State.moveCopy]
  repeat' (first | (simp; done) | split)

@[simp] theorem State.retireFrames_frame (s : State) (c : Cmd) (fs : List Nat) :
    (s.retireFrames c fs).pending = s.pending ∧ (s.retireFrames c fs).clock = s.clock ∧
    (s.retireFrames c fs).time = s.time ∧ (s.retireFrames c fs).boot = s.boot ∧ (s.retireFrames c fs).avail = s.avail ∧
    (s.retireFrames c fs).sec = s.sec ∧ (s.retireFrames c fs).dram = s.dram ∧ (s.retireFrames c fs).flash = s.flash ∧
    (s.retireFrames c fs).eng = s.eng ∧ (s.retireFrames c fs).pwr = s.pwr ∧ (s.retireFrames c fs).isl = s.isl := by
  simp only [State.retireFrames]
  (repeat' apply And.intro) <;> repeat' (first | (simp; done) |
    (simp [State.planMoves_frame ‹State.planMoves _ _ = some _›]; done) | split |
      refine (foldl_keeps _ _ _ _ (fun _ _ => ?_)).trans ?_ | simp)

@[simp] theorem State.demoteCopies_frame (s : State) (d : Nat) (x : District) (x3 : Nat) :
    (s.demoteCopies d x x3).pending = s.pending ∧ (s.demoteCopies d x x3).free = s.free ∧
    (s.demoteCopies d x x3).clock = s.clock ∧ (s.demoteCopies d x x3).out = s.out ∧
    (s.demoteCopies d x x3).regs = s.regs ∧ (s.demoteCopies d x x3).host = s.host ∧
    (s.demoteCopies d x x3).time = s.time ∧ (s.demoteCopies d x x3).mem = s.mem ∧ (s.demoteCopies d x x3).coh = s.coh ∧
    (s.demoteCopies d x x3).boot = s.boot ∧ (s.demoteCopies d x x3).avail = s.avail ∧
    (s.demoteCopies d x x3).sec = s.sec ∧ (s.demoteCopies d x x3).net = s.net ∧ (s.demoteCopies d x x3).cr = s.cr ∧
    (s.demoteCopies d x x3).prot = s.prot ∧ (s.demoteCopies d x x3).dram = s.dram ∧ (s.demoteCopies d x x3).eng = s.eng ∧
    (s.demoteCopies d x x3).pwr = s.pwr ∧ (s.demoteCopies d x x3).isl = s.isl := by
  induction x3 generalizing s with
  | zero => simp [State.demoteCopies]
  | succ k ih =>
    simp only [State.demoteCopies]
    repeat' (first | (simp [ih]; done) | (simp [ih, State.allocLoc_frame ‹State.allocLoc _ _ = some _›]; done) | split)

@[simp] theorem State.remark_frame (s : State) (m : Nat) (x2 : List (Nat × Queued)) :
    (s.remark m x2).pending = s.pending ∧ (s.remark m x2).free = s.free ∧ (s.remark m x2).clock = s.clock ∧
    (s.remark m x2).out = s.out ∧ (s.remark m x2).host = s.host ∧ (s.remark m x2).time = s.time ∧
    (s.remark m x2).maps = s.maps ∧ (s.remark m x2).mem = s.mem ∧ (s.remark m x2).coh = s.coh ∧
    (s.remark m x2).boot = s.boot ∧ (s.remark m x2).avail = s.avail ∧ (s.remark m x2).sec = s.sec ∧
    (s.remark m x2).ms = s.ms ∧ (s.remark m x2).cr = s.cr ∧ (s.remark m x2).prot = s.prot ∧
    (s.remark m x2).dram = s.dram ∧ (s.remark m x2).flash = s.flash ∧ (s.remark m x2).eng = s.eng ∧
    (s.remark m x2).pwr = s.pwr ∧ (s.remark m x2).isl = s.isl := by
  induction x2 generalizing s with
  | nil => simp [State.remark]
  | cons a l ih =>
    simp only [State.remark]
    repeat' (first | (simp [ih]; done) | split)

@[simp] theorem State.endLap_frame (s : State) (a : Nat) (passed : Bool) :
    (s.endLap a passed).pending = s.pending ∧ (s.endLap a passed).clock = s.clock ∧ (s.endLap a passed).boot = s.boot ∧
    (s.endLap a passed).sec = s.sec ∧ (s.endLap a passed).pwr = s.pwr ∧ (s.endLap a passed).isl = s.isl := by
  simp only [State.endLap]
  repeat' (first | (simp; done) | split)

@[simp] theorem State.readGot_frame (s : State) (slot : Nat) (cid : Nat) :
    (s.readGot slot cid).pending = s.pending ∧ (s.readGot slot cid).free = s.free ∧
    (s.readGot slot cid).clock = s.clock ∧ (s.readGot slot cid).out = s.out ∧ (s.readGot slot cid).regs = s.regs ∧
    (s.readGot slot cid).host = s.host ∧ (s.readGot slot cid).time = s.time ∧ (s.readGot slot cid).maps = s.maps ∧
    (s.readGot slot cid).mem = s.mem ∧ (s.readGot slot cid).coh = s.coh ∧ (s.readGot slot cid).boot = s.boot ∧
    (s.readGot slot cid).avail = s.avail ∧ (s.readGot slot cid).sec = s.sec ∧ (s.readGot slot cid).net = s.net ∧
    (s.readGot slot cid).ms = s.ms ∧ (s.readGot slot cid).cr = s.cr ∧ (s.readGot slot cid).prot = s.prot ∧
    (s.readGot slot cid).dram = s.dram ∧ (s.readGot slot cid).eng = s.eng ∧ (s.readGot slot cid).pwr = s.pwr ∧
    (s.readGot slot cid).isl = s.isl := by
  simp only [State.readGot]
  (repeat' apply And.intro) <;> repeat' (first | (simp; done) | split | refine (foldl_keeps _ _ _ _ (fun _ _ => ?_)).trans ?_ | simp)

@[simp] theorem State.releaseToken_frame (s : State) :
    s.releaseToken.pending = s.pending ∧ s.releaseToken.free = s.free ∧ s.releaseToken.clock = s.clock ∧
    s.releaseToken.regs = s.regs ∧ s.releaseToken.time = s.time ∧ s.releaseToken.maps = s.maps ∧
    s.releaseToken.mem = s.mem ∧ s.releaseToken.coh = s.coh ∧ s.releaseToken.boot = s.boot ∧
    s.releaseToken.avail = s.avail ∧ s.releaseToken.net = s.net ∧ s.releaseToken.ms = s.ms ∧
    s.releaseToken.cr = s.cr ∧ s.releaseToken.prot = s.prot ∧ s.releaseToken.dram = s.dram ∧
    s.releaseToken.flash = s.flash ∧ s.releaseToken.eng = s.eng ∧ s.releaseToken.pwr = s.pwr ∧
    s.releaseToken.isl = s.isl := by
  simp [State.releaseToken]

@[simp] theorem State.ringDrained_frame (s : State) (ring : Nat) :
    (s.ringDrained ring).pending = s.pending ∧ (s.ringDrained ring).free = s.free ∧
    (s.ringDrained ring).clock = s.clock ∧ (s.ringDrained ring).out = s.out ∧ (s.ringDrained ring).regs = s.regs ∧
    (s.ringDrained ring).time = s.time ∧ (s.ringDrained ring).maps = s.maps ∧ (s.ringDrained ring).mem = s.mem ∧
    (s.ringDrained ring).coh = s.coh ∧ (s.ringDrained ring).boot = s.boot ∧ (s.ringDrained ring).avail = s.avail ∧
    (s.ringDrained ring).sec = s.sec ∧ (s.ringDrained ring).net = s.net ∧ (s.ringDrained ring).ms = s.ms ∧
    (s.ringDrained ring).cr = s.cr ∧ (s.ringDrained ring).prot = s.prot ∧ (s.ringDrained ring).dram = s.dram ∧
    (s.ringDrained ring).flash = s.flash ∧ (s.ringDrained ring).eng = s.eng ∧ (s.ringDrained ring).pwr = s.pwr ∧
    (s.ringDrained ring).isl = s.isl := by
  simp [State.ringDrained]

@[simp] theorem State.pickVictim_frame (s : State) (d : Nat) :
    (s.pickVictim d).1.pending = s.pending ∧ (s.pickVictim d).1.free = s.free ∧ (s.pickVictim d).1.clock = s.clock ∧
    (s.pickVictim d).1.out = s.out ∧ (s.pickVictim d).1.regs = s.regs ∧ (s.pickVictim d).1.host = s.host ∧
    (s.pickVictim d).1.time = s.time ∧ (s.pickVictim d).1.mem = s.mem ∧ (s.pickVictim d).1.coh = s.coh ∧
    (s.pickVictim d).1.boot = s.boot ∧ (s.pickVictim d).1.avail = s.avail ∧ (s.pickVictim d).1.sec = s.sec ∧
    (s.pickVictim d).1.net = s.net ∧ (s.pickVictim d).1.ms = s.ms ∧ (s.pickVictim d).1.cr = s.cr ∧
    (s.pickVictim d).1.prot = s.prot ∧ (s.pickVictim d).1.dram = s.dram ∧ (s.pickVictim d).1.eng = s.eng ∧
    (s.pickVictim d).1.pwr = s.pwr ∧ (s.pickVictim d).1.isl = s.isl := by
  simp only [State.pickVictim]
  repeat' (first | (simp; done) | split)

@[simp] theorem State.rspIn_frame (s : State) (port : Nat) (m : Rsp) :
    (s.rspIn port m).pending = s.pending ∧ (s.rspIn port m).free = s.free ∧ (s.rspIn port m).clock = s.clock ∧
    (s.rspIn port m).out = s.out ∧ (s.rspIn port m).regs = s.regs ∧ (s.rspIn port m).host = s.host ∧
    (s.rspIn port m).time = s.time ∧ (s.rspIn port m).maps = s.maps ∧ (s.rspIn port m).mem = s.mem ∧
    (s.rspIn port m).coh = s.coh ∧ (s.rspIn port m).boot = s.boot ∧ (s.rspIn port m).avail = s.avail ∧
    (s.rspIn port m).sec = s.sec ∧ (s.rspIn port m).ms = s.ms ∧ (s.rspIn port m).cr = s.cr ∧
    (s.rspIn port m).prot = s.prot ∧ (s.rspIn port m).dram = s.dram ∧ (s.rspIn port m).flash = s.flash ∧
    (s.rspIn port m).eng = s.eng ∧ (s.rspIn port m).pwr = s.pwr ∧ (s.rspIn port m).isl = s.isl := by
  simp [State.rspIn]

@[simp] theorem State.setSession_frame (s : State) (id : Nat) (x : Session) :
    (s.setSession id x).pending = s.pending ∧ (s.setSession id x).free = s.free ∧ (s.setSession id x).clock = s.clock ∧
    (s.setSession id x).out = s.out ∧ (s.setSession id x).regs = s.regs ∧ (s.setSession id x).host = s.host ∧
    (s.setSession id x).time = s.time ∧ (s.setSession id x).maps = s.maps ∧ (s.setSession id x).mem = s.mem ∧
    (s.setSession id x).coh = s.coh ∧ (s.setSession id x).boot = s.boot ∧ (s.setSession id x).avail = s.avail ∧
    (s.setSession id x).net = s.net ∧ (s.setSession id x).ms = s.ms ∧ (s.setSession id x).cr = s.cr ∧
    (s.setSession id x).prot = s.prot ∧ (s.setSession id x).dram = s.dram ∧ (s.setSession id x).flash = s.flash ∧
    (s.setSession id x).eng = s.eng ∧ (s.setSession id x).pwr = s.pwr ∧ (s.setSession id x).isl = s.isl := by
  simp [State.setSession]

@[simp] theorem State.faultJob_frame (s : State) (n : Nat) (j : Job) :
    (s.faultJob n j).pending = s.pending ∧ (s.faultJob n j).clock = s.clock ∧ (s.faultJob n j).time = s.time ∧
    (s.faultJob n j).mem = s.mem ∧ (s.faultJob n j).boot = s.boot ∧ (s.faultJob n j).avail = s.avail ∧
    (s.faultJob n j).sec = s.sec ∧ (s.faultJob n j).prot = s.prot ∧ (s.faultJob n j).dram = s.dram ∧
    (s.faultJob n j).pwr = s.pwr ∧ (s.faultJob n j).isl = s.isl := by
  simp only [State.faultJob]
  (repeat' apply And.intro) <;> repeat' (first | (simp; done) | split | refine (foldl_keeps _ _ _ _ (fun _ _ => ?_)).trans ?_ | simp)

@[simp] theorem State.revokeEarly_frame (s : State) (e : Early) (reason : Nat) :
    (s.revokeEarly e reason).pending = s.pending ∧ (s.revokeEarly e reason).clock = s.clock ∧
    (s.revokeEarly e reason).time = s.time ∧ (s.revokeEarly e reason).boot = s.boot ∧
    (s.revokeEarly e reason).avail = s.avail ∧ (s.revokeEarly e reason).sec = s.sec ∧
    (s.revokeEarly e reason).cr = s.cr ∧ (s.revokeEarly e reason).eng = s.eng ∧ (s.revokeEarly e reason).pwr = s.pwr ∧
    (s.revokeEarly e reason).isl = s.isl := by
  simp [State.revokeEarly]

@[simp] theorem State.replayFrom_frame (s : State) (n : Nat) (seq : Nat) :
    (s.replayFrom n seq).pending = s.pending ∧ (s.replayFrom n seq).free = s.free ∧
    (s.replayFrom n seq).clock = s.clock ∧ (s.replayFrom n seq).maps = s.maps ∧ (s.replayFrom n seq).mem = s.mem ∧
    (s.replayFrom n seq).coh = s.coh ∧ (s.replayFrom n seq).boot = s.boot ∧ (s.replayFrom n seq).avail = s.avail ∧
    (s.replayFrom n seq).sec = s.sec ∧ (s.replayFrom n seq).ms = s.ms ∧ (s.replayFrom n seq).cr = s.cr ∧
    (s.replayFrom n seq).prot = s.prot ∧ (s.replayFrom n seq).dram = s.dram ∧ (s.replayFrom n seq).flash = s.flash ∧
    (s.replayFrom n seq).eng = s.eng ∧ (s.replayFrom n seq).pwr = s.pwr ∧ (s.replayFrom n seq).isl = s.isl := by
  simp [State.replayFrom]

@[simp] theorem State.endConvert_frame (s : State) (d : Nat) (x : District) :
    (s.endConvert d x).pending = s.pending ∧ (s.endConvert d x).clock = s.clock ∧ (s.endConvert d x).time = s.time ∧
    (s.endConvert d x).mem = s.mem ∧ (s.endConvert d x).coh = s.coh ∧ (s.endConvert d x).boot = s.boot ∧
    (s.endConvert d x).avail = s.avail ∧ (s.endConvert d x).sec = s.sec ∧ (s.endConvert d x).ms = s.ms ∧
    (s.endConvert d x).prot = s.prot ∧ (s.endConvert d x).dram = s.dram ∧ (s.endConvert d x).flash = s.flash ∧
    (s.endConvert d x).eng = s.eng ∧ (s.endConvert d x).pwr = s.pwr ∧ (s.endConvert d x).isl = s.isl := by
  simp only [State.endConvert]
  (repeat' apply And.intro) <;> repeat' (first | (simp; done) | split | refine (foldl_keeps _ _ _ _ (fun _ _ => ?_)).trans ?_ | simp)

@[simp] theorem Cap.read_frame (c : Cap) (n : Nat) (x : Need) :
    (c.read n x).s.pending = c.s.pending ∧ (c.read n x).s.clock = c.s.clock ∧ (c.read n x).s.time = c.s.time ∧
    (c.read n x).s.boot = c.s.boot ∧ (c.read n x).s.avail = c.s.avail ∧ (c.read n x).s.sec = c.s.sec ∧ (c.read n x).s.cr = c.s.cr ∧
    (c.read n x).s.eng = c.s.eng ∧ (c.read n x).s.pwr = c.s.pwr ∧ (c.read n x).s.isl = c.s.isl := by
  simp only [Cap.read]
  repeat' (first | (simp; done) | split)

@[simp] theorem Cap.readAll_frame (c : Cap) (n : Nat) (xs : List Need) :
    (c.readAll n xs).s.pending = c.s.pending ∧ (c.readAll n xs).s.clock = c.s.clock ∧ (c.readAll n xs).s.time = c.s.time ∧
    (c.readAll n xs).s.boot = c.s.boot ∧ (c.readAll n xs).s.avail = c.s.avail ∧ (c.readAll n xs).s.sec = c.s.sec ∧
    (c.readAll n xs).s.cr = c.s.cr ∧ (c.readAll n xs).s.eng = c.s.eng ∧ (c.readAll n xs).s.pwr = c.s.pwr ∧
    (c.readAll n xs).s.isl = c.s.isl := by
  induction xs generalizing c with
  | nil => simp [Cap.readAll]
  | cons a l ih =>
    have h := ih (c.read n a)
    simp only [Cap.readAll, List.foldl_cons] at *
    simp [h]

@[simp] theorem State.countTicks_frame (s : State) (d : Nat) (ts : List (Nat × Tick)) :
    (s.countTicks d ts).pending = s.pending ∧ (s.countTicks d ts).free = s.free ∧ (s.countTicks d ts).clock = s.clock ∧
    (s.countTicks d ts).out = s.out ∧ (s.countTicks d ts).host = s.host ∧ (s.countTicks d ts).time = s.time ∧
    (s.countTicks d ts).maps = s.maps ∧ (s.countTicks d ts).mem = s.mem ∧ (s.countTicks d ts).coh = s.coh ∧
    (s.countTicks d ts).boot = s.boot ∧ (s.countTicks d ts).avail = s.avail ∧ (s.countTicks d ts).sec = s.sec ∧
    (s.countTicks d ts).net = s.net ∧ (s.countTicks d ts).ms = s.ms ∧ (s.countTicks d ts).cr = s.cr ∧
    (s.countTicks d ts).prot = s.prot ∧ (s.countTicks d ts).dram = s.dram ∧ (s.countTicks d ts).flash = s.flash ∧
    (s.countTicks d ts).eng = s.eng ∧ (s.countTicks d ts).pwr = s.pwr ∧ (s.countTicks d ts).isl = s.isl := by
  simp [State.countTicks]

@[simp] theorem State.takeHeldCuts_frame (s : State) :
    s.takeHeldCuts.pending = s.pending ∧ s.takeHeldCuts.clock = s.clock ∧ s.takeHeldCuts.maps = s.maps ∧
    s.takeHeldCuts.mem = s.mem ∧ s.takeHeldCuts.coh = s.coh ∧ s.takeHeldCuts.boot = s.boot ∧
    s.takeHeldCuts.avail = s.avail ∧ s.takeHeldCuts.sec = s.sec ∧ s.takeHeldCuts.prot = s.prot ∧
    s.takeHeldCuts.dram = s.dram ∧ s.takeHeldCuts.flash = s.flash ∧ s.takeHeldCuts.eng = s.eng ∧
    s.takeHeldCuts.pwr = s.pwr ∧ s.takeHeldCuts.isl = s.isl := by
  simp [State.takeHeldCuts]

@[simp] theorem State.reach_frame (s : State) (t : Nat) :
    (s.reach t).pending = s.pending ∧ (s.reach t).maps = s.maps ∧ (s.reach t).mem = s.mem ∧
    (s.reach t).coh = s.coh ∧ (s.reach t).boot = s.boot ∧ (s.reach t).sec = s.sec ∧ (s.reach t).prot = s.prot ∧
    (s.reach t).dram = s.dram ∧ (s.reach t).flash = s.flash ∧ (s.reach t).eng = s.eng ∧
    (s.reach t).isl = s.isl := by
  simp [State.reach]

@[simp] theorem State.moveFrame_frame (s : State) (d : Nat) (old : Nat) (new : Nat) :
    (s.moveFrame d old new).pending = s.pending ∧ (s.moveFrame d old new).free = s.free ∧
    (s.moveFrame d old new).clock = s.clock ∧ (s.moveFrame d old new).out = s.out ∧
    (s.moveFrame d old new).regs = s.regs ∧ (s.moveFrame d old new).host = s.host ∧
    (s.moveFrame d old new).time = s.time ∧ (s.moveFrame d old new).boot = s.boot ∧
    (s.moveFrame d old new).avail = s.avail ∧ (s.moveFrame d old new).sec = s.sec ∧ (s.moveFrame d old new).net = s.net ∧
    (s.moveFrame d old new).ms = s.ms ∧ (s.moveFrame d old new).cr = s.cr ∧ (s.moveFrame d old new).dram = s.dram ∧
    (s.moveFrame d old new).flash = s.flash ∧ (s.moveFrame d old new).eng = s.eng ∧ (s.moveFrame d old new).pwr = s.pwr ∧
    (s.moveFrame d old new).isl = s.isl := by
  simp [State.moveFrame]

@[simp] theorem State.endDrain_frame (s : State) (x : Drain) :
    (s.endDrain x).pending = s.pending ∧ (s.endDrain x).clock = s.clock ∧ (s.endDrain x).time = s.time ∧
    (s.endDrain x).boot = s.boot ∧ (s.endDrain x).avail = s.avail ∧ (s.endDrain x).eng = s.eng ∧
    (s.endDrain x).pwr = s.pwr ∧ (s.endDrain x).isl = s.isl := by
  simp only [State.endDrain]
  repeat' (first | (simp; done) | split)

@[simp] theorem State.resumeOwn_frame (s : State) :
    s.resumeOwn.pending = s.pending ∧ s.resumeOwn.clock = s.clock ∧ s.resumeOwn.time = s.time ∧
    s.resumeOwn.boot = s.boot ∧ s.resumeOwn.avail = s.avail ∧ s.resumeOwn.sec = s.sec ∧
    s.resumeOwn.cr = s.cr ∧ s.resumeOwn.eng = s.eng ∧ s.resumeOwn.pwr = s.pwr ∧
    s.resumeOwn.isl = s.isl := by
  simp [State.resumeOwn]

@[simp] theorem State.countAnswer_frame (s : State) (line : Nat) (node : Nat) (wb : Bool) :
    (s.countAnswer line node wb).pending = s.pending ∧ (s.countAnswer line node wb).clock = s.clock ∧
    (s.countAnswer line node wb).time = s.time ∧ (s.countAnswer line node wb).boot = s.boot ∧
    (s.countAnswer line node wb).avail = s.avail ∧ (s.countAnswer line node wb).sec = s.sec ∧
    (s.countAnswer line node wb).cr = s.cr ∧ (s.countAnswer line node wb).flash = s.flash ∧
    (s.countAnswer line node wb).eng = s.eng ∧ (s.countAnswer line node wb).pwr = s.pwr ∧
    (s.countAnswer line node wb).isl = s.isl := by
  simp only [State.countAnswer]
  repeat' (first | (simp; done) | split)

@[simp] theorem State.island_frame (s : State) (f : Isl → Isl) :
    (s.island f).pending = s.pending ∧ (s.island f).free = s.free ∧ (s.island f).clock = s.clock ∧
    (s.island f).out = s.out ∧ (s.island f).regs = s.regs ∧ (s.island f).host = s.host ∧
    (s.island f).time = s.time ∧ (s.island f).maps = s.maps ∧ (s.island f).mem = s.mem ∧ (s.island f).coh = s.coh ∧
    (s.island f).boot = s.boot ∧ (s.island f).avail = s.avail ∧ (s.island f).sec = s.sec ∧
    (s.island f).net = s.net ∧ (s.island f).ms = s.ms ∧ (s.island f).cr = s.cr ∧ (s.island f).prot = s.prot ∧
    (s.island f).dram = s.dram ∧ (s.island f).flash = s.flash ∧ (s.island f).eng = s.eng ∧
    (s.island f).pwr = s.pwr := by
  simp [State.island]

@[simp] theorem State.periodicSwaps_frame (s : State) (t : Nat) :
    (s.periodicSwaps t).pending = s.pending ∧ (s.periodicSwaps t).clock = s.clock ∧ (s.periodicSwaps t).maps = s.maps ∧
    (s.periodicSwaps t).mem = s.mem ∧ (s.periodicSwaps t).coh = s.coh ∧ (s.periodicSwaps t).boot = s.boot ∧
    (s.periodicSwaps t).sec = s.sec ∧ (s.periodicSwaps t).ms = s.ms ∧ (s.periodicSwaps t).prot = s.prot ∧
    (s.periodicSwaps t).dram = s.dram ∧ (s.periodicSwaps t).flash = s.flash ∧ (s.periodicSwaps t).eng = s.eng ∧
    (s.periodicSwaps t).pwr = s.pwr ∧ (s.periodicSwaps t).isl = s.isl := by
  simp [State.periodicSwaps]

@[simp] theorem State.takeConfig_frame (s : State) (share : Nat) (a : Nat) :
    (s.takeConfig share a).pending = s.pending ∧ (s.takeConfig share a).free = s.free ∧
    (s.takeConfig share a).clock = s.clock ∧ (s.takeConfig share a).out = s.out ∧ (s.takeConfig share a).host = s.host ∧
    (s.takeConfig share a).time = s.time ∧ (s.takeConfig share a).maps = s.maps ∧ (s.takeConfig share a).mem = s.mem ∧
    (s.takeConfig share a).coh = s.coh ∧ (s.takeConfig share a).boot = s.boot ∧ (s.takeConfig share a).avail = s.avail ∧
    (s.takeConfig share a).sec = s.sec ∧ (s.takeConfig share a).net = s.net ∧ (s.takeConfig share a).ms = s.ms ∧
    (s.takeConfig share a).cr = s.cr ∧ (s.takeConfig share a).prot = s.prot ∧ (s.takeConfig share a).dram = s.dram ∧
    (s.takeConfig share a).flash = s.flash ∧ (s.takeConfig share a).eng = s.eng ∧ (s.takeConfig share a).pwr = s.pwr ∧
    (s.takeConfig share a).isl = s.isl := by
  simp [State.takeConfig]

@[simp] theorem State.restorePower_frame (s : State) :
    s.restorePower.pending = s.pending ∧ s.restorePower.free = s.free ∧ s.restorePower.clock = s.clock ∧
    s.restorePower.regs = s.regs ∧ s.restorePower.host = s.host ∧ s.restorePower.time = s.time ∧
    s.restorePower.maps = s.maps ∧ s.restorePower.mem = s.mem ∧ s.restorePower.coh = s.coh ∧
    s.restorePower.boot = s.boot ∧ s.restorePower.sec = s.sec ∧ s.restorePower.net = s.net ∧
    s.restorePower.ms = s.ms ∧ s.restorePower.cr = s.cr ∧ s.restorePower.prot = s.prot ∧
    s.restorePower.dram = s.dram ∧ s.restorePower.flash = s.flash ∧ s.restorePower.isl = s.isl := by
  simp [State.restorePower]

@[simp] theorem State.applyChanges_frame (s : State) :
    s.applyChanges.pending = s.pending ∧ s.applyChanges.free = s.free ∧ s.applyChanges.clock = s.clock ∧
    s.applyChanges.out = s.out ∧ s.applyChanges.host = s.host ∧ s.applyChanges.time = s.time ∧
    s.applyChanges.maps = s.maps ∧ s.applyChanges.mem = s.mem ∧ s.applyChanges.coh = s.coh ∧
    s.applyChanges.boot = s.boot ∧ s.applyChanges.avail = s.avail ∧ s.applyChanges.sec = s.sec ∧
    s.applyChanges.net = s.net ∧ s.applyChanges.ms = s.ms ∧ s.applyChanges.cr = s.cr ∧
    s.applyChanges.prot = s.prot ∧ s.applyChanges.dram = s.dram ∧ s.applyChanges.flash = s.flash ∧
    s.applyChanges.isl = s.isl := by
  simp [State.applyChanges]

@[simp] theorem State.startServing_frame (s : State) (build : Nat) (n : Nat) (a : Option Nat) :
    (s.startServing build n a).pending = s.pending ∧ (s.startServing build n a).free = s.free ∧
    (s.startServing build n a).clock = s.clock ∧ (s.startServing build n a).out = s.out ∧
    (s.startServing build n a).regs = s.regs ∧ (s.startServing build n a).host = s.host ∧
    (s.startServing build n a).time = s.time ∧ (s.startServing build n a).maps = s.maps ∧
    (s.startServing build n a).mem = s.mem ∧ (s.startServing build n a).coh = s.coh ∧
    (s.startServing build n a).boot = s.boot ∧ (s.startServing build n a).sec = s.sec ∧
    (s.startServing build n a).net = s.net ∧ (s.startServing build n a).ms = s.ms ∧
    (s.startServing build n a).cr = s.cr ∧ (s.startServing build n a).prot = s.prot ∧
    (s.startServing build n a).dram = s.dram ∧ (s.startServing build n a).flash = s.flash ∧
    (s.startServing build n a).eng = s.eng ∧ (s.startServing build n a).pwr = s.pwr ∧
    (s.startServing build n a).isl = s.isl := by
  simp only [State.startServing]
  repeat' (first | (simp; done) | split)

@[simp] theorem State.replaceHeld_frame (s : State) (k : Nat) :
    (s.replaceHeld k).pending = s.pending ∧ (s.replaceHeld k).free = s.free ∧ (s.replaceHeld k).clock = s.clock ∧
    (s.replaceHeld k).regs = s.regs ∧ (s.replaceHeld k).time = s.time ∧ (s.replaceHeld k).maps = s.maps ∧
    (s.replaceHeld k).mem = s.mem ∧ (s.replaceHeld k).coh = s.coh ∧ (s.replaceHeld k).boot = s.boot ∧
    (s.replaceHeld k).avail = s.avail ∧ (s.replaceHeld k).sec = s.sec ∧ (s.replaceHeld k).net = s.net ∧
    (s.replaceHeld k).ms = s.ms ∧ (s.replaceHeld k).cr = s.cr ∧ (s.replaceHeld k).prot = s.prot ∧
    (s.replaceHeld k).dram = s.dram ∧ (s.replaceHeld k).flash = s.flash ∧ (s.replaceHeld k).pwr = s.pwr ∧
    (s.replaceHeld k).isl = s.isl := by
  simp only [State.replaceHeld]
  (repeat' apply And.intro) <;> repeat' (first | (simp; done) | split | refine (foldl_keeps _ _ _ _ (fun _ _ => ?_)).trans ?_ | simp)

@[simp] theorem State.testEngines_frame (s : State) (a : Nat) :
    (s.testEngines a).pending = s.pending ∧ (s.testEngines a).free = s.free ∧ (s.testEngines a).clock = s.clock ∧
    (s.testEngines a).out = s.out ∧ (s.testEngines a).regs = s.regs ∧ (s.testEngines a).host = s.host ∧
    (s.testEngines a).time = s.time ∧ (s.testEngines a).maps = s.maps ∧ (s.testEngines a).mem = s.mem ∧
    (s.testEngines a).coh = s.coh ∧ (s.testEngines a).boot = s.boot ∧ (s.testEngines a).avail = s.avail ∧
    (s.testEngines a).sec = s.sec ∧ (s.testEngines a).net = s.net ∧ (s.testEngines a).ms = s.ms ∧
    (s.testEngines a).cr = s.cr ∧ (s.testEngines a).prot = s.prot ∧ (s.testEngines a).dram = s.dram ∧
    (s.testEngines a).flash = s.flash ∧ (s.testEngines a).pwr = s.pwr ∧ (s.testEngines a).isl = s.isl := by
  simp [State.testEngines]

@[simp] theorem State.startLap_frame (s : State) (a : Nat) :
    (s.startLap a).pending = s.pending ∧ (s.startLap a).free = s.free ∧ (s.startLap a).clock = s.clock ∧
    (s.startLap a).out = s.out ∧ (s.startLap a).regs = s.regs ∧ (s.startLap a).host = s.host ∧
    (s.startLap a).time = s.time ∧ (s.startLap a).maps = s.maps ∧ (s.startLap a).mem = s.mem ∧
    (s.startLap a).coh = s.coh ∧ (s.startLap a).boot = s.boot ∧ (s.startLap a).sec = s.sec ∧
    (s.startLap a).net = s.net ∧ (s.startLap a).ms = s.ms ∧ (s.startLap a).cr = s.cr ∧
    (s.startLap a).prot = s.prot ∧ (s.startLap a).dram = s.dram ∧ (s.startLap a).flash = s.flash ∧
    (s.startLap a).pwr = s.pwr ∧ (s.startLap a).isl = s.isl := by
  simp [State.startLap]

@[simp] theorem State.crOperate_frame (s : State) (p : Pend) (code : Nat) :
    (s.crOperate p code).pending = s.pending ∧ (s.crOperate p code).clock = s.clock ∧
    (s.crOperate p code).time = s.time ∧ (s.crOperate p code).maps = s.maps ∧ (s.crOperate p code).mem = s.mem ∧
    (s.crOperate p code).boot = s.boot ∧ (s.crOperate p code).avail = s.avail ∧ (s.crOperate p code).sec = s.sec ∧
    (s.crOperate p code).ms = s.ms ∧ (s.crOperate p code).prot = s.prot ∧ (s.crOperate p code).dram = s.dram ∧
    (s.crOperate p code).flash = s.flash ∧ (s.crOperate p code).eng = s.eng ∧ (s.crOperate p code).pwr = s.pwr ∧
    (s.crOperate p code).isl = s.isl := by
  simp only [State.crOperate]
  (repeat' apply And.intro) <;> repeat' (first | (simp; done) | split | refine (foldl_keeps _ _ _ _ (fun _ _ => ?_)).trans ?_ | simp)

@[simp] theorem State.crReq_frame (s : State) (port : Nat) (r : Req) (code : Nat) :
    (s.crReq port r code).pending = s.pending ∧ (s.crReq port r code).clock = s.clock ∧
    (s.crReq port r code).time = s.time ∧ (s.crReq port r code).maps = s.maps ∧ (s.crReq port r code).mem = s.mem ∧
    (s.crReq port r code).boot = s.boot ∧ (s.crReq port r code).avail = s.avail ∧ (s.crReq port r code).sec = s.sec ∧
    (s.crReq port r code).ms = s.ms ∧ (s.crReq port r code).prot = s.prot ∧ (s.crReq port r code).dram = s.dram ∧
    (s.crReq port r code).flash = s.flash ∧ (s.crReq port r code).eng = s.eng ∧ (s.crReq port r code).pwr = s.pwr ∧
    (s.crReq port r code).isl = s.isl := by
  simp [State.crReq]

@[simp] theorem State.snoopFrame_frame (s : State) (f : Nat) :
    (s.snoopFrame f).pending = s.pending ∧ (s.snoopFrame f).free = s.free ∧ (s.snoopFrame f).clock = s.clock ∧
    (s.snoopFrame f).regs = s.regs ∧ (s.snoopFrame f).host = s.host ∧ (s.snoopFrame f).time = s.time ∧
    (s.snoopFrame f).maps = s.maps ∧ (s.snoopFrame f).coh = s.coh ∧ (s.snoopFrame f).boot = s.boot ∧
    (s.snoopFrame f).avail = s.avail ∧ (s.snoopFrame f).sec = s.sec ∧ (s.snoopFrame f).net = s.net ∧
    (s.snoopFrame f).ms = s.ms ∧ (s.snoopFrame f).cr = s.cr ∧ (s.snoopFrame f).prot = s.prot ∧
    (s.snoopFrame f).dram = s.dram ∧ (s.snoopFrame f).flash = s.flash ∧ (s.snoopFrame f).eng = s.eng ∧
    (s.snoopFrame f).pwr = s.pwr ∧ (s.snoopFrame f).isl = s.isl := by
  simp [State.snoopFrame]

@[simp] theorem State.zeroiseSlots_frame (s : State) (c : Cmd) :
    (s.zeroiseSlots c).pending = s.pending ∧ (s.zeroiseSlots c).clock = s.clock ∧ (s.zeroiseSlots c).time = s.time ∧
    (s.zeroiseSlots c).mem = s.mem ∧ (s.zeroiseSlots c).coh = s.coh ∧ (s.zeroiseSlots c).boot = s.boot ∧
    (s.zeroiseSlots c).avail = s.avail ∧ (s.zeroiseSlots c).ms = s.ms ∧ (s.zeroiseSlots c).prot = s.prot ∧
    (s.zeroiseSlots c).dram = s.dram ∧ (s.zeroiseSlots c).flash = s.flash ∧ (s.zeroiseSlots c).eng = s.eng ∧
    (s.zeroiseSlots c).pwr = s.pwr ∧ (s.zeroiseSlots c).isl = s.isl := by
  simp only [State.zeroiseSlots]
  (repeat' apply And.intro) <;> repeat' (first | (simp; done) | split | refine (foldl_keeps _ _ _ _ (fun _ _ => ?_)).trans ?_ | simp)

@[simp] theorem State.islEmit_frame (s : State) (o : Out) :
    (s.islEmit o).pending = s.pending ∧ (s.islEmit o).free = s.free ∧ (s.islEmit o).clock = s.clock ∧
    (s.islEmit o).regs = s.regs ∧ (s.islEmit o).host = s.host ∧ (s.islEmit o).time = s.time ∧
    (s.islEmit o).maps = s.maps ∧ (s.islEmit o).mem = s.mem ∧ (s.islEmit o).coh = s.coh ∧
    (s.islEmit o).boot = s.boot ∧ (s.islEmit o).avail = s.avail ∧ (s.islEmit o).sec = s.sec ∧
    (s.islEmit o).net = s.net ∧ (s.islEmit o).ms = s.ms ∧ (s.islEmit o).cr = s.cr ∧ (s.islEmit o).prot = s.prot ∧
    (s.islEmit o).dram = s.dram ∧ (s.islEmit o).flash = s.flash ∧ (s.islEmit o).eng = s.eng ∧
    (s.islEmit o).pwr = s.pwr ∧ (s.islEmit o).isl = s.isl := by
  simp [State.islEmit]

@[simp] theorem State.newFlit_frame (s : State) (n : Nat) :
    (s.newFlit n).pending = s.pending ∧ (s.newFlit n).free = s.free ∧ (s.newFlit n).clock = s.clock ∧
    (s.newFlit n).time = s.time ∧ (s.newFlit n).maps = s.maps ∧ (s.newFlit n).mem = s.mem ∧
    (s.newFlit n).coh = s.coh ∧ (s.newFlit n).boot = s.boot ∧ (s.newFlit n).avail = s.avail ∧
    (s.newFlit n).sec = s.sec ∧ (s.newFlit n).ms = s.ms ∧ (s.newFlit n).cr = s.cr ∧ (s.newFlit n).prot = s.prot ∧
    (s.newFlit n).dram = s.dram ∧ (s.newFlit n).flash = s.flash ∧ (s.newFlit n).eng = s.eng ∧
    (s.newFlit n).pwr = s.pwr ∧ (s.newFlit n).isl = s.isl := by
  simp only [State.newFlit]
  (repeat' apply And.intro) <;> repeat' (first | (simp; done) | split | refine (foldl_keeps _ _ _ _ (fun _ _ => ?_)).trans ?_ | simp)

@[simp] theorem State.heatStep_frame (s : State) (a : Nat) (t : Int) :
    (s.heatStep a t).pending = s.pending ∧ (s.heatStep a t).free = s.free ∧ (s.heatStep a t).clock = s.clock ∧
    (s.heatStep a t).regs = s.regs ∧ (s.heatStep a t).time = s.time ∧ (s.heatStep a t).maps = s.maps ∧
    (s.heatStep a t).mem = s.mem ∧ (s.heatStep a t).coh = s.coh ∧ (s.heatStep a t).boot = s.boot ∧
    (s.heatStep a t).sec = s.sec ∧ (s.heatStep a t).net = s.net ∧ (s.heatStep a t).ms = s.ms ∧
    (s.heatStep a t).cr = s.cr ∧ (s.heatStep a t).prot = s.prot ∧ (s.heatStep a t).dram = s.dram ∧
    (s.heatStep a t).flash = s.flash ∧ (s.heatStep a t).pwr = s.pwr ∧ (s.heatStep a t).isl = s.isl := by
  simp [State.heatStep]

@[simp] theorem State.holdEngines_frame (s : State) (d : Nat) (n : Nat) :
    (s.holdEngines d n).pending = s.pending ∧ (s.holdEngines d n).free = s.free ∧ (s.holdEngines d n).clock = s.clock ∧
    (s.holdEngines d n).out = s.out ∧ (s.holdEngines d n).regs = s.regs ∧ (s.holdEngines d n).host = s.host ∧
    (s.holdEngines d n).time = s.time ∧ (s.holdEngines d n).maps = s.maps ∧ (s.holdEngines d n).mem = s.mem ∧
    (s.holdEngines d n).coh = s.coh ∧ (s.holdEngines d n).boot = s.boot ∧ (s.holdEngines d n).avail = s.avail ∧
    (s.holdEngines d n).sec = s.sec ∧ (s.holdEngines d n).net = s.net ∧ (s.holdEngines d n).ms = s.ms ∧
    (s.holdEngines d n).cr = s.cr ∧ (s.holdEngines d n).prot = s.prot ∧ (s.holdEngines d n).dram = s.dram ∧
    (s.holdEngines d n).flash = s.flash ∧ (s.holdEngines d n).pwr = s.pwr ∧ (s.holdEngines d n).isl = s.isl := by
  simp [State.holdEngines]

@[simp] theorem State.trainFail_frame (s : State) (n : Nat) :
    (s.trainFail n).pending = s.pending ∧ (s.trainFail n).free = s.free ∧ (s.trainFail n).clock = s.clock ∧
    (s.trainFail n).out = s.out ∧ (s.trainFail n).regs = s.regs ∧ (s.trainFail n).host = s.host ∧
    (s.trainFail n).time = s.time ∧ (s.trainFail n).maps = s.maps ∧ (s.trainFail n).mem = s.mem ∧
    (s.trainFail n).coh = s.coh ∧ (s.trainFail n).boot = s.boot ∧ (s.trainFail n).avail = s.avail ∧
    (s.trainFail n).sec = s.sec ∧ (s.trainFail n).ms = s.ms ∧ (s.trainFail n).cr = s.cr ∧
    (s.trainFail n).prot = s.prot ∧ (s.trainFail n).dram = s.dram ∧ (s.trainFail n).flash = s.flash ∧
    (s.trainFail n).eng = s.eng ∧ (s.trainFail n).pwr = s.pwr ∧ (s.trainFail n).isl = s.isl := by
  simp [State.trainFail]

@[simp] theorem State.checksumStop_frame (s : State) (n : Nat) (j : Job) (bad : List (Nat × Nat)) :
    (s.checksumStop n j bad).pending = s.pending ∧ (s.checksumStop n j bad).clock = s.clock ∧
    (s.checksumStop n j bad).time = s.time ∧ (s.checksumStop n j bad).mem = s.mem ∧
    (s.checksumStop n j bad).boot = s.boot ∧ (s.checksumStop n j bad).avail = s.avail ∧
    (s.checksumStop n j bad).sec = s.sec ∧ (s.checksumStop n j bad).prot = s.prot ∧
    (s.checksumStop n j bad).dram = s.dram ∧ (s.checksumStop n j bad).pwr = s.pwr ∧
    (s.checksumStop n j bad).isl = s.isl := by
  simp [State.checksumStop]

@[simp] theorem State.resetFn_frame (s : State) (fn : Nat) :
    (s.resetFn fn).pending = s.pending ∧ (s.resetFn fn).clock = s.clock ∧ (s.resetFn fn).time = s.time ∧
    (s.resetFn fn).maps = s.maps ∧ (s.resetFn fn).mem = s.mem ∧ (s.resetFn fn).coh = s.coh ∧
    (s.resetFn fn).boot = s.boot ∧ (s.resetFn fn).avail = s.avail ∧ (s.resetFn fn).ms = s.ms ∧
    (s.resetFn fn).prot = s.prot ∧ (s.resetFn fn).dram = s.dram ∧ (s.resetFn fn).flash = s.flash ∧
    (s.resetFn fn).eng = s.eng ∧ (s.resetFn fn).pwr = s.pwr ∧ (s.resetFn fn).isl = s.isl := by
  simp [State.resetFn]

@[simp] theorem State.mapUpdates_frame (s : State) (f : Nat) (g : Update → Update) :
    (s.mapUpdates f g).pending = s.pending ∧ (s.mapUpdates f g).free = s.free ∧ (s.mapUpdates f g).clock = s.clock ∧
    (s.mapUpdates f g).out = s.out ∧ (s.mapUpdates f g).regs = s.regs ∧ (s.mapUpdates f g).host = s.host ∧
    (s.mapUpdates f g).time = s.time ∧ (s.mapUpdates f g).maps = s.maps ∧ (s.mapUpdates f g).mem = s.mem ∧
    (s.mapUpdates f g).coh = s.coh ∧ (s.mapUpdates f g).boot = s.boot ∧ (s.mapUpdates f g).avail = s.avail ∧
    (s.mapUpdates f g).sec = s.sec ∧ (s.mapUpdates f g).net = s.net ∧ (s.mapUpdates f g).ms = s.ms ∧
    (s.mapUpdates f g).cr = s.cr ∧ (s.mapUpdates f g).dram = s.dram ∧ (s.mapUpdates f g).flash = s.flash ∧
    (s.mapUpdates f g).eng = s.eng ∧ (s.mapUpdates f g).pwr = s.pwr ∧ (s.mapUpdates f g).isl = s.isl := by
  simp [State.mapUpdates]

@[simp] theorem State.gateEngine_frame (s : State) (a : Nat) (e : Nat) :
    (s.gateEngine a e).pending = s.pending ∧ (s.gateEngine a e).free = s.free ∧ (s.gateEngine a e).clock = s.clock ∧
    (s.gateEngine a e).out = s.out ∧ (s.gateEngine a e).host = s.host ∧ (s.gateEngine a e).time = s.time ∧
    (s.gateEngine a e).maps = s.maps ∧ (s.gateEngine a e).mem = s.mem ∧ (s.gateEngine a e).coh = s.coh ∧
    (s.gateEngine a e).boot = s.boot ∧ (s.gateEngine a e).avail = s.avail ∧ (s.gateEngine a e).sec = s.sec ∧
    (s.gateEngine a e).net = s.net ∧ (s.gateEngine a e).ms = s.ms ∧ (s.gateEngine a e).cr = s.cr ∧
    (s.gateEngine a e).prot = s.prot ∧ (s.gateEngine a e).dram = s.dram ∧ (s.gateEngine a e).flash = s.flash ∧
    (s.gateEngine a e).pwr = s.pwr ∧ (s.gateEngine a e).isl = s.isl := by
  simp [State.gateEngine]

@[simp] theorem State.takeHead_frame (s : State) (ring : Nat) (val : Word64) :
    (s.takeHead ring val).pending = s.pending ∧ (s.takeHead ring val).free = s.free ∧
    (s.takeHead ring val).clock = s.clock ∧ (s.takeHead ring val).regs = s.regs ∧ (s.takeHead ring val).time = s.time ∧
    (s.takeHead ring val).maps = s.maps ∧ (s.takeHead ring val).mem = s.mem ∧ (s.takeHead ring val).coh = s.coh ∧
    (s.takeHead ring val).boot = s.boot ∧ (s.takeHead ring val).avail = s.avail ∧ (s.takeHead ring val).sec = s.sec ∧
    (s.takeHead ring val).net = s.net ∧ (s.takeHead ring val).ms = s.ms ∧ (s.takeHead ring val).cr = s.cr ∧
    (s.takeHead ring val).prot = s.prot ∧ (s.takeHead ring val).dram = s.dram ∧ (s.takeHead ring val).flash = s.flash ∧
    (s.takeHead ring val).eng = s.eng ∧ (s.takeHead ring val).pwr = s.pwr ∧ (s.takeHead ring val).isl = s.isl := by
  simp only [State.takeHead]
  repeat' (first | (simp; done) | split)

@[simp] theorem State.tierJob_frame (s : State) (c : Cmd) (pages : List Nat) (done : Nat) :
    (s.tierJob c pages done).pending = s.pending ∧ (s.tierJob c pages done).clock = s.clock ∧
    (s.tierJob c pages done).time = s.time ∧ (s.tierJob c pages done).maps = s.maps ∧
    (s.tierJob c pages done).mem = s.mem ∧ (s.tierJob c pages done).coh = s.coh ∧
    (s.tierJob c pages done).boot = s.boot ∧ (s.tierJob c pages done).avail = s.avail ∧
    (s.tierJob c pages done).sec = s.sec ∧ (s.tierJob c pages done).ms = s.ms ∧ (s.tierJob c pages done).prot = s.prot ∧
    (s.tierJob c pages done).dram = s.dram ∧ (s.tierJob c pages done).eng = s.eng ∧
    (s.tierJob c pages done).pwr = s.pwr ∧ (s.tierJob c pages done).isl = s.isl := by
  simp [State.tierJob]

@[simp] theorem State.sendRecallAll_frame (s : State) (n : Nat) (t : Nat × Nat) :
    (s.sendRecallAll n t).pending = s.pending ∧ (s.sendRecallAll n t).free = s.free ∧
    (s.sendRecallAll n t).clock = s.clock ∧ (s.sendRecallAll n t).time = s.time ∧ (s.sendRecallAll n t).maps = s.maps ∧
    (s.sendRecallAll n t).mem = s.mem ∧ (s.sendRecallAll n t).boot = s.boot ∧ (s.sendRecallAll n t).avail = s.avail ∧
    (s.sendRecallAll n t).sec = s.sec ∧ (s.sendRecallAll n t).ms = s.ms ∧ (s.sendRecallAll n t).cr = s.cr ∧
    (s.sendRecallAll n t).prot = s.prot ∧ (s.sendRecallAll n t).dram = s.dram ∧ (s.sendRecallAll n t).flash = s.flash ∧
    (s.sendRecallAll n t).eng = s.eng ∧ (s.sendRecallAll n t).pwr = s.pwr ∧ (s.sendRecallAll n t).isl = s.isl := by
  simp [State.sendRecallAll]

@[simp] theorem State.queueJob_frame (s : State) (c : Cmd) (arg : Nat) :
    (s.queueJob c arg).pending = s.pending ∧ (s.queueJob c arg).free = s.free ∧ (s.queueJob c arg).clock = s.clock ∧
    (s.queueJob c arg).out = s.out ∧ (s.queueJob c arg).regs = s.regs ∧ (s.queueJob c arg).host = s.host ∧
    (s.queueJob c arg).time = s.time ∧ (s.queueJob c arg).maps = s.maps ∧ (s.queueJob c arg).mem = s.mem ∧
    (s.queueJob c arg).coh = s.coh ∧ (s.queueJob c arg).boot = s.boot ∧ (s.queueJob c arg).avail = s.avail ∧
    (s.queueJob c arg).sec = s.sec ∧ (s.queueJob c arg).net = s.net ∧ (s.queueJob c arg).ms = s.ms ∧
    (s.queueJob c arg).cr = s.cr ∧ (s.queueJob c arg).prot = s.prot ∧ (s.queueJob c arg).dram = s.dram ∧
    (s.queueJob c arg).flash = s.flash ∧ (s.queueJob c arg).pwr = s.pwr ∧ (s.queueJob c arg).isl = s.isl := by
  simp [State.queueJob]

@[simp] theorem State.engineOp_frame (s : State) (c : Cmd) :
    (s.engineOp c).pending = s.pending ∧ (s.engineOp c).clock = s.clock ∧ (s.engineOp c).time = s.time ∧
    (s.engineOp c).boot = s.boot ∧ (s.engineOp c).avail = s.avail ∧ (s.engineOp c).sec = s.sec ∧
    (s.engineOp c).pwr = s.pwr ∧ (s.engineOp c).isl = s.isl := by
  simp [State.engineOp]

@[simp] theorem State.openShare_frame (s : State) (n : Nat) :
    (s.openShare n).pending = s.pending ∧ (s.openShare n).clock = s.clock ∧ (s.openShare n).time = s.time ∧
    (s.openShare n).boot = s.boot ∧ (s.openShare n).sec = s.sec ∧ (s.openShare n).cr = s.cr ∧
    (s.openShare n).pwr = s.pwr ∧ (s.openShare n).isl = s.isl := by
  simp [State.openShare]

@[simp] theorem State.takeTail_frame (s : State) (ring : Nat) (val : Word64) :
    (s.takeTail ring val).pending = s.pending ∧ (s.takeTail ring val).free = s.free ∧
    (s.takeTail ring val).clock = s.clock ∧ (s.takeTail ring val).regs = s.regs ∧ (s.takeTail ring val).time = s.time ∧
    (s.takeTail ring val).maps = s.maps ∧ (s.takeTail ring val).mem = s.mem ∧ (s.takeTail ring val).coh = s.coh ∧
    (s.takeTail ring val).boot = s.boot ∧ (s.takeTail ring val).avail = s.avail ∧ (s.takeTail ring val).sec = s.sec ∧
    (s.takeTail ring val).net = s.net ∧ (s.takeTail ring val).ms = s.ms ∧ (s.takeTail ring val).cr = s.cr ∧
    (s.takeTail ring val).prot = s.prot ∧ (s.takeTail ring val).dram = s.dram ∧ (s.takeTail ring val).flash = s.flash ∧
    (s.takeTail ring val).eng = s.eng ∧ (s.takeTail ring val).pwr = s.pwr ∧ (s.takeTail ring val).isl = s.isl := by
  simp only [State.takeTail]
  repeat' (first | (simp; done) | split)

@[simp] theorem State.accDoorbell_frame (s : State) (p : Pend) :
    (s.accDoorbell p).pending = s.pending ∧ (s.accDoorbell p).clock = s.clock ∧ (s.accDoorbell p).time = s.time ∧
    (s.accDoorbell p).maps = s.maps ∧ (s.accDoorbell p).mem = s.mem ∧ (s.accDoorbell p).boot = s.boot ∧
    (s.accDoorbell p).avail = s.avail ∧ (s.accDoorbell p).sec = s.sec ∧ (s.accDoorbell p).ms = s.ms ∧
    (s.accDoorbell p).cr = s.cr ∧ (s.accDoorbell p).prot = s.prot ∧ (s.accDoorbell p).dram = s.dram ∧
    (s.accDoorbell p).flash = s.flash ∧ (s.accDoorbell p).eng = s.eng ∧ (s.accDoorbell p).pwr = s.pwr ∧
    (s.accDoorbell p).isl = s.isl := by
  simp [State.accDoorbell]

@[simp] theorem State.issueOwed_frame (s : State) (m : Nat) :
    (s.issueOwed m).pending = s.pending ∧ (s.issueOwed m).free = s.free ∧ (s.issueOwed m).clock = s.clock ∧
    (s.issueOwed m).host = s.host ∧ (s.issueOwed m).time = s.time ∧ (s.issueOwed m).maps = s.maps ∧
    (s.issueOwed m).mem = s.mem ∧ (s.issueOwed m).coh = s.coh ∧ (s.issueOwed m).boot = s.boot ∧
    (s.issueOwed m).avail = s.avail ∧ (s.issueOwed m).sec = s.sec ∧ (s.issueOwed m).net = s.net ∧
    (s.issueOwed m).ms = s.ms ∧ (s.issueOwed m).cr = s.cr ∧ (s.issueOwed m).prot = s.prot ∧
    (s.issueOwed m).flash = s.flash ∧ (s.issueOwed m).eng = s.eng ∧ (s.issueOwed m).pwr = s.pwr ∧
    (s.issueOwed m).isl = s.isl := by
  simp [State.issueOwed]

@[simp] theorem State.idle_frame (s : State) :
    s.idle.pending = s.pending ∧ s.idle.free = s.free ∧ s.idle.out = s.out ∧ s.idle.regs = s.regs ∧
    s.idle.host = s.host ∧ s.idle.maps = s.maps ∧ s.idle.mem = s.mem ∧ s.idle.coh = s.coh ∧
    s.idle.boot = s.boot ∧ s.idle.avail = s.avail ∧ s.idle.sec = s.sec ∧ s.idle.net = s.net ∧
    s.idle.ms = s.ms ∧ s.idle.cr = s.cr ∧ s.idle.prot = s.prot ∧ s.idle.dram = s.dram ∧
    s.idle.flash = s.flash ∧ s.idle.eng = s.eng ∧ s.idle.pwr = s.pwr ∧ s.idle.isl = s.isl := by
  simp [State.idle]

@[simp] theorem State.retireEngine_frame (s : State) (a : Nat) (e : Nat) :
    (s.retireEngine a e).pending = s.pending ∧ (s.retireEngine a e).clock = s.clock ∧
    (s.retireEngine a e).time = s.time ∧ (s.retireEngine a e).mem = s.mem ∧ (s.retireEngine a e).coh = s.coh ∧
    (s.retireEngine a e).boot = s.boot ∧ (s.retireEngine a e).avail = s.avail ∧ (s.retireEngine a e).sec = s.sec ∧
    (s.retireEngine a e).ms = s.ms ∧ (s.retireEngine a e).prot = s.prot ∧ (s.retireEngine a e).dram = s.dram ∧
    (s.retireEngine a e).flash = s.flash ∧ (s.retireEngine a e).pwr = s.pwr ∧ (s.retireEngine a e).isl = s.isl := by
  simp only [State.retireEngine]
  (repeat' apply And.intro) <;> repeat' (first | (simp; done) | split | refine (foldl_keeps _ _ _ _ (fun _ _ => ?_)).trans ?_ | simp)

@[simp] theorem State.depotLost_frame (s : State) (code : Nat) (key : Nat) :
    (s.depotLost code key).pending = s.pending ∧ (s.depotLost code key).clock = s.clock ∧
    (s.depotLost code key).time = s.time ∧ (s.depotLost code key).mem = s.mem ∧ (s.depotLost code key).boot = s.boot ∧
    (s.depotLost code key).sec = s.sec ∧ (s.depotLost code key).dram = s.dram ∧ (s.depotLost code key).pwr = s.pwr ∧
    (s.depotLost code key).isl = s.isl := by
  simp [State.depotLost]

@[simp] theorem State.gatherElems_frame (s : State) (port : Nat) (r : Req) (x3 : Nat) (x4 : List (Nat × Nat)) :
    (s.gatherElems port r x3 x4).pending = s.pending ∧ (s.gatherElems port r x3 x4).clock = s.clock ∧
    (s.gatherElems port r x3 x4).time = s.time ∧ (s.gatherElems port r x3 x4).boot = s.boot ∧
    (s.gatherElems port r x3 x4).avail = s.avail ∧ (s.gatherElems port r x3 x4).sec = s.sec ∧
    (s.gatherElems port r x3 x4).cr = s.cr ∧ (s.gatherElems port r x3 x4).eng = s.eng ∧
    (s.gatherElems port r x3 x4).pwr = s.pwr ∧ (s.gatherElems port r x3 x4).isl = s.isl := by
  induction x4 generalizing s x3 with
  | nil => simp [State.gatherElems]
  | cons a l ih =>
    simp only [State.gatherElems, ih]
    repeat' (first | (simp; done) | split)

@[simp] theorem State.crRetry_frame (s : State) :
    s.crRetry.pending = s.pending ∧ s.crRetry.clock = s.clock ∧ s.crRetry.time = s.time ∧
    s.crRetry.maps = s.maps ∧ s.crRetry.mem = s.mem ∧ s.crRetry.boot = s.boot ∧ s.crRetry.avail = s.avail ∧
    s.crRetry.sec = s.sec ∧ s.crRetry.ms = s.ms ∧ s.crRetry.prot = s.prot ∧ s.crRetry.dram = s.dram ∧
    s.crRetry.flash = s.flash ∧ s.crRetry.eng = s.eng ∧ s.crRetry.pwr = s.pwr ∧ s.crRetry.isl = s.isl := by
  simp only [State.crRetry]
  (repeat' apply And.intro) <;> repeat' (first | (simp; done) | split | refine (foldl_keeps _ _ _ _ (fun _ _ => ?_)).trans ?_ | simp)

@[simp] theorem State.advanceDrain_frame (s : State) (x : Drain) (searched : Bool) :
    (s.advanceDrain x searched).pending = s.pending ∧ (s.advanceDrain x searched).clock = s.clock ∧
    (s.advanceDrain x searched).time = s.time ∧ (s.advanceDrain x searched).boot = s.boot ∧
    (s.advanceDrain x searched).avail = s.avail ∧ (s.advanceDrain x searched).eng = s.eng ∧
    (s.advanceDrain x searched).pwr = s.pwr ∧ (s.advanceDrain x searched).isl = s.isl := by
  simp [State.advanceDrain]

@[simp] theorem State.slotFault_frame (s : State) (n : Nat) :
    (s.slotFault n).pending = s.pending ∧ (s.slotFault n).clock = s.clock ∧ (s.slotFault n).time = s.time ∧
    (s.slotFault n).boot = s.boot ∧ (s.slotFault n).avail = s.avail ∧ (s.slotFault n).sec = s.sec ∧
    (s.slotFault n).ms = s.ms ∧ (s.slotFault n).dram = s.dram ∧ (s.slotFault n).eng = s.eng ∧
    (s.slotFault n).pwr = s.pwr ∧ (s.slotFault n).isl = s.isl := by
  simp [State.slotFault]

@[simp] theorem State.dmaFault_frame (s : State) (k : Nat) (d : Dma) :
    (s.dmaFault k d).pending = s.pending ∧ (s.dmaFault k d).clock = s.clock ∧ (s.dmaFault k d).time = s.time ∧
    (s.dmaFault k d).maps = s.maps ∧ (s.dmaFault k d).mem = s.mem ∧ (s.dmaFault k d).boot = s.boot ∧
    (s.dmaFault k d).avail = s.avail ∧ (s.dmaFault k d).sec = s.sec ∧ (s.dmaFault k d).prot = s.prot ∧
    (s.dmaFault k d).dram = s.dram ∧ (s.dmaFault k d).eng = s.eng ∧ (s.dmaFault k d).pwr = s.pwr ∧
    (s.dmaFault k d).isl = s.isl := by
  simp [State.dmaFault]

@[simp] theorem State.startCore_frame (s : State) (build : Nat) (p : Nat) :
    (s.startCore build p).pending = s.pending ∧ (s.startCore build p).free = s.free ∧
    (s.startCore build p).clock = s.clock ∧ (s.startCore build p).out = s.out ∧ (s.startCore build p).regs = s.regs ∧
    (s.startCore build p).host = s.host ∧ (s.startCore build p).time = s.time ∧ (s.startCore build p).maps = s.maps ∧
    (s.startCore build p).mem = s.mem ∧ (s.startCore build p).coh = s.coh ∧ (s.startCore build p).boot = s.boot ∧
    (s.startCore build p).sec = s.sec ∧ (s.startCore build p).net = s.net ∧ (s.startCore build p).ms = s.ms ∧
    (s.startCore build p).cr = s.cr ∧ (s.startCore build p).prot = s.prot ∧ (s.startCore build p).dram = s.dram ∧
    (s.startCore build p).flash = s.flash ∧ (s.startCore build p).eng = s.eng ∧ (s.startCore build p).pwr = s.pwr ∧
    (s.startCore build p).isl = s.isl := by
  simp [State.startCore]

end Sys2Proof.Machine
end

