-- ==== Sys2Proof/Laws/Commands.lean ====
section
/-! SUPPORT. What each command leaves as it is: every command answers a next state, with the parts of the state that it does not touch. -/

namespace Sys2Proof.Machine

open Sys2Proof

set_option linter.unusedTactic false
set_option linter.unreachableTactic false

theorem execRegisterWrite_frame (port : HPort) (fn : Nat) (off : Nat) (size : Nat) (val : Word) (s : State) :
    ∃ s', execRegisterWrite port fn off size val s = .next s' ∧
    s'.pending = s.pending ∧ s'.clock = s.clock ∧ s'.maps = s.maps ∧ s'.mem = s.mem ∧ s'.avail = s.avail ∧ s'.ms = s.ms ∧
    s'.dram = s.dram ∧ s'.flash = s.flash ∧ s'.eng = s.eng ∧ s'.pwr = s.pwr ∧ s'.isl = s.isl := by
  refine ⟨_, rfl, ?_⟩
  simp

theorem execPairValueWrite_frame (port : HPort) (off : Nat) (val : Word) (s : State) : ∃ s', execPairValueWrite port off val s = .next s' ∧
    s'.pending = s.pending ∧ s'.clock = s.clock ∧ s'.maps = s.maps ∧ s'.mem = s.mem ∧ s'.avail = s.avail ∧ s'.ms = s.ms ∧
    s'.dram = s.dram ∧ s'.flash = s.flash ∧ s'.eng = s.eng ∧ s'.pwr = s.pwr ∧ s'.isl = s.isl := by
  refine ⟨_, rfl, ?_⟩
  simp

theorem execPairComplementWrite_frame (port : HPort) (off : Nat) (val : Word) (s : State) :
    ∃ s', execPairComplementWrite port off val s = .next s' ∧
    s'.pending = s.pending ∧ s'.clock = s.clock ∧ s'.maps = s.maps ∧ s'.mem = s.mem ∧ s'.avail = s.avail ∧ s'.ms = s.ms ∧
    s'.dram = s.dram ∧ s'.flash = s.flash ∧ s'.eng = s.eng ∧ s'.pwr = s.pwr ∧ s'.isl = s.isl := by
  refine ⟨_, rfl, ?_⟩
  simp

theorem execPairGuardTimeout_frame (port : HPort) (s : State) : ∃ s', execPairGuardTimeout port s = .next s' ∧
    s'.pending = s.pending ∧ s'.free = s.free ∧ s'.maps = s.maps ∧ s'.mem = s.mem ∧ s'.coh = s.coh ∧ s'.boot = s.boot ∧
    s'.avail = s.avail ∧ s'.sec = s.sec ∧ s'.net = s.net ∧ s'.ms = s.ms ∧ s'.cr = s.cr ∧ s'.prot = s.prot ∧ s'.dram = s.dram ∧
    s'.flash = s.flash ∧ s'.eng = s.eng ∧ s'.pwr = s.pwr ∧ s'.isl = s.isl := by
  refine ⟨_, rfl, ?_⟩
  repeat' (first | (simp; done) | split)

theorem execHashLock_frame (port : HPort) (val : Word) (s : State) : ∃ s', execHashLock port val s = .next s' ∧
    s'.pending = s.pending ∧ s'.clock = s.clock ∧ s'.maps = s.maps ∧ s'.mem = s.mem ∧ s'.avail = s.avail ∧ s'.ms = s.ms ∧
    s'.dram = s.dram ∧ s'.flash = s.flash ∧ s'.eng = s.eng ∧ s'.pwr = s.pwr ∧ s'.isl = s.isl := by
  refine ⟨_, rfl, ?_⟩
  simp

theorem execDmapLock_frame (port : HPort) (val : Word) (s : State) : ∃ s', execDmapLock port val s = .next s' ∧
    s'.pending = s.pending ∧ s'.clock = s.clock ∧ s'.maps = s.maps ∧ s'.mem = s.mem ∧ s'.avail = s.avail ∧ s'.ms = s.ms ∧
    s'.dram = s.dram ∧ s'.flash = s.flash ∧ s'.eng = s.eng ∧ s'.pwr = s.pwr ∧ s'.isl = s.isl := by
  refine ⟨_, rfl, ?_⟩
  simp

theorem execTokenClaim_frame (port : HPort) (s : State) : ∃ s', execTokenClaim port s = .next s' ∧
    s'.pending = s.pending ∧ s'.clock = s.clock ∧ s'.maps = s.maps ∧ s'.mem = s.mem ∧ s'.avail = s.avail ∧ s'.ms = s.ms ∧
    s'.dram = s.dram ∧ s'.flash = s.flash ∧ s'.eng = s.eng ∧ s'.pwr = s.pwr ∧ s'.isl = s.isl := by
  refine ⟨_, rfl, ?_⟩
  simp

theorem execTokenRelease_frame (port : HPort) (s : State) : ∃ s', execTokenRelease port s = .next s' ∧
    s'.pending = s.pending ∧ s'.clock = s.clock ∧ s'.maps = s.maps ∧ s'.mem = s.mem ∧ s'.avail = s.avail ∧ s'.ms = s.ms ∧
    s'.dram = s.dram ∧ s'.flash = s.flash ∧ s'.eng = s.eng ∧ s'.pwr = s.pwr ∧ s'.isl = s.isl := by
  refine ⟨_, rfl, ?_⟩
  simp

theorem execTokenForce_frame (port : HPort) (s : State) : ∃ s', execTokenForce port s = .next s' ∧
    s'.pending = s.pending ∧ s'.clock = s.clock ∧ s'.maps = s.maps ∧ s'.mem = s.mem ∧ s'.avail = s.avail ∧ s'.ms = s.ms ∧
    s'.dram = s.dram ∧ s'.flash = s.flash ∧ s'.eng = s.eng ∧ s'.pwr = s.pwr ∧ s'.isl = s.isl := by
  refine ⟨_, rfl, ?_⟩
  simp

theorem execConfigCrcUpdate_frame (s : State) : ∃ s', execConfigCrcUpdate s = .next s' ∧
    s'.pending = s.pending ∧ s'.free = s.free ∧ s'.clock = s.clock ∧ s'.time = s.time ∧ s'.maps = s.maps ∧ s'.mem = s.mem ∧
    s'.coh = s.coh ∧ s'.boot = s.boot ∧ s'.avail = s.avail ∧ s'.sec = s.sec ∧ s'.net = s.net ∧ s'.ms = s.ms ∧ s'.cr = s.cr ∧
    s'.prot = s.prot ∧ s'.dram = s.dram ∧ s'.flash = s.flash ∧ s'.eng = s.eng ∧ s'.pwr = s.pwr ∧ s'.isl = s.isl := by
  refine ⟨_, rfl, ?_⟩
  simp

theorem execAvConfigApply_frame (av : Avenue) (s : State) : ∃ s', execAvConfigApply av s = .next s' ∧
    s'.pending = s.pending ∧ s'.free = s.free ∧ s'.clock = s.clock ∧ s'.out = s.out ∧ s'.host = s.host ∧ s'.time = s.time ∧
    s'.maps = s.maps ∧ s'.mem = s.mem ∧ s'.coh = s.coh ∧ s'.boot = s.boot ∧ s'.avail = s.avail ∧ s'.sec = s.sec ∧ s'.net = s.net ∧
    s'.ms = s.ms ∧ s'.cr = s.cr ∧ s'.prot = s.prot ∧ s'.dram = s.dram ∧ s'.flash = s.flash ∧ s'.eng = s.eng ∧ s'.pwr = s.pwr ∧
    s'.isl = s.isl := by
  refine ⟨_, rfl, ?_⟩
  simp

theorem execDcArbCommit_frame (port : HPort) (share : Share) (val : Word) (s : State) : ∃ s', execDcArbCommit port share val s = .next s' ∧
    s'.pending = s.pending ∧ s'.clock = s.clock ∧ s'.maps = s.maps ∧ s'.mem = s.mem ∧ s'.avail = s.avail ∧ s'.ms = s.ms ∧
    s'.dram = s.dram ∧ s'.flash = s.flash ∧ s'.eng = s.eng ∧ s'.pwr = s.pwr ∧ s'.isl = s.isl := by
  refine ⟨_, rfl, ?_⟩
  simp

theorem execRtCommit_frame (port : HPort) (val : Word) (s : State) : ∃ s', execRtCommit port val s = .next s' ∧
    s'.pending = s.pending ∧ s'.clock = s.clock ∧ s'.maps = s.maps ∧ s'.mem = s.mem ∧ s'.avail = s.avail ∧ s'.ms = s.ms ∧
    s'.dram = s.dram ∧ s'.flash = s.flash ∧ s'.eng = s.eng ∧ s'.pwr = s.pwr ∧ s'.isl = s.isl := by
  refine ⟨_, rfl, ?_⟩
  simp

theorem execHwmClr_frame (port : HPort) (val : Word) (s : State) : ∃ s', execHwmClr port val s = .next s' ∧
    s'.pending = s.pending ∧ s'.clock = s.clock ∧ s'.maps = s.maps ∧ s'.mem = s.mem ∧ s'.avail = s.avail ∧ s'.ms = s.ms ∧
    s'.dram = s.dram ∧ s'.flash = s.flash ∧ s'.eng = s.eng ∧ s'.pwr = s.pwr ∧ s'.isl = s.isl := by
  refine ⟨_, rfl, ?_⟩
  simp

theorem execNodeIdWrite_frame (port : HPort) (val : Word) (s : State) : ∃ s', execNodeIdWrite port val s = .next s' ∧
    s'.pending = s.pending ∧ s'.clock = s.clock ∧ s'.maps = s.maps ∧ s'.mem = s.mem ∧ s'.avail = s.avail ∧ s'.ms = s.ms ∧
    s'.dram = s.dram ∧ s'.flash = s.flash ∧ s'.eng = s.eng ∧ s'.pwr = s.pwr ∧ s'.isl = s.isl := by
  refine ⟨_, rfl, ?_⟩
  simp

theorem execRingEnable_frame (port : HPort) (fn : Nat) (k : Nat) (val : Word) (s : State) :
    ∃ s', execRingEnable port fn k val s = .next s' ∧
    s'.pending = s.pending ∧ s'.clock = s.clock ∧ s'.maps = s.maps ∧ s'.mem = s.mem ∧ s'.avail = s.avail ∧ s'.ms = s.ms ∧
    s'.dram = s.dram ∧ s'.flash = s.flash ∧ s'.eng = s.eng ∧ s'.pwr = s.pwr ∧ s'.isl = s.isl := by
  refine ⟨_, rfl, ?_⟩
  simp

theorem execRingDrain_frame (port : HPort) (fn : Nat) (k : Nat) (val : Word) (s : State) : ∃ s', execRingDrain port fn k val s = .next s' ∧
    s'.pending = s.pending ∧ s'.clock = s.clock ∧ s'.maps = s.maps ∧ s'.mem = s.mem ∧ s'.avail = s.avail ∧ s'.ms = s.ms ∧
    s'.dram = s.dram ∧ s'.flash = s.flash ∧ s'.eng = s.eng ∧ s'.pwr = s.pwr ∧ s'.isl = s.isl := by
  refine ⟨_, rfl, ?_⟩
  simp

theorem execRingDrained_frame (ring : Nat) (s : State) : ∃ s', execRingDrained ring s = .next s' ∧
    s'.pending = s.pending ∧ s'.free = s.free ∧ s'.clock = s.clock ∧ s'.out = s.out ∧ s'.regs = s.regs ∧ s'.time = s.time ∧
    s'.maps = s.maps ∧ s'.mem = s.mem ∧ s'.coh = s.coh ∧ s'.boot = s.boot ∧ s'.avail = s.avail ∧ s'.sec = s.sec ∧ s'.net = s.net ∧
    s'.ms = s.ms ∧ s'.cr = s.cr ∧ s'.prot = s.prot ∧ s'.dram = s.dram ∧ s'.flash = s.flash ∧ s'.eng = s.eng ∧ s'.pwr = s.pwr ∧
    s'.isl = s.isl := by
  refine ⟨_, rfl, ?_⟩
  simp

theorem execNoticeRingEnable_frame (port : HPort) (fn : Nat) (val : Word) (s : State) :
    ∃ s', execNoticeRingEnable port fn val s = .next s' ∧
    s'.pending = s.pending ∧ s'.clock = s.clock ∧ s'.maps = s.maps ∧ s'.mem = s.mem ∧ s'.avail = s.avail ∧ s'.ms = s.ms ∧
    s'.dram = s.dram ∧ s'.flash = s.flash ∧ s'.eng = s.eng ∧ s'.pwr = s.pwr ∧ s'.isl = s.isl := by
  refine ⟨_, rfl, ?_⟩
  simp

theorem execJlPortEnable_frame (port : HPort) (jl : JPort) (val : Word) (s : State) : ∃ s', execJlPortEnable port jl val s = .next s' ∧
    s'.pending = s.pending ∧ s'.clock = s.clock ∧ s'.maps = s.maps ∧ s'.mem = s.mem ∧ s'.avail = s.avail ∧ s'.ms = s.ms ∧
    s'.dram = s.dram ∧ s'.flash = s.flash ∧ s'.eng = s.eng ∧ s'.pwr = s.pwr ∧ s'.isl = s.isl := by
  refine ⟨_, rfl, ?_⟩
  simp

theorem execJlRetrainRequest_frame (port : HPort) (jl : JPort) (val : Word) (s : State) :
    ∃ s', execJlRetrainRequest port jl val s = .next s' ∧
    s'.pending = s.pending ∧ s'.clock = s.clock ∧ s'.maps = s.maps ∧ s'.mem = s.mem ∧ s'.avail = s.avail ∧ s'.ms = s.ms ∧
    s'.dram = s.dram ∧ s'.flash = s.flash ∧ s'.eng = s.eng ∧ s'.pwr = s.pwr ∧ s'.isl = s.isl := by
  refine ⟨_, rfl, ?_⟩
  simp

theorem execFlipArm_frame (port : HPort) (ch : Chan) (val : Word) (s : State) : ∃ s', execFlipArm port ch val s = .next s' ∧
    s'.pending = s.pending ∧ s'.clock = s.clock ∧ s'.maps = s.maps ∧ s'.mem = s.mem ∧ s'.avail = s.avail ∧ s'.ms = s.ms ∧
    s'.dram = s.dram ∧ s'.flash = s.flash ∧ s'.eng = s.eng ∧ s'.pwr = s.pwr ∧ s'.isl = s.isl := by
  refine ⟨_, rfl, ?_⟩
  simp

theorem execZeroiseArm_frame (port : HPort) (val : Word) (s : State) : ∃ s', execZeroiseArm port val s = .next s' ∧
    s'.pending = s.pending ∧ s'.clock = s.clock ∧ s'.maps = s.maps ∧ s'.mem = s.mem ∧ s'.avail = s.avail ∧ s'.ms = s.ms ∧
    s'.dram = s.dram ∧ s'.flash = s.flash ∧ s'.eng = s.eng ∧ s'.pwr = s.pwr ∧ s'.isl = s.isl := by
  refine ⟨_, rfl, ?_⟩
  simp

theorem execZeroiseArmExpiry_frame (s : State) : ∃ s', execZeroiseArmExpiry s = .next s' ∧
    s'.pending = s.pending ∧ s'.free = s.free ∧ s'.out = s.out ∧ s'.regs = s.regs ∧ s'.host = s.host ∧ s'.maps = s.maps ∧ s'.mem = s.mem ∧
    s'.coh = s.coh ∧ s'.boot = s.boot ∧ s'.avail = s.avail ∧ s'.net = s.net ∧ s'.ms = s.ms ∧ s'.cr = s.cr ∧ s'.prot = s.prot ∧
    s'.dram = s.dram ∧ s'.flash = s.flash ∧ s'.eng = s.eng ∧ s'.pwr = s.pwr ∧ s'.isl = s.isl := by
  refine ⟨_, rfl, ?_⟩
  dsimp only
  repeat' (first | (simp; done) | split)

theorem execBootGo_frame (port : HPort) (val : Word) (s : State) : ∃ s', execBootGo port val s = .next s' ∧
    s'.pending = s.pending ∧ s'.free = s.free ∧ s'.clock = s.clock ∧ s'.regs = s.regs ∧ s'.time = s.time ∧ s'.maps = s.maps ∧
    s'.mem = s.mem ∧ s'.coh = s.coh ∧ s'.avail = s.avail ∧ s'.sec = s.sec ∧ s'.net = s.net ∧ s'.ms = s.ms ∧ s'.cr = s.cr ∧
    s'.prot = s.prot ∧ s'.dram = s.dram ∧ s'.flash = s.flash ∧ s'.eng = s.eng ∧ s'.pwr = s.pwr ∧ s'.isl = s.isl := by
  refine ⟨_, rfl, ?_⟩
  simp

theorem execBootLoadDone_frame (res : BundleRead) (s : State) : ∃ s', execBootLoadDone res s = .next s' ∧
    s'.pending = s.pending ∧ s'.free = s.free ∧ s'.clock = s.clock ∧ s'.out = s.out ∧ s'.regs = s.regs ∧ s'.host = s.host ∧
    s'.time = s.time ∧ s'.maps = s.maps ∧ s'.mem = s.mem ∧ s'.coh = s.coh ∧ s'.avail = s.avail ∧ s'.sec = s.sec ∧ s'.net = s.net ∧
    s'.ms = s.ms ∧ s'.cr = s.cr ∧ s'.prot = s.prot ∧ s'.dram = s.dram ∧ s'.flash = s.flash ∧ s'.eng = s.eng ∧ s'.pwr = s.pwr ∧
    s'.isl = s.isl := by
  refine ⟨_, rfl, ?_⟩
  repeat' (first | (simp; done) | split)

theorem execFwStartDone_frame (res : StartResult) (s : State) : ∃ s', execFwStartDone res s = .next s' ∧
    s'.pending = s.pending ∧ s'.clock = s.clock ∧ s'.time = s.time ∧ s'.mem = s.mem ∧ s'.coh = s.coh ∧ s'.ms = s.ms ∧ s'.prot = s.prot ∧
    s'.dram = s.dram ∧ s'.flash = s.flash ∧ s'.pwr = s.pwr ∧ s'.isl = s.isl := by
  refine ⟨_, rfl, ?_⟩
  simp

theorem execCommandTailDoorbell_frame (port : HPort) (fn : Nat) (r : Nat) (size : Nat) (val : Word64) (s : State) :
    ∃ s', execCommandTailDoorbell port fn r size val s = .next s' ∧
    s'.pending = s.pending ∧ s'.free = s.free ∧ s'.clock = s.clock ∧ s'.regs = s.regs ∧ s'.time = s.time ∧ s'.maps = s.maps ∧
    s'.mem = s.mem ∧ s'.coh = s.coh ∧ s'.boot = s.boot ∧ s'.avail = s.avail ∧ s'.sec = s.sec ∧ s'.net = s.net ∧ s'.ms = s.ms ∧
    s'.cr = s.cr ∧ s'.prot = s.prot ∧ s'.dram = s.dram ∧ s'.flash = s.flash ∧ s'.eng = s.eng ∧ s'.pwr = s.pwr ∧ s'.isl = s.isl := by
  refine ⟨_, rfl, ?_⟩
  simp

theorem execCompletionHeadDoorbell_frame (port : HPort) (fn : Nat) (r : Nat) (size : Nat) (val : Word64) (s : State) :
    ∃ s', execCompletionHeadDoorbell port fn r size val s = .next s' ∧
    s'.pending = s.pending ∧ s'.free = s.free ∧ s'.clock = s.clock ∧ s'.regs = s.regs ∧ s'.time = s.time ∧ s'.maps = s.maps ∧
    s'.mem = s.mem ∧ s'.coh = s.coh ∧ s'.boot = s.boot ∧ s'.avail = s.avail ∧ s'.sec = s.sec ∧ s'.net = s.net ∧ s'.ms = s.ms ∧
    s'.cr = s.cr ∧ s'.prot = s.prot ∧ s'.dram = s.dram ∧ s'.flash = s.flash ∧ s'.eng = s.eng ∧ s'.pwr = s.pwr ∧ s'.isl = s.isl := by
  refine ⟨_, rfl, ?_⟩
  simp

theorem execNoticeHeadDoorbell_frame (port : HPort) (fn : Nat) (size : Nat) (val : Word64) (s : State) :
    ∃ s', execNoticeHeadDoorbell port fn size val s = .next s' ∧
    s'.pending = s.pending ∧ s'.free = s.free ∧ s'.clock = s.clock ∧ s'.regs = s.regs ∧ s'.time = s.time ∧ s'.maps = s.maps ∧
    s'.mem = s.mem ∧ s'.coh = s.coh ∧ s'.boot = s.boot ∧ s'.avail = s.avail ∧ s'.sec = s.sec ∧ s'.net = s.net ∧ s'.ms = s.ms ∧
    s'.cr = s.cr ∧ s'.prot = s.prot ∧ s'.dram = s.dram ∧ s'.flash = s.flash ∧ s'.eng = s.eng ∧ s'.pwr = s.pwr ∧ s'.isl = s.isl := by
  refine ⟨_, rfl, ?_⟩
  dsimp only
  repeat' (first | (simp; done) | split)

theorem execNoticeClaimRead_frame (port : HPort) (fn : Nat) (s : State) : ∃ s', execNoticeClaimRead port fn s = .next s' ∧
    s'.pending = s.pending ∧ s'.free = s.free ∧ s'.clock = s.clock ∧ s'.regs = s.regs ∧ s'.time = s.time ∧ s'.maps = s.maps ∧
    s'.mem = s.mem ∧ s'.coh = s.coh ∧ s'.boot = s.boot ∧ s'.avail = s.avail ∧ s'.sec = s.sec ∧ s'.net = s.net ∧ s'.ms = s.ms ∧
    s'.cr = s.cr ∧ s'.prot = s.prot ∧ s'.dram = s.dram ∧ s'.flash = s.flash ∧ s'.eng = s.eng ∧ s'.pwr = s.pwr ∧ s'.isl = s.isl := by
  refine ⟨_, rfl, ?_⟩
  dsimp only
  repeat' (first | (simp; done) | split)

theorem execNoticeCompletionWrite_frame (port : HPort) (fn : Nat) (size : Nat) (val : Word64) (s : State) :
    ∃ s', execNoticeCompletionWrite port fn size val s = .next s' ∧
    s'.pending = s.pending ∧ s'.free = s.free ∧ s'.clock = s.clock ∧ s'.regs = s.regs ∧ s'.time = s.time ∧ s'.maps = s.maps ∧
    s'.mem = s.mem ∧ s'.coh = s.coh ∧ s'.boot = s.boot ∧ s'.avail = s.avail ∧ s'.sec = s.sec ∧ s'.net = s.net ∧ s'.ms = s.ms ∧
    s'.cr = s.cr ∧ s'.prot = s.prot ∧ s'.dram = s.dram ∧ s'.flash = s.flash ∧ s'.eng = s.eng ∧ s'.pwr = s.pwr ∧ s'.isl = s.isl := by
  refine ⟨_, rfl, ?_⟩
  dsimp only
  repeat' (first | (simp; done) | split)

theorem execShadowTailSweep_frame (ring : Nat) (read : Option Nat) (s : State) : ∃ s', execShadowTailSweep ring read s = .next s' ∧
    s'.pending = s.pending ∧ s'.free = s.free ∧ s'.clock = s.clock ∧ s'.regs = s.regs ∧ s'.time = s.time ∧ s'.maps = s.maps ∧
    s'.mem = s.mem ∧ s'.coh = s.coh ∧ s'.boot = s.boot ∧ s'.avail = s.avail ∧ s'.sec = s.sec ∧ s'.net = s.net ∧ s'.ms = s.ms ∧
    s'.cr = s.cr ∧ s'.prot = s.prot ∧ s'.dram = s.dram ∧ s'.flash = s.flash ∧ s'.eng = s.eng ∧ s'.pwr = s.pwr ∧ s'.isl = s.isl := by
  refine ⟨_, rfl, ?_⟩
  repeat' (first | (simp; done) | split)

theorem execDescriptorFetch_frame (ring : Nat) (read : Option Desc) (s : State) : ∃ s', execDescriptorFetch ring read s = .next s' ∧
    s'.pending = s.pending ∧ s'.clock = s.clock ∧ s'.time = s.time ∧ s'.maps = s.maps ∧ s'.mem = s.mem ∧ s'.coh = s.coh ∧
    s'.boot = s.boot ∧ s'.avail = s.avail ∧ s'.sec = s.sec ∧ s'.ms = s.ms ∧ s'.prot = s.prot ∧ s'.dram = s.dram ∧ s'.flash = s.flash ∧
    s'.eng = s.eng ∧ s'.pwr = s.pwr ∧ s'.isl = s.isl := by
  refine ⟨_, rfl, ?_⟩
  dsimp only
  repeat' (first | (simp; done) | split)

theorem execRetentionExpire_frame (issuer : Nat) (cmdId : Nat) (s : State) : ∃ s', execRetentionExpire issuer cmdId s = .next s' ∧
    s'.pending = s.pending ∧ s'.free = s.free ∧ s'.out = s.out ∧ s'.regs = s.regs ∧ s'.maps = s.maps ∧ s'.mem = s.mem ∧ s'.coh = s.coh ∧
    s'.boot = s.boot ∧ s'.avail = s.avail ∧ s'.sec = s.sec ∧ s'.net = s.net ∧ s'.ms = s.ms ∧ s'.cr = s.cr ∧ s'.prot = s.prot ∧
    s'.dram = s.dram ∧ s'.flash = s.flash ∧ s'.eng = s.eng ∧ s'.pwr = s.pwr ∧ s'.isl = s.isl := by
  refine ⟨_, rfl, ?_⟩
  repeat' (first | (simp; done) | split)

theorem execFunctionLevelReset_frame (port : HPort) (fn : Nat) (s : State) : ∃ s', execFunctionLevelReset port fn s = .next s' ∧
    s'.pending = s.pending ∧ s'.clock = s.clock ∧ s'.time = s.time ∧ s'.maps = s.maps ∧ s'.mem = s.mem ∧ s'.coh = s.coh ∧
    s'.boot = s.boot ∧ s'.avail = s.avail ∧ s'.ms = s.ms ∧ s'.prot = s.prot ∧ s'.dram = s.dram ∧ s'.flash = s.flash ∧ s'.eng = s.eng ∧
    s'.pwr = s.pwr ∧ s'.isl = s.isl := by
  refine ⟨_, rfl, ?_⟩
  simp

theorem execHostPerst_frame (port : HPort) (s : State) : ∃ s', execHostPerst port s = .next s' ∧
    s'.pending = s.pending ∧ s'.clock = s.clock ∧ s'.time = s.time ∧ s'.maps = s.maps ∧ s'.mem = s.mem ∧ s'.coh = s.coh ∧
    s'.avail = s.avail ∧ s'.ms = s.ms ∧ s'.prot = s.prot ∧ s'.dram = s.dram ∧ s'.flash = s.flash ∧ s'.eng = s.eng ∧ s'.pwr = s.pwr ∧
    s'.isl = s.isl := by
  refine ⟨_, rfl, ?_⟩
  simp

theorem execHostLinkDown_frame (port : HPort) (s : State) : ∃ s', execHostLinkDown port s = .next s' ∧
    s'.pending = s.pending ∧ s'.free = s.free ∧ s'.clock = s.clock ∧ s'.regs = s.regs ∧ s'.time = s.time ∧ s'.maps = s.maps ∧
    s'.mem = s.mem ∧ s'.coh = s.coh ∧ s'.avail = s.avail ∧ s'.net = s.net ∧ s'.ms = s.ms ∧ s'.cr = s.cr ∧ s'.prot = s.prot ∧
    s'.dram = s.dram ∧ s'.flash = s.flash ∧ s'.eng = s.eng ∧ s'.pwr = s.pwr ∧ s'.isl = s.isl := by
  refine ⟨_, rfl, ?_⟩
  simp

theorem execDistrictCreate_frame (c : Cmd) (s : State) : ∃ s', execDistrictCreate c s = .next s' ∧
    s'.pending = s.pending ∧ s'.clock = s.clock ∧ s'.time = s.time ∧ s'.mem = s.mem ∧ s'.coh = s.coh ∧ s'.boot = s.boot ∧
    s'.avail = s.avail ∧ s'.ms = s.ms ∧ s'.prot = s.prot ∧ s'.dram = s.dram ∧ s'.pwr = s.pwr ∧ s'.isl = s.isl := by
  refine ⟨_, rfl, ?_⟩
  simp

theorem execDistrictErase_frame (c : Cmd) (s : State) : ∃ s', execDistrictErase c s = .next s' ∧
    s'.pending = s.pending ∧ s'.clock = s.clock ∧ s'.time = s.time ∧ s'.mem = s.mem ∧ s'.boot = s.boot ∧ s'.avail = s.avail ∧
    s'.sec = s.sec ∧ s'.prot = s.prot ∧ s'.dram = s.dram ∧ s'.pwr = s.pwr ∧ s'.isl = s.isl := by
  refine ⟨_, rfl, ?_⟩
  simp

theorem execDistrictEraseProceed_frame (district : Nat) (s : State) : ∃ s', execDistrictEraseProceed district s = .next s' ∧
    s'.pending = s.pending ∧ s'.clock = s.clock ∧ s'.time = s.time ∧ s'.boot = s.boot ∧ s'.avail = s.avail ∧ s'.dram = s.dram ∧
    s'.pwr = s.pwr ∧ s'.isl = s.isl := by
  refine ⟨_, rfl, ?_⟩
  dsimp only
  repeat' (first | (simp; done) | split)

theorem execDistrictQuery_frame (c : Cmd) (s : State) : ∃ s', execDistrictQuery c s = .next s' ∧
    s'.pending = s.pending ∧ s'.clock = s.clock ∧ s'.time = s.time ∧ s'.maps = s.maps ∧ s'.mem = s.mem ∧ s'.coh = s.coh ∧
    s'.boot = s.boot ∧ s'.avail = s.avail ∧ s'.sec = s.sec ∧ s'.ms = s.ms ∧ s'.prot = s.prot ∧ s'.dram = s.dram ∧ s'.flash = s.flash ∧
    s'.eng = s.eng ∧ s'.pwr = s.pwr ∧ s'.isl = s.isl := by
  refine ⟨_, rfl, ?_⟩
  (repeat' apply And.intro) <;> repeat' (first
      | (simp; done) | exact State.command_pending _ _ _ _ _ (fun s => by repeat' (first | (simp; done) | split))
      | exact State.command_clock _ _ _ _ _ (fun s => by repeat' (first | (simp; done) | split))
      | exact State.command_time _ _ _ _ _ (fun s => by repeat' (first | (simp; done) | split))
      | exact State.command_maps _ _ _ _ _ (fun s => by repeat' (first | (simp; done) | split))
      | exact State.command_mem _ _ _ _ _ (fun s => by repeat' (first | (simp; done) | split))
      | exact State.command_coh _ _ _ _ _ (fun s => by repeat' (first | (simp; done) | split))
      | exact State.command_boot _ _ _ _ _ (fun s => by repeat' (first | (simp; done) | split))
      | exact State.command_avail _ _ _ _ _ (fun s => by repeat' (first | (simp; done) | split))
      | exact State.command_sec _ _ _ _ _ (fun s => by repeat' (first | (simp; done) | split))
      | exact State.command_ms _ _ _ _ _ (fun s => by repeat' (first | (simp; done) | split))
      | exact State.command_prot _ _ _ _ _ (fun s => by repeat' (first | (simp; done) | split))
      | exact State.command_dram _ _ _ _ _ (fun s => by repeat' (first | (simp; done) | split))
      | exact State.command_flash _ _ _ _ _ (fun s => by repeat' (first | (simp; done) | split))
      | exact State.command_eng _ _ _ _ _ (fun s => by repeat' (first | (simp; done) | split))
      | exact State.command_pwr _ _ _ _ _ (fun s => by repeat' (first | (simp; done) | split))
      | exact State.command_isl _ _ _ _ _ (fun s => by repeat' (first | (simp; done) | split)) | split
      | refine (foldl_keeps _ _ _ _ (fun _ _ => ?_)).trans ?_)

theorem execWindowMap_frame (c : Cmd) (s : State) : ∃ s', execWindowMap c s = .next s' ∧
    s'.pending = s.pending ∧ s'.clock = s.clock ∧ s'.time = s.time ∧ s'.mem = s.mem ∧ s'.coh = s.coh ∧ s'.boot = s.boot ∧
    s'.avail = s.avail ∧ s'.sec = s.sec ∧ s'.ms = s.ms ∧ s'.prot = s.prot ∧ s'.dram = s.dram ∧ s'.flash = s.flash ∧ s'.eng = s.eng ∧
    s'.pwr = s.pwr ∧ s'.isl = s.isl := by
  refine ⟨_, rfl, ?_⟩
  dsimp only
  repeat' (first | (simp; done) | split)

theorem execTranslationDrainDone_frame (ring : Nat) (cmdId : Nat) (s : State) : ∃ s', execTranslationDrainDone ring cmdId s = .next s' ∧
    s'.pending = s.pending ∧ s'.clock = s.clock ∧ s'.time = s.time ∧ s'.boot = s.boot ∧ s'.avail = s.avail ∧ s'.eng = s.eng ∧
    s'.pwr = s.pwr ∧ s'.isl = s.isl := by
  refine ⟨_, rfl, ?_⟩
  repeat' (first | (simp; done) | split)

theorem execDirectorySearchDone_frame (ring : Nat) (cmdId : Nat) (s : State) : ∃ s', execDirectorySearchDone ring cmdId s = .next s' ∧
    s'.pending = s.pending ∧ s'.clock = s.clock ∧ s'.time = s.time ∧ s'.boot = s.boot ∧ s'.avail = s.avail ∧ s'.eng = s.eng ∧
    s'.pwr = s.pwr ∧ s'.isl = s.isl := by
  refine ⟨_, rfl, ?_⟩
  repeat' (first | (simp; done) | split)

theorem execMemMap_frame (c : Cmd) (s : State) : ∃ s', execMemMap c s = .next s' ∧
    s'.pending = s.pending ∧ s'.clock = s.clock ∧ s'.time = s.time ∧ s'.boot = s.boot ∧ s'.avail = s.avail ∧ s'.sec = s.sec ∧
    s'.dram = s.dram ∧ s'.eng = s.eng ∧ s'.pwr = s.pwr ∧ s'.isl = s.isl := by
  refine ⟨_, rfl, ?_⟩
  dsimp only
  (repeat' apply And.intro) <;> repeat' (first
      | (simp; done)
      | exact State.command_pending _ _ _ _ _ (fun s => by repeat' (first | (simp; done) | (simp [State.mapRun_frame ‹State.mapRun _ _ _ _ _ = some _›]; done) | split))
      | exact State.command_clock _ _ _ _ _ (fun s => by repeat' (first | (simp; done) | (simp [State.mapRun_frame ‹State.mapRun _ _ _ _ _ = some _›]; done) | split))
      | exact State.command_time _ _ _ _ _ (fun s => by repeat' (first | (simp; done) | (simp [State.mapRun_frame ‹State.mapRun _ _ _ _ _ = some _›]; done) | split))
      | exact State.command_maps _ _ _ _ _ (fun s => by repeat' (first | (simp; done) | (simp [State.mapRun_frame ‹State.mapRun _ _ _ _ _ = some _›]; done) | split))
      | exact State.command_mem _ _ _ _ _ (fun s => by repeat' (first | (simp; done) | (simp [State.mapRun_frame ‹State.mapRun _ _ _ _ _ = some _›]; done) | split))
      | exact State.command_coh _ _ _ _ _ (fun s => by repeat' (first | (simp; done) | (simp [State.mapRun_frame ‹State.mapRun _ _ _ _ _ = some _›]; done) | split))
      | exact State.command_boot _ _ _ _ _ (fun s => by repeat' (first | (simp; done) | (simp [State.mapRun_frame ‹State.mapRun _ _ _ _ _ = some _›]; done) | split))
      | exact State.command_avail _ _ _ _ _ (fun s => by repeat' (first | (simp; done) | (simp [State.mapRun_frame ‹State.mapRun _ _ _ _ _ = some _›]; done) | split))
      | exact State.command_sec _ _ _ _ _ (fun s => by repeat' (first | (simp; done) | (simp [State.mapRun_frame ‹State.mapRun _ _ _ _ _ = some _›]; done) | split))
      | exact State.command_ms _ _ _ _ _ (fun s => by repeat' (first | (simp; done) | (simp [State.mapRun_frame ‹State.mapRun _ _ _ _ _ = some _›]; done) | split))
      | exact State.command_prot _ _ _ _ _ (fun s => by repeat' (first | (simp; done) | (simp [State.mapRun_frame ‹State.mapRun _ _ _ _ _ = some _›]; done) | split))
      | exact State.command_dram _ _ _ _ _ (fun s => by repeat' (first | (simp; done) | (simp [State.mapRun_frame ‹State.mapRun _ _ _ _ _ = some _›]; done) | split))
      | exact State.command_flash _ _ _ _ _ (fun s => by repeat' (first | (simp; done) | (simp [State.mapRun_frame ‹State.mapRun _ _ _ _ _ = some _›]; done) | split))
      | exact State.command_eng _ _ _ _ _ (fun s => by repeat' (first | (simp; done) | (simp [State.mapRun_frame ‹State.mapRun _ _ _ _ _ = some _›]; done) | split))
      | exact State.command_pwr _ _ _ _ _ (fun s => by repeat' (first | (simp; done) | (simp [State.mapRun_frame ‹State.mapRun _ _ _ _ _ = some _›]; done) | split))
      | exact State.command_isl _ _ _ _ _ (fun s => by repeat' (first | (simp; done) | (simp [State.mapRun_frame ‹State.mapRun _ _ _ _ _ = some _›]; done) | split))
      | split | refine (foldl_keeps _ _ _ _ (fun _ _ => ?_)).trans ?_)

theorem execMemUnmap_frame (c : Cmd) (s : State) : ∃ s', execMemUnmap c s = .next s' ∧
    s'.pending = s.pending ∧ s'.clock = s.clock ∧ s'.time = s.time ∧ s'.mem = s.mem ∧ s'.coh = s.coh ∧ s'.boot = s.boot ∧
    s'.avail = s.avail ∧ s'.sec = s.sec ∧ s'.ms = s.ms ∧ s'.prot = s.prot ∧ s'.dram = s.dram ∧ s'.flash = s.flash ∧ s'.eng = s.eng ∧
    s'.pwr = s.pwr ∧ s'.isl = s.isl := by
  refine ⟨_, rfl, ?_⟩
  simp

theorem execDistrictStrength_frame (c : Cmd) (s : State) : ∃ s', execDistrictStrength c s = .next s' ∧
    s'.pending = s.pending ∧ s'.clock = s.clock ∧ s'.time = s.time ∧ s'.mem = s.mem ∧ s'.coh = s.coh ∧ s'.boot = s.boot ∧
    s'.avail = s.avail ∧ s'.sec = s.sec ∧ s'.ms = s.ms ∧ s'.prot = s.prot ∧ s'.dram = s.dram ∧ s'.flash = s.flash ∧ s'.eng = s.eng ∧
    s'.pwr = s.pwr ∧ s'.isl = s.isl := by
  refine ⟨_, rfl, ?_⟩
  dsimp only
  repeat' (first | (simp; done) | split)

theorem execStrengthPageDone_frame (district : Nat) (s : State) : ∃ s', execStrengthPageDone district s = .next s' ∧
    s'.pending = s.pending ∧ s'.clock = s.clock ∧ s'.time = s.time ∧ s'.coh = s.coh ∧ s'.boot = s.boot ∧ s'.avail = s.avail ∧
    s'.sec = s.sec ∧ s'.dram = s.dram ∧ s'.flash = s.flash ∧ s'.eng = s.eng ∧ s'.pwr = s.pwr ∧ s'.isl = s.isl := by
  refine ⟨_, rfl, ?_⟩
  dsimp only
  repeat' (first | (simp; done) | split)

theorem execDistrictLimits_frame (c : Cmd) (s : State) : ∃ s', execDistrictLimits c s = .next s' ∧
    s'.pending = s.pending ∧ s'.clock = s.clock ∧ s'.time = s.time ∧ s'.mem = s.mem ∧ s'.coh = s.coh ∧ s'.boot = s.boot ∧
    s'.avail = s.avail ∧ s'.sec = s.sec ∧ s'.ms = s.ms ∧ s'.prot = s.prot ∧ s'.dram = s.dram ∧ s'.eng = s.eng ∧ s'.pwr = s.pwr ∧
    s'.isl = s.isl := by
  refine ⟨_, rfl, ?_⟩
  dsimp only
  (repeat' apply And.intro) <;> repeat' (first
      | (simp; done) | exact State.command_pending _ _ _ _ _ (fun s => by repeat' (first | (simp; done) | split))
      | exact State.command_clock _ _ _ _ _ (fun s => by repeat' (first | (simp; done) | split))
      | exact State.command_time _ _ _ _ _ (fun s => by repeat' (first | (simp; done) | split))
      | exact State.command_maps _ _ _ _ _ (fun s => by repeat' (first | (simp; done) | split))
      | exact State.command_mem _ _ _ _ _ (fun s => by repeat' (first | (simp; done) | split))
      | exact State.command_coh _ _ _ _ _ (fun s => by repeat' (first | (simp; done) | split))
      | exact State.command_boot _ _ _ _ _ (fun s => by repeat' (first | (simp; done) | split))
      | exact State.command_avail _ _ _ _ _ (fun s => by repeat' (first | (simp; done) | split))
      | exact State.command_sec _ _ _ _ _ (fun s => by repeat' (first | (simp; done) | split))
      | exact State.command_ms _ _ _ _ _ (fun s => by repeat' (first | (simp; done) | split))
      | exact State.command_prot _ _ _ _ _ (fun s => by repeat' (first | (simp; done) | split))
      | exact State.command_dram _ _ _ _ _ (fun s => by repeat' (first | (simp; done) | split))
      | exact State.command_flash _ _ _ _ _ (fun s => by repeat' (first | (simp; done) | split))
      | exact State.command_eng _ _ _ _ _ (fun s => by repeat' (first | (simp; done) | split))
      | exact State.command_pwr _ _ _ _ _ (fun s => by repeat' (first | (simp; done) | split))
      | exact State.command_isl _ _ _ _ _ (fun s => by repeat' (first | (simp; done) | split)) | split
      | refine (foldl_keeps _ _ _ _ (fun _ _ => ?_)).trans ?_)

theorem execWindowQuery_frame (c : Cmd) (s : State) : ∃ s', execWindowQuery c s = .next s' ∧
    s'.pending = s.pending ∧ s'.clock = s.clock ∧ s'.time = s.time ∧ s'.maps = s.maps ∧ s'.mem = s.mem ∧ s'.coh = s.coh ∧
    s'.boot = s.boot ∧ s'.avail = s.avail ∧ s'.sec = s.sec ∧ s'.ms = s.ms ∧ s'.prot = s.prot ∧ s'.dram = s.dram ∧ s'.flash = s.flash ∧
    s'.eng = s.eng ∧ s'.pwr = s.pwr ∧ s'.isl = s.isl := by
  refine ⟨_, rfl, ?_⟩
  simp

theorem execAccRingCreate_frame (c : Cmd) (s : State) : ∃ s', execAccRingCreate c s = .next s' ∧
    s'.pending = s.pending ∧ s'.clock = s.clock ∧ s'.time = s.time ∧ s'.maps = s.maps ∧ s'.mem = s.mem ∧ s'.coh = s.coh ∧
    s'.boot = s.boot ∧ s'.avail = s.avail ∧ s'.sec = s.sec ∧ s'.ms = s.ms ∧ s'.prot = s.prot ∧ s'.dram = s.dram ∧ s'.flash = s.flash ∧
    s'.eng = s.eng ∧ s'.pwr = s.pwr ∧ s'.isl = s.isl := by
  refine ⟨_, rfl, ?_⟩
  dsimp only
  repeat' (first | (simp; done) | split)

theorem execAccRingDestroy_frame (c : Cmd) (s : State) : ∃ s', execAccRingDestroy c s = .next s' ∧
    s'.pending = s.pending ∧ s'.clock = s.clock ∧ s'.time = s.time ∧ s'.maps = s.maps ∧ s'.mem = s.mem ∧ s'.coh = s.coh ∧
    s'.boot = s.boot ∧ s'.avail = s.avail ∧ s'.sec = s.sec ∧ s'.ms = s.ms ∧ s'.prot = s.prot ∧ s'.dram = s.dram ∧ s'.flash = s.flash ∧
    s'.eng = s.eng ∧ s'.pwr = s.pwr ∧ s'.isl = s.isl := by
  refine ⟨_, rfl, ?_⟩
  simp

theorem execDistrictReown_frame (c : Cmd) (s : State) : ∃ s', execDistrictReown c s = .next s' ∧
    s'.pending = s.pending ∧ s'.clock = s.clock ∧ s'.time = s.time ∧ s'.mem = s.mem ∧ s'.coh = s.coh ∧ s'.boot = s.boot ∧
    s'.avail = s.avail ∧ s'.sec = s.sec ∧ s'.ms = s.ms ∧ s'.prot = s.prot ∧ s'.dram = s.dram ∧ s'.flash = s.flash ∧ s'.eng = s.eng ∧
    s'.pwr = s.pwr ∧ s'.isl = s.isl := by
  refine ⟨_, rfl, ?_⟩
  dsimp only
  (repeat' apply And.intro) <;> repeat' (first
      | (simp; done) | exact State.command_pending _ _ _ _ _ (fun s => by repeat' (first | (simp; done) | split))
      | exact State.command_clock _ _ _ _ _ (fun s => by repeat' (first | (simp; done) | split))
      | exact State.command_time _ _ _ _ _ (fun s => by repeat' (first | (simp; done) | split))
      | exact State.command_maps _ _ _ _ _ (fun s => by repeat' (first | (simp; done) | split))
      | exact State.command_mem _ _ _ _ _ (fun s => by repeat' (first | (simp; done) | split))
      | exact State.command_coh _ _ _ _ _ (fun s => by repeat' (first | (simp; done) | split))
      | exact State.command_boot _ _ _ _ _ (fun s => by repeat' (first | (simp; done) | split))
      | exact State.command_avail _ _ _ _ _ (fun s => by repeat' (first | (simp; done) | split))
      | exact State.command_sec _ _ _ _ _ (fun s => by repeat' (first | (simp; done) | split))
      | exact State.command_ms _ _ _ _ _ (fun s => by repeat' (first | (simp; done) | split))
      | exact State.command_prot _ _ _ _ _ (fun s => by repeat' (first | (simp; done) | split))
      | exact State.command_dram _ _ _ _ _ (fun s => by repeat' (first | (simp; done) | split))
      | exact State.command_flash _ _ _ _ _ (fun s => by repeat' (first | (simp; done) | split))
      | exact State.command_eng _ _ _ _ _ (fun s => by repeat' (first | (simp; done) | split))
      | exact State.command_pwr _ _ _ _ _ (fun s => by repeat' (first | (simp; done) | split))
      | exact State.command_isl _ _ _ _ _ (fun s => by repeat' (first | (simp; done) | split)) | split
      | refine (foldl_keeps _ _ _ _ (fun _ _ => ?_)).trans ?_)

theorem execMilestoneCut_frame (c : Cmd) (s : State) : ∃ s', execMilestoneCut c s = .next s' ∧
    s'.pending = s.pending ∧ s'.clock = s.clock ∧ s'.mem = s.mem ∧ s'.coh = s.coh ∧ s'.boot = s.boot ∧ s'.avail = s.avail ∧
    s'.sec = s.sec ∧ s'.prot = s.prot ∧ s'.dram = s.dram ∧ s'.flash = s.flash ∧ s'.eng = s.eng ∧ s'.pwr = s.pwr ∧ s'.isl = s.isl := by
  refine ⟨_, rfl, ?_⟩
  dsimp only
  (repeat' apply And.intro) <;> repeat' (first
      | (simp; done) | exact State.command_pending _ _ _ _ _ (fun s => by repeat' (first | (simp; done) | split))
      | exact State.command_clock _ _ _ _ _ (fun s => by repeat' (first | (simp; done) | split))
      | exact State.command_time _ _ _ _ _ (fun s => by repeat' (first | (simp; done) | split))
      | exact State.command_maps _ _ _ _ _ (fun s => by repeat' (first | (simp; done) | split))
      | exact State.command_mem _ _ _ _ _ (fun s => by repeat' (first | (simp; done) | split))
      | exact State.command_coh _ _ _ _ _ (fun s => by repeat' (first | (simp; done) | split))
      | exact State.command_boot _ _ _ _ _ (fun s => by repeat' (first | (simp; done) | split))
      | exact State.command_avail _ _ _ _ _ (fun s => by repeat' (first | (simp; done) | split))
      | exact State.command_sec _ _ _ _ _ (fun s => by repeat' (first | (simp; done) | split))
      | exact State.command_ms _ _ _ _ _ (fun s => by repeat' (first | (simp; done) | split))
      | exact State.command_prot _ _ _ _ _ (fun s => by repeat' (first | (simp; done) | split))
      | exact State.command_dram _ _ _ _ _ (fun s => by repeat' (first | (simp; done) | split))
      | exact State.command_flash _ _ _ _ _ (fun s => by repeat' (first | (simp; done) | split))
      | exact State.command_eng _ _ _ _ _ (fun s => by repeat' (first | (simp; done) | split))
      | exact State.command_pwr _ _ _ _ _ (fun s => by repeat' (first | (simp; done) | split))
      | exact State.command_isl _ _ _ _ _ (fun s => by repeat' (first | (simp; done) | split)) | split
      | refine (foldl_keeps _ _ _ _ (fun _ _ => ?_)).trans ?_)

theorem execMilestoneOpen_frame (c : Cmd) (s : State) : ∃ s', execMilestoneOpen c s = .next s' ∧
    s'.pending = s.pending ∧ s'.clock = s.clock ∧ s'.time = s.time ∧ s'.maps = s.maps ∧ s'.mem = s.mem ∧ s'.coh = s.coh ∧
    s'.boot = s.boot ∧ s'.avail = s.avail ∧ s'.sec = s.sec ∧ s'.prot = s.prot ∧ s'.dram = s.dram ∧ s'.flash = s.flash ∧ s'.eng = s.eng ∧
    s'.pwr = s.pwr ∧ s'.isl = s.isl := by
  refine ⟨_, rfl, ?_⟩
  dsimp only
  repeat' (first | (simp; done) | split)

theorem execMilestoneClose_frame (c : Cmd) (s : State) : ∃ s', execMilestoneClose c s = .next s' ∧
    s'.pending = s.pending ∧ s'.clock = s.clock ∧ s'.time = s.time ∧ s'.maps = s.maps ∧ s'.mem = s.mem ∧ s'.coh = s.coh ∧
    s'.boot = s.boot ∧ s'.avail = s.avail ∧ s'.sec = s.sec ∧ s'.prot = s.prot ∧ s'.dram = s.dram ∧ s'.flash = s.flash ∧ s'.eng = s.eng ∧
    s'.pwr = s.pwr ∧ s'.isl = s.isl := by
  refine ⟨_, rfl, ?_⟩
  dsimp only
  repeat' (first | (simp; done) | split)

theorem execMilestoneRelease_frame (c : Cmd) (s : State) : ∃ s', execMilestoneRelease c s = .next s' ∧
    s'.pending = s.pending ∧ s'.clock = s.clock ∧ s'.maps = s.maps ∧ s'.mem = s.mem ∧ s'.coh = s.coh ∧ s'.boot = s.boot ∧
    s'.avail = s.avail ∧ s'.sec = s.sec ∧ s'.prot = s.prot ∧ s'.dram = s.dram ∧ s'.flash = s.flash ∧ s'.eng = s.eng ∧ s'.pwr = s.pwr ∧
    s'.isl = s.isl := by
  refine ⟨_, rfl, ?_⟩
  dsimp only
  repeat' (first | (simp; done) | split)

theorem execMilestoneRenumber_frame (c : Cmd) (s : State) : ∃ s', execMilestoneRenumber c s = .next s' ∧
    s'.pending = s.pending ∧ s'.clock = s.clock ∧ s'.time = s.time ∧ s'.mem = s.mem ∧ s'.coh = s.coh ∧ s'.boot = s.boot ∧
    s'.avail = s.avail ∧ s'.sec = s.sec ∧ s'.ms = s.ms ∧ s'.prot = s.prot ∧ s'.dram = s.dram ∧ s'.flash = s.flash ∧ s'.eng = s.eng ∧
    s'.pwr = s.pwr ∧ s'.isl = s.isl := by
  refine ⟨_, rfl, ?_⟩
  dsimp only
  (repeat' apply And.intro) <;> repeat' (first
      | (simp; done) | exact State.command_pending _ _ _ _ _ (fun s => by repeat' (first | (simp; done) | split))
      | exact State.command_clock _ _ _ _ _ (fun s => by repeat' (first | (simp; done) | split))
      | exact State.command_time _ _ _ _ _ (fun s => by repeat' (first | (simp; done) | split))
      | exact State.command_maps _ _ _ _ _ (fun s => by repeat' (first | (simp; done) | split))
      | exact State.command_mem _ _ _ _ _ (fun s => by repeat' (first | (simp; done) | split))
      | exact State.command_coh _ _ _ _ _ (fun s => by repeat' (first | (simp; done) | split))
      | exact State.command_boot _ _ _ _ _ (fun s => by repeat' (first | (simp; done) | split))
      | exact State.command_avail _ _ _ _ _ (fun s => by repeat' (first | (simp; done) | split))
      | exact State.command_sec _ _ _ _ _ (fun s => by repeat' (first | (simp; done) | split))
      | exact State.command_ms _ _ _ _ _ (fun s => by repeat' (first | (simp; done) | split))
      | exact State.command_prot _ _ _ _ _ (fun s => by repeat' (first | (simp; done) | split))
      | exact State.command_dram _ _ _ _ _ (fun s => by repeat' (first | (simp; done) | split))
      | exact State.command_flash _ _ _ _ _ (fun s => by repeat' (first | (simp; done) | split))
      | exact State.command_eng _ _ _ _ _ (fun s => by repeat' (first | (simp; done) | split))
      | exact State.command_pwr _ _ _ _ _ (fun s => by repeat' (first | (simp; done) | split))
      | exact State.command_isl _ _ _ _ _ (fun s => by repeat' (first | (simp; done) | split)) | split
      | refine (foldl_keeps _ _ _ _ (fun _ _ => ?_)).trans ?_)

theorem execRenumberDone_frame (district : Nat) (s : State) : ∃ s', execRenumberDone district s = .next s' ∧
    s'.pending = s.pending ∧ s'.clock = s.clock ∧ s'.time = s.time ∧ s'.mem = s.mem ∧ s'.coh = s.coh ∧ s'.boot = s.boot ∧
    s'.avail = s.avail ∧ s'.sec = s.sec ∧ s'.prot = s.prot ∧ s'.dram = s.dram ∧ s'.flash = s.flash ∧ s'.eng = s.eng ∧ s'.pwr = s.pwr ∧
    s'.isl = s.isl := by
  refine ⟨_, rfl, ?_⟩
  simp

theorem execMilestoneQuery_frame (c : Cmd) (s : State) : ∃ s', execMilestoneQuery c s = .next s' ∧
    s'.pending = s.pending ∧ s'.clock = s.clock ∧ s'.time = s.time ∧ s'.maps = s.maps ∧ s'.mem = s.mem ∧ s'.coh = s.coh ∧
    s'.boot = s.boot ∧ s'.avail = s.avail ∧ s'.sec = s.sec ∧ s'.ms = s.ms ∧ s'.prot = s.prot ∧ s'.dram = s.dram ∧ s'.flash = s.flash ∧
    s'.eng = s.eng ∧ s'.pwr = s.pwr ∧ s'.isl = s.isl := by
  refine ⟨_, rfl, ?_⟩
  simp

theorem execCrossingCreate_frame (c : Cmd) (s : State) : ∃ s', execCrossingCreate c s = .next s' ∧
    s'.pending = s.pending ∧ s'.clock = s.clock ∧ s'.time = s.time ∧ s'.maps = s.maps ∧ s'.mem = s.mem ∧ s'.coh = s.coh ∧
    s'.boot = s.boot ∧ s'.avail = s.avail ∧ s'.sec = s.sec ∧ s'.ms = s.ms ∧ s'.prot = s.prot ∧ s'.dram = s.dram ∧ s'.flash = s.flash ∧
    s'.eng = s.eng ∧ s'.pwr = s.pwr ∧ s'.isl = s.isl := by
  refine ⟨_, rfl, ?_⟩
  dsimp only
  (repeat' apply And.intro) <;> repeat' (first
      | (simp; done) | exact State.command_pending _ _ _ _ _ (fun s => by repeat' (first | (simp; done) | split))
      | exact State.command_clock _ _ _ _ _ (fun s => by repeat' (first | (simp; done) | split))
      | exact State.command_time _ _ _ _ _ (fun s => by repeat' (first | (simp; done) | split))
      | exact State.command_maps _ _ _ _ _ (fun s => by repeat' (first | (simp; done) | split))
      | exact State.command_mem _ _ _ _ _ (fun s => by repeat' (first | (simp; done) | split))
      | exact State.command_coh _ _ _ _ _ (fun s => by repeat' (first | (simp; done) | split))
      | exact State.command_boot _ _ _ _ _ (fun s => by repeat' (first | (simp; done) | split))
      | exact State.command_avail _ _ _ _ _ (fun s => by repeat' (first | (simp; done) | split))
      | exact State.command_sec _ _ _ _ _ (fun s => by repeat' (first | (simp; done) | split))
      | exact State.command_ms _ _ _ _ _ (fun s => by repeat' (first | (simp; done) | split))
      | exact State.command_prot _ _ _ _ _ (fun s => by repeat' (first | (simp; done) | split))
      | exact State.command_dram _ _ _ _ _ (fun s => by repeat' (first | (simp; done) | split))
      | exact State.command_flash _ _ _ _ _ (fun s => by repeat' (first | (simp; done) | split))
      | exact State.command_eng _ _ _ _ _ (fun s => by repeat' (first | (simp; done) | split))
      | exact State.command_pwr _ _ _ _ _ (fun s => by repeat' (first | (simp; done) | split))
      | exact State.command_isl _ _ _ _ _ (fun s => by repeat' (first | (simp; done) | split)) | split
      | refine (foldl_keeps _ _ _ _ (fun _ _ => ?_)).trans ?_)

theorem execCrossingDestroy_frame (c : Cmd) (s : State) : ∃ s', execCrossingDestroy c s = .next s' ∧
    s'.pending = s.pending ∧ s'.clock = s.clock ∧ s'.time = s.time ∧ s'.maps = s.maps ∧ s'.mem = s.mem ∧ s'.coh = s.coh ∧
    s'.boot = s.boot ∧ s'.avail = s.avail ∧ s'.sec = s.sec ∧ s'.ms = s.ms ∧ s'.prot = s.prot ∧ s'.dram = s.dram ∧ s'.flash = s.flash ∧
    s'.eng = s.eng ∧ s'.pwr = s.pwr ∧ s'.isl = s.isl := by
  refine ⟨_, rfl, ?_⟩
  simp

theorem execCrossingReset_frame (c : Cmd) (s : State) : ∃ s', execCrossingReset c s = .next s' ∧
    s'.pending = s.pending ∧ s'.clock = s.clock ∧ s'.time = s.time ∧ s'.maps = s.maps ∧ s'.mem = s.mem ∧ s'.coh = s.coh ∧
    s'.boot = s.boot ∧ s'.avail = s.avail ∧ s'.sec = s.sec ∧ s'.ms = s.ms ∧ s'.prot = s.prot ∧ s'.dram = s.dram ∧ s'.flash = s.flash ∧
    s'.eng = s.eng ∧ s'.pwr = s.pwr ∧ s'.isl = s.isl := by
  refine ⟨_, rfl, ?_⟩
  dsimp only
  (repeat' apply And.intro) <;> repeat' (first
      | (simp; done) | exact State.command_pending _ _ _ _ _ (fun s => by repeat' (first | (simp; done) | split))
      | exact State.command_clock _ _ _ _ _ (fun s => by repeat' (first | (simp; done) | split))
      | exact State.command_time _ _ _ _ _ (fun s => by repeat' (first | (simp; done) | split))
      | exact State.command_maps _ _ _ _ _ (fun s => by repeat' (first | (simp; done) | split))
      | exact State.command_mem _ _ _ _ _ (fun s => by repeat' (first | (simp; done) | split))
      | exact State.command_coh _ _ _ _ _ (fun s => by repeat' (first | (simp; done) | split))
      | exact State.command_boot _ _ _ _ _ (fun s => by repeat' (first | (simp; done) | split))
      | exact State.command_avail _ _ _ _ _ (fun s => by repeat' (first | (simp; done) | split))
      | exact State.command_sec _ _ _ _ _ (fun s => by repeat' (first | (simp; done) | split))
      | exact State.command_ms _ _ _ _ _ (fun s => by repeat' (first | (simp; done) | split))
      | exact State.command_prot _ _ _ _ _ (fun s => by repeat' (first | (simp; done) | split))
      | exact State.command_dram _ _ _ _ _ (fun s => by repeat' (first | (simp; done) | split))
      | exact State.command_flash _ _ _ _ _ (fun s => by repeat' (first | (simp; done) | split))
      | exact State.command_eng _ _ _ _ _ (fun s => by repeat' (first | (simp; done) | split))
      | exact State.command_pwr _ _ _ _ _ (fun s => by repeat' (first | (simp; done) | split))
      | exact State.command_isl _ _ _ _ _ (fun s => by repeat' (first | (simp; done) | split)) | split
      | refine (foldl_keeps _ _ _ _ (fun _ _ => ?_)).trans ?_)

theorem execCrossingQuery_frame (c : Cmd) (s : State) : ∃ s', execCrossingQuery c s = .next s' ∧
    s'.pending = s.pending ∧ s'.clock = s.clock ∧ s'.time = s.time ∧ s'.maps = s.maps ∧ s'.mem = s.mem ∧ s'.coh = s.coh ∧
    s'.boot = s.boot ∧ s'.avail = s.avail ∧ s'.sec = s.sec ∧ s'.ms = s.ms ∧ s'.prot = s.prot ∧ s'.dram = s.dram ∧ s'.flash = s.flash ∧
    s'.eng = s.eng ∧ s'.pwr = s.pwr ∧ s'.isl = s.isl := by
  refine ⟨_, rfl, ?_⟩
  dsimp only
  (repeat' apply And.intro) <;> repeat' (first
      | (simp; done) | exact State.command_pending _ _ _ _ _ (fun s => by repeat' (first | (simp; done) | split))
      | exact State.command_clock _ _ _ _ _ (fun s => by repeat' (first | (simp; done) | split))
      | exact State.command_time _ _ _ _ _ (fun s => by repeat' (first | (simp; done) | split))
      | exact State.command_maps _ _ _ _ _ (fun s => by repeat' (first | (simp; done) | split))
      | exact State.command_mem _ _ _ _ _ (fun s => by repeat' (first | (simp; done) | split))
      | exact State.command_coh _ _ _ _ _ (fun s => by repeat' (first | (simp; done) | split))
      | exact State.command_boot _ _ _ _ _ (fun s => by repeat' (first | (simp; done) | split))
      | exact State.command_avail _ _ _ _ _ (fun s => by repeat' (first | (simp; done) | split))
      | exact State.command_sec _ _ _ _ _ (fun s => by repeat' (first | (simp; done) | split))
      | exact State.command_ms _ _ _ _ _ (fun s => by repeat' (first | (simp; done) | split))
      | exact State.command_prot _ _ _ _ _ (fun s => by repeat' (first | (simp; done) | split))
      | exact State.command_dram _ _ _ _ _ (fun s => by repeat' (first | (simp; done) | split))
      | exact State.command_flash _ _ _ _ _ (fun s => by repeat' (first | (simp; done) | split))
      | exact State.command_eng _ _ _ _ _ (fun s => by repeat' (first | (simp; done) | split))
      | exact State.command_pwr _ _ _ _ _ (fun s => by repeat' (first | (simp; done) | split))
      | exact State.command_isl _ _ _ _ _ (fun s => by repeat' (first | (simp; done) | split)) | split
      | refine (foldl_keeps _ _ _ _ (fun _ _ => ?_)).trans ?_)

theorem execOpFill_frame (c : Cmd) (s : State) : ∃ s', execOpFill c s = .next s' ∧
    s'.pending = s.pending ∧ s'.clock = s.clock ∧ s'.time = s.time ∧ s'.boot = s.boot ∧ s'.avail = s.avail ∧ s'.sec = s.sec ∧
    s'.pwr = s.pwr ∧ s'.isl = s.isl := by
  refine ⟨_, rfl, ?_⟩
  simp

theorem execOpCopy_frame (c : Cmd) (s : State) : ∃ s', execOpCopy c s = .next s' ∧
    s'.pending = s.pending ∧ s'.clock = s.clock ∧ s'.time = s.time ∧ s'.boot = s.boot ∧ s'.avail = s.avail ∧ s'.sec = s.sec ∧
    s'.pwr = s.pwr ∧ s'.isl = s.isl := by
  refine ⟨_, rfl, ?_⟩
  simp

theorem execOpCompare_frame (c : Cmd) (s : State) : ∃ s', execOpCompare c s = .next s' ∧
    s'.pending = s.pending ∧ s'.clock = s.clock ∧ s'.time = s.time ∧ s'.boot = s.boot ∧ s'.avail = s.avail ∧ s'.sec = s.sec ∧
    s'.pwr = s.pwr ∧ s'.isl = s.isl := by
  refine ⟨_, rfl, ?_⟩
  simp

theorem execOpReduce_frame (c : Cmd) (s : State) : ∃ s', execOpReduce c s = .next s' ∧
    s'.pending = s.pending ∧ s'.clock = s.clock ∧ s'.time = s.time ∧ s'.boot = s.boot ∧ s'.avail = s.avail ∧ s'.sec = s.sec ∧
    s'.pwr = s.pwr ∧ s'.isl = s.isl := by
  refine ⟨_, rfl, ?_⟩
  simp

theorem execOpGather_frame (c : Cmd) (s : State) : ∃ s', execOpGather c s = .next s' ∧
    s'.pending = s.pending ∧ s'.clock = s.clock ∧ s'.time = s.time ∧ s'.boot = s.boot ∧ s'.avail = s.avail ∧ s'.sec = s.sec ∧
    s'.pwr = s.pwr ∧ s'.isl = s.isl := by
  refine ⟨_, rfl, ?_⟩
  simp

theorem execOpScatter_frame (c : Cmd) (s : State) : ∃ s', execOpScatter c s = .next s' ∧
    s'.pending = s.pending ∧ s'.clock = s.clock ∧ s'.time = s.time ∧ s'.boot = s.boot ∧ s'.avail = s.avail ∧ s'.sec = s.sec ∧
    s'.pwr = s.pwr ∧ s'.isl = s.isl := by
  refine ⟨_, rfl, ?_⟩
  simp

theorem execOpHostCopy_frame (c : Cmd) (s : State) : ∃ s', execOpHostCopy c s = .next s' ∧
    s'.pending = s.pending ∧ s'.clock = s.clock ∧ s'.time = s.time ∧ s'.boot = s.boot ∧ s'.avail = s.avail ∧ s'.sec = s.sec ∧
    s'.eng = s.eng ∧ s'.pwr = s.pwr ∧ s'.isl = s.isl := by
  refine ⟨_, rfl, ?_⟩
  simp

theorem execOpGemv_frame (c : Cmd) (s : State) : ∃ s', execOpGemv c s = .next s' ∧
    s'.pending = s.pending ∧ s'.clock = s.clock ∧ s'.time = s.time ∧ s'.boot = s.boot ∧ s'.avail = s.avail ∧ s'.sec = s.sec ∧
    s'.pwr = s.pwr ∧ s'.isl = s.isl := by
  refine ⟨_, rfl, ?_⟩
  simp

theorem execOpAttend_frame (c : Cmd) (s : State) : ∃ s', execOpAttend c s = .next s' ∧
    s'.pending = s.pending ∧ s'.clock = s.clock ∧ s'.time = s.time ∧ s'.boot = s.boot ∧ s'.avail = s.avail ∧ s'.sec = s.sec ∧
    s'.pwr = s.pwr ∧ s'.isl = s.isl := by
  refine ⟨_, rfl, ?_⟩
  simp

theorem execOpKvAppend_frame (c : Cmd) (s : State) : ∃ s', execOpKvAppend c s = .next s' ∧
    s'.pending = s.pending ∧ s'.clock = s.clock ∧ s'.time = s.time ∧ s'.boot = s.boot ∧ s'.avail = s.avail ∧ s'.sec = s.sec ∧
    s'.pwr = s.pwr ∧ s'.isl = s.isl := by
  refine ⟨_, rfl, ?_⟩
  simp

theorem execOpQuant_frame (c : Cmd) (s : State) : ∃ s', execOpQuant c s = .next s' ∧
    s'.pending = s.pending ∧ s'.clock = s.clock ∧ s'.time = s.time ∧ s'.boot = s.boot ∧ s'.avail = s.avail ∧ s'.sec = s.sec ∧
    s'.pwr = s.pwr ∧ s'.isl = s.isl := by
  refine ⟨_, rfl, ?_⟩
  simp

theorem execOpDequant_frame (c : Cmd) (s : State) : ∃ s', execOpDequant c s = .next s' ∧
    s'.pending = s.pending ∧ s'.clock = s.clock ∧ s'.time = s.time ∧ s'.boot = s.boot ∧ s'.avail = s.avail ∧ s'.sec = s.sec ∧
    s'.pwr = s.pwr ∧ s'.isl = s.isl := by
  refine ⟨_, rfl, ?_⟩
  simp

theorem execJobAbort_frame (c : Cmd) (s : State) : ∃ s', execJobAbort c s = .next s' ∧
    s'.pending = s.pending ∧ s'.clock = s.clock ∧ s'.time = s.time ∧ s'.mem = s.mem ∧ s'.boot = s.boot ∧ s'.avail = s.avail ∧
    s'.sec = s.sec ∧ s'.prot = s.prot ∧ s'.dram = s.dram ∧ s'.pwr = s.pwr ∧ s'.isl = s.isl := by
  refine ⟨_, rfl, ?_⟩
  dsimp only
  (repeat' apply And.intro) <;> repeat' (first
      | (simp; done) | exact State.command_pending _ _ _ _ _ (fun s => by repeat' (first | (simp; done) | split))
      | exact State.command_clock _ _ _ _ _ (fun s => by repeat' (first | (simp; done) | split))
      | exact State.command_time _ _ _ _ _ (fun s => by repeat' (first | (simp; done) | split))
      | exact State.command_maps _ _ _ _ _ (fun s => by repeat' (first | (simp; done) | split))
      | exact State.command_mem _ _ _ _ _ (fun s => by repeat' (first | (simp; done) | split))
      | exact State.command_coh _ _ _ _ _ (fun s => by repeat' (first | (simp; done) | split))
      | exact State.command_boot _ _ _ _ _ (fun s => by repeat' (first | (simp; done) | split))
      | exact State.command_avail _ _ _ _ _ (fun s => by repeat' (first | (simp; done) | split))
      | exact State.command_sec _ _ _ _ _ (fun s => by repeat' (first | (simp; done) | split))
      | exact State.command_ms _ _ _ _ _ (fun s => by repeat' (first | (simp; done) | split))
      | exact State.command_prot _ _ _ _ _ (fun s => by repeat' (first | (simp; done) | split))
      | exact State.command_dram _ _ _ _ _ (fun s => by repeat' (first | (simp; done) | split))
      | exact State.command_flash _ _ _ _ _ (fun s => by repeat' (first | (simp; done) | split))
      | exact State.command_eng _ _ _ _ _ (fun s => by repeat' (first | (simp; done) | split))
      | exact State.command_pwr _ _ _ _ _ (fun s => by repeat' (first | (simp; done) | split))
      | exact State.command_isl _ _ _ _ _ (fun s => by repeat' (first | (simp; done) | split)) | split
      | refine (foldl_keeps _ _ _ _ (fun _ _ => ?_)).trans ?_)

theorem execTierPromote_frame (c : Cmd) (s : State) : ∃ s', execTierPromote c s = .next s' ∧
    s'.pending = s.pending ∧ s'.clock = s.clock ∧ s'.time = s.time ∧ s'.mem = s.mem ∧ s'.coh = s.coh ∧ s'.boot = s.boot ∧
    s'.avail = s.avail ∧ s'.sec = s.sec ∧ s'.ms = s.ms ∧ s'.prot = s.prot ∧ s'.dram = s.dram ∧ s'.eng = s.eng ∧ s'.pwr = s.pwr ∧
    s'.isl = s.isl := by
  refine ⟨_, rfl, ?_⟩
  simp

theorem execTierDemote_frame (c : Cmd) (s : State) : ∃ s', execTierDemote c s = .next s' ∧
    s'.pending = s.pending ∧ s'.clock = s.clock ∧ s'.time = s.time ∧ s'.maps = s.maps ∧ s'.mem = s.mem ∧ s'.coh = s.coh ∧
    s'.boot = s.boot ∧ s'.avail = s.avail ∧ s'.sec = s.sec ∧ s'.ms = s.ms ∧ s'.prot = s.prot ∧ s'.dram = s.dram ∧ s'.eng = s.eng ∧
    s'.pwr = s.pwr ∧ s'.isl = s.isl := by
  refine ⟨_, rfl, ?_⟩
  simp

theorem execTierPin_frame (c : Cmd) (s : State) : ∃ s', execTierPin c s = .next s' ∧
    s'.pending = s.pending ∧ s'.clock = s.clock ∧ s'.time = s.time ∧ s'.mem = s.mem ∧ s'.coh = s.coh ∧ s'.boot = s.boot ∧
    s'.avail = s.avail ∧ s'.sec = s.sec ∧ s'.ms = s.ms ∧ s'.prot = s.prot ∧ s'.dram = s.dram ∧ s'.eng = s.eng ∧ s'.pwr = s.pwr ∧
    s'.isl = s.isl := by
  refine ⟨_, rfl, ?_⟩
  simp

theorem execFlashGroupCreate_frame (c : Cmd) (s : State) : ∃ s', execFlashGroupCreate c s = .next s' ∧
    s'.pending = s.pending ∧ s'.clock = s.clock ∧ s'.time = s.time ∧ s'.maps = s.maps ∧ s'.mem = s.mem ∧ s'.coh = s.coh ∧
    s'.boot = s.boot ∧ s'.avail = s.avail ∧ s'.sec = s.sec ∧ s'.ms = s.ms ∧ s'.prot = s.prot ∧ s'.dram = s.dram ∧ s'.eng = s.eng ∧
    s'.pwr = s.pwr ∧ s'.isl = s.isl := by
  refine ⟨_, rfl, ?_⟩
  simp

theorem execFlashGroupDestroy_frame (c : Cmd) (s : State) : ∃ s', execFlashGroupDestroy c s = .next s' ∧
    s'.pending = s.pending ∧ s'.clock = s.clock ∧ s'.time = s.time ∧ s'.maps = s.maps ∧ s'.mem = s.mem ∧ s'.coh = s.coh ∧
    s'.boot = s.boot ∧ s'.avail = s.avail ∧ s'.sec = s.sec ∧ s'.ms = s.ms ∧ s'.prot = s.prot ∧ s'.dram = s.dram ∧ s'.eng = s.eng ∧
    s'.pwr = s.pwr ∧ s'.isl = s.isl := by
  refine ⟨_, rfl, ?_⟩
  dsimp only
  (repeat' apply And.intro) <;> repeat' (first
      | (simp; done) | exact State.command_pending _ _ _ _ _ (fun s => by repeat' (first | (simp; done) | split))
      | exact State.command_clock _ _ _ _ _ (fun s => by repeat' (first | (simp; done) | split))
      | exact State.command_time _ _ _ _ _ (fun s => by repeat' (first | (simp; done) | split))
      | exact State.command_maps _ _ _ _ _ (fun s => by repeat' (first | (simp; done) | split))
      | exact State.command_mem _ _ _ _ _ (fun s => by repeat' (first | (simp; done) | split))
      | exact State.command_coh _ _ _ _ _ (fun s => by repeat' (first | (simp; done) | split))
      | exact State.command_boot _ _ _ _ _ (fun s => by repeat' (first | (simp; done) | split))
      | exact State.command_avail _ _ _ _ _ (fun s => by repeat' (first | (simp; done) | split))
      | exact State.command_sec _ _ _ _ _ (fun s => by repeat' (first | (simp; done) | split))
      | exact State.command_ms _ _ _ _ _ (fun s => by repeat' (first | (simp; done) | split))
      | exact State.command_prot _ _ _ _ _ (fun s => by repeat' (first | (simp; done) | split))
      | exact State.command_dram _ _ _ _ _ (fun s => by repeat' (first | (simp; done) | split))
      | exact State.command_flash _ _ _ _ _ (fun s => by repeat' (first | (simp; done) | split))
      | exact State.command_eng _ _ _ _ _ (fun s => by repeat' (first | (simp; done) | split))
      | exact State.command_pwr _ _ _ _ _ (fun s => by repeat' (first | (simp; done) | split))
      | exact State.command_isl _ _ _ _ _ (fun s => by repeat' (first | (simp; done) | split)) | split
      | refine (foldl_keeps _ _ _ _ (fun _ _ => ?_)).trans ?_)

theorem execSlotPower_frame (c : Cmd) (s : State) : ∃ s', execSlotPower c s = .next s' ∧
    s'.pending = s.pending ∧ s'.clock = s.clock ∧ s'.time = s.time ∧ s'.boot = s.boot ∧ s'.avail = s.avail ∧ s'.sec = s.sec ∧
    s'.ms = s.ms ∧ s'.dram = s.dram ∧ s'.eng = s.eng ∧ s'.pwr = s.pwr ∧ s'.isl = s.isl := by
  refine ⟨_, rfl, ?_⟩
  simp

theorem execSsdReplace_frame (c : Cmd) (s : State) : ∃ s', execSsdReplace c s = .next s' ∧
    s'.pending = s.pending ∧ s'.clock = s.clock ∧ s'.time = s.time ∧ s'.maps = s.maps ∧ s'.mem = s.mem ∧ s'.coh = s.coh ∧
    s'.boot = s.boot ∧ s'.avail = s.avail ∧ s'.sec = s.sec ∧ s'.ms = s.ms ∧ s'.prot = s.prot ∧ s'.dram = s.dram ∧ s'.eng = s.eng ∧
    s'.pwr = s.pwr ∧ s'.isl = s.isl := by
  refine ⟨_, rfl, ?_⟩
  dsimp only
  (repeat' apply And.intro) <;> repeat' (first
      | (simp; done) | exact State.command_pending _ _ _ _ _ (fun s => by repeat' (first | (simp; done) | split))
      | exact State.command_clock _ _ _ _ _ (fun s => by repeat' (first | (simp; done) | split))
      | exact State.command_time _ _ _ _ _ (fun s => by repeat' (first | (simp; done) | split))
      | exact State.command_maps _ _ _ _ _ (fun s => by repeat' (first | (simp; done) | split))
      | exact State.command_mem _ _ _ _ _ (fun s => by repeat' (first | (simp; done) | split))
      | exact State.command_coh _ _ _ _ _ (fun s => by repeat' (first | (simp; done) | split))
      | exact State.command_boot _ _ _ _ _ (fun s => by repeat' (first | (simp; done) | split))
      | exact State.command_avail _ _ _ _ _ (fun s => by repeat' (first | (simp; done) | split))
      | exact State.command_sec _ _ _ _ _ (fun s => by repeat' (first | (simp; done) | split))
      | exact State.command_ms _ _ _ _ _ (fun s => by repeat' (first | (simp; done) | split))
      | exact State.command_prot _ _ _ _ _ (fun s => by repeat' (first | (simp; done) | split))
      | exact State.command_dram _ _ _ _ _ (fun s => by repeat' (first | (simp; done) | split))
      | exact State.command_flash _ _ _ _ _ (fun s => by repeat' (first | (simp; done) | split))
      | exact State.command_eng _ _ _ _ _ (fun s => by repeat' (first | (simp; done) | split))
      | exact State.command_pwr _ _ _ _ _ (fun s => by repeat' (first | (simp; done) | split))
      | exact State.command_isl _ _ _ _ _ (fun s => by repeat' (first | (simp; done) | split)) | split
      | refine (foldl_keeps _ _ _ _ (fun _ _ => ?_)).trans ?_)

theorem execTierQuery_frame (c : Cmd) (s : State) : ∃ s', execTierQuery c s = .next s' ∧
    s'.pending = s.pending ∧ s'.clock = s.clock ∧ s'.time = s.time ∧ s'.maps = s.maps ∧ s'.mem = s.mem ∧ s'.coh = s.coh ∧
    s'.boot = s.boot ∧ s'.avail = s.avail ∧ s'.sec = s.sec ∧ s'.ms = s.ms ∧ s'.prot = s.prot ∧ s'.dram = s.dram ∧ s'.flash = s.flash ∧
    s'.eng = s.eng ∧ s'.pwr = s.pwr ∧ s'.isl = s.isl := by
  refine ⟨_, rfl, ?_⟩
  dsimp only
  (repeat' apply And.intro) <;> repeat' (first
      | (simp; done) | exact State.command_pending _ _ _ _ _ (fun s => by repeat' (first | (simp; done) | split))
      | exact State.command_clock _ _ _ _ _ (fun s => by repeat' (first | (simp; done) | split))
      | exact State.command_time _ _ _ _ _ (fun s => by repeat' (first | (simp; done) | split))
      | exact State.command_maps _ _ _ _ _ (fun s => by repeat' (first | (simp; done) | split))
      | exact State.command_mem _ _ _ _ _ (fun s => by repeat' (first | (simp; done) | split))
      | exact State.command_coh _ _ _ _ _ (fun s => by repeat' (first | (simp; done) | split))
      | exact State.command_boot _ _ _ _ _ (fun s => by repeat' (first | (simp; done) | split))
      | exact State.command_avail _ _ _ _ _ (fun s => by repeat' (first | (simp; done) | split))
      | exact State.command_sec _ _ _ _ _ (fun s => by repeat' (first | (simp; done) | split))
      | exact State.command_ms _ _ _ _ _ (fun s => by repeat' (first | (simp; done) | split))
      | exact State.command_prot _ _ _ _ _ (fun s => by repeat' (first | (simp; done) | split))
      | exact State.command_dram _ _ _ _ _ (fun s => by repeat' (first | (simp; done) | split))
      | exact State.command_flash _ _ _ _ _ (fun s => by repeat' (first | (simp; done) | split))
      | exact State.command_eng _ _ _ _ _ (fun s => by repeat' (first | (simp; done) | split))
      | exact State.command_pwr _ _ _ _ _ (fun s => by repeat' (first | (simp; done) | split))
      | exact State.command_isl _ _ _ _ _ (fun s => by repeat' (first | (simp; done) | split)) | split
      | refine (foldl_keeps _ _ _ _ (fun _ _ => ?_)).trans ?_)

theorem execAvenueRetire_frame (c : Cmd) (s : State) : ∃ s', execAvenueRetire c s = .next s' ∧
    s'.pending = s.pending ∧ s'.clock = s.clock ∧ s'.maps = s.maps ∧ s'.mem = s.mem ∧ s'.coh = s.coh ∧ s'.boot = s.boot ∧ s'.sec = s.sec ∧
    s'.ms = s.ms ∧ s'.prot = s.prot ∧ s'.dram = s.dram ∧ s'.flash = s.flash ∧ s'.eng = s.eng ∧ s'.pwr = s.pwr ∧ s'.isl = s.isl := by
  refine ⟨_, rfl, ?_⟩
  dsimp only
  (repeat' apply And.intro) <;> repeat' (first
      | (simp; done) | exact State.command_pending _ _ _ _ _ (fun s => by repeat' (first | (simp; done) | split))
      | exact State.command_clock _ _ _ _ _ (fun s => by repeat' (first | (simp; done) | split))
      | exact State.command_time _ _ _ _ _ (fun s => by repeat' (first | (simp; done) | split))
      | exact State.command_maps _ _ _ _ _ (fun s => by repeat' (first | (simp; done) | split))
      | exact State.command_mem _ _ _ _ _ (fun s => by repeat' (first | (simp; done) | split))
      | exact State.command_coh _ _ _ _ _ (fun s => by repeat' (first | (simp; done) | split))
      | exact State.command_boot _ _ _ _ _ (fun s => by repeat' (first | (simp; done) | split))
      | exact State.command_avail _ _ _ _ _ (fun s => by repeat' (first | (simp; done) | split))
      | exact State.command_sec _ _ _ _ _ (fun s => by repeat' (first | (simp; done) | split))
      | exact State.command_ms _ _ _ _ _ (fun s => by repeat' (first | (simp; done) | split))
      | exact State.command_prot _ _ _ _ _ (fun s => by repeat' (first | (simp; done) | split))
      | exact State.command_dram _ _ _ _ _ (fun s => by repeat' (first | (simp; done) | split))
      | exact State.command_flash _ _ _ _ _ (fun s => by repeat' (first | (simp; done) | split))
      | exact State.command_eng _ _ _ _ _ (fun s => by repeat' (first | (simp; done) | split))
      | exact State.command_pwr _ _ _ _ _ (fun s => by repeat' (first | (simp; done) | split))
      | exact State.command_isl _ _ _ _ _ (fun s => by repeat' (first | (simp; done) | split)) | split
      | refine (foldl_keeps _ _ _ _ (fun _ _ => ?_)).trans ?_)

theorem execAvenueAdmit_frame (c : Cmd) (s : State) : ∃ s', execAvenueAdmit c s = .next s' ∧
    s'.pending = s.pending ∧ s'.clock = s.clock ∧ s'.maps = s.maps ∧ s'.mem = s.mem ∧ s'.coh = s.coh ∧ s'.boot = s.boot ∧ s'.sec = s.sec ∧
    s'.ms = s.ms ∧ s'.prot = s.prot ∧ s'.dram = s.dram ∧ s'.flash = s.flash ∧ s'.pwr = s.pwr ∧ s'.isl = s.isl := by
  refine ⟨_, rfl, ?_⟩
  simp

theorem execMemRetire_frame (c : Cmd) (s : State) : ∃ s', execMemRetire c s = .next s' ∧
    s'.pending = s.pending ∧ s'.clock = s.clock ∧ s'.time = s.time ∧ s'.boot = s.boot ∧ s'.avail = s.avail ∧ s'.sec = s.sec ∧
    s'.dram = s.dram ∧ s'.flash = s.flash ∧ s'.eng = s.eng ∧ s'.pwr = s.pwr ∧ s'.isl = s.isl := by
  refine ⟨_, rfl, ?_⟩
  simp

theorem execErrlogRead_frame (c : Cmd) (s : State) : ∃ s', execErrlogRead c s = .next s' ∧
    s'.pending = s.pending ∧ s'.clock = s.clock ∧ s'.time = s.time ∧ s'.maps = s.maps ∧ s'.mem = s.mem ∧ s'.coh = s.coh ∧
    s'.boot = s.boot ∧ s'.avail = s.avail ∧ s'.sec = s.sec ∧ s'.ms = s.ms ∧ s'.prot = s.prot ∧ s'.dram = s.dram ∧ s'.flash = s.flash ∧
    s'.eng = s.eng ∧ s'.pwr = s.pwr ∧ s'.isl = s.isl := by
  refine ⟨_, rfl, ?_⟩
  simp

theorem execNodeUnfence_frame (c : Cmd) (s : State) : ∃ s', execNodeUnfence c s = .next s' ∧
    s'.pending = s.pending ∧ s'.clock = s.clock ∧ s'.time = s.time ∧ s'.maps = s.maps ∧ s'.mem = s.mem ∧ s'.boot = s.boot ∧
    s'.avail = s.avail ∧ s'.sec = s.sec ∧ s'.ms = s.ms ∧ s'.prot = s.prot ∧ s'.dram = s.dram ∧ s'.flash = s.flash ∧ s'.eng = s.eng ∧
    s'.pwr = s.pwr ∧ s'.isl = s.isl := by
  refine ⟨_, rfl, ?_⟩
  simp

theorem execRoleSwap_frame (c : Cmd) (s : State) : ∃ s', execRoleSwap c s = .next s' ∧
    s'.pending = s.pending ∧ s'.clock = s.clock ∧ s'.maps = s.maps ∧ s'.mem = s.mem ∧ s'.coh = s.coh ∧ s'.boot = s.boot ∧
    s'.avail = s.avail ∧ s'.sec = s.sec ∧ s'.ms = s.ms ∧ s'.prot = s.prot ∧ s'.dram = s.dram ∧ s'.flash = s.flash ∧ s'.eng = s.eng ∧
    s'.pwr = s.pwr ∧ s'.isl = s.isl := by
  refine ⟨_, rfl, ?_⟩
  simp

theorem execHealthRead_frame (c : Cmd) (s : State) : ∃ s', execHealthRead c s = .next s' ∧
    s'.pending = s.pending ∧ s'.clock = s.clock ∧ s'.time = s.time ∧ s'.maps = s.maps ∧ s'.mem = s.mem ∧ s'.coh = s.coh ∧
    s'.boot = s.boot ∧ s'.avail = s.avail ∧ s'.sec = s.sec ∧ s'.ms = s.ms ∧ s'.prot = s.prot ∧ s'.dram = s.dram ∧ s'.flash = s.flash ∧
    s'.eng = s.eng ∧ s'.pwr = s.pwr ∧ s'.isl = s.isl := by
  refine ⟨_, rfl, ?_⟩
  simp

theorem execFwStage_frame (c : Cmd) (s : State) : ∃ s', execFwStage c s = .next s' ∧
    s'.pending = s.pending ∧ s'.clock = s.clock ∧ s'.time = s.time ∧ s'.maps = s.maps ∧ s'.mem = s.mem ∧ s'.coh = s.coh ∧
    s'.boot = s.boot ∧ s'.avail = s.avail ∧ s'.sec = s.sec ∧ s'.ms = s.ms ∧ s'.prot = s.prot ∧ s'.dram = s.dram ∧ s'.flash = s.flash ∧
    s'.eng = s.eng ∧ s'.pwr = s.pwr ∧ s'.isl = s.isl := by
  refine ⟨_, rfl, ?_⟩
  simp

theorem execFwRoll_frame (c : Cmd) (s : State) : ∃ s', execFwRoll c s = .next s' ∧
    s'.pending = s.pending ∧ s'.clock = s.clock ∧ s'.maps = s.maps ∧ s'.mem = s.mem ∧ s'.coh = s.coh ∧ s'.boot = s.boot ∧ s'.sec = s.sec ∧
    s'.ms = s.ms ∧ s'.prot = s.prot ∧ s'.dram = s.dram ∧ s'.flash = s.flash ∧ s'.eng = s.eng ∧ s'.pwr = s.pwr ∧ s'.isl = s.isl := by
  refine ⟨_, rfl, ?_⟩
  dsimp only
  (repeat' apply And.intro) <;> repeat' (first
      | (simp; done) | exact State.command_pending _ _ _ _ _ (fun s => by repeat' (first | (simp; done) | split))
      | exact State.command_clock _ _ _ _ _ (fun s => by repeat' (first | (simp; done) | split))
      | exact State.command_time _ _ _ _ _ (fun s => by repeat' (first | (simp; done) | split))
      | exact State.command_maps _ _ _ _ _ (fun s => by repeat' (first | (simp; done) | split))
      | exact State.command_mem _ _ _ _ _ (fun s => by repeat' (first | (simp; done) | split))
      | exact State.command_coh _ _ _ _ _ (fun s => by repeat' (first | (simp; done) | split))
      | exact State.command_boot _ _ _ _ _ (fun s => by repeat' (first | (simp; done) | split))
      | exact State.command_avail _ _ _ _ _ (fun s => by repeat' (first | (simp; done) | split))
      | exact State.command_sec _ _ _ _ _ (fun s => by repeat' (first | (simp; done) | split))
      | exact State.command_ms _ _ _ _ _ (fun s => by repeat' (first | (simp; done) | split))
      | exact State.command_prot _ _ _ _ _ (fun s => by repeat' (first | (simp; done) | split))
      | exact State.command_dram _ _ _ _ _ (fun s => by repeat' (first | (simp; done) | split))
      | exact State.command_flash _ _ _ _ _ (fun s => by repeat' (first | (simp; done) | split))
      | exact State.command_eng _ _ _ _ _ (fun s => by repeat' (first | (simp; done) | split))
      | exact State.command_pwr _ _ _ _ _ (fun s => by repeat' (first | (simp; done) | split))
      | exact State.command_isl _ _ _ _ _ (fun s => by repeat' (first | (simp; done) | split)) | split
      | refine (foldl_keeps _ _ _ _ (fun _ _ => ?_)).trans ?_)

theorem execRollSpareReady_frame (passed : Bool) (s : State) : ∃ s', execRollSpareReady passed s = .next s' ∧
    s'.pending = s.pending ∧ s'.clock = s.clock ∧ s'.maps = s.maps ∧ s'.mem = s.mem ∧ s'.coh = s.coh ∧ s'.boot = s.boot ∧ s'.sec = s.sec ∧
    s'.ms = s.ms ∧ s'.prot = s.prot ∧ s'.dram = s.dram ∧ s'.flash = s.flash ∧ s'.eng = s.eng ∧ s'.pwr = s.pwr ∧ s'.isl = s.isl := by
  refine ⟨_, rfl, ?_⟩
  dsimp only
  repeat' (first | (simp; done) | split)

theorem execPlanLoad_frame (c : Cmd) (s : State) : ∃ s', execPlanLoad c s = .next s' ∧
    s'.pending = s.pending ∧ s'.clock = s.clock ∧ s'.time = s.time ∧ s'.maps = s.maps ∧ s'.mem = s.mem ∧ s'.coh = s.coh ∧
    s'.boot = s.boot ∧ s'.avail = s.avail ∧ s'.sec = s.sec ∧ s'.ms = s.ms ∧ s'.prot = s.prot ∧ s'.dram = s.dram ∧ s'.flash = s.flash ∧
    s'.eng = s.eng ∧ s'.pwr = s.pwr ∧ s'.isl = s.isl := by
  refine ⟨_, rfl, ?_⟩
  simp

theorem execPlanActivate_frame (c : Cmd) (s : State) : ∃ s', execPlanActivate c s = .next s' ∧
    s'.pending = s.pending ∧ s'.clock = s.clock ∧ s'.maps = s.maps ∧ s'.mem = s.mem ∧ s'.coh = s.coh ∧ s'.boot = s.boot ∧
    s'.avail = s.avail ∧ s'.sec = s.sec ∧ s'.ms = s.ms ∧ s'.prot = s.prot ∧ s'.dram = s.dram ∧ s'.flash = s.flash ∧ s'.eng = s.eng ∧
    s'.pwr = s.pwr ∧ s'.isl = s.isl := by
  refine ⟨_, rfl, ?_⟩
  simp

theorem execPlanDiscard_frame (c : Cmd) (s : State) : ∃ s', execPlanDiscard c s = .next s' ∧
    s'.pending = s.pending ∧ s'.clock = s.clock ∧ s'.maps = s.maps ∧ s'.mem = s.mem ∧ s'.coh = s.coh ∧ s'.boot = s.boot ∧ s'.sec = s.sec ∧
    s'.prot = s.prot ∧ s'.dram = s.dram ∧ s'.flash = s.flash ∧ s'.eng = s.eng ∧ s'.pwr = s.pwr ∧ s'.isl = s.isl := by
  refine ⟨_, rfl, ?_⟩
  simp

theorem execTimeSet_frame (c : Cmd) (s : State) : ∃ s', execTimeSet c s = .next s' ∧
    s'.pending = s.pending ∧ s'.clock = s.clock ∧ s'.maps = s.maps ∧ s'.mem = s.mem ∧ s'.coh = s.coh ∧ s'.boot = s.boot ∧
    s'.avail = s.avail ∧ s'.sec = s.sec ∧ s'.ms = s.ms ∧ s'.prot = s.prot ∧ s'.dram = s.dram ∧ s'.flash = s.flash ∧ s'.eng = s.eng ∧
    s'.pwr = s.pwr ∧ s'.isl = s.isl := by
  refine ⟨_, rfl, ?_⟩
  simp

theorem execTimeSetTimeout_frame (s : State) : ∃ s', execTimeSetTimeout s = .next s' ∧
    s'.pending = s.pending ∧ s'.maps = s.maps ∧ s'.mem = s.mem ∧ s'.coh = s.coh ∧ s'.boot = s.boot ∧ s'.avail = s.avail ∧ s'.sec = s.sec ∧
    s'.ms = s.ms ∧ s'.prot = s.prot ∧ s'.dram = s.dram ∧ s'.flash = s.flash ∧ s'.eng = s.eng ∧ s'.pwr = s.pwr ∧ s'.isl = s.isl := by
  refine ⟨_, rfl, ?_⟩
  repeat' (first | (simp; done) | split)

theorem execEventSchedule_frame (c : Cmd) (s : State) : ∃ s', execEventSchedule c s = .next s' ∧
    s'.pending = s.pending ∧ s'.clock = s.clock ∧ s'.maps = s.maps ∧ s'.mem = s.mem ∧ s'.coh = s.coh ∧ s'.boot = s.boot ∧
    s'.avail = s.avail ∧ s'.sec = s.sec ∧ s'.ms = s.ms ∧ s'.prot = s.prot ∧ s'.dram = s.dram ∧ s'.flash = s.flash ∧ s'.eng = s.eng ∧
    s'.pwr = s.pwr ∧ s'.isl = s.isl := by
  refine ⟨_, rfl, ?_⟩
  simp

theorem execEventCancel_frame (c : Cmd) (s : State) : ∃ s', execEventCancel c s = .next s' ∧
    s'.pending = s.pending ∧ s'.clock = s.clock ∧ s'.maps = s.maps ∧ s'.mem = s.mem ∧ s'.coh = s.coh ∧ s'.boot = s.boot ∧ s'.sec = s.sec ∧
    s'.prot = s.prot ∧ s'.dram = s.dram ∧ s'.flash = s.flash ∧ s'.eng = s.eng ∧ s'.pwr = s.pwr ∧ s'.isl = s.isl := by
  refine ⟨_, rfl, ?_⟩
  dsimp only
  repeat' (first | (simp; done) | split)

theorem execPowerCap_frame (c : Cmd) (s : State) : ∃ s', execPowerCap c s = .next s' ∧
    s'.pending = s.pending ∧ s'.clock = s.clock ∧ s'.time = s.time ∧ s'.maps = s.maps ∧ s'.mem = s.mem ∧ s'.coh = s.coh ∧
    s'.boot = s.boot ∧ s'.avail = s.avail ∧ s'.sec = s.sec ∧ s'.ms = s.ms ∧ s'.prot = s.prot ∧ s'.dram = s.dram ∧ s'.flash = s.flash ∧
    s'.eng = s.eng ∧ s'.isl = s.isl := by
  refine ⟨_, rfl, ?_⟩
  simp

theorem execPowerProfile_frame (c : Cmd) (s : State) : ∃ s', execPowerProfile c s = .next s' ∧
    s'.pending = s.pending ∧ s'.clock = s.clock ∧ s'.time = s.time ∧ s'.maps = s.maps ∧ s'.mem = s.mem ∧ s'.coh = s.coh ∧
    s'.boot = s.boot ∧ s'.avail = s.avail ∧ s'.sec = s.sec ∧ s'.ms = s.ms ∧ s'.prot = s.prot ∧ s'.dram = s.dram ∧ s'.flash = s.flash ∧
    s'.eng = s.eng ∧ s'.isl = s.isl := by
  refine ⟨_, rfl, ?_⟩
  simp

theorem execPowerQuery_frame (c : Cmd) (s : State) : ∃ s', execPowerQuery c s = .next s' ∧
    s'.pending = s.pending ∧ s'.clock = s.clock ∧ s'.time = s.time ∧ s'.maps = s.maps ∧ s'.mem = s.mem ∧ s'.coh = s.coh ∧
    s'.boot = s.boot ∧ s'.avail = s.avail ∧ s'.sec = s.sec ∧ s'.ms = s.ms ∧ s'.prot = s.prot ∧ s'.dram = s.dram ∧ s'.flash = s.flash ∧
    s'.eng = s.eng ∧ s'.pwr = s.pwr ∧ s'.isl = s.isl := by
  refine ⟨_, rfl, ?_⟩
  simp

theorem execEnergyRead_frame (c : Cmd) (s : State) : ∃ s', execEnergyRead c s = .next s' ∧
    s'.pending = s.pending ∧ s'.clock = s.clock ∧ s'.time = s.time ∧ s'.maps = s.maps ∧ s'.mem = s.mem ∧ s'.coh = s.coh ∧
    s'.boot = s.boot ∧ s'.avail = s.avail ∧ s'.sec = s.sec ∧ s'.ms = s.ms ∧ s'.prot = s.prot ∧ s'.dram = s.dram ∧ s'.flash = s.flash ∧
    s'.eng = s.eng ∧ s'.pwr = s.pwr ∧ s'.isl = s.isl := by
  refine ⟨_, rfl, ?_⟩
  dsimp only
  (repeat' apply And.intro) <;> repeat' (first
      | (simp; done) | exact State.command_pending _ _ _ _ _ (fun s => by repeat' (first | (simp; done) | split))
      | exact State.command_clock _ _ _ _ _ (fun s => by repeat' (first | (simp; done) | split))
      | exact State.command_time _ _ _ _ _ (fun s => by repeat' (first | (simp; done) | split))
      | exact State.command_maps _ _ _ _ _ (fun s => by repeat' (first | (simp; done) | split))
      | exact State.command_mem _ _ _ _ _ (fun s => by repeat' (first | (simp; done) | split))
      | exact State.command_coh _ _ _ _ _ (fun s => by repeat' (first | (simp; done) | split))
      | exact State.command_boot _ _ _ _ _ (fun s => by repeat' (first | (simp; done) | split))
      | exact State.command_avail _ _ _ _ _ (fun s => by repeat' (first | (simp; done) | split))
      | exact State.command_sec _ _ _ _ _ (fun s => by repeat' (first | (simp; done) | split))
      | exact State.command_ms _ _ _ _ _ (fun s => by repeat' (first | (simp; done) | split))
      | exact State.command_prot _ _ _ _ _ (fun s => by repeat' (first | (simp; done) | split))
      | exact State.command_dram _ _ _ _ _ (fun s => by repeat' (first | (simp; done) | split))
      | exact State.command_flash _ _ _ _ _ (fun s => by repeat' (first | (simp; done) | split))
      | exact State.command_eng _ _ _ _ _ (fun s => by repeat' (first | (simp; done) | split))
      | exact State.command_pwr _ _ _ _ _ (fun s => by repeat' (first | (simp; done) | split))
      | exact State.command_isl _ _ _ _ _ (fun s => by repeat' (first | (simp; done) | split)) | split
      | refine (foldl_keeps _ _ _ _ (fun _ _ => ?_)).trans ?_)

theorem execKeyInstall_frame (c : Cmd) (s : State) : ∃ s', execKeyInstall c s = .next s' ∧
    s'.pending = s.pending ∧ s'.clock = s.clock ∧ s'.time = s.time ∧ s'.maps = s.maps ∧ s'.mem = s.mem ∧ s'.coh = s.coh ∧
    s'.boot = s.boot ∧ s'.avail = s.avail ∧ s'.sec = s.sec ∧ s'.ms = s.ms ∧ s'.prot = s.prot ∧ s'.dram = s.dram ∧ s'.flash = s.flash ∧
    s'.eng = s.eng ∧ s'.pwr = s.pwr ∧ s'.isl = s.isl := by
  refine ⟨_, rfl, ?_⟩
  simp

theorem execKeyZeroise_frame (c : Cmd) (s : State) : ∃ s', execKeyZeroise c s = .next s' ∧
    s'.pending = s.pending ∧ s'.clock = s.clock ∧ s'.mem = s.mem ∧ s'.boot = s.boot ∧ s'.avail = s.avail ∧ s'.prot = s.prot ∧
    s'.dram = s.dram ∧ s'.pwr = s.pwr ∧ s'.isl = s.isl := by
  refine ⟨_, rfl, ?_⟩
  simp

theorem execSpdmRelay_frame (c : Cmd) (s : State) : ∃ s', execSpdmRelay c s = .next s' ∧
    s'.pending = s.pending ∧ s'.clock = s.clock ∧ s'.time = s.time ∧ s'.maps = s.maps ∧ s'.mem = s.mem ∧ s'.coh = s.coh ∧
    s'.boot = s.boot ∧ s'.avail = s.avail ∧ s'.sec = s.sec ∧ s'.ms = s.ms ∧ s'.prot = s.prot ∧ s'.dram = s.dram ∧ s'.flash = s.flash ∧
    s'.eng = s.eng ∧ s'.pwr = s.pwr ∧ s'.isl = s.isl := by
  refine ⟨_, rfl, ?_⟩
  simp

theorem execModelLoad_frame (c : Cmd) (s : State) : ∃ s', execModelLoad c s = .next s' ∧
    s'.pending = s.pending ∧ s'.clock = s.clock ∧ s'.time = s.time ∧ s'.mem = s.mem ∧ s'.coh = s.coh ∧ s'.boot = s.boot ∧
    s'.avail = s.avail ∧ s'.sec = s.sec ∧ s'.ms = s.ms ∧ s'.prot = s.prot ∧ s'.dram = s.dram ∧ s'.flash = s.flash ∧ s'.eng = s.eng ∧
    s'.pwr = s.pwr ∧ s'.isl = s.isl := by
  refine ⟨_, rfl, ?_⟩
  dsimp only
  (repeat' apply And.intro) <;> repeat' (first
      | (simp; done) | exact State.command_pending _ _ _ _ _ (fun s => by repeat' (first | (simp; done) | split))
      | exact State.command_clock _ _ _ _ _ (fun s => by repeat' (first | (simp; done) | split))
      | exact State.command_time _ _ _ _ _ (fun s => by repeat' (first | (simp; done) | split))
      | exact State.command_maps _ _ _ _ _ (fun s => by repeat' (first | (simp; done) | split))
      | exact State.command_mem _ _ _ _ _ (fun s => by repeat' (first | (simp; done) | split))
      | exact State.command_coh _ _ _ _ _ (fun s => by repeat' (first | (simp; done) | split))
      | exact State.command_boot _ _ _ _ _ (fun s => by repeat' (first | (simp; done) | split))
      | exact State.command_avail _ _ _ _ _ (fun s => by repeat' (first | (simp; done) | split))
      | exact State.command_sec _ _ _ _ _ (fun s => by repeat' (first | (simp; done) | split))
      | exact State.command_ms _ _ _ _ _ (fun s => by repeat' (first | (simp; done) | split))
      | exact State.command_prot _ _ _ _ _ (fun s => by repeat' (first | (simp; done) | split))
      | exact State.command_dram _ _ _ _ _ (fun s => by repeat' (first | (simp; done) | split))
      | exact State.command_flash _ _ _ _ _ (fun s => by repeat' (first | (simp; done) | split))
      | exact State.command_eng _ _ _ _ _ (fun s => by repeat' (first | (simp; done) | split))
      | exact State.command_pwr _ _ _ _ _ (fun s => by repeat' (first | (simp; done) | split))
      | exact State.command_isl _ _ _ _ _ (fun s => by repeat' (first | (simp; done) | split)) | split
      | refine (foldl_keeps _ _ _ _ (fun _ _ => ?_)).trans ?_)

theorem execLinkKeyStage_frame (c : Cmd) (s : State) : ∃ s', execLinkKeyStage c s = .next s' ∧
    s'.pending = s.pending ∧ s'.clock = s.clock ∧ s'.time = s.time ∧ s'.maps = s.maps ∧ s'.mem = s.mem ∧ s'.coh = s.coh ∧
    s'.boot = s.boot ∧ s'.avail = s.avail ∧ s'.sec = s.sec ∧ s'.ms = s.ms ∧ s'.prot = s.prot ∧ s'.dram = s.dram ∧ s'.flash = s.flash ∧
    s'.eng = s.eng ∧ s'.pwr = s.pwr ∧ s'.isl = s.isl := by
  refine ⟨_, rfl, ?_⟩
  simp

theorem execBounceSet_frame (c : Cmd) (s : State) : ∃ s', execBounceSet c s = .next s' ∧
    s'.pending = s.pending ∧ s'.clock = s.clock ∧ s'.time = s.time ∧ s'.maps = s.maps ∧ s'.mem = s.mem ∧ s'.coh = s.coh ∧
    s'.boot = s.boot ∧ s'.avail = s.avail ∧ s'.ms = s.ms ∧ s'.prot = s.prot ∧ s'.dram = s.dram ∧ s'.flash = s.flash ∧ s'.eng = s.eng ∧
    s'.pwr = s.pwr ∧ s'.isl = s.isl := by
  refine ⟨_, rfl, ?_⟩
  simp

theorem execSurvey_frame (c : Cmd) (s : State) : ∃ s', execSurvey c s = .next s' ∧
    s'.pending = s.pending ∧ s'.clock = s.clock ∧ s'.time = s.time ∧ s'.maps = s.maps ∧ s'.mem = s.mem ∧ s'.coh = s.coh ∧
    s'.boot = s.boot ∧ s'.avail = s.avail ∧ s'.sec = s.sec ∧ s'.ms = s.ms ∧ s'.prot = s.prot ∧ s'.dram = s.dram ∧ s'.flash = s.flash ∧
    s'.eng = s.eng ∧ s'.pwr = s.pwr ∧ s'.isl = s.isl := by
  refine ⟨_, rfl, ?_⟩
  simp

theorem execNop_frame (c : Cmd) (s : State) : ∃ s', execNop c s = .next s' ∧
    s'.pending = s.pending ∧ s'.clock = s.clock ∧ s'.time = s.time ∧ s'.maps = s.maps ∧ s'.mem = s.mem ∧ s'.coh = s.coh ∧
    s'.boot = s.boot ∧ s'.avail = s.avail ∧ s'.sec = s.sec ∧ s'.ms = s.ms ∧ s'.prot = s.prot ∧ s'.dram = s.dram ∧ s'.flash = s.flash ∧
    s'.eng = s.eng ∧ s'.pwr = s.pwr ∧ s'.isl = s.isl := by
  refine ⟨_, rfl, ?_⟩
  simp

theorem execReadShared_frame (port : JPort) (r : Req) (s : State) : ∃ s', execReadShared port r s = .next s' ∧
    s'.pending = s.pending ∧ s'.clock = s.clock ∧ s'.time = s.time ∧ s'.boot = s.boot ∧ s'.avail = s.avail ∧ s'.sec = s.sec ∧
    s'.cr = s.cr ∧ s'.eng = s.eng ∧ s'.pwr = s.pwr ∧ s'.isl = s.isl := by
  refine ⟨_, rfl, ?_⟩
  simp

theorem execReadOwn_frame (port : JPort) (r : Req) (s : State) : ∃ s', execReadOwn port r s = .next s' ∧
    s'.pending = s.pending ∧ s'.clock = s.clock ∧ s'.time = s.time ∧ s'.boot = s.boot ∧ s'.avail = s.avail ∧ s'.sec = s.sec ∧
    s'.cr = s.cr ∧ s'.eng = s.eng ∧ s'.pwr = s.pwr ∧ s'.isl = s.isl := by
  refine ⟨_, rfl, ?_⟩
  simp

theorem execReadOnce_frame (port : JPort) (r : Req) (s : State) : ∃ s', execReadOnce port r s = .next s' ∧
    s'.pending = s.pending ∧ s'.clock = s.clock ∧ s'.time = s.time ∧ s'.boot = s.boot ∧ s'.avail = s.avail ∧ s'.sec = s.sec ∧
    s'.cr = s.cr ∧ s'.eng = s.eng ∧ s'.pwr = s.pwr ∧ s'.isl = s.isl := by
  refine ⟨_, rfl, ?_⟩
  simp

theorem execReadGather_frame (port : JPort) (r : Req) (s : State) : ∃ s', execReadGather port r s = .next s' ∧
    s'.pending = s.pending ∧ s'.clock = s.clock ∧ s'.time = s.time ∧ s'.boot = s.boot ∧ s'.avail = s.avail ∧ s'.sec = s.sec ∧
    s'.cr = s.cr ∧ s'.eng = s.eng ∧ s'.pwr = s.pwr ∧ s'.isl = s.isl := by
  refine ⟨_, rfl, ?_⟩
  dsimp only
  repeat' (first | (simp; done) | split)

theorem execWriteLine_frame (port : JPort) (r : Req) (s : State) : ∃ s', execWriteLine port r s = .next s' ∧
    s'.pending = s.pending ∧ s'.clock = s.clock ∧ s'.time = s.time ∧ s'.boot = s.boot ∧ s'.avail = s.avail ∧ s'.sec = s.sec ∧
    s'.cr = s.cr ∧ s'.eng = s.eng ∧ s'.pwr = s.pwr ∧ s'.isl = s.isl := by
  refine ⟨_, rfl, ?_⟩
  simp

theorem execWriteBack_frame (port : JPort) (r : Req) (s : State) : ∃ s', execWriteBack port r s = .next s' ∧
    s'.pending = s.pending ∧ s'.clock = s.clock ∧ s'.time = s.time ∧ s'.boot = s.boot ∧ s'.avail = s.avail ∧ s'.sec = s.sec ∧
    s'.cr = s.cr ∧ s'.eng = s.eng ∧ s'.pwr = s.pwr ∧ s'.isl = s.isl := by
  refine ⟨_, rfl, ?_⟩
  simp

theorem execWritebackTrackerGrant_frame (share : Share) (s : State) : ∃ s', execWritebackTrackerGrant share s = .next s' ∧
    s'.pending = s.pending ∧ s'.clock = s.clock ∧ s'.time = s.time ∧ s'.boot = s.boot ∧ s'.avail = s.avail ∧ s'.sec = s.sec ∧
    s'.cr = s.cr ∧ s'.eng = s.eng ∧ s'.pwr = s.pwr ∧ s'.isl = s.isl := by
  refine ⟨_, rfl, ?_⟩
  repeat' (first | (simp; done) | split)

theorem execAtomicAdd_frame (port : JPort) (r : Req) (s : State) : ∃ s', execAtomicAdd port r s = .next s' ∧
    s'.pending = s.pending ∧ s'.clock = s.clock ∧ s'.time = s.time ∧ s'.boot = s.boot ∧ s'.avail = s.avail ∧ s'.sec = s.sec ∧
    s'.cr = s.cr ∧ s'.eng = s.eng ∧ s'.pwr = s.pwr ∧ s'.isl = s.isl := by
  refine ⟨_, rfl, ?_⟩
  simp

theorem execAtomicAnd_frame (port : JPort) (r : Req) (s : State) : ∃ s', execAtomicAnd port r s = .next s' ∧
    s'.pending = s.pending ∧ s'.clock = s.clock ∧ s'.time = s.time ∧ s'.boot = s.boot ∧ s'.avail = s.avail ∧ s'.sec = s.sec ∧
    s'.cr = s.cr ∧ s'.eng = s.eng ∧ s'.pwr = s.pwr ∧ s'.isl = s.isl := by
  refine ⟨_, rfl, ?_⟩
  simp

theorem execAtomicOr_frame (port : JPort) (r : Req) (s : State) : ∃ s', execAtomicOr port r s = .next s' ∧
    s'.pending = s.pending ∧ s'.clock = s.clock ∧ s'.time = s.time ∧ s'.boot = s.boot ∧ s'.avail = s.avail ∧ s'.sec = s.sec ∧
    s'.cr = s.cr ∧ s'.eng = s.eng ∧ s'.pwr = s.pwr ∧ s'.isl = s.isl := by
  refine ⟨_, rfl, ?_⟩
  simp

theorem execAtomicXor_frame (port : JPort) (r : Req) (s : State) : ∃ s', execAtomicXor port r s = .next s' ∧
    s'.pending = s.pending ∧ s'.clock = s.clock ∧ s'.time = s.time ∧ s'.boot = s.boot ∧ s'.avail = s.avail ∧ s'.sec = s.sec ∧
    s'.cr = s.cr ∧ s'.eng = s.eng ∧ s'.pwr = s.pwr ∧ s'.isl = s.isl := by
  refine ⟨_, rfl, ?_⟩
  simp

theorem execAtomicSmax_frame (port : JPort) (r : Req) (s : State) : ∃ s', execAtomicSmax port r s = .next s' ∧
    s'.pending = s.pending ∧ s'.clock = s.clock ∧ s'.time = s.time ∧ s'.boot = s.boot ∧ s'.avail = s.avail ∧ s'.sec = s.sec ∧
    s'.cr = s.cr ∧ s'.eng = s.eng ∧ s'.pwr = s.pwr ∧ s'.isl = s.isl := by
  refine ⟨_, rfl, ?_⟩
  simp

theorem execAtomicSmin_frame (port : JPort) (r : Req) (s : State) : ∃ s', execAtomicSmin port r s = .next s' ∧
    s'.pending = s.pending ∧ s'.clock = s.clock ∧ s'.time = s.time ∧ s'.boot = s.boot ∧ s'.avail = s.avail ∧ s'.sec = s.sec ∧
    s'.cr = s.cr ∧ s'.eng = s.eng ∧ s'.pwr = s.pwr ∧ s'.isl = s.isl := by
  refine ⟨_, rfl, ?_⟩
  simp

theorem execAtomicUmax_frame (port : JPort) (r : Req) (s : State) : ∃ s', execAtomicUmax port r s = .next s' ∧
    s'.pending = s.pending ∧ s'.clock = s.clock ∧ s'.time = s.time ∧ s'.boot = s.boot ∧ s'.avail = s.avail ∧ s'.sec = s.sec ∧
    s'.cr = s.cr ∧ s'.eng = s.eng ∧ s'.pwr = s.pwr ∧ s'.isl = s.isl := by
  refine ⟨_, rfl, ?_⟩
  simp

theorem execAtomicUmin_frame (port : JPort) (r : Req) (s : State) : ∃ s', execAtomicUmin port r s = .next s' ∧
    s'.pending = s.pending ∧ s'.clock = s.clock ∧ s'.time = s.time ∧ s'.boot = s.boot ∧ s'.avail = s.avail ∧ s'.sec = s.sec ∧
    s'.cr = s.cr ∧ s'.eng = s.eng ∧ s'.pwr = s.pwr ∧ s'.isl = s.isl := by
  refine ⟨_, rfl, ?_⟩
  simp

theorem execAtomicSwap_frame (port : JPort) (r : Req) (s : State) : ∃ s', execAtomicSwap port r s = .next s' ∧
    s'.pending = s.pending ∧ s'.clock = s.clock ∧ s'.time = s.time ∧ s'.boot = s.boot ∧ s'.avail = s.avail ∧ s'.sec = s.sec ∧
    s'.cr = s.cr ∧ s'.eng = s.eng ∧ s'.pwr = s.pwr ∧ s'.isl = s.isl := by
  refine ⟨_, rfl, ?_⟩
  simp

theorem execAtomicCas_frame (port : JPort) (r : Req) (s : State) : ∃ s', execAtomicCas port r s = .next s' ∧
    s'.pending = s.pending ∧ s'.clock = s.clock ∧ s'.time = s.time ∧ s'.boot = s.boot ∧ s'.avail = s.avail ∧ s'.sec = s.sec ∧
    s'.cr = s.cr ∧ s'.eng = s.eng ∧ s'.pwr = s.pwr ∧ s'.isl = s.isl := by
  refine ⟨_, rfl, ?_⟩
  simp

theorem execAtomicAnyNear_frame (port : JPort) (atop : Nat) (r : Req) (s : State) : ∃ s', execAtomicAnyNear port atop r s = .next s' ∧
    s'.pending = s.pending ∧ s'.clock = s.clock ∧ s'.time = s.time ∧ s'.boot = s.boot ∧ s'.avail = s.avail ∧ s'.sec = s.sec ∧
    s'.eng = s.eng ∧ s'.pwr = s.pwr ∧ s'.isl = s.isl := by
  refine ⟨_, rfl, ?_⟩
  simp

theorem execCrRead_frame (port : JPort) (x1 : Bool) (r : Req) (s : State) : ∃ s', execCrRead port x1 r s = .next s' ∧
    s'.pending = s.pending ∧ s'.clock = s.clock ∧ s'.time = s.time ∧ s'.maps = s.maps ∧ s'.mem = s.mem ∧ s'.boot = s.boot ∧
    s'.avail = s.avail ∧ s'.sec = s.sec ∧ s'.ms = s.ms ∧ s'.prot = s.prot ∧ s'.dram = s.dram ∧ s'.flash = s.flash ∧ s'.eng = s.eng ∧
    s'.pwr = s.pwr ∧ s'.isl = s.isl := by
  refine ⟨_, rfl, ?_⟩
  simp

theorem execSemRelease_frame (port : JPort) (x1 : Bool) (r : Req) (s : State) : ∃ s', execSemRelease port x1 r s = .next s' ∧
    s'.pending = s.pending ∧ s'.clock = s.clock ∧ s'.time = s.time ∧ s'.maps = s.maps ∧ s'.mem = s.mem ∧ s'.boot = s.boot ∧
    s'.avail = s.avail ∧ s'.sec = s.sec ∧ s'.ms = s.ms ∧ s'.prot = s.prot ∧ s'.dram = s.dram ∧ s'.flash = s.flash ∧ s'.eng = s.eng ∧
    s'.pwr = s.pwr ∧ s'.isl = s.isl := by
  refine ⟨_, rfl, ?_⟩
  simp

theorem execSemAcquire_frame (port : JPort) (x1 : Bool) (r : Req) (s : State) : ∃ s', execSemAcquire port x1 r s = .next s' ∧
    s'.pending = s.pending ∧ s'.clock = s.clock ∧ s'.time = s.time ∧ s'.maps = s.maps ∧ s'.mem = s.mem ∧ s'.boot = s.boot ∧
    s'.avail = s.avail ∧ s'.sec = s.sec ∧ s'.ms = s.ms ∧ s'.prot = s.prot ∧ s'.dram = s.dram ∧ s'.flash = s.flash ∧ s'.eng = s.eng ∧
    s'.pwr = s.pwr ∧ s'.isl = s.isl := by
  refine ⟨_, rfl, ?_⟩
  simp

theorem execSemWait_frame (port : JPort) (x1 : Bool) (r : Req) (s : State) : ∃ s', execSemWait port x1 r s = .next s' ∧
    s'.pending = s.pending ∧ s'.clock = s.clock ∧ s'.time = s.time ∧ s'.maps = s.maps ∧ s'.mem = s.mem ∧ s'.boot = s.boot ∧
    s'.avail = s.avail ∧ s'.sec = s.sec ∧ s'.ms = s.ms ∧ s'.prot = s.prot ∧ s'.dram = s.dram ∧ s'.flash = s.flash ∧ s'.eng = s.eng ∧
    s'.pwr = s.pwr ∧ s'.isl = s.isl := by
  refine ⟨_, rfl, ?_⟩
  simp

theorem execJctArrive_frame (port : JPort) (x1 : Bool) (r : Req) (s : State) : ∃ s', execJctArrive port x1 r s = .next s' ∧
    s'.pending = s.pending ∧ s'.clock = s.clock ∧ s'.time = s.time ∧ s'.maps = s.maps ∧ s'.mem = s.mem ∧ s'.boot = s.boot ∧
    s'.avail = s.avail ∧ s'.sec = s.sec ∧ s'.ms = s.ms ∧ s'.prot = s.prot ∧ s'.dram = s.dram ∧ s'.flash = s.flash ∧ s'.eng = s.eng ∧
    s'.pwr = s.pwr ∧ s'.isl = s.isl := by
  refine ⟨_, rfl, ?_⟩
  simp

theorem execJctWait_frame (port : JPort) (x1 : Bool) (r : Req) (s : State) : ∃ s', execJctWait port x1 r s = .next s' ∧
    s'.pending = s.pending ∧ s'.clock = s.clock ∧ s'.time = s.time ∧ s'.maps = s.maps ∧ s'.mem = s.mem ∧ s'.boot = s.boot ∧
    s'.avail = s.avail ∧ s'.sec = s.sec ∧ s'.ms = s.ms ∧ s'.prot = s.prot ∧ s'.dram = s.dram ∧ s'.flash = s.flash ∧ s'.eng = s.eng ∧
    s'.pwr = s.pwr ∧ s'.isl = s.isl := by
  refine ⟨_, rfl, ?_⟩
  simp

theorem execFlagSet_frame (port : JPort) (x1 : Bool) (r : Req) (s : State) : ∃ s', execFlagSet port x1 r s = .next s' ∧
    s'.pending = s.pending ∧ s'.clock = s.clock ∧ s'.time = s.time ∧ s'.maps = s.maps ∧ s'.mem = s.mem ∧ s'.boot = s.boot ∧
    s'.avail = s.avail ∧ s'.sec = s.sec ∧ s'.ms = s.ms ∧ s'.prot = s.prot ∧ s'.dram = s.dram ∧ s'.flash = s.flash ∧ s'.eng = s.eng ∧
    s'.pwr = s.pwr ∧ s'.isl = s.isl := by
  refine ⟨_, rfl, ?_⟩
  simp

theorem execFlagOr_frame (port : JPort) (x1 : Bool) (r : Req) (s : State) : ∃ s', execFlagOr port x1 r s = .next s' ∧
    s'.pending = s.pending ∧ s'.clock = s.clock ∧ s'.time = s.time ∧ s'.maps = s.maps ∧ s'.mem = s.mem ∧ s'.boot = s.boot ∧
    s'.avail = s.avail ∧ s'.sec = s.sec ∧ s'.ms = s.ms ∧ s'.prot = s.prot ∧ s'.dram = s.dram ∧ s'.flash = s.flash ∧ s'.eng = s.eng ∧
    s'.pwr = s.pwr ∧ s'.isl = s.isl := by
  refine ⟨_, rfl, ?_⟩
  simp

theorem execFlagClear_frame (port : JPort) (x1 : Bool) (r : Req) (s : State) : ∃ s', execFlagClear port x1 r s = .next s' ∧
    s'.pending = s.pending ∧ s'.clock = s.clock ∧ s'.time = s.time ∧ s'.maps = s.maps ∧ s'.mem = s.mem ∧ s'.boot = s.boot ∧
    s'.avail = s.avail ∧ s'.sec = s.sec ∧ s'.ms = s.ms ∧ s'.prot = s.prot ∧ s'.dram = s.dram ∧ s'.flash = s.flash ∧ s'.eng = s.eng ∧
    s'.pwr = s.pwr ∧ s'.isl = s.isl := by
  refine ⟨_, rfl, ?_⟩
  simp

theorem execFlagWait_frame (port : JPort) (x1 : Bool) (r : Req) (s : State) : ∃ s', execFlagWait port x1 r s = .next s' ∧
    s'.pending = s.pending ∧ s'.clock = s.clock ∧ s'.time = s.time ∧ s'.maps = s.maps ∧ s'.mem = s.mem ∧ s'.boot = s.boot ∧
    s'.avail = s.avail ∧ s'.sec = s.sec ∧ s'.ms = s.ms ∧ s'.prot = s.prot ∧ s'.dram = s.dram ∧ s'.flash = s.flash ∧ s'.eng = s.eng ∧
    s'.pwr = s.pwr ∧ s'.isl = s.isl := by
  refine ⟨_, rfl, ?_⟩
  simp

theorem execTktTake_frame (port : JPort) (x1 : Bool) (r : Req) (s : State) : ∃ s', execTktTake port x1 r s = .next s' ∧
    s'.pending = s.pending ∧ s'.clock = s.clock ∧ s'.time = s.time ∧ s'.maps = s.maps ∧ s'.mem = s.mem ∧ s'.boot = s.boot ∧
    s'.avail = s.avail ∧ s'.sec = s.sec ∧ s'.ms = s.ms ∧ s'.prot = s.prot ∧ s'.dram = s.dram ∧ s'.flash = s.flash ∧ s'.eng = s.eng ∧
    s'.pwr = s.pwr ∧ s'.isl = s.isl := by
  refine ⟨_, rfl, ?_⟩
  simp

theorem execTktRelease_frame (port : JPort) (x1 : Bool) (r : Req) (s : State) : ∃ s', execTktRelease port x1 r s = .next s' ∧
    s'.pending = s.pending ∧ s'.clock = s.clock ∧ s'.time = s.time ∧ s'.maps = s.maps ∧ s'.mem = s.mem ∧ s'.boot = s.boot ∧
    s'.avail = s.avail ∧ s'.sec = s.sec ∧ s'.ms = s.ms ∧ s'.prot = s.prot ∧ s'.dram = s.dram ∧ s'.flash = s.flash ∧ s'.eng = s.eng ∧
    s'.pwr = s.pwr ∧ s'.isl = s.isl := by
  refine ⟨_, rfl, ?_⟩
  simp

theorem execTktWait_frame (port : JPort) (x1 : Bool) (r : Req) (s : State) : ∃ s', execTktWait port x1 r s = .next s' ∧
    s'.pending = s.pending ∧ s'.clock = s.clock ∧ s'.time = s.time ∧ s'.maps = s.maps ∧ s'.mem = s.mem ∧ s'.boot = s.boot ∧
    s'.avail = s.avail ∧ s'.sec = s.sec ∧ s'.ms = s.ms ∧ s'.prot = s.prot ∧ s'.dram = s.dram ∧ s'.flash = s.flash ∧ s'.eng = s.eng ∧
    s'.pwr = s.pwr ∧ s'.isl = s.isl := by
  refine ⟨_, rfl, ?_⟩
  simp

theorem execCrUnwait_frame (port : JPort) (x1 : Bool) (r : Req) (s : State) : ∃ s', execCrUnwait port x1 r s = .next s' ∧
    s'.pending = s.pending ∧ s'.clock = s.clock ∧ s'.time = s.time ∧ s'.maps = s.maps ∧ s'.mem = s.mem ∧ s'.boot = s.boot ∧
    s'.avail = s.avail ∧ s'.sec = s.sec ∧ s'.ms = s.ms ∧ s'.prot = s.prot ∧ s'.dram = s.dram ∧ s'.flash = s.flash ∧ s'.eng = s.eng ∧
    s'.pwr = s.pwr ∧ s'.isl = s.isl := by
  refine ⟨_, rfl, ?_⟩
  simp

theorem execRegistrationExpired_frame (crossing : Nat) (node : Nat) (cookie : Nat) (s : State) :
    ∃ s', execRegistrationExpired crossing node cookie s = .next s' ∧
    s'.pending = s.pending ∧ s'.free = s.free ∧ s'.maps = s.maps ∧ s'.mem = s.mem ∧ s'.coh = s.coh ∧ s'.boot = s.boot ∧
    s'.avail = s.avail ∧ s'.sec = s.sec ∧ s'.ms = s.ms ∧ s'.prot = s.prot ∧ s'.dram = s.dram ∧ s'.flash = s.flash ∧ s'.eng = s.eng ∧
    s'.pwr = s.pwr ∧ s'.isl = s.isl := by
  refine ⟨_, rfl, ?_⟩
  dsimp only
  repeat' (first | (simp; done) | split)

theorem execRecallAck_frame (port : JPort) (m : Rsp) (s : State) : ∃ s', execRecallAck port m s = .next s' ∧
    s'.pending = s.pending ∧ s'.clock = s.clock ∧ s'.time = s.time ∧ s'.boot = s.boot ∧ s'.avail = s.avail ∧ s'.sec = s.sec ∧
    s'.cr = s.cr ∧ s'.flash = s.flash ∧ s'.eng = s.eng ∧ s'.pwr = s.pwr ∧ s'.isl = s.isl := by
  refine ⟨_, rfl, ?_⟩
  dsimp only
  repeat' (first | (simp; done) | split)

theorem execRecallData_frame (port : JPort) (m : Rsp) (s : State) : ∃ s', execRecallData port m s = .next s' ∧
    s'.pending = s.pending ∧ s'.clock = s.clock ∧ s'.time = s.time ∧ s'.boot = s.boot ∧ s'.avail = s.avail ∧ s'.sec = s.sec ∧
    s'.cr = s.cr ∧ s'.flash = s.flash ∧ s'.eng = s.eng ∧ s'.pwr = s.pwr ∧ s'.isl = s.isl := by
  refine ⟨_, rfl, ?_⟩
  dsimp only
  repeat' (first | (simp; done) | split)

theorem execRecallTimeout_frame (line : Nat) (node : Nat) (s : State) : ∃ s', execRecallTimeout line node s = .next s' ∧
    s'.pending = s.pending ∧ s'.clock = s.clock ∧ s'.time = s.time ∧ s'.boot = s.boot ∧ s'.avail = s.avail ∧ s'.sec = s.sec ∧
    s'.flash = s.flash ∧ s'.eng = s.eng ∧ s'.pwr = s.pwr ∧ s'.isl = s.isl := by
  refine ⟨_, rfl, ?_⟩
  repeat' (first | (simp; done) | split)

theorem execRecallallTimeout_frame (share : Share) (district : Nat) (node : Nat) (s : State) :
    ∃ s', execRecallallTimeout share district node s = .next s' ∧
    s'.pending = s.pending ∧ s'.free = s.free ∧ s'.clock = s.clock ∧ s'.regs = s.regs ∧ s'.time = s.time ∧ s'.maps = s.maps ∧
    s'.mem = s.mem ∧ s'.boot = s.boot ∧ s'.avail = s.avail ∧ s'.sec = s.sec ∧ s'.net = s.net ∧ s'.ms = s.ms ∧ s'.prot = s.prot ∧
    s'.dram = s.dram ∧ s'.flash = s.flash ∧ s'.eng = s.eng ∧ s'.pwr = s.pwr ∧ s'.isl = s.isl := by
  refine ⟨_, rfl, ?_⟩
  simp

theorem execWbwTimeout_frame (line : Nat) (node : Nat) (s : State) : ∃ s', execWbwTimeout line node s = .next s' ∧
    s'.pending = s.pending ∧ s'.clock = s.clock ∧ s'.time = s.time ∧ s'.boot = s.boot ∧ s'.avail = s.avail ∧ s'.sec = s.sec ∧
    s'.flash = s.flash ∧ s'.eng = s.eng ∧ s'.pwr = s.pwr ∧ s'.isl = s.isl := by
  refine ⟨_, rfl, ?_⟩
  repeat' (first | (simp; done) | split)

theorem execEarlyDecision_frame (port : JPort) (src : Nat) (tag : Nat) (dataError : Bool) (s : State) :
    ∃ s', execEarlyDecision port src tag dataError s = .next s' ∧
    s'.pending = s.pending ∧ s'.clock = s.clock ∧ s'.time = s.time ∧ s'.boot = s.boot ∧ s'.avail = s.avail ∧ s'.sec = s.sec ∧
    s'.cr = s.cr ∧ s'.eng = s.eng ∧ s'.pwr = s.pwr ∧ s'.isl = s.isl := by
  refine ⟨_, rfl, ?_⟩
  dsimp only
  repeat' (first | (simp; done) | split)

theorem execEarlyDeadline_frame (port : JPort) (src : Nat) (tag : Nat) (s : State) : ∃ s', execEarlyDeadline port src tag s = .next s' ∧
    s'.pending = s.pending ∧ s'.clock = s.clock ∧ s'.time = s.time ∧ s'.boot = s.boot ∧ s'.avail = s.avail ∧ s'.sec = s.sec ∧
    s'.cr = s.cr ∧ s'.eng = s.eng ∧ s'.pwr = s.pwr ∧ s'.isl = s.isl := by
  refine ⟨_, rfl, ?_⟩
  repeat' (first | (simp; done) | split)

theorem execMirrorConfirm_frame (line : Nat) (s : State) : ∃ s', execMirrorConfirm line s = .next s' ∧
    s'.pending = s.pending ∧ s'.clock = s.clock ∧ s'.time = s.time ∧ s'.maps = s.maps ∧ s'.boot = s.boot ∧ s'.avail = s.avail ∧
    s'.sec = s.sec ∧ s'.ms = s.ms ∧ s'.prot = s.prot ∧ s'.dram = s.dram ∧ s'.flash = s.flash ∧ s'.eng = s.eng ∧ s'.pwr = s.pwr ∧
    s'.isl = s.isl := by
  refine ⟨_, rfl, ?_⟩
  simp

theorem execSnoopLapDone_frame (line : Nat) (s : State) : ∃ s', execSnoopLapDone line s = .next s' ∧
    s'.pending = s.pending ∧ s'.free = s.free ∧ s'.clock = s.clock ∧ s'.time = s.time ∧ s'.maps = s.maps ∧ s'.boot = s.boot ∧
    s'.avail = s.avail ∧ s'.sec = s.sec ∧ s'.ms = s.ms ∧ s'.cr = s.cr ∧ s'.prot = s.prot ∧ s'.dram = s.dram ∧ s'.flash = s.flash ∧
    s'.eng = s.eng ∧ s'.pwr = s.pwr ∧ s'.isl = s.isl := by
  refine ⟨_, rfl, ?_⟩
  simp

theorem execPredictorDecay_frame (share : Share) (s : State) : ∃ s', execPredictorDecay share s = .next s' ∧
    s'.pending = s.pending ∧ s'.free = s.free ∧ s'.clock = s.clock ∧ s'.out = s.out ∧ s'.regs = s.regs ∧ s'.host = s.host ∧
    s'.time = s.time ∧ s'.maps = s.maps ∧ s'.mem = s.mem ∧ s'.boot = s.boot ∧ s'.avail = s.avail ∧ s'.sec = s.sec ∧ s'.net = s.net ∧
    s'.ms = s.ms ∧ s'.cr = s.cr ∧ s'.prot = s.prot ∧ s'.dram = s.dram ∧ s'.flash = s.flash ∧ s'.eng = s.eng ∧ s'.pwr = s.pwr ∧
    s'.isl = s.isl := by
  refine ⟨_, rfl, ?_⟩
  simp

theorem execUnexpectedMessage_frame (port : JPort) (byte0 : Nat) (src : Nat) (cells : Nat) (vc : Nat) (s : State) :
    ∃ s', execUnexpectedMessage port byte0 src cells vc s = .next s' ∧
    s'.pending = s.pending ∧ s'.free = s.free ∧ s'.clock = s.clock ∧ s'.time = s.time ∧ s'.maps = s.maps ∧ s'.mem = s.mem ∧
    s'.coh = s.coh ∧ s'.boot = s.boot ∧ s'.avail = s.avail ∧ s'.sec = s.sec ∧ s'.ms = s.ms ∧ s'.cr = s.cr ∧ s'.prot = s.prot ∧
    s'.dram = s.dram ∧ s'.flash = s.flash ∧ s'.eng = s.eng ∧ s'.pwr = s.pwr ∧ s'.isl = s.isl := by
  refine ⟨_, rfl, ?_⟩
  simp

theorem execMessageForward_frame (port : JPort) (m : Msg) (s : State) : ∃ s', execMessageForward port m s = .next s' ∧
    s'.pending = s.pending ∧ s'.free = s.free ∧ s'.clock = s.clock ∧ s'.time = s.time ∧ s'.maps = s.maps ∧ s'.mem = s.mem ∧
    s'.coh = s.coh ∧ s'.boot = s.boot ∧ s'.avail = s.avail ∧ s'.sec = s.sec ∧ s'.ms = s.ms ∧ s'.cr = s.cr ∧ s'.prot = s.prot ∧
    s'.dram = s.dram ∧ s'.flash = s.flash ∧ s'.eng = s.eng ∧ s'.pwr = s.pwr ∧ s'.isl = s.isl := by
  refine ⟨_, rfl, ?_⟩
  simp

theorem execRequestHeldTimeout_frame (port : JPort) (src : Nat) (tag : Nat) (s : State) :
    ∃ s', execRequestHeldTimeout port src tag s = .next s' ∧
    s'.pending = s.pending ∧ s'.maps = s.maps ∧ s'.mem = s.mem ∧ s'.boot = s.boot ∧ s'.avail = s.avail ∧ s'.sec = s.sec ∧
    s'.prot = s.prot ∧ s'.dram = s.dram ∧ s'.eng = s.eng ∧ s'.pwr = s.pwr ∧ s'.isl = s.isl := by
  refine ⟨_, rfl, ?_⟩
  repeat' (first | (simp; done) | split)

theorem execCowSweepDone_frame (district : Nat) (slot : Nat) (s : State) : ∃ s', execCowSweepDone district slot s = .next s' ∧
    s'.pending = s.pending ∧ s'.free = s.free ∧ s'.clock = s.clock ∧ s'.out = s.out ∧ s'.regs = s.regs ∧ s'.host = s.host ∧
    s'.time = s.time ∧ s'.mem = s.mem ∧ s'.coh = s.coh ∧ s'.boot = s.boot ∧ s'.avail = s.avail ∧ s'.sec = s.sec ∧ s'.net = s.net ∧
    s'.cr = s.cr ∧ s'.prot = s.prot ∧ s'.dram = s.dram ∧ s'.flash = s.flash ∧ s'.eng = s.eng ∧ s'.pwr = s.pwr ∧ s'.isl = s.isl := by
  refine ⟨_, rfl, ?_⟩
  repeat' (first | (simp; done) | split)

theorem execCowChunksDone_frame (district : Nat) (page : Nat) (s : State) : ∃ s', execCowChunksDone district page s = .next s' ∧
    s'.pending = s.pending ∧ s'.free = s.free ∧ s'.clock = s.clock ∧ s'.out = s.out ∧ s'.host = s.host ∧ s'.time = s.time ∧
    s'.coh = s.coh ∧ s'.boot = s.boot ∧ s'.avail = s.avail ∧ s'.sec = s.sec ∧ s'.net = s.net ∧ s'.cr = s.cr ∧ s'.prot = s.prot ∧
    s'.dram = s.dram ∧ s'.flash = s.flash ∧ s'.eng = s.eng ∧ s'.pwr = s.pwr ∧ s'.isl = s.isl := by
  refine ⟨_, rfl, ?_⟩
  repeat' (first | (simp; done) | split)

theorem execCowMapInvalidated_frame (district : Nat) (page : Nat) (s : State) : ∃ s', execCowMapInvalidated district page s = .next s' ∧
    s'.pending = s.pending ∧ s'.clock = s.clock ∧ s'.time = s.time ∧ s'.boot = s.boot ∧ s'.avail = s.avail ∧ s'.sec = s.sec ∧
    s'.cr = s.cr ∧ s'.flash = s.flash ∧ s'.eng = s.eng ∧ s'.pwr = s.pwr ∧ s'.isl = s.isl := by
  refine ⟨_, rfl, ?_⟩
  repeat' (first | (simp; done) | split)

theorem execCowCopyRestart_frame (district : Nat) (page : Nat) (s : State) : ∃ s', execCowCopyRestart district page s = .next s' ∧
    s'.pending = s.pending ∧ s'.free = s.free ∧ s'.clock = s.clock ∧ s'.out = s.out ∧ s'.regs = s.regs ∧ s'.host = s.host ∧
    s'.time = s.time ∧ s'.mem = s.mem ∧ s'.coh = s.coh ∧ s'.boot = s.boot ∧ s'.avail = s.avail ∧ s'.sec = s.sec ∧ s'.net = s.net ∧
    s'.cr = s.cr ∧ s'.prot = s.prot ∧ s'.dram = s.dram ∧ s'.flash = s.flash ∧ s'.eng = s.eng ∧ s'.pwr = s.pwr ∧ s'.isl = s.isl := by
  refine ⟨_, rfl, ?_⟩
  repeat' (first | (simp; done) | (simp [State.allocRun_frame ‹State.allocRun _ _ _ _ = some _›]; done) | split)

theorem execCopyPageReturn_frame (district : Nat) (slot : Nat) (s : State) : ∃ s', execCopyPageReturn district slot s = .next s' ∧
    s'.pending = s.pending ∧ s'.free = s.free ∧ s'.clock = s.clock ∧ s'.regs = s.regs ∧ s'.time = s.time ∧ s'.mem = s.mem ∧
    s'.coh = s.coh ∧ s'.boot = s.boot ∧ s'.avail = s.avail ∧ s'.sec = s.sec ∧ s'.net = s.net ∧ s'.cr = s.cr ∧ s'.prot = s.prot ∧
    s'.dram = s.dram ∧ s'.eng = s.eng ∧ s'.pwr = s.pwr ∧ s'.isl = s.isl := by
  refine ⟨_, rfl, ?_⟩
  simp

theorem execCopyDemote_frame (district : Nat) (s : State) : ∃ s', execCopyDemote district s = .next s' ∧
    s'.pending = s.pending ∧ s'.free = s.free ∧ s'.clock = s.clock ∧ s'.out = s.out ∧ s'.regs = s.regs ∧ s'.host = s.host ∧
    s'.time = s.time ∧ s'.mem = s.mem ∧ s'.coh = s.coh ∧ s'.boot = s.boot ∧ s'.avail = s.avail ∧ s'.sec = s.sec ∧ s'.net = s.net ∧
    s'.cr = s.cr ∧ s'.prot = s.prot ∧ s'.dram = s.dram ∧ s'.eng = s.eng ∧ s'.pwr = s.pwr ∧ s'.isl = s.isl := by
  refine ⟨_, rfl, ?_⟩
  repeat' (first | (simp; done) | split)

theorem execCopySpaceFreed_frame (district : Nat) (s : State) : ∃ s', execCopySpaceFreed district s = .next s' ∧
    s'.pending = s.pending ∧ s'.clock = s.clock ∧ s'.time = s.time ∧ s'.boot = s.boot ∧ s'.avail = s.avail ∧ s'.sec = s.sec ∧
    s'.cr = s.cr ∧ s'.flash = s.flash ∧ s'.eng = s.eng ∧ s'.pwr = s.pwr ∧ s'.isl = s.isl := by
  refine ⟨_, rfl, ?_⟩
  dsimp only
  repeat' (first | (simp; done) | split)

theorem execSchedulerPass_frame (s : State) : ∃ s', execSchedulerPass s = .next s' ∧
    s'.pending = s.pending ∧ s'.free = s.free ∧ s'.clock = s.clock ∧ s'.out = s.out ∧ s'.host = s.host ∧ s'.time = s.time ∧
    s'.maps = s.maps ∧ s'.mem = s.mem ∧ s'.coh = s.coh ∧ s'.boot = s.boot ∧ s'.avail = s.avail ∧ s'.sec = s.sec ∧ s'.net = s.net ∧
    s'.ms = s.ms ∧ s'.cr = s.cr ∧ s'.prot = s.prot ∧ s'.dram = s.dram ∧ s'.flash = s.flash ∧ s'.isl = s.isl := by
  refine ⟨_, rfl, ?_⟩
  simp

theorem execEngineWakeDone_frame (av : Avenue) (eng : Engine) (s : State) : ∃ s', execEngineWakeDone av eng s = .next s' ∧
    s'.pending = s.pending ∧ s'.free = s.free ∧ s'.clock = s.clock ∧ s'.out = s.out ∧ s'.regs = s.regs ∧ s'.host = s.host ∧
    s'.time = s.time ∧ s'.maps = s.maps ∧ s'.mem = s.mem ∧ s'.coh = s.coh ∧ s'.boot = s.boot ∧ s'.avail = s.avail ∧ s'.sec = s.sec ∧
    s'.net = s.net ∧ s'.ms = s.ms ∧ s'.cr = s.cr ∧ s'.prot = s.prot ∧ s'.dram = s.dram ∧ s'.flash = s.flash ∧ s'.pwr = s.pwr ∧
    s'.isl = s.isl := by
  refine ⟨_, rfl, ?_⟩
  dsimp only
  repeat' (first | (simp; done) | split)

theorem execActivationLoadDone_frame (job : Nat) (s : State) : ∃ s', execActivationLoadDone job s = .next s' ∧
    s'.pending = s.pending ∧ s'.clock = s.clock ∧ s'.time = s.time ∧ s'.boot = s.boot ∧ s'.avail = s.avail ∧ s'.sec = s.sec ∧
    s'.pwr = s.pwr ∧ s'.isl = s.isl := by
  refine ⟨_, rfl, ?_⟩
  dsimp only
  repeat' (first | (simp; done) | split)

theorem execEngineReadData_frame (job : Nat) (share : Share) (s : State) : ∃ s', execEngineReadData job share s = .next s' ∧
    s'.pending = s.pending ∧ s'.clock = s.clock ∧ s'.time = s.time ∧ s'.boot = s.boot ∧ s'.avail = s.avail ∧ s'.sec = s.sec ∧
    s'.pwr = s.pwr ∧ s'.isl = s.isl := by
  refine ⟨_, rfl, ?_⟩
  dsimp only
  repeat' (first | (simp; done) | split)

theorem execRowGroupDone_frame (job : Nat) (share : Share) (eng : Engine) (s : State) : ∃ s', execRowGroupDone job share eng s = .next s' ∧
    s'.pending = s.pending ∧ s'.free = s.free ∧ s'.clock = s.clock ∧ s'.out = s.out ∧ s'.host = s.host ∧ s'.time = s.time ∧
    s'.maps = s.maps ∧ s'.mem = s.mem ∧ s'.coh = s.coh ∧ s'.boot = s.boot ∧ s'.avail = s.avail ∧ s'.sec = s.sec ∧ s'.net = s.net ∧
    s'.ms = s.ms ∧ s'.cr = s.cr ∧ s'.prot = s.prot ∧ s'.dram = s.dram ∧ s'.flash = s.flash ∧ s'.pwr = s.pwr ∧ s'.isl = s.isl := by
  refine ⟨_, rfl, ?_⟩
  repeat' (first | (simp; done) | split)

theorem execPartialSumArrive_frame (job : Nat) (share : Share) (s : State) : ∃ s', execPartialSumArrive job share s = .next s' ∧
    s'.pending = s.pending ∧ s'.free = s.free ∧ s'.clock = s.clock ∧ s'.out = s.out ∧ s'.regs = s.regs ∧ s'.host = s.host ∧
    s'.time = s.time ∧ s'.maps = s.maps ∧ s'.mem = s.mem ∧ s'.coh = s.coh ∧ s'.boot = s.boot ∧ s'.avail = s.avail ∧ s'.sec = s.sec ∧
    s'.net = s.net ∧ s'.ms = s.ms ∧ s'.cr = s.cr ∧ s'.prot = s.prot ∧ s'.dram = s.dram ∧ s'.flash = s.flash ∧ s'.pwr = s.pwr ∧
    s'.isl = s.isl := by
  refine ⟨_, rfl, ?_⟩
  repeat' (first | (simp; done) | split)

theorem execJobCommitStart_frame (job : Nat) (bad : Bool) (s : State) : ∃ s', execJobCommitStart job bad s = .next s' ∧
    s'.pending = s.pending ∧ s'.clock = s.clock ∧ s'.time = s.time ∧ s'.boot = s.boot ∧ s'.avail = s.avail ∧ s'.sec = s.sec ∧
    s'.pwr = s.pwr ∧ s'.isl = s.isl := by
  refine ⟨_, rfl, ?_⟩
  repeat' (first | (simp; done) | split)

theorem execJobCommitDone_frame (job : Nat) (s : State) : ∃ s', execJobCommitDone job s = .next s' ∧
    s'.pending = s.pending ∧ s'.clock = s.clock ∧ s'.time = s.time ∧ s'.boot = s.boot ∧ s'.avail = s.avail ∧ s'.sec = s.sec ∧
    s'.pwr = s.pwr ∧ s'.isl = s.isl := by
  refine ⟨_, rfl, ?_⟩
  repeat' (first | (simp; done) | split)

theorem execEngineScrubDone_frame (av : Avenue) (eng : Engine) (s : State) : ∃ s', execEngineScrubDone av eng s = .next s' ∧
    s'.pending = s.pending ∧ s'.clock = s.clock ∧ s'.time = s.time ∧ s'.mem = s.mem ∧ s'.coh = s.coh ∧ s'.boot = s.boot ∧
    s'.avail = s.avail ∧ s'.sec = s.sec ∧ s'.ms = s.ms ∧ s'.prot = s.prot ∧ s'.dram = s.dram ∧ s'.flash = s.flash ∧ s'.pwr = s.pwr ∧
    s'.isl = s.isl := by
  refine ⟨_, rfl, ?_⟩
  dsimp only
  repeat' (first | (simp; done) | split)

theorem execEngineCheckFail_frame (av : Avenue) (eng : Engine) (s : State) : ∃ s', execEngineCheckFail av eng s = .next s' ∧
    s'.pending = s.pending ∧ s'.clock = s.clock ∧ s'.time = s.time ∧ s'.mem = s.mem ∧ s'.coh = s.coh ∧ s'.boot = s.boot ∧
    s'.avail = s.avail ∧ s'.sec = s.sec ∧ s'.ms = s.ms ∧ s'.prot = s.prot ∧ s'.dram = s.dram ∧ s'.flash = s.flash ∧ s'.pwr = s.pwr ∧
    s'.isl = s.isl := by
  refine ⟨_, rfl, ?_⟩
  simp

theorem execAgeingCheck_frame (av : Avenue) (eng : Engine) (low : Bool) (s : State) : ∃ s', execAgeingCheck av eng low s = .next s' ∧
    s'.pending = s.pending ∧ s'.free = s.free ∧ s'.clock = s.clock ∧ s'.regs = s.regs ∧ s'.time = s.time ∧ s'.maps = s.maps ∧
    s'.mem = s.mem ∧ s'.coh = s.coh ∧ s'.boot = s.boot ∧ s'.avail = s.avail ∧ s'.sec = s.sec ∧ s'.net = s.net ∧ s'.ms = s.ms ∧
    s'.cr = s.cr ∧ s'.prot = s.prot ∧ s'.dram = s.dram ∧ s'.flash = s.flash ∧ s'.pwr = s.pwr ∧ s'.isl = s.isl := by
  refine ⟨_, rfl, ?_⟩
  simp

theorem execDramTrainingDone_frame (results : List TrainResult) (s : State) : ∃ s', execDramTrainingDone results s = .next s' ∧
    s'.pending = s.pending ∧ s'.free = s.free ∧ s'.clock = s.clock ∧ s'.regs = s.regs ∧ s'.time = s.time ∧ s'.maps = s.maps ∧
    s'.mem = s.mem ∧ s'.coh = s.coh ∧ s'.avail = s.avail ∧ s'.sec = s.sec ∧ s'.net = s.net ∧ s'.ms = s.ms ∧ s'.cr = s.cr ∧
    s'.flash = s.flash ∧ s'.eng = s.eng ∧ s'.pwr = s.pwr ∧ s'.isl = s.isl := by
  refine ⟨_, rfl, ?_⟩
  dsimp only
  repeat' (first | (simp; done) | split)

theorem execMemInitStart_frame (s : State) : ∃ s', execMemInitStart s = .next s' ∧
    s'.pending = s.pending ∧ s'.free = s.free ∧ s'.clock = s.clock ∧ s'.out = s.out ∧ s'.regs = s.regs ∧ s'.host = s.host ∧
    s'.time = s.time ∧ s'.maps = s.maps ∧ s'.mem = s.mem ∧ s'.coh = s.coh ∧ s'.avail = s.avail ∧ s'.sec = s.sec ∧ s'.net = s.net ∧
    s'.ms = s.ms ∧ s'.cr = s.cr ∧ s'.prot = s.prot ∧ s'.dram = s.dram ∧ s'.flash = s.flash ∧ s'.eng = s.eng ∧ s'.pwr = s.pwr ∧
    s'.isl = s.isl := by
  refine ⟨_, rfl, ?_⟩
  simp

theorem execMemInitDone_frame (s : State) : ∃ s', execMemInitDone s = .next s' ∧
    s'.pending = s.pending ∧ s'.free = s.free ∧ s'.clock = s.clock ∧ s'.out = s.out ∧ s'.regs = s.regs ∧ s'.host = s.host ∧
    s'.time = s.time ∧ s'.maps = s.maps ∧ s'.coh = s.coh ∧ s'.avail = s.avail ∧ s'.sec = s.sec ∧ s'.net = s.net ∧ s'.ms = s.ms ∧
    s'.cr = s.cr ∧ s'.prot = s.prot ∧ s'.dram = s.dram ∧ s'.flash = s.flash ∧ s'.eng = s.eng ∧ s'.pwr = s.pwr ∧ s'.isl = s.isl := by
  refine ⟨_, rfl, ?_⟩
  simp

theorem execDepotBuildDone_frame (s : State) : ∃ s', execDepotBuildDone s = .next s' ∧
    s'.pending = s.pending ∧ s'.free = s.free ∧ s'.clock = s.clock ∧ s'.out = s.out ∧ s'.regs = s.regs ∧ s'.host = s.host ∧
    s'.time = s.time ∧ s'.mem = s.mem ∧ s'.coh = s.coh ∧ s'.ms = s.ms ∧ s'.cr = s.cr ∧ s'.prot = s.prot ∧ s'.eng = s.eng ∧ s'.pwr = s.pwr ∧
    s'.isl = s.isl := by
  refine ⟨_, rfl, ?_⟩
  simp

theorem execRefsbDue_frame (ch : Chan) (rank : Nat) (sc : Nat) (bank : Nat) (issue : Bool) (s : State) :
    ∃ s', execRefsbDue ch rank sc bank issue s = .next s' ∧
    s'.pending = s.pending ∧ s'.free = s.free ∧ s'.clock = s.clock ∧ s'.host = s.host ∧ s'.time = s.time ∧ s'.maps = s.maps ∧
    s'.mem = s.mem ∧ s'.coh = s.coh ∧ s'.boot = s.boot ∧ s'.avail = s.avail ∧ s'.sec = s.sec ∧ s'.net = s.net ∧ s'.ms = s.ms ∧
    s'.cr = s.cr ∧ s'.prot = s.prot ∧ s'.flash = s.flash ∧ s'.eng = s.eng ∧ s'.pwr = s.pwr ∧ s'.isl = s.isl := by
  refine ⟨_, rfl, ?_⟩
  simp

theorem execRfmIssue_frame (ch : Chan) (rank : Nat) (sc : Nat) (bank : Nat) (s : State) : ∃ s', execRfmIssue ch rank sc bank s = .next s' ∧
    s'.pending = s.pending ∧ s'.free = s.free ∧ s'.clock = s.clock ∧ s'.regs = s.regs ∧ s'.host = s.host ∧ s'.time = s.time ∧
    s'.maps = s.maps ∧ s'.mem = s.mem ∧ s'.coh = s.coh ∧ s'.boot = s.boot ∧ s'.avail = s.avail ∧ s'.sec = s.sec ∧ s'.net = s.net ∧
    s'.ms = s.ms ∧ s'.cr = s.cr ∧ s'.prot = s.prot ∧ s'.flash = s.flash ∧ s'.eng = s.eng ∧ s'.pwr = s.pwr ∧ s'.isl = s.isl := by
  refine ⟨_, rfl, ?_⟩
  simp

theorem execDimmTempPoll_frame (ch : Chan) (celsius : Int) (s : State) : ∃ s', execDimmTempPoll ch celsius s = .next s' ∧
    s'.pending = s.pending ∧ s'.free = s.free ∧ s'.clock = s.clock ∧ s'.out = s.out ∧ s'.regs = s.regs ∧ s'.host = s.host ∧
    s'.time = s.time ∧ s'.maps = s.maps ∧ s'.mem = s.mem ∧ s'.coh = s.coh ∧ s'.boot = s.boot ∧ s'.avail = s.avail ∧ s'.sec = s.sec ∧
    s'.net = s.net ∧ s'.ms = s.ms ∧ s'.cr = s.cr ∧ s'.prot = s.prot ∧ s'.flash = s.flash ∧ s'.eng = s.eng ∧ s'.pwr = s.pwr ∧
    s'.isl = s.isl := by
  refine ⟨_, rfl, ?_⟩
  simp

theorem execWriteAgeDrain_frame (ch : Chan) (s : State) : ∃ s', execWriteAgeDrain ch s = .next s' ∧
    s'.pending = s.pending ∧ s'.free = s.free ∧ s'.clock = s.clock ∧ s'.out = s.out ∧ s'.regs = s.regs ∧ s'.host = s.host ∧
    s'.time = s.time ∧ s'.maps = s.maps ∧ s'.mem = s.mem ∧ s'.coh = s.coh ∧ s'.boot = s.boot ∧ s'.avail = s.avail ∧ s'.sec = s.sec ∧
    s'.net = s.net ∧ s'.ms = s.ms ∧ s'.cr = s.cr ∧ s'.prot = s.prot ∧ s'.flash = s.flash ∧ s'.eng = s.eng ∧ s'.pwr = s.pwr ∧
    s'.isl = s.isl := by
  refine ⟨_, rfl, ?_⟩
  simp

theorem execRoadworksWindowOpen_frame (ch : Chan) (s : State) : ∃ s', execRoadworksWindowOpen ch s = .next s' ∧
    s'.pending = s.pending ∧ s'.free = s.free ∧ s'.host = s.host ∧ s'.maps = s.maps ∧ s'.mem = s.mem ∧ s'.coh = s.coh ∧ s'.boot = s.boot ∧
    s'.avail = s.avail ∧ s'.sec = s.sec ∧ s'.net = s.net ∧ s'.ms = s.ms ∧ s'.cr = s.cr ∧ s'.prot = s.prot ∧ s'.flash = s.flash ∧
    s'.eng = s.eng ∧ s'.pwr = s.pwr ∧ s'.isl = s.isl := by
  refine ⟨_, rfl, ?_⟩
  repeat' (first | (simp; done) | split)

theorem execRoadworksPauseEnd_frame (ch : Chan) (corr : Int) (s : State) : ∃ s', execRoadworksPauseEnd ch corr s = .next s' ∧
    s'.pending = s.pending ∧ s'.free = s.free ∧ s'.clock = s.clock ∧ s'.time = s.time ∧ s'.maps = s.maps ∧ s'.mem = s.mem ∧
    s'.coh = s.coh ∧ s'.boot = s.boot ∧ s'.avail = s.avail ∧ s'.sec = s.sec ∧ s'.net = s.net ∧ s'.ms = s.ms ∧ s'.cr = s.cr ∧
    s'.prot = s.prot ∧ s'.flash = s.flash ∧ s'.eng = s.eng ∧ s'.pwr = s.pwr ∧ s'.isl = s.isl := by
  refine ⟨_, rfl, ?_⟩
  simp

theorem execArbCreditPeriod_frame (share : Share) (s : State) : ∃ s', execArbCreditPeriod share s = .next s' ∧
    s'.pending = s.pending ∧ s'.free = s.free ∧ s'.clock = s.clock ∧ s'.out = s.out ∧ s'.regs = s.regs ∧ s'.host = s.host ∧
    s'.time = s.time ∧ s'.maps = s.maps ∧ s'.mem = s.mem ∧ s'.coh = s.coh ∧ s'.boot = s.boot ∧ s'.avail = s.avail ∧ s'.sec = s.sec ∧
    s'.net = s.net ∧ s'.ms = s.ms ∧ s'.cr = s.cr ∧ s'.prot = s.prot ∧ s'.flash = s.flash ∧ s'.eng = s.eng ∧ s'.pwr = s.pwr ∧
    s'.isl = s.isl := by
  refine ⟨_, rfl, ?_⟩
  simp

theorem execArbGrantEnd_frame (share : Share) (s : State) : ∃ s', execArbGrantEnd share s = .next s' ∧
    s'.pending = s.pending ∧ s'.free = s.free ∧ s'.clock = s.clock ∧ s'.out = s.out ∧ s'.regs = s.regs ∧ s'.host = s.host ∧
    s'.time = s.time ∧ s'.maps = s.maps ∧ s'.mem = s.mem ∧ s'.coh = s.coh ∧ s'.boot = s.boot ∧ s'.avail = s.avail ∧ s'.sec = s.sec ∧
    s'.net = s.net ∧ s'.ms = s.ms ∧ s'.cr = s.cr ∧ s'.prot = s.prot ∧ s'.flash = s.flash ∧ s'.eng = s.eng ∧ s'.pwr = s.pwr ∧
    s'.isl = s.isl := by
  refine ⟨_, rfl, ?_⟩
  dsimp only
  repeat' (first | (simp; done) | split)

theorem execDramReadDone_frame (line : Nat) (bad : Nat) (s : State) : ∃ s', execDramReadDone line bad s = .next s' ∧
    s'.pending = s.pending ∧ s'.clock = s.clock ∧ s'.time = s.time ∧ s'.boot = s.boot ∧ s'.avail = s.avail ∧ s'.sec = s.sec ∧
    s'.cr = s.cr ∧ s'.flash = s.flash ∧ s'.eng = s.eng ∧ s'.pwr = s.pwr ∧ s'.isl = s.isl := by
  refine ⟨_, rfl, ?_⟩
  simp

theorem execPageQuiesced_frame (frame : Nat) (s : State) : ∃ s', execPageQuiesced frame s = .next s' ∧
    s'.pending = s.pending ∧ s'.free = s.free ∧ s'.clock = s.clock ∧ s'.out = s.out ∧ s'.regs = s.regs ∧ s'.host = s.host ∧
    s'.time = s.time ∧ s'.maps = s.maps ∧ s'.mem = s.mem ∧ s'.coh = s.coh ∧ s'.boot = s.boot ∧ s'.avail = s.avail ∧ s'.sec = s.sec ∧
    s'.net = s.net ∧ s'.ms = s.ms ∧ s'.cr = s.cr ∧ s'.dram = s.dram ∧ s'.flash = s.flash ∧ s'.eng = s.eng ∧ s'.pwr = s.pwr ∧
    s'.isl = s.isl := by
  refine ⟨_, rfl, ?_⟩
  repeat' (first | (simp; done) | split)

theorem execReconstructDone_frame (frame : Nat) (failed : List Nat) (syndrome : Bool) (depot : Nat × Nat) (s : State) :
    ∃ s', execReconstructDone frame failed syndrome depot s = .next s' ∧
    s'.pending = s.pending ∧ s'.clock = s.clock ∧ s'.time = s.time ∧ s'.boot = s.boot ∧ s'.sec = s.sec ∧ s'.pwr = s.pwr ∧
    s'.isl = s.isl := by
  refine ⟨_, rfl, ?_⟩
  repeat' (first | (simp; done) | split)

theorem execParityDelta_frame (frame : Nat) (par : Nat) (line : Nat) (s : State) : ∃ s', execParityDelta frame par line s = .next s' ∧
    s'.pending = s.pending ∧ s'.free = s.free ∧ s'.clock = s.clock ∧ s'.time = s.time ∧ s'.maps = s.maps ∧ s'.boot = s.boot ∧
    s'.avail = s.avail ∧ s'.sec = s.sec ∧ s'.ms = s.ms ∧ s'.cr = s.cr ∧ s'.flash = s.flash ∧ s'.eng = s.eng ∧ s'.pwr = s.pwr ∧
    s'.isl = s.isl := by
  refine ⟨_, rfl, ?_⟩
  simp

theorem execParityRmwDone_frame (frame : Nat) (par : Nat) (bad : Bool) (s : State) : ∃ s', execParityRmwDone frame par bad s = .next s' ∧
    s'.pending = s.pending ∧ s'.free = s.free ∧ s'.clock = s.clock ∧ s'.time = s.time ∧ s'.maps = s.maps ∧ s'.boot = s.boot ∧
    s'.avail = s.avail ∧ s'.sec = s.sec ∧ s'.ms = s.ms ∧ s'.cr = s.cr ∧ s'.flash = s.flash ∧ s'.eng = s.eng ∧ s'.pwr = s.pwr ∧
    s'.isl = s.isl := by
  refine ⟨_, rfl, ?_⟩
  simp

theorem execParityReencode_frame (frame : Nat) (par : Nat) (bad : Bool) (s : State) : ∃ s', execParityReencode frame par bad s = .next s' ∧
    s'.pending = s.pending ∧ s'.free = s.free ∧ s'.clock = s.clock ∧ s'.time = s.time ∧ s'.maps = s.maps ∧ s'.coh = s.coh ∧
    s'.boot = s.boot ∧ s'.avail = s.avail ∧ s'.sec = s.sec ∧ s'.net = s.net ∧ s'.ms = s.ms ∧ s'.cr = s.cr ∧ s'.dram = s.dram ∧
    s'.flash = s.flash ∧ s'.eng = s.eng ∧ s'.pwr = s.pwr ∧ s'.isl = s.isl := by
  refine ⟨_, rfl, ?_⟩
  simp

theorem execScrubLine_frame (share : Share) (line : Nat) (bad : Nat) (s : State) : ∃ s', execScrubLine share line bad s = .next s' ∧
    s'.pending = s.pending ∧ s'.free = s.free ∧ s'.clock = s.clock ∧ s'.time = s.time ∧ s'.maps = s.maps ∧ s'.coh = s.coh ∧
    s'.boot = s.boot ∧ s'.avail = s.avail ∧ s'.sec = s.sec ∧ s'.net = s.net ∧ s'.ms = s.ms ∧ s'.cr = s.cr ∧ s'.flash = s.flash ∧
    s'.eng = s.eng ∧ s'.pwr = s.pwr ∧ s'.isl = s.isl := by
  refine ⟨_, rfl, ?_⟩
  simp

theorem execScrubLapWarn_frame (share : Share) (s : State) : ∃ s', execScrubLapWarn share s = .next s' ∧
    s'.pending = s.pending ∧ s'.free = s.free ∧ s'.regs = s.regs ∧ s'.maps = s.maps ∧ s'.mem = s.mem ∧ s'.coh = s.coh ∧ s'.boot = s.boot ∧
    s'.avail = s.avail ∧ s'.sec = s.sec ∧ s'.net = s.net ∧ s'.ms = s.ms ∧ s'.cr = s.cr ∧ s'.dram = s.dram ∧ s'.flash = s.flash ∧
    s'.eng = s.eng ∧ s'.pwr = s.pwr ∧ s'.isl = s.isl := by
  refine ⟨_, rfl, ?_⟩
  simp

theorem execChannelFailed_frame (ch : Chan) (s : State) : ∃ s', execChannelFailed ch s = .next s' ∧
    s'.pending = s.pending ∧ s'.free = s.free ∧ s'.clock = s.clock ∧ s'.regs = s.regs ∧ s'.time = s.time ∧ s'.maps = s.maps ∧
    s'.mem = s.mem ∧ s'.coh = s.coh ∧ s'.boot = s.boot ∧ s'.avail = s.avail ∧ s'.sec = s.sec ∧ s'.net = s.net ∧ s'.ms = s.ms ∧
    s'.cr = s.cr ∧ s'.dram = s.dram ∧ s'.flash = s.flash ∧ s'.eng = s.eng ∧ s'.pwr = s.pwr ∧ s'.isl = s.isl := by
  refine ⟨_, rfl, ?_⟩
  simp

theorem execEvacSliceDone_frame (ch : Chan) (s : State) : ∃ s', execEvacSliceDone ch s = .next s' ∧
    s'.pending = s.pending ∧ s'.clock = s.clock ∧ s'.time = s.time ∧ s'.maps = s.maps ∧ s'.mem = s.mem ∧ s'.coh = s.coh ∧
    s'.boot = s.boot ∧ s'.avail = s.avail ∧ s'.sec = s.sec ∧ s'.ms = s.ms ∧ s'.flash = s.flash ∧ s'.eng = s.eng ∧ s'.pwr = s.pwr ∧
    s'.isl = s.isl := by
  refine ⟨_, rfl, ?_⟩
  dsimp only
  repeat' (first | (simp; done) | split)

theorem execNvmeReadDone_frame (slot : Slot) (cid : Nat) (pi : Bool) (s : State) : ∃ s', execNvmeReadDone slot cid pi s = .next s' ∧
    s'.pending = s.pending ∧ s'.free = s.free ∧ s'.clock = s.clock ∧ s'.host = s.host ∧ s'.time = s.time ∧ s'.maps = s.maps ∧
    s'.mem = s.mem ∧ s'.coh = s.coh ∧ s'.boot = s.boot ∧ s'.avail = s.avail ∧ s'.sec = s.sec ∧ s'.net = s.net ∧ s'.ms = s.ms ∧
    s'.cr = s.cr ∧ s'.prot = s.prot ∧ s'.dram = s.dram ∧ s'.eng = s.eng ∧ s'.pwr = s.pwr ∧ s'.isl = s.isl := by
  refine ⟨_, rfl, ?_⟩
  repeat' (first | (simp; done) | split)

theorem execFillDone_frame (district : Nat) (page : Nat) (s : State) : ∃ s', execFillDone district page s = .next s' ∧
    s'.pending = s.pending ∧ s'.clock = s.clock ∧ s'.time = s.time ∧ s'.boot = s.boot ∧ s'.avail = s.avail ∧ s'.sec = s.sec ∧
    s'.eng = s.eng ∧ s'.pwr = s.pwr ∧ s'.isl = s.isl := by
  refine ⟨_, rfl, ?_⟩
  dsimp only
  repeat' (first | (simp; done) | split)

theorem execDemotionStart_frame (district : Nat) (s : State) : ∃ s', execDemotionStart district s = .next s' ∧
    s'.pending = s.pending ∧ s'.clock = s.clock ∧ s'.time = s.time ∧ s'.boot = s.boot ∧ s'.avail = s.avail ∧ s'.sec = s.sec ∧
    s'.ms = s.ms ∧ s'.dram = s.dram ∧ s'.eng = s.eng ∧ s'.pwr = s.pwr ∧ s'.isl = s.isl := by
  refine ⟨_, rfl, ?_⟩
  dsimp only
  repeat' (first | (simp; done) | split)

theorem execNvmeWriteDone_frame (slot : Slot) (cid : Nat) (s : State) : ∃ s', execNvmeWriteDone slot cid s = .next s' ∧
    s'.pending = s.pending ∧ s'.clock = s.clock ∧ s'.time = s.time ∧ s'.boot = s.boot ∧ s'.avail = s.avail ∧ s'.sec = s.sec ∧
    s'.ms = s.ms ∧ s'.dram = s.dram ∧ s'.eng = s.eng ∧ s'.pwr = s.pwr ∧ s'.isl = s.isl := by
  refine ⟨_, rfl, ?_⟩
  repeat' (first | (simp; done) | split)

theorem execNvmeCmdTimeout_frame (slot : Slot) (cid : Nat) (s : State) : ∃ s', execNvmeCmdTimeout slot cid s = .next s' ∧
    s'.pending = s.pending ∧ s'.free = s.free ∧ s'.host = s.host ∧ s'.maps = s.maps ∧ s'.mem = s.mem ∧ s'.coh = s.coh ∧ s'.boot = s.boot ∧
    s'.avail = s.avail ∧ s'.sec = s.sec ∧ s'.net = s.net ∧ s'.ms = s.ms ∧ s'.cr = s.cr ∧ s'.prot = s.prot ∧ s'.dram = s.dram ∧
    s'.eng = s.eng ∧ s'.pwr = s.pwr ∧ s'.isl = s.isl := by
  refine ⟨_, rfl, ?_⟩
  repeat' (first | (simp; done) | split)

theorem execNvmeAbortTimeout_frame (slot : Slot) (cid : Nat) (s : State) : ∃ s', execNvmeAbortTimeout slot cid s = .next s' ∧
    s'.pending = s.pending ∧ s'.free = s.free ∧ s'.regs = s.regs ∧ s'.host = s.host ∧ s'.maps = s.maps ∧ s'.mem = s.mem ∧ s'.coh = s.coh ∧
    s'.boot = s.boot ∧ s'.avail = s.avail ∧ s'.sec = s.sec ∧ s'.net = s.net ∧ s'.ms = s.ms ∧ s'.cr = s.cr ∧ s'.prot = s.prot ∧
    s'.dram = s.dram ∧ s'.eng = s.eng ∧ s'.pwr = s.pwr ∧ s'.isl = s.isl := by
  refine ⟨_, rfl, ?_⟩
  repeat' (first | (simp; done) | split)

theorem execNvmeResetTimeout_frame (slot : Slot) (s : State) : ∃ s', execNvmeResetTimeout slot s = .next s' ∧
    s'.pending = s.pending ∧ s'.clock = s.clock ∧ s'.time = s.time ∧ s'.boot = s.boot ∧ s'.avail = s.avail ∧ s'.sec = s.sec ∧
    s'.ms = s.ms ∧ s'.dram = s.dram ∧ s'.eng = s.eng ∧ s'.pwr = s.pwr ∧ s'.isl = s.isl := by
  refine ⟨_, rfl, ?_⟩
  simp

theorem execNvmeErrorCompletion_frame (slot : Slot) (cid : Nat) (media : Bool) (s : State) :
    ∃ s', execNvmeErrorCompletion slot cid media s = .next s' ∧
    s'.pending = s.pending ∧ s'.clock = s.clock ∧ s'.time = s.time ∧ s'.boot = s.boot ∧ s'.avail = s.avail ∧ s'.sec = s.sec ∧
    s'.ms = s.ms ∧ s'.dram = s.dram ∧ s'.eng = s.eng ∧ s'.pwr = s.pwr ∧ s'.isl = s.isl := by
  refine ⟨_, rfl, ?_⟩
  repeat' (first | (simp; done) | split)

theorem execSsdRebuildStep_frame (group : Nat) (s : State) : ∃ s', execSsdRebuildStep group s = .next s' ∧
    s'.pending = s.pending ∧ s'.clock = s.clock ∧ s'.time = s.time ∧ s'.maps = s.maps ∧ s'.mem = s.mem ∧ s'.coh = s.coh ∧
    s'.boot = s.boot ∧ s'.avail = s.avail ∧ s'.sec = s.sec ∧ s'.ms = s.ms ∧ s'.prot = s.prot ∧ s'.dram = s.dram ∧ s'.eng = s.eng ∧
    s'.pwr = s.pwr ∧ s'.isl = s.isl := by
  refine ⟨_, rfl, ?_⟩
  repeat' (first | (simp; done) | split)

theorem execSlotPresenceChange_frame (slot : Slot) (present : Bool) (s : State) : ∃ s', execSlotPresenceChange slot present s = .next s' ∧
    s'.pending = s.pending ∧ s'.clock = s.clock ∧ s'.time = s.time ∧ s'.boot = s.boot ∧ s'.avail = s.avail ∧ s'.sec = s.sec ∧
    s'.ms = s.ms ∧ s'.dram = s.dram ∧ s'.eng = s.eng ∧ s'.pwr = s.pwr ∧ s'.isl = s.isl := by
  refine ⟨_, rfl, ?_⟩
  simp

theorem execSlotInrushTurn_frame (s : State) : ∃ s', execSlotInrushTurn s = .next s' ∧
    s'.pending = s.pending ∧ s'.free = s.free ∧ s'.regs = s.regs ∧ s'.host = s.host ∧ s'.maps = s.maps ∧ s'.mem = s.mem ∧ s'.coh = s.coh ∧
    s'.boot = s.boot ∧ s'.avail = s.avail ∧ s'.sec = s.sec ∧ s'.net = s.net ∧ s'.ms = s.ms ∧ s'.cr = s.cr ∧ s'.prot = s.prot ∧
    s'.dram = s.dram ∧ s'.eng = s.eng ∧ s'.pwr = s.pwr ∧ s'.isl = s.isl := by
  refine ⟨_, rfl, ?_⟩
  dsimp only
  repeat' (first | (simp; done) | split)

theorem execSlotPgAssert_frame (slot : Slot) (s : State) : ∃ s', execSlotPgAssert slot s = .next s' ∧
    s'.pending = s.pending ∧ s'.free = s.free ∧ s'.clock = s.clock ∧ s'.out = s.out ∧ s'.regs = s.regs ∧ s'.host = s.host ∧
    s'.time = s.time ∧ s'.maps = s.maps ∧ s'.mem = s.mem ∧ s'.coh = s.coh ∧ s'.boot = s.boot ∧ s'.avail = s.avail ∧ s'.sec = s.sec ∧
    s'.net = s.net ∧ s'.ms = s.ms ∧ s'.cr = s.cr ∧ s'.prot = s.prot ∧ s'.dram = s.dram ∧ s'.eng = s.eng ∧ s'.pwr = s.pwr ∧
    s'.isl = s.isl := by
  refine ⟨_, rfl, ?_⟩
  simp

theorem execSlotInrushTimeout_frame (slot : Slot) (s : State) : ∃ s', execSlotInrushTimeout slot s = .next s' ∧
    s'.pending = s.pending ∧ s'.boot = s.boot ∧ s'.avail = s.avail ∧ s'.sec = s.sec ∧ s'.ms = s.ms ∧ s'.dram = s.dram ∧ s'.eng = s.eng ∧
    s'.pwr = s.pwr ∧ s'.isl = s.isl := by
  refine ⟨_, rfl, ?_⟩
  simp

theorem execSlotPerstRelease_frame (slot : Slot) (s : State) : ∃ s', execSlotPerstRelease slot s = .next s' ∧
    s'.pending = s.pending ∧ s'.free = s.free ∧ s'.regs = s.regs ∧ s'.host = s.host ∧ s'.maps = s.maps ∧ s'.mem = s.mem ∧ s'.coh = s.coh ∧
    s'.boot = s.boot ∧ s'.avail = s.avail ∧ s'.sec = s.sec ∧ s'.net = s.net ∧ s'.ms = s.ms ∧ s'.cr = s.cr ∧ s'.prot = s.prot ∧
    s'.dram = s.dram ∧ s'.eng = s.eng ∧ s'.pwr = s.pwr ∧ s'.isl = s.isl := by
  refine ⟨_, rfl, ?_⟩
  simp

theorem execSlotLinkUp_frame (slot : Slot) (width : Nat) (rate : Nat) (lbas : Nat) (usable : Bool) (s : State) :
    ∃ s', execSlotLinkUp slot width rate lbas usable s = .next s' ∧
    s'.pending = s.pending ∧ s'.free = s.free ∧ s'.clock = s.clock ∧ s'.regs = s.regs ∧ s'.time = s.time ∧ s'.maps = s.maps ∧
    s'.mem = s.mem ∧ s'.coh = s.coh ∧ s'.boot = s.boot ∧ s'.avail = s.avail ∧ s'.sec = s.sec ∧ s'.net = s.net ∧ s'.ms = s.ms ∧
    s'.cr = s.cr ∧ s'.prot = s.prot ∧ s'.dram = s.dram ∧ s'.eng = s.eng ∧ s'.pwr = s.pwr ∧ s'.isl = s.isl := by
  refine ⟨_, rfl, ?_⟩
  simp

theorem execSlotFault_frame (slot : Slot) (s : State) : ∃ s', execSlotFault slot s = .next s' ∧
    s'.pending = s.pending ∧ s'.clock = s.clock ∧ s'.time = s.time ∧ s'.boot = s.boot ∧ s'.avail = s.avail ∧ s'.sec = s.sec ∧
    s'.ms = s.ms ∧ s'.dram = s.dram ∧ s'.eng = s.eng ∧ s'.pwr = s.pwr ∧ s'.isl = s.isl := by
  refine ⟨_, rfl, ?_⟩
  simp

theorem execSlotRetryTimer_frame (slot : Slot) (s : State) : ∃ s', execSlotRetryTimer slot s = .next s' ∧
    s'.pending = s.pending ∧ s'.free = s.free ∧ s'.out = s.out ∧ s'.regs = s.regs ∧ s'.host = s.host ∧ s'.maps = s.maps ∧ s'.mem = s.mem ∧
    s'.coh = s.coh ∧ s'.boot = s.boot ∧ s'.avail = s.avail ∧ s'.sec = s.sec ∧ s'.net = s.net ∧ s'.ms = s.ms ∧ s'.cr = s.cr ∧
    s'.prot = s.prot ∧ s'.dram = s.dram ∧ s'.eng = s.eng ∧ s'.pwr = s.pwr ∧ s'.isl = s.isl := by
  refine ⟨_, rfl, ?_⟩
  simp

theorem execRailDroopAssert_frame (s : State) : ∃ s', execRailDroopAssert s = .next s' ∧
    s'.pending = s.pending ∧ s'.clock = s.clock ∧ s'.time = s.time ∧ s'.boot = s.boot ∧ s'.avail = s.avail ∧ s'.sec = s.sec ∧
    s'.ms = s.ms ∧ s'.dram = s.dram ∧ s'.eng = s.eng ∧ s'.pwr = s.pwr ∧ s'.isl = s.isl := by
  refine ⟨_, rfl, ?_⟩
  simp

theorem execRailDroopClear_frame (s : State) : ∃ s', execRailDroopClear s = .next s' ∧
    s'.pending = s.pending ∧ s'.free = s.free ∧ s'.clock = s.clock ∧ s'.out = s.out ∧ s'.regs = s.regs ∧ s'.host = s.host ∧
    s'.time = s.time ∧ s'.maps = s.maps ∧ s'.mem = s.mem ∧ s'.coh = s.coh ∧ s'.boot = s.boot ∧ s'.avail = s.avail ∧ s'.sec = s.sec ∧
    s'.net = s.net ∧ s'.ms = s.ms ∧ s'.cr = s.cr ∧ s'.prot = s.prot ∧ s'.dram = s.dram ∧ s'.eng = s.eng ∧ s'.pwr = s.pwr ∧
    s'.isl = s.isl := by
  refine ⟨_, rfl, ?_⟩
  simp

theorem execDroopResume_frame (s : State) : ∃ s', execDroopResume s = .next s' ∧
    s'.pending = s.pending ∧ s'.free = s.free ∧ s'.out = s.out ∧ s'.regs = s.regs ∧ s'.host = s.host ∧ s'.maps = s.maps ∧ s'.mem = s.mem ∧
    s'.coh = s.coh ∧ s'.boot = s.boot ∧ s'.avail = s.avail ∧ s'.sec = s.sec ∧ s'.net = s.net ∧ s'.ms = s.ms ∧ s'.cr = s.cr ∧
    s'.prot = s.prot ∧ s'.dram = s.dram ∧ s'.eng = s.eng ∧ s'.pwr = s.pwr ∧ s'.isl = s.isl := by
  refine ⟨_, rfl, ?_⟩
  simp

theorem execDroopLong_frame (s : State) : ∃ s', execDroopLong s = .next s' ∧
    s'.pending = s.pending ∧ s'.free = s.free ∧ s'.regs = s.regs ∧ s'.maps = s.maps ∧ s'.mem = s.mem ∧ s'.coh = s.coh ∧ s'.boot = s.boot ∧
    s'.avail = s.avail ∧ s'.sec = s.sec ∧ s'.net = s.net ∧ s'.ms = s.ms ∧ s'.cr = s.cr ∧ s'.prot = s.prot ∧ s'.dram = s.dram ∧
    s'.eng = s.eng ∧ s'.pwr = s.pwr ∧ s'.isl = s.isl := by
  refine ⟨_, rfl, ?_⟩
  simp

theorem execJlPartnerDetect_frame (n : JPort) (s : State) : ∃ s', execJlPartnerDetect n s = .next s' ∧
    s'.pending = s.pending ∧ s'.free = s.free ∧ s'.clock = s.clock ∧ s'.out = s.out ∧ s'.regs = s.regs ∧ s'.host = s.host ∧
    s'.time = s.time ∧ s'.maps = s.maps ∧ s'.mem = s.mem ∧ s'.coh = s.coh ∧ s'.boot = s.boot ∧ s'.avail = s.avail ∧ s'.sec = s.sec ∧
    s'.ms = s.ms ∧ s'.cr = s.cr ∧ s'.prot = s.prot ∧ s'.dram = s.dram ∧ s'.flash = s.flash ∧ s'.eng = s.eng ∧ s'.pwr = s.pwr ∧
    s'.isl = s.isl := by
  refine ⟨_, rfl, ?_⟩
  simp

theorem execJlEqualizeDone_frame (n : JPort) (lanes : Nat) (s : State) : ∃ s', execJlEqualizeDone n lanes s = .next s' ∧
    s'.pending = s.pending ∧ s'.free = s.free ∧ s'.clock = s.clock ∧ s'.out = s.out ∧ s'.regs = s.regs ∧ s'.host = s.host ∧
    s'.time = s.time ∧ s'.maps = s.maps ∧ s'.mem = s.mem ∧ s'.coh = s.coh ∧ s'.boot = s.boot ∧ s'.avail = s.avail ∧ s'.sec = s.sec ∧
    s'.ms = s.ms ∧ s'.cr = s.cr ∧ s'.prot = s.prot ∧ s'.dram = s.dram ∧ s'.flash = s.flash ∧ s'.eng = s.eng ∧ s'.pwr = s.pwr ∧
    s'.isl = s.isl := by
  refine ⟨_, rfl, ?_⟩
  simp

theorem execJlAlignDone_frame (n : JPort) (s : State) : ∃ s', execJlAlignDone n s = .next s' ∧
    s'.pending = s.pending ∧ s'.free = s.free ∧ s'.clock = s.clock ∧ s'.out = s.out ∧ s'.regs = s.regs ∧ s'.host = s.host ∧
    s'.time = s.time ∧ s'.maps = s.maps ∧ s'.mem = s.mem ∧ s'.coh = s.coh ∧ s'.boot = s.boot ∧ s'.avail = s.avail ∧ s'.sec = s.sec ∧
    s'.ms = s.ms ∧ s'.cr = s.cr ∧ s'.prot = s.prot ∧ s'.dram = s.dram ∧ s'.flash = s.flash ∧ s'.eng = s.eng ∧ s'.pwr = s.pwr ∧
    s'.isl = s.isl := by
  refine ⟨_, rfl, ?_⟩
  simp

theorem execJlParamReceive_frame (n : JPort) (b : ParamBlock) (s : State) : ∃ s', execJlParamReceive n b s = .next s' ∧
    s'.pending = s.pending ∧ s'.free = s.free ∧ s'.clock = s.clock ∧ s'.regs = s.regs ∧ s'.time = s.time ∧ s'.maps = s.maps ∧
    s'.mem = s.mem ∧ s'.coh = s.coh ∧ s'.boot = s.boot ∧ s'.avail = s.avail ∧ s'.sec = s.sec ∧ s'.ms = s.ms ∧ s'.cr = s.cr ∧
    s'.prot = s.prot ∧ s'.dram = s.dram ∧ s'.flash = s.flash ∧ s'.eng = s.eng ∧ s'.pwr = s.pwr ∧ s'.isl = s.isl := by
  refine ⟨_, rfl, ?_⟩
  simp

theorem execJlDownRetry_frame (n : JPort) (s : State) : ∃ s', execJlDownRetry n s = .next s' ∧
    s'.pending = s.pending ∧ s'.free = s.free ∧ s'.out = s.out ∧ s'.regs = s.regs ∧ s'.host = s.host ∧ s'.maps = s.maps ∧ s'.mem = s.mem ∧
    s'.coh = s.coh ∧ s'.boot = s.boot ∧ s'.avail = s.avail ∧ s'.sec = s.sec ∧ s'.ms = s.ms ∧ s'.cr = s.cr ∧ s'.prot = s.prot ∧
    s'.dram = s.dram ∧ s'.flash = s.flash ∧ s'.eng = s.eng ∧ s'.pwr = s.pwr ∧ s'.isl = s.isl := by
  refine ⟨_, rfl, ?_⟩
  simp

theorem execFlitReceive_frame (n : JPort) (f : FlitIn) (s : State) : ∃ s', execFlitReceive n f s = .next s' ∧
    s'.pending = s.pending ∧ s'.free = s.free ∧ s'.clock = s.clock ∧ s'.maps = s.maps ∧ s'.mem = s.mem ∧ s'.coh = s.coh ∧
    s'.boot = s.boot ∧ s'.avail = s.avail ∧ s'.sec = s.sec ∧ s'.ms = s.ms ∧ s'.cr = s.cr ∧ s'.prot = s.prot ∧ s'.dram = s.dram ∧
    s'.flash = s.flash ∧ s'.eng = s.eng ∧ s'.pwr = s.pwr ∧ s'.isl = s.isl := by
  refine ⟨_, rfl, ?_⟩
  simp

theorem execFlitBuild_frame (n : JPort) (s : State) : ∃ s', execFlitBuild n s = .next s' ∧
    s'.pending = s.pending ∧ s'.free = s.free ∧ s'.clock = s.clock ∧ s'.maps = s.maps ∧ s'.mem = s.mem ∧ s'.coh = s.coh ∧
    s'.boot = s.boot ∧ s'.avail = s.avail ∧ s'.sec = s.sec ∧ s'.ms = s.ms ∧ s'.cr = s.cr ∧ s'.prot = s.prot ∧ s'.dram = s.dram ∧
    s'.flash = s.flash ∧ s'.eng = s.eng ∧ s'.pwr = s.pwr ∧ s'.isl = s.isl := by
  refine ⟨_, rfl, ?_⟩
  repeat' (first | (simp; done) | split)

theorem execReplayRequestReceive_frame (n : JPort) (fromSeq : Nat) (s : State) : ∃ s', execReplayRequestReceive n fromSeq s = .next s' ∧
    s'.pending = s.pending ∧ s'.free = s.free ∧ s'.clock = s.clock ∧ s'.maps = s.maps ∧ s'.mem = s.mem ∧ s'.coh = s.coh ∧
    s'.boot = s.boot ∧ s'.avail = s.avail ∧ s'.sec = s.sec ∧ s'.ms = s.ms ∧ s'.cr = s.cr ∧ s'.prot = s.prot ∧ s'.dram = s.dram ∧
    s'.flash = s.flash ∧ s'.eng = s.eng ∧ s'.pwr = s.pwr ∧ s'.isl = s.isl := by
  refine ⟨_, rfl, ?_⟩
  simp

theorem execReplayTimeout_frame (n : JPort) (s : State) : ∃ s', execReplayTimeout n s = .next s' ∧
    s'.pending = s.pending ∧ s'.free = s.free ∧ s'.maps = s.maps ∧ s'.mem = s.mem ∧ s'.coh = s.coh ∧ s'.boot = s.boot ∧
    s'.avail = s.avail ∧ s'.sec = s.sec ∧ s'.ms = s.ms ∧ s'.cr = s.cr ∧ s'.prot = s.prot ∧ s'.dram = s.dram ∧ s'.flash = s.flash ∧
    s'.eng = s.eng ∧ s'.pwr = s.pwr ∧ s'.isl = s.isl := by
  refine ⟨_, rfl, ?_⟩
  repeat' (first | (simp; done) | split)

theorem execCreditMessage_frame (n : JPort) (credits : List (Nat × Nat)) (s : State) : ∃ s', execCreditMessage n credits s = .next s' ∧
    s'.pending = s.pending ∧ s'.free = s.free ∧ s'.clock = s.clock ∧ s'.out = s.out ∧ s'.regs = s.regs ∧ s'.host = s.host ∧
    s'.time = s.time ∧ s'.maps = s.maps ∧ s'.mem = s.mem ∧ s'.coh = s.coh ∧ s'.boot = s.boot ∧ s'.avail = s.avail ∧ s'.sec = s.sec ∧
    s'.ms = s.ms ∧ s'.cr = s.cr ∧ s'.prot = s.prot ∧ s'.dram = s.dram ∧ s'.flash = s.flash ∧ s'.eng = s.eng ∧ s'.pwr = s.pwr ∧
    s'.isl = s.isl := by
  refine ⟨_, rfl, ?_⟩
  simp

theorem execRekeyMessage_frame (n : JPort) (fromSeq : Nat) (s : State) : ∃ s', execRekeyMessage n fromSeq s = .next s' ∧
    s'.pending = s.pending ∧ s'.free = s.free ∧ s'.clock = s.clock ∧ s'.out = s.out ∧ s'.regs = s.regs ∧ s'.host = s.host ∧
    s'.time = s.time ∧ s'.maps = s.maps ∧ s'.mem = s.mem ∧ s'.coh = s.coh ∧ s'.boot = s.boot ∧ s'.avail = s.avail ∧ s'.sec = s.sec ∧
    s'.ms = s.ms ∧ s'.cr = s.cr ∧ s'.prot = s.prot ∧ s'.dram = s.dram ∧ s'.flash = s.flash ∧ s'.eng = s.eng ∧ s'.pwr = s.pwr ∧
    s'.isl = s.isl := by
  refine ⟨_, rfl, ?_⟩
  simp

theorem execRetrainDone_frame (n : JPort) (lanes : Nat) (s : State) : ∃ s', execRetrainDone n lanes s = .next s' ∧
    s'.pending = s.pending ∧ s'.free = s.free ∧ s'.clock = s.clock ∧ s'.maps = s.maps ∧ s'.mem = s.mem ∧ s'.coh = s.coh ∧
    s'.boot = s.boot ∧ s'.avail = s.avail ∧ s'.sec = s.sec ∧ s'.ms = s.ms ∧ s'.cr = s.cr ∧ s'.prot = s.prot ∧ s'.dram = s.dram ∧
    s'.flash = s.flash ∧ s'.eng = s.eng ∧ s'.pwr = s.pwr ∧ s'.isl = s.isl := by
  refine ⟨_, rfl, ?_⟩
  simp

theorem execRetrainTimeout_frame (n : JPort) (s : State) : ∃ s', execRetrainTimeout n s = .next s' ∧
    s'.pending = s.pending ∧ s'.free = s.free ∧ s'.maps = s.maps ∧ s'.mem = s.mem ∧ s'.coh = s.coh ∧ s'.boot = s.boot ∧
    s'.avail = s.avail ∧ s'.sec = s.sec ∧ s'.ms = s.ms ∧ s'.cr = s.cr ∧ s'.prot = s.prot ∧ s'.dram = s.dram ∧ s'.flash = s.flash ∧
    s'.eng = s.eng ∧ s'.pwr = s.pwr ∧ s'.isl = s.isl := by
  refine ⟨_, rfl, ?_⟩
  simp

theorem execEscapeWaitTimeout_frame (n : JPort) (idx : Nat) (s : State) : ∃ s', execEscapeWaitTimeout n idx s = .next s' ∧
    s'.pending = s.pending ∧ s'.free = s.free ∧ s'.maps = s.maps ∧ s'.mem = s.mem ∧ s'.coh = s.coh ∧ s'.boot = s.boot ∧
    s'.avail = s.avail ∧ s'.sec = s.sec ∧ s'.ms = s.ms ∧ s'.cr = s.cr ∧ s'.prot = s.prot ∧ s'.dram = s.dram ∧ s'.flash = s.flash ∧
    s'.eng = s.eng ∧ s'.pwr = s.pwr ∧ s'.isl = s.isl := by
  refine ⟨_, rfl, ?_⟩
  dsimp only
  repeat' (first | (simp; done) | split)

theorem execBypassDropTimeout_frame (n : JPort) (idx : Nat) (s : State) : ∃ s', execBypassDropTimeout n idx s = .next s' ∧
    s'.pending = s.pending ∧ s'.free = s.free ∧ s'.out = s.out ∧ s'.host = s.host ∧ s'.maps = s.maps ∧ s'.mem = s.mem ∧ s'.coh = s.coh ∧
    s'.boot = s.boot ∧ s'.avail = s.avail ∧ s'.sec = s.sec ∧ s'.ms = s.ms ∧ s'.cr = s.cr ∧ s'.prot = s.prot ∧ s'.dram = s.dram ∧
    s'.flash = s.flash ∧ s'.eng = s.eng ∧ s'.pwr = s.pwr ∧ s'.isl = s.isl := by
  refine ⟨_, rfl, ?_⟩
  repeat' (first | (simp; done) | split)

theorem execEscapeHoldTimeout_frame (idx : Nat) (s : State) : ∃ s', execEscapeHoldTimeout idx s = .next s' ∧
    s'.pending = s.pending ∧ s'.free = s.free ∧ s'.maps = s.maps ∧ s'.mem = s.mem ∧ s'.coh = s.coh ∧ s'.boot = s.boot ∧
    s'.avail = s.avail ∧ s'.sec = s.sec ∧ s'.ms = s.ms ∧ s'.cr = s.cr ∧ s'.prot = s.prot ∧ s'.dram = s.dram ∧ s'.flash = s.flash ∧
    s'.eng = s.eng ∧ s'.pwr = s.pwr ∧ s'.isl = s.isl := by
  refine ⟨_, rfl, ?_⟩
  repeat' (first | (simp; done) | split)

theorem execMeterRelease_frame (n : JPort) (idx : Nat) (s : State) : ∃ s', execMeterRelease n idx s = .next s' ∧
    s'.pending = s.pending ∧ s'.free = s.free ∧ s'.out = s.out ∧ s'.host = s.host ∧ s'.maps = s.maps ∧ s'.mem = s.mem ∧ s'.coh = s.coh ∧
    s'.boot = s.boot ∧ s'.avail = s.avail ∧ s'.sec = s.sec ∧ s'.ms = s.ms ∧ s'.cr = s.cr ∧ s'.prot = s.prot ∧ s'.dram = s.dram ∧
    s'.flash = s.flash ∧ s'.eng = s.eng ∧ s'.pwr = s.pwr ∧ s'.isl = s.isl := by
  refine ⟨_, rfl, ?_⟩
  repeat' (first | (simp; done) | split)

theorem execTimerefPpsEdge_frame (dt : Nat) (s : State) : ∃ s', execTimerefPpsEdge dt s = .next s' ∧
    s'.pending = s.pending ∧ s'.maps = s.maps ∧ s'.mem = s.mem ∧ s'.coh = s.coh ∧ s'.boot = s.boot ∧ s'.sec = s.sec ∧ s'.prot = s.prot ∧
    s'.dram = s.dram ∧ s'.flash = s.flash ∧ s'.eng = s.eng ∧ s'.isl = s.isl := by
  refine ⟨_, rfl, ?_⟩
  dsimp only
  repeat' (first | (simp; done) | split)

theorem execPpsEdgeMissed_frame (s : State) : ∃ s', execPpsEdgeMissed s = .next s' ∧
    s'.pending = s.pending ∧ s'.free = s.free ∧ s'.regs = s.regs ∧ s'.maps = s.maps ∧ s'.mem = s.mem ∧ s'.coh = s.coh ∧ s'.boot = s.boot ∧
    s'.avail = s.avail ∧ s'.sec = s.sec ∧ s'.net = s.net ∧ s'.ms = s.ms ∧ s'.cr = s.cr ∧ s'.prot = s.prot ∧ s'.dram = s.dram ∧
    s'.flash = s.flash ∧ s'.eng = s.eng ∧ s'.pwr = s.pwr ∧ s'.isl = s.isl := by
  refine ⟨_, rfl, ?_⟩
  repeat' (first | (simp; done) | split)

theorem execTimeref10mLoss_frame (s : State) : ∃ s', execTimeref10mLoss s = .next s' ∧
    s'.pending = s.pending ∧ s'.free = s.free ∧ s'.clock = s.clock ∧ s'.regs = s.regs ∧ s'.maps = s.maps ∧ s'.mem = s.mem ∧
    s'.coh = s.coh ∧ s'.boot = s.boot ∧ s'.avail = s.avail ∧ s'.sec = s.sec ∧ s'.net = s.net ∧ s'.ms = s.ms ∧ s'.cr = s.cr ∧
    s'.prot = s.prot ∧ s'.dram = s.dram ∧ s'.flash = s.flash ∧ s'.eng = s.eng ∧ s'.pwr = s.pwr ∧ s'.isl = s.isl := by
  refine ⟨_, rfl, ?_⟩
  simp

theorem execBmcTimeCount_frame (count : Nat) (s : State) : ∃ s', execBmcTimeCount count s = .next s' ∧
    s'.pending = s.pending ∧ s'.free = s.free ∧ s'.clock = s.clock ∧ s'.out = s.out ∧ s'.regs = s.regs ∧ s'.host = s.host ∧
    s'.maps = s.maps ∧ s'.mem = s.mem ∧ s'.coh = s.coh ∧ s'.boot = s.boot ∧ s'.avail = s.avail ∧ s'.sec = s.sec ∧ s'.net = s.net ∧
    s'.ms = s.ms ∧ s'.cr = s.cr ∧ s'.prot = s.prot ∧ s'.dram = s.dram ∧ s'.flash = s.flash ∧ s'.eng = s.eng ∧ s'.pwr = s.pwr ∧
    s'.isl = s.isl := by
  refine ⟨_, rfl, ?_⟩
  simp

theorem execTimeMsgSend_frame (s : State) : ∃ s', execTimeMsgSend s = .next s' ∧
    s'.pending = s.pending ∧ s'.free = s.free ∧ s'.regs = s.regs ∧ s'.host = s.host ∧ s'.maps = s.maps ∧ s'.mem = s.mem ∧ s'.coh = s.coh ∧
    s'.boot = s.boot ∧ s'.avail = s.avail ∧ s'.sec = s.sec ∧ s'.net = s.net ∧ s'.ms = s.ms ∧ s'.cr = s.cr ∧ s'.prot = s.prot ∧
    s'.dram = s.dram ∧ s'.flash = s.flash ∧ s'.eng = s.eng ∧ s'.pwr = s.pwr ∧ s'.isl = s.isl := by
  refine ⟨_, rfl, ?_⟩
  simp

theorem execTimeMsgReceive_frame (jl : JPort) (m : TimeMsg) (s : State) : ∃ s', execTimeMsgReceive jl m s = .next s' ∧
    s'.pending = s.pending ∧ s'.clock = s.clock ∧ s'.maps = s.maps ∧ s'.mem = s.mem ∧ s'.coh = s.coh ∧ s'.boot = s.boot ∧ s'.sec = s.sec ∧
    s'.prot = s.prot ∧ s'.dram = s.dram ∧ s'.flash = s.flash ∧ s'.eng = s.eng ∧ s'.isl = s.isl := by
  refine ⟨_, rfl, ?_⟩
  simp

theorem execAcquireLockTimer_frame (s : State) : ∃ s', execAcquireLockTimer s = .next s' ∧
    s'.pending = s.pending ∧ s'.free = s.free ∧ s'.regs = s.regs ∧ s'.maps = s.maps ∧ s'.mem = s.mem ∧ s'.coh = s.coh ∧ s'.boot = s.boot ∧
    s'.avail = s.avail ∧ s'.sec = s.sec ∧ s'.net = s.net ∧ s'.ms = s.ms ∧ s'.cr = s.cr ∧ s'.prot = s.prot ∧ s'.dram = s.dram ∧
    s'.flash = s.flash ∧ s'.eng = s.eng ∧ s'.pwr = s.pwr ∧ s'.isl = s.isl := by
  refine ⟨_, rfl, ?_⟩
  repeat' (first | (simp; done) | split)

theorem execLockOffsetTimer_frame (s : State) : ∃ s', execLockOffsetTimer s = .next s' ∧
    s'.pending = s.pending ∧ s'.free = s.free ∧ s'.out = s.out ∧ s'.regs = s.regs ∧ s'.host = s.host ∧ s'.maps = s.maps ∧ s'.mem = s.mem ∧
    s'.coh = s.coh ∧ s'.boot = s.boot ∧ s'.avail = s.avail ∧ s'.sec = s.sec ∧ s'.net = s.net ∧ s'.ms = s.ms ∧ s'.cr = s.cr ∧
    s'.prot = s.prot ∧ s'.dram = s.dram ∧ s'.flash = s.flash ∧ s'.eng = s.eng ∧ s'.pwr = s.pwr ∧ s'.isl = s.isl := by
  refine ⟨_, rfl, ?_⟩
  dsimp only
  repeat' (first | (simp; done) | split)

theorem execHoldoverExpiry_frame (s : State) : ∃ s', execHoldoverExpiry s = .next s' ∧
    s'.pending = s.pending ∧ s'.maps = s.maps ∧ s'.mem = s.mem ∧ s'.coh = s.coh ∧ s'.boot = s.boot ∧ s'.sec = s.sec ∧ s'.prot = s.prot ∧
    s'.dram = s.dram ∧ s'.flash = s.flash ∧ s'.eng = s.eng ∧ s'.pwr = s.pwr ∧ s'.isl = s.isl := by
  refine ⟨_, rfl, ?_⟩
  dsimp only
  repeat' (first | (simp; done) | split)

theorem execPlanResume_frame (s : State) : ∃ s', execPlanResume s = .next s' ∧
    s'.pending = s.pending ∧ s'.free = s.free ∧ s'.out = s.out ∧ s'.regs = s.regs ∧ s'.host = s.host ∧ s'.maps = s.maps ∧ s'.mem = s.mem ∧
    s'.coh = s.coh ∧ s'.boot = s.boot ∧ s'.avail = s.avail ∧ s'.sec = s.sec ∧ s'.net = s.net ∧ s'.ms = s.ms ∧ s'.cr = s.cr ∧
    s'.prot = s.prot ∧ s'.dram = s.dram ∧ s'.flash = s.flash ∧ s'.eng = s.eng ∧ s'.pwr = s.pwr ∧ s'.isl = s.isl := by
  refine ⟨_, rfl, ?_⟩
  repeat' (first | (simp; done) | split)

theorem execEventInstant_frame (instant : Nat) (s : State) : ∃ s', execEventInstant instant s = .next s' ∧
    s'.pending = s.pending ∧ s'.maps = s.maps ∧ s'.mem = s.mem ∧ s'.coh = s.coh ∧ s'.boot = s.boot ∧ s'.sec = s.sec ∧ s'.prot = s.prot ∧
    s'.dram = s.dram ∧ s'.flash = s.flash ∧ s'.eng = s.eng ∧ s'.isl = s.isl := by
  refine ⟨_, rfl, ?_⟩
  simp

theorem execRoleSwapDone_frame (pair : Pair) (s : State) : ∃ s', execRoleSwapDone pair s = .next s' ∧
    s'.pending = s.pending ∧ s'.clock = s.clock ∧ s'.maps = s.maps ∧ s'.mem = s.mem ∧ s'.coh = s.coh ∧ s'.prot = s.prot ∧
    s'.dram = s.dram ∧ s'.flash = s.flash ∧ s'.eng = s.eng ∧ s'.isl = s.isl := by
  refine ⟨_, rfl, ?_⟩
  repeat' (first | (simp; done) | split)

theorem execHandoverDirCopyDone_frame (s : State) : ∃ s', execHandoverDirCopyDone s = .next s' ∧
    s'.pending = s.pending ∧ s'.free = s.free ∧ s'.clock = s.clock ∧ s'.out = s.out ∧ s'.regs = s.regs ∧ s'.host = s.host ∧
    s'.time = s.time ∧ s'.maps = s.maps ∧ s'.mem = s.mem ∧ s'.coh = s.coh ∧ s'.boot = s.boot ∧ s'.sec = s.sec ∧ s'.net = s.net ∧
    s'.ms = s.ms ∧ s'.cr = s.cr ∧ s'.prot = s.prot ∧ s'.dram = s.dram ∧ s'.flash = s.flash ∧ s'.eng = s.eng ∧ s'.pwr = s.pwr ∧
    s'.isl = s.isl := by
  refine ⟨_, rfl, ?_⟩
  repeat' (first | (simp; done) | split)

theorem execHandoverDrainStart_frame (s : State) : ∃ s', execHandoverDrainStart s = .next s' ∧
    s'.pending = s.pending ∧ s'.free = s.free ∧ s'.out = s.out ∧ s'.regs = s.regs ∧ s'.host = s.host ∧ s'.maps = s.maps ∧ s'.mem = s.mem ∧
    s'.coh = s.coh ∧ s'.boot = s.boot ∧ s'.sec = s.sec ∧ s'.net = s.net ∧ s'.ms = s.ms ∧ s'.cr = s.cr ∧ s'.flash = s.flash ∧
    s'.eng = s.eng ∧ s'.pwr = s.pwr ∧ s'.isl = s.isl := by
  refine ⟨_, rfl, ?_⟩
  repeat' (first | (simp; done) | split)

theorem execHandoverLedgerClose_frame (s : State) : ∃ s', execHandoverLedgerClose s = .next s' ∧
    s'.pending = s.pending ∧ s'.maps = s.maps ∧ s'.mem = s.mem ∧ s'.boot = s.boot ∧ s'.sec = s.sec ∧ s'.prot = s.prot ∧ s'.dram = s.dram ∧
    s'.eng = s.eng ∧ s'.pwr = s.pwr ∧ s'.isl = s.isl := by
  refine ⟨_, rfl, ?_⟩
  repeat' (first | (simp; done) | split)

theorem execHandoverSwitch_frame (s : State) : ∃ s', execHandoverSwitch s = .next s' ∧
    s'.pending = s.pending ∧ s'.free = s.free ∧ s'.host = s.host ∧ s'.maps = s.maps ∧ s'.coh = s.coh ∧ s'.boot = s.boot ∧ s'.sec = s.sec ∧
    s'.net = s.net ∧ s'.ms = s.ms ∧ s'.cr = s.cr ∧ s'.prot = s.prot ∧ s'.flash = s.flash ∧ s'.pwr = s.pwr ∧ s'.isl = s.isl := by
  refine ⟨_, rfl, ?_⟩
  repeat' (first | (simp; done) | split)

theorem execHandoverReopen_frame (s : State) : ∃ s', execHandoverReopen s = .next s' ∧
    s'.pending = s.pending ∧ s'.boot = s.boot ∧ s'.pwr = s.pwr ∧ s'.isl = s.isl := by
  refine ⟨_, rfl, ?_⟩
  repeat' (first | (simp; done) | split)

theorem execPowerEstimateTick_frame (raw : PowerRaw) (s : State) : ∃ s', execPowerEstimateTick raw s = .next s' ∧
    s'.pending = s.pending ∧ s'.free = s.free ∧ s'.clock = s.clock ∧ s'.time = s.time ∧ s'.maps = s.maps ∧ s'.mem = s.mem ∧
    s'.coh = s.coh ∧ s'.boot = s.boot ∧ s'.sec = s.sec ∧ s'.net = s.net ∧ s'.ms = s.ms ∧ s'.cr = s.cr ∧ s'.prot = s.prot ∧
    s'.dram = s.dram ∧ s'.flash = s.flash ∧ s'.isl = s.isl := by
  refine ⟨_, rfl, ?_⟩
  simp

theorem execCalibrationTick_frame (s : State) : ∃ s', execCalibrationTick s = .next s' ∧
    s'.pending = s.pending ∧ s'.free = s.free ∧ s'.clock = s.clock ∧ s'.time = s.time ∧ s'.maps = s.maps ∧ s'.mem = s.mem ∧
    s'.coh = s.coh ∧ s'.boot = s.boot ∧ s'.avail = s.avail ∧ s'.sec = s.sec ∧ s'.net = s.net ∧ s'.ms = s.ms ∧ s'.cr = s.cr ∧
    s'.prot = s.prot ∧ s'.dram = s.dram ∧ s'.flash = s.flash ∧ s'.isl = s.isl := by
  refine ⟨_, rfl, ?_⟩
  simp

theorem execRegulatorPoll_frame (answers : List (Nat × Option Nat)) (s : State) : ∃ s', execRegulatorPoll answers s = .next s' ∧
    s'.pending = s.pending ∧ s'.free = s.free ∧ s'.clock = s.clock ∧ s'.regs = s.regs ∧ s'.time = s.time ∧ s'.maps = s.maps ∧
    s'.mem = s.mem ∧ s'.coh = s.coh ∧ s'.boot = s.boot ∧ s'.avail = s.avail ∧ s'.sec = s.sec ∧ s'.net = s.net ∧ s'.ms = s.ms ∧
    s'.cr = s.cr ∧ s'.prot = s.prot ∧ s'.dram = s.dram ∧ s'.flash = s.flash ∧ s'.eng = s.eng ∧ s'.isl = s.isl := by
  refine ⟨_, rfl, ?_⟩
  simp

theorem execFastPowerLimit_frame (s : State) : ∃ s', execFastPowerLimit s = .next s' ∧
    s'.pending = s.pending ∧ s'.free = s.free ∧ s'.clock = s.clock ∧ s'.time = s.time ∧ s'.maps = s.maps ∧ s'.mem = s.mem ∧
    s'.coh = s.coh ∧ s'.boot = s.boot ∧ s'.avail = s.avail ∧ s'.sec = s.sec ∧ s'.net = s.net ∧ s'.ms = s.ms ∧ s'.cr = s.cr ∧
    s'.prot = s.prot ∧ s'.dram = s.dram ∧ s'.flash = s.flash ∧ s'.isl = s.isl := by
  refine ⟨_, rfl, ?_⟩
  simp

theorem execFastLimitRelease_frame (s : State) : ∃ s', execFastLimitRelease s = .next s' ∧
    s'.pending = s.pending ∧ s'.free = s.free ∧ s'.clock = s.clock ∧ s'.out = s.out ∧ s'.regs = s.regs ∧ s'.host = s.host ∧
    s'.time = s.time ∧ s'.maps = s.maps ∧ s'.mem = s.mem ∧ s'.coh = s.coh ∧ s'.boot = s.boot ∧ s'.avail = s.avail ∧ s'.sec = s.sec ∧
    s'.net = s.net ∧ s'.ms = s.ms ∧ s'.cr = s.cr ∧ s'.prot = s.prot ∧ s'.dram = s.dram ∧ s'.flash = s.flash ∧ s'.eng = s.eng ∧
    s'.isl = s.isl := by
  refine ⟨_, rfl, ?_⟩
  simp

theorem execJunctionTrip_frame (av : Avenue) (s : State) : ∃ s', execJunctionTrip av s = .next s' ∧
    s'.pending = s.pending ∧ s'.free = s.free ∧ s'.clock = s.clock ∧ s'.time = s.time ∧ s'.maps = s.maps ∧ s'.mem = s.mem ∧
    s'.coh = s.coh ∧ s'.boot = s.boot ∧ s'.sec = s.sec ∧ s'.net = s.net ∧ s'.ms = s.ms ∧ s'.cr = s.cr ∧ s'.prot = s.prot ∧
    s'.dram = s.dram ∧ s'.flash = s.flash ∧ s'.pwr = s.pwr ∧ s'.isl = s.isl := by
  refine ⟨_, rfl, ?_⟩
  simp

theorem execJunctionTripRelease_frame (av : Avenue) (s : State) : ∃ s', execJunctionTripRelease av s = .next s' ∧
    s'.pending = s.pending ∧ s'.free = s.free ∧ s'.clock = s.clock ∧ s'.out = s.out ∧ s'.regs = s.regs ∧ s'.host = s.host ∧
    s'.time = s.time ∧ s'.maps = s.maps ∧ s'.mem = s.mem ∧ s'.coh = s.coh ∧ s'.boot = s.boot ∧ s'.sec = s.sec ∧ s'.net = s.net ∧
    s'.ms = s.ms ∧ s'.cr = s.cr ∧ s'.prot = s.prot ∧ s'.dram = s.dram ∧ s'.flash = s.flash ∧ s'.eng = s.eng ∧ s'.pwr = s.pwr ∧
    s'.isl = s.isl := by
  refine ⟨_, rfl, ?_⟩
  simp

theorem execThermalStep_frame (tj : List (Nat × Int)) (s : State) : ∃ s', execThermalStep tj s = .next s' ∧
    s'.pending = s.pending ∧ s'.free = s.free ∧ s'.clock = s.clock ∧ s'.regs = s.regs ∧ s'.time = s.time ∧ s'.maps = s.maps ∧
    s'.mem = s.mem ∧ s'.coh = s.coh ∧ s'.boot = s.boot ∧ s'.sec = s.sec ∧ s'.net = s.net ∧ s'.ms = s.ms ∧ s'.cr = s.cr ∧ s'.prot = s.prot ∧
    s'.dram = s.dram ∧ s'.flash = s.flash ∧ s'.pwr = s.pwr ∧ s'.isl = s.isl := by
  refine ⟨_, rfl, ?_⟩
  simp

theorem execNeighbourLimit_frame (av : Avenue) (other : Avenue) (volt : Bool) (temp : Bool) (s : State) :
    ∃ s', execNeighbourLimit av other volt temp s = .next s' ∧
    s'.pending = s.pending ∧ s'.free = s.free ∧ s'.clock = s.clock ∧ s'.regs = s.regs ∧ s'.time = s.time ∧ s'.maps = s.maps ∧
    s'.mem = s.mem ∧ s'.coh = s.coh ∧ s'.boot = s.boot ∧ s'.sec = s.sec ∧ s'.net = s.net ∧ s'.ms = s.ms ∧ s'.cr = s.cr ∧ s'.prot = s.prot ∧
    s'.dram = s.dram ∧ s'.flash = s.flash ∧ s'.eng = s.eng ∧ s'.pwr = s.pwr ∧ s'.isl = s.isl := by
  refine ⟨_, rfl, ?_⟩
  simp

theorem execNeighbourDrain_frame (av : Avenue) (x1 : Avenue) (inLimits : Bool) (s : State) :
    ∃ s', execNeighbourDrain av x1 inLimits s = .next s' ∧
    s'.pending = s.pending ∧ s'.free = s.free ∧ s'.clock = s.clock ∧ s'.out = s.out ∧ s'.time = s.time ∧ s'.maps = s.maps ∧
    s'.mem = s.mem ∧ s'.coh = s.coh ∧ s'.boot = s.boot ∧ s'.sec = s.sec ∧ s'.net = s.net ∧ s'.ms = s.ms ∧ s'.cr = s.cr ∧ s'.prot = s.prot ∧
    s'.dram = s.dram ∧ s'.flash = s.flash ∧ s'.pwr = s.pwr ∧ s'.isl = s.isl := by
  refine ⟨_, rfl, ?_⟩
  repeat' (first | (simp; done) | split)

theorem execTavgSample_frame (av : Avenue) (tj : Int) (s : State) : ∃ s', execTavgSample av tj s = .next s' ∧
    s'.pending = s.pending ∧ s'.free = s.free ∧ s'.clock = s.clock ∧ s'.out = s.out ∧ s'.regs = s.regs ∧ s'.host = s.host ∧
    s'.time = s.time ∧ s'.maps = s.maps ∧ s'.mem = s.mem ∧ s'.coh = s.coh ∧ s'.boot = s.boot ∧ s'.sec = s.sec ∧ s'.net = s.net ∧
    s'.ms = s.ms ∧ s'.cr = s.cr ∧ s'.prot = s.prot ∧ s'.dram = s.dram ∧ s'.flash = s.flash ∧ s'.eng = s.eng ∧ s'.isl = s.isl := by
  refine ⟨_, rfl, ?_⟩
  simp

theorem execTschedHourly_frame (s : State) : ∃ s', execTschedHourly s = .next s' ∧
    s'.pending = s.pending ∧ s'.free = s.free ∧ s'.clock = s.clock ∧ s'.regs = s.regs ∧ s'.time = s.time ∧ s'.maps = s.maps ∧
    s'.mem = s.mem ∧ s'.coh = s.coh ∧ s'.boot = s.boot ∧ s'.avail = s.avail ∧ s'.sec = s.sec ∧ s'.net = s.net ∧ s'.ms = s.ms ∧
    s'.cr = s.cr ∧ s'.prot = s.prot ∧ s'.dram = s.dram ∧ s'.flash = s.flash ∧ s'.eng = s.eng ∧ s'.isl = s.isl := by
  refine ⟨_, rfl, ?_⟩
  simp

theorem execHintPrewake_frame (job : Nat) (s : State) : ∃ s', execHintPrewake job s = .next s' ∧
    s'.pending = s.pending ∧ s'.free = s.free ∧ s'.clock = s.clock ∧ s'.out = s.out ∧ s'.host = s.host ∧ s'.time = s.time ∧
    s'.maps = s.maps ∧ s'.mem = s.mem ∧ s'.coh = s.coh ∧ s'.boot = s.boot ∧ s'.avail = s.avail ∧ s'.sec = s.sec ∧ s'.net = s.net ∧
    s'.ms = s.ms ∧ s'.cr = s.cr ∧ s'.prot = s.prot ∧ s'.dram = s.dram ∧ s'.flash = s.flash ∧ s'.isl = s.isl := by
  refine ⟨_, rfl, ?_⟩
  dsimp only
  repeat' (first | (simp; done) | split)

theorem execPrewakeExpiry_frame (ring : Nat) (s : State) : ∃ s', execPrewakeExpiry ring s = .next s' ∧
    s'.pending = s.pending ∧ s'.free = s.free ∧ s'.clock = s.clock ∧ s'.out = s.out ∧ s'.regs = s.regs ∧ s'.host = s.host ∧
    s'.time = s.time ∧ s'.maps = s.maps ∧ s'.mem = s.mem ∧ s'.coh = s.coh ∧ s'.boot = s.boot ∧ s'.avail = s.avail ∧ s'.sec = s.sec ∧
    s'.net = s.net ∧ s'.ms = s.ms ∧ s'.cr = s.cr ∧ s'.prot = s.prot ∧ s'.dram = s.dram ∧ s'.flash = s.flash ∧ s'.pwr = s.pwr ∧
    s'.isl = s.isl := by
  refine ⟨_, rfl, ?_⟩
  simp

theorem execVddDroopStretch_frame (av : Avenue) (s : State) : ∃ s', execVddDroopStretch av s = .next s' ∧
    s'.pending = s.pending ∧ s'.free = s.free ∧ s'.clock = s.clock ∧ s'.out = s.out ∧ s'.host = s.host ∧ s'.time = s.time ∧
    s'.maps = s.maps ∧ s'.mem = s.mem ∧ s'.coh = s.coh ∧ s'.boot = s.boot ∧ s'.avail = s.avail ∧ s'.sec = s.sec ∧ s'.net = s.net ∧
    s'.ms = s.ms ∧ s'.cr = s.cr ∧ s'.prot = s.prot ∧ s'.dram = s.dram ∧ s'.flash = s.flash ∧ s'.eng = s.eng ∧ s'.pwr = s.pwr ∧
    s'.isl = s.isl := by
  refine ⟨_, rfl, ?_⟩
  simp

theorem execAvenueCheckpoint_frame (av : Avenue) (s : State) : ∃ s', execAvenueCheckpoint av s = .next s' ∧
    s'.pending = s.pending ∧ s'.free = s.free ∧ s'.out = s.out ∧ s'.regs = s.regs ∧ s'.host = s.host ∧ s'.maps = s.maps ∧ s'.mem = s.mem ∧
    s'.coh = s.coh ∧ s'.boot = s.boot ∧ s'.sec = s.sec ∧ s'.net = s.net ∧ s'.ms = s.ms ∧ s'.cr = s.cr ∧ s'.prot = s.prot ∧
    s'.dram = s.dram ∧ s'.flash = s.flash ∧ s'.eng = s.eng ∧ s'.pwr = s.pwr ∧ s'.isl = s.isl := by
  refine ⟨_, rfl, ?_⟩
  dsimp only
  repeat' (first | (simp; done) | split)

theorem execCoreCheckpoint_frame (pair : Pair) (s : State) : ∃ s', execCoreCheckpoint pair s = .next s' ∧
    s'.pending = s.pending ∧ s'.free = s.free ∧ s'.out = s.out ∧ s'.regs = s.regs ∧ s'.host = s.host ∧ s'.maps = s.maps ∧ s'.mem = s.mem ∧
    s'.coh = s.coh ∧ s'.boot = s.boot ∧ s'.sec = s.sec ∧ s'.net = s.net ∧ s'.ms = s.ms ∧ s'.cr = s.cr ∧ s'.prot = s.prot ∧
    s'.dram = s.dram ∧ s'.flash = s.flash ∧ s'.eng = s.eng ∧ s'.pwr = s.pwr ∧ s'.isl = s.isl := by
  refine ⟨_, rfl, ?_⟩
  simp

theorem execStandbySelfTest_frame (pair : Pair) (passed : Bool) (s : State) : ∃ s', execStandbySelfTest pair passed s = .next s' ∧
    s'.pending = s.pending ∧ s'.free = s.free ∧ s'.clock = s.clock ∧ s'.out = s.out ∧ s'.regs = s.regs ∧ s'.host = s.host ∧
    s'.time = s.time ∧ s'.maps = s.maps ∧ s'.mem = s.mem ∧ s'.coh = s.coh ∧ s'.boot = s.boot ∧ s'.sec = s.sec ∧ s'.net = s.net ∧
    s'.ms = s.ms ∧ s'.cr = s.cr ∧ s'.prot = s.prot ∧ s'.dram = s.dram ∧ s'.flash = s.flash ∧ s'.eng = s.eng ∧ s'.pwr = s.pwr ∧
    s'.isl = s.isl := by
  refine ⟨_, rfl, ?_⟩
  simp

theorem execCoreWatchdog_frame (pair : Pair) (s : State) : ∃ s', execCoreWatchdog pair s = .next s' ∧
    s'.pending = s.pending ∧ s'.free = s.free ∧ s'.clock = s.clock ∧ s'.regs = s.regs ∧ s'.time = s.time ∧ s'.maps = s.maps ∧
    s'.mem = s.mem ∧ s'.coh = s.coh ∧ s'.boot = s.boot ∧ s'.sec = s.sec ∧ s'.net = s.net ∧ s'.ms = s.ms ∧ s'.cr = s.cr ∧ s'.prot = s.prot ∧
    s'.dram = s.dram ∧ s'.flash = s.flash ∧ s'.eng = s.eng ∧ s'.pwr = s.pwr ∧ s'.isl = s.isl := by
  refine ⟨_, rfl, ?_⟩
  simp

theorem execAvenueFailed_frame (av : Avenue) (s : State) : ∃ s', execAvenueFailed av s = .next s' ∧
    s'.pending = s.pending ∧ s'.clock = s.clock ∧ s'.boot = s.boot ∧ s'.sec = s.sec ∧ s'.pwr = s.pwr ∧ s'.isl = s.isl := by
  refine ⟨_, rfl, ?_⟩
  simp

theorem execSpareConnect_frame (share : Share) (s : State) : ∃ s', execSpareConnect share s = .next s' ∧
    s'.pending = s.pending ∧ s'.free = s.free ∧ s'.clock = s.clock ∧ s'.host = s.host ∧ s'.time = s.time ∧ s'.maps = s.maps ∧
    s'.mem = s.mem ∧ s'.coh = s.coh ∧ s'.boot = s.boot ∧ s'.sec = s.sec ∧ s'.net = s.net ∧ s'.ms = s.ms ∧ s'.cr = s.cr ∧ s'.prot = s.prot ∧
    s'.flash = s.flash ∧ s'.pwr = s.pwr ∧ s'.isl = s.isl := by
  refine ⟨_, rfl, ?_⟩
  dsimp only
  repeat' (first | (simp; done) | split)

theorem execSpareLoadDone_frame (share : Share) (s : State) : ∃ s', execSpareLoadDone share s = .next s' ∧
    s'.pending = s.pending ∧ s'.free = s.free ∧ s'.clock = s.clock ∧ s'.time = s.time ∧ s'.maps = s.maps ∧ s'.boot = s.boot ∧
    s'.sec = s.sec ∧ s'.ms = s.ms ∧ s'.prot = s.prot ∧ s'.dram = s.dram ∧ s'.flash = s.flash ∧ s'.eng = s.eng ∧ s'.pwr = s.pwr ∧
    s'.isl = s.isl := by
  refine ⟨_, rfl, ?_⟩
  simp

theorem execShareReopen_frame (share : Share) (s : State) : ∃ s', execShareReopen share s = .next s' ∧
    s'.pending = s.pending ∧ s'.boot = s.boot ∧ s'.sec = s.sec ∧ s'.pwr = s.pwr ∧ s'.isl = s.isl := by
  refine ⟨_, rfl, ?_⟩
  dsimp only
  repeat' (first | (simp; done) | split)

theorem execRefreshKeeperTakeover_frame (share : Share) (s : State) : ∃ s', execRefreshKeeperTakeover share s = .next s' ∧
    s'.pending = s.pending ∧ s'.free = s.free ∧ s'.clock = s.clock ∧ s'.host = s.host ∧ s'.time = s.time ∧ s'.maps = s.maps ∧
    s'.mem = s.mem ∧ s'.coh = s.coh ∧ s'.boot = s.boot ∧ s'.sec = s.sec ∧ s'.net = s.net ∧ s'.ms = s.ms ∧ s'.cr = s.cr ∧ s'.prot = s.prot ∧
    s'.flash = s.flash ∧ s'.eng = s.eng ∧ s'.pwr = s.pwr ∧ s'.isl = s.isl := by
  refine ⟨_, rfl, ?_⟩
  simp

theorem execSelfTestLapStart_frame (av : Avenue) (s : State) : ∃ s', execSelfTestLapStart av s = .next s' ∧
    s'.pending = s.pending ∧ s'.free = s.free ∧ s'.out = s.out ∧ s'.regs = s.regs ∧ s'.host = s.host ∧ s'.maps = s.maps ∧ s'.mem = s.mem ∧
    s'.coh = s.coh ∧ s'.boot = s.boot ∧ s'.sec = s.sec ∧ s'.net = s.net ∧ s'.ms = s.ms ∧ s'.cr = s.cr ∧ s'.prot = s.prot ∧
    s'.dram = s.dram ∧ s'.flash = s.flash ∧ s'.pwr = s.pwr ∧ s'.isl = s.isl := by
  refine ⟨_, rfl, ?_⟩
  dsimp only
  repeat' (first | (simp; done) | split)

theorem execSelfTestSegmentDone_frame (av : Avenue) (segment : Nat) (passed : Bool) (last : Bool) (s : State) :
    ∃ s', execSelfTestSegmentDone av segment passed last s = .next s' ∧
    s'.pending = s.pending ∧ s'.clock = s.clock ∧ s'.boot = s.boot ∧ s'.sec = s.sec ∧ s'.pwr = s.pwr ∧ s'.isl = s.isl := by
  refine ⟨_, rfl, ?_⟩
  simp

theorem execSpdmGetVersion_frame (t : Transport) (s : State) : ∃ s', execSpdmGetVersion t s = .next s' ∧
    s'.pending = s.pending ∧ s'.free = s.free ∧ s'.clock = s.clock ∧ s'.regs = s.regs ∧ s'.host = s.host ∧ s'.time = s.time ∧
    s'.maps = s.maps ∧ s'.mem = s.mem ∧ s'.coh = s.coh ∧ s'.boot = s.boot ∧ s'.avail = s.avail ∧ s'.sec = s.sec ∧ s'.net = s.net ∧
    s'.ms = s.ms ∧ s'.cr = s.cr ∧ s'.prot = s.prot ∧ s'.dram = s.dram ∧ s'.flash = s.flash ∧ s'.eng = s.eng ∧ s'.pwr = s.pwr ∧
    s'.isl = s.isl := by
  refine ⟨_, rfl, ?_⟩
  simp

theorem execSpdmGetCapabilities_frame (t : Transport) (s : State) : ∃ s', execSpdmGetCapabilities t s = .next s' ∧
    s'.pending = s.pending ∧ s'.free = s.free ∧ s'.clock = s.clock ∧ s'.regs = s.regs ∧ s'.host = s.host ∧ s'.time = s.time ∧
    s'.maps = s.maps ∧ s'.mem = s.mem ∧ s'.coh = s.coh ∧ s'.boot = s.boot ∧ s'.avail = s.avail ∧ s'.sec = s.sec ∧ s'.net = s.net ∧
    s'.ms = s.ms ∧ s'.cr = s.cr ∧ s'.prot = s.prot ∧ s'.dram = s.dram ∧ s'.flash = s.flash ∧ s'.eng = s.eng ∧ s'.pwr = s.pwr ∧
    s'.isl = s.isl := by
  refine ⟨_, rfl, ?_⟩
  simp

theorem execSpdmNegotiateAlgorithms_frame (t : Transport) (offered : List Nat) (s : State) :
    ∃ s', execSpdmNegotiateAlgorithms t offered s = .next s' ∧
    s'.pending = s.pending ∧ s'.free = s.free ∧ s'.clock = s.clock ∧ s'.regs = s.regs ∧ s'.host = s.host ∧ s'.time = s.time ∧
    s'.maps = s.maps ∧ s'.mem = s.mem ∧ s'.coh = s.coh ∧ s'.boot = s.boot ∧ s'.avail = s.avail ∧ s'.sec = s.sec ∧ s'.net = s.net ∧
    s'.ms = s.ms ∧ s'.cr = s.cr ∧ s'.prot = s.prot ∧ s'.dram = s.dram ∧ s'.flash = s.flash ∧ s'.eng = s.eng ∧ s'.pwr = s.pwr ∧
    s'.isl = s.isl := by
  refine ⟨_, rfl, ?_⟩
  simp

theorem execSpdmGetDigests_frame (t : Transport) (s : State) : ∃ s', execSpdmGetDigests t s = .next s' ∧
    s'.pending = s.pending ∧ s'.free = s.free ∧ s'.clock = s.clock ∧ s'.regs = s.regs ∧ s'.host = s.host ∧ s'.time = s.time ∧
    s'.maps = s.maps ∧ s'.mem = s.mem ∧ s'.coh = s.coh ∧ s'.boot = s.boot ∧ s'.avail = s.avail ∧ s'.sec = s.sec ∧ s'.net = s.net ∧
    s'.ms = s.ms ∧ s'.cr = s.cr ∧ s'.prot = s.prot ∧ s'.dram = s.dram ∧ s'.flash = s.flash ∧ s'.eng = s.eng ∧ s'.pwr = s.pwr ∧
    s'.isl = s.isl := by
  refine ⟨_, rfl, ?_⟩
  simp

theorem execSpdmGetCertificate_frame (t : Transport) (slot : Nat) (offset : Nat) (length : Nat) (s : State) :
    ∃ s', execSpdmGetCertificate t slot offset length s = .next s' ∧
    s'.pending = s.pending ∧ s'.free = s.free ∧ s'.clock = s.clock ∧ s'.regs = s.regs ∧ s'.host = s.host ∧ s'.time = s.time ∧
    s'.maps = s.maps ∧ s'.mem = s.mem ∧ s'.coh = s.coh ∧ s'.boot = s.boot ∧ s'.avail = s.avail ∧ s'.sec = s.sec ∧ s'.net = s.net ∧
    s'.ms = s.ms ∧ s'.cr = s.cr ∧ s'.prot = s.prot ∧ s'.dram = s.dram ∧ s'.flash = s.flash ∧ s'.eng = s.eng ∧ s'.pwr = s.pwr ∧
    s'.isl = s.isl := by
  refine ⟨_, rfl, ?_⟩
  simp

theorem execSpdmChallenge_frame (t : Transport) (slot : Nat) (nonce : Nat) (s : State) : ∃ s', execSpdmChallenge t slot nonce s = .next s' ∧
    s'.pending = s.pending ∧ s'.free = s.free ∧ s'.clock = s.clock ∧ s'.regs = s.regs ∧ s'.host = s.host ∧ s'.time = s.time ∧
    s'.maps = s.maps ∧ s'.mem = s.mem ∧ s'.coh = s.coh ∧ s'.boot = s.boot ∧ s'.avail = s.avail ∧ s'.sec = s.sec ∧ s'.net = s.net ∧
    s'.ms = s.ms ∧ s'.cr = s.cr ∧ s'.prot = s.prot ∧ s'.dram = s.dram ∧ s'.flash = s.flash ∧ s'.eng = s.eng ∧ s'.pwr = s.pwr ∧
    s'.isl = s.isl := by
  refine ⟨_, rfl, ?_⟩
  simp

theorem execSpdmGetMeasurements_frame (t : Transport) (op : Nat) (nonce : Nat) (sign : Bool) (s : State) :
    ∃ s', execSpdmGetMeasurements t op nonce sign s = .next s' ∧
    s'.pending = s.pending ∧ s'.free = s.free ∧ s'.clock = s.clock ∧ s'.regs = s.regs ∧ s'.host = s.host ∧ s'.time = s.time ∧
    s'.maps = s.maps ∧ s'.mem = s.mem ∧ s'.coh = s.coh ∧ s'.boot = s.boot ∧ s'.avail = s.avail ∧ s'.sec = s.sec ∧ s'.net = s.net ∧
    s'.ms = s.ms ∧ s'.cr = s.cr ∧ s'.prot = s.prot ∧ s'.dram = s.dram ∧ s'.flash = s.flash ∧ s'.eng = s.eng ∧ s'.pwr = s.pwr ∧
    s'.isl = s.isl := by
  refine ⟨_, rfl, ?_⟩
  simp

theorem execSpdmKeyExchange_frame (t : Transport) (share : Nat) (s : State) : ∃ s', execSpdmKeyExchange t share s = .next s' ∧
    s'.pending = s.pending ∧ s'.free = s.free ∧ s'.clock = s.clock ∧ s'.regs = s.regs ∧ s'.host = s.host ∧ s'.time = s.time ∧
    s'.maps = s.maps ∧ s'.mem = s.mem ∧ s'.coh = s.coh ∧ s'.boot = s.boot ∧ s'.avail = s.avail ∧ s'.net = s.net ∧ s'.ms = s.ms ∧
    s'.cr = s.cr ∧ s'.prot = s.prot ∧ s'.dram = s.dram ∧ s'.flash = s.flash ∧ s'.eng = s.eng ∧ s'.pwr = s.pwr ∧ s'.isl = s.isl := by
  refine ⟨_, rfl, ?_⟩
  simp

theorem execSpdmFinish_frame (t : Transport) (session : Nat) (ok : Bool) (s : State) : ∃ s', execSpdmFinish t session ok s = .next s' ∧
    s'.pending = s.pending ∧ s'.free = s.free ∧ s'.clock = s.clock ∧ s'.regs = s.regs ∧ s'.host = s.host ∧ s'.time = s.time ∧
    s'.maps = s.maps ∧ s'.mem = s.mem ∧ s'.coh = s.coh ∧ s'.boot = s.boot ∧ s'.avail = s.avail ∧ s'.net = s.net ∧ s'.ms = s.ms ∧
    s'.cr = s.cr ∧ s'.prot = s.prot ∧ s'.dram = s.dram ∧ s'.flash = s.flash ∧ s'.eng = s.eng ∧ s'.pwr = s.pwr ∧ s'.isl = s.isl := by
  refine ⟨_, rfl, ?_⟩
  repeat' (first | (simp; done) | split)

theorem execSpdmHeartbeat_frame (t : Transport) (session : Nat) (s : State) : ∃ s', execSpdmHeartbeat t session s = .next s' ∧
    s'.pending = s.pending ∧ s'.free = s.free ∧ s'.clock = s.clock ∧ s'.regs = s.regs ∧ s'.host = s.host ∧ s'.time = s.time ∧
    s'.maps = s.maps ∧ s'.mem = s.mem ∧ s'.coh = s.coh ∧ s'.boot = s.boot ∧ s'.avail = s.avail ∧ s'.sec = s.sec ∧ s'.net = s.net ∧
    s'.ms = s.ms ∧ s'.cr = s.cr ∧ s'.prot = s.prot ∧ s'.dram = s.dram ∧ s'.flash = s.flash ∧ s'.eng = s.eng ∧ s'.pwr = s.pwr ∧
    s'.isl = s.isl := by
  refine ⟨_, rfl, ?_⟩
  repeat' (first | (simp; done) | split)

theorem execSpdmKeyUpdate_frame (t : Transport) (session : Nat) (s : State) : ∃ s', execSpdmKeyUpdate t session s = .next s' ∧
    s'.pending = s.pending ∧ s'.free = s.free ∧ s'.clock = s.clock ∧ s'.regs = s.regs ∧ s'.host = s.host ∧ s'.time = s.time ∧
    s'.maps = s.maps ∧ s'.mem = s.mem ∧ s'.coh = s.coh ∧ s'.boot = s.boot ∧ s'.avail = s.avail ∧ s'.net = s.net ∧ s'.ms = s.ms ∧
    s'.cr = s.cr ∧ s'.prot = s.prot ∧ s'.dram = s.dram ∧ s'.flash = s.flash ∧ s'.eng = s.eng ∧ s'.pwr = s.pwr ∧ s'.isl = s.isl := by
  refine ⟨_, rfl, ?_⟩
  repeat' (first | (simp; done) | split)

theorem execSpdmEndSession_frame (t : Transport) (session : Nat) (s : State) : ∃ s', execSpdmEndSession t session s = .next s' ∧
    s'.pending = s.pending ∧ s'.free = s.free ∧ s'.clock = s.clock ∧ s'.regs = s.regs ∧ s'.time = s.time ∧ s'.maps = s.maps ∧
    s'.mem = s.mem ∧ s'.coh = s.coh ∧ s'.boot = s.boot ∧ s'.avail = s.avail ∧ s'.net = s.net ∧ s'.ms = s.ms ∧ s'.cr = s.cr ∧
    s'.prot = s.prot ∧ s'.dram = s.dram ∧ s'.flash = s.flash ∧ s'.eng = s.eng ∧ s'.pwr = s.pwr ∧ s'.isl = s.isl := by
  refine ⟨_, rfl, ?_⟩
  repeat' (first | (simp; done) | split)

theorem execSpdmHeartbeatTimeout_frame (session : Nat) (s : State) : ∃ s', execSpdmHeartbeatTimeout session s = .next s' ∧
    s'.pending = s.pending ∧ s'.free = s.free ∧ s'.clock = s.clock ∧ s'.regs = s.regs ∧ s'.time = s.time ∧ s'.maps = s.maps ∧
    s'.mem = s.mem ∧ s'.coh = s.coh ∧ s'.boot = s.boot ∧ s'.avail = s.avail ∧ s'.net = s.net ∧ s'.ms = s.ms ∧ s'.cr = s.cr ∧
    s'.prot = s.prot ∧ s'.dram = s.dram ∧ s'.flash = s.flash ∧ s'.eng = s.eng ∧ s'.pwr = s.pwr ∧ s'.isl = s.isl := by
  refine ⟨_, rfl, ?_⟩
  simp

theorem execIdeKmMessage_frame (port : HPort) (session : Nat) (stream : Nat) (op : Nat) (key : Nat) (s : State) :
    ∃ s', execIdeKmMessage port session stream op key s = .next s' ∧
    s'.pending = s.pending ∧ s'.free = s.free ∧ s'.clock = s.clock ∧ s'.regs = s.regs ∧ s'.host = s.host ∧ s'.time = s.time ∧
    s'.maps = s.maps ∧ s'.mem = s.mem ∧ s'.coh = s.coh ∧ s'.boot = s.boot ∧ s'.avail = s.avail ∧ s'.net = s.net ∧ s'.ms = s.ms ∧
    s'.cr = s.cr ∧ s'.prot = s.prot ∧ s'.dram = s.dram ∧ s'.flash = s.flash ∧ s'.eng = s.eng ∧ s'.pwr = s.pwr ∧ s'.isl = s.isl := by
  refine ⟨_, rfl, ?_⟩
  dsimp only
  repeat' (first | (simp; done) | split)

theorem execTdispMessage_frame (port : HPort) (session : Nat) (fn : Nat) (op : Nat) (s : State) :
    ∃ s', execTdispMessage port session fn op s = .next s' ∧
    s'.pending = s.pending ∧ s'.free = s.free ∧ s'.clock = s.clock ∧ s'.regs = s.regs ∧ s'.time = s.time ∧ s'.maps = s.maps ∧
    s'.mem = s.mem ∧ s'.coh = s.coh ∧ s'.boot = s.boot ∧ s'.avail = s.avail ∧ s'.sec = s.sec ∧ s'.net = s.net ∧ s'.ms = s.ms ∧
    s'.cr = s.cr ∧ s'.prot = s.prot ∧ s'.dram = s.dram ∧ s'.flash = s.flash ∧ s'.eng = s.eng ∧ s'.pwr = s.pwr ∧ s'.isl = s.isl := by
  refine ⟨_, rfl, ?_⟩
  simp

theorem execEntropyFail_frame (s : State) : ∃ s', execEntropyFail s = .next s' ∧
    s'.pending = s.pending ∧ s'.free = s.free ∧ s'.clock = s.clock ∧ s'.regs = s.regs ∧ s'.time = s.time ∧ s'.maps = s.maps ∧
    s'.mem = s.mem ∧ s'.coh = s.coh ∧ s'.boot = s.boot ∧ s'.avail = s.avail ∧ s'.net = s.net ∧ s'.ms = s.ms ∧ s'.cr = s.cr ∧
    s'.prot = s.prot ∧ s'.dram = s.dram ∧ s'.flash = s.flash ∧ s'.eng = s.eng ∧ s'.pwr = s.pwr ∧ s'.isl = s.isl := by
  refine ⟨_, rfl, ?_⟩
  simp

theorem execMctpControl_frame (cmd : Nat) (arg : Nat) (s : State) : ∃ s', execMctpControl cmd arg s = .next s' ∧
    s'.pending = s.pending ∧ s'.clock = s.clock ∧ s'.regs = s.regs ∧ s'.host = s.host ∧ s'.time = s.time ∧ s'.maps = s.maps ∧
    s'.mem = s.mem ∧ s'.coh = s.coh ∧ s'.boot = s.boot ∧ s'.avail = s.avail ∧ s'.sec = s.sec ∧ s'.net = s.net ∧ s'.ms = s.ms ∧
    s'.cr = s.cr ∧ s'.prot = s.prot ∧ s'.dram = s.dram ∧ s'.flash = s.flash ∧ s'.eng = s.eng ∧ s'.pwr = s.pwr ∧ s'.isl = s.isl := by
  refine ⟨_, rfl, ?_⟩
  simp

theorem execPldmBase_frame (cmd : Nat) (s : State) : ∃ s', execPldmBase cmd s = .next s' ∧
    s'.pending = s.pending ∧ s'.clock = s.clock ∧ s'.regs = s.regs ∧ s'.host = s.host ∧ s'.time = s.time ∧ s'.maps = s.maps ∧
    s'.mem = s.mem ∧ s'.coh = s.coh ∧ s'.boot = s.boot ∧ s'.avail = s.avail ∧ s'.sec = s.sec ∧ s'.net = s.net ∧ s'.ms = s.ms ∧
    s'.cr = s.cr ∧ s'.prot = s.prot ∧ s'.dram = s.dram ∧ s'.flash = s.flash ∧ s'.eng = s.eng ∧ s'.pwr = s.pwr ∧ s'.isl = s.isl := by
  refine ⟨_, rfl, ?_⟩
  simp

theorem execPldmMonitor_frame (sensor : Nat) (s : State) : ∃ s', execPldmMonitor sensor s = .next s' ∧
    s'.pending = s.pending ∧ s'.clock = s.clock ∧ s'.regs = s.regs ∧ s'.host = s.host ∧ s'.time = s.time ∧ s'.maps = s.maps ∧
    s'.mem = s.mem ∧ s'.coh = s.coh ∧ s'.boot = s.boot ∧ s'.avail = s.avail ∧ s'.sec = s.sec ∧ s'.net = s.net ∧ s'.ms = s.ms ∧
    s'.cr = s.cr ∧ s'.prot = s.prot ∧ s'.dram = s.dram ∧ s'.flash = s.flash ∧ s'.eng = s.eng ∧ s'.pwr = s.pwr ∧ s'.isl = s.isl := by
  refine ⟨_, rfl, ?_⟩
  simp

theorem execPldmFwUpdate_frame (b : Bundle) (s : State) : ∃ s', execPldmFwUpdate b s = .next s' ∧
    s'.pending = s.pending ∧ s'.free = s.free ∧ s'.clock = s.clock ∧ s'.out = s.out ∧ s'.regs = s.regs ∧ s'.host = s.host ∧
    s'.time = s.time ∧ s'.maps = s.maps ∧ s'.mem = s.mem ∧ s'.coh = s.coh ∧ s'.boot = s.boot ∧ s'.sec = s.sec ∧ s'.net = s.net ∧
    s'.ms = s.ms ∧ s'.cr = s.cr ∧ s'.prot = s.prot ∧ s'.dram = s.dram ∧ s'.flash = s.flash ∧ s'.eng = s.eng ∧ s'.pwr = s.pwr ∧
    s'.isl = s.isl := by
  refine ⟨_, rfl, ?_⟩
  simp

theorem execPrgResponse_frame (dma : Nat) (code : Nat) (s : State) : ∃ s', execPrgResponse dma code s = .next s' ∧
    s'.pending = s.pending ∧ s'.clock = s.clock ∧ s'.time = s.time ∧ s'.maps = s.maps ∧ s'.mem = s.mem ∧ s'.boot = s.boot ∧
    s'.avail = s.avail ∧ s'.sec = s.sec ∧ s'.prot = s.prot ∧ s'.dram = s.dram ∧ s'.eng = s.eng ∧ s'.pwr = s.pwr ∧ s'.isl = s.isl := by
  refine ⟨_, rfl, ?_⟩
  repeat' (first | (simp; done) | split)

theorem execPriTimeout_frame (dma : Nat) (s : State) : ∃ s', execPriTimeout dma s = .next s' ∧
    s'.pending = s.pending ∧ s'.maps = s.maps ∧ s'.mem = s.mem ∧ s'.boot = s.boot ∧ s'.avail = s.avail ∧ s'.sec = s.sec ∧
    s'.prot = s.prot ∧ s'.dram = s.dram ∧ s'.eng = s.eng ∧ s'.pwr = s.pwr ∧ s'.isl = s.isl := by
  refine ⟨_, rfl, ?_⟩
  repeat' (first | (simp; done) | split)

theorem execAtsInvalidate_frame (port : HPort) (fn : Nat) (page : Nat) (s : State) : ∃ s', execAtsInvalidate port fn page s = .next s' ∧
    s'.pending = s.pending ∧ s'.free = s.free ∧ s'.clock = s.clock ∧ s'.regs = s.regs ∧ s'.time = s.time ∧ s'.maps = s.maps ∧
    s'.mem = s.mem ∧ s'.coh = s.coh ∧ s'.boot = s.boot ∧ s'.avail = s.avail ∧ s'.sec = s.sec ∧ s'.net = s.net ∧ s'.ms = s.ms ∧
    s'.cr = s.cr ∧ s'.prot = s.prot ∧ s'.dram = s.dram ∧ s'.flash = s.flash ∧ s'.eng = s.eng ∧ s'.pwr = s.pwr ∧ s'.isl = s.isl := by
  refine ⟨_, rfl, ?_⟩
  simp

theorem execJlRefclkLoss_frame (q : Fin 3) (s : State) : ∃ s', execJlRefclkLoss q s = .next s' ∧
    s'.pending = s.pending ∧ s'.free = s.free ∧ s'.clock = s.clock ∧ s'.maps = s.maps ∧ s'.mem = s.mem ∧ s'.coh = s.coh ∧
    s'.boot = s.boot ∧ s'.avail = s.avail ∧ s'.sec = s.sec ∧ s'.ms = s.ms ∧ s'.cr = s.cr ∧ s'.prot = s.prot ∧ s'.dram = s.dram ∧
    s'.flash = s.flash ∧ s'.eng = s.eng ∧ s'.pwr = s.pwr ∧ s'.isl = s.isl := by
  refine ⟨_, rfl, ?_⟩
  simp

theorem execIslandStart_frame (st : IslandStart) (s : State) : ∃ s', execIslandStart st s = .next s' ∧
    s'.pending = s.pending ∧ s'.free = s.free ∧ s'.clock = s.clock ∧ s'.out = s.out ∧ s'.regs = s.regs ∧ s'.host = s.host ∧
    s'.time = s.time ∧ s'.maps = s.maps ∧ s'.mem = s.mem ∧ s'.coh = s.coh ∧ s'.boot = s.boot ∧ s'.avail = s.avail ∧ s'.sec = s.sec ∧
    s'.net = s.net ∧ s'.ms = s.ms ∧ s'.cr = s.cr ∧ s'.prot = s.prot ∧ s'.dram = s.dram ∧ s'.flash = s.flash ∧ s'.eng = s.eng ∧
    s'.pwr = s.pwr := by
  refine ⟨_, rfl, ?_⟩
  simp

theorem execIslandBrownOut_frame (s : State) : ∃ s', execIslandBrownOut s = .next s' ∧
    s'.pending = s.pending ∧ s'.free = s.free ∧ s'.clock = s.clock ∧ s'.out = s.out ∧ s'.regs = s.regs ∧ s'.host = s.host ∧
    s'.time = s.time ∧ s'.maps = s.maps ∧ s'.mem = s.mem ∧ s'.coh = s.coh ∧ s'.boot = s.boot ∧ s'.avail = s.avail ∧ s'.sec = s.sec ∧
    s'.net = s.net ∧ s'.ms = s.ms ∧ s'.cr = s.cr ∧ s'.prot = s.prot ∧ s'.dram = s.dram ∧ s'.flash = s.flash ∧ s'.eng = s.eng ∧
    s'.pwr = s.pwr := by
  refine ⟨_, rfl, ?_⟩
  simp

theorem execTapUpdate_frame (s0 : List (Int × Int)) (s1 : List (Int × Int)) (s : State) : ∃ s', execTapUpdate s0 s1 s = .next s' ∧
    s'.pending = s.pending ∧ s'.free = s.free ∧ s'.clock = s.clock ∧ s'.regs = s.regs ∧ s'.host = s.host ∧ s'.time = s.time ∧
    s'.maps = s.maps ∧ s'.mem = s.mem ∧ s'.coh = s.coh ∧ s'.boot = s.boot ∧ s'.avail = s.avail ∧ s'.sec = s.sec ∧ s'.net = s.net ∧
    s'.ms = s.ms ∧ s'.cr = s.cr ∧ s'.prot = s.prot ∧ s'.dram = s.dram ∧ s'.flash = s.flash ∧ s'.eng = s.eng ∧ s'.pwr = s.pwr := by
  refine ⟨_, rfl, ?_⟩
  simp

theorem execMeteringPeriodEnd_frame (s : State) : ∃ s', execMeteringPeriodEnd s = .next s' ∧
    s'.pending = s.pending ∧ s'.free = s.free ∧ s'.clock = s.clock ∧ s'.out = s.out ∧ s'.regs = s.regs ∧ s'.host = s.host ∧
    s'.time = s.time ∧ s'.maps = s.maps ∧ s'.mem = s.mem ∧ s'.coh = s.coh ∧ s'.boot = s.boot ∧ s'.avail = s.avail ∧ s'.sec = s.sec ∧
    s'.net = s.net ∧ s'.ms = s.ms ∧ s'.cr = s.cr ∧ s'.prot = s.prot ∧ s'.dram = s.dram ∧ s'.flash = s.flash ∧ s'.eng = s.eng ∧
    s'.pwr = s.pwr := by
  refine ⟨_, rfl, ?_⟩
  simp

theorem execActivityFrameSend_frame (s : State) : ∃ s', execActivityFrameSend s = .next s' ∧
    s'.pending = s.pending ∧ s'.regs = s.regs ∧ s'.host = s.host ∧ s'.maps = s.maps ∧ s'.mem = s.mem ∧ s'.coh = s.coh ∧ s'.boot = s.boot ∧
    s'.avail = s.avail ∧ s'.sec = s.sec ∧ s'.net = s.net ∧ s'.ms = s.ms ∧ s'.cr = s.cr ∧ s'.prot = s.prot ∧ s'.dram = s.dram ∧
    s'.flash = s.flash ∧ s'.eng = s.eng ∧ s'.isl = s.isl := by
  refine ⟨_, rfl, ?_⟩
  simp

theorem execActivityFrameReceive_frame (f : Frame) (s : State) : ∃ s', execActivityFrameReceive f s = .next s' ∧
    s'.pending = s.pending ∧ s'.free = s.free ∧ s'.clock = s.clock ∧ s'.out = s.out ∧ s'.regs = s.regs ∧ s'.host = s.host ∧
    s'.time = s.time ∧ s'.maps = s.maps ∧ s'.mem = s.mem ∧ s'.coh = s.coh ∧ s'.boot = s.boot ∧ s'.avail = s.avail ∧ s'.sec = s.sec ∧
    s'.net = s.net ∧ s'.ms = s.ms ∧ s'.cr = s.cr ∧ s'.prot = s.prot ∧ s'.dram = s.dram ∧ s'.flash = s.flash ∧ s'.eng = s.eng ∧
    s'.pwr = s.pwr := by
  refine ⟨_, rfl, ?_⟩
  simp

theorem execPipeLost_frame (s : State) : ∃ s', execPipeLost s = .next s' ∧
    s'.pending = s.pending ∧ s'.free = s.free ∧ s'.clock = s.clock ∧ s'.out = s.out ∧ s'.regs = s.regs ∧ s'.host = s.host ∧
    s'.time = s.time ∧ s'.maps = s.maps ∧ s'.mem = s.mem ∧ s'.coh = s.coh ∧ s'.boot = s.boot ∧ s'.avail = s.avail ∧ s'.sec = s.sec ∧
    s'.net = s.net ∧ s'.ms = s.ms ∧ s'.cr = s.cr ∧ s'.prot = s.prot ∧ s'.dram = s.dram ∧ s'.flash = s.flash ∧ s'.eng = s.eng ∧
    s'.pwr = s.pwr := by
  refine ⟨_, rfl, ?_⟩
  simp

theorem execTamperChange_frame (asserted : Bool) (s : State) : ∃ s', execTamperChange asserted s = .next s' ∧
    s'.pending = s.pending ∧ s'.free = s.free ∧ s'.clock = s.clock ∧ s'.out = s.out ∧ s'.regs = s.regs ∧ s'.host = s.host ∧
    s'.time = s.time ∧ s'.maps = s.maps ∧ s'.mem = s.mem ∧ s'.coh = s.coh ∧ s'.boot = s.boot ∧ s'.avail = s.avail ∧ s'.sec = s.sec ∧
    s'.net = s.net ∧ s'.ms = s.ms ∧ s'.cr = s.cr ∧ s'.prot = s.prot ∧ s'.dram = s.dram ∧ s'.flash = s.flash ∧ s'.eng = s.eng ∧
    s'.pwr = s.pwr := by
  refine ⟨_, rfl, ?_⟩
  simp

theorem execCrystalFault_frame (s : State) : ∃ s', execCrystalFault s = .next s' ∧
    s'.pending = s.pending ∧ s'.free = s.free ∧ s'.clock = s.clock ∧ s'.out = s.out ∧ s'.regs = s.regs ∧ s'.host = s.host ∧
    s'.time = s.time ∧ s'.maps = s.maps ∧ s'.mem = s.mem ∧ s'.coh = s.coh ∧ s'.boot = s.boot ∧ s'.avail = s.avail ∧ s'.sec = s.sec ∧
    s'.net = s.net ∧ s'.ms = s.ms ∧ s'.cr = s.cr ∧ s'.prot = s.prot ∧ s'.dram = s.dram ∧ s'.flash = s.flash ∧ s'.eng = s.eng ∧
    s'.pwr = s.pwr := by
  refine ⟨_, rfl, ?_⟩
  simp

theorem execOtpProgram_frame (data : List Byte) (progEn : Bool) (s : State) : ∃ s', execOtpProgram data progEn s = .next s' ∧
    s'.pending = s.pending ∧ s'.free = s.free ∧ s'.clock = s.clock ∧ s'.out = s.out ∧ s'.regs = s.regs ∧ s'.host = s.host ∧
    s'.time = s.time ∧ s'.maps = s.maps ∧ s'.mem = s.mem ∧ s'.coh = s.coh ∧ s'.boot = s.boot ∧ s'.avail = s.avail ∧ s'.sec = s.sec ∧
    s'.net = s.net ∧ s'.ms = s.ms ∧ s'.cr = s.cr ∧ s'.prot = s.prot ∧ s'.dram = s.dram ∧ s'.flash = s.flash ∧ s'.eng = s.eng ∧
    s'.pwr = s.pwr := by
  refine ⟨_, rfl, ?_⟩
  simp

theorem execHistorySelect_frame (sel : Nat) (s : State) : ∃ s', execHistorySelect sel s = .next s' ∧
    s'.pending = s.pending ∧ s'.free = s.free ∧ s'.clock = s.clock ∧ s'.out = s.out ∧ s'.regs = s.regs ∧ s'.host = s.host ∧
    s'.time = s.time ∧ s'.maps = s.maps ∧ s'.mem = s.mem ∧ s'.coh = s.coh ∧ s'.boot = s.boot ∧ s'.avail = s.avail ∧ s'.sec = s.sec ∧
    s'.net = s.net ∧ s'.ms = s.ms ∧ s'.cr = s.cr ∧ s'.prot = s.prot ∧ s'.dram = s.dram ∧ s'.flash = s.flash ∧ s'.eng = s.eng ∧
    s'.pwr = s.pwr := by
  refine ⟨_, rfl, ?_⟩
  simp

theorem execAtsTranslationCompletion_frame (dma : Nat) (granted : Bool) (s : State) :
    ∃ s', execAtsTranslationCompletion dma granted s = .next s' ∧
    s'.pending = s.pending ∧ s'.clock = s.clock ∧ s'.time = s.time ∧ s'.maps = s.maps ∧ s'.mem = s.mem ∧ s'.boot = s.boot ∧
    s'.avail = s.avail ∧ s'.sec = s.sec ∧ s'.prot = s.prot ∧ s'.dram = s.dram ∧ s'.eng = s.eng ∧ s'.pwr = s.pwr ∧ s'.isl = s.isl := by
  refine ⟨_, rfl, ?_⟩
  repeat' (first | (simp; done) | split)

theorem execHostDmaPageDone_frame (dma : Nat) (data : List Byte) (s : State) : ∃ s', execHostDmaPageDone dma data s = .next s' ∧
    s'.pending = s.pending ∧ s'.clock = s.clock ∧ s'.boot = s.boot ∧ s'.eng = s.eng ∧ s'.pwr = s.pwr ∧ s'.isl = s.isl := by
  refine ⟨_, rfl, ?_⟩
  repeat' (first | (simp; done) | split)

theorem execNvmeControllerReady_frame (slot : Slot) (s : State) : ∃ s', execNvmeControllerReady slot s = .next s' ∧
    s'.pending = s.pending ∧ s'.free = s.free ∧ s'.clock = s.clock ∧ s'.regs = s.regs ∧ s'.host = s.host ∧ s'.time = s.time ∧
    s'.maps = s.maps ∧ s'.mem = s.mem ∧ s'.coh = s.coh ∧ s'.boot = s.boot ∧ s'.avail = s.avail ∧ s'.sec = s.sec ∧ s'.net = s.net ∧
    s'.ms = s.ms ∧ s'.cr = s.cr ∧ s'.prot = s.prot ∧ s'.dram = s.dram ∧ s'.eng = s.eng ∧ s'.pwr = s.pwr ∧ s'.isl = s.isl := by
  refine ⟨_, rfl, ?_⟩
  simp

theorem execSsdLinkDown_frame (slot : Slot) (s : State) : ∃ s', execSsdLinkDown slot s = .next s' ∧
    s'.pending = s.pending ∧ s'.clock = s.clock ∧ s'.time = s.time ∧ s'.boot = s.boot ∧ s'.avail = s.avail ∧ s'.sec = s.sec ∧
    s'.ms = s.ms ∧ s'.dram = s.dram ∧ s'.eng = s.eng ∧ s'.pwr = s.pwr ∧ s'.isl = s.isl := by
  refine ⟨_, rfl, ?_⟩
  simp

theorem execOffEngineTest_frame (av : Avenue) (eng : Engine) (done : Bool) (passed : Bool) (s : State) :
    ∃ s', execOffEngineTest av eng done passed s = .next s' ∧
    s'.pending = s.pending ∧ s'.clock = s.clock ∧ s'.time = s.time ∧ s'.mem = s.mem ∧ s'.coh = s.coh ∧ s'.boot = s.boot ∧
    s'.avail = s.avail ∧ s'.sec = s.sec ∧ s'.ms = s.ms ∧ s'.prot = s.prot ∧ s'.dram = s.dram ∧ s'.flash = s.flash ∧ s'.pwr = s.pwr ∧
    s'.isl = s.isl := by
  refine ⟨_, rfl, ?_⟩
  simp

theorem execPostponedRoleSwap_frame (pair : Pair) (s : State) : ∃ s', execPostponedRoleSwap pair s = .next s' ∧
    s'.pending = s.pending ∧ s'.maps = s.maps ∧ s'.mem = s.mem ∧ s'.coh = s.coh ∧ s'.boot = s.boot ∧ s'.sec = s.sec ∧ s'.ms = s.ms ∧
    s'.prot = s.prot ∧ s'.dram = s.dram ∧ s'.flash = s.flash ∧ s'.eng = s.eng ∧ s'.pwr = s.pwr ∧ s'.isl = s.isl := by
  refine ⟨_, rfl, ?_⟩
  simp

theorem execChannelRestoreDone_frame (ch : Chan) (ok : Bool) (s : State) : ∃ s', execChannelRestoreDone ch ok s = .next s' ∧
    s'.pending = s.pending ∧ s'.clock = s.clock ∧ s'.maps = s.maps ∧ s'.mem = s.mem ∧ s'.coh = s.coh ∧ s'.boot = s.boot ∧ s'.sec = s.sec ∧
    s'.ms = s.ms ∧ s'.flash = s.flash ∧ s'.eng = s.eng ∧ s'.pwr = s.pwr ∧ s'.isl = s.isl := by
  refine ⟨_, rfl, ?_⟩
  repeat' (first | (simp; done) | split)

theorem execMtrRstNAssert_frame (s : State) : ∃ s', execMtrRstNAssert s = .next s' ∧
    s'.pending = s.pending ∧ s'.free = s.free ∧ s'.clock = s.clock ∧ s'.out = s.out ∧ s'.regs = s.regs ∧ s'.host = s.host ∧
    s'.time = s.time ∧ s'.maps = s.maps ∧ s'.mem = s.mem ∧ s'.coh = s.coh ∧ s'.boot = s.boot ∧ s'.avail = s.avail ∧ s'.sec = s.sec ∧
    s'.net = s.net ∧ s'.ms = s.ms ∧ s'.cr = s.cr ∧ s'.prot = s.prot ∧ s'.dram = s.dram ∧ s'.flash = s.flash ∧ s'.eng = s.eng ∧
    s'.pwr = s.pwr := by
  refine ⟨_, rfl, ?_⟩
  simp

end Sys2Proof.Machine
end

