-- ==== Sys2Proof/Laws/Memory.lean ====
section
/-! SUPPORT. What the memory operations do: a read after a write, the bytes a write leaves alone, and the canonical form that every
memory operation keeps. -/

namespace Sys2Proof.Machine

open Sys2Proof

/-- A read after a write: the byte written at its address, the old byte at every other. -/
theorem readCell_writeCell (l : List Host.Cell) (n m : Nat) (x : Byte) (h : cellsWf l = true) :
    readCell (writeCell l n x) m = if m = n then x else readCell l m := by
  have low : ∀ (l : List Host.Cell) (a : Nat) (b : Byte), cellsWf ((a, b) :: l) = true → ∀ k, k ≤ a → readCell l k = memDefault := by
    intro l
    induction l with
    | nil => intros; rfl
    | cons e l ih =>
      intro a b h k hk
      obtain ⟨c, d⟩ := e
      simp only [cellsWf, Bool.and_eq_true, decide_eq_true_eq] at h
      have hk : k < c := Nat.lt_of_le_of_lt hk h.1.2
      simp only [readCell, if_neg (Nat.ne_of_lt hk)]
      exact ih c d h.2 k (Nat.le_of_lt hk)
  induction l with
  | nil => by_cases hx : x = memDefault <;> by_cases hm : m = n <;> simp [writeCell, readCell, hx, hm]
  | cons e l ih =>
    obtain ⟨a, b⟩ := e
    have tail : cellsWf l = true := by
      cases l with
      | nil => rfl
      | cons e t => simp only [cellsWf, Bool.and_eq_true] at h; exact h.2
    simp only [writeCell]
    split
    · rename_i hn
      by_cases hm : m = n
      · subst hm
        split
        · subst_vars
          simp only [readCell, if_neg (Nat.ne_of_lt hn), if_true]
          exact low l a b h m (Nat.le_of_lt hn)
        · simp [readCell]
      · split <;> simp [readCell, hm]
    · split
      · rename_i hn
        subst hn
        by_cases hm : m = n
        · subst hm
          split
          · subst_vars
            simp only [if_true]
            exact low l m b h m (Nat.le_refl m)
          · simp [readCell]
        · split <;> simp [readCell, hm]
      · rename_i h1 h2
        by_cases hm : m = a
        · subst hm
          simp [readCell, Ne.symm h2]
        · simp only [readCell, hm, if_false]
          exact ih tail

/-- The addresses of a canonical list after its head lie above the head's, and no entry is the default. -/
theorem cellsWf_cons {a : Nat} {b : Byte} {l : List Host.Cell} :
    cellsWf ((a, b) :: l) = true ↔ b ≠ memDefault ∧ (∀ e ∈ l, a < e.1) ∧ cellsWf l = true := by
  induction l generalizing a b with
  | nil => simp [cellsWf]
  | cons e l ih =>
    obtain ⟨c, d⟩ := e
    simp only [cellsWf, Bool.and_eq_true, decide_eq_true_eq]
    rw [ih]
    constructor
    · rintro ⟨⟨hb, h⟩, hd, h1, h2⟩
      refine ⟨hb, ?_, hd, h1, h2⟩
      intro e he
      rcases List.mem_cons.1 he with rfl | he
      · exact h
      · exact Nat.lt_trans h (h1 e he)
    · rintro ⟨hb, h, h2⟩
      exact ⟨⟨hb, h _ List.mem_cons_self⟩, h2⟩

theorem mem_writeCell {l : List Host.Cell} {n : Nat} {x : Byte} {e : Host.Cell} (h : e ∈ writeCell l n x) : e = (n, x) ∨ e ∈ l := by
  induction l with
  | nil => simp only [writeCell] at h; split at h <;> simp_all
  | cons a l ih =>
    obtain ⟨k, v⟩ := a
    simp only [writeCell] at h
    split at h
    · split at h <;> simp_all
    · split at h
      · split at h
        · exact .inr (List.mem_cons_of_mem _ h)
        · rcases List.mem_cons.1 h with h | h
          · exact .inl h
          · exact .inr (List.mem_cons_of_mem _ h)
      · rcases List.mem_cons.1 h with h | h
        · exact .inr (h ▸ List.mem_cons_self)
        · rcases ih h with h | h
          · exact .inl h
          · exact .inr (List.mem_cons_of_mem _ h)

/-- Writing a byte keeps the canonical form. -/
theorem cellsWf_writeCell {l : List Host.Cell} (n : Nat) (x : Byte) (h : cellsWf l = true) : cellsWf (writeCell l n x) = true := by
  induction l with
  | nil => simp only [writeCell]; split <;> simp_all [cellsWf]
  | cons a l ih =>
    obtain ⟨k, v⟩ := a
    have hw := cellsWf_cons.1 h
    simp only [writeCell]
    split
    · split
      · exact h
      · refine cellsWf_cons.2 ⟨‹_›, ?_, h⟩
        intro e he
        rcases List.mem_cons.1 he with rfl | he
        · assumption
        · exact Nat.lt_trans ‹n < k› (hw.2.1 e he)
    · split
      · split
        · exact hw.2.2
        · subst_vars
          exact cellsWf_cons.2 ⟨‹_›, hw.2.1, hw.2.2⟩
      · refine cellsWf_cons.2 ⟨hw.1, ?_, ih hw.2.2⟩
        intro e he
        rcases mem_writeCell he with rfl | he
        · show k < n
          omega
        · exact hw.2.1 e he

/-- Writing bytes keeps the canonical form. -/
theorem cellsWf_writeBytes {l : List Host.Cell} (a n v : Nat) (h : cellsWf l = true) : cellsWf (writeBytes l a n v) = true := by
  induction n generalizing l a v with
  | zero => exact h
  | succ n ih => exact ih _ _ (cellsWf_writeCell _ _ h)

/-- A run of writes of bytes keeps the canonical form. -/
theorem cellsWf_foldl_writeBytes {α : Type} (xs : List α) (a n v : α → Nat) {l : List Host.Cell} (h : cellsWf l = true) :
    cellsWf (xs.foldl (fun c x => writeBytes c (a x) (n x) (v x)) l) = true := by
  induction xs generalizing l with
  | nil => exact h
  | cons x xs ih => exact ih (cellsWf_writeBytes _ _ _ h)

/-- Dropping entries keeps the canonical form. -/
theorem cellsWf_filter {l : List Host.Cell} (p : Host.Cell → Bool) (h : cellsWf l = true) : cellsWf (l.filter p) = true := by
  induction l with
  | nil => rfl
  | cons a l ih =>
    obtain ⟨k, v⟩ := a
    have hw := cellsWf_cons.1 h
    simp only [List.filter_cons]
    split
    · exact cellsWf_cons.2 ⟨hw.1, fun e he => hw.2.1 e (List.mem_of_mem_filter he), ih hw.2.2⟩
    · exact ih hw.2.2

/-- A write of bytes leaves every byte outside them as it was. -/
theorem readCell_writeBytes_of_outside {l : List Host.Cell} (a n v m : Nat) (h : cellsWf l = true) (hm : m < a ∨ a + n ≤ m) :
    readCell (writeBytes l a n v) m = readCell l m := by
  induction n generalizing l a v with
  | zero => rfl
  | succ n ih =>
    simp only [writeBytes]
    rw [ih _ _ (cellsWf_writeCell _ _ h) (by omega), readCell_writeCell _ _ _ _ h, if_neg (by omega)]

/-- A write of bytes puts byte k of the value, lowest first, at the k-th address. -/
theorem readCell_writeBytes {l : List Host.Cell} (a n v k : Nat) (h : cellsWf l = true) (hk : k < n) :
    readCell (writeBytes l a n v) (a + k) = BitVec.ofNat 8 (v / 256 ^ k) := by
  induction n generalizing l a v k with
  | zero => omega
  | succ n ih =>
    simp only [writeBytes]
    cases k with
    | zero => rw [readCell_writeBytes_of_outside _ _ _ _ (cellsWf_writeCell _ _ h) (by omega), readCell_writeCell _ _ _ _ h]; simp
    | succ k =>
      rw [show a + (k + 1) = a + 1 + k by omega, ih _ _ _ (cellsWf_writeCell _ _ h) (by omega), Nat.div_div_eq_div_mul, Nat.pow_succ,
        Nat.mul_comm 256]

/-- Writing a line of DRAM keeps the memory's canonical form. -/
theorem Memory.wf_putDram {m : Memory} (line : Nat) (d : LineData) (poison : Bool) (h : m.wf = true) : (m.putDram line d poison).wf = true := by
  simp only [Memory.wf, Memory.putDram] at h ⊢
  exact cellsWf_writeBytes _ _ _ h

/-- Writing a line of DRAM leaves every byte of every other line. -/
theorem Memory.putDram_outside {m : Memory} (line a : Nat) (d : LineData) (poison : Bool) (h : m.wf = true)
    (ha : a < line * 64 ∨ line * 64 + 64 ≤ a) : readCell (m.putDram line d poison).cells a = readCell m.cells a := by
  simp only [Memory.wf, Memory.putDram] at h ⊢
  exact readCell_writeBytes_of_outside _ _ _ _ h ha

/-- Both memories are empty at reset. -/
theorem State.reset_cells : State.reset.mem.cells = [] ∧ State.reset.flash.cells = [] := ⟨rfl, rfl⟩

end Sys2Proof.Machine
end

