-- ==== Sys2Proof/Laws/Records.lean ====
section
/-! SUPPORT. How a ring command starts and ends: the choice among failing checks, a command that nothing holds back, and the completion
record that it leaves. -/

namespace Sys2Proof.Machine

open Sys2Proof

/-- No check fails exactly where each passes. -/
theorem lowestOf_eq_none {l : List (Option Stop)} : lowestOf l = none ↔ ∀ x ∈ l, x = none := by
  induction l with
  | nil => simp [lowestOf]
  | cons a l ih =>
    cases a with
    | none => simpa [lowestOf] using ih
    | some x =>
      simp only [lowestOf, List.mem_cons, forall_eq_or_imp, reduceCtorEq, false_and, iff_false]
      split
      · simp
      · split <;> simp

/-- A check that fails decides where the others pass. -/
theorem lowestOf_append_single {l : List (Option Stop)} {x : Stop} (h : lowestOf l = none) : lowestOf (l ++ [some x]) = some x := by
  induction l with
  | nil => rfl
  | cons a l ih =>
    have ha : a = none := lowestOf_eq_none.1 h a List.mem_cons_self
    subst ha
    exact ih h

/-- What is sent while the outputs are not mute joins what has been sent. -/
theorem State.emit_out {s : State} (o : Out) (h : s.mute = false) : (s.emit o).out = s.out ++ [o] := by simp [State.emit, h]

theorem State.emits_out {s : State} (os : List Out) (h : s.mute = false) : (s.emits os).out = s.out ++ os := by simp [State.emits, h]

/-- Nothing is sent while the outputs are mute. -/
theorem State.emit_of_mute {s : State} (o : Out) (h : s.mute = true) : s.emit o = s := by simp [State.emit, h]

/-- A command that nothing holds back starts, and its effect follows (R393, R394, R403). -/
theorem State.command_eq_go {s : State} {c : Cmd} {k : Kind} {own : Option Stop} (go : State → State) (hat : s.atHand c = true)
    (hl : (s.pick c).recordLost c = false) (hr : (s.pick c).retainedOf c = none) (hs : (s.pick c).sameRunning c = none)
    (hw : (s.pick c).mustWait c = false) (hx : (s.pick c).refusal c k own = none) :
    s.command c k own go = go ((s.pick c).launch c) := by
  simp [State.command, hat, hl, hr, hs, hw, hx]

/-- A command that a check refuses ends with the check's status and detail (R393). -/
theorem State.command_eq_refused {s : State} {c : Cmd} {k : Kind} {own : Option Stop} {x : Stop} (go : State → State)
    (hat : s.atHand c = true) (hl : (s.pick c).recordLost c = false) (hr : (s.pick c).retainedOf c = none)
    (hs : (s.pick c).sameRunning c = none) (hw : (s.pick c).mustWait c = false) (hx : (s.pick c).refusal c k own = some x) :
    s.command c k own go = ((s.pick c).refusalNotice c x).endWith c x := by
  simp [State.command, hat, hl, hr, hs, hw, hx]

/-- Sending keeps what has been sent. -/
theorem State.mem_emit_of_mem {s : State} {p : Out} (o : Out) (h : p ∈ s.out) : p ∈ (s.emit o).out := by
  simp only [State.emit]
  split
  · exact h
  · exact List.mem_append_left _ h

theorem State.mem_emit {s : State} (o : Out) (h : s.mute = false) : o ∈ (s.emit o).out := by simp [State.emit_out o h]

@[simp] theorem State.mute_emit (s : State) (o : Out) : (s.emit o).mute = s.mute := by
  simp only [State.emit]
  split <;> rfl

/-- The record of a running host ring whose link is up is sent (R395, R397). -/
theorem State.record_mem_putRecord {s : State} {ring : Nat} (rcd : Record) (hst : (s.ring ring).st = .running) (hm : s.mute = false)
    (ha : (s.ring ring).acc = none) (hd : s.host.hostDown.contains (ringFn ring / 256) = false) :
    Out.record ring ((s.ring ring).cplTail % 2 ^ 32 % 2 ^ (s.ring ring).m) ((s.ring ring).cplTail % 2 ^ 32 / 2 ^ (s.ring ring).m % 2 == 0)
      { rcd with head := (s.ring ring).head % 65536 } ∈ (s.putRecord ring rcd).out := by
  have first : ∀ t : State, t.mute = false → ∀ a b r, Out.record ring a b r ∈ ((t.emit (.record ring a b r)).setRing ring
      { s.ring ring with cplTail := ((s.ring ring).cplTail + (if rcd.ext then 2 else 1)) % 2 ^ 32, lastCmd := rcd.cmdId, armed := false }).out :=
    fun t h a b r => State.mem_emit _ h
  simp only [State.putRecord, hst, ha, hd, Option.isNone_none, Bool.and_false, Bool.false_eq_true, if_false, reduceCtorEq, false_and, or_self,
    Bool.and_true, Nat.add_zero]
  split
  · refine State.mem_emit_of_mem _ (first _ ?_ _ _ _)
    split
    · exact (State.mute_emit _ _).trans hm
    · exact hm
  · refine first _ ?_ _ _ _
    split
    · exact (State.mute_emit _ _).trans hm
    · exact hm

/-- A notice that every function's ring is told of leaves every other part of the state. -/
theorem State.raise_keeps (s : State) (source cause data : Nat) (d : Option Nat) :
    (s.raise source cause data d).pending = s.pending ∧ (s.raise source cause data d).regs = s.regs ∧
    (s.raise source cause data d).maps = s.maps ∧ (s.raise source cause data d).mem = s.mem ∧
    (s.raise source cause data d).eng = s.eng ∧ (s.raise source cause data d).isl = s.isl := by simp

end Sys2Proof.Machine
end

