-- ==== Sys2Proof/Laws/Registers.lean ====
section
/-! SUPPORT. A write of a set-up register: what the port's key is, what a plain write leaves, and what a PAIR register's row comes to. -/

namespace Sys2Proof.Machine

open Sys2Proof

@[simp] theorem isPf_port (port : HPort) : isPf (port.val * 256) = true := by simp [isPf]

theorem fnKey_pf (port : HPort) (fn : Nat) (h : fn % 256 = 0) : fnKey port fn = port.val * 256 := by simp [fnKey, h]

/-- A register after a write of the table: the value written at its offset, the old value at every other. -/
theorem Regs.val_set (g : Regs) (o off : Nat) (v : Word) : (g.set off v).val o = if o = off then v else g.val o := by
  by_cases h : o = off <;> simp [Regs.val, Regs.set, Table.get_put, h]

/-- Where no low word is held, a write meets none. -/
theorem State.takeHeld_of_none {s : State} {fn block : Nat} (off : Nat) (h : s.regs.held.get (heldKey fn block) = none) :
    s.takeHeld fn block off = (s, none) := by
  simp [State.takeHeld, h]

/-- An entry set at a free key and removed again leaves the table. -/
theorem Table.del_put {α : Type} {t : Table α} {k : Nat} (v : α) (h : t.get k = none) : (t.put k v).del k = t := by
  induction t with
  | nil => simp [Table.put, Table.del]
  | cons e t ih =>
    obtain ⟨a, b⟩ := e
    simp only [Table.get] at h
    split at h
    · cases h
    · rename_i hne
      simp only [Table.put]
      split
      · simp [Table.del]
      · simp [hne, Table.del, ih h]

/-- A PAIR register's own row, on a port with no guard armed, no low word held and the firmware running, by the holder of the token: the
value and its complement arrive and the value is accepted (R425). -/
theorem State.pairWrite_eq_accept {s : State} {port : HPort} {off : Nat} {val : Word} {r : RegD}
    (hm : s.mute = false) (hf : s.boot.fwReady = true) (hg : s.regs.guards.get port.val = none)
    (hh : s.regs.held.get (heldKey (port.val * 256) (off / 0x10000)) = none)
    (ht : off = 0x10000 ∨ s.host.token = some port.val) (h4 : off % 4 = 0) (hb : (off + 0x1000) / 0x10000 = off / 0x10000)
    (hc : companionOf off = false) (hn : isBoot off = false) (hr : regAt off = some r) (hpair : r.paired = true)
    (n1 : ¬(0x20000 ≤ off ∧ off < 0x21000)) (n2 : ¬(0x22000 ≤ off ∧ off < 0x22010)) (n3 : ¬(0x30000 ≤ off ∧ off < 0x3001C)) :
    s.pairWrite port off val = s.accept port off r val := by
  have h5 : ¬(off ≠ 0x10000 ∧ s.host.token ≠ some port.val) := by
    rcases ht with h | h <;> simp [h]
  have first : s.barWrite port 0 off 4 val = { s with regs := { s.regs with guards := s.regs.guards.put port ⟨off, val, s.clock⟩ } } := by
    unfold State.barWrite
    rw [hm]
    simp only [fnKey_pf port 0 rfl, isPf_port, if_true, Bool.false_eq_true, if_false, State.takeHeld_of_none _ hh]
    simp only [State.guarded, hg, State.pfWrite, hc, hn, hr, hf, hpair, n1, n2, n3]
    simp [h4, h5]
  simp only [State.pairWrite]
  rw [first]
  unfold State.barWrite
  rw [show State.mute { s with regs := { s.regs with guards := s.regs.guards.put port ⟨off, val, s.clock⟩ } } = false from hm]
  simp only [fnKey_pf port 0 rfl, isPf_port, if_true, Bool.false_eq_true, if_false, hb]
  rw [State.takeHeld_of_none _ (by exact hh)]
  simp only [State.guarded, Table.get_put]
  simp [h4, Nat.add_mod, hr, Table.del_put _ hg]

end Sys2Proof.Machine
end

