-- ==== Sys2Proof/Tests/Slice0.lean ====
section
/-! SUPPORT. Tests of the model: states that meet the hypotheses of each obligation, clause by clause; a term that each check of
well-formedness refuses; and the worked examples of the spec. -/

namespace Sys2Proof.Tests

open Sys2Proof Sys2Proof.Machine Sys2Proof.Claims

set_option linter.unusedVariables false

/-- Firmware of interface version 1. -/
def fw : Bundle := ⟨100, true, true, 1, 1, 0, 0, 1, 0, 1, 1, 2, 1, 7⟩
/-- A running ring of 16 descriptors and 32 records. -/
def ringOn : Ring := { Ring.init with st := .running }
/-- An enabled notice ring. -/
def ntcOn : NoticeRing := { NoticeRing.init with en := true }
/-- A level-1 District that function 0 of H0 owns, with 1,000 pages of quota. -/
def dist : District :=
  { st := .inService, level := 1, strength := 0, tiered := false, conf := false, fgroup := 0, engines := 0, shares := 0xFF, priority := 0,
    trkLimit := 64, copyQuota := 100, staging := 10, residentMax := 1000, flashQuota := 0, fcopyQuota := 0, owner := 0, epoch := 1,
    nextVersion := 1, dramInstalled := false, flashInstalled := false, busyCmd := none, convCmd := none, convNext := 0, convDone := 0,
    convTo := 0, energyMetered := 0, energyEst := 0, energyFrom := 0, spaceTold := false, waitTold := false }
/-- A pool that serves: PF 0 of H0 holds the token, its ring 0 runs, and both PFs take notices. -/
def up : State := { State.reset with
  host := { State.reset.host with token := some 0, rings := [(0, ringOn)], ntc := [(0, ntcOn), (256, ntcOn)], anyRing := true }
  dram := { State.reset.dram with
    geom := ⟨0, true, 64, 3, 16, 1, 1⟩, chans := (List.range 16).map fun m => (m, { ChanSt.init with inService := true, mode := 2 }) }
  avail := { State.reset.avail with
    avs := ((List.range 8).map fun n => (n, { Av.init with role := .serving, share := some n })) ++ [(8, { Av.init with role := .spareReady })]
    shares := (List.range 8).map fun n => (n, { ShareSt.init with st := .opened }) }
  boot := { State.reset.boot with fwReady := true, memReady := true, trained := true, fw := some fw } }
/-- A command of ring 0. -/
def cmd (op d : Nat) (p0 p1 p2 p3 p4 p5 : Nat := 0) : Cmd := ⟨0, ⟨op, 1, d, 7, 0, p0, p1, p2, p3, p4, p5, false⟩⟩
/-- A command of ring 0 that uses a buffer. -/
def cmdB (op d : Nat) (p0 p1 p2 p3 p4 p5 : Nat := 0) : Cmd := ⟨0, ⟨op, 1, d, 7, 0x10000, p0, p1, p2, p3, p4, p5, false⟩⟩
/-- The pool with another ring 0. -/
def ringW (r : Ring) : State := { up with host := { up.host with rings := [(0, r)] } }
/-- The pool with another notice ring of PF 0 of H0. -/
def ntcW (n : NoticeRing) : State := { up with host := { up.host with ntc := [(0, n), (256, ntcOn)] } }
/-- A record of command 7. -/
def rec7 : Record := ⟨7, 0, 0, 0, false, false, false, 1, 0, 0, 0, 5⟩
/-- The pool with District 5. -/
def upD (x : District) : State := { up with maps := { up.maps with districts := [(5, x)] } }
/-- Port 3 with a change. -/
def portW (p : LinkPort) : State := { up with net := { up.net with ports := [(3, p)] } }
/-- The pool with a register set. -/
def regW (rs : Table Word) : State := { up with regs := { up.regs with act := rs } }
/-- An active link port with credits. -/
def linkUp : LinkPort := { up.jl 3 with st := 5, width := 3, rev := 1, partner := 9, credits := [(0, 64), (2, 64), (4, 64), (6, 64), (8, 64)] }
/-- A REQ message of one cell to node 9. -/
def msg9 : Msg := ⟨0, 0, 9, 5, 0, 1, 0, 4, 0⟩
/-- A leaf of one page at frame 100. -/
def leaf : Leaf := ⟨0, false, true, false, 100, 1, false, none, false, false⟩
/-- A window of District 5 on its first page, with every permission. -/
def win : Window := { winOf 0x538 0 0 with r := true, w := true, a := true }
/-- The pool with District 5, window 1 on its first page, and the page's first line in the line cache. -/
def upM : State := { upD dist with
  maps := { (upD dist).maps with windows := [(1, win)], pages := [(5 * 2 ^ 36, leaf)], nextFrame := 200, frames := 100000 }
  mem := { up.mem with cells := [(409600, 3), (409663, 9)], cache := [(6400, ⟨3, false, false, false⟩)] } }
/-- A read of 64 bytes of window 1 by node 9. -/
def reqR : Req := ⟨9, 4, 1, 0, 2, false, false, 0, 0, 64, 0, 0, 0, 0, 0, [], false⟩
/-- An atomic on 4 bytes. -/
def reqA : Req := { reqR with cells := 3, length := 0, offset := 60, size := 4, operand := 7 }
/-- A write of a line. -/
def reqW : Req := { reqR with cells := 6, length := 0, mask := 0xF0, data := 0x1234567890 }

namespace Registers

/-- The hypotheses of `RegisterWrites`, clause by clause. -/
theorem witness_registerWrites :
    (∃ (s : State) (port : HPort) (fn off : Nat) (val : Word) (r : RegD), PortFree s port off ∧ fn % 256 = 0 ∧
      s.host.token = some port.val ∧ Plain off ∧ regAt off = some r ∧ r.paired = false ∧ r.shadowed = false ∧ r.rangeOk val = true ∧
      r.relOk val = true ∧ s.frozen off val = false) ∧
    (∃ (s : State) (port : HPort) (fn off : Nat) (val : Word) (r : RegD), PortFree s port off ∧ fn % 256 = 0 ∧
      s.host.token = some port.val ∧ off % 4 = 0 ∧ (¬(0x40 ≤ off ∧ off < 0x50)) ∧ (¬(0x20000 ≤ off ∧ off < 0x22010)) ∧ (¬(0x30000 ≤ off ∧
      off < 0x3001C)) ∧ off ≠ 0x10000 ∧ companionOf off = false ∧ regAt off = some r ∧ r.paired = false ∧ r.shadowed = true) ∧
    (∃ (s : State) (port : HPort) (fn off : Nat) (val : Word), PortFree s port off ∧ fn % 256 = 0 ∧ s.host.token ≠ some port.val ∧
      off ≠ 0x10000 ∧ (¬(0x40 ≤ off ∧ off < 0x50)) ∧ (¬(0x20000 ≤ off ∧ off < 0x22010)) ∧ (¬(0x30000 ≤ off ∧ off < 0x3001C))) :=
  ⟨⟨up, 0, 0, 0x10144, 0x1F0, reg1 0x10144 0x140 [fCov 8 8, fCov 7 0 [(1, 255)]], by unfold PortFree Plain; decide⟩,
   ⟨up, 0, 0, 0x140008, 0x3021, reg1 0x140008 0x2013 [fSh 14 12, fSh 10 8, fSh 6 4, fSh 2 0], by unfold PortFree; decide⟩,
   ⟨up, 1, 0, 0x10144, 0x1F0, by unfold PortFree; decide⟩⟩

/-- The hypotheses of `PairGuard`, clause by clause. -/
theorem witness_pairGuard :
    (∃ (s : State) (port : HPort) (off : Nat) (val : Word) (r : RegD), PortFree s port off ∧ s.host.token = some port.val ∧ Plain off ∧
      regAt off = some r ∧ r.paired = true) ∧
    (∃ (s : State) (port : HPort) (off : Nat) (val : Word) (r : RegD) (g : Guard), s.mute = false ∧ s.boot.fwReady = true ∧
      s.regs.held.get (heldKey (port.val * 256) ((off + 0x1000) / 0x10000)) = none ∧ s.regs.guards.get port = some g ∧ g.off = off ∧
      g.val = val ∧ s.clock ≤ g.opened + 10000 ∧ Plain off ∧ regAt off = some r ∧ r.shadowed = false ∧ r.rangeOk val = true ∧
      r.relOk val = true ∧ ({ s with regs := { s.regs with guards := s.regs.guards.del port } } : State).frozen off val = false) ∧
    (∃ (s : State) (port : HPort) (g : Guard), s.regs.guards.get port = some g) :=
  ⟨⟨up, 0, 0x10180, 7200, reg1 0x10180 86400 [fPairCov 31 0 [(3600, 2592000)]], by unfold PortFree Plain; decide⟩,
   ⟨{ up with regs := { up.regs with guards := [(0, ⟨0x10180, 7200, 0⟩)] } }, 0, 0x10180, 7200, reg1 0x10180 86400 [fPairCov 31 0 [(3600,
     2592000)]], ⟨0x10180, 7200, 0⟩, by unfold Plain; decide⟩,
   ⟨{ up with regs := { up.regs with guards := [(0, ⟨0x10180, 7200, 0⟩)] } }, 0, ⟨0x10180, 7200, 0⟩, by decide⟩⟩

end Registers

namespace Setup

def crcW (v : Word) : State := { up with regs := { up.regs with act := [(0x10010, 1), (0x10018, v)] } }
theorem glob_apart : ((globRegs.filter (·.covered)).all fun r =>
    decide (0x10018 < r.base) || decide (r.base + (r.count - 1) * r.stride < 0x10018)) = true := by decide +kernel
theorem mem_insertBy {α : Type} {le : α → α → Bool} {x y : α} {l : List α} (h : y ∈ insertBy le x l) : y = x ∨ y ∈ l := by
  induction l with
  | nil => simpa [insertBy] using h
  | cons a l ih =>
    simp only [insertBy] at h
    split at h
    · simpa using h
    · rcases List.mem_cons.1 h with h | h
      · exact .inr (h ▸ List.mem_cons_self)
      · rcases ih h with h | h
        · exact .inl h
        · exact .inr (List.mem_cons_of_mem _ h)
theorem mem_sortBy {α : Type} {le : α → α → Bool} {y : α} {l : List α} (h : y ∈ sortBy le l) : y ∈ l := by
  induction l with
  | nil => exact h
  | cons a l ih =>
    rcases mem_insertBy h with h | h
    · exact h ▸ List.mem_cons_self
    · exact List.mem_cons_of_mem _ (ih h)
theorem base_le_coveredAt {base : Nat} {rs : List RegD} {x : Nat × Word × Nat} (h : x ∈ coveredAt base rs) : base ≤ x.1 := by
  simp only [coveredAt, List.mem_flatMap, List.mem_map] at h
  obtain ⟨r, -, i, -, rfl⟩ := h
  show base ≤ base + r.base + i * r.stride
  omega
theorem crc_uncovered {l : List Nat} {x : Nat × Word × Nat} (h : x ∈ coveredWords l) : x.1 ≠ 0x10018 := by
  have low : ∀ {x}, x ∈ coveredAt 0 globRegs → x.1 ≠ 0x10018 := by
    intro x h
    simp only [coveredAt, List.mem_flatMap, List.mem_map, List.mem_range] at h
    obtain ⟨r, hr, i, hi, rfl⟩ := h
    have g := List.all_eq_true.1 glob_apart r hr
    simp only [Bool.or_eq_true, decide_eq_true_eq] at g
    have := Nat.mul_le_mul_right r.stride (show i ≤ r.count - 1 by omega)
    show 0 + r.base + i * r.stride ≠ 0x10018
    omega
  simp only [coveredWords, List.mem_append, List.mem_flatMap] at h
  rcases h with ((((h | ⟨n, -, h⟩) | h) | ⟨a, -, h⟩) | ⟨m, -, h⟩) | h
  · exact low (List.mem_of_mem_filter (mem_sortBy h))
  · have := base_le_coveredAt h
    simp only [jlBase] at this
    omega
  · exact low (List.mem_of_mem_filter (mem_sortBy h))
  · have := base_le_coveredAt h
    omega
  · have := base_le_coveredAt h
    omega
  · exact low (List.mem_of_mem_filter (mem_sortBy h))
theorem crcW_configCrc (v : Word) : (crcW v).configCrc = (crcW 0).configCrc := by
  simp only [State.configCrc]
  refine congrArg _ (congrArg _ ?_)
  show List.flatMap _ (coveredWords ((List.range 8).filterMap up.servedBy)) = List.flatMap _ (coveredWords ((List.range 8).filterMap up.servedBy))
  simp only [List.flatMap]
  refine congrArg _ (List.map_congr_left fun x hx => ?_)
  have hx := crc_uncovered hx
  simp [crcW, Table.get, hx]
theorem crcW_mismatch : ∃ v, (crcW v).configCrc ≠ v := by
  by_cases h : (crcW 0).configCrc = 0
  · exact ⟨1, by rw [crcW_configCrc, h]; decide⟩
  · exact ⟨0, h⟩

/-- The hypotheses of `LocksAndArms`, clause by clause. -/
theorem witness_locksAndArms :
    (∃ (s : State) (port : HPort) (val : Word), PortFree s port 0x10118 ∧ s.host.token = some port.val ∧ s.regs.hashValid = false ∧
      val.getLsbD 0 = true ∧ s.regs.hashOk = true) ∧
    (∃ (s : State) (port : HPort) (val : Word), PortFree s port 0x1013C ∧ s.host.token = some port.val ∧ s.regs.dmapValid = false ∧
      val.getLsbD 0 = true ∧ s.dmapOk = true) ∧
    (∃ (s : State) (port : HPort) (off : Nat) (val : Word) (g : Guard), s.mute = false ∧ s.boot.fwReady = true ∧
      s.regs.held.get (heldKey (port.val * 256) 1) = none ∧ s.regs.guards.get port = some g ∧ g.off = off ∧ g.val = val ∧
      s.clock ≤ g.opened + 10000 ∧ s.regs.hashValid = true ∧ off ∈ [0x10100, 0x10104, 0x10108, 0x1010C, 0x10110, 0x10114]) ∧
    (∃ (s : State) (port : HPort) (val : Word), PortFree s port 0x140000 ∧ s.host.token = some port.val ∧
      (∀ n, n < 12 → (s.jl n).st = 0 ∨ (s.jl n).st = 7)) ∧
    (∃ (s : State) (port : HPort) (ch : Chan) (val : Word), PortFree s port (0x500200 + ch.val * 0x10000) ∧ s.host.token = some port.val ∧
      val.getLsbD 0 = true ∧ bitsOf val.toNat 15 8 ≠ 0 ∧ bitsOf val.toNat 3 2 ≤ 2) ∧
    (∃ (s : State) (port : HPort) (val : Word), PortFree s port 0x700004 ∧ s.host.token = some port.val ∧ 1 ≤ val.toNat ∧ val.toNat ≤ 65535) ∧
    (∃ (s : State) (v since : Nat), s.sec.arm = some (v, since)) :=
  ⟨⟨up, 0, 1, by unfold PortFree; decide⟩,
   ⟨up, 0, 1, by unfold PortFree; decide⟩,
   ⟨{ up with regs := { up.regs with hashValid := true, guards := [(0, ⟨0x10114, 0, 0⟩)] } }, 0, 0x10114, 0, ⟨0x10114, 0, 0⟩, by decide⟩,
   ⟨up, 0, 77, by unfold PortFree; decide⟩,
   ⟨up, 0, 15, 0x301, by unfold PortFree; decide⟩,
   ⟨up, 0, 65535, by unfold PortFree; decide⟩,
   ⟨{ up with sec := { up.sec with arm := some (9, 5) } }, 9, 5, by decide⟩⟩

/-- The hypotheses of `ControlToken`, clause by clause. -/
theorem witness_controlToken :
    (∃ (s : State) (port : HPort), PortFree s port 0x10000 ∧ s.host.token = none) ∧
    (∃ (s : State) (port : HPort) (q : Nat), PortFree s port 0x10000 ∧ s.host.token = some q) ∧
    (∃ (s : State) (port : HPort), PortFree s port 0x10000 ∧ s.host.token = some port.val) ∧
    (∃ (s : State) (port : HPort), PortFree s port 0x10000 ∧ s.host.token ≠ some port.val) ∧
    (∃ (s : State) (port : HPort) (q : Nat), PortFree s port 0x10000 ∧ s.host.token = some q ∧ q ≠ port.val) :=
  ⟨⟨{ up with host := { up.host with token := none } }, 1, by unfold PortFree; decide⟩,
   ⟨up, 1, 0, by unfold PortFree; decide⟩,
   ⟨up, 0, by unfold PortFree; decide⟩,
   ⟨up, 1, by unfold PortFree; decide⟩,
   ⟨up, 1, 0, by unfold PortFree; decide⟩⟩

/-- The hypotheses of `CommitsAndChecks`, clause by clause. -/
theorem witness_commitsAndChecks :
    (∃ (s : State) (port : HPort) (share : Share) (val : Word), PortFree s port (0x50011C + share.val * 0x20000) ∧
      s.host.token = some port.val ∧ s.regs.shadow.wf = true ∧ val.getLsbD 0 = true) ∧
    (∃ (s : State) (port : HPort) (val : Word), PortFree s port 0x14000C ∧ s.host.token = some port.val ∧ s.regs.shadow.wf = true ∧
      val.getLsbD 0 = true ∧ val.getLsbD 1 = false) ∧
    (∃ (s : State) (port : HPort) (val : Word), PortFree s port 0x14000C ∧ s.host.token = some port.val ∧ val.getLsbD 0 = false ∧
      val.getLsbD 1 = true) ∧
    (∃ (s : State), s.configCrc ≠ s.regs.val 0x10018 ∧ (s.regs.val 0x10010).getLsbD 0 = true ∧ s.regs.quietUntil ≤ s.clock ∧
      (∀ n ∈ s.host.conds, ¬(n.source = Src.config ∧ n.cause = 3)) ∧ s.regs.mismatches < 0xFFFF) ∧
    (∃ (s : State) (av : Avenue) (off : Nat) (v : Word) (r : RegD), s.regs.avPend = [AvPend.mk av.val off v] ∧ regAt off = some r) :=
  ⟨⟨{ up with regs := { up.regs with shadow := [(0x500104, 7)] } }, 0, 0, 1, by unfold PortFree; decide⟩,
   ⟨{ up with regs := { up.regs with shadow := [(0x140400, 7), (0x150000, 5)] } }, 0, 1, by unfold PortFree; decide⟩,
   ⟨up, 0, 2, by unfold PortFree; decide⟩,
   by obtain ⟨v, h⟩ := crcW_mismatch; exact ⟨crcW v, h, by change (1 : Word).getLsbD 0 = true; decide, Nat.le.refl, fun _ hn => (nomatch hn),
     by change 0 < 0xFFFF; decide⟩,
   ⟨{ up with regs := { up.regs with avPend := [⟨8, 0x400500, 9⟩] } }, 8, 0x400500, 9, reg1 0x500 1000 [fCov 15 0 [(1, 60000)]], by decide⟩⟩

/-- The hypotheses of `RingEnables`, clause by clause. -/
theorem witness_ringEnables :
    (∃ (s : State) (port : HPort) (fn k : Nat) (val : Word) (i : Nat), s.mute = false ∧ s.boot.fwReady = true ∧
      s.regs.guards.get port = none ∧ s.regs.held.get (heldKey (port.val * 256) 2) = none ∧ fn % 256 = 0 ∧ k < 4 ∧ i < 16 ∧
      val = BitVec.ofNat 32 (2 ^ i + 2 ^ (16 + i)) ∧ (s.ring (hostRing (port.val * 256) (16 * k + i))).st = .disabled ∧
      (s.ring (hostRing (port.val * 256) (16 * k + i))).ready = true) ∧
    (∃ (s : State) (port : HPort) (fn k : Nat) (val : Word) (i : Nat), s.mute = false ∧ s.boot.fwReady = true ∧
      s.regs.guards.get port = none ∧ s.regs.held.get (heldKey (port.val * 256) 2) = none ∧ fn % 256 = 0 ∧ k < 4 ∧ i < 16 ∧
      val = BitVec.ofNat 32 (2 ^ (16 + i)) ∧ (s.ring (hostRing (port.val * 256) (16 * k + i))).st = .running ∧
      (s.ring (hostRing (port.val * 256) (16 * k + i))).waiting = []) ∧
    (∃ (s : State) (ring : Nat), (s.ring ring).st = .draining ∧ (s.ring ring).running = [] ∧ (s.ring ring).flr = false) ∧
    (∃ (s : State) (port : HPort) (fn : Nat) (val : Word), s.mute = false ∧ s.boot.fwReady = true ∧ fn % 256 ≠ 0 ∧
      s.regs.held.get (heldKey (port.val * 256 + fn % 256) 0x80) = none ∧
      (s.host.tdi.get (port.val * 256 + fn % 256)).getD .unlocked = .unlocked ∧ 4 ≤ bitsOf val.toNat 3 0 ∧ bitsOf val.toNat 3 0 ≤ 12 ∧
      bitsOf val.toNat 14 8 ≤ 7 ∧ bitOf val.toNat 16 = true ∧ (s.ntc (port.val * 256 + fn % 256)).en = false ∧
      (s.ntc (port.val * 256 + fn % 256)).base % (32 * 2 ^ bitsOf val.toNat 3 0) = 0) :=
  ⟨⟨up, 0, 0, 3, 0x80008000, 15, by decide⟩,
   ⟨up, 0, 0, 0, 0x10000, 0, by decide⟩,
   ⟨{ up with host := { up.host with rings := [(0, { ringOn with st := .draining })] } }, 0, by decide⟩,
   ⟨up, 0, 3, 0x10704, by decide⟩⟩

end Setup

namespace Rings

def retW : State := { up with host := { up.host with rings := [(0, { ringOn with tail := 1 })], retained := [(retainKey 0 7, ⟨0xFF, 0, rec7, 900⟩)] } }
def lev : Notice := ⟨8, 6, true, 0, none, 0⟩

/-- The hypotheses of `Doorbells`, clause by clause. -/
theorem witness_doorbells :
    (∃ (s : State) (port : HPort) (fn r : Nat) (val : Word64), (fn % 256 = 0 ∧ r < 64 ∨ r < 4) ∧ val.toNat < 2 ^ 32 ∧
      (s.ring (hostRing (port.val * 256 + fn % 256) r)).st ≠ .disabled ∧
      0 < ahead val.toNat (s.ring (hostRing (port.val * 256 + fn % 256) r)).tail ∧
      ahead val.toNat (s.ring (hostRing (port.val * 256 + fn % 256) r)).tail < 2 ^ 31 ∧
      ahead val.toNat (s.ring (hostRing (port.val * 256 + fn % 256) r)).head ≤ 2 ^ (s.ring (hostRing (port.val * 256 + fn % 256) r)).n - 1) ∧
    (∃ (s : State) (port : HPort) (fn r : Nat) (val : Word64), (fn % 256 = 0 ∧ r < 64 ∨ r < 4) ∧
      (2 ^ 32 ≤ val.toNat ∨ (s.ring (hostRing (port.val * 256 + fn % 256) r)).st = .disabled)) ∧
    (∃ (s : State) (ring v : Nat), (s.ring ring).st = .running ∧ (s.ring ring).sweep = true ∧ v < 2 ^ 32 ∧ 0 < ahead v (s.ring ring).tail ∧
      ahead v (s.ring ring).tail < 2 ^ 31 ∧ ahead v (s.ring ring).head ≤ 2 ^ (s.ring ring).n - 1) ∧
    (∃ (s : State) (ring : Nat), (s.ring ring).st = .running ∧ (s.ring ring).sweep = true) ∧
    (∃ (s : State) (port : HPort) (fn r : Nat) (val : Word64), (fn % 256 = 0 ∧ r < 64 ∨ r < 4) ∧ val.toNat < 2 ^ 32 ∧
      (s.ring (hostRing (port.val * 256 + fn % 256) r)).st ≠ .disabled ∧
      0 < ahead val.toNat (s.ring (hostRing (port.val * 256 + fn % 256) r)).cplHead ∧
      ahead val.toNat (s.ring (hostRing (port.val * 256 + fn % 256) r)).cplHead < 2 ^ 31 ∧
      ahead val.toNat (s.ring (hostRing (port.val * 256 + fn % 256) r)).cplHead ≤ ahead (s.ring (hostRing (port.val * 256 + fn % 256)
      r)).cplTail (s.ring (hostRing (port.val * 256 + fn % 256) r)).cplHead ∧ (s.ring (hostRing (port.val * 256 + fn % 256) r)).acc = none) ∧
    (∃ (s : State) (port : HPort) (fn : Nat) (val : Word64), val.toNat < 2 ^ 32 ∧ (s.ntc (port.val * 256 + fn % 256)).en = true ∧
      (s.ntc (port.val * 256 + fn % 256)).pending = [] ∧ (s.ntc (port.val * 256 + fn % 256)).dropped = 0 ∧
      0 < ahead val.toNat (s.ntc (port.val * 256 + fn % 256)).head ∧ ahead val.toNat (s.ntc (port.val * 256 + fn % 256)).head < 2 ^ 31 ∧
      ahead val.toNat (s.ntc (port.val * 256 + fn % 256)).head ≤ ahead (s.ntc (port.val * 256 + fn % 256)).tail (s.ntc (port.val * 256 + fn
      % 256)).head) ∧
    (∃ (s : State) (port : HPort) (fn : Nat) (o : Outstanding) (rest : List Outstanding),
      (s.ntc (port.val * 256 + fn % 256)).outstanding = o :: rest ∧ o.claimed = false ∧ o ∉ rest ∧ s.mute = false ∧
      (∃ n ∈ s.host.conds, n.source = o.source ∧ n.cause = o.cause)) ∧
    (∃ (s : State) (port : HPort) (fn : Nat) (o : Outstanding) (rest : List Outstanding),
      (s.ntc (port.val * 256 + fn % 256)).outstanding = o :: rest ∧ o.claimed = false ∧ s.mute = false ∧
      (∀ n ∈ s.host.conds, ¬(n.source = o.source ∧ n.cause = o.cause))) ∧
    (∃ (s : State) (port : HPort) (fn : Nat) (val : Word64) (o : Outstanding) (rest : List Outstanding),
      (s.ntc (port.val * 256 + fn % 256)).outstanding = o :: rest ∧ o.claimed = true ∧ o.source = bitsOf val.toNat 9 0 ∧
      o.cause = bitsOf val.toNat 23 16 ∧ (∀ n ∈ s.host.conds, ¬(n.source = o.source ∧ n.cause = o.cause))) ∧
    (∃ (s : State) (port : HPort) (fn size : Nat) (val : Word64), (s.ntc (port.val * 256 + fn % 256)).outstanding = []) :=
  ⟨⟨up, 0, 0, 0, 15, by decide⟩,
   ⟨up, 0, 0, 0, 0x100000000, by decide⟩,
   ⟨ringW { ringOn with sweep := true }, 0, 15, by decide⟩,
   ⟨ringW { ringOn with sweep := true }, 0, by decide⟩,
   ⟨ringW { ringOn with cplTail := 3 }, 0, 0, 0, 3, by decide⟩,
   ⟨ntcW { ntcOn with tail := 3 }, 0, 0, 3, by decide⟩,
   ⟨{ ntcW { ntcOn with outstanding := [⟨1, 8, 6, false⟩] } with host := { (ntcW { ntcOn with outstanding := [⟨1, 8, 6, false⟩] }).host with conds := [lev] } }, 0, 0, ⟨1, 8, 6, false⟩, [], by decide
     ⟩,
   ⟨ntcW { ntcOn with outstanding := [⟨1, 8, 6, false⟩] }, 0, 0, ⟨1, 8, 6, false⟩, [], by decide⟩,
   ⟨ntcW { ntcOn with outstanding := [⟨1, 8, 6, true⟩] }, 0, 0, 0x60008, ⟨1, 8, 6, true⟩, [], by decide⟩,
   ⟨up, 0, 0, 8, 0, by decide⟩⟩

/-- The hypotheses of `CommandsOfRings`, clause by clause. -/
theorem witness_commandsOfRings :
    (∃ (s : State) (ring : Nat) (d : Desc), (s.ring ring).st = .running ∧ (s.ring ring).head ≠ (s.ring ring).tail ∧
      (s.ring ring).reserved + slotsFor d.opcode ≤ (s.ring ring).freeSlots ∧ s.retainedOf ⟨ring, d⟩ = none ∧ knownOpcode d.opcode = true) ∧
    (∃ (s : State) (ring : Nat) (d : Desc), RingUp s ring ∧ isAccRing ring = false ∧ (s.ring ring).acc = none ∧
      (s.ring ring).head ≠ (s.ring ring).tail ∧ (s.ring ring).reserved + slotsFor d.opcode ≤ (s.ring ring).freeSlots ∧
      s.retainedOf ⟨ring, d⟩ = none ∧ s.recordLost ⟨ring, d⟩ = false ∧ s.sameRunning ⟨ring, d⟩ = none ∧ knownOpcode d.opcode = false ∧
      d.ifv = ((s.boot.fw.map (·.ifMajor)).getD 0) ∧ s.gate ⟨ring, d⟩ = none ∧ s.host.retained.length < 4194304) ∧
    (∃ (s : State) (ring : Nat) (d : Desc) (x : Retained), RingUp s ring ∧ (s.ring ring).head ≠ (s.ring ring).tail ∧
      (s.ring ring).reserved + slotsFor d.opcode ≤ (s.ring ring).freeSlots ∧ s.retainedOf ⟨ring, d⟩ = some x ∧ x.opcode = d.opcode ∧
      x.district = d.district ∧ ⟨ring, d⟩ ∉ (s.ring ring).waiting ∧ ⟨ring, d⟩ ∉ (s.ring ring).running) ∧
    (∃ (s : State) (ring : Nat) (d : Desc), (s.ring ring).st = .running ∧ (s.ring ring).head ≠ (s.ring ring).tail ∧
      (s.ring ring).freeSlots < (s.ring ring).reserved + slotsFor d.opcode) ∧
    (∃ (s : State) (ring : Nat), (s.ring ring).st = .running ∧ (s.ring ring).head ≠ (s.ring ring).tail) ∧
    (∃ (s : State) (issuer cmdId : Nat) (x : Retained), s.host.retained.get (retainKey issuer cmdId) = some x) ∧
    (∃ (s : State) (c : Cmd), Starts s c .any) ∧
    (∃ (s : State) (c : Cmd), RingUp s c.ring ∧ (s.pick c).recordLost c = false ∧ (s.pick c).retainedOf c = none ∧
      (s.pick c).sameRunning c = none ∧ (s.pick c).mustWait c = false ∧ c.d.ifv = ((s.boot.fw.map (·.ifMajor)).getD 0) ∧
      s.admits .g c = false ∧ isAccRing c.ring = false ∧ c.d.opcode = 0x0C) ∧
    (∃ (s : State) (c : Cmd), RingUp s c.ring ∧ (s.pick c).recordLost c = false ∧ (s.pick c).retainedOf c = none ∧
      (s.pick c).sameRunning c = none ∧ (s.pick c).mustWait c = false ∧ c.d.ifv = ((s.boot.fw.map (·.ifMajor)).getD 0) ∧
      isAccRing c.ring = true ∧ c.d.opcode = 0x0C) :=
  ⟨⟨ringW { ringOn with tail := 1 }, 0, (cmd 0xFF 0).d, by decide⟩,
   ⟨ringW { ringOn with tail := 1 }, 0, (cmd 0x37 0).d, by unfold RingUp; decide⟩,
   ⟨retW, 0, (cmd 0xFF 0).d, ⟨0xFF, 0, rec7, 900⟩, by unfold RingUp; decide⟩,
   ⟨ringW { ringOn with tail := 1, cplTail := 32 }, 0, (cmd 0xFF 0).d, by decide⟩,
   ⟨ringW { ringOn with tail := 1 }, 0, by decide⟩,
   ⟨retW, 0, 7, ⟨0xFF, 0, rec7, 900⟩, by decide⟩,
   ⟨up, cmd 0xFF 0, by unfold Starts RingUp; decide⟩,
   ⟨{ up with host := { up.host with token := some 1 } }, cmd 0x0C 0, by unfold RingUp; decide⟩,
   ⟨{ up with host := { up.host with rings := [(0, ringOn), (32768, { ringOn with acc := some ⟨5, ⟨1, 0⟩, ⟨1, 0x400⟩, none, false, 0, 0⟩ })] } }, ⟨32768, (cmd 0x0C 5).d⟩, by unfold RingUp; decide
     ⟩⟩

/-- The hypotheses of `HostResets`, clause by clause. -/
theorem witness_hostResets :
    (∃ (s : State) (port : HPort) (fn : Nat), fn % 256 ≠ 0 ∧ s.fnRings (port.val * 256 + fn % 256) = []) ∧
    (∃ (s : State) (port : HPort) (fn ring : Nat), fn % 256 ≠ 0 ∧ s.fnRings (port.val * 256 + fn % 256) = [ring] ∧
      (s.ring ring).st = .running ∧ (s.ring ring).waiting = [] ∧ (s.ring ring).running ≠ []) ∧
    (∃ (s : State) (port : HPort) (fn : Nat), fn % 256 = 0 ∧ s.fnRings (port.val * 256) = [] ∧ s.host.token = some port.val) ∧
    (∃ (s : State) (port : HPort), (s.boot.st ≠ .loading ∨ s.boot.port ≠ port.val) ∧ s.portFns port.val = [port.val * 256] ∧
      s.fnRings (port.val * 256) = []) ∧
    (∃ (s : State) (port : HPort), s.host.token = some port.val ∧ (s.boot.st ≠ .loading ∨ s.boot.port ≠ port.val)) ∧
    (∃ (s : State) (port : HPort), s.boot.st = .loading ∧ s.boot.port = port.val) :=
  ⟨⟨up, 0, 255, by decide⟩,
   ⟨{ up with host := { up.host with rings := [(64, { ringOn with running := [cmd 0xFF 0] })] } }, 0, 1, 64, by decide⟩,
   ⟨{ up with host := { up.host with rings := [] } }, 0, 0, by decide⟩,
   ⟨{ up with host := { up.host with rings := [] } }, 0, by decide⟩,
   ⟨up, 0, by decide⟩,
   ⟨{ up with boot := { up.boot with st := .loading, port := 1 } }, 1, by decide⟩⟩

end Rings

namespace Startup

def loading : State := { State.reset with
  boot := { State.reset.boot with st := .loading }, regs := { State.reset.regs with act := [(0x48, 100)] } }
def starting : State := { State.reset with boot := { State.reset.boot with st := .starting, fw := some fw } }
def untr : State := { up with boot := { up.boot with trained := false, memReady := false }, dram := State.reset.dram }
def tr : TrainResult := ⟨15, true, 64, 3, 16, 1, 1⟩
def locked : State := { untr with boot := { untr.boot with trained := true }, regs := { untr.regs with hashValid := true, dmapValid := true } }

/-- The hypotheses of `ChipResets`, clause by clause. -/
theorem witness_chipResets :
    (∃ (s : State) (a b : Bool), s.boot.resetLow = true) ∧
    (∃ (s : State) (o : Out), s.mute = true) :=
  ⟨⟨{ up with boot := { up.boot with resetLow := true } }, true, false, by decide⟩,
   ⟨{ up with boot := { up.boot with resetLow := true } }, .meterPulse, by decide⟩⟩

/-- The hypotheses of `Boot`, clause by clause. -/
theorem witness_boot :
    (∃ (s : State) (port : HPort) (val : Word), s.mute = false ∧ s.boot.code ≠ 5 ∧ (s.boot.st = .wait ∨ s.boot.st = .failed) ∧
      val.getLsbD 0 = true) ∧
    (∃ (s : State) (b : Bundle), s.boot.st = .loading ∧ b.formatOk = true ∧ b.length = s.regs.fld 0x48 26 0 ∧
      (s.regs.val 0x40).toNat % 64 = 0 ∧ b.signatureOk = true) ∧
    (∃ (s : State) (b : Bundle), s.boot.st = .loading ∧
      (b.formatOk = false ∨ b.length ≠ s.regs.fld 0x48 26 0 ∨ (s.regs.val 0x40).toNat % 64 ≠ 0)) ∧
    (∃ (s : State) (b : Bundle), s.boot.st = .loading ∧ b.formatOk = true ∧ b.length = s.regs.fld 0x48 26 0 ∧
      (s.regs.val 0x40).toNat % 64 = 0 ∧ b.signatureOk = false) ∧
    (∃ (s : State), s.boot.st = .loading) ∧
    (∃ (s : State) (r : StartResult), s.boot.st = .starting ∧ r.imagesOk = true) ∧
    (∃ (s : State) (r : StartResult), s.boot.st = .starting ∧ r.imagesOk = false) :=
  ⟨⟨State.reset, 1, 1, by decide⟩,
   ⟨loading, fw, by decide⟩,
   ⟨loading, { fw with formatOk := false }, by decide⟩,
   ⟨loading, { fw with signatureOk := false }, by decide⟩,
   ⟨loading, by decide⟩,
   ⟨starting, ⟨true, [0, 1, 2, 3, 4, 5, 6, 7], [(8, 5)]⟩, by decide⟩,
   ⟨starting, ⟨false, [0, 1, 2, 3, 4, 5, 6, 7], []⟩, by decide⟩⟩

/-- The hypotheses of `BringUp`, clause by clause. -/
theorem witness_bringUp :
    (∃ (s : State) (rs : List TrainResult) (r : TrainResult), s.boot.fwReady = true ∧ s.boot.trained = false ∧ r ∈ rs ∧
      (∀ x ∈ rs, x.trained = true ∧ x.ch < 16 ∧ (s.servedBy (x.ch / 2)).isSome = true ∧ geomShape x = geomShape r)) ∧
    (∃ (s : State) (a b : TrainResult), s.boot.fwReady = true ∧ s.boot.trained = false ∧ a.trained = true ∧ b.trained = false ∧ a.ch < 16 ∧
      b.ch < 16 ∧ a.ch ≠ b.ch ∧ (s.servedBy (a.ch / 2)).isSome = true ∧ (s.servedBy (b.ch / 2)).isSome = true) ∧
    (∃ (s : State), s.boot.trained = true ∧ s.regs.hashValid = true ∧ s.regs.dmapValid = true ∧ s.boot.initStarted = false ∧
      s.allServed = true) ∧
    (∃ (s : State), s.boot.initStarted = true ∧ s.boot.initDone = false ∧ s.allServed = true) ∧
    (∃ (s : State), s.boot.initDone = true ∧ s.boot.memReady = false ∧ s.sec.entropyOk = true) :=
  ⟨⟨untr, [tr], tr, by decide⟩,
   ⟨untr, { tr with ch := 0 }, { tr with trained := false }, by decide⟩,
   ⟨locked, by decide⟩,
   ⟨{ locked with boot := { locked.boot with initStarted := true } }, by decide⟩,
   ⟨{ locked with boot := { locked.boot with initStarted := true, initDone := true }, sec := { locked.sec with entropyOk := true } },
     by decide⟩⟩

end Startup

namespace Links

def node7 : State := regW [(0x140000, 7)]
def pb : ParamBlock := ⟨9, 4, 1, 1, false, false, 15, [16, 16, 16, 16, 16, 16, 16, 16, 32], 0⟩
def fl : FlitIn := ⟨false, false, false, 4095, 0, 0, 3, true, true, [msg9]⟩

/-- The hypotheses of `LinksComeUp`, clause by clause. -/
theorem witness_linksComeUp :
    (∃ (s : State) (port : HPort) (n : JPort) (val : Word), PortFree s port (jlBase n) ∧ s.host.token = some port.val ∧
      val.getLsbD 0 = true ∧ val.getLsbD 1 = false ∧ bitsOf val.toNat 5 4 ≤ 2 ∧ s.boot.memReady = true ∧ s.node ≠ 0 ∧ (s.jl n).st = 0) ∧
    (∃ (s : State) (port : HPort) (n : JPort) (val : Word), PortFree s port (jlBase n) ∧ s.host.token = some port.val ∧
      val.getLsbD 0 = true ∧ val.getLsbD 1 = true ∧ bitsOf val.toNat 5 4 ≤ 2 ∧ (s.jl n).st = 5) ∧
    (∃ (s : State) (n : JPort), (s.jl n).st = 1) ∧
    (∃ (s : State) (n : JPort) (lanes : Nat), (s.jl n).st = 2 ∧ lanes % 16 ≠ 0 ∧ s.regs.fld (jlBase n) 5 4 = 0) ∧
    (∃ (s : State) (n : JPort) (lanes : Nat), (s.jl n).st = 2 ∧ lanes % 16 = 0) ∧
    (∃ (s : State) (n : JPort), (s.jl n).st = 3) ∧
    (∃ (s : State) (n : JPort), (s.jl n).st = 7 ∧ bitOf (s.regs.val (jlBase n)).toNat 0 = true ∧ (s.jl n).failed ≤ 1) ∧
    (∃ (s : State) (n : JPort) (b : ParamBlock) (fw : Bundle), (s.jl n).st = 4 ∧ s.boot.fw = some fw ∧ s.regs.val (jlBase n + 0x10) = 0 ∧
      b.encReq = false ∧ (s.jl n).hardStop = false ∧ b.revLo ≤ fw.revHi ∧ fw.revLo ≤ b.revHi ∧ b.node ≠ s.node ∧
      (∀ v, v < 9 → (if v = 8 then 32 else 16) ≤ b.credits.getD v 0)) ∧
    (∃ (s : State) (n : JPort) (b : ParamBlock) (fw : Bundle), (s.jl n).st = 4 ∧ s.boot.fw = some fw ∧
      (fw.revHi < b.revLo ∨ b.revHi < fw.revLo ∨ b.node = s.node)) :=
  ⟨⟨node7, 0, 11, 0x21, by unfold PortFree; decide⟩,
   ⟨portW linkUp, 0, 3, 3, by unfold PortFree; decide⟩,
   ⟨portW { linkUp with st := 1 }, 3, by decide⟩,
   ⟨portW { linkUp with st := 2 }, 3, 7, by decide⟩,
   ⟨portW { linkUp with st := 2 }, 3, 16, by decide⟩,
   ⟨portW { linkUp with st := 3 }, 3, by decide⟩,
   ⟨{ portW { linkUp with st := 7 } with regs := { up.regs with act := [(jlBase 3, 1)] } }, 3, by decide⟩,
   ⟨{ portW { linkUp with st := 4 } with regs := { up.regs with act := [(0x140000, 7)] } }, 3, pb, fw, by decide⟩,
   ⟨{ portW { linkUp with st := 4 } with regs := { up.regs with act := [(0x140000, 7)] } }, 3, { pb with node := 7 }, fw, by decide⟩⟩

/-- The hypotheses of `FlitsAndReplay`, clause by clause. -/
theorem witness_flitsAndReplay :
    (∃ (s : State) (n : JPort) (f : FlitIn), (s.jl n).st = 5 ∧ (s.jl n).encOn = false ∧ f.training = false ∧ f.bad = false ∧
      f.corrected = false ∧ (s.jl n).ackAhead f.ack = false ∧ f.seq = (s.jl n).rxSeq ∧ f.crVc < 9 ∧ f.parses = true) ∧
    (∃ (s : State) (n : JPort) (f : FlitIn), (s.jl n).st = 5 ∧ f.training = false ∧ f.bad = true ∧ (s.jl n).bad < 7) ∧
    (∃ (s : State) (n : JPort) (f : FlitIn), (s.jl n).st = 5 ∧ f.training = false ∧ f.bad = false ∧ f.corrected = false ∧
      (s.jl n).ackAhead f.ack = false ∧ f.seq ≠ (s.jl n).rxSeq ∧ (f.seq + 4096 - (s.jl n).rxSeq) % 4096 < 2048 ∧ (s.jl n).asked = false) ∧
    (∃ (s : State) (n : JPort) (v k : Nat), (s.jl n).st = 5 ∧ v < 9) ∧
    (∃ (s : State) (n : JPort) (x : Nat), (s.jl n).st = 5 ∧ (s.jl n).encOn = true) ∧
    (∃ (s : State) (n : JPort), (s.jl n).st = 5 ∧ (s.jl n).encOn = false ∧ (s.jl n).buf.length < 512 ∧ s.mute = false ∧
      ((s.jl n).newest = none ∨ (s.jl n).ctl ≠ [])) ∧
    (∃ (s : State) (n : JPort) (x : Sent), (s.jl n).st = 5 ∧ (s.jl n).encOn = false ∧ (s.jl n).newest = some x ∧ (s.jl n).ctl = [] ∧
      (s.jl n).owed = [] ∧ (s.jl n).queue = [] ∧ s.mute = false) ∧
    (∃ (s : State) (n : JPort), (s.jl n).st = 5 ∧ (s.jl n).encOn = true ∧ 2 ^ 62 ≤ (s.jl n).txCtr) ∧
    (∃ (s : State) (n : JPort) (x : Sent) (rest : List Sent), (s.jl n).st = 5 ∧ (s.jl n).buf = x :: rest ∧
      (∀ f ∈ (s.jl n).buf, (f.seq + 4096 - x.seq) % 4096 < 2048 ∧ f.replays < s.regs.fld (jlBase n + 0x4) 11 8) ∧ s.mute = false) ∧
    (∃ (s : State) (n : JPort) (x : Nat), (s.jl n).st = 5 ∧ (∀ f ∈ (s.jl n).buf, f.seq ≠ x)) ∧
    (∃ (s : State) (n : JPort) (x : Sent) (rest : List Sent), (s.jl n).st = 5 ∧ (s.jl n).buf = x :: rest ∧
      (∀ f ∈ (s.jl n).buf, (f.seq + 4096 - x.seq) % 4096 < 2048 ∧ f.replays < s.regs.fld (jlBase n + 0x4) 11 8)) ∧
    (∃ (s : State) (n : JPort) (lanes : Nat), (s.jl n).st = 6 ∧ lanes % 16 = 15 ∧ (s.jl n).width = 3 ∧ s.regs.fld (jlBase n) 5 4 < 3) ∧
    (∃ (s : State) (n : JPort), (s.jl n).st = 6) :=
  ⟨⟨portW { linkUp with rxSeq := 4095, lastAck := 0, txSeq := 1 }, 3, fl, by decide⟩,
   ⟨portW { linkUp with bad := 6 }, 3, { fl with bad := true }, by decide⟩,
   ⟨portW { linkUp with rxSeq := 4093, lastAck := 0, txSeq := 1 }, 3, fl, by decide⟩,
   ⟨portW linkUp, 3, 8, 5, by decide⟩,
   ⟨portW { linkUp with encOn := true }, 3, 4096, by decide⟩,
   ⟨portW { linkUp with txSeq := 4095 }, 3, by decide⟩,
   ⟨portW { linkUp with newest := some ⟨5, [msg9], 0, 0⟩ }, 3, ⟨5, [msg9], 0, 0⟩, by decide⟩,
   ⟨portW { linkUp with encOn := true, txCtr := 2 ^ 62 }, 3, by decide⟩,
   ⟨portW { linkUp with buf := [⟨4095, [msg9], 0, 0⟩, ⟨0, [], 0, 0⟩] }, 3, ⟨4095, [msg9], 0, 0⟩, [⟨0, [], 0, 0⟩], by decide⟩,
   ⟨portW { linkUp with buf := [⟨4095, [msg9], 0, 0⟩, ⟨0, [], 0, 0⟩] }, 3, 1, by decide⟩,
   ⟨portW { linkUp with buf := [⟨4095, [msg9], 0, 0⟩, ⟨0, [], 0, 0⟩] }, 3, ⟨4095, [msg9], 0, 0⟩, [⟨0, [], 0, 0⟩], by decide⟩,
   ⟨portW { linkUp with st := 6, buf := [⟨4095, [msg9], 0, 0⟩, ⟨0, [], 0, 0⟩] }, 3, 15, by decide⟩,
   ⟨portW { linkUp with st := 6 }, 3, by decide⟩⟩

end Links

namespace Routers

def routed : State := { portW linkUp with regs := { up.regs with act := [(0x140000, 7), (0x150024, 0x1333)] } }
def q9 : Queued := ⟨msg9, none, ⟨3, 3, 3, false⟩, 0, none, .off, none⟩
def qr : Queued := { q9 with meter := some 0x190000, mark := .red }

/-- The hypotheses of `Routing`, clause by clause. -/
theorem witness_routing :
    (∃ (s : State) (port : JPort) (m : Msg) (e : RouteEnt), m.dst ≠ s.node ∧ s.routeOf m.dst = some e ∧ m.cls ≠ 4 ∧ m.vc % 2 = 0 ∧
      s.usable e.pri = true ∧ e.pri ≠ port.val ∧ s.hasCredit e.pri (2 * m.cls) m.cells = true) ∧
    (∃ (s : State) (port : JPort) (m : Msg), m.dst ≠ s.node ∧ s.routeOf m.dst = none ∧ m.cls = 0 ∧ s.mute = false) ∧
    (∃ (s : State) (port : JPort) (m : Msg), m.dst ≠ s.node ∧ s.routeOf m.dst = none ∧ m.cls ≠ 0) ∧
    (∃ (s : State) (port : JPort) (byte0 src cells vc : Nat), (byte0 / 64 ≠ 0 ∨ byte0 = 0x3F)) ∧
    (∃ (s : State) (port : JPort) (byte0 src cells vc : Nat), byte0 / 64 = 0 ∧ byte0 ≠ 0x3F ∧ s.mute = false) ∧
    (∃ (s : State) (n : JPort) (idx : Nat) (q : Queued), (s.jl n).queue[idx]? = some q ∧ q.m.cls ≠ 4 ∧ q.m.vc % 2 = 0 ∧
      s.usable q.ent.pri = true ∧ q.arrival ≠ some q.ent.pri ∧ s.hasCredit q.ent.pri (2 * q.m.cls) q.m.cells = false ∧
      q.ent.adapt = false ∧ s.usable q.ent.esc = true ∧ q.arrival ≠ some q.ent.esc ∧ bitOf (s.regs.val 0x140004).toNat 24 = false) ∧
    (∃ (s : State) (n : JPort) (idx : Nat) (q : Queued), (s.jl n).queue[idx]? = some q ∧ q.m.cls = 4 ∧
      s.hasCredit n q.m.vc q.m.cells = false) ∧
    (∃ (s : State) (idx : Nat) (q : Queued), s.net.held[idx]? = some q ∧ q.m.cls ≠ 0) ∧
    (∃ (s : State) (n : JPort) (idx m : Nat) (q : Queued), (s.jl n).queue[idx]? = some q ∧ q.meter = some m ∧ q.mark = .red ∧
      s.redOf m = [(n.val, q)] ∧ ((s.net.buckets.get m).getD ⟨0, 0, 0⟩).upd ≤ s.clock ∧ s.effLen n q.m ≤ s.regs.fld (m + 8) 31 16 * 64) :=
  ⟨⟨routed, 0, msg9, ⟨3, 3, 3, false⟩, by decide⟩,
   ⟨up, 0, msg9, by decide⟩,
   ⟨up, 0, { msg9 with cls := 3 }, by decide⟩,
   ⟨up, 0, 0x3F, 4, 2, 1, by decide⟩,
   ⟨up, 0, 0x3E, 4, 2, 1, by decide⟩,
   ⟨portW { linkUp with credits := [(2, 64), (1, 64)], queue := [q9] }, 3, 0, q9, by decide⟩,
   ⟨portW { linkUp with credits := [], queue := [{ q9 with m := { msg9 with cls := 4, vc := 8 } }] }, 3, 0,
     { q9 with m := { msg9 with cls := 4, vc := 8 } }, by decide⟩,
   ⟨{ up with net := { up.net with held := [{ q9 with m := { msg9 with cls := 3, vc := 6 } }] } }, 0,
     { q9 with m := { msg9 with cls := 3, vc := 6 } }, by decide⟩,
   ⟨{ portW { linkUp with queue := [qr] } with regs := { up.regs with act := [(0x190000, 100), (0x190004, 100), (0x190008, 0x400040)] } }, 3,
     0, 0x190000, qr, by decide⟩⟩

end Routers

namespace DramTier

def arb7 : State := { up with dram := { up.dram with arbs := [(7, { Arb.init with ready := [⟨5, false, 5, 0⟩, ⟨6, true, 2, 0⟩] })] } }

/-- The hypotheses of `DramController`, clause by clause. -/
theorem witness_dramController :
    (∃ (s : State) (ch : Chan) (rank sc bank : Nat), (s.chan ch).inService = true ∧ s.refreshes ch = true ∧ (s.chan ch).pause = false ∧
      s.mute = false) ∧
    (∃ (s : State) (ch : Chan) (rank sc bank : Nat) (issue : Bool), (s.chan ch).inService = true ∧ (s.chan ch).pause = true) ∧
    (∃ (s : State) (ch : Chan) (rank sc bank : Nat), s.refreshes ch = true ∧ (s.chan ch).pause = false ∧ s.mute = false) ∧
    (∃ (s : State) (ch : Chan) (w : Nat), s.nextWindow ch s.time.ft = some w ∧ s.boot.trained = true ∧ (s.chan ch).pause = false ∧
      (s.chan ch).inService = true ∧ (s.cprot ch).st ≠ 3 ∧ (s.share (ch.val / 2)).st ≠ .gap ∧ s.mute = false) ∧
    (∃ (s : State) (ch : Chan) (corr : Int), (s.chan ch).pause = true ∧ (s.chan ch).pauses % 4 ≠ 1) ∧
    (∃ (s : State) (ch : Chan) (corr : Int), (s.chan ch).pause = true ∧ (s.chan ch).pauses % 4 = 1) ∧
    (∃ (s : State) (share : Share), (s.arb share).ready = []) ∧
    (∃ (s : State) (share : Share) (x : Access), x ∈ (s.arb share).ready ∧ x.input < 6 ∧
      bitOf (s.regs.val (dcBase (2 * share.val) + 0x100)).toNat 0 = false ∧ (s.chan (2 * share.val)).ordCause ≠ 3) ∧
    (∃ (s : State) (ch : Chan) (w : Access), (s.chan ch).mode = 2 ∧ w ∈ (s.chan ch).writes ∧ w.since + 8000 < s.clock) :=
  ⟨⟨up, 15, 1, 1, 3, by decide⟩,
   ⟨{ up with dram := { up.dram with chans := [(15, { ChanSt.init with inService := true, pause := true })] } }, 15, 1, 1, 3, true, by decide⟩,
   ⟨up, 15, 1, 1, 31, by decide⟩,
   ⟨{ up with clock := 5 }, 0, 0, by decide⟩,
   ⟨{ up with dram := { up.dram with chans := [(15, { ChanSt.init with inService := true, pause := true, pauses := 2 })] } }, 15, 1, by decide⟩,
   ⟨{ up with dram := { up.dram with chans := [(15, { ChanSt.init with inService := true, pause := true, pauses := 1 })] } }, 15, 1, by decide⟩,
   ⟨up, 7, by decide⟩,
   ⟨arb7, 7, ⟨5, false, 5, 0⟩, by decide⟩,
   ⟨{ up with clock := 9000, dram := { up.dram with chans := [(15, { ChanSt.init with inService := true, mode := 2, writes := [⟨5, true, 2, 0⟩] })] } }, 15, ⟨5, true, 2, 0⟩, by decide
     ⟩⟩

end DramTier

namespace Maps

def crt : State := { up with sec := { up.sec with entropyOk := true } }
def era : State := upD { dist with st := .erasing, busyCmd := some (cmd 2 5 65530) }
def dr : Drain := { cmd := { cmd 4 5 0x10001 with d := { (cmd 4 5 0x10001).d with cmdId := 8 } }, district := 5, first := 0, last := 0, window := some (1, win), needSearch := false, translated := false, stamp := 0, kept := { rec7 with cmdId := 8 }, unmap := false, moves := [], unbind := false }
def drS (x : Drain) : State := { upM with maps := { upM.maps with drains := [x] } }
def mc : Cmd := cmd 5 5 0x1000 0x2000
def strS : State := { upM with maps := { upM.maps with districts := [(5, { dist with strength := 1 })] } }
def cnv : District := { dist with strength := 1, st := .converting, convCmd := some (cmd 7 5 2), convTo := 2, convNext := 0 }
def accS : State := { upM with maps := { upM.maps with windows := [(1, { win with lastPage := 9 })] } }
def acc : AccInfo := ⟨5, ⟨1, 0⟩, ⟨1, 0x400⟩, none, false, 0, 0⟩
def accR : Ring := { ringOn with acc := some acc }
def crs : Crossing := ⟨5, 1, 4, 0, 0, 0, false, [], 0, [], 0, false⟩
def crS : State := { upM with cr := { upM.cr with items := (List.range 64).map fun i => (i, crs), blocks := [(0, 1, 5)] } }

/-- The hypotheses of `Districts`, clause by clause. -/
theorem witness_districts :
    (∃ (s : State) (c : Cmd), Starts s c .g ∧ c.d.opcode = 0x01 ∧ c.d.district ≠ 0 ∧ s.district c.d.district = none ∧
      s.noFlash (bitsOf c.d.p0 11 8) (c.d.p3 + c.d.p4) 0 = false ∧
      (bitOf c.d.p0 4 = true → pageCost c.d.p2 (bitsOf c.d.p0 3 2) ≤ s.freeLines) ∧ s.waysUsed + fenceWays (bitsOf c.d.p0 1 0) ≤ 8 ∧
      s.enginesGiven (bitsOf c.d.p0 1 0) (bitsOf c.d.p0 14 12) (bitsOf c.d.p0 23 16) = true ∧ s.sec.entropyOk = true ∧
      bitsOf c.d.p0 3 2 ≠ 3 ∧ (bitOf c.d.p0 5 = true → isPf (bitsOf c.d.p5 8 0) = false ∧ 2 ≤ bitsOf c.d.p0 1 0) ∧
      1 ≤ bitsOf c.d.p0 41 28 ∧ bitsOf c.d.p0 41 28 ≤ 8192 ∧ (bitsOf c.d.p0 1 0 = 2 ↔ bitsOf c.d.p0 14 12 ≠ 0) ∧ bitsOf c.d.p0 14 12 ≤ 6 ∧
      (bitsOf c.d.p0 1 0 = 3 ↔ bitsOf c.d.p0 23 16 ≠ 0) ∧ s.badQuota (bitOf c.d.p0 4) (bitsOf c.d.p0 11 8) c.d.p2 c.d.p3 c.d.p4 = false ∧
      (s.maps.epochs.get c.d.district).getD 0 ≠ 0xFFFFFFFF) ∧
    (∃ (s : State) (c : Cmd) (x : District), Starts s c .g ∧ c.d.opcode = 0x08 ∧ s.district c.d.district = some x ∧
      s.noFlash x.fgroup (c.d.p3 + c.d.p4) (x.flashQuota + x.fcopyQuota) = false ∧
      (x.tiered = true → pageCost c.d.p2 x.strength ≤ s.freeLines + pageCost (s.residentPages c.d.district) x.strength) ∧
      1 ≤ bitsOf c.d.p0 41 28 ∧ bitsOf c.d.p0 41 28 ≤ 8192 ∧ s.badQuota x.tiered x.fgroup c.d.p2 c.d.p3 c.d.p4 = false) ∧
    (∃ (s : State) (c : Cmd) (x : District), Starts s c .g ∧ c.d.opcode = 0x0C ∧ s.district c.d.district = some x ∧ x.conf = false) ∧
    (∃ (s : State) (c : Cmd) (x : District), Starts s c .d ∧ c.d.opcode = 0x02 ∧ s.district c.d.district = some x ∧ x.st = .inService ∧
      x.convCmd = none ∧ s.jobsOf c.d.district = [] ∧ c.d.p0 = 65535 - c.d.district) ∧
    (∃ (s : State) (c : Cmd), Starts s c .d ∧ c.d.opcode = 0x02 ∧ c.d.p0 ≠ 65535 - c.d.district) ∧
    (∃ (s : State) (d : Nat) (x : District) (c : Cmd), s.district d = some x ∧ x.st = .erasing ∧ x.busyCmd = some c ∧
      s.eraseBusy d = false ∧ s.entriesIn d 0 (2 ^ 36) = [] ∧ s.sec.zeroCmd = none ∧ s.maps.districts.wf = true ∧ s.host.rings.wf = true ∧
      RingUp s c.ring ∧ (s.ring c.ring).acc = none) :=
  ⟨⟨crt, cmd 1 5 (1 + 4 + 2 ^ 28 * 64) 0 0 0 0 3, by unfold Starts RingUp; decide⟩,
   ⟨upM, cmd 8 5 (2 ^ 28 * 8192 + 2 ^ 24 * 15) 0 0 0 0, dist, by unfold Starts RingUp; decide⟩,
   ⟨upM, cmd 0xC 5 0 0 0 0 0 257, dist, by unfold Starts RingUp; decide⟩,
   ⟨upM, cmd 2 5 65530, dist, by unfold Starts RingUp; decide⟩,
   ⟨upM, cmd 2 5 65531, by unfold Starts RingUp; decide⟩,
   ⟨era, 5, { dist with st := .erasing, busyCmd := some (cmd 2 5 65530) }, cmd 2 5 65530, by unfold RingUp; decide⟩⟩

/-- The hypotheses of `WindowsAndDrains`, clause by clause. -/
theorem witness_windowsAndDrains :
    (∃ (s : State) (c : Cmd), Starts s c .d ∧ c.d.opcode = 0x04 ∧ bitsOf c.d.p0 17 16 = 0 ∧ s.windowMoving (bitsOf c.d.p0 15 0) = false ∧
      s.maps.windows.get (bitsOf c.d.p0 15 0) = none ∧ (winOf c.d.p1 c.d.p2 c.d.p3).district = c.d.district ∧
      ((winOf c.d.p1 c.d.p2 c.d.p3).msBind = true → ((s.msSlot c.d.district (winOf c.d.p1 c.d.p2 c.d.p3).msSlot).map (·.st)) = some 2) ∧
      winReserved c.d.p1 c.d.p2 c.d.p3 c.d.p4 = false ∧ s.badWindow (winOf c.d.p1 c.d.p2 c.d.p3) (bitOf c.d.p1 0) = false) ∧
    (∃ (s : State) (c : Cmd) (old : Window), Starts s c .d ∧ c.d.opcode = 0x04 ∧ bitsOf c.d.p0 17 16 = 1 ∧
      s.windowMoving (bitsOf c.d.p0 15 0) = false ∧ s.maps.windows.get (bitsOf c.d.p0 15 0) = some old ∧ old.district = c.d.district ∧
      (winOf c.d.p1 c.d.p2 c.d.p3).district = c.d.district ∧ s.sec.bindings.has (bitsOf c.d.p0 15 0) = false ∧
      ((winOf c.d.p1 c.d.p2 c.d.p3).msBind = true → ((s.msSlot c.d.district (winOf c.d.p1 c.d.p2 c.d.p3).msSlot).map (·.st)) = some 2) ∧
      winReserved c.d.p1 c.d.p2 c.d.p3 c.d.p4 = false ∧ s.badWindow (winOf c.d.p1 c.d.p2 c.d.p3) (bitOf c.d.p1 0) = false) ∧
    (∃ (s : State) (c : Cmd) (old : Window), Starts s c .d ∧ c.d.opcode = 0x04 ∧ bitsOf c.d.p0 17 16 = 2 ∧
      s.windowMoving (bitsOf c.d.p0 15 0) = false ∧ s.maps.windows.get (bitsOf c.d.p0 15 0) = some old ∧ old.district = c.d.district ∧
      s.sec.bindings.has (bitsOf c.d.p0 15 0) = false ∧ c.d.p1 = 0 ∧ c.d.p2 = 0 ∧ c.d.p3 = 0 ∧ c.d.p4 = 0) ∧
    (∃ (s : State) (c : Cmd) (w : Window), Starts s c .q ∧ c.d.opcode = 0x09 ∧ s.maps.drains = [] ∧
      s.maps.windows.get (bitsOf c.d.p0 15 0) = some w ∧ w.district = c.d.district ∧ (s.district c.d.district).isSome = true) ∧
    (∃ (s : State) (c : Cmd) (w : Window) (x : Drain), Starts s c .q ∧ c.d.opcode = 0x09 ∧ s.maps.drains = [x] ∧
      x.window = some (bitsOf c.d.p0 15 0, w) ∧ w.district = c.d.district ∧ (s.district c.d.district).isSome = true) ∧
    (∃ (s : State) (x : Drain), s.maps.drains = [x] ∧ x.translated = false ∧ s.drainClear x = true ∧ x.needSearch = false ∧
      x.unmap = false ∧ x.moves = [] ∧ x.unbind = false ∧ (∀ y ∈ x.window, y.2.msBind = false) ∧ s.coh.moveWait = [] ∧
      RingUp s x.cmd.ring ∧ x.kept.cmdId = x.cmd.d.cmdId) ∧
    (∃ (s : State) (x : Drain), s.maps.drains = [x] ∧ x.translated = false ∧ s.drainClear x = false ∧ x.moves = []) ∧
    (∃ (s : State) (x : Drain), s.maps.drains = [x] ∧ x.translated = true ∧ s.entriesIn x.district x.first x.last = [] ∧ x.unmap = false ∧
      x.moves = [] ∧ x.unbind = false ∧ (∀ y ∈ x.window, y.2.msBind = false) ∧ s.coh.moveWait = [] ∧ RingUp s x.cmd.ring ∧
      x.kept.cmdId = x.cmd.d.cmdId) :=
  ⟨⟨upM, cmd 4 5 2 0x539 0x1000 3, by unfold Starts RingUp; decide⟩,
   ⟨upM, cmd 4 5 0x10001 0x519 0x1000 3, win, by unfold Starts RingUp; decide⟩,
   ⟨upM, cmd 4 5 0x20001, win, by unfold Starts RingUp; decide⟩,
   ⟨upM, cmd 9 5 1, win, by unfold Starts RingUp; decide⟩,
   ⟨drS dr, cmd 9 5 1, win, dr, by unfold Starts RingUp; decide⟩,
   ⟨drS dr, dr, by unfold RingUp; decide⟩,
   ⟨{ drS dr with coh := { up.coh with trackers := [⟨0, 3, 9, 4, none, 5, 1, 0, false⟩] } }, dr, by decide⟩,
   ⟨drS { dr with translated := true, needSearch := true }, { dr with translated := true, needSearch := true }, by unfold RingUp; decide⟩⟩

/-- The hypotheses of `Pages`, clause by clause. -/
theorem witness_pages :
    (∃ (s : State) (c : Cmd) (x : District), Starts s c .d ∧ c.d.opcode = 0x05 ∧ s.district c.d.district = some x ∧
      badRange c.d.p0 c.d.p1 (bitsOf c.d.p2 1 0) = false ∧ (x.tiered = true → (bitsOf c.d.p2 1 0) = 0) ∧
      (∀ e ∈ s.leavesIn c.d.district (c.d.p0 / 4096) (c.d.p1 / 4096), e.2.size = (bitsOf c.d.p2 1 0)) ∧
      (s.mapAll c.d.district x (bitsOf c.d.p2 1 0) ((List.range (c.d.p1 / sizeBytes (bitsOf c.d.p2 1 0))).map fun i => c.d.p0 / 4096 + i *
      leafPages (bitsOf c.d.p2 1 0))).isSome = true ∧
      ((started s c).mapAll c.d.district x (bitsOf c.d.p2 1 0) ((List.range (c.d.p1 / sizeBytes (bitsOf c.d.p2 1 0))).map fun i => c.d.p0 /
      4096 + i * leafPages (bitsOf c.d.p2 1 0))).isSome = true) ∧
    (∃ (s : State) (c : Cmd), Starts s c .d ∧ c.d.opcode = 0x06 ∧ badRange c.d.p0 c.d.p1 (bitsOf c.d.p2 1 0) = false ∧
      s.leavesIn c.d.district (c.d.p0 / 4096) (c.d.p1 / 4096) ≠ [] ∧
      (∀ e ∈ s.leavesIn c.d.district (c.d.p0 / 4096) (c.d.p1 / 4096), c.d.p0 / 4096 ≤ e.1 ∧
      e.1 + leafPages e.2.size ≤ c.d.p0 / 4096 + c.d.p1 / 4096)) ∧
    (∃ (s : State) (c : Cmd), Starts s c .d ∧ c.d.opcode = 0x06 ∧ badRange c.d.p0 c.d.p1 (bitsOf c.d.p2 1 0) = false ∧
      s.leavesIn c.d.district (c.d.p0 / 4096) (c.d.p1 / 4096) = []) ∧
    (∃ (s : State) (c : Cmd) (x : District), Starts s c .d ∧ c.d.opcode = 0x07 ∧ s.district c.d.district = some x ∧ x.convCmd = none ∧
      bitsOf c.d.p0 1 0 ≠ 3 ∧ x.strength = bitsOf c.d.p0 1 0) ∧
    (∃ (s : State) (c : Cmd) (x : District), Starts s c .d ∧ c.d.opcode = 0x07 ∧ s.district c.d.district = some x ∧ x.st = .inService ∧
      x.convCmd = none ∧ bitsOf c.d.p0 1 0 ≠ 3 ∧ x.strength ≠ bitsOf c.d.p0 1 0 ∧
      s.convertCost c.d.district (bitsOf c.d.p0 1 0) ≤ s.freeLines ∧ (s.toConvert c.d.district (bitsOf c.d.p0 1 0)).1 ≠ []) ∧
    (∃ (s : State) (d : Nat) (x : District) (c : Cmd) (p : Nat) (l : Leaf) (rest : List (Nat × Leaf)) (cs : List (Nat × CopyPage)),
      s.district d = some x ∧ x.convCmd = some c ∧ s.toConvert d x.convTo = ((p, l) :: rest, cs)) :=
  ⟨⟨upM, mc, dist, by unfold Starts RingUp; decide +kernel⟩,
   ⟨upM, cmd 6 5 0 0x1000, by unfold Starts RingUp; decide⟩,
   ⟨upM, cmd 6 5 0x1000 0x1000, by unfold Starts RingUp; decide⟩,
   ⟨upM, cmd 7 5 0, dist, by unfold Starts RingUp; decide⟩,
   ⟨strS, cmd 7 5 2, { dist with strength := 1 }, by unfold Starts RingUp; decide⟩,
   ⟨{ upM with maps := { upM.maps with districts := [(5, cnv)] } }, 5, cnv, cmd 7 5 2, 0, leaf, [], [], by decide⟩⟩

/-- The hypotheses of `CrossingsAndRings`, clause by clause. -/
theorem witness_crossingsAndRings :
    (∃ (s : State) (c : Cmd) (i : Nat), Starts s c .d ∧ c.d.opcode = 0x0A ∧ i < 4096 ∧ s.host.rings.has (32768 + i) = false ∧
      (∀ j, j < i → s.host.rings.has (32768 + j) = true) ∧ 4 ≤ (bitsOf c.d.p2 3 0) ∧ (bitsOf c.d.p2 3 0) ≤ 12 ∧ 5 ≤ (bitsOf c.d.p2 7 4) ∧
      (bitsOf c.d.p2 7 4) ≤ 13 ∧ bitOf c.d.p2 23 = false ∧ c.d.p3 = 0 ∧
      s.oprefOk (c.d.district) (oprefOf c.d.p0) (64 * 2 ^ (bitsOf c.d.p2 3 0)) (·.r) = true ∧
      s.oprefOk (c.d.district) (oprefOf c.d.p1) (32 * 2 ^ (bitsOf c.d.p2 7 4)) (·.w) = true ∧
      s.daOf (oprefOf c.d.p0) % (64 * 2 ^ (bitsOf c.d.p2 3 0)) = 0 ∧ s.daOf (oprefOf c.d.p1) % (32 * 2 ^ (bitsOf c.d.p2 7 4)) = 0 ∧
      isAccRing c.ring = false) ∧
    (∃ (s : State) (c : Cmd) (r : Ring) (a : AccInfo), Starts s c .d ∧ c.d.opcode = 0x0B ∧
      s.host.rings.get (32768 + bitsOf c.d.p0 11 0) = some r ∧ r.acc = some a ∧ a.district = c.d.district ∧ r.st = .running ∧
      r.waiting = [] ∧ r.running = [] ∧ s.host.rings.wf = true ∧ isAccRing c.ring = false) ∧
    (∃ (s : State) (c : Cmd) (first : Nat), Starts s c .d ∧ c.d.opcode = 0x20 ∧ 1 ≤ (bitsOf c.d.p0 6 0) ∧ (bitsOf c.d.p0 6 0) ≤ 64 ∧
      s.findRun (bitsOf c.d.p0 6 0) = some first ∧ badInit (bitsOf c.d.p0 9 8) (c.d.p1 % 2 ^ 64) (bitsOf c.d.p2 15 0) = false) ∧
    (∃ (s : State) (c : Cmd), Starts s c .d ∧ c.d.opcode = 0x21 ∧
      s.cr.blocks.get (bitsOf c.d.p0 14 0) = some ((bitsOf c.d.p0 22 16), c.d.district) ∧ s.cr.blocks.wf = true ∧ s.cr.regs = [] ∧
      (∀ w ∈ s.maps.windows, w.2.kind ≠ 1 ∨ (bitsOf c.d.p0 14 0) + 64 * (bitsOf c.d.p0 22 16) ≤ w.2.crossings.1 ∨ w.2.crossings.1 +
      w.2.crossings.2 ≤ (bitsOf c.d.p0 14 0))) ∧
    (∃ (s : State) (c : Cmd) (x : Crossing), Starts s c .d ∧ c.d.opcode = 0x22 ∧ s.crossing (bitsOf c.d.p0 14 0) = some x ∧
      x.district = c.d.district ∧ badInit (bitsOf c.d.p0 17 16) (c.d.p1 % 2 ^ 64) (bitsOf c.d.p2 15 0) = false ∧
      (∀ r ∈ s.cr.regs, r.crossing ≠ (bitsOf c.d.p0 14 0))) ∧
    (∃ (s : State) (c : Cmd) (x : Crossing), Starts s c .d ∧ c.d.opcode = 0x23 ∧ s.crossing (bitsOf c.d.p0 14 0) = some x ∧
      x.district = c.d.district ∧ (bitsOf c.d.p0 19 16) ≤ 13) :=
  ⟨⟨accS, cmd 0xA 5 1 (1 + 0x400 * 2 ^ 16) 0x54, 0, by unfold Starts RingUp; decide⟩,
   ⟨{ accS with host := { accS.host with rings := [(0, ringOn), (32768, accR)] } }, cmd 0xB 5 0, accR, acc, by unfold Starts RingUp; decide⟩,
   ⟨upM, cmd 0x20 5 (1 + 256) 0 4, 0, by unfold Starts RingUp; decide +kernel⟩,
   ⟨crS, cmd 0x21 5 0x10000, by unfold Starts RingUp; decide⟩,
   ⟨crS, cmd 0x22 5 63 5 0, crs, by unfold Starts RingUp; decide⟩,
   ⟨crS, cmd 0x23 5 (63 + 13 * 65536), crs, by unfold Starts RingUp; decide⟩⟩

end Maps

namespace Milestones

def cutS : State := upM
def timed : State := { upM with time := { upM.time with mode := .locked } }
def ms (m : MsSlot) : State := { upM with ms := { upM.ms with slots := [(5 * 16 + 3, m)] } }
def m2 : MsSlot := ⟨2, 7, 1, 0, [(0, 0)], true, none⟩
def ren : District := { dist with st := .renumbering, busyCmd := some (cmd 0x14 5) }
def cpy : Copying := ⟨5, 0, 0, 300, [3], false, false, [], []⟩
def cpS (c : Copying) : State := { ms m2 with ms := { (ms m2).ms with copying := [c], maps := [((5 * 16 + 3) * 2 ^ 36, ⟨false, false, true, 300⟩)] } }
def full : District := { dist with copyQuota := 2, fcopyQuota := 5 }
def pw : Pend := { port := 3, op := .writeLine, src := 9, tag := 4, window := 1, district := 5, flow := 0, early := false, noAlloc := false, da := 0, pa := 409600, len := 64, steer := 0, share := 0, mask := 0xF0, data := 5, size := 0, operand := 0, compare := 0, elem := none, bound := none }

/-- The hypotheses of `Milestones`, clause by clause. -/
theorem witness_milestones :
    (∃ (s : State) (c : Cmd) (x : District) (slot : Nat), Starts s c .d ∧ c.d.opcode = 0x10 ∧ s.district (c.d.district) = some x ∧
      x.st ≠ .erasing ∧ x.st ≠ .renumbering ∧ s.emptySlot (c.d.district) = some slot ∧ x.copyQuota ≠ 0 ∧ c.d.p0 = 0 ∧
      1 ≤ bitsOf c.d.p1 3 0 ∧ bitsOf c.d.p1 3 0 ≤ 8 ∧ (cutWindows c.d).Nodup ∧
      (∀ k ∈ (cutWindows c.d), ∃ w ∈ s.maps.windows.get k, w.kind = 0 ∧ w.district = (c.d.district) ∧ w.msBind = false) ∧
      x.nextVersion < 2 ^ 32 ∧ s.anyGap = false) ∧
    (∃ (s : State) (c : Cmd) (x : District) (slot : Nat), Starts s c .d ∧ c.d.opcode = 0x10 ∧ s.district (c.d.district) = some x ∧
      x.st ≠ .erasing ∧ x.st ≠ .renumbering ∧ s.emptySlot (c.d.district) = some slot ∧ x.copyQuota ≠ 0 ∧ c.d.p0 ≠ 0 ∧ s.eventRoom = true ∧
      s.instantOk c.d.p0 = true ∧ 1 ≤ bitsOf c.d.p1 3 0 ∧ bitsOf c.d.p1 3 0 ≤ 8 ∧ (cutWindows c.d).Nodup ∧
      (∀ k ∈ (cutWindows c.d), ∃ w ∈ s.maps.windows.get k, w.kind = 0 ∧ w.district = (c.d.district) ∧ w.msBind = false) ∧
      x.nextVersion < 2 ^ 32) ∧
    (∃ (s : State) (c : Cmd) (k : Nat) (m : MsSlot), Starts s c .d ∧ c.d.opcode = 0x11 ∧ k < 16 ∧ s.msSlot c.d.district k = some m ∧
      m.st = 2 ∧ m.version = bitsOf c.d.p0 31 0 ∧ m.holds < 65535 ∧ (∀ j, j < k → ∀ y ∈ s.msSlot c.d.district j, ¬(y.st = 2 ∧
      y.version = bitsOf c.d.p0 31 0))) ∧
    (∃ (s : State) (c : Cmd) (m : MsSlot), Starts s c .d ∧ c.d.opcode = 0x12 ∧ bitsOf c.d.p0 7 0 ≤ 15 ∧
      s.msSlot c.d.district (bitsOf c.d.p0 7 0) = some m ∧ m.st = 2 ∧ 0 < m.holds) ∧
    (∃ (s : State) (c : Cmd) (m : MsSlot), Starts s c .d ∧ c.d.opcode = 0x12 ∧ bitsOf c.d.p0 7 0 ≤ 15 ∧
      s.msSlot c.d.district (bitsOf c.d.p0 7 0) = some m ∧ m.st = 3 ∧ m.holds = 1 ∧ s.bound c.d.district (bitsOf c.d.p0 7 0) = 0 ∧
      s.ms.slots.wf = true) ∧
    (∃ (s : State) (c : Cmd) (m : MsSlot), Starts s c .d ∧ c.d.opcode = 0x13 ∧ bitsOf c.d.p0 7 0 ≤ 15 ∧
      s.msSlot c.d.district (bitsOf c.d.p0 7 0) = some m ∧ m.st = 2 ∧ 0 < m.holds) ∧
    (∃ (s : State) (c : Cmd) (m : MsSlot), Starts s c .d ∧ c.d.opcode = 0x13 ∧ bitsOf c.d.p0 7 0 ≤ 15 ∧
      s.msSlot c.d.district (bitsOf c.d.p0 7 0) = some m ∧ m.st = 1 ∧ m.cmd = none ∧ s.ms.slots.wf = true) ∧
    (∃ (s : State) (c : Cmd), Starts s c .d ∧ c.d.opcode = 0x15 ∧ bitsOf c.d.p0 7 0 ≤ 15) :=
  ⟨⟨upM, cmd 0x10 5 0 1 1, dist, 0, by unfold Starts RingUp; decide⟩,
   ⟨timed, cmd 0x10 5 (128 * 1000) 1 1, dist, 0, by unfold Starts RingUp; decide⟩,
   ⟨ms m2, cmd 0x11 5 7, 3, m2, by unfold Starts RingUp; decide⟩,
   ⟨ms m2, cmd 0x12 5 3, m2, by unfold Starts RingUp; decide⟩,
   ⟨ms { m2 with st := 3 }, cmd 0x12 5 3, { m2 with st := 3 }, by unfold Starts RingUp; decide⟩,
   ⟨ms m2, cmd 0x13 5 3, m2, by unfold Starts RingUp; decide⟩,
   ⟨ms { m2 with st := 1 }, cmd 0x13 5 3, { m2 with st := 1 }, by unfold Starts RingUp; decide⟩,
   ⟨ms m2, cmd 0x15 5 3, by unfold Starts RingUp; decide⟩⟩

/-- The hypotheses of `CopiesAndRenumbering`, clause by clause. -/
theorem witness_copiesAndRenumbering :
    (∃ (s : State) (c : Cmd) (x : District), Starts s c .d ∧ c.d.opcode = 0x14 ∧ s.district c.d.district = some x ∧ x.st ≠ .erasing ∧
      x.st ≠ .renumbering ∧ (∀ k, k < 16 → ∀ m ∈ s.msSlot c.d.district k, m.st ≠ 1)) ∧
    (∃ (s : State) (d : Nat) (x : District) (c : Cmd), s.district d = some x ∧ x.st = .renumbering ∧ x.busyCmd = some c ∧ RingUp s c.ring ∧
      s.ms.slots.wf = true) ∧
    (∃ (s : State) (d slot : Nat) (m : MsSlot), s.msSlot d slot = some m ∧ (m.st = 2 ∨ m.st = 3)) ∧
    (∃ (s : State) (d page : Nat) (c : Copying) (first : Nat) (l : Leaf), s.copyingAt d page = some c ∧
      s.maps.leafAt d page = some (first, l) ∧ c.landed = false ∧ c.abandoned = false ∧ (l.tiered = true → l.resident = true) ∧
      s.anyGap = false ∧ c.olds = [] ∧ s.mem.isUnbound (leafFrame first l page) = false ∧ c.frame ≠ leafFrame first l page ∧
      s.mem.wf = true) ∧
    (∃ (s : State) (d page : Nat) (c : Copying), s.copyingAt d page = some c ∧ c.landed = true ∧ c.waiting = [] ∧
      (∀ e ∈ s.coh.dir, ∀ b ∈ e.2.busy, b.awaited ≠ [] ∨ b.wbw ≠ [])) ∧
    (∃ (s : State) (d page : Nat) (c : Copying) (first : Nat) (l : Leaf), s.copyingAt d page = some c ∧
      s.maps.leafAt d page = some (first, l) ∧ c.abandoned = true ∧ (∀ k, k < 8 → s.isOpen k = true) ∧
      (s.allocRun 1 (s.regs.colour (page * 4096)) l.strength).isSome = true ∧ s.ms.copying = [c]) ∧
    (∃ (s : State) (d slot : Nat) (fs : List Nat), s.ms.returning.get (slotKey d slot) = some fs ∧ (∀ f ∈ fs, f < flashMark) ∧
      s.ms.returning.wf = true) ∧
    (∃ (s : State) (d : Nat) (x : District), s.district d = some x ∧ x.copyQuota * 90 ≤ s.dramCopies d * 100) ∧
    (∃ (s : State) (d : Nat) (x : District), s.district d = some x ∧ (∀ p ∈ s.ms.spaceWait, p.district ≠ d)) ∧
    (∃ (s : State) (d : Nat) (p : Pend), s.ms.spaceWait = [p] ∧ p.district = d ∧ s.copyRoom p = true ∧ p.op = .writeLine ∧ p.mask ≠ 0 ∧
      p.bound = none ∧ s.coh.early = [] ∧ s.coh.dir = [] ∧ s.ms.copying = [] ∧ s.needCopy d (p.da / 4096) ≠ []) :=
  ⟨⟨ms m2, cmd 0x14 5, dist, by unfold Starts RingUp; decide⟩,
   ⟨{ ms m2 with maps := { upM.maps with districts := [(5, ren)] } }, 5, ren, cmd 0x14 5, by unfold RingUp; decide⟩,
   ⟨ms m2, 5, 3, m2, by decide⟩,
   ⟨cpS cpy, 5, 0, cpy, 0, leaf, by decide⟩,
   ⟨cpS { cpy with landed := true }, 5, 0, { cpy with landed := true }, by decide⟩,
   ⟨cpS { cpy with abandoned := true }, 5, 0, { cpy with abandoned := true }, 0, leaf, by decide +kernel⟩,
   ⟨{ ms m2 with ms := { (ms m2).ms with returning := [(5 * 16 + 3, [300, 301])] } }, 5, 3, [300, 301], by decide⟩,
   ⟨{ cpS cpy with maps := { upM.maps with districts := [(5, full)] }, ms := { (cpS cpy).ms with copying := [], copies := [(300, ⟨1, 5, 0, 1⟩), (301, ⟨1, 5, 0, 1⟩)] } }, 5, full, by decide
     ⟩,
   ⟨upM, 5, dist, by decide⟩,
   ⟨{ ms m2 with ms := { (ms m2).ms with spaceWait := [pw] } }, 5, pw, by decide +kernel⟩⟩

end Milestones

namespace Requests

def reqO : Req := { reqR with offset := 3, length := 61 }
def reqG : Req := { reqR with length := 0, elems := [(60, 4)] }
def upN : State := { upM with regs := { upM.regs with act := [(0x200304, 0x3E851)] } }
def upR : State := { upM with maps := { upM.maps with windows := [(1, { win with w := false })] } }
def ent : DirEntry := ⟨.owned, false, false, 9, 9, 0, 5, 0, 0, none⟩
def upO : State := { upM with coh := { upM.coh with dir := [(6400, ent)] } }
def rsp : Rsp := ⟨9, 0, 5, 6400, 0, 0x77⟩
def busyS (b : Busy) : State := { upM with coh := { upM.coh with dir := [(6400, { ent with busy := some b })] } }
def b2 : Busy := ⟨.br, 0, [9, 10], none, false, [], [], none⟩
def b1 : Busy := ⟨.bp, 0, [9], some 9, false, [], [], none⟩
def b3 : Busy := ⟨.br, 0, [10], none, false, [9], [], none⟩
def pr : Pend := { port := 3, op := .readShared, src := 9, tag := 4, window := 1, district := 5, flow := 0, early := true, noAlloc := false, da := 0, pa := 409600, len := 64, steer := 0, share := 0, mask := 0, data := 0, size := 0, operand := 0, compare := 0, elem := none, bound := none }
def earS (f : Bool) : State := { upM with coh := { upM.coh with early := [⟨pr, f, false, false⟩] } }
def ack : Ack := ⟨6400, true, false, false, pr, ⟨.comp, 9, 4, 0, 0, 0, none⟩, []⟩
def ack2 : Ack := ⟨6400, false, true, false, pr, ⟨.comp, 9, 4, 0, 0, 0, none⟩, []⟩
def ledg : Ledger := ⟨3, 9, 4, none, 0, false, .data, 0, 0⟩
def pwb : Pend := { pr with op := .writeBack, early := false, mask := BitVec.allOnes 64, data := 0x99 }

/-- The hypotheses of `ReadsAtHome`, clause by clause. -/
theorem witness_readsAtHome :
    (∃ (s : State) (port : JPort) (r : Req) (w : Window) (pa : Nat), reqReadWf r = true ∧ r.earlyOk = false ∧
      Served s port r r.offset 64 (·.r) w pa) ∧
    (∃ (s : State) (port : JPort) (r : Req) (w : Window) (pa : Nat), reqReadWf r = true ∧ r.earlyOk = false ∧
      Served s port r r.offset 64 (fun w => w.r && w.w) w pa) ∧
    (∃ (s : State) (port : JPort) (r : Req) (w : Window) (pa : Nat), reqOnceWf r = true ∧ r.earlyOk = false ∧
      Served s port r r.offset r.length (·.r) w pa) ∧
    (∃ (s : State) (port : JPort) (r : Req) (w : Window) (pa off len : Nat), reqGatherWf r = true ∧ r.gcount = 0 ∧ r.elems = [(off, len)] ∧
      s.coh.gathers = [] ∧ Served s port r off len (·.r) w pa) ∧
    (∃ (s : State) (port : JPort) (r : Req) (w : Window) (pa atop : Nat), atop ≤ 9 ∧ reqAtomicWf r atop = true ∧
      Served s port r r.offset r.size (·.a) w pa ∧ w.r = true ∧ w.w = true ∧ s.avFld (s.regs.home pa) 0x304 1 0 = 1) ∧
    (∃ (s : State) (port : JPort) (r : Req), s.coh.ledger = [] ∧ NoneEnding s ∧ reqReadWf r = false ∧ s.mute = false) ∧
    (∃ (s : State) (port : JPort) (r : Req), s.coh.ledger = [] ∧ NoneEnding s ∧ reqReadWf r = true ∧ s.maps.windows.get r.window = none ∧
      s.mute = false) ∧
    (∃ (s : State) (port : JPort) (r : Req) (w : Window) (d : District), s.coh.ledger = [] ∧ NoneEnding s ∧ reqWriteWf r = true ∧
      s.maps.windows.get r.window = some w ∧ s.district w.district = some d ∧ d.st = .inService ∧ s.isFenced r.src = false ∧
      w.admits r.src = true ∧ w.kind = 0 ∧ d.level ≠ 3 ∧ w.w = false ∧ w.msBind = false ∧ s.mute = false) :=
  ⟨⟨upM, 3, reqR, win, 409600, by unfold Served Homed NoneEnding; decide +kernel⟩,
   ⟨upM, 3, reqR, win, 409600, by unfold Served Homed NoneEnding; decide +kernel⟩,
   ⟨upM, 3, reqO, win, 409603, by unfold Served Homed NoneEnding; decide +kernel⟩,
   ⟨upM, 3, reqG, win, 409660, 60, 4, by unfold Served Homed NoneEnding; decide +kernel⟩,
   ⟨upN, 3, reqA, win, 409660, 0, by unfold Served Homed NoneEnding; decide +kernel⟩,
   ⟨upM, 3, { reqR with cells := 3 }, by unfold NoneEnding; decide⟩,
   ⟨upM, 3, { reqR with window := 2 }, by unfold NoneEnding; decide⟩,
   ⟨upR, 3, reqW, { win with w := false }, dist, by unfold NoneEnding; decide⟩⟩

/-- The hypotheses of `WritesAtHome`, clause by clause. -/
theorem witness_writesAtHome :
    (∃ (s : State) (port : JPort) (r : Req) (w : Window) (pa : Nat), reqWriteWf r = true ∧ r.mask ≠ 0 ∧
      Served s port r r.offset 64 (·.w) w pa) ∧
    (∃ (s : State) (port : JPort) (r : Req) (w : Window) (pa : Nat) (e : DirEntry), reqWriteWf r = true ∧ r.mask = BitVec.allOnes 64 ∧
      Served { s with coh := { s.coh with dir := s.coh.dir.del (pa / 64) } } port r r.offset 64 (·.w) w pa ∧ s.coh.dir.wf = true ∧
      s.coh.dir.get (pa / 64) = some e ∧ e.busy = none ∧ e.st = .owned ∧ e.p0 = r.src) ∧
    (∃ (s : State) (port : JPort) (r : Req) (w : Window) (pa : Nat) (f : JPort → Req → Instr) (atop : Nat), (f, atop) ∈ ([(.atomicAdd, 0),
      (.atomicAnd, 1), (.atomicOr, 2), (.atomicXor, 3), (.atomicSmax, 4), (.atomicSmin, 5), (.atomicUmax, 6), (.atomicUmin, 7),
      (.atomicSwap, 8), (.atomicCas, 9)] : List ((JPort → Req → Instr) × Nat)) ∧ reqAtomicWf r atop = true ∧
      Served s port r r.offset r.size (·.a) w pa) ∧
    (∃ (size old operand compare : Nat), (size = 4 ∨ size = 8) ∧ old < 2 ^ (8 * size) ∧ operand < 2 ^ (8 * size) ∧ compare < 2 ^ (8 * size)) :=
  ⟨⟨upM, 3, reqW, win, 409600, by unfold Served Homed NoneEnding; decide +kernel⟩,
   ⟨upO, 3, { reqW with mask := BitVec.allOnes 64 }, win, 409600, ent, by unfold Served Homed NoneEnding; decide +kernel⟩,
   ⟨upM, 3, reqA, win, 409660, .atomicAdd, 0, by simp, by unfold Served Homed NoneEnding; decide +kernel⟩,
   ⟨4, 2 ^ 31, 5, 2 ^ 31, by decide⟩⟩

/-- The hypotheses of `RecallAnswers`, clause by clause. -/
theorem witness_recallAnswers :
    (∃ (s : State) (port : JPort) (m : Rsp) (line : Nat) (e : DirEntry) (b : Busy), s.isFenced m.src = false ∧ s.coh.allWaits = [] ∧
      s.inGap (m.tag / 8192) = false ∧ s.busyOf m.tag = some (line, e) ∧ s.coh.dir.get line = some e ∧ e.busy = some b ∧
      m.src ∈ b.awaited ∧ (∃ n ∈ b.awaited, n ≠ m.src) ∧ bitOf m.rflags 0 = false) ∧
    (∃ (s : State) (port : JPort) (m : Rsp), s.isFenced m.src = false ∧ (∃ a ∈ s.coh.allWaits, a.share = m.tag / 8192 ∧ a.tag = m.tag ∧
      a.node = m.src)) ∧
    (∃ (s : State) (port : JPort) (m : Rsp) (line : Nat) (e : DirEntry) (b : Busy), s.isFenced m.src = false ∧ s.coh.allWaits = [] ∧
      s.inGap (m.tag / 8192) = false ∧ s.busyOf m.tag = some (line, e) ∧ s.coh.dir.get line = some e ∧ e.busy = some b ∧
      b.awaited = [m.src] ∧ b.wbw = [] ∧ b.owner = some m.src ∧ b.kind = .bp ∧ b.req = none ∧ s.coh.waits = [] ∧ s.coh.evictWait = [] ∧
      s.coh.dir.wf = true ∧ s.needCopy e.district (e.da / 4096) = [] ∧ s.ms.copying = []) ∧
    (∃ (s : State) (line node : Nat) (e : DirEntry) (b : Busy), s.coh.dir.get line = some e ∧ e.busy = some b ∧ node ∈ b.awaited ∧
      (∃ n ∈ b.awaited, n ≠ node) ∧ s.isFenced node = false) ∧
    (∃ (s : State) (share : Share) (d node : Nat), (∃ a ∈ s.coh.allWaits, a.share = share.val ∧ a.district = d ∧ a.node = node) ∧
      s.isFenced node = false) ∧
    (∃ (s : State) (line node : Nat) (e : DirEntry) (b : Busy), s.coh.dir.get line = some e ∧ e.busy = some b ∧ node ∈ b.wbw ∧
      b.awaited ≠ [] ∧ s.isFenced node = false) :=
  ⟨⟨busyS b2, 3, rsp, 6400, { ent with busy := some b2 }, b2, by decide⟩,
   ⟨{ upM with coh := { upM.coh with allWaits := [⟨0, 5, 9, 0⟩, ⟨0, 5, 10, 0⟩] } }, 3, rsp, by decide⟩,
   ⟨busyS b1, 3, rsp, 6400, { ent with busy := some b1 }, b1, by decide⟩,
   ⟨busyS b2, 6400, 9, { ent with busy := some b2 }, b2, by decide⟩,
   ⟨{ upM with coh := { upM.coh with allWaits := [⟨0, 5, 9, 0⟩, ⟨0, 5, 10, 0⟩] } }, 0, 5, 9, by decide⟩,
   ⟨busyS b3, 6400, 9, { ent with busy := some b3 }, b3, by decide⟩⟩

/-- The hypotheses of `EarlyAndReleased`, clause by clause. -/
theorem witness_earlyAndReleased :
    (∃ (s : State) (port : JPort) (src tag : Nat) (p : Pend), s.coh.early = [⟨p, false, false, false⟩] ∧ p.port = port.val ∧ p.src = src ∧
      p.tag = tag ∧ p.op = .readShared ∧ p.bound = none ∧ p.len = 64 ∧ p.pa % 64 = 0 ∧ s.coh.dir.get (p.pa / 64) = none ∧
      s.setFull (p.pa / 64) = false ∧ s.maps.drains = [] ∧ s.coh.waits = [] ∧ s.mute = false) ∧
    (∃ (s : State) (port : JPort) (src tag : Nat) (p : Pend) (forced : Bool) (f : JPort → Nat → Nat → Instr) (why : Nat), (f,
      why) ∈ ([(fun q a b => .earlyDecision q a b false, 7), (.earlyDeadline, 5)] : List ((JPort → Nat → Nat → Instr) × Nat)) ∧
      s.coh.early = [⟨p, true, false, false⟩] ∧ p.port = port.val ∧ p.src = src ∧ p.tag = tag ∧ p.op = .readShared ∧ p.bound = none ∧
      p.elem = none ∧ p.len = 64 ∧ p.da % 64 = 0 ∧ Homed { s with coh := { s.coh with early := [] } } p.district p.da p.pa 64 ∧
      p.steer = s.regs.home p.pa ∧ s.coh.waits = [] ∧ s.mute = false) ∧
    (∃ (s : State) (line : Nat) (a : Ack), s.coh.acks = [a] ∧ a.line = line ∧ a.needSnoop = false ∧ a.needDram = false ∧ a.p.port < 12 ∧
      a.after = [] ∧ s.mem.mirrorWait = [] ∧ s.cr.queue = [] ∧ s.mute = false) ∧
    (∃ (s : State) (line : Nat) (a : Ack), s.coh.acks = [a] ∧ a.line = line ∧ a.needMirror = false ∧ a.needDram = false ∧ a.p.port < 12 ∧
      a.after = [] ∧ s.mute = false) ∧
    (∃ (s : State) (share : Share) (k : Nat) (p : Predictor), s.avFld share 0x304 23 8 ≠ 0 ∧ s.coh.pred.get k = some p ∧
      k / 4096 = share.val) ∧
    (∃ (s : State) (port : JPort) (src tag : Nat) (x : Ledger) (p : Pend), s.coh.ledger = [x] ∧ x.port = port.val ∧ x.src = src ∧
      x.tag = tag ∧ s.heldReqs port src tag = [p] ∧ p.elem = none ∧ s.mute = false) ∧
    (∃ (s : State) (share : Share) (p : Pend) (e : DirEntry), s.coh.wbWait = [p] ∧ p.steer = share.val ∧ s.trackersOf share < 8192 ∧
      p.op = .writeBack ∧ p.port < 12 ∧ p.bound = none ∧ p.mask = BitVec.allOnes 64 ∧ p.steer = s.regs.home p.pa ∧ p.da % 64 = 0 ∧
      Homed { s with coh := { s.coh with dir := s.coh.dir.del (p.pa / 64) } } p.district p.da p.pa 64 ∧ s.coh.dir.wf = true ∧
      s.coh.dir.get (p.pa / 64) = some e ∧ e.busy = none ∧ e.st = .owned ∧ e.p0 = p.src) :=
  ⟨⟨earS false, 3, 9, 4, pr, by decide +kernel⟩,
   ⟨earS true, 3, 9, 4, pr, true, .earlyDeadline, 5, by simp, by unfold Homed NoneEnding; decide +kernel⟩,
   ⟨{ upM with coh := { upM.coh with acks := [ack] } }, 6400, ack, by decide +kernel⟩,
   ⟨{ upM with coh := { upM.coh with acks := [ack2] } }, 6400, ack2, by decide +kernel⟩,
   ⟨{ upN with coh := { upM.coh with pred := [(5, ⟨3, 9⟩)] } }, 0, 5, ⟨3, 9⟩, by decide⟩,
   ⟨{ upM with coh := { upM.coh with ledger := [ledg], waits := [(6400, [pr])] } }, 3, 9, 4, ledg, pr, by decide +kernel⟩,
   ⟨{ upO with coh := { upO.coh with wbWait := [pwb] } }, 0, pwb, ent, by unfold Homed NoneEnding; decide +kernel⟩⟩

end Requests

namespace Crossings

def cr0 : Crossing := ⟨5, 0, 0, 3, 0, 0, false, [], 0, [], 0, false⟩
def cw : Window := { win with kind := 1, r := false, w := false, a := true }
def crS0 (c : Crossing) : State := { upM with maps := { upM.maps with windows := [(1, cw)] }, cr := { upM.cr with items := (List.range 64).map fun i => (i, c), blocks := [(0, 1, 5)] } }
def reqC (op : Word64) : Req := { reqR with cells := 3, length := 0, offset := 64 * 9, size := 8, operand := op }
def rg : Registration := ⟨9, 7, 9, 0x13, 4, 0⟩
def crR : State := { crS0 cr0 with cr := { (crS0 cr0).cr with regs := [rg] } }

/-- The hypotheses of `Crossings`, clause by clause. -/
theorem witness_crossings :
    (∃ (c : Crossing) (a : Nat), c.value + a < 2 ^ 64 ∧ c.value + 1 < 2 ^ 64 ∧ c.value2 + 1 < 2 ^ 48) ∧
    (∃ (s : State) (port : JPort) (any : Bool) (r : Req) (f : JPort → Bool → Req → Instr) (code : Nat) (w : Window) (n : Nat) (c :
      Crossing), (f, code) ∈ crossingRows ∧ AtCrossing s port r code w n c ∧ (c.effect code (r.operand.toNat % 2 ^ 48)).registers = false ∧
      code ≠ 0x1D ∧ (code ∈ [0x13, 0x15, 0x19, 0x1C] → FreshWaiter s r n) ∧ (c.effect code (r.operand.toNat % 2 ^ 48)).journal = true ∧
      (c.effect code (r.operand.toNat % 2 ^ 48)).held = false ∧ c.seq + 1 < 2 ^ 64) ∧
    (∃ (s : State) (port : JPort) (any : Bool) (r : Req) (f : JPort → Bool → Req → Instr) (code : Nat) (w : Window) (n : Nat) (c :
      Crossing), (f, code) ∈ crossingRows ∧ AtCrossing s port r code w n c ∧ (c.effect code (r.operand.toNat % 2 ^ 48)).registers = false ∧
      code ≠ 0x1D ∧ (code ∈ [0x13, 0x15, 0x19, 0x1C] → FreshWaiter s r n) ∧ (c.effect code (r.operand.toNat % 2 ^ 48)).journal = false) ∧
    (∃ (s : State) (port : JPort) (any : Bool) (r : Req) (f : JPort → Bool → Req → Instr) (code : Nat) (w : Window) (n : Nat) (c :
      Crossing), (f, code) ∈ crossingRows ∧ AtCrossing s port r code w n c ∧ (c.effect code (r.operand.toNat % 2 ^ 48)).registers = true ∧
      code ≠ 0x1D ∧ FreshWaiter s r n ∧ s.cr.regs.length < 16384) ∧
    (∃ (s : State) (port : JPort) (any : Bool) (r : Req) (w : Window) (n : Nat) (c : Crossing) (x : Registration),
      AtCrossing s port r 0x1D w n c ∧ s.cr.regs = [x] ∧ x.crossing = n ∧ x.node = r.src ∧ x.cookie = r.operand.toNat / 2 ^ 48) ∧
    (∃ (s : State) (n node cookie : Nat) (x : Registration) (c : Crossing), s.cr.regs = [x] ∧ x.crossing = n ∧ x.node = node ∧
      x.cookie = cookie ∧ s.crossing n = some c ∧ s.mute = false) :=
  ⟨⟨cr0, 3, by decide⟩,
   ⟨crS0 cr0, 3, false, reqC 3, .semAcquire, 0x12, cw, 9, cr0, by simp [crossingRows], by unfold AtCrossing FreshWaiter; decide +kernel⟩,
   ⟨crS0 cr0, 3, false, reqC 0, .crRead, 0x10, cw, 9, cr0, by simp [crossingRows], by unfold AtCrossing FreshWaiter; decide +kernel⟩,
   ⟨crS0 cr0, 3, false, reqC (4 + 7 * 2 ^ 48), .semWait, 0x13, cw, 9, cr0, by simp [crossingRows],
     by unfold AtCrossing FreshWaiter; decide +kernel⟩,
   ⟨crR, 3, false, reqC (7 * 2 ^ 48), cw, 9, cr0, rg, by unfold AtCrossing; decide⟩,
   ⟨crR, 9, 9, 7, rg, cr0, by decide⟩⟩

end Crossings

namespace Protection

def chS (x : ChanProt) : State := { upM with prot := { upM.prot with chans := [(15, x)] } }
def cp : ChanProt := ChanProt.init
def rdS (m : Memory) : State := { upM with mem := m, dram := { upM.dram with arbs := [(0, { Arb.init with ready := [⟨6400, false, 1, 0⟩] })] } }
def m0 : Memory := { upM.mem with cache := [] }
def rcS (r : Recon) (u : List Update) : State := { rdS m0 with prot := { upM.prot with recons := [(100, r)], updates := u } }
def upd : Update := ⟨6400, 5, false, true, true, [0, 1], [2, 3]⟩
def puS : State := { upM with prot := { upM.prot with updates := [upd] } }
def erS : State := { upM with prot := { upM.prot with erased := [(100, [2, 5])] } }
def scS (x : Scrub) : State := { upM with prot := { upM.prot with scrubs := [(0, x)] } }
def er1 : ErrRec := { State.errChan up 6 3 with seq := 5 }

/-- The hypotheses of `MemoryFailures`, clause by clause. -/
theorem witness_memoryFailures :
    (∃ (s : State) (ch : Chan), (s.cprot ch).st = 0 ∧ (s.chan ch).inService = true ∧ bitOf (s.regs.val 0x10144).toNat 8 = false) ∧
    (∃ (s : State) (ch : Chan), (s.cprot ch).st = 0 ∧ (s.chan ch).inService = true ∧ bitOf (s.regs.val 0x10144).toNat 8 = true ∧
      (s.cprot (ch.val / 2 * 2 + (1 - ch.val % 2))).st = 0 ∧ s.evacOk ch = true) ∧
    (∃ (s : State) (ch : Chan), (s.cprot ch).st = 2 ∧ (s.cprot ch).moved < 14) ∧
    (∃ (s : State) (ch : Chan), (s.cprot ch).st = 2 ∧ (s.cprot ch).moved = 14 ∧ (s.cprot ch).evacCmd = none) ∧
    (∃ (s : State) (ch : Chan) (k : Cmd), (s.cprot ch).st = 2 ∧ (s.cprot ch).moved = 14 ∧ (s.cprot ch).evacCmd = some k ∧ RingUp s k.ring) ∧
    (∃ (s : State) (c : Cmd), Starts s c .g ∧ c.d.opcode = 0x62 ∧ bitsOf c.d.p0 1 0 = 0 ∧ s.maps.ownerOf (bitsOf c.d.p2 45 0 / 64) = none ∧
      s.ms.copies.get (bitsOf c.d.p2 45 0 / 64) = none) ∧
    (∃ (s : State) (c : Cmd), Starts s c .g ∧ c.d.opcode = 0x62 ∧ bitsOf c.d.p0 1 0 = 2 ∧ (locatorOf c.d.p1).rank < 2 ^ s.dram.geom.rk ∧
      (s.cprot (locatorOf c.d.p1).ch).detours.length < 16 ∧ s.bankLines ≤ s.reserveFree (locatorOf c.d.p1).ch ∧
      (((locatorOf c.d.p1).rank, (locatorOf c.d.p1).sc, (locatorOf c.d.p1).bg,
      (locatorOf c.d.p1).ba)) ∉ (s.cprot (locatorOf c.d.p1).ch).detours) ∧
    (∃ (s : State) (c : Cmd), Starts s c .g ∧ c.d.opcode = 0x62 ∧ bitsOf c.d.p0 1 0 = 3 ∧ (s.cprot (locatorOf c.d.p1).ch).st = 0 ∧
      (s.cprot ((locatorOf c.d.p1).ch / 2 * 2 + (1 - (locatorOf c.d.p1).ch % 2))).st = 0 ∧ s.evacOk (locatorOf c.d.p1).ch = true) ∧
    (∃ (s : State) (frame par line : Nat) (u : Update), s.prot.updates = [u] ∧ u.line = line ∧ line / 64 = frame ∧ u.issued = true ∧
      par ∈ u.owes ∧ (s.share (parityShare frame par)).st ≠ .gap ∧ ((s.prot.erased.get frame).getD []).contains par = false ∧
      s.parityErased frame par = false) ∧
    (∃ (s : State) (frame par : Nat) (u : Update) (q : Nat), s.prot.updates = [u] ∧ u.line / 64 = frame ∧ u.issued = true ∧
      par ∈ u.queued ∧ q ∈ u.queued ∧ q ≠ par) ∧
    (∃ (s : State) (frame par : Nat) (u : Update) (q : Nat), s.prot.updates = [u] ∧ u.line / 64 = frame ∧ u.issued = true ∧
      par ∈ u.queued ∧ q ∈ u.queued ∧ q ≠ par) ∧
    (∃ (s : State) (frame par : Nat) (es : List Nat), s.prot.erased.get frame = some es ∧ par ∈ es ∧ s.inFlight frame = false ∧
      s.prot.recons.has frame = false ∧ s.prot.erased.wf = true) ∧
    (∃ (s : State) (frame par : Nat) (es : List Nat), s.prot.erased.get frame = some es ∧ par ∈ es ∧ s.inFlight frame = false ∧
      s.prot.recons.has frame = false) ∧
    (∃ (s : State) (share : Share) (line : Nat), s.regs.home (line * 64) = share.val ∧ s.isOpen share = true ∧
      s.avFld share 0x704 0 0 = 1 ∧ s.onErased line = false ∧ (s.scrub share).last ≤ localAddr (line * 64) / 64 ∧ (s.scrub share).laps ≠ 0) ∧
    (∃ (s : State) (share : Share) (line : Nat), s.regs.home (line * 64) = share.val ∧ s.isOpen share = true ∧
      s.avFld share 0x704 0 0 = 1 ∧ s.onErased line = false ∧ localAddr (line * 64) / 64 < (s.scrub share).last ∧
      (s.scrub share).warned = true) ∧
    (∃ (s : State) (share : Share), (s.scrub share).warned = false ∧ s.avFld share 0x704 0 0 = 1) ∧
    (∃ (s : State) (c : Cmd), Starts s c .pf ∧ c.d.opcode = 0x63 ∧ 1 ≤ (bitsOf c.d.p0 44 32) ∧ (bitsOf c.d.p0 44 32) ≤ 4096 ∧
      ((s.prot.log.filter fun r => decide (bitsOf c.d.p0 31 0 ≤ r.seq)).take (bitsOf c.d.p0 44 32)) ≠ []) ∧
    (∃ (s : State) (c : Cmd), Starts s c .pf ∧ c.d.opcode = 0x63 ∧ 1 ≤ bitsOf c.d.p0 44 32 ∧ bitsOf c.d.p0 44 32 ≤ 4096 ∧ s.prot.log = []) :=
  ⟨⟨regW [(0x10144, 0x40)], 15, by decide⟩,
   ⟨regW [(0x10144, 0x140)], 15, by decide⟩,
   ⟨chS { cp with st := 2, moved := 13 }, 15, by decide⟩,
   ⟨chS { cp with st := 2, moved := 14 }, 15, by decide⟩,
   ⟨chS { cp with st := 2, moved := 14, evacCmd := some (cmd 0x62 0 3 15) }, 15, cmd 0x62 0 3 15, by unfold RingUp; decide⟩,
   ⟨upM, cmd 0x62 0 0 0 (64 * 500), by unfold Starts RingUp; decide⟩,
   ⟨upM, cmd 0x62 0 2 15, by unfold Starts RingUp; decide⟩,
   ⟨upM, cmd 0x62 0 3 15, by unfold Starts RingUp; decide⟩,
   ⟨puS, 100, 1, 6400, upd, by decide +kernel⟩,
   ⟨puS, 100, 2, upd, 3, by decide +kernel⟩,
   ⟨puS, 100, 2, upd, 3, by decide +kernel⟩,
   ⟨erS, 100, 2, [2, 5], by decide⟩,
   ⟨erS, 100, 2, [2, 5], by decide⟩,
   ⟨scS ⟨1, 5, 0, 7, false⟩, 0, 6400, by decide +kernel⟩,
   ⟨scS ⟨1, 5, 9999, 7, true⟩, 0, 6400, by decide +kernel⟩,
   ⟨scS ⟨1, 5, 0, 7, false⟩, 0, by decide⟩,
   ⟨{ up with prot := { up.prot with log := [er1], nextSeq := 6 } }, cmdB 0x63 0 (2 ^ 32 * 4096 + 5), by unfold Starts RingUp; decide⟩,
   ⟨up, cmdB 0x63 0 (2 ^ 32 * 1), by unfold Starts RingUp; decide⟩⟩

/-- The hypotheses of `ReadsOfDram`, clause by clause. -/
theorem witness_readsOfDram :
    (∃ (s : State) (line : Nat), s.reading line = true ∧ (s.share (s.regs.home (line * 64))).st ≠ .gap ∧
      s.mem.poison.contains line = false ∧ s.onErased line = false ∧ s.mem.cache.has line = false ∧ s.coh.fetch = [] ∧
      s.prot.updates = [] ∧ NoneEnding s) ∧
    (∃ (s : State) (line bad : Nat), s.reading line = true ∧ (s.share (s.regs.home (line * 64))).st ≠ .gap ∧
      s.mem.poison.contains line = false ∧ s.onErased line = false ∧ 10 < bad ∧ s.mem.parityLost.contains (line / 64) = false) ∧
    (∃ (s : State) (line bad : Nat), s.reading line = true ∧ (s.share (s.regs.home (line * 64))).st ≠ .gap ∧
      s.mem.poison.contains line = false ∧ s.onErased line = false ∧ 10 < bad ∧ s.mem.parityLost.contains (line / 64) = true ∧
      s.mem.cache.has line = false ∧ s.coh.fetch = [] ∧ s.prot.updates = [] ∧ NoneEnding s) ∧
    (∃ (s : State) (frame : Nat) (r : Recon), s.prot.recons.get frame = some r ∧ s.inFlight frame = false ∧
      (∀ k, k < 8 → s.isOpen k = true)) ∧
    (∃ (s : State) (frame : Nat) (r : Recon), s.prot.recons.get frame = some r ∧ s.inFlight frame = true) ∧
    (∃ (s : State) (frame line k : Nat) (depot : Nat × Nat), s.prot.recons.get frame = some ⟨[line], true⟩ ∧
      s.erasures frame ⟨[line], true⟩ [] = ([line], k) ∧ 1 + k ≤ parityLines (s.frameStrength frame) ∧ s.coh.fetch = [] ∧
      s.prot.updates = [] ∧ NoneEnding s ∧ s.mem.cache.has line = false ∧ s.mem.poison.contains line = false ∧ s.mem.wf = true) ∧
    (∃ (s : State) (frame line k : Nat) (ls failed : List Nat) (syndrome : Bool), s.prot.recons.get frame = some ⟨[line], true⟩ ∧
      s.erasures frame ⟨[line], true⟩ failed = (ls, k) ∧ parityLines (s.frameStrength frame) < ls.length + k ∧ s.coh.fetch = [] ∧
      s.prot.updates = [] ∧ NoneEnding s) :=
  ⟨⟨rdS m0, 6400, by unfold NoneEnding; decide +kernel⟩,
   ⟨rdS m0, 6400, 11, by decide +kernel⟩,
   ⟨rdS { m0 with parityLost := [100] }, 6400, 11, by unfold NoneEnding; decide +kernel⟩,
   ⟨rcS ⟨[6400], false⟩ [], 100, ⟨[6400], false⟩, by decide⟩,
   ⟨rcS ⟨[6400], false⟩ [upd], 100, ⟨[6400], false⟩, by decide⟩,
   ⟨rcS ⟨[6400], true⟩ [], 100, 6400, 0, (0, 0), by unfold NoneEnding; decide⟩,
   ⟨rcS ⟨[6400], true⟩ [], 100, 6400, 0, (List.range 64).map fun i => 6400 + i, List.range 64, false, by unfold NoneEnding; decide⟩⟩

end Protection

namespace FlashTier

def tdist : District := { dist with tiered := true, residentMax := 4096, flashQuota := 100 }
def grp : Group := ⟨1, [⟨0, true⟩, ⟨4, true⟩], 0, 1000, 1, 100, 5, [], none⟩
def ssd6 : SsdSlot := { SsdSlot.init with st := 6, present := true, perst := false, linked := true, width := 4, rate := 5, lbas := 1000, usable := true }
def fS (d : District) (ls : Table Leaf) : State := { upM with
  maps := { upM.maps with districts := [(5, d)], pages := ls }
  flash := { upM.flash with groups := [(0, grp)], slots := [(0, ssd6), (4, ssd6), (8, ssd6)] } }
def tl : Leaf := { leaf with tiered := true }
def pk (p : Nat) : Nat := 5 * 2 ^ 36 + p
def fl : Leaf := { tl with resident := false, addr := 3 }
def fill : FillRec := ⟨5, 0, 3, some 300, [], true, false, [], []⟩
def f7 : State := { fS tdist [(pk 0, fl)] with flash := { (fS tdist []).flash with fills := [fill], written := [3], cells := [(12290, 7)] } }
def tj : TierJob := ⟨cmd 0x51 5 0 4096, [0], 0⟩
def tlc : Leaf := { tl with flash := some 3 }
def f8 : State := { fS tdist [(pk 0, tlc)] with flash := { (fS tdist []).flash with jobs := [tj], written := [3] } }
def rk : NvmeCmd := ⟨4, 7, 0, 3, 5, 0, 0, none⟩
def fillR : FillRec := { fill with reads := [(4, 7)], got := false }
def wk : NvmeCmd := { rk with op := 1 }
def dem : Demotion := ⟨5, 0, some 3, 0, [(4, 7)], 0⟩
def f0 : State := { fS dist [] with flash := { (fS dist []).flash with groups := [] } }
def grpD : Group := { grp with members := [⟨0, true⟩, ⟨4, false⟩], st := 1 }
def fG (g : Group) : State := { fS dist [] with flash := { (fS dist []).flash with groups := [(0, g)] } }
def grpR : Group := { grpD with st := 3, rebuild := some (1, 2, cmd 0x56 0 (1 * 16 + 8 * 256)) }
def grpE : Group := { grpD with st := 3, rebuild := some (1, 6, cmd 0x56 0 (1 * 16 + 8 * 256)) }
def fC (k : NvmeCmd) : State := { fS dist [] with flash := { (fS dist []).flash with cmds := [k] } }
def fSl (n : Nat) (x : SsdSlot) : State := { fS dist [] with flash := { (fS dist []).flash with slots := [(n, x)] } }
def fP (n : Nat) (x : SsdSlot) : State := { up with boot := { up.boot with flashStarted := true }, flash := { up.flash with slots := [(n, x)] } }
def off : SsdSlot := { SsdSlot.init with st := 1, present := true }
def f15 : State := { up with flash := { up.flash with slots := [(12, { off with st := 4 })] } }

/-- The hypotheses of `TierCommands`, clause by clause. -/
theorem witness_tierCommands :
    (∃ (s : State) (c : Cmd) (x : District), Starts s c .d ∧ c.d.opcode = 0x50 ∧ s.district c.d.district = some x ∧ x.tiered = true ∧
      rangePages c.d.p0 c.d.p1 ≤ x.residentMax ∧ (∀ e ∈ s.tierLeaves c, e.2.resident = true)) ∧
    (∃ (s : State) (c : Cmd) (x : District), Starts s c .d ∧ c.d.opcode = 0x50 ∧ s.district c.d.district = some x ∧ x.tiered = true ∧
      rangePages c.d.p0 c.d.p1 ≤ x.residentMax ∧ (((s.tierLeaves c).filter fun e => !e.2.resident).map (·.1)) ≠ []) ∧
    (∃ (s : State) (c : Cmd), Starts s c .d ∧ c.d.opcode = 0x51 ∧ s.isTiered c.d.district = true ∧
      (((s.tierLeaves c).filter fun e => e.2.resident && !e.2.pinned).map (·.1)) ≠ []) ∧
    (∃ (s : State) (c : Cmd) (x : District) (p : Nat) (l : Leaf), Starts s c .d ∧ c.d.opcode = 0x52 ∧ bitOf c.d.p2 0 = true ∧
      s.district c.d.district = some x ∧ s.tierLeaves c = [(p, l)] ∧ l.pinned = false ∧ l.resident = true ∧
      (((s.maps.leaves c.d.district).filter fun e => e.2.pinned).length + leafPages l.size) * 8 ≤ x.residentMax * 7) ∧
    (∃ (s : State) (c : Cmd) (p : Nat) (l : Leaf), Starts s c .d ∧ c.d.opcode = 0x52 ∧ bitOf c.d.p2 0 = false ∧ s.tierLeaves c = [(p, l)] ∧
      l.pinned = true) ∧
    (∃ (s : State) (c : Cmd) (g : Group), Starts s c .q ∧ c.d.opcode = 0x58 ∧ bitOf c.d.p0 0 = true ∧ s.group (bitsOf c.d.p0 7 4) = some g) ∧
    (∃ (s : State) (f : FillRec) (fr first : Nat) (l : Leaf) (x : District), s.flash.fills = [f] ∧ f.got = true ∧ f.frame = some fr ∧
      f.lost = false ∧ f.waiting = [] ∧ s.flash.jobs = [] ∧ (∀ k, k < 8 → s.isOpen k = true) ∧ NoneEnding s ∧
      s.maps.leafAt f.district f.page = some (first, l) ∧ l.tiered = true ∧ l.resident = false ∧ l.addr = f.locator ∧
      s.district f.district = some x ∧ s.flash.written.contains f.locator = true ∧ s.flash.poison.get f.locator = none ∧ s.mem.wf = true) ∧
    (∃ (s : State) (d p loc : Nat) (l : Leaf) (x : District) (g : Group) (j : TierJob), s.flash.jobs = [j] ∧ j.cmd.d.opcode = 0x51 ∧
      j.cmd.d.district = d ∧ j.pages = [p] ∧ s.district d = some x ∧ s.maps.leafAt d p = some (p, l) ∧ s.demotable d p l = true ∧
      s.flash.demos = [] ∧ s.flash.fills = [] ∧ s.entriesIn d p p = [] ∧ (∀ k ∈ s.coh.trackers, ¬(k.district = d ∧ k.page = p)) ∧
      l.dirty = false ∧ l.flash = some loc ∧ s.copyLocator loc = false ∧ s.group x.fgroup = some g ∧ g.isLost = false ∧ RingUp s j.cmd.ring) ∧
    (∃ (s : State) (slot : Slot) (cid : Nat) (k : NvmeCmd) (f : FillRec), s.flash.cmds = [k] ∧ k.slot = slot.val ∧ k.cid = cid ∧ k.op = 0 ∧
      s.flash.fills = [f] ∧ f.reads = [(slot.val, cid)]) ∧
    (∃ (s : State) (slot : Slot) (cid loc first : Nat) (k : NvmeCmd) (x : Demotion) (l : Leaf), s.flash.cmds = [k] ∧ k.slot = slot.val ∧
      k.cid = cid ∧ k.op = 1 ∧ s.flash.demos = [x] ∧ x.writes = [(slot.val, cid)] ∧ x.locator = some loc ∧
      s.maps.leafAt x.district x.page = some (first, l) ∧ l.flash = none ∧ s.flash.jobs = [] ∧ s.flash.fills = [] ∧
      cellsWf s.flash.cells = true) :=
  ⟨⟨fS tdist [(pk 0, tl)], cmd 0x50 5 0 4096, tdist, by unfold Starts RingUp; decide⟩,
   ⟨fS tdist [(pk 0, fl)], cmd 0x50 5 0 4096, tdist, by unfold Starts RingUp; decide⟩,
   ⟨fS tdist [(pk 0, tl)], cmd 0x51 5 0 4096, by unfold Starts RingUp; decide⟩,
   ⟨fS tdist [(pk 0, tl)], cmd 0x52 5 0 4096 1, tdist, 0, tl, by unfold Starts RingUp; decide⟩,
   ⟨fS tdist [(pk 0, { tl with pinned := true })], cmd 0x52 5 0 4096 0, 0, { tl with pinned := true }, by unfold Starts RingUp; decide⟩,
   ⟨fS tdist [], cmd 0x58 5 1, grp, by unfold Starts RingUp; decide⟩,
   ⟨f7, fill, 300, 0, fl, tdist, by unfold NoneEnding; decide⟩,
   ⟨f8, 5, 0, 3, tlc, tdist, grp, tj, by unfold RingUp; decide⟩,
   ⟨{ fS tdist [(pk 0, fl)] with flash := { (fS tdist []).flash with cmds := [rk], fills := [fillR] } }, 4, 7, rk, fillR, by decide⟩,
   ⟨{ fS tdist [(pk 0, tl)] with flash := { (fS tdist []).flash with cmds := [wk], demos := [dem] } }, 4, 7, 3, 0, wk, dem, tl, by decide⟩⟩

/-- The hypotheses of `FlashGroups`, clause by clause. -/
theorem witness_flashGroups :
    (∃ (s : State) (c : Cmd), Starts s c .g ∧ c.d.opcode = 0x53 ∧ s.group (bitsOf c.d.p0 3 0) = none ∧
      (∀ i ∈ (maskSlots c.d.p1), (s.ssd i).st = 6 ∧ (s.ssd i).usable = true ∧ (s.ssd i).linked = true ∧ s.memberOf i = none) ∧
      ((bitsOf c.d.p0 5 4) = 0 ∧ (maskSlots c.d.p1).length = 1 ∨ (bitsOf c.d.p0 5 4) = 1 ∧
      (maskSlots c.d.p1).length = 2 ∨ (bitsOf c.d.p0 5 4) = 2 ∧ (maskSlots c.d.p1).length = 10)) ∧
    (∃ (s : State) (c : Cmd) (g : Group), Starts s c .g ∧ c.d.opcode = 0x54 ∧ s.group (bitsOf c.d.p0 3 0) = some g ∧ g.rebuild = none ∧
      s.groupNamed (bitsOf c.d.p0 3 0) = false ∧ s.flash.groups.wf = true) ∧
    (∃ (s : State) (c : Cmd) (g : Group), Starts s c .g ∧ c.d.opcode = 0x56 ∧ s.group (bitsOf c.d.p0 3 0) = some g ∧
      g.up (bitsOf c.d.p0 7 4) = false ∧ (bitsOf c.d.p0 7 4) < g.members.length ∧ g.rebuild = none ∧ (s.ssd (bitsOf c.d.p0 11 8)).st = 6 ∧
      (s.ssd (bitsOf c.d.p0 11 8)).usable = true ∧ (s.ssd (bitsOf c.d.p0 11 8)).linked = true ∧ s.memberOf (bitsOf c.d.p0 11 8) = none) ∧
    (∃ (s : State) (k i p q : Nat) (g : Group) (c : Cmd), s.group k = some g ∧ g.rebuild = some (i, p, c) ∧ g.nextUsed p = some q) ∧
    (∃ (s : State) (k i p : Nat) (g : Group) (c : Cmd), s.group k = some g ∧ g.rebuild = some (i, p, c) ∧ g.nextUsed p = none ∧
      RingUp s c.ring) ∧
    (∃ (s : State) (slot : Slot) (cid : Nat) (k : NvmeCmd), s.nvmeOf slot cid = some k ∧ k.aborting = none ∧ s.mute = false) ∧
    (∃ (s : State) (slot : Slot) (cid : Nat) (at' : Nat) (k : NvmeCmd), s.nvmeOf slot cid = some k ∧ k.aborting = some at' ∧
      (s.ssd slot).resetAt = none ∧ s.mute = false) ∧
    (∃ (s : State) (slot : Slot), (s.ssd slot).resetAt.isSome = true ∧ s.mute = false) ∧
    (∃ (s : State) (slot : Slot) (k i : Nat) (g : Group), (s.ssd slot).resetAt.isSome = true ∧ s.memberOf slot = some (k, i) ∧
      s.group k = some g ∧ g.up i = true ∧ g.rebuild = none ∧ (∀ c ∈ s.flash.cmds, c.slot ≠ slot.val)) ∧
    (∃ (s : State) (slot : Slot) (k i : Nat) (g : Group), (s.ssd slot).st = 6 ∧ (s.ssd slot).linked = true ∧
      s.memberOf slot = some (k, i) ∧ s.group k = some g ∧ g.up i = true ∧ g.rebuild = none ∧ (∀ c ∈ s.flash.cmds, c.slot ≠ slot.val)) ∧
    (∃ (s : State) (slot : Slot) (cid k i : Nat) (media : Bool) (g : Group) (c : NvmeCmd), s.flash.cmds = [c] ∧ c.slot = slot.val ∧
      c.cid = cid ∧ c.op = 1 ∧ s.flash.demos = [] ∧ s.memberOf slot = some (k, i) ∧ s.group k = some g ∧ g.up i = true ∧ g.rebuild = none) :=
  ⟨⟨f0, cmd 0x53 0 (15 + 16) 0x11, by unfold Starts RingUp; decide⟩,
   ⟨fS dist [], cmd 0x54 0 0, grp, by unfold Starts RingUp; decide⟩,
   ⟨fG grpD, cmd 0x56 0 (1 * 16 + 8 * 256), grpD, by unfold Starts RingUp; decide⟩,
   ⟨fG grpR, 0, 1, 2, 2, grpR, cmd 0x56 0 (1 * 16 + 8 * 256), by decide⟩,
   ⟨fG grpE, 0, 1, 6, grpE, cmd 0x56 0 (1 * 16 + 8 * 256), by unfold RingUp; decide⟩,
   ⟨fC rk, 4, 7, rk, by decide⟩,
   ⟨fC { rk with aborting := some 5 }, 4, 7, 5, { rk with aborting := some 5 }, by decide⟩,
   ⟨{ fC rk with flash := { (fC rk).flash with slots := [(4, { ssd6 with resetAt := some 5 })] } }, 4, by decide⟩,
   ⟨fSl 4 { ssd6 with resetAt := some 5 }, 4, 0, 1, grp, by decide⟩,
   ⟨fS dist [], 4, 0, 1, grp, by decide⟩,
   ⟨fC wk, 4, 7, 0, 1, true, grp, wk, by decide⟩⟩

/-- The hypotheses of `SlotPower`, clause by clause. -/
theorem witness_slotPower :
    (∃ (s : State) (c : Cmd), Starts s c .g ∧ c.d.opcode = 0x55 ∧ bitsOf c.d.p0 9 8 = 1 ∧ (s.ssd (bitsOf c.d.p0 3 0)).st = 1) ∧
    (∃ (s : State) (c : Cmd), Starts s c .g ∧ c.d.opcode = 0x55 ∧ bitsOf c.d.p0 9 8 = 0 ∧ (s.ssd (bitsOf c.d.p0 3 0)).st = 6 ∧
      s.memberOf (bitsOf c.d.p0 3 0) = none) ∧
    (∃ (s : State) (c : Cmd), Starts s c .g ∧ c.d.opcode = 0x55 ∧ bitsOf c.d.p0 9 8 = 2 ∧ (s.ssd (bitsOf c.d.p0 3 0)).st = 7 ∧
      (s.ssd (bitsOf c.d.p0 3 0)).present = true) ∧
    (∃ (s : State) (slot : Slot), s.boot.flashStarted = true ∧ s.slotExists slot = true ∧ (s.ssd slot).st = 0 ∧ s.regs.fld 0x600004 0 0 = 1) ∧
    (∃ (s : State) (slot : Slot), (s.ssd slot).st = 5 ∧ s.mute = false) ∧
    (∃ (s : State) (n : Nat), n < 16 ∧ (s.ssd n).st = 2 ∧ (s.ssd n).notBefore ≤ s.clock ∧ (∀ k, k < 16 → k ≠ n → (s.ssd k).st ≠ 2 ∧
      (s.ssd k).st ≠ 3) ∧ s.flash.droop = false ∧ s.mute = false) ∧
    (∃ (s : State) (slot : Slot), (s.ssd slot).st = 3) ∧
    (∃ (s : State) (slot : Slot), (s.ssd slot).st = 3 ∧ (s.ssd slot).retries < 3 ∧ s.mute = false) ∧
    (∃ (s : State) (slot : Slot), (s.ssd slot).st = 5 ∧ (s.ssd slot).perst = true ∧ s.mute = false) ∧
    (∃ (s : State) (slot : Slot) (width rate lbas : Nat) (usable : Bool), (s.ssd slot).st = 5 ∧ (s.ssd slot).perst = false) ∧
    (∃ (s : State) (slot : Slot), (s.ssd slot).st = 5 ∧ 3 ≤ (s.ssd slot).retries ∧ s.mute = false) ∧
    (∃ (s : State) (slot : Slot), (s.ssd slot).st = 1 ∧ (s.ssd slot).retry = true) ∧
    (∃ (s : State) (n : Nat), s.flash.droop = false ∧ n < 16 ∧ (s.ssd n).st = 3 ∧ (∀ k, k < 16 → k ≠ n → (s.ssd k).st ≠ 3) ∧ s.mute = false) ∧
    (∃ (s : State), s.flash.droop = true) ∧
    (∃ (s : State), s.flash.droop = false ∧ (∃ n, n < 16 ∧ (s.ssd n).st = 4)) ∧
    (∃ (s : State), s.flash.droop = true ∧ s.flash.droopTold = false) :=
  ⟨⟨fP 15 off, cmd 0x55 0 (15 + 256), by unfold Starts RingUp; decide⟩,
   ⟨fP 15 ssd6, cmd 0x55 0 15, by unfold Starts RingUp; decide⟩,
   ⟨fP 15 { off with st := 7 }, cmd 0x55 0 (15 + 512), by unfold Starts RingUp; decide⟩,
   ⟨fP 12 SsdSlot.init, 12, by decide⟩,
   ⟨fP 12 { off with st := 5 }, 12, by decide⟩,
   ⟨fP 12 { off with st := 2 }, 12, by decide⟩,
   ⟨fP 12 { off with st := 3 }, 12, by decide⟩,
   ⟨fP 12 { off with st := 3 }, 12, by decide⟩,
   ⟨fP 12 { off with st := 5 }, 12, by decide⟩,
   ⟨fP 12 { off with st := 5, perst := false }, 12, 4, 5, 1000, true, by decide⟩,
   ⟨fP 12 { off with st := 5, retries := 3 }, 12, by decide⟩,
   ⟨fP 12 { off with retry := true }, 12, by decide⟩,
   ⟨fP 12 { off with st := 3 }, 12, by decide⟩,
   ⟨{ up with flash := { up.flash with droop := true } }, by decide⟩,
   ⟨f15, by decide⟩,
   ⟨{ up with flash := { up.flash with droop := true } }, by decide⟩⟩

end FlashTier

namespace Engines

def wB : State := { upM with
  maps := { upM.maps with windows := [(1, { win with lastPage := 1 })], pages := [(5 * 2 ^ 36, leaf), (5 * 2 ^ 36 + 1, { leaf with addr := 101 })] } }
def cFill : Cmd := cmd 0x30 5 (16 * 1 ) 0 1 64 0x42
def cComp : Cmd := cmd 0x32 5 (16 * 1) 0 1 64 (2 ^ 40 + 64)
def cGath : Cmd := cmd 0x34 5 (16 * 1) 1 1 64
def jobOf (c : Cmd) : Job := Job.new c 0 1 0 0
def fullQ : State := { wB with eng := { wB.eng with jobs := (List.range 4096).map fun n => (n, jobOf cFill) } }
def cHost : Cmd := cmd 0x36 5 0 0 1 0x40000 64
def wConf : State := { wB with maps := { wB.maps with districts := [(5, { dist with conf := true })] } }
def wJ (j : Job) : State := { wB with eng := { wB.eng with jobs := [(0, j)], nextJob := 1 } }
def cFill9 : Cmd := { cFill with d := { cFill.d with cmdId := 9 } }
def idle : Eng := ⟨.idle, 200, 200, 0, none, none, none, false⟩
def wI (j : Job) (engs : List (Nat × Eng)) : State := { wJ j with eng := { (wJ j).eng with engs := engs } }
def idles : List (Nat × Eng) := (List.range 8).map fun a => (a * 8, idle)
def idleOf (a e : Nat) (x : Eng) (j : Job) : State := wI j [(a * 8 + e, x)]
def w0 : ShareWork := ⟨0, 1, 0, [], 0, false, false⟩
def jS (c : Cmd) (w : ShareWork) : Job := { jobOf c with phase := .streaming, attempts := 1, work := [(0, w)] }
def jComp : Job := jS cComp w0
def cCopy : Cmd := cmd 0x31 5 16 0 1 (1 + 4096 * 65536) 64
def jCopy : Job := jS cCopy w0
def line6400 : LineData := 3
def need0 : Need := ⟨1, 0, false, none⟩
def w1 : ShareWork := ⟨0, 1, 1, [], 0, true, false⟩
def run0 : Eng := { idle with st := .running, job := some 0, group := some 0 }
def w2 : ShareWork := { w1 with done := 1 }
def w3 : ShareWork := { w2 with arrived := true }
def cQ : Cmd := cmd 0x3C 5 (16 + 2) 0 1 64
def jBad : Job := { jS cFill w3 with cmd := cFill }
def jKept : Job := { jS cFill w3 with phase := .committing, kept := some rec7 }
def wL2 (j : Job) : State := let s := idleOf 0 3 { idle with job := some 0 } j; { s with maps := { s.maps with districts := [(5, { dist with level := 2 })] } }
def jScr : Job := { jKept with phase := .scrubbing }
def cHint : Cmd := cmd 0x30 5 (16 + 256) 0 1 64 0x42
def jH : Job := jS cHint w0
def jCmpI (v : LineData) (c : Cmd) : Job := { jobOf c with input := [(inKey 1 0, some v)] }
def cCmp (imm : Nat) : Cmd := cmd 0x32 5 16 0 1 imm (2 ^ 40 + 64)
def cDq (f : Nat) : Cmd := cmd 0x3D 5 (16 + 2) 0 1 (1 + 4096 * 65536) 1 (1 + 256 * 2 ^ 24 + f * 2 ^ 48)
def jDq : Job := { (jS (cDq 1) w3) with input := (List.range 8).map fun i => (inKey 1 (i * 64), some (0 - 1)) }

/-- The hypotheses of `OperatorsQueued`, clause by clause. -/
theorem witness_operatorsQueued :
    (∃ (x : (Cmd → Instr) × Nat) (s u : State) (c : Cmd) (arg : Nat), x ∈ engineOps ∧ s.atHand c = true ∧ QueueRoom s ∧
      s.readArg c = (u, false, some arg) ∧ Starts u c .e ∧ c.d.opcode = x.2 ∧ u.opChecks c (some arg) = none) ∧
    (∃ (x : (Cmd → Instr) × Nat) (s : State) (c : Cmd), x ∈ engineOps ∧ (¬ QueueRoom s)) ∧
    (∃ (x : (Cmd → Instr) × Nat) (s u : State) (c : Cmd), x ∈ engineOps ∧ s.atHand c = true ∧ QueueRoom s ∧
      s.readArg c = (u, false, none) ∧ Starts u c .e ∧ c.d.opcode = x.2 ∧ badControls c (shapeOf c.d 0).rsv = false) ∧
    (∃ (s : State) (c : Cmd), QueueRoom s ∧ Starts s c .d ∧ c.d.opcode = 0x36 ∧ s.opChecks c (some 0) = none ∧
      s.bounceOk c.d.district c.d.p3 (bitsOf c.d.p4 39 0) = true) ∧
    (∃ (s : State) (c : Cmd), QueueRoom s ∧ Starts s c .d ∧ c.d.opcode = 0x36 ∧ s.opChecks c (some 0) = none ∧
      s.bounceOk c.d.district c.d.p3 (bitsOf c.d.p4 39 0) = false) ∧
    (∃ (s : State) (c : Cmd) (n : Nat) (j : Job), Starts s c .d ∧ c.d.opcode = 0x3F ∧ s.opChecks c (some 0) = none ∧
      s.eng.jobs = [(n, j)] ∧ j.phase = .queued ∧ s.engsOf n = [] ∧ j.cmd.ring = bitsOf c.d.p2 47 32 ∧ j.cmd.d.cmdId = bitsOf c.d.p2 31 0 ∧
      (∃ x ∈ s.district j.cmd.d.district, x.owner = ringFn c.ring) ∧ RingUp s j.cmd.ring) ∧
    (∃ (s : State) (c : Cmd), Starts s c .d ∧ c.d.opcode = 0x3F ∧ s.abortTarget c.d = none) :=
  ⟨⟨(.opFill, 0x30), wB, wB, cFill, 0, by simp [engineOps], by unfold QueueRoom Starts RingUp; decide +kernel⟩,
   ⟨(.opFill, 0x30), fullQ, cFill, by simp [engineOps], by unfold QueueRoom; decide +kernel⟩,
   ⟨(.opReduce, 0x33), wB, wB, cmd 0x33 5 16 9 1 16 2, by simp [engineOps], by unfold Starts QueueRoom RingUp; decide +kernel⟩,
   ⟨wB, cHost, by unfold Starts QueueRoom RingUp; decide⟩,
   ⟨wConf, cHost, by unfold Starts QueueRoom RingUp; decide⟩,
   ⟨wJ (jobOf cFill9), cmd 0x3F 5 0 0 9, 0, jobOf cFill9, by unfold Starts RingUp; decide +kernel⟩,
   ⟨wB, cmd 0x3F 5 0 0 9, by unfold Starts RingUp; decide⟩⟩

/-- The hypotheses of `JobsAndEngines`, clause by clause. -/
theorem witness_jobsAndEngines :
    (∃ (s : State) (n cost : Nat) (j : Job) (picks : List (Nat × List Nat)), s.mayDispatch = true ∧ s.eng.jobs = [(n, j)] ∧
      s.ready n j = true ∧ s.fits (j.cmd.d.district) j.cmd.ring (opClass j.cmd.d.opcode) (s.wanted j ((s.clustersOf
      (j.cmd.d.district)).filter fun k => (s.servedBy k).isSome)) ((s.clustersOf (j.cmd.d.district)).filter fun k => (s.servedBy k).isSome)
      = some (picks, cost)) ∧
    (∃ (s : State), s.mayDispatch = false) ∧
    (∃ (s : State) (av : Avenue) (eng : Engine), (s.engOf av eng).st = .waking ∧ (s.engOf av eng).job = none) ∧
    (∃ (s : State) (av : Avenue) (eng : Engine) (n : Nat) (j : Job), (s.engOf av eng).st = .waking ∧ (s.engOf av eng).job = some n ∧
      s.job n = some j ∧ j.phase = .waking ∧ (∀ x ∈ s.engsOf n, x ≠ (av.val, eng.val) → (s.engOf x.1 x.2).st ≠ .waking)) ∧
    (∃ (s : State) (n : Nat) (j : Job), s.job n = some j ∧ j.phase = .loading ∧ actNeeds j = [] ∧ j.faults = []) ∧
    (∃ (s : State) (n : Nat) (share : Share) (j : Job) (w : ShareWork) (x : Need) (y : Window) (v : LineData), s.job n = some j ∧
      j.phase = .streaming ∧ j.work.get share = some w ∧ w.read = false ∧ j.cmd.d.opcode ≠ 0x38 ∧ j.cmd.d.opcode ≠ 0x3A ∧
      j.cmd.d.opcode ≠ 0x3B ∧ j.faults = [] ∧ s.firstNeeds j = [x] ∧ s.windowHome x.w x.off = share.val ∧
      s.opWindow j.cmd.d.district ⟨x.w, x.off⟩ = some y ∧ y.r = true ∧ x.off < y.span ∧ j.input.get (inKey x.w x.off) = none ∧
      s.look j.cmd.d.district (if y.msBind then some y.msSlot else none) (y.base + x.off) = .value v) ∧
    (∃ (s : State) (n a : Nat) (share : Share) (eng : Engine) (j : Job) (w : ShareWork), s.job n = some j ∧ j.phase = .streaming ∧
      j.work.get share = some w ∧ w.read = true ∧ s.servedBy w.cluster = some a ∧ (s.engOf a eng).job = some n ∧
      (s.engOf a eng).group.map (· / 2 ^ 32) = some share.val ∧ j.work.wf = true) ∧
    (∃ (s : State) (n : Nat) (share : Share) (j : Job) (w : ShareWork), s.job n = some j ∧ j.phase = .streaming ∧
      j.work.get share = some w ∧ (∀ e ∈ j.work, e.2.done = e.2.total ∧ e.2.read = true)) ∧
    (∃ (s : State) (n : Nat) (j : Job), s.job n = some j ∧ j.phase = .streaming ∧ (∀ e ∈ j.work, e.2.arrived = true) ∧
      (s.madeOf j).reason = 0 ∧ (s.madeOf j).part = false ∧ j.attempts = 1 ∧
      (∀ g ∈ (s.madeOf j).segs, s.outFault j.cmd.d.district g.1 g.2.length = 0)) ∧
    (∃ (s : State) (n : Nat) (j : Job), s.job n = some j ∧ j.phase = .streaming ∧ (∀ e ∈ j.work, e.2.arrived = true) ∧
      (s.madeOf j).reason ≠ 0 ∧ bitOf j.cmd.d.p0 1 = true ∧ (∀ g ∈ (s.madeOf j).segs, s.outFault j.cmd.d.district g.1 g.2.length = 0)) ∧
    (∃ (s : State) (n : Nat) (j : Job) (r : Record), s.job n = some j ∧ j.phase = .committing ∧ s.poolBusy (jobTag n) = false ∧
      j.after = [] ∧ j.kept = some r ∧ r.cmdId = j.cmd.d.cmdId ∧ s.scrubs j.cmd.d.district = false ∧ s.eng.jobs.wf = true ∧
      RingUp s j.cmd.ring) ∧
    (∃ (s : State) (n : Nat) (j : Job) (r : Record), s.job n = some j ∧ j.phase = .committing ∧ s.poolBusy (jobTag n) = false ∧
      j.after = [] ∧ j.kept = some r ∧ s.scrubs j.cmd.d.district = true ∧ s.engsOf n ≠ []) ∧
    (∃ (s : State) (n : Nat) (av : Avenue) (eng : Engine) (j : Job) (r : Record), (s.engOf av eng).st = .scrub ∧
      (s.engOf av eng).drain = false ∧ (s.engOf av eng).job = some n ∧ s.engsOf n = [(av.val, eng.val)] ∧ s.job n = some j ∧
      j.phase = .scrubbing ∧ j.kept = some r ∧ r.cmdId = j.cmd.d.cmdId ∧ RingUp s j.cmd.ring ∧ s.eng.jobs.wf = true) ∧
    (∃ (s : State) (av : Avenue) (eng : Engine), (s.engOf av eng).st ≠ .retired ∧ (s.engOf av eng).job = none) ∧
    (∃ (s : State) (av : Avenue) (eng : Engine), (s.engOf av eng).st = .retired) ∧
    (∃ (s : State) (av : Avenue) (eng : Engine), ((s.engOf av eng).st = .idle ∨ (s.engOf av eng).st = .test)) ∧
    (∃ (s : State) (n h cost : Nat) (j : Job) (picks : List (Nat × List Nat)), s.job n = some j ∧ j.inFlight = true ∧
      s.mayDispatch = true ∧ h = ((s.clustersOf (j.cmd.d.district)).filter fun k => (s.servedBy k).isSome).foldl (fun m k => min m
      (s.allotment (j.cmd.d.district) k)) (min (bitsOf j.cmd.d.p0 10 8) s.pwr.present.engMax) ∧ h ≠ 0 ∧
      s.fits (j.cmd.d.district) j.cmd.ring 3 h ((s.clustersOf (j.cmd.d.district)).filter fun k => (s.servedBy k).isSome) = some (picks,
      cost)) ∧
    (∃ (s : State) (ring : Nat), (∀ e ∈ s.eng.jobs, ¬(e.2.cmd.ring = ring ∧ e.2.inFlight = true ∧ bitsOf e.2.cmd.d.p0 10 8 ≠ 0))) :=
  ⟨⟨wI (jobOf cFill) idles, 0, 2800, jobOf cFill, (List.range 8).map fun a => (a, [0]), by decide +kernel⟩,
   ⟨{ up with pwr := { up.pwr with stopped := true } }, by decide⟩,
   ⟨idleOf 2 3 { idle with st := .waking } (jobOf cFill), 2, 3, by decide⟩,
   ⟨idleOf 2 3 { idle with st := .waking, job := some 0 } { jobOf cFill with phase := .waking }, 2, 3, 0,
     { jobOf cFill with phase := .waking }, by decide +kernel⟩,
   ⟨wJ { jobOf cFill with phase := .loading }, 0, { jobOf cFill with phase := .loading }, by decide +kernel⟩,
   ⟨wJ jCopy, 0, 0, jCopy, w0, need0, { win with lastPage := 1 }, line6400, by decide +kernel⟩,
   ⟨idleOf 0 3 run0 (jS cCopy w1), 0, 0, 0, 3, jS cCopy w1, w1, by decide +kernel⟩,
   ⟨wJ (jS cCopy w2), 0, 0, jS cCopy w2, w2, by decide +kernel⟩,
   ⟨wJ (jS cFill w3), 0, jS cFill w3, by decide +kernel⟩,
   ⟨wJ jDq, 0, jDq, by decide +kernel⟩,
   ⟨idleOf 0 3 { idle with job := some 0 } jKept, 0, jKept, rec7, by unfold RingUp; decide +kernel⟩,
   ⟨wL2 jKept, 0, jKept, rec7, by decide +kernel⟩,
   ⟨idleOf 0 3 { idle with st := .scrub, job := some 0 } jScr, 0, 0, 3, jScr, rec7, by unfold RingUp; decide +kernel⟩,
   ⟨wI (jobOf cFill) idles, 0, 0, by decide⟩,
   ⟨idleOf 2 3 { idle with st := .retired } (jobOf cFill), 2, 3, by decide⟩,
   ⟨wI (jobOf cFill) idles, 0, 0, by decide⟩,
   ⟨wI jH idles, 0, 1, 10800, jH, (List.range 8).map fun a => (a, [0]), by decide +kernel⟩,
   ⟨idleOf 2 3 { idle with hint := some 4 } (jobOf cFill), 4, by decide⟩⟩

/-- The hypotheses of `OperatorResults`, clause by clause. -/
theorem witness_operatorResults :
    (∃ (s : State) (j : Job), j.cmd.d.opcode = 0x30) ∧
    (∃ (s : State) (j : Job), j.cmd.d.opcode = 0x31) ∧
    (∃ (s : State) (j : Job) (k : Nat), j.cmd.d.opcode = 0x32 ∧ k < bitsOf j.cmd.d.p4 39 0 ∧
      (s.reader j).at (oprefOf j.cmd.d.p2) k ≠ (fun i => if bitOf j.cmd.d.p4 40 then j.cmd.d.p3 / 256 ^ (i % 8) % 256 else (s.reader j).at
      (oprefOf j.cmd.d.p3) i) k ∧ (∀ i, i < k → (s.reader j).at (oprefOf j.cmd.d.p2) i = (fun i => if bitOf j.cmd.d.p4 40 then j.cmd.d.p3 /
      256 ^ (i % 8) % 256 else (s.reader j).at (oprefOf j.cmd.d.p3) i) i)) ∧
    (∃ (s : State) (j : Job), j.cmd.d.opcode = 0x32 ∧
      (∀ i, i < bitsOf j.cmd.d.p4 39 0 → (s.reader j).at (oprefOf j.cmd.d.p2) i = (fun i => if bitOf j.cmd.d.p4 40 then j.cmd.d.p3 / 256 ^
      (i % 8) % 256 else (s.reader j).at (oprefOf j.cmd.d.p3) i) i)) ∧
    (∃ (s : State) (j : Job), j.cmd.d.opcode = 0x34 ∧ j.elemFaults = [] ∧ bitsOf j.cmd.d.p3 4 0 ≤ 16) ∧
    (∃ (s : State) (j : Job) (k v : Nat), j.cmd.d.opcode = 0x34 ∧ bitsOf j.cmd.d.p3 4 0 ≤ 16 ∧ k < bitsOf j.cmd.d.p3 4 0 ∧ v ≠ 0 ∧
      j.elemFaults = [(k, v)]) :=
  ⟨⟨wB, jobOf cFill, by decide⟩,
   ⟨wB, jobOf cCopy, by decide⟩,
   ⟨wB, jCmpI 0x0300 (cCmp 0), 1, by decide +kernel⟩,
   ⟨wB, jCmpI 0 (cCmp 0), by decide +kernel⟩,
   ⟨wB, { jobOf cGath with cmd := cmd 0x34 5 16 1 1 2 }, by decide⟩,
   ⟨wB, { jobOf cGath with cmd := cmd 0x34 5 16 1 1 2, elemFaults := [(1, 2)] }, 1, 2, by decide⟩⟩

end Engines

namespace PowerAndHeat

def pwr (x : Pwr) : State := { up with pwr := x }
def avW (n : Nat) (x : Av) : State := { up with avail := { up.avail with avs := up.avail.avs.put n x } }
def engW (l : List (Nat × Eng)) : State := { up with eng := { up.eng with engs := l } }
def idle : Eng := ⟨.idle, 200, 200, 0, none, none, none, false⟩

/-- The hypotheses of `PowerBudget`, clause by clause. -/
theorem witness_powerBudget :
    (∃ (s : State) (c : Cmd), Starts s c .g ∧ c.d.opcode = 0x78 ∧ 150 ≤ bitsOf c.d.p0 8 0 ∧ bitsOf c.d.p0 8 0 ≤ 360) ∧
    (∃ (s : State) (c : Cmd), Starts s c .g ∧ c.d.opcode = 0x78 ∧ (bitsOf c.d.p0 8 0 < 150 ∨ 360 < bitsOf c.d.p0 8 0)) ∧
    (∃ (s : State) (c : Cmd), Starts s c .g ∧ c.d.opcode = 0x79 ∧
      150 ≤ (⟨bitsOf c.d.p0 16 8, bitsOf c.d.p1 2 0, bitsOf c.d.p1 15 8, bitsOf c.d.p1 23 16⟩ : Profile).cap ∧
      (⟨bitsOf c.d.p0 16 8, bitsOf c.d.p1 2 0, bitsOf c.d.p1 15 8, bitsOf c.d.p1 23 16⟩ : Profile).cap ≤ 360 ∧
      (⟨bitsOf c.d.p0 16 8, bitsOf c.d.p1 2 0, bitsOf c.d.p1 15 8, bitsOf c.d.p1 23 16⟩ : Profile).engMax ≤ 6 ∧
      ((⟨bitsOf c.d.p0 16 8, bitsOf c.d.p1 2 0, bitsOf c.d.p1 15 8, bitsOf c.d.p1 23 16⟩ : Profile).actCap = 0 ∨ 16 ≤ (⟨bitsOf c.d.p0 16 8,
      bitsOf c.d.p1 2 0, bitsOf c.d.p1 15 8, bitsOf c.d.p1 23 16⟩ : Profile).actCap) ∧
      100 ≤ (⟨bitsOf c.d.p0 16 8, bitsOf c.d.p1 2 0, bitsOf c.d.p1 15 8, bitsOf c.d.p1 23 16⟩ : Profile).fTarget ∧
      (⟨bitsOf c.d.p0 16 8, bitsOf c.d.p1 2 0, bitsOf c.d.p1 15 8, bitsOf c.d.p1 23 16⟩ : Profile).fTarget ≤ 240) ∧
    (∃ (s : State) (c : Cmd), Starts s c .q ∧ c.d.opcode = 0x7A ∧ s.pwr.present.cap < 2 ^ 16) ∧
    (∃ (s : State) (c : Cmd) (x : District), Starts s c .q ∧ c.d.opcode = 0x7B ∧ c.d.district ≠ 0 ∧ s.district c.d.district = some x) ∧
    (∃ (s : State) (raw : PowerRaw) (p : Option Nat) (x : Profile), s.pwr.changes = [(p, x)]) ∧
    (∃ (s : State) (raw : PowerRaw), s.pwr.changes = [] ∧
      (∀ a, a < 9 → ∀ e, e < 6 → (s.engOf a e).st = .off ∨ (s.engOf a e).st = .retired) ∧
      s.pwr.present.cap * 1000 < s.regs.fld 0x780000 5 0 * 1000 + raw.links * s.pwr.gain / 65536 + raw.mem * s.pwr.gain / 65536 + (raw.comp
      + s.enginesPower) * s.pwr.gain / 65536) ∧
    (∃ (s : State), 9 ≤ ((s.isl.count + 65536 - (s.pwr).tapCount) % 65536) ∧ ((s.isl.count + 65536 - (s.pwr).tapCount) % 65536) ≤ 11 ∧
      0 < ((s.pwr).rawSum / 100 : Int) ∧ 4 * ((s.pwr).rawSum / 100 : Int) ≤ 5 * ((((if s.regs.fld 0x780018 0 0 = 0 then s.isl.tap0 else
      s.isl.tap1) : Int) - (s.pwr).tapEnergy) - s.regs.fld 0x780018 26 16 * 100 : Int) ∧
      4 * ((((if s.regs.fld 0x780018 0 0 = 0 then s.isl.tap0 else s.isl.tap1) : Int) - (s.pwr).tapEnergy) - s.regs.fld 0x780018 26 16 * 100
      : Int) ≤ 5 * ((s.pwr).rawSum / 100 : Int)) ∧
    (∃ (s : State), 2 ≤ s.pwr.invalidRun ∧ s.pwr.calibrated = true ∧ (s.isl.count + 65536 - s.pwr.tapCount) % 65536 < 9) :=
  ⟨⟨up, cmd 0x78 0 150, by unfold Starts RingUp; decide⟩,
   ⟨up, cmd 0x78 0 149, by unfold Starts RingUp; decide⟩,
   ⟨up, cmd 0x79 0 (2 + 360 * 256) (6 + 16 * 256 + 240 * 65536), by unfold Starts RingUp; decide⟩,
   ⟨up, cmd 0x7A 0, by unfold Starts RingUp; decide⟩,
   ⟨upD dist, cmd 0x7B 5, dist, by unfold Starts RingUp; decide⟩,
   ⟨pwr { up.pwr with changes := [(some 2, ⟨200, 4, 0, 150⟩)] }, ⟨1000, 2000, 3000⟩, some 2, ⟨200, 4, 0, 150⟩, by decide⟩,
   ⟨{ up with eng := { up.eng with engs := (List.range 54).map fun n => (n / 6 * 8 + n % 6, { idle with st := .off }) } }, ⟨200000, 200000,
     3000⟩, by decide⟩,
   ⟨{ up with isl := { up.isl with tap0 := 1000, tap1 := 1000, count := 10 }, pwr := { up.pwr with rawSum := 90000 } }, by decide⟩,
   ⟨pwr { up.pwr with invalidRun := 2, calibrated := true }, by decide⟩⟩

/-- The hypotheses of `HeatAndLimits`, clause by clause. -/
theorem witness_heatAndLimits :
    (∃ (s : State) (rail : Nat), s.pwr.missed.get rail = some 2) ∧
    (∃ (s : State) (rail v : Nat), (∀ e ∈ s.pwr.missed, e.1 ≠ rail → e.2 ≠ 3) ∧ s.pwr.missed.wf = true) ∧
    (∃ (s : State) (a : Nat) (tj : Int), a < 9 ∧ (s.regs.fld 0x780000 21 15 : Int) ≤ tj ∧ (s.av a).tj < s.regs.fld 0x780000 21 15) ∧
    (∃ (s : State) (a : Nat) (tj : Int), a < 9 ∧ tj < (s.regs.fld 0x780000 21 15 : Int) ∧ (s.av a).cool = 0) ∧
    (∃ (s : State) (av other : Avenue) (volt temp : Bool), (volt || temp) = true) ∧
    (∃ (s : State) (av other : Avenue) (e : Nat), (s.av av).paired = true ∧ (s.drainable av).head? = some e ∧ (s.engOf av e).st = .running) ∧
    (∃ (s : State) (av other : Avenue) (e : Nat), (s.av av).paired = true ∧ (s.drainable av).head? = some e ∧ (s.engOf av e).st = .idle) ∧
    (∃ (s : State), s.tooWarm = true ∧ 85 < s.tSched) ∧
    (∃ (s : State), s.tooWarm = false ∧ s.pwr.overAt + 86400000000000 ≤ s.clock ∧ 0 < s.pwr.tDown) :=
  ⟨⟨pwr { up.pwr with missed := [(33, 2)] }, 33, by decide⟩,
   ⟨{ pwr { up.pwr with missed := [(33, 3), (35, 2)] } with host := { up.host with conds := [⟨Src.power, 6, true, 0, none, 0⟩] } }, 33, 700,
     by decide⟩,
   ⟨up, 2, 102, by decide⟩,
   ⟨up, 2, 40, by decide⟩,
   ⟨up, 2, 1, true, false, by decide⟩,
   ⟨{ avW 2 { up.av 2 with paired := true } with eng := (engW [(17, { idle with st := .running })]).eng }, 2, 3, 1, by decide⟩,
   ⟨{ avW 2 { up.av 2 with paired := true } with eng := (engW [(17, idle)]).eng }, 2, 3, 1, by decide⟩,
   ⟨avW 2 { up.av 2 with temps := List.replicate 3 110 }, by decide⟩,
   ⟨{ pwr { up.pwr with tDown := 2 } with clock := 86400000000000 }, by decide⟩⟩

end PowerAndHeat

namespace TimeAndPlans

def plan0 : Plan := ⟨1, 0, 13, false, 0, 1, [], [], []⟩
def tW (x : Machine.Time) : State := { up with time := x, regs := { up.regs with act := [(0x40010, 0x1FFFF)] } }
def tL : Machine.Time := { up.time with mode := .locked }
def cyc : Nat := 128 * 2 ^ 13
def k9 : Cmd := { cmd 0x71 0 cyc with d := { (cmd 0x71 0 cyc).d with cmdId := 9 } }
def k9e : Cmd := { cmd 0x74 0 12800 3 with d := { (cmd 0x74 0 12800 3).d with cmdId := 9 } }
def coreW (x : Core) : State := { up with avail := { up.avail with cores := [(1, x)] } }
def sw : Switch := ⟨false, false, 5, none⟩
def kS : Cmd := cmd 0x76 0 1
def swP : Switch := ⟨true, true, 5, some kS⟩
def hc : HeldCount := ⟨5000, 0, some (cmd 0x73 0 5000)⟩
def tJ : State := { tW up.time with net := { up.net with ports := [(3, { up.jl 3 with st := 5 })] } }

/-- The hypotheses of `PlansAndEvents`, clause by clause. -/
theorem witness_plansAndEvents :
    (∃ (s : State) (c : Cmd), Starts s c .g ∧ c.d.opcode = 0x70 ∧ s.swapPending = false) ∧
    (∃ (s : State) (c : Cmd), Starts s c .g ∧ c.d.opcode = 0x71 ∧ s.time.standby.isSome = true ∧ s.time.mode = .locked ∧
      s.eventRoom = true ∧ s.instantOk c.d.p0 = true ∧ c.d.p0 % max (cycleOf s.time.active) (cycleOf s.time.standby) = 0 ∧
      s.badSwap c.d.p0 = false) ∧
    (∃ (s : State) (c : Cmd), Starts s c .g ∧ c.d.opcode = 0x72 ∧ s.time.events = []) ∧
    (∃ (s : State) (c k : Cmd) (at' : Nat), Starts s c .g ∧ c.d.opcode = 0x72 ∧ s.time.events = [⟨at', .planSwap, some k⟩] ∧
      RingUp s k.ring) ∧
    (∃ (s : State) (c : Cmd), Starts s c .g ∧ c.d.opcode = 0x74 ∧ s.eventRoom = true ∧ bitsOf c.d.p1 7 0 ≤ 15 ∧ s.instantOk c.d.p0 = true) ∧
    (∃ (s : State) (c : Cmd), Starts s c .g ∧ c.d.opcode = 0x74 ∧ s.eventRoom = true ∧ bitsOf c.d.p1 7 0 ≤ 15 ∧ s.instantOk c.d.p0 = false) ∧
    (∃ (s : State) (c k : Cmd) (at' : Nat) (n : Nat), Starts s c .g ∧ c.d.opcode = 0x75 ∧ s.time.events = [⟨at', .power n, some k⟩] ∧
      k.d.cmdId = bitsOf c.d.p0 31 0 ∧ issuerOf k.ring = bitsOf c.d.p1 8 0 ∧ s.time.ft + 10000 < at' ∧ RingUp s k.ring) ∧
    (∃ (s : State) (c k : Cmd) (at' : Nat) (n : Nat), Starts s c .g ∧ c.d.opcode = 0x75 ∧ s.time.events = [⟨at', .power n, some k⟩] ∧
      k.d.cmdId = bitsOf c.d.p0 31 0 ∧ issuerOf k.ring = bitsOf c.d.p1 8 0 ∧ at' ≤ s.time.ft + 10000) ∧
    (∃ (s : State) (at' : Nat) (n : Nat) (k : Cmd), s.boot.fwReady = true ∧ s.time.events = [⟨at', .power n, some k⟩] ∧ s.time.ft ≤ at' ∧
      s.timeGood = true ∧ s.switchingOver = false ∧ (∀ p, p < 3 → s.periodicAt p at' = false) ∧ RingUp s k.ring) ∧
    (∃ (s : State) (at' : Nat) (n : Nat) (k : Cmd), s.boot.fwReady = true ∧ s.time.events = [⟨at', .power n, some k⟩] ∧ s.time.ft ≤ at' ∧
      s.timeGood = false ∧ (∀ p, p < 3 → s.periodicAt p at' = false) ∧ RingUp s k.ring) ∧
    (∃ (s : State) (at' : Nat) (k : Cmd), s.boot.fwReady = true ∧ s.time.events = [⟨at', .planSwap, some k⟩] ∧ s.time.ft ≤ at' ∧
      s.timeGood = true ∧ s.switchingOver = false ∧ (∀ p, p < 3 → s.periodicAt p at' = false) ∧ RingUp s k.ring) ∧
    (∃ (s : State) (pair : Pair) (w : Switch), (s.core pair).switching = some w ∧ w.planned = false ∧ s.time.events = []) ∧
    (∃ (s : State) (pair : Pair) (w : Switch) (k : Cmd), (s.core pair).switching = some w ∧ w.planned = true ∧ w.cmd = some k ∧
      s.time.events = [] ∧ RingUp s k.ring) ∧
    (∃ (s : State) (pair : Pair), s.time.postponed.contains pair.val = true ∧ s.time.mode = .locked ∧ s.swapBlocked false = false ∧
      s.switchingOver = false ∧ (s.core pair).lost = false ∧ (s.core pair).ready = true) :=
  ⟨⟨up, cmdB 0x70 0 0x2000, by unfold Starts RingUp; decide⟩,
   ⟨tW { tL with standby := some plan0 }, cmd 0x71 0 cyc, by unfold Starts RingUp; decide⟩,
   ⟨tW { tL with standby := some plan0 }, cmd 0x72 0, by unfold Starts RingUp; decide⟩,
   ⟨tW { tL with standby := some plan0, events := [⟨cyc, .planSwap, some k9⟩] }, cmd 0x72 0, k9, cyc, by unfold Starts RingUp; decide⟩,
   ⟨tW tL, cmd 0x74 0 12800 15, by unfold Starts RingUp; decide⟩,
   ⟨tW tL, cmd 0x74 0 12801 15, by unfold Starts RingUp; decide⟩,
   ⟨tW { tL with events := [⟨12800, .power 3, some k9e⟩] }, cmd 0x75 0 9, k9e, 12800, 3, by unfold Starts RingUp; decide⟩,
   ⟨tW { tL with ft := 2800, events := [⟨12800, .power 3, some k9e⟩] }, cmd 0x75 0 9, k9e, 12800, 3, by unfold Starts RingUp; decide⟩,
   ⟨tW { tL with events := [⟨12800, .power 3, some k9e⟩] }, 12800, 3, k9e, by unfold RingUp; decide⟩,
   ⟨tW { tL with mode := .acquiring, events := [⟨12800, .power 3, some k9e⟩] }, 12800, 3, k9e, by unfold RingUp; decide⟩,
   ⟨tW { tL with standby := some plan0, events := [⟨cyc, .planSwap, some k9⟩] }, cyc, k9, by unfold RingUp; decide⟩,
   ⟨coreW { Core.init with switching := some sw }, 1, sw, by decide⟩,
   ⟨coreW { Core.init with switching := some swP }, 1, swP, kS, by unfold RingUp; decide⟩,
   ⟨tW { tL with postponed := [1] }, 1, by decide⟩⟩

/-- The hypotheses of `FabricTime`, clause by clause. -/
theorem witness_fabricTime :
    (∃ (s : State) (c : Cmd), Starts s c .g ∧ c.d.opcode = 0x73 ∧ bitOf (s.regs.val 0x40010).toNat 0 = true ∧ s.time.drvCount = none) ∧
    (∃ (s : State) (h : HeldCount) (k : Cmd), s.time.drvCount = some h ∧ h.cmd = some k ∧ RingUp s k.ring) ∧
    (∃ (s : State) (dt : Nat) (h : HeldCount) (k : Cmd), s.time.drvCount = some h ∧ h.cmd = some k ∧ RingUp s k.ring ∧
      h.arrived + 100000000 ≤ s.clock + dt ∧ s.clock + dt ≤ h.arrived + 900000000 ∧ s.time.bmcCount = none ∧ s.time.extExpect = none ∧
      s.time.events = []) ∧
    (∃ (s : State) (e : Nat), s.time.extExpect = some e ∧ s.time.extBad < 2) ∧
    (∃ (s : State) (e : Nat), s.time.extExpect = some e ∧ 2 ≤ s.time.extBad) ∧
    (∃ (s : State), s.time.lost10m = false ∧ bitOf (s.regs.val 0x40010).toNat 1 = true) ∧
    (∃ (s : State) (n : Nat), n < 12 ∧ (s.jl n).st = 5 ∧ bitOf (s.regs.val 0x40010).toNat (n + 4) = true ∧ s.mute = false) ∧
    (∃ (s : State) (jl : JPort) (m : TimeMsg), (s.jl jl).st = 5 ∧ bitOf (s.regs.val 0x40010).toNat (jl.val + 4) = true ∧ m.echoTx = 0) ∧
    (∃ (s : State) (jl : JPort) (m : TimeMsg), (s.jl jl).st = 5 ∧ bitOf (s.regs.val 0x40010).toNat (jl.val + 4) = true ∧ m.echoTx ≠ 0 ∧
      ((s.time.ports.get jl).getD PortTime.init).delay = none ∧ s.time.events = []) ∧
    (∃ (s : State) (since : Nat), s.time.mode = .acquiring ∧ s.time.inside = some since) ∧
    (∃ (s : State) (since : Nat), s.time.mode = .locked ∧ s.time.outside = some since) ∧
    (∃ (s : State), s.time.mode = .holdover) ∧
    (∃ (s : State) (p : Plan), s.time.active = some p ∧ s.time.mode = .locked ∧ s.time.running = false) :=
  ⟨⟨tW up.time, cmd 0x73 0 5000, by unfold Starts RingUp; decide⟩,
   ⟨tW { up.time with drvCount := some hc }, hc, cmd 0x73 0 5000, by unfold RingUp; decide⟩,
   ⟨tW { up.time with drvCount := some hc }, 100000000, hc, cmd 0x73 0 5000, by unfold RingUp; decide⟩,
   ⟨tW { up.time with extExpect := some 5, extBad := 1 }, 5, by decide⟩,
   ⟨tW { up.time with extExpect := some 5, extBad := 2 }, 5, by decide⟩,
   ⟨tW { up.time with extSelectable := true }, by decide⟩,
   ⟨tJ, 3, by decide⟩,
   ⟨tJ, 3, ⟨1, 100, 0, 0, 2, 1, 0⟩, by decide⟩,
   ⟨tJ, 3, ⟨1, 100, 50, 70, 2, 1, 0⟩, by decide⟩,
   ⟨tW { up.time with mode := .acquiring, inside := some 5 }, 5, by decide⟩,
   ⟨tW { up.time with mode := .locked, outside := some 5 }, 5, by decide⟩,
   ⟨tW { up.time with mode := .holdover, running := true, active := some plan0 }, by decide⟩,
   ⟨tW { tL with active := some plan0 }, plan0, by decide⟩⟩

end TimeAndPlans

namespace Availability

def av (avs : List (Nat × Av)) (shs : List (Nat × ShareSt)) (f : Avail → Avail := id) : State := { up with avail := f { up.avail with
  avs := avs.foldl (fun t e => t.put e.1 e.2) up.avail.avs, shares := shs.foldl (fun t e => t.put e.1 e.2) up.avail.shares } }
def noSpare : Av := { Av.init with role := .failed }
def gap (k : Nat) : ShareSt := { ShareSt.init with st := .gap, step := k }
def failed2 : Av := { Av.init with role := .failed }
def load8 : Av := { Av.init with role := .loading, share := some 2 }
def adm : Admit := ⟨cmd 0x61 0 (2 + 2 * 16), 2, 2, true, 0, .failed, true, [5], false⟩
def admW (x : Admit) : State := av [] [] fun a => { a with admitting := some x }
def lap : Av := { Av.init with lapRunning := true }
def eW (x : Eng) : State := { up with eng := { up.eng with engs := [(19, x)] } }
def off : Eng := ⟨.off, 200, 200, 0, none, none, none, false⟩
def ho : Handover := ⟨2, 2, 8, 1000000, false, none, 0, .spareReady, false, some (cmd 0x60 0 2 12800)⟩
def hW (h : Handover) : State := av [(8, load8)] [] fun a => { a with handover := some h }
def fwN : Bundle := { fw with build := 2 }
def roW (r : Option Roll) (avs : List (Nat × Av)) (b : Option Bundle) : State :=
  let s := av avs [] fun a => { a with roll := r, staged := b }
  { s with time := { s.time with mode := .locked } }
def roll : Roll := ⟨cmd 0x68 0, 2000, fwN, [2, 3], [], 0, 12800⟩
def ld8 : Av := { load8 with share := none }
def fen : State := { up with coh := { up.coh with fenced := [(9, 1)] } }
def cW (x : Core) : State := { up with avail := { up.avail with cores := [(1, x)] } }

/-- The hypotheses of `FailOver`, clause by clause. -/
theorem witness_failOver :
    (∃ (s : State) (a : Avenue) (n b : Nat), (s.av a).role = AvRole.serving ∧ (s.av a).share = some n ∧ Settled s ∧ s.spare = some b ∧
      (s.share n).copyLost = false) ∧
    (∃ (s : State) (a : Avenue) (n : Nat), (s.av a).role = AvRole.serving ∧ (s.av a).share = some n ∧ Settled s ∧ s.spare = none ∧
      (s.share n).copyLost = false) ∧
    (∃ (s : State) (n : Share) (a : Nat), (s.share n).st = .gap ∧ (s.share n).step = 1 ∧ (∀ e ∈ s.avail.avs, ¬(e.2.role = AvRole.loading ∧
      e.2.share = some n.val)) ∧ (s.avail.avs.find? fun e => e.2.role == .spareReady).map (·.1) = some a) ∧
    (∃ (s : State) (n : Share), (s.share n).st = .gap ∧ (s.share n).step = 2 ∧ s.mute = false) ∧
    (∃ (s : State) (n : Share) (a : Nat), (s.share n).st = .gap ∧ (s.share n).step = 3 ∧ (∀ w ∈ s.coh.allWaits, w.share ≠ n.val) ∧
      s.avail.admitting = none ∧ (s.avail.avs.find? fun e => e.2.role == .loading && e.2.share == some n.val).map (·.1) = some a) ∧
    (∃ (s : State) (n : Share), s.servedBy n = none ∧ (s.share n).st = .unserved ∧ (s.share n).keeper = false) :=
  ⟨⟨up, 2, 2, 8, by unfold Settled; decide⟩,
   ⟨av [(8, noSpare)] [], 2, 2, by unfold Settled; decide⟩,
   ⟨av [(2, failed2)] [(2, gap 1)], 2, 8, by decide⟩,
   ⟨av [(2, failed2), (8, load8)] [(2, gap 2)], 2, by decide⟩,
   ⟨av [(2, failed2), (8, load8)] [(2, gap 3)], 2, 8, by decide⟩,
   ⟨av [(2, failed2)] [(2, ShareSt.init)], 2, by decide⟩⟩

/-- The hypotheses of `AvenuesTestedAndAdmitted`, clause by clause. -/
theorem witness_avenuesTestedAndAdmitted :
    (∃ (s : State) (c : Cmd), Starts s c .g ∧ c.d.opcode = 0x60 ∧ bitsOf c.d.p0 3 0 ≤ 8 ∧
      (s.av (bitsOf c.d.p0 3 0)).role = AvRole.spareReady ∧ s.changing = false ∧ c.d.p1 = 0) ∧
    (∃ (s : State) (c : Cmd) (n b : Nat), Starts s c .g ∧ c.d.opcode = 0x60 ∧ bitsOf c.d.p0 3 0 ≤ 8 ∧
      (s.av (bitsOf c.d.p0 3 0)).role = AvRole.serving ∧ (s.av (bitsOf c.d.p0 3 0)).share = some n ∧ s.spare = some b ∧
      s.changing = false ∧ s.eventRoom = true ∧ c.d.p1 ≠ 0 ∧ s.instantOk c.d.p1 = true) ∧
    (∃ (s : State) (c : Cmd), Starts s c .g ∧ c.d.opcode = 0x61 ∧ (bitsOf c.d.p0 3 0) ≤ 8 ∧ (bitsOf c.d.p0 7 4) < 8 ∧ c.d.p1 = 0 ∧
      (s.av (bitsOf c.d.p0 3 0)).role = AvRole.failed ∧ s.changing = false ∧ s.eventRoom = true) ∧
    (∃ (s : State) (ch : Chan) (x : Admit), s.avail.admitting = some x ∧ x.lapDone = true ∧ x.chans = [ch.val] ∧ x.failed = false ∧
      (s.av x.av).role = AvRole.serving ∧ RingUp s x.cmd.ring) ∧
    (∃ (s : State) (ch : Chan) (x : Admit), s.avail.admitting = some x ∧ x.lapDone = true ∧ x.chans = [ch.val] ∧
      (s.av x.av).role = AvRole.serving ∧ RingUp s x.cmd.ring) ∧
    (∃ (s : State) (a : Avenue), (s.av a).role = AvRole.selfTest ∧ (s.av a).lapRunning = false ∧ s.boot.fwReady = true ∧
      (s.av a).lapAt = none) ∧
    (∃ (s : State) (a : Avenue) (segment : Nat), (s.av a).lapRunning = true) ∧
    (∃ (s : State) (a : Avenue) (segment : Nat), (s.av a).lapRunning = true ∧ s.avail.admitting = none) ∧
    (∃ (s : State) (a : Avenue) (segment : Nat), (s.av a).lapRunning = true ∧ (s.av a).retried = false) ∧
    (∃ (s : State) (a : Avenue) (segment : Nat), (s.av a).lapRunning = true ∧ (s.av a).retried = true ∧ (s.av a).role = AvRole.selfTest ∧
      Settled s) ∧
    (∃ (s : State) (a : Avenue) (e : Engine), (s.av a).role = AvRole.serving ∧ (s.engOf a e).st = .off) ∧
    (∃ (s : State) (a : Avenue) (e : Engine), (s.av a).role = AvRole.serving ∧ (s.engOf a e).st = .test) ∧
    (∃ (s : State) (a : Avenue) (e : Engine), (s.av a).role = AvRole.serving ∧ (s.engOf a e).st = .test) :=
  ⟨⟨up, cmd 0x60 0 8, by unfold Starts RingUp; decide⟩,
   ⟨up, cmd 0x60 0 2 12800, 2, 8, by unfold Starts RingUp; decide⟩,
   ⟨av [(2, failed2)] [(2, ShareSt.init)], cmd 0x61 0 (2 + 2 * 16), by unfold Starts RingUp; decide⟩,
   ⟨admW adm, 5, adm, by unfold RingUp; decide⟩,
   ⟨admW adm, 5, adm, by unfold RingUp; decide⟩,
   ⟨av [(2, Av.init)] [], 2, by decide⟩,
   ⟨av [(2, lap)] [], 2, 4, by decide⟩,
   ⟨av [(2, lap)] [], 2, 7, by decide⟩,
   ⟨av [(2, lap)] [], 2, 7, by decide⟩,
   ⟨av [(2, { lap with retried := true })] [], 2, 7, by unfold Settled; decide⟩,
   ⟨eW off, 2, 3, by decide⟩,
   ⟨eW { off with st := .test }, 2, 3, by decide⟩,
   ⟨eW { off with st := .test }, 2, 3, by decide⟩⟩

/-- The hypotheses of `HandoversAndRolls`, clause by clause. -/
theorem witness_handoversAndRolls :
    (∃ (s : State) (h : Handover), s.avail.handover = some h ∧ h.phase = 0) ∧
    (∃ (s : State) (h : Handover), s.avail.handover = some h ∧ h.phase = 0 ∧ h.drain = none) ∧
    (∃ (s : State) (h : Handover), s.avail.handover = some h ∧ h.phase = 1) ∧
    (∃ (s : State) (h : Handover), s.avail.handover = some h ∧ h.phase = 2 ∧ h.inAv ≠ h.outAv ∧ h.retire = true) ∧
    (∃ (s : State) (h : Handover) (k : Cmd), s.avail.handover = some h ∧ h.phase = 3 ∧ h.cmd = some k ∧ s.avail.roll = none ∧
      s.coh.moveWait = [] ∧ s.eng.held = [] ∧ RingUp s k.ring) ∧
    (∃ (s : State) (c : Cmd) (b : Bundle) (a : Nat), Starts s c .g ∧ c.d.opcode = 0x68 ∧ s.avail.staged = some b ∧ s.spare = some a ∧
      (∀ n, n < 8 → s.isOpen n = true) ∧ s.time.mode = .locked ∧ s.changing = false ∧ bitsOf c.d.p0 15 0 = 0 ∧ c.d.p1 = 0 ∧
      ((List.range 8).filter fun n => ((s.servedBy n).map fun o => (s.av o).build) != some b.build) ≠ []) ∧
    (∃ (s : State) (r : Roll) (a n o : Nat) (rest : List Nat), s.avail.roll = some r ∧ s.avail.handover = none ∧
      (s.avail.avs.find? fun e => e.2.role == .loading && e.2.share.isNone).map (·.1) = some a ∧ r.left = n :: rest ∧
      s.servedBy n = some o ∧ r.nextAt ≠ 0) ∧
    (∃ (s : State) (r : Roll) (a : Nat), s.avail.roll = some r ∧ s.avail.handover = none ∧
      (s.avail.avs.find? fun e => e.2.role == .loading && e.2.share.isNone).map (·.1) = some a ∧ RingUp s r.cmd.ring) :=
  ⟨⟨hW ho, ho, by decide⟩,
   ⟨hW ho, ho, by decide⟩,
   ⟨hW { ho with phase := 1 }, { ho with phase := 1 }, by decide⟩,
   ⟨hW { ho with phase := 2, retire := true }, { ho with phase := 2, retire := true }, by decide⟩,
   ⟨hW { ho with phase := 3 }, { ho with phase := 3 }, cmd 0x60 0 2 12800, by unfold RingUp; decide⟩,
   ⟨roW none [] (some fwN), cmd 0x68 0, fwN, 8, by unfold Starts RingUp; decide⟩,
   ⟨roW (some roll) [(8, ld8)] (some fwN), roll, 8, 2, 2, [3], by decide⟩,
   ⟨roW (some roll) [(8, ld8)] (some fwN), roll, 8, by unfold RingUp; decide⟩⟩

/-- The hypotheses of `CoresAndFences`, clause by clause. -/
theorem witness_coresAndFences :
    (∃ (s : State) (c : Cmd), Starts s c .g ∧ c.d.opcode = 0x64 ∧ s.isFenced (bitsOf c.d.p0 15 0) = true ∧ s.coh.fenced.wf = true) ∧
    (∃ (s : State) (c : Cmd), Starts s c .g ∧ c.d.opcode = 0x64 ∧ s.isFenced (bitsOf c.d.p0 15 0) = false) ∧
    (∃ (s : State) (c : Cmd), Starts s c .g ∧ c.d.opcode = 0x65 ∧ (bitsOf c.d.p0 1 0) < 3 ∧ (s.core (bitsOf c.d.p0 1 0)).ready = true ∧
      s.avail.roll = none ∧ s.eventRoom = true ∧ (c.d.p1) ≠ 0 ∧ s.instantOk (c.d.p1) = true ∧ s.time.events = [] ∧
      (∀ q, q < 3 → q ≠ (bitsOf c.d.p0 1 0) → s.periodicNear q (c.d.p1) = false)) ∧
    (∃ (s : State) (c : Cmd), Starts s c .pf ∧ c.d.opcode = 0x66 ∧ bitOf c.d.p1 0 = false ∧ 416 ≤ bitsOf c.d.p0 31 0) ∧
    (∃ (s : State) (c : Cmd), Starts s c .pf ∧ c.d.opcode = 0x66 ∧ bitOf c.d.p1 0 = true ∧ 1 ≤ (bitsOf c.d.p3 12 0) ∧
      (bitsOf c.d.p3 12 0) ≤ 4096 ∧ bitsOf c.d.p2 16 0 + (bitsOf c.d.p3 12 0) ≤ 2 ^ 17 ∧ (bitsOf c.d.p3 12 0) * 256 ≤ bitsOf c.d.p0 31 0) ∧
    (∃ (s : State) (a : Avenue) (n : Nat), (s.av a).role = AvRole.serving ∧ (s.av a).share = some n) ∧
    (∃ (s : State) (p : Pair), (s.core p).lost = false ∧ (s.core p).switching = none ∧ s.boot.fwReady = true) ∧
    (∃ (s : State) (p : Pair), (s.core p).standbyFailed = false ∧ (s.core p).switching = none ∧ s.boot.fwReady = true) ∧
    (∃ (s : State) (p : Pair), (s.core p).standbyFailed = false ∧ (s.core p).switching = none ∧ s.boot.fwReady = true) ∧
    (∃ (s : State) (p : Pair), (s.core p).lost = false ∧ (s.core p).switching = none ∧ s.boot.fwReady = true ∧ (s.core p).ready = true) ∧
    (∃ (s : State) (p : Pair), (s.core p).lost = false ∧ (s.core p).switching = none ∧ s.boot.fwReady = true ∧ (s.core p).ready = false) :=
  ⟨⟨fen, cmd 0x64 0 9, by unfold Starts RingUp; decide⟩,
   ⟨fen, cmd 0x64 0 8, by unfold Starts RingUp; decide⟩,
   ⟨up, cmd 0x65 0 1 12800000000, by unfold Starts RingUp; decide⟩,
   ⟨up, cmdB 0x66 0 416, by unfold Starts RingUp; decide⟩,
   ⟨up, cmdB 0x66 0 512 1 5 2, by unfold Starts RingUp; decide⟩,
   ⟨up, 3, 3, by decide⟩,
   ⟨up, 2, by decide⟩,
   ⟨up, 2, by decide⟩,
   ⟨up, 1, by decide⟩,
   ⟨up, 1, by decide⟩,
   ⟨cW { Core.init with standbyFailed := true }, 1, by decide⟩⟩

end Availability

namespace Security

def secW (x : Sec) : State := { upM with sec := x }
def sx : Sec := { up.sec with sessions := [(3, ⟨1, true, 0⟩)], nextSession := 4 }
def blob : List Byte := List.replicate 6 0 ++ [5, 0, 1, 0, 0, 0] ++ List.replicate 116 0
def cKey : Cmd := cmdB 0x80 5 0 3
def dmaK : Dma := ⟨0, cKey, false, 0x10000, 128, 0, [], true, false, 0, .command⟩
def sKey : State := { upD dist with sec := sx, host := { up.host with dmas := [(4, dmaK)] } }
def mCmd : Cmd := cmdB 0x83 5 (1 + 0 * 65536)
def bnd : Binding := ⟨5, 0, 0, 4096, ⟨2, 0⟩, 77⟩
def distC : District := { dist with conf := true }
def armed (n : Nat) : State := secW { sx with arm := some (7, n) }
def encJ : State := { armed 0 with net := { up.net with ports := [(3, { up.jl 3 with st := 5, encOn := true })] } }
def tr : Transport := .mctp
def full : Sec := { up.sec with sessions := (List.range 16).map fun n => (n, ⟨1, true, 0⟩), nextSession := 16 }
def ses (f : Bool) : Session := ⟨Machine.transportNo tr, f, 0⟩
def sS (f : Bool) : State := secW { up.sec with sessions := [(3, ses f)], nextSession := 4 }
def sD : State := secW { up.sec with sessions := [(3, ⟨Machine.transportNo (.doe 0), true, 0⟩)], nextSession := 4 }
def tdi (x : Tdi) : State := { sD with host := { sD.host with tdi := [(5, x)] } }
def sBind : State := { upM with
  maps := { upM.maps with windows := [(1, { win with w := false, a := false }), (2, win)] }, sec := { sx with models := [(40, 1)] } }

/-- The hypotheses of `KeysAndModels`, clause by clause. -/
theorem witness_keysAndModels :
    (∃ (s : State) (c : Cmd), Starts s c .g ∧ c.d.opcode = 0x67 ∧ bitsOf c.d.p0 31 0 ≤ 2 ^ 26) ∧
    (∃ (s : State) (c : Cmd), Starts s c .d ∧ c.d.opcode = 0x80 ∧ s.sessionOpen (bitsOf c.d.p1 31 0) = true ∧ bitsOf c.d.p0 2 0 ≤ 2 ∧
      s.sec.models.length < 4096) ∧
    (∃ (s : State) (c : Cmd), Starts s c .d ∧ c.d.opcode = 0x80 ∧ s.sessionOpen (bitsOf c.d.p1 31 0) = false) ∧
    (∃ (s : State) (c : Cmd) (k fn addr : Nat) (bs : List Byte) (x : District) (pri : Nat), c.d.opcode = 0x80 ∧
      s.host.dmas.get k = some ⟨fn, c, false, addr, 128, 0, [], true, false, pri, .command⟩ ∧ addr % 4096 = 0 ∧ bs.length = 128 ∧
      bitsOf c.d.p0 2 0 = 0 ∧ s.district c.d.district = some x ∧ x.level ≠ 0 ∧ s.hasPages c.d.district = false ∧ RingUp s c.ring ∧
      s.sessionOpen (bitsOf c.d.p1 31 0) = true ∧ field bs 4 1 = 0 ∧ field bs 5 1 = bitsOf c.d.p0 5 3 ∧
      field bs 6 2 % 1024 = c.d.district ∧ field bs 8 4 = x.epoch ∧ field bs 12 4 = s.sec.gen) ∧
    (∃ (s : State) (c : Cmd), Starts s c .g ∧ c.d.opcode = 0x84 ∧ s.sessionOpen (bitsOf c.d.p1 31 0) = true ∧ bitsOf c.d.p0 3 0 ≤ 11) ∧
    (∃ (s : State) (c : Cmd), Starts s c .d ∧ c.d.opcode = 0x83 ∧ bitsOf c.d.p0 21 20 = 0 ∧ s.windowMoving (bitsOf c.d.p0 15 0) = false ∧
      s.bindCheck c = none) ∧
    (∃ (s : State) (c : Cmd) (b : Binding) (w : Window), Starts s c .d ∧ c.d.opcode = 0x83 ∧ bitsOf c.d.p0 21 20 = 1 ∧
      s.windowMoving (bitsOf c.d.p0 15 0) = false ∧ s.sec.bindings.get (bitsOf c.d.p0 15 0) = some b ∧ b.district = c.d.district ∧
      b.slot = bitsOf c.d.p0 18 16 ∧ s.maps.windows.get (bitsOf c.d.p0 15 0) = some w) ∧
    (∃ (s : State) (c : Cmd) (x : District), Starts s c .d ∧ c.d.opcode = 0x85 ∧ s.district c.d.district = some x ∧ x.conf = true ∧
      x.owner = ringFn c.ring ∧ c.d.p1 % 4096 = 0 ∧ bitsOf c.d.p2 39 0 % 4096 = 0 ∧ c.d.p1 + bitsOf c.d.p2 39 0 ≤ 2 ^ 64 ∧
      bitOf c.d.p0 4 = true) ∧
    (∃ (s : State) (c : Cmd) (x : District), Starts s c .d ∧ c.d.opcode = 0x85 ∧ s.district c.d.district = some x ∧ x.conf = false) ∧
    (∃ (s : State) (c : Cmd), Starts s c .pf ∧ c.d.opcode = 0x82) :=
  ⟨⟨up, cmdB 0x67 0 (2 ^ 20), by unfold Starts RingUp; decide⟩,
   ⟨secW sx, cmdB 0x80 5 2 3, by unfold Starts RingUp; decide⟩,
   ⟨upM, cmdB 0x80 5 2 3, by unfold Starts RingUp; decide⟩,
   ⟨sKey, cKey, 4, 0, 0x10000, blob, dist, 0, by unfold RingUp; decide +kernel⟩,
   ⟨secW sx, cmdB 0x84 0 (11 + 16) 3, by unfold Starts RingUp; decide⟩,
   ⟨sBind, cmdB 0x83 5 1 0 4096 2, by unfold Starts RingUp; decide⟩,
   ⟨secW { sx with bindings := [(1, bnd)] }, cmd 0x83 5 (1 + 2 ^ 20), bnd, win, by unfold Starts RingUp; decide⟩,
   ⟨upD distC, cmd 0x85 5 (3 + 16) 0x40000 0x2000, distC, by unfold Starts RingUp; decide⟩,
   ⟨upD dist, cmd 0x85 5 (3 + 16) 0x40000 0x2000, dist, by unfold Starts RingUp; decide⟩,
   ⟨up, cmdB 0x82 0, by unfold Starts RingUp; decide⟩⟩

/-- The hypotheses of `Zeroise`, clause by clause. -/
theorem witness_zeroise :
    (∃ (s : State) (c : Cmd), Starts s c .g ∧ c.d.opcode = 0x81 ∧ s.sec.arm = none) ∧
    (∃ (s : State) (c : Cmd) (v since : Nat), Starts s c .g ∧ c.d.opcode = 0x81 ∧ s.sec.arm = some (v, since) ∧
      (v ≠ bitsOf c.d.p0 15 0 ∨ since + 100000000 < s.clock)) ∧
    (∃ (s : State) (c : Cmd) (since : Nat), Starts s c .g ∧ c.d.opcode = 0x81 ∧ s.sec.arm = some (bitsOf c.d.p0 15 0, since) ∧
      s.clock ≤ since + 100000000 ∧ bitsOf c.d.p0 17 16 = 2 ∧ bitsOf c.d.p1 3 0 ≤ 11 ∧ (s.jl (bitsOf c.d.p1 3 0)).encOn = false) ∧
    (∃ (s : State) (c : Cmd) (since : Nat), Starts s c .g ∧ c.d.opcode = 0x81 ∧ s.sec.arm = some (bitsOf c.d.p0 15 0, since) ∧
      s.clock ≤ since + 100000000 ∧ bitsOf c.d.p0 17 16 = 2 ∧ bitsOf c.d.p1 3 0 ≤ 11 ∧ (s.jl (bitsOf c.d.p1 3 0)).encOn = true ∧
      (s.jl (bitsOf c.d.p1 3 0)).st = 5) ∧
    (∃ (s : State) (c : Cmd) (since : Nat), Starts s c .g ∧ c.d.opcode = 0x81 ∧ s.sec.arm = some (bitsOf c.d.p0 15 0, since) ∧
      s.clock ≤ since + 100000000 ∧ bitsOf c.d.p0 17 16 = 3) :=
  ⟨⟨up, cmd 0x81 0 (7 + 2 * 65536) 3, by unfold Starts RingUp; decide⟩,
   ⟨armed 0, cmd 0x81 0 (8 + 2 * 65536) 3, 7, 0, by unfold Starts RingUp; decide⟩,
   ⟨{ armed 0 with clock := 100000000 }, cmd 0x81 0 (7 + 2 * 65536) 3, 0, by unfold Starts RingUp; decide⟩,
   ⟨encJ, cmd 0x81 0 (7 + 2 * 65536) 3, 0, by unfold Starts RingUp; decide⟩,
   ⟨armed 0, cmd 0x81 0 (7 + 3 * 65536), 0, by unfold Starts RingUp; decide⟩⟩

/-- The hypotheses of `Attestation`, clause by clause. -/
theorem witness_attestation :
    (∃ (s : State) (tr : Transport), s.mute = false) ∧
    (∃ (s : State) (tr : Transport), s.mute = false) ∧
    (∃ (s : State) (tr : Transport) (offered : List Nat), s.mute = false) ∧
    (∃ (s : State) (tr : Transport), s.mute = false) ∧
    (∃ (s : State) (tr : Transport) (offset length : Nat), s.mute = false) ∧
    (∃ (s : State) (tr : Transport) (nonce : Nat), s.mute = false) ∧
    (∃ (s : State) (tr : Transport) (nonce : Nat) (sign : Bool), s.mute = false) ∧
    (∃ (s : State) (tr : Transport) (share : Nat), s.mute = false ∧ s.sec.sessions.length < 16) ∧
    (∃ (s : State) (tr : Transport) (share : Nat), s.mute = false ∧ 16 ≤ s.sec.sessions.length) ∧
    (∃ (s : State) (tr : Transport) (id : Nat) (x : Session), s.mute = false ∧ s.sec.sessions.get id = some x ∧
      x.transport = transportNo tr) ∧
    (∃ (s : State) (tr : Transport) (id : Nat) (x : Session), s.mute = false ∧ s.sec.sessions.get id = some x ∧
      x.transport = transportNo tr ∧ x.finished = true) ∧
    (∃ (s : State) (tr : Transport) (id : Nat) (x : Session), s.mute = false ∧ s.sec.sessions.get id = some x ∧
      x.transport = transportNo tr ∧ x.finished = true) ∧
    (∃ (s : State) (tr : Transport) (id : Nat) (x : Session), s.mute = false ∧ s.sec.sessions.get id = some x ∧
      x.transport = transportNo tr ∧ s.sec.sessions.wf = true) ∧
    (∃ (s : State) (id : Nat), (s.sec.sessions.get id).isSome = true ∧ s.sec.sessions.wf = true) ∧
    (∃ (s : State) (port : HPort) (session stream key : Nat), s.doeOpen port session = true ∧ stream ≤ 64 ∧
      s.sec.ide.get (port.val * 128 + stream) = none ∧ s.mute = false) ∧
    (∃ (s : State) (port : HPort) (session stream v key : Nat), s.doeOpen port session = true ∧ stream ≤ 64 ∧
      s.sec.ide.get (port.val * 128 + stream) = some v ∧ s.mute = false) ∧
    (∃ (s : State) (port : HPort) (session fn : Nat), s.doeOpen port session = true ∧ fn % 256 ≠ 0 ∧
      (s.host.tdi.get (port.val * 256 + fn % 256)).getD .unlocked = .unlocked ∧ s.mute = false) ∧
    (∃ (s : State) (port : HPort) (session fn : Nat), s.doeOpen port session = true ∧ fn % 256 ≠ 0 ∧
      s.host.tdi.get (port.val * 256 + fn % 256) = some .locked ∧ s.mute = false) ∧
    (∃ (s : State) (port : HPort) (session fn : Nat), s.doeOpen port session = true ∧ fn % 256 ≠ 0 ∧
      s.host.tdi.get (port.val * 256 + fn % 256) = some .run) :=
  ⟨⟨up, tr, by decide⟩,
   ⟨up, tr, by decide⟩,
   ⟨up, tr, [1, 2], by decide⟩,
   ⟨up, tr, by decide⟩,
   ⟨up, tr, 0, 64, by decide⟩,
   ⟨up, tr, 5, by decide⟩,
   ⟨up, tr, 5, true, by decide⟩,
   ⟨up, tr, 5, by decide⟩,
   ⟨secW full, tr, 5, by decide⟩,
   ⟨sS false, tr, 3, ses false, by decide⟩,
   ⟨sS true, tr, 3, ses true, by decide⟩,
   ⟨sS true, tr, 3, ses true, by decide⟩,
   ⟨sS true, tr, 3, ses true, by decide⟩,
   ⟨sS true, 3, by decide⟩,
   ⟨sD, 0, 3, 5, 9, by decide⟩,
   ⟨{ sD with sec := { sD.sec with ide := [(5, 18)] } }, 0, 3, 5, 18, 9, by decide⟩,
   ⟨sD, 0, 3, 5, by decide⟩,
   ⟨tdi .locked, 0, 3, 5, by decide⟩,
   ⟨tdi .run, 0, 3, 5, by decide⟩⟩

end Security

namespace HostSide

def dm : Dma := ⟨0, cmdB 0xF0 0 304, true, 0x10000, 304, 0, List.replicate 304 1, false, false, 0, .result { rec7 with status := 0 }⟩
def dW (d : Dma) : State := { up with host := { up.host with dmas := [(4, d)], nextDma := 5 } }
def dc : Dma := { dm with use := .command, toHost := false }
def dp : Dma := { dc with waitingPri := true }
def dt : Dma := { dm with translated := true }
def dl : Dma := { dt with addr := 0x10F80 }
def dh : Dma := ⟨0, cmd 0x36 5 0 0 9 0x40000 64, false, 0x40000, 64, 0, [], true, false, 0, .hostCopy⟩

/-- The hypotheses of `Surveys`, clause by clause. -/
theorem witness_surveys :
    (∃ (s : State) (c : Cmd), Starts s c .any ∧ c.d.opcode = 0xF0 ∧ 304 ≤ bitsOf c.d.p0 31 0) ∧
    (∃ (s : State) (c : Cmd) (x : District), Starts s c .q ∧ c.d.opcode = 0x03 ∧ s.district c.d.district = some x) ∧
    (∃ (s : State) (c : Cmd), Starts s c .q ∧ c.d.opcode = 0x03 ∧ s.district c.d.district = none) ∧
    (∃ (s : State) (cmd arg : Nat), s.mute = false) ∧
    (∃ (s : State) (cmd : Nat), s.mute = false) ∧
    (∃ (s : State) (n : Nat), s.boot.fwReady = true ∧ s.mute = false ∧ n < 9) ∧
    (∃ (s : State) (n : Nat), s.boot.fwReady = false) ∧
    (∃ (s : State) (b x : Bundle), s.boot.fwReady = true ∧ s.boot.fw = some x ∧ b.formatOk = true ∧ b.signatureOk = true ∧
      b.revLo ≤ x.revHi ∧ x.revHi ≤ b.revHi ∧ (∀ p ∈ s.time.active, p.level ≤ b.revHi) ∧ s.avail.roll = none) :=
  ⟨⟨up, cmdB 0xF0 0 304, by unfold Starts RingUp; decide⟩,
   ⟨upD dist, cmdB 0x03 5, dist, by unfold Starts RingUp; decide⟩,
   ⟨up, cmdB 0x03 5, by unfold Starts RingUp; decide⟩,
   ⟨up, 1, 2, by decide⟩,
   ⟨up, 1, by decide⟩,
   ⟨up, 3, by decide⟩,
   ⟨State.reset, 3, by decide⟩,
   ⟨up, { fw with build := 2 }, fw, by decide⟩⟩

/-- The hypotheses of `HostDma`, clause by clause. -/
theorem witness_hostDma :
    (∃ (s : State) (k : Nat) (d : Dma), s.host.dmas.get k = some d ∧ d.translated = false ∧ d.waitingPri = false ∧ d.toHost = false ∧
      s.mute = false) ∧
    (∃ (s : State) (k : Nat) (d : Dma), s.host.dmas.get k = some d ∧ d.translated = false ∧ d.waitingPri = false ∧ d.fn ∉ s.host.priOff ∧
      s.mute = false) ∧
    (∃ (s : State) (k : Nat) (d : Dma), s.host.dmas.get k = some d ∧ d.translated = false ∧ d.waitingPri = false ∧ d.use = .command ∧
      s.host.priOff.contains d.fn = true ∧ RingUp s d.cmd.ring) ∧
    (∃ (s : State) (k : Nat) (d : Dma), s.host.dmas.get k = some d ∧ d.waitingPri = true ∧ s.mute = false) ∧
    (∃ (s : State) (k : Nat) (d : Dma), s.host.dmas.get k = some d ∧ d.waitingPri = true ∧ d.use = .command ∧ RingUp s d.cmd.ring) ∧
    (∃ (s : State) (k : Nat) (d : Dma), s.host.dmas.get k = some d ∧ d.waitingPri = true ∧ d.use = .command ∧ RingUp s d.cmd.ring) ∧
    (∃ (s : State) (k : Nat) (d : Dma), s.host.dmas.get k = some d ∧ d.waitingPri = true ∧ d.use = .command ∧ RingUp s d.cmd.ring) ∧
    (∃ (s : State) (port : HPort) (fn page : Nat), s.host.invals = [] ∧ s.mute = false ∧
      (∀ e ∈ s.host.dmas, ¬(e.2.fn = port.val * 256 + fn % 256 ∧ e.2.page = page ∧ e.2.translated = true))) ∧
    (∃ (s : State) (port : HPort) (fn page k : Nat) (d : Dma), (k, d) ∈ s.host.dmas ∧ d.fn = port.val * 256 + fn % 256 ∧ d.page = page ∧
      d.translated = true) ∧
    (∃ (s : State) (k : Nat) (d : Dma) (r : Record), s.host.dmas.get k = some d ∧ d.use = .result r ∧ d.toHost = true ∧
      d.translated = true ∧ 0 < d.chunk ∧ d.len ≤ d.done + d.chunk ∧ s.host.invals = [] ∧ r.cmdId = d.cmd.d.cmdId ∧ RingUp s d.cmd.ring) ∧
    (∃ (s : State) (k : Nat) (d : Dma) (r : Record), s.host.dmas.get k = some d ∧ d.use = .result r ∧ d.toHost = true ∧
      d.translated = true ∧ 0 < d.chunk ∧ d.done + d.chunk < d.len ∧ s.host.invals = [] ∧ s.mute = false) ∧
    (∃ (s : State) (k st loc : Nat) (d : Dma) (bs : List Byte), s.host.dmas.get k = some d ∧ d.use = .hostCopy ∧ d.translated = true ∧
      0 < d.chunk ∧ (d.toHost = true ∨ bs.length = d.chunk) ∧ s.copyStop d d.chunk = some (st, loc) ∧ RingUp s d.cmd.ring) :=
  ⟨⟨dW { dm with toHost := false }, 4, { dm with toHost := false }, by decide +kernel⟩,
   ⟨dW dm, 4, dm, by decide +kernel⟩,
   ⟨{ dW dc with host := { (dW dc).host with priOff := [0] } }, 4, dc, by unfold RingUp; decide +kernel⟩,
   ⟨dW dp, 4, dp, by decide +kernel⟩,
   ⟨dW dp, 4, dp, by unfold RingUp; decide +kernel⟩,
   ⟨dW dp, 4, dp, by unfold RingUp; decide +kernel⟩,
   ⟨dW dp, 4, dp, by unfold RingUp; decide +kernel⟩,
   ⟨up, 0, 0, 16, by decide⟩,
   ⟨dW dt, 0, 0, 16, 4, dt, by decide +kernel⟩,
   ⟨dW dt, 4, dt, { rec7 with status := 0 }, by unfold RingUp; decide +kernel⟩,
   ⟨dW dl, 4, dl, { rec7 with status := 0 }, by decide +kernel⟩,
   ⟨{ dW dh with maps := upM.maps, mem := upM.mem }, 4, 33, 9, dh, List.replicate 64 1, by unfold RingUp; decide⟩⟩

end HostSide

namespace Island

def iW (i : Isl) : State := { up with isl := i }
def run : Isl := { up.isl with status := 0, slot0 := ⟨7, 70, 71, 700⟩, slot1 := ⟨8, 80, 81, 800⟩, seq := 8 }
def st1 : Isl := { run with status := 1 }
def ist : IslandStart := ⟨true, true, true, true, 3⟩
def fr : Frame := ⟨false, 1, 5, 0, []⟩
def rA : Isl := { run with acc0 := 2 ^ 32 * 1000000 * 300, acc1 := 2 ^ 32 * 1000000 * 50, counts := [(3, ⟨5, 6, 7, 8, 9, 10, 11, 12⟩)] }
def rB : Isl := { run with acc0 := 1000 * 2 ^ 32 * 285000000, counts := [(17, ⟨1, 1, 0, 0, 0, 0, 0, 10⟩), (40, ⟨1, 0, 1, 0, 10, 0, 0, 0⟩)], installed := 30, frames := 1 }

/-- The hypotheses of `IslandStartAndStop`, clause by clause. -/
theorem witness_islandStartAndStop :
    (∃ (s : State) (st : IslandStart), s.isl.status = 1 ∧ s.isl.resetPin = false ∧ st.selfTestOk = true ∧ s.isl.bankOk = true) ∧
    (∃ (s : State) (st : IslandStart), s.isl.status = 1 ∧ s.isl.resetPin = false ∧ (st.selfTestOk = false ∨ s.isl.bankOk = false) ∧
      st.storeOk = true) ∧
    (∃ (s : State) (st : IslandStart), s.isl.status ≠ 1) ∧
    (∃ (s : State), s.isl.status ≠ 1 ∧ s.isl.slot0.seq < s.isl.slot1.seq) ∧
    (∃ (s : State), s.isl.status ≠ 1 ∧ s.isl.slot1.seq < s.isl.slot0.seq) ∧
    (∃ (s : State) (data : List Byte), s.isl.bank = none ∧ data.length = 64) ∧
    (∃ (s : State) (data : List Byte) (progEn : Bool), (progEn = false ∨ s.isl.bank.isSome = true)) :=
  ⟨⟨iW st1, ist, by decide⟩,
   ⟨iW st1, { ist with selfTestOk := false }, by decide⟩,
   ⟨iW run, ist, by decide⟩,
   ⟨iW run, by decide⟩,
   ⟨iW { run with slot0 := ⟨9, 80, 81, 800⟩ }, by decide⟩,
   ⟨iW run, List.replicate 64 0, by decide⟩,
   ⟨iW run, List.replicate 64 0, false, by decide⟩⟩

/-- The hypotheses of `IslandMeasures`, clause by clause. -/
theorem witness_islandMeasures :
    (∃ (s : State) (s0 s1 : List (Int × Int)), s.isl.status = 0) ∧
    (∃ (s : State) (s0 s1 : List (Int × Int)), s.isl.status ≠ 0) ∧
    (∃ (s : State), s.isl.status = 0 ∧ s.isl.crystalBad = false) ∧
    (∃ (s : State), s.isl.status = 0 ∧ s.isl.tamper = false) ∧
    (∃ (s : State), s.isl.status = 0 ∧ s.isl.tamper = true) ∧
    (∃ (s : State), s.boot.fwReady = true ∧ s.mute = false) ∧
    (∃ (s : State) (f : Frame), s.isl.status = 0 ∧ f.ok = false) ∧
    (∃ (s : State) (f : Frame), s.isl.status = 0 ∧ f.ok = true ∧ s.isl.lost = false) ∧
    (∃ (s : State) (f : Frame), s.isl.status = 0 ∧ f.ok = true ∧ s.isl.lost = true) ∧
    (∃ (s : State), s.isl.status = 0 ∧ s.isl.lost = false) :=
  ⟨⟨iW run, [(1, 2)], [(3, 4)], by decide⟩,
   ⟨iW st1, [(1, 2)], [(3, 4)], by decide⟩,
   ⟨iW run, by decide⟩,
   ⟨iW run, by decide⟩,
   ⟨iW { run with tamper := true }, by decide⟩,
   ⟨up, by decide⟩,
   ⟨iW run, fr, by decide⟩,
   ⟨iW run, { fr with ok := true }, by decide⟩,
   ⟨iW { run with lost := true }, { fr with ok := true }, by decide⟩,
   ⟨iW run, by decide⟩⟩

/-- The hypotheses of `MeteringRecords`, clause by clause. -/
theorem witness_meteringRecords :
    (∃ (s : State), s.isl.status = 0) ∧
    (∃ (s : State), s.isl.status ≠ 0) ∧
    (∃ (s : State) (n : Nat), n < 2048 ∧ n ≠ s.isl.sel) ∧
    (∃ (s : State) (n : Nat), n < 64 ∧ 2 ^ 31 + n ≠ s.isl.sel) ∧
    (∃ (s : State) (n : Nat), 2048 ≤ n ∧ n < 8192) ∧
    (∃ (s : State) (n : Nat), 64 ≤ n ∧ n < 8192) :=
  ⟨⟨iW run, by decide⟩,
   ⟨iW st1, by decide⟩,
   ⟨iW run, 2047, by decide⟩,
   ⟨iW run, 63, by decide⟩,
   ⟨iW run, 2048, by decide⟩,
   ⟨iW run, 64, by decide⟩⟩

/-- The hypotheses of `AllocationsSum`, clause by clause. -/
theorem witness_allocationsSum :
    ∃ (s : State), s.isl.status = 0 ∧ s.isl.counts.wf = true ∧ s.isl.allocs.wf = true :=
  ⟨{ iW rA with maps := (upD dist).maps }, by decide⟩

end Island

namespace Stepping

/-- The hypotheses of `StepRunsFront`, clause by clause. -/
theorem witness_stepRunsFront :
    (∃ (s : State) (c : Instr) (rest : List Instr), s.pending = c :: rest) ∧
    (∃ (s : State), s.pending = []) :=
  ⟨⟨{ up with pending := [.configCrcUpdate] }, .configCrcUpdate, [], by decide⟩,
   ⟨up, by decide⟩⟩

/-- The hypotheses of `IslandApart`, clause by clause. -/
theorem witness_islandApart :
    (∃ (i : Instr) (s t : State), islandCommand i = false ∧ exec i s = .next t) ∧
    (∃ (i : Instr) (s t : State), islandCommand i = true ∧ exec i s = .next t) ∧
    (∃ (i : Instr) (s : State) (s' : State) (t : State), islandCommand i = true ∧ s'.isl = s.isl ∧ exec i s = .next t) :=
  ⟨⟨.configCrcUpdate, up, _, rfl, rfl⟩,
   ⟨.meteringPeriodEnd, up, _, rfl, rfl⟩,
   ⟨.meteringPeriodEnd, up, up, _, rfl, rfl, rfl⟩⟩

/-- The hypotheses of `StepsKeepMemoryCanonical`, clause by clause. -/
theorem witness_stepsKeepMemoryCanonical :
    ∃ (s t : State), MemoriesCanonical s ∧ step s = .next t :=
  ⟨up, _, by unfold MemoriesCanonical; decide, rfl⟩

end Stepping

namespace Placement

def rW (l : List (Nat × Word)) : Regs := { up.regs with act := l }
def wex : Regs := rW [(0x10100, 0x2001001), (0x10108, 0x4002002), (0x10110, 0x8004004)]

/-- The hypotheses of `DistrictsNeedMemory`, clause by clause. -/
theorem witness_districtsNeedMemory :
    ∃ (s : State) (c : Cmd), RingUp s c.ring ∧ (s.ring c.ring).acc = none ∧ isAccRing c.ring = false ∧ (s.pick c).copiesOf c = [] ∧
      (s.pick c).recordLost c = false ∧ (s.pick c).retainedOf c = none ∧ (s.pick c).sameRunning c = none ∧ (s.pick c).mustWait c = false ∧
      c.d.opcode = 0x01 ∧ c.d.ifv = ((s.boot.fw.map (·.ifMajor)).getD 0) ∧ (s.pick c).admits .g c = true ∧ s.boot.memReady = false :=
  ⟨{ up with boot := { up.boot with memReady := false } }, cmd 0x01 3 1, by unfold RingUp; decide⟩

/-- The hypotheses of `HomeShares`, clause by clause. -/
theorem witness_homeShares :
    (∃ (g : Regs) (pa i : Nat), i < 3) ∧
    (∃ (g : Regs) (a b : Nat), g.hashOk = true ∧ a < 2 ^ 52 ∧ b < 2 ^ 52 ∧ g.home a = g.home b ∧ localAddr a = localAddr b) ∧
    (∃ (g : Regs) (block share : Nat), g.hashOk = true ∧ block < 2 ^ 41 ∧ share < 8) :=
  ⟨⟨rW [(0x10100, 0x2001001), (0x10108, 0x4002002), (0x1010C, 0x81)], 0xA30300D40, 1, by decide⟩,
   ⟨up.regs, 0xA3000D40, 0xA3000D40, by decide +kernel⟩,
   ⟨wex, 5, 3, by decide⟩⟩

end Placement

/-! ### Well-formed commands: a term that each check refuses -/

namespace WellFormed

def dOk : Desc := ⟨255, 255, 1023, 2 ^ 32 - 1, 2 ^ 64 - 1, 0, 0, 0, 0, 0, 2 ^ 64 - 1, false⟩
def rOk : Req := { reqR with src := 65535 }

theorem test_wf_descriptor : dOk.wf = true ∧
    ([{ dOk with opcode := 256 }, { dOk with ifv := 256 }, { dOk with district := 1024 }, { dOk with cmdId := 2 ^ 32 }, { dOk with buf := 2 ^ 64 },
      { dOk with p5 := 2 ^ 64 }] : List Desc).all (fun d => !d.wf) = true := by decide

theorem test_wf_command : Cmd.wf ⟨65535, dOk⟩ = true ∧ Cmd.wf ⟨65536, dOk⟩ = false ∧ Cmd.wf ⟨0, { dOk with opcode := 256 }⟩ = false := by decide

theorem test_wf_request : rOk.wf = true ∧
    ([{ rOk with src := 65536 }, { rOk with tag := 65536 }, { rOk with window := 65536 }, { rOk with flow := 4096 }, { rOk with cells := 16 },
      { rOk with gcount := 16 }, { rOk with offset := 2 ^ 48 }, { rOk with length := 65536 }, { rOk with size := 256 },
      { rOk with elems := List.replicate 17 (0, 1) }] : List Req).all (fun r => !r.wf) = true := by decide

theorem test_wf_recall_answer : Rsp.wf ⟨65535, 65535, 1023, 2 ^ 48 - 1, 255, 0⟩ = true ∧
    ([⟨65536, 0, 0, 0, 0, 0⟩, ⟨0, 65536, 0, 0, 0, 0⟩, ⟨0, 0, 1024, 0, 0, 0⟩, ⟨0, 0, 0, 2 ^ 48, 0, 0⟩, ⟨0, 0, 0, 0, 256, 0⟩] : List Rsp).all
      (fun m => !m.wf) = true := by decide

theorem test_wf_message : Msg.wf ⟨4, 8, 65535, 65535, 4095, 15, 255, 65535, 0⟩ = true ∧
    ([{ msg9 with cls := 5 }, { msg9 with vc := 9 }, { msg9 with dst := 65536 }, { msg9 with src := 65536 }, { msg9 with flow := 4096 },
      { msg9 with cells := 16 }, { msg9 with op := 256 }, { msg9 with tag := 65536 }] : List Msg).all (fun m => !m.wf) = true := by decide

def pOk : ParamBlock := ⟨9, 4, 1, 1, false, false, 15, [16, 16, 16, 16, 16, 16, 16, 16, 32], 0⟩

theorem test_wf_parameters : pOk.wf = true ∧
    ([{ pOk with node := 65536 }, { pOk with port := 16 }, { pOk with revLo := 256 }, { pOk with revHi := 256 }, { pOk with lanes := 16 },
      { pOk with credits := [] }, { pOk with credits := List.replicate 9 65536 }, { pOk with encCtr := 2 ^ 64 }] : List ParamBlock).all
      (fun p => !p.wf) = true := by decide

def fOk : FlitIn := ⟨false, false, false, 4095, 4095, 15, 14, true, true, [msg9]⟩

theorem test_wf_flit : fOk.wf = true ∧
    ([{ fOk with seq := 4096 }, { fOk with ack := 4096 }, { fOk with crVc := 16 }, { fOk with crCnt := 15 },
      { fOk with msgs := [{ msg9 with vc := 9 }] }, { fOk with msgs := List.replicate 16 msg9 }] : List FlitIn).all (fun f => !f.wf) = true := by
  decide

def tOk : TimeMsg := { seq := 0, txFt := 0, echoTx := 0, echoRx := 0, hops := 0, state := 0, domain := 0 }

theorem test_wf_time_message : tOk.wf = true ∧
    ([{ tOk with seq := 65536 }, { tOk with domain := 65536 }, { tOk with hops := 256 }, { tOk with state := 256 }, { tOk with txFt := 2 ^ 64 },
      { tOk with echoTx := 2 ^ 64 }, { tOk with echoRx := 2 ^ 64 }] : List TimeMsg).all (fun m => !m.wf) = true := by decide

/-- One term for each check of an operand that stands alone. -/
theorem test_wf_operands :
    ([.registerWrite 0 256 0 4 0, .registerWrite 0 0 (2 ^ 24) 4 0, .registerWrite 0 0 0 9 0, .pairValueWrite 0 (2 ^ 24) 0,
      .pairComplementWrite 0 (2 ^ 24) 0, .ringEnable 0 256 0 0, .ringEnable 0 0 4 0, .ringDrain 0 256 0 0, .ringDrain 0 0 4 0,
      .ringDrained 65536, .noticeRingEnable 0 256 0, .commandTailDoorbell 0 256 0 8 0, .commandTailDoorbell 0 0 64 8 0,
      .commandTailDoorbell 0 0 0 9 0, .completionHeadDoorbell 0 256 0 8 0, .completionHeadDoorbell 0 0 64 8 0,
      .completionHeadDoorbell 0 0 0 9 0, .noticeHeadDoorbell 0 256 8 0, .noticeHeadDoorbell 0 0 9 0, .noticeClaimRead 0 256,
      .noticeCompletionWrite 0 256 8 0, .noticeCompletionWrite 0 0 9 0, .shadowTailSweep 65536 none, .descriptorFetch 65536 none,
      .retentionExpire 65536 0, .retentionExpire 0 (2 ^ 32), .functionLevelReset 0 256, .nop ⟨65536, dOk⟩, .districtEraseProceed 1024,
      .translationDrainDone 65536 0, .directorySearchDone 0 (2 ^ 32), .strengthPageDone 1024, .renumberDone 1024] : List Instr).all
      (fun i => !i.wf) = true := by decide

theorem test_wf_operands_of_memory :
    ([.readShared 0 { rOk with src := 65536 }, .atomicAnyNear 0 256 rOk, .crRead 0 false { rOk with tag := 65536 }, .registrationExpired (2 ^ 15) 0 0,
      .registrationExpired 0 65536 0, .registrationExpired 0 0 65536, .recallAck 0 ⟨65536, 0, 0, 0, 0, 0⟩, .recallTimeout (2 ^ 47) 0,
      .recallTimeout 0 65536, .recallallTimeout 0 1024 0, .recallallTimeout 0 0 65536, .wbwTimeout (2 ^ 47) 0, .earlyDecision 0 65536 0 true,
      .earlyDecision 0 0 65536 true, .earlyDeadline 0 65536 0, .mirrorConfirm (2 ^ 47), .snoopLapDone (2 ^ 47), .unexpectedMessage 0 256 0 0 0,
      .unexpectedMessage 0 0 65536 0 0, .unexpectedMessage 0 0 0 16 0, .unexpectedMessage 0 0 0 0 9, .messageForward 0 { msg9 with vc := 9 },
      .requestHeldTimeout 0 65536 0, .cowSweepDone 1024 0, .cowSweepDone 0 8, .cowChunksDone 1024 0, .cowMapInvalidated 0 (2 ^ 36),
      .cowCopyRestart 1024 0, .copyPageReturn 0 8, .copyDemote 1024, .copySpaceFreed 1024, .refsbDue 0 16 0 0 true, .refsbDue 0 0 2 0 true,
      .refsbDue 0 0 0 32 true, .rfmIssue 0 16 0 0, .dramReadDone (2 ^ 47) 0, .dramReadDone 0 12, .pageQuiesced (2 ^ 40),
      .parityDelta 0 64 0, .scrubLine 0 0 12, .nvmeReadDone 0 65536 true] : List Instr).all (fun i => !i.wf) = true := by decide

end WellFormed

/-! ### Worked examples and constants of the spec, and small steps -/

namespace Checks

/-- The masks of R18's example, and those of the DRAM map's example (R263). -/
def rEx : Regs := { up.regs with act := [(0x10100, 0x2001001), (0x10108, 0x4002002), (0x10110, 0x8004004), (0x10120, 0x11001), (0x10124, 0x22002),
  (0x10128, 0x44004), (0x1012C, 0x88008), (0x10130, 0x110010), (0x10134, 0x220020), (0x10138, 0x440040)] }

/-- R18 to R20, worked example: PA 0xA300D40 has home 6 and local address 0x1460140, and the masks pass the lock's check. -/
theorem test_home_of_example : rEx.home 0xA300D40 = 6 ∧ localAddr 0xA300D40 = 0x1460140 ∧ rEx.hashOk = true := by decide +kernel

/-- R262 to R263, worked example: DC12, sub-channel A, bank group 5, bank 0, column 784, rank 0, row 5. -/
theorem test_dram_place_of_example : rEx.chanOf (0xA300D40 / 64) = 12 ∧ rEx.scOf (0xA300D40 / 64) = 0 ∧ rEx.bgOf 0x1460140 = 5 ∧
    rEx.baOf 0x1460140 = 0 ∧ colOf 0x1460140 * 16 = 784 ∧ rankOf ⟨12, true, 256, 3, 1, 2, 1⟩ 0x1460140 = 0 ∧
    rowOf ⟨12, true, 256, 3, 1, 2, 1⟩ 0x1460140 = 5 := by decide +kernel

/-- The same address under the reset masks (R263): DC13, bank group 0, bank 0. -/
theorem test_dram_place_at_reset : State.reset.regs.mapped 0 0x1460140 = 1 ∧ State.reset.regs.mapped 1 0x1460140 = 0 ∧
    State.reset.regs.bgOf 0x1460140 = 0 ∧ State.reset.regs.baOf 0x1460140 = 0 := by decide +kernel

/-- R315: page 0x10005 of an EC group is in stripe 8,192, on LBA 8,192 of member 7, with its parity on members 0 and 1. -/
theorem test_flash_place_of_example :
    (⟨2, List.replicate 10 ⟨0, true⟩, 0, 0, 0, 0, 0, [], none⟩ : Group).writePlan 0x10005 = [(7, 8192), (0, 8192), (1, 8192)] := by decide +kernel

/-- R208 to R219, worked example of an MXFP4 block with an outlier: the contribution is 20.5. -/
theorem test_block_of_example :
    (contribution true ((List.range 32).map fun i => Dy.ofInt (if i = 0 then 10 else if i = 1 then -4 else if i = 5 then 3 else
        if i = 9 then -7 else if i = 20 then 2 else 0))
      (blockOf (-127) 127 1 (0xB2 + 0x70 * 2 ^ 16 + 4 * 16 ^ 9) 0x7C 0 false [(20, ⟨9, 0⟩)])).1 = 0x41A40000 := by decide +kernel

/-- R499, worked example: one period of Districts 17 and 40. -/
theorem test_allocation_of_example :
    divide 1 [(17, ⟨1, 0, 0, 15625000, 937500000, 30000000, 2000000000, 26843545600⟩),
      (40, ⟨1, 5000000, 0, 0, 400000000, 10000000, 1000000000, 13421772800⟩)] 100 1073741824 285000000 0 =
      [(0, 0, 163647970), (17, 18891250, 65459187), (40, 4272000, 32729593)] := by decide +kernel

/-- The plan of the worked example in the chapter on Fabric Time: channel 6's window after 5,000,000,000 opens at 5,000,003,584 (R55). -/
theorem test_window_of_example :
    ({ up with time := { up.time with active := some ⟨1, 0, 12, false, 0, 1, [], [(6, 3072 + 2 * 2 ^ 16 + 2 ^ 24),
      (14, 3072 + 2 * 2 ^ 16 + 2 ^ 20 + 2 ^ 24)], []⟩ } } : State).nextWindow 6 5000000000 = some 5000003584 := by decide

/-- R25, worked example: 4 TiB installed give a depot of 5,220 MiB, which is 1,336,320 pages. -/
theorem test_depot_of_example : ({ up with dram := { up.dram with geom := ⟨0, true, 256, 3, 1, 2, 1⟩ } } : State).depotPages = 1336320 := by decide

/-- An empty queue idles for a nanosecond, and the command at the front runs with the rest of the queue. -/
theorem test_step_idles : (match step State.reset with | .next t => decide (t.clock = 1 ∧ t.pending = []) | _ => false) = true := by decide
theorem test_step_takes_the_front :
    (match step { up with pending := [.nop (cmd 0xFF 0), .configCrcUpdate] } with
      | .next t => decide (t.pending = [.configCrcUpdate]) && t.out.any (fun o => match o with | .record 0 _ _ r => r.status == 0 | _ => false)
      | _ => false) = true := by decide

/-- No word spells a command: the opcode table gives no bits. -/
theorem test_no_word : decodeTableWord 32 0xFF = none ∧ (State.reset.withFetchWord 32 0xFF).pending = [] := by decide

end Checks

end Sys2Proof.Tests
end

section
/-! Every command completes, and changes only its part of the state. -/

namespace Sys2Proof.Proofs

open Sys2Proof Sys2Proof.Machine Sys2Proof.Claims

/-- The parts of the state, in the order of its fields. -/
def parts : List Part :=
  [.free, .clock, .out, .regs, .host, .time, .maps, .mem, .coh, .boot, .avail, .sec, .net, .ms, .cr, .prot, .dram, .flash, .eng, .pwr, .isl]

theorem mem_parts (p : Part) : p ∈ parts := by cases p <;> decide

/-- The parts of a list that are not written: each written part is dropped as it is met, in the order that `writes` has. -/
def unwritten : List Part → List Part → List Part
  | [], _ => []
  | p :: ps, [] => p :: ps
  | p :: ps, w :: ws => if p = w then unwritten ps ws else p :: unwritten ps (w :: ws)

theorem mem_unwritten {p : Part} : ∀ {ps ws : List Part}, p ∈ ps → p ∉ ws → p ∈ unwritten ps ws
  | q :: ps, [], hp, _ => hp
  | q :: ps, w :: ws, hp, hw => by
    obtain ⟨hpw, hws⟩ := not_or.1 (List.mem_cons.not.1 hw)
    rw [unwritten]
    split
    case isTrue hq =>
      rcases List.mem_cons.1 hp with rfl | hp
      · exact absurd hq hpw
      · exact mem_unwritten hp hws
    case isFalse =>
      rcases List.mem_cons.1 hp with rfl | hp
      · exact List.mem_cons_self
      · exact List.mem_cons_of_mem _ (mem_unwritten hp hw)

/-- Each part of a list is unchanged. -/
def AllKept (s t : State) : List Part → Prop
  | [] => True
  | [p] => Kept s t p
  | p :: q :: ps => Kept s t p ∧ AllKept s t (q :: ps)

theorem allKept_cons {s t : State} {p : Part} {ps : List Part} : AllKept s t (p :: ps) ↔ Kept s t p ∧ AllKept s t ps := by
  cases ps with
  | nil => exact (and_iff_left trivial).symm
  | cons q ps => exact Iff.rfl

theorem kept_of_allKept {s t : State} {p : Part} : ∀ {ps : List Part}, AllKept s t ps → p ∈ ps → Kept s t p
  | q :: ps, h, hp => by
    obtain ⟨hq, hps⟩ := allKept_cons.1 h
    rcases List.mem_cons.1 hp with rfl | hp
    · exact hq
    · exact kept_of_allKept hps hp

/-- A reset of the chip keeps the metering island and the model's own fields, the queue among them (R533). -/
theorem execChipResetAssert_frame (s : State) : ∃ t, execChipResetAssert s = .next t ∧
    t.pending = s.pending ∧ t.free = s.free ∧ t.out = s.out ∧ t.isl = s.isl := ⟨_, rfl, rfl, rfl, rfl, rfl⟩

theorem execChipResetRelease_frame (scaOk scbOk : Bool) (s : State) : ∃ t, execChipResetRelease scaOk scbOk s = .next t ∧
    t.pending = s.pending ∧ t.free = s.free ∧ t.out = s.out ∧ t.isl = s.isl := by
  refine ⟨_, rfl, ?_⟩
  split
  · exact ⟨rfl, rfl, rfl, rfl⟩
  · exact ⟨rfl, rfl, rfl, rfl⟩

theorem execSysClkLoss_frame (s : State) : ∃ t, execSysClkLoss s = .next t ∧
    t.pending = s.pending ∧ t.free = s.free ∧ t.out = s.out ∧ t.isl = s.isl := ⟨_, rfl, rfl, rfl, rfl, rfl⟩

/-- Each command's frame, read off its own lemma of Laws/Commands: the parts that `writes` does not name. -/
theorem exec_keeps (i : Instr) (s : State) : ∃ t, exec i s = .next t ∧ t.pending = s.pending ∧ AllKept s t (unwritten parts (writes i)) := by
  cases i with
  | registerWrite port fn off size val => exact execRegisterWrite_frame port fn off size val s
  | pairValueWrite port off val => exact execPairValueWrite_frame port off val s
  | pairComplementWrite port off val => exact execPairComplementWrite_frame port off val s
  | pairGuardTimeout port => exact execPairGuardTimeout_frame port s
  | hashLock port val => exact execHashLock_frame port val s
  | dmapLock port val => exact execDmapLock_frame port val s
  | tokenClaim port => exact execTokenClaim_frame port s
  | tokenRelease port => exact execTokenRelease_frame port s
  | tokenForce port => exact execTokenForce_frame port s
  | configCrcUpdate => exact execConfigCrcUpdate_frame s
  | avConfigApply av => exact execAvConfigApply_frame av s
  | dcArbCommit port share val => exact execDcArbCommit_frame port share val s
  | rtCommit port val => exact execRtCommit_frame port val s
  | hwmClr port val => exact execHwmClr_frame port val s
  | nodeIdWrite port val => exact execNodeIdWrite_frame port val s
  | ringEnable port fn k val => exact execRingEnable_frame port fn k val s
  | ringDrain port fn k val => exact execRingDrain_frame port fn k val s
  | ringDrained ring => exact execRingDrained_frame ring s
  | noticeRingEnable port fn val => exact execNoticeRingEnable_frame port fn val s
  | jlPortEnable port jl val => exact execJlPortEnable_frame port jl val s
  | jlRetrainRequest port jl val => exact execJlRetrainRequest_frame port jl val s
  | flipArm port ch val => exact execFlipArm_frame port ch val s
  | zeroiseArm port val => exact execZeroiseArm_frame port val s
  | zeroiseArmExpiry => exact execZeroiseArmExpiry_frame s
  | bootGo port val => exact execBootGo_frame port val s
  | bootLoadDone res => exact execBootLoadDone_frame res s
  | fwStartDone res => exact execFwStartDone_frame res s
  | commandTailDoorbell port fn r size val => exact execCommandTailDoorbell_frame port fn r size val s
  | completionHeadDoorbell port fn r size val => exact execCompletionHeadDoorbell_frame port fn r size val s
  | noticeHeadDoorbell port fn size val => exact execNoticeHeadDoorbell_frame port fn size val s
  | noticeClaimRead port fn => exact execNoticeClaimRead_frame port fn s
  | noticeCompletionWrite port fn size val => exact execNoticeCompletionWrite_frame port fn size val s
  | shadowTailSweep ring read => exact execShadowTailSweep_frame ring read s
  | descriptorFetch ring read => exact execDescriptorFetch_frame ring read s
  | retentionExpire issuer cmdId => exact execRetentionExpire_frame issuer cmdId s
  | functionLevelReset port fn => exact execFunctionLevelReset_frame port fn s
  | hostPerst port => exact execHostPerst_frame port s
  | hostLinkDown port => exact execHostLinkDown_frame port s
  | districtCreate c => exact execDistrictCreate_frame c s
  | districtErase c => exact execDistrictErase_frame c s
  | districtEraseProceed district => exact execDistrictEraseProceed_frame district s
  | districtQuery c => exact execDistrictQuery_frame c s
  | windowMap c => exact execWindowMap_frame c s
  | translationDrainDone ring cmdId => exact execTranslationDrainDone_frame ring cmdId s
  | directorySearchDone ring cmdId => exact execDirectorySearchDone_frame ring cmdId s
  | memMap c => exact execMemMap_frame c s
  | memUnmap c => exact execMemUnmap_frame c s
  | districtStrength c => exact execDistrictStrength_frame c s
  | strengthPageDone district => exact execStrengthPageDone_frame district s
  | districtLimits c => exact execDistrictLimits_frame c s
  | windowQuery c => exact execWindowQuery_frame c s
  | accRingCreate c => exact execAccRingCreate_frame c s
  | accRingDestroy c => exact execAccRingDestroy_frame c s
  | districtReown c => exact execDistrictReown_frame c s
  | milestoneCut c => exact execMilestoneCut_frame c s
  | milestoneOpen c => exact execMilestoneOpen_frame c s
  | milestoneClose c => exact execMilestoneClose_frame c s
  | milestoneRelease c => exact execMilestoneRelease_frame c s
  | milestoneRenumber c => exact execMilestoneRenumber_frame c s
  | renumberDone district => exact execRenumberDone_frame district s
  | milestoneQuery c => exact execMilestoneQuery_frame c s
  | crossingCreate c => exact execCrossingCreate_frame c s
  | crossingDestroy c => exact execCrossingDestroy_frame c s
  | crossingReset c => exact execCrossingReset_frame c s
  | crossingQuery c => exact execCrossingQuery_frame c s
  | opFill c => exact execOpFill_frame c s
  | opCopy c => exact execOpCopy_frame c s
  | opCompare c => exact execOpCompare_frame c s
  | opReduce c => exact execOpReduce_frame c s
  | opGather c => exact execOpGather_frame c s
  | opScatter c => exact execOpScatter_frame c s
  | opHostCopy c => exact execOpHostCopy_frame c s
  | opGemv c => exact execOpGemv_frame c s
  | opAttend c => exact execOpAttend_frame c s
  | opKvAppend c => exact execOpKvAppend_frame c s
  | opQuant c => exact execOpQuant_frame c s
  | opDequant c => exact execOpDequant_frame c s
  | jobAbort c => exact execJobAbort_frame c s
  | tierPromote c => exact execTierPromote_frame c s
  | tierDemote c => exact execTierDemote_frame c s
  | tierPin c => exact execTierPin_frame c s
  | flashGroupCreate c => exact execFlashGroupCreate_frame c s
  | flashGroupDestroy c => exact execFlashGroupDestroy_frame c s
  | slotPower c => exact execSlotPower_frame c s
  | ssdReplace c => exact execSsdReplace_frame c s
  | tierQuery c => exact execTierQuery_frame c s
  | avenueRetire c => exact execAvenueRetire_frame c s
  | avenueAdmit c => exact execAvenueAdmit_frame c s
  | memRetire c => exact execMemRetire_frame c s
  | errlogRead c => exact execErrlogRead_frame c s
  | nodeUnfence c => exact execNodeUnfence_frame c s
  | roleSwap c => exact execRoleSwap_frame c s
  | healthRead c => exact execHealthRead_frame c s
  | fwStage c => exact execFwStage_frame c s
  | fwRoll c => exact execFwRoll_frame c s
  | rollSpareReady passed => exact execRollSpareReady_frame passed s
  | planLoad c => exact execPlanLoad_frame c s
  | planActivate c => exact execPlanActivate_frame c s
  | planDiscard c => exact execPlanDiscard_frame c s
  | timeSet c => exact execTimeSet_frame c s
  | timeSetTimeout => exact execTimeSetTimeout_frame s
  | eventSchedule c => exact execEventSchedule_frame c s
  | eventCancel c => exact execEventCancel_frame c s
  | powerCap c => exact execPowerCap_frame c s
  | powerProfile c => exact execPowerProfile_frame c s
  | powerQuery c => exact execPowerQuery_frame c s
  | energyRead c => exact execEnergyRead_frame c s
  | keyInstall c => exact execKeyInstall_frame c s
  | keyZeroise c => exact execKeyZeroise_frame c s
  | spdmRelay c => exact execSpdmRelay_frame c s
  | modelLoad c => exact execModelLoad_frame c s
  | linkKeyStage c => exact execLinkKeyStage_frame c s
  | bounceSet c => exact execBounceSet_frame c s
  | survey c => exact execSurvey_frame c s
  | nop c => exact execNop_frame c s
  | readShared port r => exact execReadShared_frame port r s
  | readOwn port r => exact execReadOwn_frame port r s
  | readOnce port r => exact execReadOnce_frame port r s
  | readGather port r => exact execReadGather_frame port r s
  | writeLine port r => exact execWriteLine_frame port r s
  | writeBack port r => exact execWriteBack_frame port r s
  | writebackTrackerGrant share => exact execWritebackTrackerGrant_frame share s
  | atomicAdd port r => exact execAtomicAdd_frame port r s
  | atomicAnd port r => exact execAtomicAnd_frame port r s
  | atomicOr port r => exact execAtomicOr_frame port r s
  | atomicXor port r => exact execAtomicXor_frame port r s
  | atomicSmax port r => exact execAtomicSmax_frame port r s
  | atomicSmin port r => exact execAtomicSmin_frame port r s
  | atomicUmax port r => exact execAtomicUmax_frame port r s
  | atomicUmin port r => exact execAtomicUmin_frame port r s
  | atomicSwap port r => exact execAtomicSwap_frame port r s
  | atomicCas port r => exact execAtomicCas_frame port r s
  | atomicAnyNear port atop r => exact execAtomicAnyNear_frame port atop r s
  | crRead port any r => exact execCrRead_frame port any r s
  | semRelease port any r => exact execSemRelease_frame port any r s
  | semAcquire port any r => exact execSemAcquire_frame port any r s
  | semWait port any r => exact execSemWait_frame port any r s
  | jctArrive port any r => exact execJctArrive_frame port any r s
  | jctWait port any r => exact execJctWait_frame port any r s
  | flagSet port any r => exact execFlagSet_frame port any r s
  | flagOr port any r => exact execFlagOr_frame port any r s
  | flagClear port any r => exact execFlagClear_frame port any r s
  | flagWait port any r => exact execFlagWait_frame port any r s
  | tktTake port any r => exact execTktTake_frame port any r s
  | tktRelease port any r => exact execTktRelease_frame port any r s
  | tktWait port any r => exact execTktWait_frame port any r s
  | crUnwait port any r => exact execCrUnwait_frame port any r s
  | registrationExpired crossing node cookie => exact execRegistrationExpired_frame crossing node cookie s
  | recallAck port m => exact execRecallAck_frame port m s
  | recallData port m => exact execRecallData_frame port m s
  | recallTimeout line node => exact execRecallTimeout_frame line node s
  | recallallTimeout share district node => exact execRecallallTimeout_frame share district node s
  | wbwTimeout line node => exact execWbwTimeout_frame line node s
  | earlyDecision port src tag dataError => exact execEarlyDecision_frame port src tag dataError s
  | earlyDeadline port src tag => exact execEarlyDeadline_frame port src tag s
  | mirrorConfirm line => exact execMirrorConfirm_frame line s
  | snoopLapDone line => exact execSnoopLapDone_frame line s
  | predictorDecay share => exact execPredictorDecay_frame share s
  | unexpectedMessage port byte0 src cells vc => exact execUnexpectedMessage_frame port byte0 src cells vc s
  | messageForward port m => exact execMessageForward_frame port m s
  | requestHeldTimeout port src tag => exact execRequestHeldTimeout_frame port src tag s
  | cowSweepDone district slot => exact execCowSweepDone_frame district slot s
  | cowChunksDone district page => exact execCowChunksDone_frame district page s
  | cowMapInvalidated district page => exact execCowMapInvalidated_frame district page s
  | cowCopyRestart district page => exact execCowCopyRestart_frame district page s
  | copyPageReturn district slot => exact execCopyPageReturn_frame district slot s
  | copyDemote district => exact execCopyDemote_frame district s
  | copySpaceFreed district => exact execCopySpaceFreed_frame district s
  | schedulerPass => exact execSchedulerPass_frame s
  | engineWakeDone av eng => exact execEngineWakeDone_frame av eng s
  | activationLoadDone job => exact execActivationLoadDone_frame job s
  | engineReadData job share => exact execEngineReadData_frame job share s
  | rowGroupDone job share eng => exact execRowGroupDone_frame job share eng s
  | partialSumArrive job share => exact execPartialSumArrive_frame job share s
  | jobCommitStart job bad => exact execJobCommitStart_frame job bad s
  | jobCommitDone job => exact execJobCommitDone_frame job s
  | engineScrubDone av eng => exact execEngineScrubDone_frame av eng s
  | engineCheckFail av eng => exact execEngineCheckFail_frame av eng s
  | ageingCheck av eng low => exact execAgeingCheck_frame av eng low s
  | dramTrainingDone results => exact execDramTrainingDone_frame results s
  | memInitStart => exact execMemInitStart_frame s
  | memInitDone => exact execMemInitDone_frame s
  | depotBuildDone => exact execDepotBuildDone_frame s
  | refsbDue ch rank sc bank issue => exact execRefsbDue_frame ch rank sc bank issue s
  | rfmIssue ch rank sc bank => exact execRfmIssue_frame ch rank sc bank s
  | dimmTempPoll ch celsius => exact execDimmTempPoll_frame ch celsius s
  | writeAgeDrain ch => exact execWriteAgeDrain_frame ch s
  | roadworksWindowOpen ch => exact execRoadworksWindowOpen_frame ch s
  | roadworksPauseEnd ch corr => exact execRoadworksPauseEnd_frame ch corr s
  | arbCreditPeriod share => exact execArbCreditPeriod_frame share s
  | arbGrantEnd share => exact execArbGrantEnd_frame share s
  | dramReadDone line bad => exact execDramReadDone_frame line bad s
  | pageQuiesced frame => exact execPageQuiesced_frame frame s
  | reconstructDone frame failed syndrome depot => exact execReconstructDone_frame frame failed syndrome depot s
  | parityDelta frame par line => exact execParityDelta_frame frame par line s
  | parityRmwDone frame par bad => exact execParityRmwDone_frame frame par bad s
  | parityReencode frame par bad => exact execParityReencode_frame frame par bad s
  | scrubLine share line bad => exact execScrubLine_frame share line bad s
  | scrubLapWarn share => exact execScrubLapWarn_frame share s
  | channelFailed ch => exact execChannelFailed_frame ch s
  | evacSliceDone ch => exact execEvacSliceDone_frame ch s
  | nvmeReadDone slot cid pi => exact execNvmeReadDone_frame slot cid pi s
  | fillDone district page => exact execFillDone_frame district page s
  | demotionStart district => exact execDemotionStart_frame district s
  | nvmeWriteDone slot cid => exact execNvmeWriteDone_frame slot cid s
  | nvmeCmdTimeout slot cid => exact execNvmeCmdTimeout_frame slot cid s
  | nvmeAbortTimeout slot cid => exact execNvmeAbortTimeout_frame slot cid s
  | nvmeResetTimeout slot => exact execNvmeResetTimeout_frame slot s
  | nvmeErrorCompletion slot cid media => exact execNvmeErrorCompletion_frame slot cid media s
  | ssdRebuildStep group => exact execSsdRebuildStep_frame group s
  | slotPresenceChange slot present => exact execSlotPresenceChange_frame slot present s
  | slotInrushTurn => exact execSlotInrushTurn_frame s
  | slotPgAssert slot => exact execSlotPgAssert_frame slot s
  | slotInrushTimeout slot => exact execSlotInrushTimeout_frame slot s
  | slotPerstRelease slot => exact execSlotPerstRelease_frame slot s
  | slotLinkUp slot width rate lbas usable => exact execSlotLinkUp_frame slot width rate lbas usable s
  | slotFault slot => exact execSlotFault_frame slot s
  | slotRetryTimer slot => exact execSlotRetryTimer_frame slot s
  | railDroopAssert => exact execRailDroopAssert_frame s
  | railDroopClear => exact execRailDroopClear_frame s
  | droopResume => exact execDroopResume_frame s
  | droopLong => exact execDroopLong_frame s
  | jlPartnerDetect jl => exact execJlPartnerDetect_frame jl s
  | jlEqualizeDone jl lanes => exact execJlEqualizeDone_frame jl lanes s
  | jlAlignDone jl => exact execJlAlignDone_frame jl s
  | jlParamReceive jl p => exact execJlParamReceive_frame jl p s
  | jlDownRetry jl => exact execJlDownRetry_frame jl s
  | flitReceive jl f => exact execFlitReceive_frame jl f s
  | flitBuild jl => exact execFlitBuild_frame jl s
  | replayRequestReceive jl fromSeq => exact execReplayRequestReceive_frame jl fromSeq s
  | replayTimeout jl => exact execReplayTimeout_frame jl s
  | creditMessage jl credits => exact execCreditMessage_frame jl credits s
  | rekeyMessage jl fromSeq => exact execRekeyMessage_frame jl fromSeq s
  | retrainDone jl lanes => exact execRetrainDone_frame jl lanes s
  | retrainTimeout jl => exact execRetrainTimeout_frame jl s
  | escapeWaitTimeout jl idx => exact execEscapeWaitTimeout_frame jl idx s
  | bypassDropTimeout jl idx => exact execBypassDropTimeout_frame jl idx s
  | escapeHoldTimeout idx => exact execEscapeHoldTimeout_frame idx s
  | meterRelease jl idx => exact execMeterRelease_frame jl idx s
  | timerefPpsEdge dt => exact execTimerefPpsEdge_frame dt s
  | ppsEdgeMissed => exact execPpsEdgeMissed_frame s
  | timeref10mLoss => exact execTimeref10mLoss_frame s
  | bmcTimeCount count => exact execBmcTimeCount_frame count s
  | timeMsgSend => exact execTimeMsgSend_frame s
  | timeMsgReceive jl m => exact execTimeMsgReceive_frame jl m s
  | acquireLockTimer => exact execAcquireLockTimer_frame s
  | lockOffsetTimer => exact execLockOffsetTimer_frame s
  | holdoverExpiry => exact execHoldoverExpiry_frame s
  | planResume => exact execPlanResume_frame s
  | eventInstant instant => exact execEventInstant_frame instant s
  | roleSwapDone pair => exact execRoleSwapDone_frame pair s
  | handoverDirCopyDone => exact execHandoverDirCopyDone_frame s
  | handoverDrainStart => exact execHandoverDrainStart_frame s
  | handoverLedgerClose => exact execHandoverLedgerClose_frame s
  | handoverSwitch => exact execHandoverSwitch_frame s
  | handoverReopen => exact execHandoverReopen_frame s
  | powerEstimateTick raw => exact execPowerEstimateTick_frame raw s
  | calibrationTick => exact execCalibrationTick_frame s
  | regulatorPoll answers => exact execRegulatorPoll_frame answers s
  | fastPowerLimit => exact execFastPowerLimit_frame s
  | fastLimitRelease => exact execFastLimitRelease_frame s
  | junctionTrip av => exact execJunctionTrip_frame av s
  | junctionTripRelease av => exact execJunctionTripRelease_frame av s
  | thermalStep tj => exact execThermalStep_frame tj s
  | neighbourLimit av other volt temp => exact execNeighbourLimit_frame av other volt temp s
  | neighbourDrain av other inLimits => exact execNeighbourDrain_frame av other inLimits s
  | tavgSample av tj => exact execTavgSample_frame av tj s
  | tschedHourly => exact execTschedHourly_frame s
  | hintPrewake job => exact execHintPrewake_frame job s
  | prewakeExpiry ring => exact execPrewakeExpiry_frame ring s
  | vddDroopStretch av => exact execVddDroopStretch_frame av s
  | avenueCheckpoint av => exact execAvenueCheckpoint_frame av s
  | coreCheckpoint pair => exact execCoreCheckpoint_frame pair s
  | standbySelfTest pair passed => exact execStandbySelfTest_frame pair passed s
  | coreWatchdog pair => exact execCoreWatchdog_frame pair s
  | avenueFailed av => exact execAvenueFailed_frame av s
  | spareConnect share => exact execSpareConnect_frame share s
  | spareLoadDone share => exact execSpareLoadDone_frame share s
  | shareReopen share => exact execShareReopen_frame share s
  | refreshKeeperTakeover share => exact execRefreshKeeperTakeover_frame share s
  | selfTestLapStart av => exact execSelfTestLapStart_frame av s
  | selfTestSegmentDone av segment passed last => exact execSelfTestSegmentDone_frame av segment passed last s
  | spdmGetVersion t => exact execSpdmGetVersion_frame t s
  | spdmGetCapabilities t => exact execSpdmGetCapabilities_frame t s
  | spdmNegotiateAlgorithms t offered => exact execSpdmNegotiateAlgorithms_frame t offered s
  | spdmGetDigests t => exact execSpdmGetDigests_frame t s
  | spdmGetCertificate t slot offset length => exact execSpdmGetCertificate_frame t slot offset length s
  | spdmChallenge t slot nonce => exact execSpdmChallenge_frame t slot nonce s
  | spdmGetMeasurements t op nonce sign => exact execSpdmGetMeasurements_frame t op nonce sign s
  | spdmKeyExchange t share => exact execSpdmKeyExchange_frame t share s
  | spdmFinish t session ok => exact execSpdmFinish_frame t session ok s
  | spdmHeartbeat t session => exact execSpdmHeartbeat_frame t session s
  | spdmKeyUpdate t session => exact execSpdmKeyUpdate_frame t session s
  | spdmEndSession t session => exact execSpdmEndSession_frame t session s
  | spdmHeartbeatTimeout session => exact execSpdmHeartbeatTimeout_frame session s
  | ideKmMessage port session stream op key => exact execIdeKmMessage_frame port session stream op key s
  | tdispMessage port session fn op => exact execTdispMessage_frame port session fn op s
  | entropyFail => exact execEntropyFail_frame s
  | mctpControl cmd arg => exact execMctpControl_frame cmd arg s
  | pldmBase cmd => exact execPldmBase_frame cmd s
  | pldmMonitor sensor => exact execPldmMonitor_frame sensor s
  | pldmFwUpdate b => exact execPldmFwUpdate_frame b s
  | prgResponse dma code => exact execPrgResponse_frame dma code s
  | priTimeout dma => exact execPriTimeout_frame dma s
  | atsInvalidate port fn page => exact execAtsInvalidate_frame port fn page s
  | chipResetAssert => exact execChipResetAssert_frame s
  | chipResetRelease scaOk scbOk => exact execChipResetRelease_frame scaOk scbOk s
  | sysClkLoss => exact execSysClkLoss_frame s
  | jlRefclkLoss q => exact execJlRefclkLoss_frame q s
  | islandStart store => exact execIslandStart_frame store s
  | islandBrownOut => exact execIslandBrownOut_frame s
  | tapUpdate s0 s1 => exact execTapUpdate_frame s0 s1 s
  | meteringPeriodEnd => exact execMeteringPeriodEnd_frame s
  | activityFrameSend => exact execActivityFrameSend_frame s
  | activityFrameReceive f => exact execActivityFrameReceive_frame f s
  | pipeLost => exact execPipeLost_frame s
  | tamperChange asserted => exact execTamperChange_frame asserted s
  | crystalFault => exact execCrystalFault_frame s
  | otpProgram data progEn => exact execOtpProgram_frame data progEn s
  | historySelect sel => exact execHistorySelect_frame sel s
  | atsTranslationCompletion dma granted => exact execAtsTranslationCompletion_frame dma granted s
  | hostDmaPageDone dma data => exact execHostDmaPageDone_frame dma data s
  | nvmeControllerReady slot => exact execNvmeControllerReady_frame slot s
  | ssdLinkDown slot => exact execSsdLinkDown_frame slot s
  | offEngineTest av eng done passed => exact execOffEngineTest_frame av eng done passed s
  | postponedRoleSwap pair => exact execPostponedRoleSwap_frame pair s
  | channelRestoreDone ch ok => exact execChannelRestoreDone_frame ch ok s
  | mtrRstNAssert => exact execMtrRstNAssert_frame s

/-- Settles O55: every command's frame lemma names every part outside `writes`. -/
theorem commandFrames : Obligations.CommandFrames := by
  intro i s
  obtain ⟨t, hexec, hpending, hkept⟩ := exec_keeps i s
  refine ⟨t, hexec, hpending, fun p hp => kept_of_allKept hkept (mem_unwritten (mem_parts p) hp)⟩

end Sys2Proof.Proofs
end

section
/-! A notice leaves the control token with its holder. -/

namespace Sys2Proof.Proofs

open Sys2Proof Sys2Proof.Machine

@[simp] theorem hostIf_token_ite (c : Prop) [Decidable c] (a b : HostIf) :
    (if c then a else b).token = if c then a.token else b.token := apply_ite HostIf.token c a b

@[simp] theorem token_emit (s : State) (o : Out) : (s.emit o).host.token = s.host.token := by simp [State.emit]

@[simp] theorem token_setNtc (s : State) (fn : Nat) (x : NoticeRing) : (s.setNtc fn x).host.token = s.host.token := rfl

@[simp] theorem token_writeNotice (s : State) (fn : Nat) (n : Notice) : (s.writeNotice fn n).host.token = s.host.token := by
  simp [State.writeNotice]

@[simp] theorem token_deliver (s : State) (fn : Nat) (n : Notice) : (s.deliver fn n).host.token = s.host.token := by
  simp [State.deliver]

@[simp] theorem token_holdNotice (s : State) (n : Notice) : (s.holdNotice n).host.token = s.host.token := by
  simp [State.holdNotice]

theorem token_deliver_all (n : Notice) (fns : List Nat) (s : State) :
    (fns.foldl (fun s fn => s.deliver fn n) s).host.token = s.host.token := by
  induction fns generalizing s with
  | nil => rfl
  | cons fn fns ih => exact (ih _).trans (token_deliver s fn n)

@[simp] theorem token_raiseRaw (s : State) (n : Notice) : (s.raiseRaw n).host.token = s.host.token := by
  simp [State.raiseRaw, token_deliver_all]

@[simp] theorem token_raise (s : State) (source cause data : Nat) (district : Option Nat) :
    (s.raise source cause data district).host.token = s.host.token := token_raiseRaw s _

@[simp] theorem token_ignore (s : State) (off : Nat) (val : Word) : (s.ignore off val).host.token = s.host.token := by
  simp [State.ignore, State.writeIgnored]

end Sys2Proof.Proofs
end

section
/-! What a write of a PF's BAR0 comes to, and what it stores in the set-up registers (R5, R7, R422, R423). -/

namespace Sys2Proof.Proofs

open Sys2Proof Sys2Proof.Machine Sys2Proof.Claims

/-- The set-up registers after a write to a register without a rule of its own: its value by the access classes, and a new quiet period
where a field of it is covered (R5, R433). -/
def storedRegs (s : State) (off : Nat) (r : RegD) (val : Word) : Regs :=
  let g := s.regs.set off (r.apply (s.regs.val off) val)
  if r.covered then { g with quietUntil := s.clock + 1000000 } else g

theorem storedRegs_val (s : State) (off : Nat) (r : RegD) (val : Word) (o : Nat) :
    (storedRegs s off r val).val o = if o = off then r.apply (s.regs.val off) val else s.regs.val o := by
  rw [← Regs.val_set, storedRegs]
  split <;> rfl

@[simp] theorem storedRegs_shadow (s : State) (off : Nat) (r : RegD) (val : Word) : (storedRegs s off r val).shadow = s.regs.shadow := by
  rw [storedRegs]
  split <;> rfl

@[simp] theorem storedRegs_cnt (s : State) (off : Nat) (r : RegD) (val : Word) : (storedRegs s off r val).cnt = s.regs.cnt := by
  rw [storedRegs]
  split <;> rfl

@[simp] theorem storedRegs_guards (s : State) (off : Nat) (r : RegD) (val : Word) : (storedRegs s off r val).guards = s.regs.guards := by
  rw [storedRegs]
  split <;> rfl

theorem afterWrite_of_plain {off : Nat} (s : State) (val : Word) (hp : Plain off) : s.afterWrite off val = s := by
  obtain ⟨-, -, -, -, -, hblocks, hlist, -⟩ := hp
  simp only [List.mem_cons, not_or] at hlist
  obtain ⟨-, h10, h18, h118, h13c, h40010, h140000, -⟩ := hlist
  have hdc : ¬(0x500000 ≤ off ∧ off < 0x600000 ∧ off % 0x10000 = 0x200) := by omega
  simp only [State.afterWrite, h10, h18, h118, h13c, h40010, h140000, hdc, or_self, if_false]

/-- A write in range to a register that is neither shadowed nor has a rule of its own stores its value and does nothing else. -/
theorem accept_of_plain {s : State} {off : Nat} {r : RegD} {val : Word} (port : Nat) (hp : Plain off) (hsh : r.shadowed = false)
    (hrange : r.rangeOk val = true) (hrel : r.relOk val = true) (hfrozen : s.frozen off val = false) :
    s.accept port off r val = { s with regs := storedRegs s off r val } := by
  have hafter := fun t : State => afterWrite_of_plain t val hp
  obtain ⟨-, hboot, -, -, hjl, hblocks, hlist, -⟩ := hp
  simp only [List.mem_cons, not_or] at hlist
  obtain ⟨htoken, -, -, -, -, -, -, hcommit, harm, -⟩ := hlist
  have hgo : off ≠ 0x4C := by omega
  have hav : ¬(0x200000 ≤ off ∧ off < 0x440000) := by omega
  have hjlctl : ¬(0x80000 ≤ off ∧ off < 0x140000 ∧ off % 0x10000 = 0) := by omega
  have harb : ¬(0x500000 ≤ off ∧ off < 0x600000 ∧ off % 0x10000 = 0x11C) := by omega
  simp only [State.accept, htoken, hsh, hrange, hrel, hfrozen, hgo, harm, hcommit, hjlctl, hav, harb, hafter, storedRegs, Bool.and_self,
    Bool.not_true, Bool.or_self, Bool.false_eq_true, if_false]
  split <;> rfl

/-- A write to a shadowed register, whatever its value: its pending value takes it, and a quiet period begins (R6, R433). -/
theorem accept_of_shadowed {off : Nat} {r : RegD} (s : State) (port : Nat) (val : Word) (hoff : off ≠ 0x10000) (hsh : r.shadowed = true) :
    s.accept port off r val = { s with regs := { s.regs with
      shadow := s.regs.shadow.put off (r.apply (s.regs.pendingVal off) val), quietUntil := s.clock + 1000000 } } := by
  simp only [State.accept, hoff, hsh, if_true, if_false]
  rfl

/-- A PF's write that finds its port free meets no guard. -/
theorem barWrite_of_portFree {s : State} {port : HPort} {fn off : Nat} (size : Nat) (val : Word) (hfree : PortFree s port off)
    (hfn : fn % 256 = 0) : s.barWrite port fn off size val =
      if size == 4 && off % 4 == 0 then s.pfWrite port off val none else s.ignore off val := by
  obtain ⟨hmute, -, hguard, hheld⟩ := hfree
  simp only [State.barWrite, hmute, fnKey_pf port fn hfn, isPf_port, State.takeHeld_of_none _ hheld, State.guarded, hguard, if_true,
    Bool.false_eq_true, if_false]

/-- Outside the boot, ring and notice registers a PF's write of a register of the tables needs the control token, and a PAIR register's
opens the port's guard (R7, R422). -/
theorem pfWrite_of_regAt {s : State} {off : Nat} {r : RegD} (port : Nat) (val : Word) (low : Option Word) (hready : s.boot.fwReady = true)
    (hcomp : companionOf off = false) (hboot : ¬(0x40 ≤ off ∧ off < 0x50)) (hring : ¬(0x20000 ≤ off ∧ off < 0x22010))
    (hntc : ¬(0x30000 ≤ off ∧ off < 0x3001C)) (hr : regAt off = some r) :
    s.pfWrite port off val low =
      if off ≠ 0x10000 ∧ s.host.token ≠ some port then s.ignore off val
      else if r.paired then { s with regs := { s.regs with guards := s.regs.guards.put port ⟨off, val, s.clock⟩ } }
      else s.accept port off r val := by
  have hnotBoot : isBoot off = false := by simpa [isBoot] using hboot
  have hring1 : ¬(0x20000 ≤ off ∧ off < 0x21000) := by omega
  have hring2 : ¬(0x22000 ≤ off ∧ off < 0x22010) := by omega
  simp only [State.pfWrite, hcomp, hnotBoot, hready, hring1, hring2, hntc, hr, Bool.not_true, Bool.false_eq_true, if_false]

/-- A PF without the control token changes no register and not the token itself, outside `CFG_TOKEN`, its rings and its notice ring
(R406, R422). -/
theorem pfWrite_of_not_holder {s : State} {off : Nat} {port : Nat} (val : Word) (low : Option Word) (hready : s.boot.fwReady = true)
    (htoken : s.host.token ≠ some port) (hoff : off ≠ 0x10000) (hboot : ¬(0x40 ≤ off ∧ off < 0x50))
    (hring : ¬(0x20000 ≤ off ∧ off < 0x22010)) (hntc : ¬(0x30000 ≤ off ∧ off < 0x3001C)) :
    s.pfWrite port off val low = s ∨ s.pfWrite port off val low = s.ignore off val := by
  cases hcomp : companionOf off with
  | true => exact .inr (by simp only [State.pfWrite, hcomp, if_true])
  | false =>
    cases hr : regAt off with
    | some r => exact .inr (by rw [pfWrite_of_regAt port val low hready hcomp hboot hring hntc hr, if_pos ⟨hoff, htoken⟩])
    | none =>
      have hnotBoot : isBoot off = false := by simpa [isBoot] using hboot
      have hring1 : ¬(0x20000 ≤ off ∧ off < 0x21000) := by omega
      have hring2 : ¬(0x22000 ≤ off ∧ off < 0x22010) := by omega
      simp only [State.pfWrite, hcomp, hnotBoot, hready, hring1, hring2, hntc, hr, Bool.not_true, Bool.false_eq_true, if_false]
      exact (em _).imp (if_pos ·) (if_neg ·)

/-- The pending value of a register after a write of the shadow at an offset. -/
theorem pendingVal_shadow_put (g : Regs) (off o : Nat) (v : Word) (q : Nat) :
    ({ g with shadow := g.shadow.put off v, quietUntil := q } : Regs).pendingVal o = if o = off then v else g.pendingVal o := by
  by_cases h : o = off <;> simp [Regs.pendingVal, Regs.val, Table.get_put, h]

end Sys2Proof.Proofs
end

section
/-! Register writes (R5, R6, R406, R422, R423, R569). -/

namespace Sys2Proof.Proofs

open Sys2Proof Sys2Proof.Machine Sys2Proof.Claims

/-- The token holder's 4-byte write, at a place where it has no rule of its own, reaches the register's access classes. -/
theorem barWrite_of_holder {s : State} {port : HPort} {fn off : Nat} {r : RegD} (val : Word) (hfree : PortFree s port off)
    (hfn : fn % 256 = 0) (htoken : s.host.token = some port.val) (h4 : off % 4 = 0) (hcomp : companionOf off = false)
    (hboot : ¬(0x40 ≤ off ∧ off < 0x50)) (hring : ¬(0x20000 ≤ off ∧ off < 0x22010)) (hntc : ¬(0x30000 ≤ off ∧ off < 0x3001C))
    (hr : regAt off = some r) :
    s.barWrite port fn off 4 val =
      if r.paired then { s with regs := { s.regs with guards := s.regs.guards.put port ⟨off, val, s.clock⟩ } }
      else s.accept port off r val := by
  obtain ⟨-, hready, -, -⟩ := id hfree
  rw [barWrite_of_portFree 4 val hfree hfn, if_pos (by simp [h4]),
    pfWrite_of_regAt port.val val none hready hcomp hboot hring hntc hr, if_neg (by simp [htoken])]

/-- Settles O1: a plain register stores its value, a shadowed one its pending value, and a port without the token nothing. -/
theorem registerWrites : Obligations.RegisterWrites := by
  refine ⟨?plain, ?shadowed, ?noToken⟩
  case plain =>
    intro s port fn off val r hfree hfn htoken hp hr hpair hsh hrange hrel hfrozen
    refine ⟨{ s with regs := storedRegs s off r val }, congrArg Host.Outcome.next ?_, ?_, fun o ho => ?_, ?_, ?_, rfl⟩
    · obtain ⟨h4, hboot, hring, hntc, -, -, -, hcomp⟩ := id hp
      rw [barWrite_of_holder val hfree hfn htoken h4 hcomp hboot hring hntc hr, if_neg (by simp [hpair]),
        accept_of_plain port.val hp hsh hrange hrel hfrozen]
    · exact (storedRegs_val s off r val off).trans (if_pos rfl)
    · exact (storedRegs_val s off r val o).trans (if_neg ho)
    · exact storedRegs_shadow s off r val
    · exact storedRegs_cnt s off r val
  case shadowed =>
    intro s port fn off val r hfree hfn htoken h4 hboot hring hntc hoff hcomp hr hpair hsh
    have hwrite : s.barWrite port fn off 4 val = s.accept port off r val := by
      rw [barWrite_of_holder val hfree hfn htoken h4 hcomp hboot hring hntc hr, if_neg (by simp [hpair])]
    refine ⟨_, congrArg Host.Outcome.next (hwrite.trans (accept_of_shadowed s port.val val hoff hsh)), ?_, fun o ho => ?_, rfl, rfl⟩
    · exact (pendingVal_shadow_put ..).trans (if_pos rfl)
    · exact (pendingVal_shadow_put ..).trans (if_neg ho)
  case noToken =>
    intro s port fn off val hfree hfn htoken hoff hboot hring hntc
    obtain ⟨-, hready, -, -⟩ := id hfree
    have hwrite : s.barWrite port fn off 4 val = s ∨ s.barWrite port fn off 4 val = s.ignore off val := by
      rw [barWrite_of_portFree 4 val hfree hfn]
      split
      · exact pfWrite_of_not_holder val none hready htoken hoff hboot hring hntc
      · exact .inr rfl
    refine ⟨_, rfl, ?_⟩
    rcases hwrite with h | h
    · simp only [h, and_self]
    · simp [h]

end Sys2Proof.Proofs
end

section
/-! The guard of a PAIR register (R7). -/

namespace Sys2Proof.Proofs

open Sys2Proof Sys2Proof.Machine Sys2Proof.Claims

/-- The state with a port's guard closed. -/
def closeGuard (s : State) (port : HPort) : State := { s with regs := { s.regs with guards := s.regs.guards.del port } }

/-- The complement of an open guard's value, written to the companion within 10 µs, closes the guard and hands the value on (R7). -/
theorem barWrite_of_complement {s : State} {port : HPort} {g : Guard} {r : RegD} (hmute : s.mute = false)
    (hheld : s.regs.held.get (heldKey (port.val * 256) ((g.off + 0x1000) / 0x10000)) = none) (hguard : s.regs.guards.get port = some g)
    (hclock : s.clock ≤ g.opened + 10000) (h4 : g.off % 4 = 0) (hr : regAt g.off = some r) :
    s.barWrite port 0 (g.off + 0x1000) 4 (~~~ g.val) =
      (closeGuard s port).accept port g.off r g.val := by
  have hshape : (4 == 4 && (g.off + 0x1000) % 4 == 0) = true := by simp; omega
  simp only [State.barWrite, hmute, fnKey_pf port 0 rfl, isPf_port, State.takeHeld_of_none _ hheld, State.guarded, hguard, hshape, hclock,
    hr, and_self, if_true, Bool.false_eq_true, if_false, closeGuard]

/-- A guard that fails is closed, and no register changes (R7). -/
theorem failGuard_regs {s : State} {port : HPort} {g : Guard} (hguard : s.regs.guards.get port = some g) :
    (s.failGuard port).regs = (closeGuard s port).regs := by
  simp [State.failGuard, hguard, closeGuard]

theorem passTo_clock_ge (s : State) (t : Nat) : t ≤ (s.passTo t).clock := by
  show t ≤ s.clock + (t - s.clock)
  omega

/-- Settles O2: the value write only opens the guard, its complement in time stores the value, and the expiry only closes the guard. -/
theorem pairGuard : Obligations.PairGuard := by
  refine ⟨?opens, ?completes, ?expires⟩
  case opens =>
    intro s port off val r hfree htoken hp hr hpair
    obtain ⟨h4, hboot, hring, hntc, -, -, -, hcomp⟩ := hp
    refine ⟨{ s with regs := { s.regs with guards := s.regs.guards.put port ⟨off, val, s.clock⟩ } }, congrArg Host.Outcome.next ?_, ?_, rfl,
      rfl⟩
    · rw [barWrite_of_holder val hfree rfl htoken h4 hcomp hboot hring hntc hr, if_pos hpair]
    · exact (Table.get_put ..).trans (if_pos rfl)
  case completes =>
    intro s port off val r g hmute _ hheld hguard hoff hval hclock hp hr hsh hrange hrel hfrozen
    subst hoff hval
    refine ⟨{ s with regs := storedRegs (closeGuard s port) g.off r g.val }, congrArg Host.Outcome.next ?_, ?_, fun o ho => ?_, ?_, rfl⟩
    · exact (barWrite_of_complement hmute hheld hguard hclock hp.1 hr).trans (accept_of_plain port.val hp hsh hrange hrel hfrozen)
    · exact (storedRegs_val (closeGuard s port) g.off r g.val g.off).trans (if_pos rfl)
    · exact (storedRegs_val (closeGuard s port) g.off r g.val o).trans (if_neg ho)
    · exact storedRegs_guards (closeGuard s port) g.off r g.val
  case expires =>
    intro s port g hguard
    have hregs : ((s.passTo (g.opened + 10000)).failGuard port).regs = (closeGuard s port).regs :=
      failGuard_regs hguard
    refine ⟨(s.passTo (g.opened + 10000)).failGuard port, ?_, congrArg Regs.guards hregs, (congrArg Regs.act hregs).trans rfl, ?_, by simp,
      by simp⟩
    · show execPairGuardTimeout port s = _
      simp only [execPairGuardTimeout, hguard]
    · simpa using passTo_clock_ge s (g.opened + 10000)

end Sys2Proof.Proofs
end

section
/-! The home share of an address and its local address (R18 to R20). -/

namespace Sys2Proof.Proofs

open Sys2Proof Sys2Proof.Machine Sys2Proof.Claims

theorem parityOf_succ (n v : Nat) : parityOf (n + 1) v = xor (v.testBit 0) (parityOf n (v / 2)) := by
  rw [parityOf, Nat.testBit_zero]
  rfl

/-- The parity of the lowest bits, taken from the lowest bit upwards. -/
theorem parityOf_eq_foldl (n v : Nat) : parityOf n v = (List.range n).foldl (fun p k => xor p (v.testBit k)) false := by
  have hlast : ∀ n v, parityOf (n + 1) v = xor (parityOf n v) (v.testBit n) := by
    intro n
    induction n with
    | zero => intro v; rw [parityOf_succ, parityOf, parityOf, Bool.xor_comm]
    | succ n ih => intro v; rw [parityOf_succ, ih, parityOf_succ n, Nat.testBit_succ, Bool.xor_assoc]
  induction n with
  | zero => rfl
  | succ n ih => rw [hlast, ih, List.range_succ, List.foldl_append]; rfl

/-- A mask without its lowest bits takes the parity of what lies above them. -/
theorem parityOf_and_shift (n j a w : Nat) : parityOf (n + j) (a &&& w * 2 ^ j) = parityOf n (a / 2 ^ j &&& w) := by
  induction j generalizing a with
  | zero => simp
  | succ j ih =>
    have hhalf : (a &&& w * 2 ^ (j + 1)) / 2 = a / 2 &&& w * 2 ^ j := by
      rw [Nat.and_div_two, Nat.pow_succ, ← Nat.mul_assoc, Nat.mul_div_cancel _ Nat.two_pos]
    rw [← Nat.add_assoc, parityOf_succ, hhalf, ih, Nat.div_div_eq_div_mul, ← Nat.pow_succ', Nat.testBit_and, Nat.testBit_mul_two_pow]
    simp

/-- The two words of a hash mask as one number: its bit k is for PA bit k + 8 (R18). -/
def hashWord (g : Regs) (i : Nat) : Nat := (g.val (0x10100 + 8 * i)).toNat + (g.val (0x10104 + 8 * i)).toNat * 2 ^ 32

theorem hashWord_testBit (g : Regs) (i k : Nat) : (hashWord g i).testBit k =
    if k < 32 then (g.val (0x10100 + 8 * i)).getLsbD k else (g.val (0x10104 + 8 * i)).getLsbD (k - 32) := by
  rw [hashWord, Nat.add_comm, Nat.mul_comm, Nat.testBit_two_pow_mul_add _ (g.val (0x10100 + 8 * i)).isLt]
  rfl

/-- One bit of the home share, of the address without its lowest 8 bits. -/
def homeBit (g : Regs) (i chunk : Nat) : Bool := parityOf 44 (chunk &&& hashWord g i)

theorem home_eq (g : Regs) (pa : Nat) : g.home pa =
    (homeBit g 0 (pa / 2 ^ 8)).toNat + 2 * (homeBit g 1 (pa / 2 ^ 8)).toNat + 4 * (homeBit g 2 (pa / 2 ^ 8)).toNat := by
  have hbit : ∀ i, parityOf 52 (pa &&& g.hashMask i) = homeBit g i (pa / 2 ^ 8) := fun i => by
    have hmask : g.hashMask i = hashWord g i * 2 ^ 8 := by rw [Regs.hashMask, hashWord]; omega
    rw [hmask]
    exact parityOf_and_shift 44 8 pa (hashWord g i)
  rw [Regs.home, hbit, hbit, hbit]

theorem home_lt (g : Regs) (pa : Nat) : g.home pa < 8 := by
  have h0 := Bool.toNat_le (homeBit g 0 (pa / 2 ^ 8))
  have h1 := Bool.toNat_le (homeBit g 1 (pa / 2 ^ 8))
  have h2 := Bool.toNat_le (homeBit g 2 (pa / 2 ^ 8))
  rw [home_eq]
  omega

theorem home_testBit (g : Regs) (pa : Nat) {i : Nat} (hi : i < 3) : (g.home pa).testBit i = homeBit g i (pa / 2 ^ 8) := by
  have hbits : ∀ x y z : Bool, (x.toNat + 2 * y.toNat + 4 * z.toNat).testBit 0 = x ∧ (x.toNat + 2 * y.toNat + 4 * z.toNat).testBit 1 = y ∧
      (x.toNat + 2 * y.toNat + 4 * z.toNat).testBit 2 = z := by decide
  obtain ⟨h0, h1, h2⟩ := hbits (homeBit g 0 (pa / 2 ^ 8)) (homeBit g 1 (pa / 2 ^ 8)) (homeBit g 2 (pa / 2 ^ 8))
  rw [home_eq]
  match i, hi with
  | 0, _ => exact h0
  | 1, _ => exact h1
  | 2, _ => exact h2

theorem homeBit_eq_foldl (g : Regs) (i pa : Nat) : homeBit g i (pa / 2 ^ 8) =
    (List.range 44).foldl (fun p k => xor p (pa.testBit (k + 8) &&
      (if k < 32 then (g.val (0x10100 + 8 * i)).getLsbD k else (g.val (0x10104 + 8 * i)).getLsbD (k - 32)))) false := by
  rw [homeBit, parityOf_eq_foldl]
  congr 1
  funext p k
  rw [Nat.testBit_and, Nat.testBit_div_two_pow, hashWord_testBit]

theorem bitOf_eq_testBit (v n : Nat) : bitOf v n = v.testBit n := by
  rw [Nat.testBit_eq_decide_div_mod_eq]
  rfl

/-- What a row of the matrix of R19, bits [10:8] of a mask, makes of the number of a 256-byte chunk in its 2 KiB block. -/
def rowParity (g : Regs) (i chunk : Nat) : Bool :=
  let b := bitOf (g.val (0x10100 + 8 * i)).toNat
  xor (chunk.testBit 0 && b 0) (xor (chunk.testBit 1 && b 1) (chunk.testBit 2 && b 2))

/-- A bit of the home share is what the matrix's row makes of the chunk, and the parity above the 2 KiB block. -/
theorem homeBit_split (g : Regs) (i chunk : Nat) :
    homeBit g i chunk = xor (rowParity g i chunk) (parityOf 41 (chunk / 8 &&& hashWord g i / 8)) := by
  have hlow : ∀ k, k < 3 → (chunk &&& hashWord g i).testBit k = (chunk.testBit k && bitOf (g.val (0x10100 + 8 * i)).toNat k) := fun k hk => by
    rw [Nat.testBit_and, hashWord_testBit, if_pos (by omega), bitOf_eq_testBit]
    rfl
  have hdiv : (chunk &&& hashWord g i) / 8 = chunk / 8 &&& hashWord g i / 8 := Nat.and_div_two_pow (n := 3)
  have hpeel : ∀ v, parityOf 44 v = xor (v.testBit 0) (xor (v.testBit 1) (xor (v.testBit 2) (parityOf 41 (v / 8)))) := fun v => by
    rw [parityOf_succ, parityOf_succ, parityOf_succ, Nat.testBit_div_two, Nat.testBit_div_two, Nat.testBit_div_two, Nat.div_div_eq_div_mul,
      Nat.div_div_eq_div_mul]
  rw [homeBit, hpeel, hdiv, hlow 0 (by omega), hlow 1 (by omega), hlow 2 (by omega), rowParity]
  simp only [Bool.xor_assoc]

/-- An invertible matrix over GF(2) tells two columns of bits apart. -/
theorem gf2_injective : ∀ (a b c d e f g h i : Bool),
    xor (a && xor (e && i) (f && h)) (xor (b && xor (d && i) (f && g)) (c && xor (d && h) (e && g))) = true →
    ∀ x y z : Bool, xor (x && a) (xor (y && b) (z && c)) = false → xor (x && d) (xor (y && e) (z && f)) = false →
      xor (x && g) (xor (y && h) (z && i)) = false → x = false ∧ y = false ∧ z = false := by decide

theorem rowParity_xor (g : Regs) (i a b : Nat) : rowParity g i (a ^^^ b) = xor (rowParity g i a) (rowParity g i b) := by
  simp only [rowParity, Nat.testBit_xor, Bool.and_xor_distrib_right, Bool.xor_assoc, Bool.xor_left_comm]

/-- Two chunks of one 2 KiB block with the same home share are the same: the lock's matrix is invertible (R19). -/
theorem chunk_eq_of_homeBit_eq {g : Regs} {a b : Nat} (hok : g.hashOk = true) (hblock : a / 8 = b / 8)
    (hbit : ∀ i, i < 3 → homeBit g i a = homeBit g i b) : a = b := by
  have hrow : ∀ i, i < 3 → rowParity g i (a ^^^ b) = false := fun i hi => by
    have h := hbit i hi
    rw [homeBit_split, homeBit_split, hblock, Bool.xor_left_inj] at h
    rw [rowParity_xor, h, Bool.xor_self]
  obtain ⟨h0, h1, h2⟩ := gf2_injective _ _ _ _ _ _ _ _ _ hok _ _ _ (hrow 0 (by omega)) (hrow 1 (by omega)) (hrow 2 (by omega))
  rw [Nat.testBit_xor, bne_eq_false_iff_eq] at h0 h1 h2
  refine Nat.eq_of_testBit_eq fun k => ?_
  match k with
  | 0 => exact h0
  | 1 => exact h1
  | 2 => exact h2
  | k + 3 => rw [← Nat.testBit_div_two_pow a k (n := 3), ← Nat.testBit_div_two_pow b k (n := 3), show a / 2 ^ 3 = b / 2 ^ 3 from hblock]

/-- The home share decides the chunk within its 2 KiB block. -/
theorem chunk_eq_of_home_eq {g : Regs} {a b : Nat} (hok : g.hashOk = true) (hblock : a / 2 ^ 11 = b / 2 ^ 11)
    (hhome : g.home a = g.home b) : a / 2 ^ 8 = b / 2 ^ 8 :=
  chunk_eq_of_homeBit_eq hok (by omega) fun i hi => by rw [← home_testBit g a hi, ← home_testBit g b hi, hhome]

/-- The home share of a chunk of a 2 KiB block. -/
def chunkShare (g : Regs) (block : Nat) (k : Fin 8) : Fin 8 := ⟨g.home (block * 2 ^ 11 + k * 256), home_lt g _⟩

theorem chunkShare_injective {g : Regs} (hok : g.hashOk = true) (block : Nat) : Function.Injective (chunkShare g block) := by
  intro j k h
  have hchunk := chunk_eq_of_home_eq hok (a := block * 2 ^ 11 + j * 256) (b := block * 2 ^ 11 + k * 256) (by omega) (congrArg Fin.val h)
  omega

theorem home_eq_of_chunk_eq {g : Regs} {a b : Nat} (h : a / 2 ^ 8 = b / 2 ^ 8) : g.home a = g.home b := by rw [home_eq, home_eq, h]

/-- Settles O59: the matrix of the lock is invertible, so the chunks of a block map one to one to the eight shares. -/
theorem homeShares : Obligations.HomeShares := by
  refine ⟨fun g pa i hi => ?bits, home_lt, fun pa => rfl, fun g a b hok _ _ hhome hlocal => ?pair, fun g block share hok _ hshare => ?chunks⟩
  case bits => rw [home_testBit g pa hi, homeBit_eq_foldl]
  case pair =>
    simp only [localAddr] at hlocal
    have hchunk := chunk_eq_of_home_eq hok (a := a) (b := b) (by omega) hhome
    omega
  case chunks =>
    have hinj := chunkShare_injective hok block
    obtain ⟨k, hk⟩ := Finite.surjective_of_injective hinj ⟨share, hshare⟩
    refine ⟨k, k.isLt, fun x hx => ?_, fun j hj hjs => ?_⟩
    · exact (home_eq_of_chunk_eq (by omega)).trans (congrArg Fin.val hk)
    · exact congrArg Fin.val (hinj (a₁ := ⟨j, hj⟩) (Fin.ext (hjs.trans (congrArg Fin.val hk).symm)))

end Sys2Proof.Proofs
end

section
/-! The state after reset, and what a step does with the queue (R22, R36, R533). -/

namespace Sys2Proof.Proofs

open Sys2Proof Sys2Proof.Machine Sys2Proof.Claims

/-- A register that nothing has written reads the reset value of the tables (R22). -/
theorem val_of_unwritten {g : Regs} {off : Nat} {r : RegD} (hact : g.act.get off = none) (hr : regAt off = some r) :
    g.val off = BitVec.ofNat 32 r.reset := by simp only [Regs.val, hact, hr]

/-- Settles O10: no register is written at reset, and every other part stands at the value that its field has there. -/
theorem atReset : Obligations.AtReset := by
  refine ⟨fun off r hr => val_of_unwritten rfl hr, rfl, rfl, rfl, rfl, rfl, rfl, rfl, rfl, fun a b => ⟨rfl, rfl⟩, ?_, rfl⟩
  rw [Memory.wf, State.reset_cells.1]
  rfl

theorem step_cons {s : State} {c : Instr} {rest : List Instr} (h : s.pending = c :: rest) : step s = exec c { s with pending := rest } := by
  simp only [step, h]

theorem step_nil {s : State} (h : s.pending = []) : step s = .next s.idle := by simp only [step, h]

/-- Settles O54: the two cases of the queue. -/
theorem stepRunsFront : Obligations.StepRunsFront :=
  ⟨fun _ _ => step_cons rfl, fun _ _ _ => step_cons, fun _ => step_nil⟩

end Sys2Proof.Proofs
end

section
/-! Locks, the node ID and the armed registers (R19, R263, R306, R364, R464). -/

namespace Sys2Proof.Proofs

open Sys2Proof Sys2Proof.Machine Sys2Proof.Claims

/-- A PAIR register without shadow at an offset outside the boot, ring and notice registers; its companion lies in its block (R7, R421). -/
abbrev PairReg (off : Nat) (r : RegD) : Prop :=
  off % 4 = 0 ∧ (off + 0x1000) / 0x10000 = off / 0x10000 ∧ companionOf off = false ∧ isBoot off = false ∧ regAt off = some r ∧
    r.paired = true ∧ r.shadowed = false ∧ ¬(0x20000 ≤ off ∧ off < 0x21000) ∧ ¬(0x22000 ≤ off ∧ off < 0x22010) ∧
    ¬(0x30000 ≤ off ∧ off < 0x3001C)

theorem pairWrite_of_portFree {s : State} {port : HPort} {off : Nat} {r : RegD} (val : Word) (hfree : PortFree s port off)
    (htoken : s.host.token = some port.val) (hp : PairReg off r) : s.pairWrite port off val = s.accept port off r val := by
  obtain ⟨hmute, hready, hguard, hheld⟩ := hfree
  obtain ⟨h4, hblock, hcomp, hboot, hr, hpair, -, hring, hen, hntc⟩ := hp
  exact State.pairWrite_eq_accept hmute hready hguard hheld (.inr htoken) h4 hblock hcomp hboot hr hpair hring hen hntc

/-- A register whose value a write in range stores: none of the token, boot, arm, commit, link control, AV and arbiter registers. -/
def Stores (off : Nat) : Prop :=
  off ∉ [0x10000, 0x4C, 0x700004, 0x14000C] ∧ ¬(0x80000 ≤ off ∧ off < 0x140000 ∧ off % 0x10000 = 0) ∧
    ¬(0x200000 ≤ off ∧ off < 0x440000) ∧ ¬(0x500000 ≤ off ∧ off < 0x600000 ∧ off % 0x10000 = 0x11C)

/-- The state with a register's value stored, before what follows from it. -/
def storeReg (s : State) (off : Nat) (r : RegD) (val : Word) : State := { s with regs := s.regs.set off (r.apply (s.regs.val off) val) }

theorem accept_of_stores {s : State} {off : Nat} {r : RegD} {val : Word} (port : Nat) (hoff : Stores off) (hsh : r.shadowed = false)
    (hrange : r.rangeOk val = true) (hrel : r.relOk val = true) (hfrozen : s.frozen off val = false) :
    s.accept port off r val =
      if r.covered then ((storeReg s off r val).afterWrite off val).quiet else (storeReg s off r val).afterWrite off val := by
  obtain ⟨hlist, hjl, hav, harb⟩ := hoff
  simp only [List.mem_cons, List.not_mem_nil, or_false, not_or] at hlist
  obtain ⟨htoken, hgo, harm, hcommit⟩ := hlist
  simp only [State.accept, htoken, hsh, hrange, hrel, hfrozen, hgo, harm, hcommit, hjl, hav, harb, storeReg, Bool.and_self, Bool.not_true,
    Bool.or_self, Bool.false_eq_true, if_false]

/-- A write that the register's own rule ignores changes no register. -/
theorem regs_accept_of_frozen {s : State} {off : Nat} {r : RegD} {val : Word} (port : Nat) (hoff : off ≠ 0x10000) (hsh : r.shadowed = false)
    (hfrozen : s.frozen off val = true) : (s.accept port off r val).regs = s.regs := by
  simp [State.accept, hoff, hsh, hfrozen, State.ignore, State.writeIgnored]

theorem storeReg_val (s : State) (off : Nat) (r : RegD) (val : Word) (o : Nat) :
    (storeReg s off r val).regs.val o = if o = off then r.apply (s.regs.val off) val else s.regs.val o := Regs.val_set ..

@[simp] theorem quiet_val (s : State) (o : Nat) : s.quiet.regs.val o = s.regs.val o := rfl

theorem quiet_fld (s : State) (off hi lo : Nat) : s.quiet.regs.fld off hi lo = s.regs.fld off hi lo := rfl

theorem bitsOf_15_0 (v : Nat) : bitsOf v 15 0 = v % 65536 := by simp [bitsOf]

theorem bitsOf_toNat_congr {x y : Word} {hi lo : Nat} (h : ∀ k < hi + 1, lo ≤ k → x.getLsbD k = y.getLsbD k) :
    bitsOf x.toNat hi lo = bitsOf y.toNat hi lo := by
  refine Nat.eq_of_testBit_eq fun j => ?_
  simp only [bitsOf, Nat.testBit_mod_two_pow, Nat.testBit_div_two_pow]
  by_cases hj : j < hi + 1 - lo
  · rw [decide_eq_true hj]
    exact congrArg (true && ·) (h (j + lo) (by omega) (by omega))
  · simp [hj]

/-- A field that a write replaces holds the bits written (R5). -/
theorem bitsOf_apply {r : RegD} {hi lo : Nat} (old val : Word) (hclear : r.clearMask = 0#32)
    (hmask : ∀ k < hi + 1, lo ≤ k → r.writeMask.getLsbD k = true) : bitsOf (r.apply old val).toNat hi lo = bitsOf val.toNat hi lo := by
  refine bitsOf_toNat_congr fun k hk hlo => ?_
  have hlt : k < 32 := BitVec.lt_of_getLsbD (hmask k hk hlo)
  simp only [RegD.apply, hclear, BitVec.getLsbD_and, BitVec.getLsbD_or, BitVec.getLsbD_not, hmask k hk hlo, hlt, BitVec.getLsbD_zero,
    decide_true, Bool.not_true, Bool.not_false, Bool.and_false, Bool.and_true, Bool.false_or]

/-- The registers with a lock, the node ID, the flip mask and the arm of the zeroise guard, as the tables give them (R22, R263, R307, R385,
R466). -/
def hashCtrl : RegD := reg1 0x10118 0 [fPairCov 0 0]
def dmapCtrl : RegD := reg1 0x1013C 0 [fPairCov 0 0]
def nodeReg : RegD := reg1 0x140000 0 [fPairCov 15 0]
def flipCtl : RegD := reg1 0x200 0 [fPair 15 8, fPair 4 4, fPair 3 2 [(0, 2)], fPair 0 0]
def zeroiseArmReg : RegD := reg1 0x700004 0 [fPair 15 0 [(1, 65535)]]

theorem pairReg_hashCtrl : PairReg 0x10118 hashCtrl := by decide
theorem pairReg_dmapCtrl : PairReg 0x1013C dmapCtrl := by decide
theorem pairReg_node : PairReg 0x140000 nodeReg := by decide
theorem pairReg_flipCtl : ∀ ch : Chan, PairReg (0x500200 + ch.val * 0x10000) flipCtl := by decide
theorem pairReg_zeroiseArm : PairReg 0x700004 zeroiseArmReg := by decide

theorem flipOff_range (ch : Chan) : 0x500000 ≤ 0x500200 + ch.val * 0x10000 ∧ 0x500200 + ch.val * 0x10000 < 0x600000 ∧
    (0x500200 + ch.val * 0x10000) % 0x10000 = 0x200 ∧ (0x500200 + ch.val * 0x10000 - 0x500000) / 0x10000 = ch.val := by omega

theorem afterWrite_hashCtrl (s : State) {val : Word} (hval : val.getLsbD 0 = true) :
    s.afterWrite 0x10118 val = { s with regs := { s.regs with hashValid := true } } := by simp [State.afterWrite, hval]

theorem afterWrite_dmapCtrl (s : State) {val : Word} (hval : val.getLsbD 0 = true) :
    s.afterWrite 0x1013C val = { s with regs := { s.regs with dmapValid := true } } := by simp [State.afterWrite, hval]

theorem afterWrite_node (s : State) (val : Word) :
    s.afterWrite 0x140000 val = (List.range 12).foldl (fun s n => s.portStart n) s := rfl

theorem afterWrite_flipCtl (s : State) (ch : Chan) {val : Word} (hval : val.getLsbD 0 = true) :
    s.afterWrite (0x500200 + ch.val * 0x10000) val = s.setCprot ch.val { s.cprot ch.val with fired := 0 } := by
  obtain ⟨hlo, hhi, hmod, hch⟩ := flipOff_range ch
  have hne : ∀ o < 0x500000, 0x500200 + ch.val * 0x10000 ≠ o := fun o ho => by omega
  simp only [State.afterWrite, hne, hlo, hhi, hmod, hch, hval, Nat.reduceLT, or_self, and_self, if_true, if_false]

/-- HASH_LOCK by the token's holder, with masks that meet R19: the lock is taken, and nothing else changes. -/
theorem pairWrite_hashLock {s : State} {port : HPort} {val : Word} (hfree : PortFree s port 0x10118) (htoken : s.host.token = some port.val)
    (hopen : s.regs.hashValid = false) (hval : val.getLsbD 0 = true) (hok : s.regs.hashOk = true) :
    s.pairWrite port 0x10118 val = ({ s with regs := { (storeReg s 0x10118 hashCtrl val).regs with hashValid := true } } : State).quiet := by
  have hfrozen : s.frozen 0x10118 val = false := by simp [State.frozen, hopen, hok]
  rw [pairWrite_of_portFree val hfree htoken pairReg_hashCtrl, accept_of_stores port.val (by simp [Stores]) rfl rfl rfl hfrozen,
    if_pos (by decide), afterWrite_hashCtrl _ hval]
  rfl

/-- DMAP_LOCK with masks that meet R263, likewise. -/
theorem pairWrite_dmapLock {s : State} {port : HPort} {val : Word} (hfree : PortFree s port 0x1013C) (htoken : s.host.token = some port.val)
    (hopen : s.regs.dmapValid = false) (hval : val.getLsbD 0 = true) (hok : s.dmapOk = true) :
    s.pairWrite port 0x1013C val = ({ s with regs := { (storeReg s 0x1013C dmapCtrl val).regs with dmapValid := true } } : State).quiet := by
  have hfrozen : s.frozen 0x1013C val = false := by simp [State.frozen, hopen, hok]
  rw [pairWrite_of_portFree val hfree htoken pairReg_dmapCtrl, accept_of_stores port.val (by simp [Stores]) rfl rfl rfl hfrozen,
    if_pos (by decide), afterWrite_dmapCtrl _ hval]
  rfl

theorem pairWrite_node {s : State} {port : HPort} (val : Word) (hfree : PortFree s port 0x140000) (htoken : s.host.token = some port.val)
    (hdown : ∀ n, n < 12 → (s.jl n).st = 0 ∨ (s.jl n).st = 7) :
    s.pairWrite port 0x140000 val = ((List.range 12).foldl (fun s n => s.portStart n) (storeReg s 0x140000 nodeReg val)).quiet := by
  have hports : ((List.range 12).any fun n => (s.jl n).st != 0 && (s.jl n).st != 7) = false := by
    refine List.any_eq_false.2 fun n hn => ?_
    rcases hdown n (List.mem_range.1 hn) with h | h <;> simp [h]
  have hfrozen : s.frozen 0x140000 val = false := by simp [State.frozen, hports]
  rw [pairWrite_of_portFree val hfree htoken pairReg_node, accept_of_stores port.val (by simp [Stores]) rfl rfl rfl hfrozen,
    if_pos (by decide), afterWrite_node]

theorem pairWrite_flipArm {s : State} {port : HPort} {ch : Chan} {val : Word} (hfree : PortFree s port (0x500200 + ch.val * 0x10000))
    (htoken : s.host.token = some port.val) (hval : val.getLsbD 0 = true) (hpattern : bitsOf val.toNat 15 8 ≠ 0)
    (hkind : bitsOf val.toNat 3 2 ≤ 2) : s.pairWrite port (0x500200 + ch.val * 0x10000) val =
      (storeReg s (0x500200 + ch.val * 0x10000) flipCtl val).setCprot ch.val { s.cprot ch.val with fired := 0 } := by
  obtain ⟨hlo, hhi, hmod, -⟩ := flipOff_range ch
  have hne : ∀ o < 0x500000, (0x500200 + ch.val * 0x10000 == o) = false := fun o ho => by simp; omega
  have hfrozen : s.frozen (0x500200 + ch.val * 0x10000) val = false := by
    have h600000 : (0x500200 + ch.val * 0x10000 == 0x600000) = false := by simp; omega
    have hmasks : decide (0x500200 + ch.val * 0x10000 ≤ 0x10118) = false ∧ decide (0x500200 + ch.val * 0x10000 ≤ 0x1013C) = false := by
      simp
      omega
    simp [State.frozen, hne, h600000, hmasks, hpattern]
  have hrange : flipCtl.rangeOk val = true := by simp [RegD.rangeOk, flipCtl, reg1, fPair, hkind]
  have hstores : Stores (0x500200 + ch.val * 0x10000) := by
    simp only [Stores, List.mem_cons, List.not_mem_nil, or_false, not_or]
    omega
  rw [pairWrite_of_portFree val hfree htoken (pairReg_flipCtl ch), accept_of_stores port.val hstores rfl hrange rfl hfrozen,
    if_neg (by decide), afterWrite_flipCtl _ ch hval]
  rfl

theorem pairWrite_zeroiseArm {s : State} {port : HPort} {val : Word} (hfree : PortFree s port 0x700004)
    (htoken : s.host.token = some port.val) (hlow : 1 ≤ val.toNat) (hhigh : val.toNat ≤ 65535) :
    s.pairWrite port 0x700004 val = s.armZeroise val.toNat := by
  have hfrozen : s.frozen 0x700004 val = false := by simp [State.frozen]
  have hbits : bitsOf val.toNat 15 0 = val.toNat := by rw [bitsOf_15_0]; omega
  have hrange : zeroiseArmReg.rangeOk val = true := by simp [RegD.rangeOk, zeroiseArmReg, reg1, fPair, hbits, hlow, hhigh]
  rw [pairWrite_of_portFree val hfree htoken pairReg_zeroiseArm]
  simp [State.accept, show zeroiseArmReg.shadowed = false from rfl, hrange, show zeroiseArmReg.relOk val = true from rfl, hfrozen]

/-- A write of a hash mask whose guard its complement completes finds the mask locked (R19). -/
theorem regsKept_of_lockedMask {s : State} {port : HPort} {g : Guard} (hmute : s.mute = false)
    (hheld : s.regs.held.get (heldKey (port.val * 256) 1) = none) (hguard : s.regs.guards.get port = some g)
    (hclock : s.clock ≤ g.opened + 10000) (hvalid : s.regs.hashValid = true)
    (hoff : g.off ∈ [0x10100, 0x10104, 0x10108, 0x1010C, 0x10110, 0x10114]) :
    RegsKept s (s.barWrite port 0 (g.off + 0x1000) 4 (~~~ g.val)) [] := by
  have hmasks : ∀ off ∈ [0x10100, 0x10104, 0x10108, 0x1010C, 0x10110, 0x10114],
      ((regAt off).map (·.shadowed)) = some false ∧ off % 4 = 0 ∧ 0x10100 ≤ off ∧ off ≤ 0x10118 := by decide
  obtain ⟨hreg, h4, hlo, hhi⟩ := hmasks g.off hoff
  obtain ⟨r, hr, hsh⟩ := Option.map_eq_some_iff.1 hreg
  have hblock : (g.off + 0x1000) / 0x10000 = 1 := by omega
  have hfrozen : (closeGuard s port).frozen g.off g.val = true := by simp [State.frozen, closeGuard, hvalid, hlo, hhi]
  intro o _
  rw [barWrite_of_complement hmute (by rw [hblock]; exact hheld) hguard hclock h4 hr,
    regs_accept_of_frozen port.val (by omega) hsh hfrozen]
  rfl

/-- What a write of one register leaves: every register but it. -/
theorem regsKept_storeReg (s : State) (off : Nat) (r : RegD) (val : Word) : RegsKept s (storeReg s off r val) [off] :=
  fun o ho => (storeReg_val s off r val o).trans (if_neg (by simpa using ho))

/-- A field that the write replaces reads the bits written. -/
theorem storeReg_fld {r : RegD} {hi lo : Nat} (s : State) (off : Nat) (val : Word) (hclear : r.clearMask = 0#32)
    (hmask : ∀ k < hi + 1, lo ≤ k → r.writeMask.getLsbD k = true) :
    (storeReg s off r val).regs.fld off hi lo = bitsOf val.toNat hi lo := by
  rw [Regs.fld, storeReg_val, if_pos rfl, bitsOf_apply _ _ hclear hmask]

theorem execZeroiseArmExpiry_of_armed {s : State} {a : Nat × Nat} (h : s.sec.arm = some a) : execZeroiseArmExpiry s =
    .next { s.passTo (a.2 + 100000000) with sec := { (s.passTo (a.2 + 100000000)).sec with arm := none } } := by
  simp only [execZeroiseArmExpiry, h]

/-- Settles O4: each row is a completed PAIR write, and its register's own rule says what follows. -/
theorem locksAndArms : Obligations.LocksAndArms := by
  refine ⟨?hashLock, ?dmapLock, ?lockedMask, ?node, ?flip, ?arm, ?expiry⟩
  case hashLock =>
    intro s port val hfree htoken hopen hval hok
    exact ⟨_, congrArg Host.Outcome.next (pairWrite_hashLock hfree htoken hopen hval hok), rfl,
      regsKept_storeReg s 0x10118 hashCtrl val, rfl⟩
  case dmapLock =>
    intro s port val hfree htoken hopen hval hok
    exact ⟨_, congrArg Host.Outcome.next (pairWrite_dmapLock hfree htoken hopen hval hok), rfl,
      regsKept_storeReg s 0x1013C dmapCtrl val, rfl⟩
  case lockedMask =>
    intro s port off val g hmute _ hheld hguard hoff hval hclock hvalid hmask
    subst hoff hval
    exact ⟨_, rfl, regsKept_of_lockedMask hmute hheld hguard hclock hvalid hmask⟩
  case node =>
    intro s port val hfree htoken hdown
    have hregs : ((List.range 12).foldl (fun s n => s.portStart n) (storeReg s 0x140000 nodeReg val)).regs =
        (storeReg s 0x140000 nodeReg val).regs := State.regs_foldl _ _ _ fun s n => (State.portStart_frame s n).2.2.2.2.1
    refine ⟨_, congrArg Host.Outcome.next (pairWrite_node val hfree htoken hdown), ?_, fun o ho => ?_⟩
    · have hnode := storeReg_fld (hi := 15) (lo := 0) s 0x140000 val (r := nodeReg) (by decide) (by decide)
      rw [State.node, quiet_fld, hregs, hnode, bitsOf_15_0]
    · rw [quiet_val, hregs]
      exact regsKept_storeReg s 0x140000 nodeReg val o ho
  case flip =>
    intro s port ch val hfree htoken hval hpattern hkind
    refine ⟨_, congrArg Host.Outcome.next (pairWrite_flipArm hfree htoken hval hpattern hkind), ?_, ?_, by simp,
      regsKept_storeReg s _ flipCtl val⟩
    · exact storeReg_fld s _ val (r := flipCtl) (by decide) (by decide)
    · have hbit : bitsOf val.toNat 0 0 = 1 := by
        rw [BitVec.getLsbD, Nat.testBit_zero, decide_eq_true_eq] at hval
        rwa [bitsOf, Nat.pow_zero, Nat.div_one]
      exact (storeReg_fld s _ val (r := flipCtl) (by decide) (by decide)).trans hbit
  case arm =>
    intro s port val hfree htoken hlow hhigh
    refine ⟨_, congrArg Host.Outcome.next (pairWrite_zeroiseArm hfree htoken hlow hhigh), ?_, fun o _ => rfl, rfl⟩
    rw [State.armZeroise, Nat.mod_eq_of_lt (by omega)]
  case expiry =>
    intro s v since harm
    exact ⟨_, execZeroiseArmExpiry_of_armed harm, by simp, passTo_clock_ge s _⟩

end Sys2Proof.Proofs
end

section
/-! Notices: what is told, and which conditions hold (R410 to R413). -/

namespace Sys2Proof.Proofs

open Sys2Proof Sys2Proof.Machine Sys2Proof.Claims

@[simp] theorem hostIf_conds_ite (c : Prop) [Decidable c] (a b : HostIf) :
    (if c then a else b).conds = if c then a.conds else b.conds := apply_ite HostIf.conds c a b

@[simp] theorem conds_emit (s : State) (o : Out) : (s.emit o).host.conds = s.host.conds := by simp [State.emit]

@[simp] theorem conds_setNtc (s : State) (fn : Nat) (x : NoticeRing) : (s.setNtc fn x).host.conds = s.host.conds := rfl

@[simp] theorem conds_writeNotice (s : State) (fn : Nat) (n : Notice) : (s.writeNotice fn n).host.conds = s.host.conds := by
  simp [State.writeNotice]

@[simp] theorem conds_deliver (s : State) (fn : Nat) (n : Notice) : (s.deliver fn n).host.conds = s.host.conds := by
  simp [State.deliver]

@[simp] theorem conds_holdNotice (s : State) (n : Notice) : (s.holdNotice n).host.conds = s.host.conds := by
  simp [State.holdNotice]

/-- A level notice leaves its condition among those that hold. -/
theorem mem_conds_raiseLevel (s : State) (source cause data : Nat) (district : Option Nat) :
    ∃ n ∈ (s.raiseLevel source cause data district).host.conds, n.source = source ∧ n.cause = cause := by
  have hdeliver : ∀ (n : Notice) (fns : List Nat) (s : State), (fns.foldl (fun s fn => s.deliver fn n) s).host.conds = s.host.conds :=
    fun n fns s => foldl_keeps (·.host.conds) _ fns s fun s fn => conds_deliver s fn n
  cases hknown : s.host.conds.any (fun o => o.source == source && o.cause == cause) with
  | true =>
    obtain ⟨n, hn, hsame⟩ := List.any_eq_true.1 hknown
    refine ⟨n, ?_, by simpa using hsame⟩
    simp [State.raiseLevel, State.raiseRaw, hknown, hdeliver, hn]
  | false =>
    refine ⟨⟨source, cause, true, s.time.ft, district, data⟩, ?_, rfl, rfl⟩
    simp [State.raiseLevel, State.raiseRaw, hknown, hdeliver]

/-- A condition that has ended is among those that hold no more. -/
theorem not_mem_conds_endLevel (s : State) (source cause : Nat) :
    ∀ n ∈ (s.endLevel source cause).host.conds, ¬(n.source = source ∧ n.cause = cause) := by
  intro n hn hsame
  simp [State.endLevel, hsame] at hn

/-- Sending adds to what has been sent. -/
theorem out_sub_emit (s : State) (o : Out) : s.out ⊆ (s.emit o).out := fun _ => State.mem_emit_of_mem o

theorem out_sub_writeNotice (s : State) (fn : Nat) (n : Notice) : s.out ⊆ (s.writeNotice fn n).out := by
  intro o ho
  simp only [State.writeNotice]
  split
  · exact State.mem_emit_of_mem _ (State.mem_emit_of_mem _ ho)
  · exact State.mem_emit_of_mem _ ho

theorem out_sub_deliver (s : State) (fn : Nat) (n : Notice) : s.out ⊆ (s.deliver fn n).out := by
  intro o ho
  simp only [State.deliver]
  split_ifs
  · exact ho
  · exact ho
  · exact ho
  · exact ho
  · exact out_sub_writeNotice s fn n ho

theorem out_sub_deliver_all (n : Notice) (fns : List Nat) (s : State) : s.out ⊆ (fns.foldl (fun s fn => s.deliver fn n) s).out := by
  induction fns generalizing s with
  | nil => exact fun _ h => h
  | cons fn fns ih => exact fun _ h => ih _ (out_sub_deliver s fn n h)

theorem out_sub_raise (s : State) (source cause data : Nat) (district : Option Nat) :
    s.out ⊆ (s.raise source cause data district).out := by
  intro o ho
  simp only [State.raise, State.raiseRaw, Bool.false_and, Bool.false_eq_true, if_false]
  split
  · simpa [State.holdNotice] using ho
  · exact out_sub_deliver_all _ _ _ ho

/-- A notice record that an enabled ring with room takes. -/
theorem told_deliver {s : State} {fn : Nat} {n : Notice} (hmute : s.mute = false) (hen : (s.ntc fn).en = true)
    (hroom : (s.ntc fn).full = false) (hup : s.host.hostDown.contains (fn / 256) = false) (hedge : n.level = false) :
    Told (s.deliver fn n) n.source n.cause n.data := by
  refine ⟨fn, (s.ntc fn).tail % 2 ^ (s.ntc fn).k, (s.ntc fn).tail / 2 ^ (s.ntc fn).k % 2 == 0, ((s.ntc fn).seq + 1) % 2 ^ 32, n, ?_,
    rfl, rfl, rfl⟩
  simp only [State.deliver, hen, hroom, hup, hedge, Bool.not_true, Bool.or_self, Bool.false_and, Bool.false_eq_true, if_false,
    State.writeNotice]
  split
  · exact State.mem_emit_of_mem _ (State.mem_emit _ hmute)
  · exact State.mem_emit _ hmute

/-- The parts of the state that decide whether a function's ring takes a notice. -/
def SameRing (s t : State) (fn : Nat) : Prop := t.mute = s.mute ∧ t.ntc fn = s.ntc fn ∧ t.host.hostDown = s.host.hostDown

theorem sameRing_emit (s : State) (o : Out) (fn : Nat) : SameRing s (s.emit o) fn := by
  simp only [SameRing, State.ntc, State.emit]
  split <;> exact ⟨rfl, rfl, rfl⟩

theorem sameRing_setNtc (s : State) {fn other : Nat} (x : NoticeRing) (h : fn ≠ other) : SameRing s (s.setNtc other x) fn :=
  ⟨rfl, by simp [h], rfl⟩

theorem SameRing.trans {s t u : State} {fn : Nat} (h : SameRing s t fn) (g : SameRing t u fn) : SameRing s u fn :=
  ⟨g.1.trans h.1, g.2.1.trans h.2.1, g.2.2.trans h.2.2⟩

/-- A delivery to one function's ring leaves every other's as it is. -/
theorem sameRing_deliver (s : State) {fn other : Nat} (n : Notice) (h : fn ≠ other) : SameRing s (s.deliver other n) fn := by
  have hwrite : SameRing s (s.writeNotice other n) fn := by
    simp only [State.writeNotice]
    split
    · exact ((sameRing_emit s _ fn).trans (sameRing_setNtc _ _ h)).trans (sameRing_emit _ _ fn)
    · exact (sameRing_emit s _ fn).trans (sameRing_setNtc _ _ h)
  simp only [State.deliver]
  split_ifs
  · exact ⟨rfl, rfl, rfl⟩
  · exact ⟨rfl, rfl, rfl⟩
  · exact sameRing_setNtc s _ h
  · exact sameRing_setNtc s _ h
  · exact hwrite

theorem told_mono {s t : State} {source cause data : Nat} (h : Told s source cause data) (hsub : s.out ⊆ t.out) :
    Told t source cause data := by
  obtain ⟨fn, slot, phase, seq, n, hn, hsame⟩ := h
  exact ⟨fn, slot, phase, seq, n, hsub hn, hsame⟩

/-- An edge notice about no District reaches a PF that listens (R412). -/
theorem told_raise {s : State} (source cause data : Nat) (h : Listening s) : Told (s.raise source cause data) source cause data := by
  obtain ⟨hmute, hring, p, hp, hen, hroom, hup⟩ := h
  let n : Notice := ⟨source, cause, false, s.time.ft, none, data⟩
  have hboth : s.raise source cause data = (s.deliver 0 n).deliver 256 n := by
    simp [State.raise, State.raiseRaw, hring, State.noticeTargets, n]
  rw [hboth]
  obtain rfl | rfl : p = 0 ∨ p = 1 := by omega
  · rw [Nat.zero_mul] at hen hroom
    exact told_mono (told_deliver (n := n) hmute hen hroom hup rfl) (out_sub_deliver _ _ _)
  · rw [Nat.one_mul] at hen hroom
    obtain ⟨hm, hn, hd⟩ := sameRing_deliver s (fn := 256) (other := 0) n (by decide)
    exact told_deliver (n := n) (hm.trans hmute) (by rw [hn, hen]) (by rw [hn, hroom]) (by rw [hd]; exact hup) rfl

/-- Whether a PF listens depends on the outputs and the host interface alone. -/
theorem listening_congr {s t : State} (h : Listening s) (hboot : t.boot = s.boot) (hhost : t.host = s.host) : Listening t := by
  simpa only [Listening, State.mute, State.ntc, hboot, hhost] using h

end Sys2Proof.Proofs
end

section
/-! Engines: what gating and draining them leaves (R203, R471 to R473). -/

namespace Sys2Proof.Proofs

open Sys2Proof Sys2Proof.Machine Sys2Proof.Claims

@[simp] theorem engOf_setEng_same (s : State) (a e : Nat) (x : Eng) : (s.setEng a e x).engOf a e = x := by
  simp [State.engOf, State.setEng]

/-- An Avenue's engines are numbered below 8, so no two share an entry. -/
theorem engOf_setEng (s : State) {a e b f : Nat} (x : Eng) (he : e < 8) (hf : f < 8) :
    (s.setEng a e x).engOf b f = if b = a ∧ f = e then x else s.engOf b f := by
  split
  case isTrue h => rw [h.1, h.2, engOf_setEng_same]
  case isFalse h => simp [State.engOf, State.setEng, Table.get_put_of_ne _ _ (show b * 8 + f ≠ a * 8 + e by omega)]

/-- What an engine is depends on the engines' table alone. -/
theorem engOf_congr {s t : State} (h : t.eng.engs = s.eng.engs) (a e : Nat) : t.engOf a e = s.engOf a e := by rw [State.engOf, h]; rfl

/-- An engine neither works nor stands ready to. -/
def Gated (x : Eng) : Prop := x.st ≠ .running ∧ x.st ≠ .idle

/-- A unit given back leaves every engine in its state (R203). -/
theorem interrupt_st (s : State) {a e b f : Nat} (he : e < 8) (hf : f < 8) : ((s.interrupt a e).engOf b f).st = (s.engOf b f).st := by
  have hset : ((s.setEng a e { s.engOf a e with group := none }).engOf b f).st = (s.engOf b f).st := by
    rw [engOf_setEng s _ he hf]
    split
    case isTrue h => rw [h.1, h.2]
    case isFalse => rfl
  simp only [State.interrupt]
  split
  · split
    · split
      · exact hset
      · exact hset
    · exact hset
  · rfl

/-- A gated engine stays gated when an engine is gated (R471). -/
theorem gateEngine_keeps (s : State) {a e b f : Nat} (he : e < 8) (hf : f < 8) (h : Gated (s.engOf b f)) :
    Gated ((s.gateEngine a e).engOf b f) := by
  simp only [State.gateEngine]
  split
  · rw [State.engOff, engOf_setEng _ _ he hf]
    split
    · exact ⟨by simp, by simp⟩
    · rw [Gated, interrupt_st s he hf]
      exact h
  · exact h

theorem gateEngine_gates (s : State) (a e : Nat) : Gated ((s.gateEngine a e).engOf a e) := by
  simp only [State.gateEngine]
  split
  case isTrue => rw [State.engOff, engOf_setEng_same]; exact ⟨by simp, by simp⟩
  case isFalse h => exact not_or.1 h

/-- A fold whose steps each bring about a property of their item, and keep it for every other, brings it about for every item. -/
theorem foldl_establishes {σ α : Type} {P : α → σ → Prop} {f : σ → α → σ} (l : List α) (hset : ∀ s, ∀ a ∈ l, P a (f s a))
    (hkeep : ∀ s, ∀ a ∈ l, ∀ b ∈ l, P b s → P b (f s a)) (s : σ) : ∀ a ∈ l, P a (l.foldl f s) := by
  have hlast : ∀ r, r ⊆ l → ∀ s, ∀ a ∈ l, a ∈ r ∨ P a s → P a (r.foldl f s) := by
    intro r
    induction r with
    | nil => exact fun _ s a _ h => h.resolve_left List.not_mem_nil
    | cons x r ih =>
      intro hsub s a ha h
      obtain ⟨hx, hr⟩ := List.cons_subset.1 hsub
      refine ih hr (f s x) a ha ?_
      rcases h with h | h
      · exact (List.mem_cons.1 h).elim (fun h => .inr (h ▸ hset s x hx)) .inl
      · exact .inr (hkeep s x hx a ha h)
  exact fun a ha => hlast l (List.Subset.refl l) s a ha (.inl ha)

/-- The state with an Avenue's engines gated (R471). -/
def gateAvenue (s : State) (a : Nat) : State := engIdx.foldl (fun s e => s.gateEngine a e) s

theorem lt_of_mem_engIdx {e : Nat} (h : e ∈ engIdx) : e < 8 := Nat.lt_of_lt_of_le (List.mem_range.1 h) (by decide)

theorem gateAvenue_gates (s : State) (a : Nat) {e : Nat} (he : e < 6) : Gated ((gateAvenue s a).engOf a e) :=
  foldl_establishes (P := fun e (s : State) => Gated (s.engOf a e)) engIdx (fun s e _ => gateEngine_gates s a e)
    (fun s _ he _ hf h => gateEngine_keeps s (lt_of_mem_engIdx he) (lt_of_mem_engIdx hf) h) s e (List.mem_range.2 he)

theorem gateAvenue_keeps (s : State) (a : Nat) {b f : Nat} (hf : f < 6) (h : Gated (s.engOf b f)) : Gated ((gateAvenue s a).engOf b f) :=
  List.foldlRecOn engIdx _ (motive := fun t : State => Gated (t.engOf b f)) h fun s h _ he =>
    gateEngine_keeps s (lt_of_mem_engIdx he) (by omega) h

/-- The state with every Avenue's engines gated (R471). -/
def gateAll (s : State) : State := (List.range 9).foldl (fun s a => gateAvenue s a) s

theorem gateAll_gates (s : State) {a e : Nat} (ha : a < 9) (he : e < 6) : Gated ((gateAll s).engOf a e) :=
  foldl_establishes (P := fun a (s : State) => Gated (s.engOf a e)) (List.range 9) (fun s a _ => gateAvenue_gates s a he)
    (fun s a _ _ _ h => gateAvenue_keeps s a he h) s a (List.mem_range.2 ha)

/-- Gating engines changes only them, their jobs and a counter. -/
theorem gateAvenue_frame (s : State) (a : Nat) : (gateAvenue s a).host = s.host ∧ (gateAvenue s a).boot = s.boot ∧
    (gateAvenue s a).avail = s.avail ∧ (gateAvenue s a).pwr = s.pwr ∧ (gateAvenue s a).out = s.out := by
  simp [gateAvenue]

theorem gateAll_frame (s : State) :
    (gateAll s).host = s.host ∧ (gateAll s).boot = s.boot ∧ (gateAll s).pwr = s.pwr := by
  simp [gateAll, gateAvenue_frame]

end Sys2Proof.Proofs
end

section
/-! Regulators, hardware limits and heat (R17, R468, R471 to R474, R480). -/

namespace Sys2Proof.Proofs

open Sys2Proof Sys2Proof.Machine Sys2Proof.Claims

/-- A regulator's third read in a row without an answer (R468). -/
theorem pollOne_third {s : State} {rail : Nat} (h : s.pwr.missed.get rail = some 2) : s.pollOne rail none =
    ({ s with pwr := { s.pwr with missed := s.pwr.missed.put rail 3 } } : State).raiseLevel Src.power 0x06 (rail % 256) := by
  simp [State.pollOne, h]

theorem mem_of_get_eq_some {α : Type} {t : Table α} {k : Nat} {v : α} (h : t.get k = some v) : (k, v) ∈ t := by
  induction t with
  | nil => cases h
  | cons e t ih =>
    obtain ⟨j, w⟩ := e
    simp only [Table.get] at h
    split at h
    · obtain rfl := Option.some.inj h
      simp [*]
    · exact List.mem_cons_of_mem _ (ih h)

/-- In a canonical table a removed key's entry is gone. -/
theorem key_ne_of_mem_del {α : Type} {t : Table α} {k : Nat} {e : Nat × α} (hwf : t.wf = true) (h : e ∈ t.del k) : e.1 ≠ k := by
  induction t with
  | nil => cases h
  | cons a t ih =>
    obtain ⟨j, w⟩ := a
    obtain ⟨hlow, htail⟩ := Table.wf_cons.1 hwf
    simp only [Table.del] at h
    split at h
    · rename_i hkj
      have := hlow e h
      omega
    · rename_i hkj
      rcases List.mem_cons.1 h with rfl | h
      · exact fun hj => hkj hj.symm
      · exact ih htail h

/-- The state with the clocks of an Avenue's running and idle engines set; none is raised while the regulator is silent (R468, R472). -/
def clocksSet (s : State) (a : Nat) : State :=
  let silent := decide (3 ≤ (s.pwr.missed.get (32 + a)).getD 0)
  engIdx.foldl (fun s e =>
    let x := s.engOf a e
    if x.st = .running ∨ x.st = .idle then
      s.setEng a e { x with fcur := if silent then min x.fcur (s.clockOf a e) else s.clockOf a e }
    else s) s

theorem clocksSet_frame (s : State) (a : Nat) : (clocksSet s a).avail = s.avail ∧ (clocksSet s a).out = s.out := by simp [clocksSet]

/-- What setting an Avenue's clocks can do: it changes engines, and then at most the Avenue's rail (R468, R472). -/
theorem setClocks_cases (s : State) (a : Nat) : s.setClocks a = clocksSet s a ∨
    ∃ mv, s.setClocks a = ((clocksSet s a).setAv a { s.av a with vdd := mv }).emit (.avs (32 + a) mv) := by
  have hav : (clocksSet s a).av a = s.av a := by rw [State.av, (clocksSet_frame s a).1]; rfl
  have heq : s.setClocks a =
      let mv := 600 + 5 * (Config.railStep a ((clocksSet s a).topClock a)).val
      if (clocksSet s a).topClock a = 0 ∨ decide (3 ≤ (s.pwr.missed.get (32 + a)).getD 0) ∨ mv = ((clocksSet s a).av a).vdd ∨
        (List.range 3).any (fun p => ((clocksSet s a).core p).switching.isSome) then clocksSet s a
      else ((clocksSet s a).setAv a { (clocksSet s a).av a with vdd := mv }).emit (.avs (32 + a) mv) := rfl
  rw [heq, hav]
  dsimp only
  split
  · exact .inl rfl
  · exact .inr ⟨_, rfl⟩

theorem av_congr {s t : State} (h : t.avail = s.avail) (a : Nat) : t.av a = s.av a := by rw [State.av, h]; rfl

@[simp] theorem av_raise (s : State) (source cause data : Nat) (d : Option Nat) (a : Nat) : (s.raise source cause data d).av a = s.av a :=
  av_congr (by simp) a

@[simp] theorem av_raiseLevel (s : State) (source cause data : Nat) (d : Option Nat) (a : Nat) :
    (s.raiseLevel source cause data d).av a = s.av a := av_congr (by simp) a

@[simp] theorem av_endLevel (s : State) (source cause a : Nat) : (s.endLevel source cause).av a = s.av a := av_congr (by simp) a

theorem av_emit (s : State) (o : Out) (a : Nat) : (s.emit o).av a = s.av a := av_congr (by simp) a

theorem setClocks_tj (s : State) (a : Nat) : ((s.setClocks a).av a).tj = (s.av a).tj := by
  obtain ⟨havail, -⟩ := clocksSet_frame s a
  obtain h | ⟨mv, h⟩ := setClocks_cases s a
  · rw [h, av_congr havail]
  · rw [h, av_emit, State.av_setAv, if_pos rfl]

theorem setClocks_av_other (s : State) {a b : Nat} (hb : b ≠ a) : (s.setClocks a).av b = s.av b := by
  obtain ⟨havail, -⟩ := clocksSet_frame s a
  obtain h | ⟨mv, h⟩ := setClocks_cases s a
  · rw [h, av_congr havail]
  · rw [h, av_emit, State.av_setAv, if_neg hb, av_congr havail]

theorem out_sub_setClocks (s : State) (a : Nat) : s.out ⊆ (s.setClocks a).out := by
  obtain ⟨-, hout⟩ := clocksSet_frame s a
  obtain h | ⟨mv, h⟩ := setClocks_cases s a
  · rw [h, hout]
    exact List.Subset.refl _
  · intro o ho
    rw [h]
    exact State.mem_emit_of_mem _ (by simpa [hout] using ho)

/-- A Tj that reaches `T_SHED`: both PFs are told, and then at most the clocks fall (R473). -/
theorem heatStep_shed {s : State} {a : Nat} {tj : Int} (hshed : (s.regs.fld 0x780000 21 15 : Int) ≤ tj)
    (hbelow : (s.av a).tj < s.regs.fld 0x780000 21 15) :
    let u := (s.setAv a { s.av a with tj := tj }).raise Src.power 0x03 (a + tempByte tj * 256)
    s.heatStep a tj = u ∨ ∃ n, s.heatStep a tj = (u.setAv a { u.av a with cool := n }).setClocks a := by
  simp only [State.heatStep, hshed, hbelow, and_self, if_true]
  split
  · exact .inr ⟨_, rfl⟩
  · exact .inl rfl

/-- Below `T_SHED`, where no clock has been lowered, a Tj is only noted. -/
theorem heatStep_cool {s : State} {a : Nat} {tj : Int} (hcool : tj < (s.regs.fld 0x780000 21 15 : Int)) (hzero : (s.av a).cool = 0) :
    s.heatStep a tj = s.setAv a { s.av a with tj := tj } := by
  simp [State.heatStep, not_le.2 hcool, hzero]

/-- What the regulators' fast limit does before it is told: every engine is gated, and the limit counted (R471). -/
def fastLimited (s : State) : State :=
  ({ gateAll s with pwr := { (gateAll s).pwr with fastGated := true } } : State).tally 0x780058 1

theorem execFastPowerLimit_eq (s : State) : execFastPowerLimit s = .next ((fastLimited s).raise Src.power 0x04 0xF) := by
  simp only [execFastPowerLimit, fastLimited, gateAll, gateAvenue]

theorem fastLimited_frame (s : State) : (fastLimited s).host = s.host ∧ (fastLimited s).boot = s.boot ∧
    (fastLimited s).eng = (gateAll s).eng ∧ (fastLimited s).pwr = { s.pwr with fastGated := true } := by
  obtain ⟨hhost, hboot, hpwr⟩ := gateAll_frame s
  simp [fastLimited, hhost, hboot, hpwr]

/-- What a junction trip does before it is told (R471). -/
def tripped (s : State) (a : Nat) : State := (gateAvenue s a).setAv a { (gateAvenue s a).av a with tripped := true }

theorem execJunctionTrip_eq (s : State) (av : Avenue) :
    execJunctionTrip av s = .next ((tripped s av).raise Src.power 0x04 (av + 2 ^ 8)) := by
  simp only [execJunctionTrip, tripped, gateAvenue]

theorem tripped_av (s : State) (a b : Nat) : (tripped s a).av b = if b = a then { s.av a with tripped := true } else s.av b := by
  obtain ⟨-, -, havail, -, -⟩ := gateAvenue_frame s a
  rw [tripped, State.av_setAv, av_congr havail, av_congr havail]

theorem execThermalStep_one (s : State) {a : Nat} (ha : a < 9) (tj : Int) : execThermalStep [(a, tj)] s = .next (s.heatStep a tj) := by
  simp [execThermalStep, ha]

/-- The first engine that can be drained is (R17, R473). -/
theorem execNeighbourDrain_one {s : State} {av : Avenue} {e : Nat} (other : Avenue) (hpaired : (s.av av).paired = true)
    (hhead : (s.drainable av).head? = some e) : execNeighbourDrain av other false s = .next (s.drainEngine av e) := by
  simp [execNeighbourDrain, hpaired, hhead]

/-- The state with a sample of an Avenue's mean temperature taken (R474). -/
def sampled (s : State) (a : Nat) (tj : Int) : State := s.setAv a { s.av a with temps := (tj :: (s.av a).temps).take 86400 }

/-- Settles O38: a lemma for what each row does, and the rules of notices, engines and clocks. -/
theorem heatAndLimits : Obligations.HeatAndLimits := by
  refine ⟨?silent, ?answers, ?fastLimit, fun s => ⟨_, rfl, rfl⟩, ?trip, ?tripRelease, ?shed, ?cool, ?neighbour, ?drainRunning, ?drainIdle,
    ?drainEnd, ?sample, ?warmer, ?cooler, fun s av => ⟨_, rfl, rfl⟩⟩
  case silent =>
    intro s rail h
    have hthree : ((s.pollOne rail none).pwr.missed.get rail) = some 3 := by simp [pollOne_third h]
    have hany : ((s.pollOne rail none).pwr.missed.any fun x => x.2 == 3) = true :=
      List.any_eq_true.2 ⟨_, mem_of_get_eq_some hthree, rfl⟩
    refine ⟨s.pollOne rail none, congrArg Host.Outcome.next (if_pos hany), hthree, ?_, ?_⟩
    · rw [pollOne_third h]
      exact mem_conds_raiseLevel ..
    · simp [pollOne_third h]
  case answers =>
    intro s rail v hothers hwf
    have hnone : ((s.pwr.missed.del rail).any fun x => x.2 == 3) = false :=
      List.any_eq_false.2 fun e he => by simpa using hothers e (Table.mem_del he) (key_ne_of_mem_del hwf he)
    refine ⟨(s.pollOne rail (some v)).endLevel Src.power 0x06, congrArg Host.Outcome.next (if_neg ?_),
      Table.get_del_same rail hwf, not_mem_conds_endLevel _ _ _⟩
    rw [Bool.not_eq_true]
    exact hnone
  case fastLimit =>
    intro s
    obtain ⟨hhost, hboot, heng, hpwr⟩ := fastLimited_frame s
    refine ⟨_, execFastPowerLimit_eq s, by simp [hpwr], fun a e ha he => ?_, fun h => told_raise _ _ _ (listening_congr h hboot hhost)⟩
    rw [engOf_congr (s := gateAll s) (by simp [heng])]
    exact gateAll_gates s ha he
  case trip =>
    intro s av
    obtain ⟨hhost, hboot, -, -, -⟩ := gateAvenue_frame s av
    refine ⟨_, execJunctionTrip_eq s av, ?_, fun a ha => ?_, fun e he => ?_,
      fun h => told_raise _ _ _ (listening_congr h (by simpa [tripped] using hboot) (by simpa [tripped] using hhost))⟩
    · rw [av_raise, tripped_av, if_pos rfl]
    · rw [av_raise, tripped_av, if_neg ha]
    · rw [engOf_congr (s := gateAvenue s av) (by simp [tripped, State.setAv])]
      exact gateAvenue_gates s av he
  case tripRelease =>
    intro s av
    exact ⟨_, rfl, by simp, fun a ha => by simp [ha], rfl⟩
  case shed =>
    intro s a tj ha hshed hbelow
    refine ⟨s.heatStep a tj, execThermalStep_one s ha tj, ?_⟩
    have htold (hl : Listening s) : Told ((s.setAv a { s.av a with tj := tj }).raise Src.power 0x03 (a + tempByte tj * 256)) Src.power 0x03
        (a + tempByte tj * 256) := told_raise _ _ _ (listening_congr hl rfl rfl)
    rcases heatStep_shed hshed hbelow with hstep | ⟨n, hstep⟩
    · rw [hstep]
      exact ⟨by simp, fun b hb => by simp [hb], htold⟩
    · rw [hstep]
      refine ⟨?_, fun b hb => ?_, fun hl => told_mono (htold hl) fun o ho => out_sub_setClocks _ a (by simpa using ho)⟩
      · simp [setClocks_tj]
      · simp [setClocks_av_other _ hb, hb]
  case cool =>
    intro s a tj ha hcool hzero
    refine ⟨s.setAv a { s.av a with tj := tj }, ?_, by simp, rfl⟩
    rw [← heatStep_cool hcool hzero]
    exact execThermalStep_one s ha tj
  case neighbour =>
    intro s av other volt temp h
    have hlimits : ¬(!volt && !temp) = true := by simp [← Bool.not_or, h]
    refine ⟨_, congrArg Host.Outcome.next (if_neg hlimits), ?_, mem_conds_raiseLevel .., by simp⟩
    rw [av_raiseLevel, State.av_setAv, if_pos rfl]
  case drainRunning =>
    intro s av other e hpaired hhead hrun
    have hstep : s.drainEngine av e = s.setEng av e { s.engOf av e with drain := true } := by simp [State.drainEngine, hrun]
    refine ⟨_, (execNeighbourDrain_one other hpaired hhead).trans (congrArg _ hstep), engOf_setEng_same .., rfl⟩
  case drainIdle =>
    intro s av other e hpaired hhead hidle
    have hstep : s.drainEngine av e = (s.engOff av e).tally (0x200000 + av * 0x40000 + 0x820) 1 := by simp [State.drainEngine, hidle]
    have hoff : (((s.engOff av e).tally (0x200000 + av * 0x40000 + 0x820) 1).engOf av e) =
        { s.engOf av e with st := .off, fcur := 0, district := 0, job := none, group := none, hint := none, drain := false } :=
      engOf_setEng_same ..
    refine ⟨_, (execNeighbourDrain_one other hpaired hhead).trans (congrArg _ hstep), ?_, ⟨?_, ?_⟩, rfl⟩
    · rw [hoff]
    · rw [hoff]
    · rw [hoff]
  case drainEnd =>
    intro s av other
    refine ⟨_, congrArg Host.Outcome.next (if_pos rfl), ?_, not_mem_conds_endLevel _ _ _, rfl⟩
    rw [av_endLevel, State.av_setAv, if_pos rfl]
  case sample =>
    intro s av tj
    have hav : (sampled s av tj).av av = { s.av av with temps := (tj :: (s.av av).temps).take 86400 } := (State.av_setAv ..).trans (if_pos rfl)
    by_cases hwarm : (sampled s av tj).tooWarm = true
    · refine ⟨{ sampled s av tj with pwr := { s.pwr with overAt := s.clock } }, congrArg Host.Outcome.next (if_pos hwarm), hav, ?_, rfl⟩
      exact (if_pos (c := (sampled s av tj).tooWarm = true) hwarm).symm
    · exact ⟨sampled s av tj, congrArg Host.Outcome.next (if_neg hwarm), hav, (if_neg hwarm).symm, rfl⟩
  case warmer =>
    intro s hwarm hsched
    refine ⟨_, congrArg Host.Outcome.next (if_pos hwarm), ?_, ?_, ?_⟩
    · simp [hsched]
    · simp
    · simp
  case cooler =>
    intro s hcool hago hdown
    refine ⟨_, congrArg Host.Outcome.next ?_, rfl⟩
    simp [hcool, hago, hdown]

end Sys2Proof.Proofs
end

section
/-! The failure of an Avenue whose RETIRED engine still holds a job (R195, R506). -/

namespace Sys2Proof.Proofs

open Sys2Proof Sys2Proof.Machine Sys2Proof.Claims

/-- A job in flight, with work in share 0. -/
def flyingJob : Job where
  cmd := ⟨0, ⟨0x30, 1, 5, 7, 0, 0, 0, 0, 0, 0, 0, false⟩⟩
  phase := .streaming
  arrived := 0
  attempts := 1
  commitStarted := false
  args := []
  windows := []
  granules := 0
  staging := 0
  used := []
  work := [(0, ⟨0, 1, 0, [], 0, false, false⟩)]
  input := []
  faults := []
  elemFaults := []
  num := none
  kept := none
  after := []
  energy := 0
  est := false
  started := none

/-- Avenue 0 serves share 0 and the spare is ready; engine 0 of Avenue 0 is RETIRED and still stands in job 1's engines. -/
def retiredWithJob : State := { State.reset with
  avail := { State.reset.avail with
    avs := [(0, { Av.init with role := .serving, share := some 0 }), (8, { Av.init with role := .spareReady })] }
  eng := { engs := [(0, ⟨.retired, 200, 0, 5, some 1, none, none, false⟩)], held := [], jobs := [(1, flyingJob)], nextJob := 2 } }

/-- The failure stops the Avenue's engines but leaves the RETIRED one as it is; the job that starts again then frees that engine to IDLE. -/
theorem failAvenue_idles_retired : ((retiredWithJob.failAvenue 0).engOf 0 0).st = .idle := by decide

/-- Refutes O41: a RETIRED engine that still holds a job is IDLE after its Avenue fails, neither OFF nor RETIRED. -/
theorem not_failOver : ¬ Obligations.FailOver := by
  intro h
  obtain ⟨hfails, -⟩ := h
  obtain ⟨t, ht, -, -, -, -, -, hengines, -⟩ := hfails retiredWithJob 0 0 8 rfl rfl ⟨rfl, rfl, rfl⟩ (by decide) rfl
  obtain rfl : retiredWithJob.failAvenue 0 = t := Host.Outcome.next.inj ht
  have hst := hengines 0 (by decide)
  rw [show Fin.val (0 : Avenue) = 0 from rfl, failAvenue_idles_retired] at hst
  simp at hst

end Sys2Proof.Proofs
end

section
/-! Sending a message, a Signal or a record only adds to what has been sent (R70, R180, R366, R397). -/

namespace Sys2Proof.Proofs

open Sys2Proof Sys2Proof.Machine Sys2Proof.Claims

theorem out_sub_noteNoRoute (s : State) (dst : Nat) : s.out ⊆ (s.noteNoRoute dst).out := by
  simp only [State.noteNoRoute]
  split
  · split
    · exact fun _ ho => out_sub_raise _ _ _ _ _ ho
    · exact List.Subset.refl _
  · exact fun _ ho => out_sub_raise _ _ _ _ _ ho

theorem out_sub_post (s : State) (m : Msg) (d : Option Nat) : s.out ⊆ (s.post m d).out := by
  have htry : (s.tryPost m none d).1.out = s.out := by simp
  simp only [State.post]
  split
  · exact htry ▸ List.Subset.refl _
  · intro o ho
    rw [← htry] at ho
    simpa using out_sub_noteNoRoute _ _ ho

theorem out_sub_sendDat (s : State) (port flow : Nat) (d : Option Nat) (m : Dat) : s.out ⊆ (s.sendDat port flow d m).out :=
  fun _ ho => out_sub_post _ _ _ (State.mem_emit_of_mem _ ho)

theorem mem_sendDat {s : State} (hmute : s.mute = false) (port flow : Nat) (d : Option Nat) (m : Dat) :
    Out.dat port m ∈ (s.sendDat port flow d m).out := out_sub_post _ _ _ (State.mem_emit _ hmute)

theorem out_sub_sendSettle (s : State) (dst tag reason : Nat) : s.out ⊆ (s.sendSettle dst tag reason).out :=
  fun _ ho => out_sub_post _ _ _ (State.mem_emit_of_mem _ ho)

theorem mem_sendSettle {s : State} (hmute : s.mute = false) (dst tag reason : Nat) :
    Out.settle 12 dst tag reason ∈ (s.sendSettle dst tag reason).out := out_sub_post _ _ _ (State.mem_emit _ hmute)

/-- A fold whose steps only add to what has been sent only adds to it. -/
theorem out_sub_foldl {α : Type} {f : State → α → State} (l : List α) (s : State) (h : ∀ s a, s.out ⊆ (f s a).out) :
    s.out ⊆ (l.foldl f s).out :=
  List.foldlRecOn l f (motive := fun t : State => s.out ⊆ t.out) (List.Subset.refl _) fun t ht a _ _ ho => h t a (ht ho)

theorem out_sub_sendSignals (s : State) (ms : List Signal) : s.out ⊆ (s.sendSignals ms).out :=
  out_sub_foldl ms s fun _ _ _ ho => out_sub_post _ _ _ (State.mem_emit_of_mem _ ho)

theorem out_sub_flagOr (s : State) (n bit : Nat) : s.out ⊆ (s.flagOr n bit).out := by
  simp only [State.flagOr]
  split
  · exact List.Subset.refl _
  · split
    · exact List.Subset.refl _
    · exact fun o ho => out_sub_sendSignals _ _ (by simpa [State.dropRegs, State.draw] using ho)

theorem out_sub_stopRing (s : State) (ring cause : Nat) : s.out ⊆ (s.stopRing ring cause).out := by
  simp only [State.stopRing]
  split
  · exact fun o ho => out_sub_raise _ _ _ _ _ ho
  · exact List.Subset.refl _

theorem out_sub_putRecord (s : State) (ring : Nat) (rcd : Record) : s.out ⊆ (s.putRecord ring rcd).out := by
  simp only [State.putRecord]
  split
  · exact List.Subset.refl _
  split
  · exact out_sub_stopRing _ _ _
  have hmsix : ∀ (t : State) (c : Prop) [Decidable c] (m : Out), t.out ⊆ (if c then t.emit m else t).out := fun t c _ m => by
    split
    · exact out_sub_emit t m
    · exact List.Subset.refl _
  have hsent : ∀ (t : State) (m : Out) (x : Ring), t.out ⊆ ((t.emit m).setRing ring x).out := fun t m x => out_sub_emit t m
  split
  · split
    · exact fun o ho => out_sub_flagOr _ _ _ (hmsix _ _ _ (hsent _ _ _ (hmsix _ _ _ ho)))
    · exact fun o ho => hmsix _ _ _ (hsent _ _ _ (hmsix _ _ _ ho))
  · exact fun o ho => hmsix _ _ _ (hsent _ _ _ (hmsix _ _ _ ho))

end Sys2Proof.Proofs
end

section
/-! Ring commands that nothing holds back: how they start, and the record that ends them (R392 to R397). -/

namespace Sys2Proof.Proofs

open Sys2Proof Sys2Proof.Machine Sys2Proof.Claims

/-- A host ring whose records can be written (R397, R408, R504). -/
def HostRing (s : State) (ring : Nat) : Prop :=
  (s.ring ring).st = .running ∧ (s.ring ring).acc = none ∧ s.mute = false ∧ s.host.hostDown.contains (ringFn ring / 256) = false

/-- A ring whose lists of commands alone have changed. -/
theorem hostRing_setRing {s : State} {ring : Nat} (n : Nat) {x : Ring} (h : HostRing s ring) (hst : x.st = (s.ring n).st)
    (hacc : x.acc = (s.ring n).acc) : HostRing (s.setRing n x) ring := by
  obtain ⟨hrun, hhost, hmute, hdown⟩ := h
  refine ⟨?_, ?_, hmute, hdown⟩
  · rw [State.ring_setRing]
    split
    case isTrue heq => rw [hst, ← heq, hrun]
    case isFalse => exact hrun
  · rw [State.ring_setRing]
    split
    case isTrue heq => rw [hacc, ← heq, hhost]
    case isFalse => exact hhost

theorem hostRing_pick {s : State} {c : Cmd} {ring : Nat} (h : HostRing s ring) : HostRing (s.pick c) ring := by
  simp only [State.pick]
  split
  · exact h
  · exact hostRing_setRing _ h rfl rfl

theorem hostRing_launch {s : State} {c : Cmd} {ring : Nat} (h : HostRing s ring) : HostRing (s.launch c) ring :=
  hostRing_setRing _ h rfl rfl

theorem hostRing_leaveRing {s : State} {c : Cmd} {ring : Nat} (h : HostRing s ring) : HostRing (s.leaveRing c) ring := by
  simp only [State.leaveRing]
  split
  · exact hostRing_setRing _ h rfl rfl
  · exact h

theorem hostRing_congr {s t : State} {ring : Nat} (h : HostRing s ring) (hrings : t.host.rings = s.host.rings)
    (hdown : t.host.hostDown = s.host.hostDown) (hboot : t.boot = s.boot) : HostRing t ring := by
  simpa only [HostRing, State.ring, State.mute, hrings, hdown, hboot] using h

/-- A record written on a host ring is sent (R395, R397). -/
theorem ends_putRecord {s : State} {c : Cmd} {rcd : Record} (h : HostRing s c.ring) (hid : rcd.cmdId = c.d.cmdId) :
    Ends (s.putRecord c.ring rcd) c rcd.status rcd.detail rcd.result := by
  obtain ⟨hrun, hhost, hmute, hdown⟩ := h
  exact ⟨_, _, _, State.record_mem_putRecord rcd hrun hmute hhost hdown, hid, rfl, rfl, rfl⟩

theorem ends_mono {s t : State} {c : Cmd} {status detail result : Nat} (h : Ends s c status detail result) (hsub : s.out ⊆ t.out) :
    Ends t c status detail result := by
  obtain ⟨slot, phase, r, hr, hsame⟩ := h
  exact ⟨slot, phase, r, hsub hr, hsame⟩

/-- A command that completes on a host ring leaves its record (R395); the replays of its copies come after it. -/
theorem ends_finish {s : State} {c : Cmd} {rcd : Record} (h : HostRing s c.ring) (hid : rcd.cmdId = c.d.cmdId) :
    Ends (s.finish c rcd) c rcd.status rcd.detail rcd.result := by
  have hleft : HostRing (s.leaveRing c) c.ring := hostRing_leaveRing h
  have hcopies : ∀ (t : State) (x : Retained) (l : List Cmd),
      t.out ⊆ (l.foldl (fun s k => (s.leaveRing k).putRecord k.ring (replayOf k x)) t).out := fun t x l =>
    out_sub_foldl l t fun s k o ho => out_sub_putRecord _ _ _ (by simpa using ho)
  simp only [State.finish]
  split
  · refine ends_mono (ends_putRecord ?_ hid) (hcopies _ _ _)
    exact hostRing_congr hleft rfl rfl rfl
  · exact ends_putRecord hleft hid

theorem ends_done {s : State} {c : Cmd} (h : HostRing s c.ring) (result : Nat) : Ends (s.done c result) c 0 0 result :=
  ends_finish h rfl

theorem ends_endWith {s : State} {c : Cmd} (h : HostRing s c.ring) (x : Stop) : Ends (s.endWith c x) c x.1 x.2 0 := ends_finish h rfl

/-- Where every check passes, a last one decides. -/
theorem lowestOf_append_of_none {l : List (Option Stop)} (h : lowestOf (l ++ [none]) = none) (own : Option Stop) :
    lowestOf (l ++ [own]) = own := by
  have hl : lowestOf l = none := lowestOf_eq_none.2 fun x hx => lowestOf_eq_none.1 h x (List.mem_append_left _ hx)
  cases own with
  | none => exact h
  | some x => exact lowestOf_append_single hl

/-- Every check of a command that starts passes, so its own checks decide (R393). -/
theorem refusal_of_starts {s : State} {c : Cmd} {k : Kind} (h : Starts s c k) (own : Option Stop) : (s.pick c).refusal c k own = own := by
  obtain ⟨-, -, -, -, -, -, -, hnone⟩ := h
  revert hnone
  simp only [State.refusal]
  split
  · exact fun h => absurd (lowestOf_eq_none.1 h _ (List.mem_cons_of_mem _ List.mem_cons_self)) (by simp)
  · exact fun h => lowestOf_append_of_none (l := [_, _, _, _, _, _, _]) h own

theorem atHand_of_starts {s : State} {c : Cmd} {k : Kind} (h : Starts s c k) : s.atHand c = true := by
  obtain ⟨⟨hrun, -, -⟩, -⟩ := h
  simp [State.atHand, hrun]

/-- A command that starts, and whose own checks pass, has its effect (R393). -/
theorem command_of_starts {s : State} {c : Cmd} {k : Kind} {own : Option Stop} (h : Starts s c k) (hown : own = none)
    (go : State → State) : s.command c k own go = go (started s c) := by
  have hat := atHand_of_starts h
  have hx := (refusal_of_starts h own).trans hown
  obtain ⟨-, -, -, hl, hr, hs, hw, -⟩ := h
  exact State.command_eq_go go hat hl hr hs hw hx

/-- A command that starts but for its own checks ends with what they give, without a notice (R393). -/
theorem command_of_starts_refused {s : State} {c : Cmd} {k : Kind} {own : Option Stop} {x : Stop} (h : Starts s c k) (hown : own = some x)
    (hversion : x.1 ≠ Cs.refusedVersion) (hfull : x.2 ≠ 0xFE) (go : State → State) : s.command c k own go = (s.pick c).endWith c x := by
  have hat := atHand_of_starts h
  have hx := (refusal_of_starts h own).trans hown
  obtain ⟨-, -, -, hl, hr, hs, hw, -⟩ := h
  rw [State.command_eq_refused go hat hl hr hs hw hx]
  simp [State.refusalNotice, hversion, hfull]

/-- The issuer of a command that starts is admitted by its kind (R389). -/
theorem admits_of_starts {s : State} {c : Cmd} {k : Kind} (h : Starts s c k) : (s.pick c).admits k c = true := by
  obtain ⟨-, -, -, -, -, -, -, hnone⟩ := h
  revert hnone
  simp only [State.refusal]
  split
  · exact fun h => absurd (lowestOf_eq_none.1 h _ (List.mem_cons_of_mem _ List.mem_cons_self)) (by simp)
  · intro h
    simpa [chk] using lowestOf_eq_none.1 h _ (List.mem_cons_of_mem _ List.mem_cons_self)

/-- A command of a kind that a PF alone can issue stands on a host ring (R389). -/
theorem hostRing_of_starts {s : State} {c : Cmd} {k : Kind} (h : Starts s c k) (hk : k = .g ∨ k = .pf) : HostRing s c.ring := by
  have hhost : isAccRing c.ring = false := by
    have hadmits := admits_of_starts h
    rcases hk with rfl | rfl
    · simp only [State.admits, State.isG, Bool.and_eq_true, Bool.not_eq_true'] at hadmits
      exact hadmits.1.1
    · simp only [State.admits, Bool.and_eq_true, Bool.not_eq_true'] at hadmits
      exact hadmits.1
  obtain ⟨⟨hrun, hmute, hdown⟩, hacc, -⟩ := h
  have hnoacc : (s.ring c.ring).acc = none := by simpa [hhost] using hacc
  exact ⟨hrun, hnoacc, hmute, hdown (by simp [hnoacc])⟩

theorem hostRing_started {s : State} {c : Cmd} {k : Kind} (h : Starts s c k) (hk : k = .g ∨ k = .pf) : HostRing (started s c) c.ring :=
  hostRing_launch (hostRing_pick (hostRing_of_starts h hk))

theorem running_started (s : State) (c : Cmd) : Running (started s c) c := by
  simp [Running, started, State.launch]

end Sys2Proof.Proofs
end

section
/-! Central pairs, checkpoints, fences and the health report (R27, R516 to R522). -/

namespace Sys2Proof.Proofs

open Sys2Proof Sys2Proof.Machine Sys2Proof.Claims

theorem isFenced_del_self {s : State} (n : Nat) (hwf : s.coh.fenced.wf = true) :
    State.isFenced { s with coh := { s.coh with fenced := s.coh.fenced.del n } } n = false := by
  simp [State.isFenced, Table.has, Table.get_del_same n hwf]

theorem isFenced_del_of_ne (s : State) {n m : Nat} (h : m ≠ n) :
    State.isFenced { s with coh := { s.coh with fenced := s.coh.fenced.del n } } m = s.isFenced m := by
  simp [State.isFenced, Table.has, Table.get_del_of_ne _ h]

theorem isFenced_congr {s t : State} (h : t.coh = s.coh) (n : Nat) : t.isFenced n = s.isFenced n := by rw [State.isFenced, h]; rfl

@[simp] theorem leBytes_length (n v : Nat) : (leBytes n v).length = n := by
  induction n generalizing v with
  | zero => rfl
  | succ n ih => rw [leBytes, List.length_cons, ih]

/-- The sum of equal lengths. -/
theorem length_flatten_map {α β : Type} (l : List α) (f : α → List β) (n : Nat) (h : ∀ a, (f a).length = n) :
    ((l.map f).flatten).length = l.length * n := by
  induction l with
  | nil => simp
  | cons a l ih => simp [h, ih, Nat.succ_mul, Nat.add_comm]

/-- The health report is 416 bytes: its header, nine Avenues and six cores (R522). -/
theorem healthReport_length (s : State) : s.healthReport.length = 416 := by
  have hav : ((List.range 9).map fun a => s.avHealth a).flatten.length = 9 * 32 := by
    rw [length_flatten_map _ _ 32 fun a => by simp [State.avHealth], List.length_range]
  have hcore : ((List.range 6).map fun k => s.coreHealth k).flatten.length = 6 * 16 := by
    rw [length_flatten_map _ _ 16 fun k => by simp [State.coreHealth], List.length_range]
  simp only [State.healthReport, List.length_append, leBytes_length, hav, hcore]

/-- A directory dump is 256 bytes for each set (R522). -/
theorem dirDump_length (s : State) (share first n : Nat) : (s.dirDump share first n).length = n * 256 := by
  have hway : ∀ k w, (dumpWay k w).length = 16 := by
    intro k w
    cases w with
    | none => simp [dumpWay]
    | some e => obtain ⟨line, e⟩ := e; simp [dumpWay]
  rw [State.dirDump, length_flatten_map _ _ 256, List.length_range]
  intro i
  rw [length_flatten_map _ _ 16 fun k => hway _ _, List.length_range]

/-- Bytes for a command's `BUF` begin a DMA to it (R95). -/
theorem writeBuf_eq_startDma (s : State) (c : Cmd) {data : List Byte} (rcd : Record) (hdata : 0 < data.length) :
    s.writeBuf c data rcd = s.startDma c (ringFn c.ring) true c.d.buf data.length data (.result rcd) := by
  rw [State.writeBuf, if_neg]
  rw [List.isEmpty_iff_length_eq_zero]
  omega

theorem dmaBegun_startDma {s : State} {c : Cmd} (hmute : s.mute = false) (fn len : Nat) (toHost : Bool) (data : List Byte) (use : DmaUse) :
    DmaBegun (s.startDma c fn toHost c.d.buf len data use) c toHost len := by
  refine ⟨s.host.nextDma, ⟨fn, c, toHost, c.d.buf, len, 0, data, false, false, 0, use⟩, ?_, rfl, rfl, rfl, rfl, rfl, State.mem_emit _ hmute⟩
  simp [State.startDma, State.setDma]

theorem rings_startDma (s : State) (c : Cmd) (fn addr len : Nat) (toHost : Bool) (data : List Byte) (use : DmaUse) :
    (s.startDma c fn toHost addr len data use).host.rings = s.host.rings := by simp [State.startDma, State.setDma]

theorem mute_started {s : State} {c : Cmd} (h : s.mute = false) : (started s c).mute = false := by
  simpa [started, State.mute] using h

theorem running_congr {s t : State} {c : Cmd} (h : Running s c) (hrings : t.host.rings = s.host.rings) : Running t c := by
  simpa only [Running, State.ring, hrings] using h

/-- A pair's row acts while its pair is not lost, or its standby not FAILED, no switch-over is in progress and firmware runs (R516, R519). -/
theorem pair_acts {bad ready : Bool} {w : Option Switch} (hbad : bad = false) (hw : w = none) (hready : ready = true) :
    ¬(bad || w.isSome || !ready) = true := by simp [hbad, hw, hready]

@[simp] theorem core_raise (s : State) (source cause data : Nat) (d : Option Nat) (p : Nat) :
    (s.raise source cause data d).core p = s.core p := by simp [State.core]

@[simp] theorem core_raiseLevel (s : State) (source cause data : Nat) (d : Option Nat) (p : Nat) :
    (s.raiseLevel source cause data d).core p = s.core p := by simp [State.core]

theorem passToFt_ft_ge (s : State) (t : Nat) : t ≤ (s.passToFt t).time.ft := by
  show t ≤ s.time.ft + (t - s.time.ft)
  omega

/-- The control core's checkpoint, when 100 ms of Fabric Time have passed since the last (R27, R292). -/
def checkpointed (s : State) (a n : Nat) : State :=
  let u := s.passToFt ((s.av a).checkpoint + 100000000)
  (u.setAv a { u.av a with checkpoint := u.time.ft }).setShare n { u.share n with copyLost := false }

theorem execAvenueCheckpoint_of_serving {s : State} {a : Avenue} {n : Nat} (hrole : (s.av a).role = .serving)
    (hshare : (s.av a).share = some n) : execAvenueCheckpoint a s = .next (checkpointed s a n) := by
  simp only [execAvenueCheckpoint, hshare, hrole, ne_eq, not_true_eq_false, if_false]
  rfl

theorem share_congr {s t : State} (h : t.avail = s.avail) (n : Nat) : t.share n = s.share n := by rw [State.share, h]; rfl

theorem av_setShare (s : State) (n a : Nat) (x : ShareSt) : (s.setShare n x).av a = s.av a := rfl

theorem share_setAv (s : State) (n a : Nat) (x : Av) : (s.setAv a x).share n = s.share n := rfl

/-- What the control core's checkpoint leaves: its time, the Avenues and the shares. -/
theorem checkpointed_values (s : State) (a n : Nat) :
    (checkpointed s a n).time.ft = (s.passToFt ((s.av a).checkpoint + 100000000)).time.ft ∧
    (∀ b, (checkpointed s a n).av b = if b = a then { s.av a with checkpoint := (checkpointed s a n).time.ft } else s.av b) ∧
    ∀ k, (checkpointed s a n).share k = if k = n then { s.share n with copyLost := false } else s.share k := by
  have havail : (s.passToFt ((s.av a).checkpoint + 100000000)).avail = s.avail := by simp
  generalize hu : s.passToFt ((s.av a).checkpoint + 100000000) = u at havail
  simp only [checkpointed, hu]
  refine ⟨by simp, fun b => ?_, fun k => ?_⟩
  · rw [av_setShare, State.av_setAv, av_congr havail, av_congr havail]
    simp
  · rw [State.share_setShare, share_setAv, share_congr havail, share_congr havail]

/-- A role swap of a ready pair, at an instant that R61 allows and that no other pair's swap is near, becomes an event (R520). -/
theorem execRoleSwap_of_ready {s : State} {c : Cmd} (hstarts : Starts s c .g) (hp : bitsOf c.d.p0 1 0 < 3)
    (hready : (s.core (bitsOf c.d.p0 1 0)).ready = true) (hroll : s.avail.roll = none) (hroom : s.eventRoom = true) (hat : c.d.p1 ≠ 0)
    (hok : s.instantOk c.d.p1 = true) (hevents : s.time.events = [])
    (hnear : ∀ q, q < 3 → q ≠ bitsOf c.d.p0 1 0 → s.periodicNear q c.d.p1 = false) :
    execRoleSwap c s = .next ((started s c).addEvent ⟨c.d.p1, .roleSwap (bitsOf c.d.p0 1 0) true, some c⟩) := by
  have hquiet : ((List.range 3).any fun q => q != bitsOf c.d.p0 1 0 && s.periodicNear q c.d.p1) = false := by
    refine List.any_eq_false.2 fun q hq => ?_
    by_cases hqp : q = bitsOf c.d.p0 1 0
    · simp [hqp]
    · simp [hnear q (List.mem_range.1 hq) hqp]
  have hp3 : (bitsOf c.d.p0 1 0 == 3) = false := by simp; omega
  simp only [execRoleSwap, if_neg hat, hevents, List.any_nil, Bool.or_false]
  refine congrArg Host.Outcome.next (command_of_starts hstarts ?_ _)
  simp only [hquiet, hready, hroll, hroom, hp3, hok, State.badInstant]
  simp [chk, lowestOf]

/-- A health report that fits begins its DMA (R522). -/
theorem execHealthRead_report {s : State} {c : Cmd} (hstarts : Starts s c .pf) (hdump : bitOf c.d.p1 0 = false)
    (hlen : 416 ≤ bitsOf c.d.p0 31 0) : execHealthRead c s = .next ((started s c).startDma c (ringFn c.ring) true c.d.buf 416
      (started s c).healthReport (.result (recOf c Cs.done 0 416))) := by
  have hsize := healthReport_length (started s c)
  have hbegin := writeBuf_eq_startDma (started s c) c (recOf c Cs.done 0 416) (by rw [hsize]; decide)
  rw [hsize] at hbegin
  have hown : chk (decide (bitsOf c.d.p0 31 0 < 416)) Cs.refusedParam = none := by simp [chk, hlen]
  simp only [execHealthRead, hdump, Bool.false_and, Bool.false_or, Bool.false_eq_true, if_false]
  exact congrArg Host.Outcome.next ((command_of_starts hstarts hown _).trans hbegin)

/-- A directory dump of sets that exist and fit begins its DMA (R522). -/
theorem execHealthRead_dump {s : State} {c : Cmd} {n : Nat} (hstarts : Starts s c .pf) (hdump : bitOf c.d.p1 0 = true)
    (hn : bitsOf c.d.p3 12 0 = n) (hlow : 1 ≤ n) (hhigh : n ≤ 4096) (hlast : bitsOf c.d.p2 16 0 + n ≤ 2 ^ 17)
    (hlen : n * 256 ≤ bitsOf c.d.p0 31 0) : execHealthRead c s = .next ((started s c).startDma c (ringFn c.ring) true c.d.buf (n * 256)
      ((started s c).dirDump (bitsOf c.d.p1 10 8) (bitsOf c.d.p2 16 0) n) (.result (recOf c Cs.done 0 (n * 256)))) := by
  have hsize := dirDump_length (started s c) (bitsOf c.d.p1 10 8) (bitsOf c.d.p2 16 0) n
  have hbegin := writeBuf_eq_startDma (started s c) c (recOf c Cs.done 0 (n * 256)) (by rw [hsize]; omega)
  rw [hsize] at hbegin
  have hown : chk (n == 0 || decide (4096 < n) || decide (2 ^ 17 < bitsOf c.d.p2 16 0 + n) || decide (bitsOf c.d.p0 31 0 < n * 256))
      Cs.refusedParam = none := by
    rw [chk, if_neg]
    simp only [Bool.or_eq_true, beq_iff_eq, decide_eq_true_eq, not_or]
    omega
  simp only [execHealthRead, hdump, hn, Bool.true_and, if_true]
  exact congrArg Host.Outcome.next ((command_of_starts hstarts hown _).trans hbegin)

/-- What the beginning of a DMA leaves. -/
theorem startDma_started_frame (s : State) (c : Cmd) (fn addr len : Nat) (toHost : Bool) (data : List Byte) (use : DmaUse) :
    ((started s c).startDma c fn toHost addr len data use).avail = s.avail ∧
      ((started s c).startDma c fn toHost addr len data use).coh = s.coh := by
  simp [started]

/-- Settles O44: a command that starts has its effect, and each timer's row acts on a pair or an Avenue that it finds in service. -/
theorem coresAndFences : Obligations.CoresAndFences := by
  refine ⟨?unfence, ?notFenced, ?swap, ?report, ?dump, ?avenue, ?core, ?passed, ?failed, ?takeOver, ?lost⟩
  case unfence =>
    intro s c hstarts hop hfenced hwf
    have hown : chk (!s.isFenced (bitsOf c.d.p0 15 0)) Cs.refusedState = none := by simp [chk, hfenced]
    have hcoh : (started s c).coh = s.coh := by simp [started]
    have hring := hostRing_started hstarts (.inl rfl)
    refine ⟨_, congrArg Host.Outcome.next (command_of_starts hstarts hown _), ?_, fun n hn => ?_, by simp [started], ?_⟩
    · rw [State.done, isFenced_congr (State.finish_frame _ _ _).2.2.2.2.2.1]
      exact isFenced_del_self _ (by rw [hcoh]; exact hwf)
    · rw [State.done, isFenced_congr (State.finish_frame _ _ _).2.2.2.2.2.1, isFenced_del_of_ne _ hn, isFenced_congr hcoh]
    · refine ends_done ?_ 0
      exact hostRing_congr hring rfl rfl rfl
  case notFenced =>
    intro s c hstarts hop hfree
    have hown : chk (!s.isFenced (bitsOf c.d.p0 15 0)) Cs.refusedState = some (Cs.refusedState, 0) := by simp [chk, hfree]
    refine ⟨_, congrArg Host.Outcome.next (command_of_starts_refused hstarts hown (by decide) (by decide) _), by simp, ?_⟩
    exact ends_endWith (hostRing_pick (hostRing_of_starts hstarts (.inl rfl))) _
  case swap =>
    intro s c p at' hstarts hop hp hready hroll hroom hat hok hevents hnear
    refine ⟨_, execRoleSwap_of_ready hstarts hp hready hroll hroom hat hok hevents hnear, ?_, running_started s c, ?_⟩
    · simp [State.addEvent, started, hevents, p, at']
    · simp [State.addEvent, started]
  case report =>
    intro s c hstarts hop hdump hlen
    have hmute := mute_started (c := c) hstarts.1.2.1
    exact ⟨_, execHealthRead_report hstarts hdump hlen, dmaBegun_startDma hmute _ _ _ _ _,
      running_congr (running_started s c) (rings_startDma ..), (startDma_started_frame ..).1⟩
  case dump =>
    intro s c n hstarts hop hdump hlow hhigh hlast hlen
    have hmute := mute_started (c := c) hstarts.1.2.1
    exact ⟨_, execHealthRead_dump hstarts hdump rfl hlow hhigh hlast hlen, dmaBegun_startDma hmute _ _ _ _ _, (startDma_started_frame ..).2⟩
  case avenue =>
    intro s a n hserving hshare
    obtain ⟨hft, hav, hsh⟩ := checkpointed_values s a n
    refine ⟨checkpointed s a n, execAvenueCheckpoint_of_serving hserving hshare, ?_, ?_, ?_, fun b hb => ?_, fun k hk => ?_⟩
    · rw [hav, if_pos rfl]
    · exact hft ▸ passToFt_ft_ge s _
    · rw [hsh, if_pos rfl]
    · rw [hav, if_neg (by simpa using hb)]
    · rw [hsh, if_neg (by simpa using hk)]
  case core =>
    intro s p hlost hsw hready
    refine ⟨_, congrArg Host.Outcome.next (if_neg (pair_acts hlost hsw hready)), by simp, ?_⟩
    simpa using passTo_clock_ge s ((s.core p).checkpoint + 10000000)
  case passed =>
    intro s p hfailed hsw hready
    exact ⟨_, congrArg Host.Outcome.next ((if_neg (pair_acts hfailed hsw hready)).trans (if_pos rfl)),
      (State.core_setCore ..).trans (if_pos rfl), rfl⟩
  case failed =>
    intro s p hfailed hsw hready
    exact ⟨_, congrArg Host.Outcome.next ((if_neg (pair_acts hfailed hsw hready)).trans (if_neg Bool.false_ne_true)),
      (State.core_setCore ..).trans (if_pos rfl), rfl⟩
  case takeOver =>
    intro s p hlost hsw hready hstandby
    refine ⟨_, congrArg Host.Outcome.next ((if_neg (pair_acts hlost hsw hready)).trans (if_pos hstandby)), ?_, fun h => told_raise _ _ _ ?_,
      by simp⟩
    · rw [core_raise, State.core_setCore, if_pos rfl]
    · exact listening_congr h rfl rfl
  case lost =>
    intro s p hlost hsw hready hstandby
    refine ⟨_, congrArg Host.Outcome.next ((if_neg (pair_acts hlost hsw hready)).trans (if_neg (by simp [hstandby]))), ?_,
      mem_conds_raiseLevel .., by simp⟩
    rw [core_raiseLevel, State.core_setCore, if_pos rfl]

end Sys2Proof.Proofs
end

section
/-! A request on its way to its home share, where nothing stands in its way: the checks of R80, its translation (R84 to R87) and its turn at
the home (R123, R132, R133). -/

namespace Sys2Proof.Proofs

open Sys2Proof Sys2Proof.Machine Sys2Proof.Claims

/-! ### Register values and sent messages -/

@[simp] theorem act_tally (s : State) (off n : Nat) : (s.tally off n).regs.act = s.regs.act := rfl

@[simp] theorem act_tallyAv (s : State) (n off : Nat) : (s.tallyAv n off).regs.act = s.regs.act := rfl

@[simp] theorem act_enqueue (s : State) (port : Nat) (q : Queued) : (s.enqueue port q).regs.act = s.regs.act := by
  simp only [State.enqueue]
  repeat' (first | (simp; done) | split)

@[simp] theorem act_tryPost (s : State) (m : Msg) (arrival district : Option Nat) :
    (s.tryPost m arrival district).1.regs.act = s.regs.act := by
  simp only [State.tryPost]
  repeat' (first | (simp; done) | split)

@[simp] theorem act_post (s : State) (m : Msg) (d : Option Nat) : (s.post m d).regs.act = s.regs.act := by
  simp only [State.post]
  split <;> simp

@[simp] theorem act_sendSettle (s : State) (dst tag reason : Nat) : (s.sendSettle dst tag reason).regs.act = s.regs.act := by
  simp [State.sendSettle]

/-- The home share of an address depends on the register values alone. -/
theorem home_congr {g h : Regs} (hact : h.act = g.act) (pa : Nat) : h.home pa = g.home pa := by
  simp [Regs.home, Regs.hashMask, Regs.val, hact]

theorem mute_congr {s t : State} (h : t.boot = s.boot) : t.mute = s.mute := by simp [State.mute, h]

/-- An answer that is sent at once is among what has been sent. -/
theorem mem_reply {s : State} {p : Pend} (hmute : s.mute = false) (hport : p.port ≠ 12) (helem : p.elem = none) (status detail : Nat)
    (data : Option (List Byte)) :
    Out.dat p.port ⟨p.op.answer (status == Jl.ok), p.src, p.tag, status, 0, detail, data⟩ ∈ (s.reply p status detail data).out := by
  simpa [State.reply, hport, helem] using mem_sendDat hmute p.port p.flow (some p.district) _

theorem out_sub_reply {s : State} {p : Pend} (helem : p.elem = none) (status detail : Nat) (data : Option (List Byte)) :
    s.out ⊆ (s.reply p status detail data).out := by
  intro o ho
  simp only [State.reply, helem]
  split
  · simpa using ho
  · simpa using out_sub_sendDat _ _ _ _ _ ho

/-- An answer touches the trackers and the ledger alone of what concerns coherence. -/
theorem coh_reply {s : State} {p : Pend} (helem : p.elem = none) (status detail : Nat) (data : Option (List Byte)) :
    (s.reply p status detail data).coh.early = s.coh.early ∧ (s.reply p status detail data).coh.dir = s.coh.dir := by
  simp only [State.reply, helem]
  split <;> simp [State.closeReq]

/-! ### The directory at rest -/

/-- Where no recall is about to end, no BUSY state completes (R134). -/
theorem settleBusy_of_noneEnding {s : State} (h : NoneEnding s) : s.settleBusy = s := by
  unfold State.settleBusy
  rw [List.filterMap_eq_nil_iff.2]
  · rfl
  intro e he
  cases hb : e.2.busy with
  | none => rfl
  | some b => simpa [Classical.or_iff_not_imp_left] using h e he b hb

theorem noneEnding_congr {s t : State} (h : NoneEnding s) (hdir : t.coh.dir = s.coh.dir) : NoneEnding t := by
  simpa only [NoneEnding, hdir] using h

/-! ### A page with nothing in its way -/

/-- The state with another directory. -/
def withDir (s : State) (D : Table DirEntry) : State := { s with coh := { s.coh with dir := D } }

theorem needCopy_congr {s t : State} (h : t.ms = s.ms) (d p : Nat) : t.needCopy d p = s.needCopy d p := by
  simp only [State.needCopy, State.msSlot, h]

theorem setFull_congr {s t : State} (hdir : t.coh.dir = s.coh.dir) (hact : t.regs.act = s.regs.act) (line : Nat) :
    t.setFull line = s.setFull line := by
  have hof : t.setOf line = s.setOf line := by simp only [State.setOf, hdir, home_congr hact]
  rw [State.setFull, hof]
  rfl

/-- `Homed` speaks of the mappings, the shares, the Milestones, the pages on their way, the lines, the directory, the requests that wait for
data and the address hash alone. -/
theorem homed_congr {s t : State} {d da pa len : Nat} (h : Homed s d da pa len) (hmaps : t.maps = s.maps) (hflash : t.flash = s.flash)
    (havail : t.avail = s.avail) (hms : t.ms = s.ms) (hmem : t.mem = s.mem) (hact : t.regs.act = s.regs.act)
    (hearly : t.coh.early = s.coh.early) (hfetch : t.coh.fetch = s.coh.fetch) (hdir : t.coh.dir = s.coh.dir) : Homed t d da pa len := by
  have hset : ∀ l, t.setFull l = s.setFull l := setFull_congr hdir hact
  simpa only [Homed, State.share, NoneEnding, needCopy_congr hms, hset, home_congr hact, hmaps, hflash, havail, hms, hmem, hearly, hfetch,
    hdir] using h

/-- A translated request reaches its home share: the ledger names the share, and the page has been referenced (R83, R313). -/
def reached (s : State) (p : Pend) (n : Nat) : State :=
  (if p.port < 12 then { s with coh := { s.coh with ledger := s.coh.ledger.map fun (t : Ledger) =>
    if t.port = p.port ∧ t.src = p.src ∧ t.tag = p.tag ∧ t.elem = p.elem then { t with share := n } else t } } else s).touchPage p.district
    (p.da / 4096) false

/-- What a request changes on its way to its home share: the mappings' marks and the ledger alone. -/
theorem reached_frame (s : State) (p : Pend) (n : Nat) :
    (reached s p n).free = s.free ∧ (reached s p n).out = s.out ∧ (reached s p n).regs = s.regs ∧ (reached s p n).mem = s.mem ∧
    (reached s p n).boot = s.boot ∧ (reached s p n).avail = s.avail ∧ (reached s p n).ms = s.ms ∧
    (reached s p n).coh.dir = s.coh.dir ∧ (reached s p n).coh.early = s.coh.early ∧ (reached s p n).coh.fetch = s.coh.fetch ∧
    (reached s p n).coh.wbWait = s.coh.wbWait ∧ (reached s p n).coh.stamp = s.coh.stamp := by
  unfold reached
  split <;> simp

/-- Step 9 of R80 where the page is resident and does not move. -/
theorem resolve_eq_toHome {s : State} {p : Pend} {pa : Nat} (hbound : p.bound = none) (hdrains : s.maps.drains = [])
    (hdemos : s.flash.demos = [])
    (hleaf : ∃ e ∈ s.maps.leafAt p.district (p.da / 4096), (e.2.tiered = true → e.2.resident = true) ∧
      s.maps.leafLost p.district (p.da / 4096) = false ∧ pa = leafFrame e.1 e.2 (p.da / 4096) * 4096 + p.da % 4096) :
    s.resolve p = s.toHome p pa := by
  obtain ⟨⟨first, l⟩, hat, hres, hlost, rfl⟩ := hleaf
  have hat' : s.maps.leafAt p.district (p.da / 4096) = some (first, l) := hat
  have hresident : (l.tiered && !l.resident) = false := by
    cases htiered : l.tiered
    · rfl
    · simpa using hres htiered
  have habandon : s.abandonDemotion p.district (p.da / 4096) = s := by simp [State.abandonDemotion, hdemos]
  simp [State.resolve, State.pageMoving, State.windowMoving, hdrains, habandon, hbound, hat', hlost, hresident]

/-- The way to an open home share of a request that early data does not answer and that is no undecided Atomic-Any. -/
theorem toHome_eq_atHome {s : State} {p : Pend} {pa : Nat} (hopen : (s.share (s.regs.home pa)).st = .opened)
    (hearly : p.early = false ∨ (p.op ≠ .readShared ∧ p.op ≠ .readOnce)) (hany : ∀ atop far, p.op ≠ .atomicAny atop far) :
    s.toHome p pa = (reached s p (s.regs.home pa)).atHome { p with pa := pa, share := s.regs.home pa } := by
  have hno : ∀ t : State, t.earlyOk { p with pa := pa, share := s.regs.home pa } = false := fun t => by
    rcases hearly with h | ⟨h1, h2⟩ <;> simp [State.earlyOk, *]
  have hdecide : ∀ t : State, t.decideAny { p with pa := pa, share := s.regs.home pa } = (t, { p with pa := pa, share := s.regs.home pa }) :=
    fun t => by simp only [State.decideAny]
  simp only [State.toHome, hopen, ne_eq, not_true_eq_false, and_false, if_false, hno, hdecide, reached]
  simp

/-- A request's turn at its home where it waits for nothing. -/
theorem atHome_eq_serve {s : State} {p : Pend} (hbound : p.bound = none) (hmask : p.op = .writeLine → p.mask ≠ 0)
    (hwb : p.op = .writeBack → s.writeBackOwned p = true)
    (hbusy : p.op ≠ .writeBack → ∀ l ∈ p.lines, ∀ e, s.coh.dir.get l = some e → e.busy = none)
    (hearly : s.coh.early = []) (hfetch : s.coh.fetch = []) (hcopying : s.ms.copying = []) (hneed : s.needCopy p.district (p.da / 4096) = [])
    (hcached : p.op ≠ .writeBack → ∀ l ∈ p.lines, s.mem.cache.has l = true) : s.atHome p = s.serve p := by
  have hidle : ¬((p.bound.isNone && p.lines.any fun l => ((s.coh.dir.get l).map (·.busy.isSome)).getD false) = true ∧ p.op ≠ .writeBack) := by
    rintro ⟨hany, hop⟩
    obtain ⟨l, hl, hb⟩ := List.any_eq_true.1 (Bool.and_eq_true_iff.1 hany).2
    cases hget : s.coh.dir.get l with
    | none => simp [hget] at hb
    | some e => simp [hget, hbusy hop l hl e hget] at hb
  have hhere : (p.needsData && p.lines.any fun l => !s.mem.cache.has l) = false := by
    by_cases hop : p.op = .writeBack
    · simp [Pend.needsData, hop]
    · rw [List.any_eq_false.2 fun l hl => by simp [hcached hop l hl], Bool.and_false]
  have hnotempty : ¬(p.op = .writeLine ∧ p.mask = 0) := fun h => hmask h.1 h.2
  have hnotstale : ¬(p.op = .writeBack ∧ (!s.writeBackOwned p) = true) := fun h => by simp [hwb h.1] at h
  simp only [State.atHome, if_neg hnotempty, if_neg hnotstale, if_neg hidle, hhere]
  simp [hearly, hcopying, hneed, hfetch, hbound]

/-- A request that touches one line. -/
theorem lines_of_one {p : Pend} (h : (p.pa + p.len - 1) / 64 = p.pa / 64) : p.lines = [p.pa / 64] := by simp [Pend.lines, h]

theorem mem_ends_of_mem_lines {p : Pend} {l : Nat} (h : l ∈ p.lines) : l ∈ [p.pa / 64, (p.pa + p.len - 1) / 64] := by
  simp only [Pend.lines] at h
  split at h
  · exact h
  · exact List.mem_cons.2 (.inl (List.mem_singleton.1 h))

/-- A translated request on a page with nothing in its way is served: `D` is the directory without what its home holds for it. -/
theorem resolve_eq_serve {s : State} {p : Pend} {pa len : Nat} {D : Table DirEntry} (h : Homed (withDir s D) p.district p.da pa len)
    (hlen : p.op ≠ .writeBack → p.len = len) (hbound : p.bound = none)
    (hearly : p.early = false ∨ (p.op ≠ .readShared ∧ p.op ≠ .readOnce))
    (hany : ∀ atop far, p.op ≠ .atomicAny atop far) (hmask : p.op = .writeLine → p.mask ≠ 0)
    (hwb : p.op = .writeBack → s.writeBackOwned { p with pa := pa } = true)
    (hbusy : p.op ≠ .writeBack → ∀ l ∈ ({ p with pa := pa } : Pend).lines, ∀ e, s.coh.dir.get l = some e → e.busy = none) :
    s.resolve p = (reached s p (s.regs.home pa)).serve { p with pa := pa, share := s.regs.home pa } := by
  obtain ⟨hleaf, hdrains, hdemos, hopen, hneed, hcopying, hnoearly, hfetch, -, hlines⟩ := h
  obtain ⟨-, -, -, hmem, -, -, hms, hdir, hre, hrf, -, -⟩ := reached_frame s p (s.regs.home pa)
  rw [resolve_eq_toHome (s := s) hbound hdrains hdemos hleaf, toHome_eq_atHome (s := s) hopen hearly hany]
  refine atHome_eq_serve hbound hmask (fun hop => ?_) (fun hop l hl e he => hbusy hop l hl e (hdir ▸ he)) (hre.trans hnoearly) (hrf.trans hfetch)
    (by rw [hms]; exact hcopying) ?_ fun hop l hl => ?_
  · simpa [State.writeBackOwned, hdir] using hwb hop
  · rw [needCopy_congr hms]; exact hneed
  · rw [hmem]
    exact (hlines l (hlen hop ▸ mem_ends_of_mem_lines hl)).2.1

/-! ### A request that passes the checks -/

/-- A request as it stands after its checks, with what its window gives it (R79, R84). -/
def checked (s : State) (port : Nat) (r : Req) (op : ReqOp) (len : Nat) (w : Window) : Pend :=
  { port := port, op := op, src := r.src, tag := r.tag, window := r.window, district := w.district, flow := r.flow, early := r.earlyOk && w.e,
    noAlloc := r.noAlloc, da := w.base + r.offset, pa := 0, len := len, steer := s.regs.steer r.offset, share := s.regs.steer r.offset,
    mask := r.mask, data := r.data, size := r.size, operand := r.operand, compare := r.compare, elem := none, bound := none }

/-- The state in which a request that has passed its checks is translated: it has left its port, and has its ledger entry and its tracker
(R82, R83, R347). -/
def taken (s : State) (port : Nat) (r : Req) (p : Pend) : State := ((s.takeRx port 0 r.src).enter p).grantTracker p

theorem taken_frame (s : State) (port : Nat) (r : Req) (p : Pend) :
    (taken s port r p).free = s.free ∧ (taken s port r p).out = s.out ∧ (taken s port r p).regs = s.regs ∧ (taken s port r p).mem = s.mem ∧
    (taken s port r p).boot = s.boot ∧ (taken s port r p).avail = s.avail ∧ (taken s port r p).ms = s.ms ∧
    (taken s port r p).maps = s.maps ∧ (taken s port r p).flash = s.flash ∧
    (taken s port r p).coh.dir = s.coh.dir ∧ (taken s port r p).coh.early = s.coh.early ∧ (taken s port r p).coh.fetch = s.coh.fetch := by
  simp [taken, State.enter, State.grantTracker]

/-- Taking a message from a receiver buffer leaves the link's encryption. -/
@[simp] theorem encOn_takeRx (s : State) (port cls src n : Nat) : ((s.takeRx port cls src).jl n).encOn = (s.jl n).encOn := by
  simp only [State.takeRx]
  split
  · rfl
  · simp only [State.jl_setJl]
    split
    · rename_i h; rw [h]
    · rfl

section
variable {s : State} {port : JPort} {r : Req} {D : Table DirEntry} {len pa : Nat} {perm : Window → Bool} {w : Window}

/-- Steps 2 to 7 of R80 let through what `Served` describes. -/
theorem checkReq_of_served {kinds : List Nat} {perm' : Window → Bool} (h : Served (withDir s D) port r r.offset len perm w pa)
    (hkinds : kinds.contains 0 = true) (hperm : perm' w = true) :
    (s.takeRx port 0 r.src).checkReq port r kinds perm' r.offset len = .ok w := by
  obtain ⟨-, hwin, ⟨d, hd, hst, henc, -⟩, hfenced, hadmits, hkind, -, hspan, -⟩ := h
  have hwin' : s.maps.windows.get r.window = some w := hwin
  have hd₀ : s.maps.districts.get w.district = some d := hd
  have hd' : (s.takeRx port 0 r.src).district w.district = some d := by simpa [State.district] using hd₀
  have hstate : (d.st != .inService && d.st != .converting) = false := by rcases hst with h | h <;> simp [h]
  have hnotFenced : ((s.takeRx port 0 r.src).isFenced r.src || !w.admits r.src) = false := by
    simp only [State.isFenced, State.takeRx_frame]
    exact Bool.or_eq_false_iff.2 ⟨hfenced, by simp [hadmits]⟩
  have henc' : (decide (d.level = 3) && !((s.takeRx port 0 r.src).jl port).encOn) = false := by
    by_cases hl : d.level = 3
    · have : (s.jl port).encOn = true := henc hl
      simp [this]
    · simp [hl]
  simp only [State.checkReq, State.takeRx_frame, hwin', hd', hstate, hnotFenced, hkind, hkinds, henc', hperm, if_neg (Nat.not_lt.2 hspan)]
  rfl

/-- What a window gives a request (R79, R84). -/
theorem bindPend_eq_checked (op : ReqOp) (h : Served (withDir s D) port r r.offset len perm w pa) (hany : ∀ atop far, op ≠ .atomicAny atop far)
    (hcross : ∀ code, op ≠ .crossing code) :
    (s.takeRx port 0 r.src).bindPend (reqPend r port op r.offset len none) w = checked s port r op len w := by
  obtain ⟨-, -, -, -, -, -, -, -, hbind, -⟩ := h
  cases op <;> simp_all [State.bindPend, reqPend, checked]

/-- Step 8 of R80 refuses nothing that `Served` describes (R82). -/
theorem trackerRefusal_of_served (op : ReqOp) (h : Served (withDir s D) port r r.offset len perm w pa) :
    (s.takeRx port 0 r.src).trackerRefusal (checked s port r op len w) = none := by
  obtain ⟨hledger, -, ⟨d, hd, -, -, hlimit⟩, -, -, -, -, -, -, -, hopen, hfree, -⟩ := h
  have hused : ∀ f : Tracker → Bool, (s.coh.trackers.filter f).length ≤ s.coh.trackers.length := fun f => List.length_filter_le _ _
  have hopen' : (s.share (s.regs.steer r.offset)).st = .opened := hopen
  have hledger' : s.coh.ledger = [] := hledger
  have hd' : s.maps.districts.get w.district = some d := hd
  have hlimit' : s.coh.trackers.length + 1 < d.trkLimit := hlimit
  have hfree' : s.coh.trackers.length + s.avFld (s.regs.steer r.offset) 0x200 10 0 + 1 < 8192 := hfree
  have hav : (s.takeRx port 0 r.src).avFld (s.regs.steer r.offset) 0x200 10 0 = s.avFld (s.regs.steer r.offset) 0x200 10 0 := by
    simp [State.avFld, State.avBase, State.servedBy]
  have hsh : (s.takeRx port 0 r.src).share (s.regs.steer r.offset) = s.share (s.regs.steer r.offset) := by simp [State.share]
  have h1 := hused fun t => t.share == s.regs.steer r.offset && decide (t.port < 12)
  have h2 := hused fun t => t.share == s.regs.steer r.offset && t.district == w.district && decide (t.port < 12)
  have hnospare : ¬(8192 - (s.coh.trackers.filter fun t => t.share == s.regs.steer r.offset && decide (t.port < 12)).length ≤
      s.avFld (s.regs.steer r.offset) 0x200 10 0) := by omega
  have hnolimit : ¬(d.trkLimit ≤ (s.coh.trackers.filter fun t =>
      t.share == s.regs.steer r.offset && t.district == w.district && decide (t.port < 12)).length) := by omega
  simp [State.trackerRefusal, checked, hsh, hopen', hledger', hav, State.trackersOf, hnospare, State.district, hd', hnolimit]

/-- Step 8 of R80 gives a tracker to what `Served` describes (R82). -/
theorem take_of_served (op : ReqOp) (h : Served (withDir s D) port r r.offset len perm w pa) :
    (s.takeRx port 0 r.src).take (checked s port r op len w) State.resolve =
      (taken s port r (checked s port r op len w)).resolve (checked s port r op len w) := by
  have hroom : ¬((checked s port r op len w).op = .writeBack ∧
      8192 ≤ ((s.takeRx port 0 r.src).enter (checked s port r op len w)).trackersOf (checked s port r op len w).steer) := by
    obtain ⟨-, -, -, -, -, -, -, -, -, -, -, hfree, -⟩ := h
    have hfree' : s.coh.trackers.length + s.avFld (s.regs.steer r.offset) 0x200 10 0 + 1 < 8192 := hfree
    have hused : ((s.takeRx port 0 r.src).enter (checked s port r op len w)).trackersOf (checked s port r op len w).steer ≤
        s.coh.trackers.length := by
      simpa [State.trackersOf, State.enter] using List.length_filter_le _ _
    omega
  simp only [State.take, trackerRefusal_of_served op h, if_neg hroom]
  rfl

/-- A request that `Served` describes passes its duplicate check and steps 1 to 7 of R80. -/
theorem arrive_of_served {kinds : List Nat} {perm' : Window → Bool} (op : ReqOp) (h : Served (withDir s D) port r r.offset len perm w pa)
    (hkinds : kinds.contains 0 = true) (hperm : perm' w = true) (go : State → Pend → Window → State)
    (hany : ∀ atop far, op ≠ .atomicAny atop far) (hcross : ∀ code, op ≠ .crossing code) :
    s.arrive port r op len true kinds perm' go = go (s.takeRx port 0 r.src) (checked s port r op len w) w := by
  have hledger : s.coh.ledger = [] := h.1
  have hnodup : (s.takeRx port 0 r.src).dupTag port r.src r.tag = false := by simp [State.dupTag, hledger]
  simp [State.arrive, hnodup, checkReq_of_served h hkinds hperm, bindPend_eq_checked op h hany hcross]

/-- A checked request with its translation and its home share (R86). -/
def translated (s : State) (port : Nat) (r : Req) (op : ReqOp) (len : Nat) (w : Window) (pa : Nat) : Pend :=
  { checked s port r op len w with pa := pa, share := s.regs.home pa }

/-- The state in which a checked request reaches its home share. -/
def atItsHome (s : State) (port : Nat) (r : Req) (op : ReqOp) (len : Nat) (w : Window) (pa : Nat) : State :=
  reached (taken s port r (checked s port r op len w)) (checked s port r op len w) (s.regs.home pa)

theorem atItsHome_frame (s : State) (port : Nat) (r : Req) (op : ReqOp) (len : Nat) (w : Window) (pa : Nat) :
    (atItsHome s port r op len w pa).out = s.out ∧ (atItsHome s port r op len w pa).mem = s.mem ∧
    (atItsHome s port r op len w pa).boot = s.boot ∧ (atItsHome s port r op len w pa).coh.dir = s.coh.dir := by
  simp [atItsHome, reached_frame, taken_frame]

/-- A request that `Served` describes is served at its home share: `D` is the directory without what the home holds for the request. -/
theorem resolve_of_served (op : ReqOp) (h : Served (withDir s D) port r r.offset len perm w pa) (hearly : op ≠ .readShared ∧ op ≠ .readOnce)
    (hany : ∀ atop far, op ≠ .atomicAny atop far) (hmask : op = .writeLine → r.mask ≠ 0)
    (hwb : op = .writeBack → s.writeBackOwned (translated s port r op len w pa) = true)
    (hbusy : op ≠ .writeBack → ∀ l ∈ (translated s port r op len w pa).lines, ∀ e, s.coh.dir.get l = some e → e.busy = none) :
    (taken s port r (checked s port r op len w)).resolve (checked s port r op len w) =
      (atItsHome s port r op len w pa).serve (translated s port r op len w pa) := by
  obtain ⟨hfree, hout, hregs, hmem, hboot, havail, hms, hmaps, hflash, hdir, hre, hrf⟩ := taken_frame s port r (checked s port r op len w)
  obtain ⟨-, -, -, -, -, -, -, -, -, -, -, -, hhomed, -⟩ := h
  have hhomed' : Homed (withDir (taken s port r (checked s port r op len w)) D) w.district (w.base + r.offset) pa len :=
    homed_congr hhomed hmaps hflash havail hms hmem (congrArg Regs.act hregs) hre hrf rfl
  rw [resolve_eq_serve (p := checked s port r op len w) hhomed' (fun _ => rfl) rfl (.inr hearly) hany hmask, hregs]
  · rfl
  · intro hop
    rw [State.writeBackOwned, hdir]
    exact hwb hop
  · rw [hdir]
    exact hbusy

/-- A request on memory that `Served` describes, from its arrival to what follows its service. -/
theorem memReq_of_served {perm' : Window → Bool} (op : ReqOp) (h : Served (withDir s D) port r r.offset len perm w pa) (hperm : perm' w = true)
    (hearly : op ≠ .readShared ∧ op ≠ .readOnce) (hany : ∀ atop far, op ≠ .atomicAny atop far) (hcross : ∀ code, op ≠ .crossing code)
    (hmask : op = .writeLine → r.mask ≠ 0)
    (hwb : op = .writeBack → s.writeBackOwned (translated s port r op len w pa) = true)
    (hbusy : op ≠ .writeBack → ∀ l ∈ (translated s port r op len w pa).lines, ∀ e, s.coh.dir.get l = some e → e.busy = none) :
    s.memReq port r op len true perm' = ((atItsHome s port r op len w pa).serve (translated s port r op len w pa)).settleBusy := by
  rw [State.memReq, arrive_of_served op h rfl hperm _ hany hcross, take_of_served op h, resolve_of_served op h hearly hany hmask hwb hbusy]

end

end Sys2Proof.Proofs
end

section
/-! A change at the home share of its line: the bytes it names and no others, and the answer that waits (R30, R31, R73). -/

namespace Sys2Proof.Proofs

open Sys2Proof Sys2Proof.Machine Sys2Proof.Claims

/-! ### Bytes of a line -/

/-- One step of a merge takes byte i of the new line. -/
def mergeByte (new : LineData) (mask : BitVec 64) (acc : LineData) (i : Nat) : LineData :=
  if mask.getLsbD i then (acc &&& ~~~ (0xFF#512 <<< (8 * i))) ||| (((new >>> (8 * i)) &&& 0xFF#512) <<< (8 * i)) else acc

theorem mergeLine_eq_foldl (old new : LineData) (mask : BitVec 64) :
    mergeLine old new mask = (List.range 64).foldl (mergeByte new mask) old := rfl

/-- The low byte of ones, bit by bit. -/
theorem getLsbD_ff (k : Nat) : (0xFF#512).getLsbD k = decide (k < 8) := by
  have h : k < 8 → k < 512 := fun h => by omega
  rw [BitVec.getLsbD_ofNat, show 0xFF = 2 ^ 8 - 1 from rfl, Nat.testBit_two_pow_sub_one]
  simpa using h

theorem getLsbD_mergeByte (new : LineData) (mask : BitVec 64) (acc : LineData) (i : Nat) {j : Nat} (hj : j < 512) :
    (mergeByte new mask acc i).getLsbD j = if mask.getLsbD i ∧ j / 8 = i then new.getLsbD j else acc.getLsbD j := by
  unfold mergeByte
  split
  · rename_i hm
    simp only [BitVec.getLsbD_or, BitVec.getLsbD_and, BitVec.getLsbD_not, BitVec.getLsbD_shiftLeft, BitVec.getLsbD_ushiftRight, getLsbD_ff,
      hj, hm]
    by_cases hji : j / 8 = i
    · have h1 : ¬j < 8 * i := by omega
      have h2 : j - 8 * i < 8 := by omega
      have h3 : 8 * i + (j - 8 * i) = j := by omega
      simp [hji, h1, h2, h3]
    · by_cases h1 : j < 8 * i
      · simp [hji, h1]
      · have h2 : ¬j - 8 * i < 8 := by omega
        simp [hji, h1, h2]
  · rename_i hm
    simp [hm]

/-- A merged line has the new line's bits in the bytes that the mask names and the old line's elsewhere (R73). -/
theorem getLsbD_mergeLine (old new : LineData) (mask : BitVec 64) {j : Nat} (hj : j < 512) :
    (mergeLine old new mask).getLsbD j = if mask.getLsbD (j / 8) then new.getLsbD j else old.getLsbD j := by
  have hsteps : ∀ n, ((List.range n).foldl (mergeByte new mask) old).getLsbD j =
      if mask.getLsbD (j / 8) ∧ j / 8 < n then new.getLsbD j else old.getLsbD j := by
    intro n
    induction n with
    | zero => simp
    | succ n ih =>
      rw [List.range_succ, List.foldl_append, List.foldl_cons, List.foldl_nil, getLsbD_mergeByte _ _ _ _ hj, ih]
      by_cases hn : j / 8 = n
      · simp [hn]
      · have : j / 8 < n + 1 ↔ j / 8 < n := by omega
        simp [hn, this]
  have hlt : j / 8 < 64 := by omega
  simpa [mergeLine_eq_foldl, hlt] using hsteps 64

/-- The line that a write of some bytes leaves (R73). -/
def writtenLine (old new : LineData) (mask : BitVec 64) : LineData :=
  if mask == BitVec.allOnes 64 then new else mergeLine old new mask

theorem getLsbD_writtenLine (old new : LineData) (mask : BitVec 64) {j : Nat} (hj : j < 512) :
    (writtenLine old new mask).getLsbD j = if mask.getLsbD (j / 8) then new.getLsbD j else old.getLsbD j := by
  unfold writtenLine
  split
  · rename_i h
    have hlt : j / 8 < 64 := by omega
    rw [eq_of_beq h, BitVec.getLsbD_allOnes, decide_eq_true hlt, if_pos rfl]
  · exact getLsbD_mergeLine old new mask hj

/-- The bytes of a written line: the new ones that the mask names, the old ones elsewhere (R73). -/
theorem byte_writtenLine (old new : LineData) (mask : BitVec 64) {i : Nat} (hi : i < 64) :
    (writtenLine old new mask).extractLsb' (i * 8) 8 = if mask.getLsbD i then new.extractLsb' (i * 8) 8 else old.extractLsb' (i * 8) 8 := by
  refine BitVec.eq_of_getLsbD_eq fun k hk => ?_
  have hj : i * 8 + k < 512 := by omega
  have hdiv : (i * 8 + k) / 8 = i := by omega
  rw [apply_ite (fun x : BitVec 8 => x.getLsbD k)]
  simp [getLsbD_writtenLine old new mask hj, hdiv, hk]

/-! ### A change at its home -/

section
variable (s : State) (line : Nat) (d : LineData) (mask : BitVec 64)

/-- A partial write, or a copy put into the mirror, leaves DRAM and the line caches (R30, R287). -/
theorem mirrorPut_mem (confirmed : Bool) :
    (s.mirrorPut line d confirmed).mem.cells = s.mem.cells ∧ (s.mirrorPut line d confirmed).mem.cache = s.mem.cache := by
  simp only [State.mirrorPut]
  repeat' (first | (simp; done) | split)

theorem noteWrite_cells (m : Memory) : (m.noteWrite line mask).cells = m.cells := by
  simp only [Memory.noteWrite]
  split <;> rfl

/-- Does a line carry the engine-presence mark (R118)? -/
def isMarked : Bool := ((s.mem.cache.get line).map (·.mark)).getD false

/-- A marked line is snooped when it changes (R119). -/
def snooped : State :=
  if isMarked s line then (s.emit (.snoop line)).tally (s.avBase (s.regs.home (line * 64)) + 0x340) 1 else s

/-- The line cache of the home takes a change (R30). -/
def cached : State :=
  { snooped s line with mem := { (snooped s line).mem.noteWrite line mask with
    cache := (snooped s line).mem.cache.put line
      ⟨writtenLine (s.mem.line line) d mask, true, s.mem.poisoned line && !(mask == BitVec.allOnes 64), isMarked s line⟩ } }

theorem snooped_mem : (snooped s line).mem = s.mem := by
  unfold snooped
  split <;> simp

/-- A snoop of the line is all that a change sends. -/
theorem out_snooped {o : Out} (ho : o ∈ (snooped s line).out) : o ∈ s.out ∨ o = .snoop line := by
  unfold snooped at ho
  split at ho
  · cases hm : s.mute with
    | true => exact .inl (by simpa [State.emit, hm] using ho)
    | false => simpa [State.emit, hm] using ho
  · exact .inl ho

theorem cached_mem : (cached s line d mask).mem.cells = s.mem.cells ∧ ∃ poison marked,
    (cached s line d mask).mem.cache = s.mem.cache.put line ⟨writtenLine (s.mem.line line) d mask, true, poison, marked⟩ := by
  constructor
  · simp [cached, noteWrite_cells, snooped_mem]
  · exact ⟨_, _, congrArg (Table.put · line _) (congrArg Memory.cache (snooped_mem s line))⟩

/-- A change at its home: the line cache takes it, and it is written to DRAM or put into the mirror (R30, R31). -/
theorem homeWrite_cases (confirmed : Bool) :
    s.homeWrite line d mask confirmed = ((cached s line d mask).startUpdate line, false, isMarked s line, true) ∨
    s.homeWrite line d mask confirmed =
      ((cached s line d mask).mirrorPut line (writtenLine (s.mem.line line) d mask) confirmed, !confirmed, isMarked s line, false) := by
  by_cases hwt : (cached s line d mask).writeThrough (s.regs.home (line * 64)) = true
  · exact .inl (if_pos hwt)
  · exact .inr (if_neg hwt)

/-- A change at its home writes its line into the line cache, and nothing to DRAM (R30). -/
theorem homeWrite_mem (confirmed : Bool) :
    (s.homeWrite line d mask confirmed).1.mem.cells = s.mem.cells ∧ ∃ poison marked,
      (s.homeWrite line d mask confirmed).1.mem.cache =
        s.mem.cache.put line ⟨writtenLine (s.mem.line line) d mask, true, poison, marked⟩ := by
  rcases homeWrite_cases s line d mask confirmed with h | h <;> rw [h] <;> simpa [mirrorPut_mem] using cached_mem s line d mask

/-- A line after a change at a home. -/
theorem line_homeWrite (confirmed : Bool) (l : Nat) :
    (s.homeWrite line d mask confirmed).1.mem.line l = if l = line then writtenLine (s.mem.line line) d mask else s.mem.line l := by
  obtain ⟨hcells, poison, marked, hcache⟩ := homeWrite_mem s line d mask confirmed
  by_cases hl : l = line
  · simp [Memory.line, hcache, hl]
  · simp [Memory.line, hcache, hl, Table.get_put_of_ne _ _ hl, Memory.dramLine, hcells]

/-- A change at its home sends nothing but the snoop of its line (R119). -/
theorem out_homeWrite (confirmed : Bool) {o : Out} (ho : o ∈ (s.homeWrite line d mask confirmed).1.out) :
    o ∈ s.out ∨ o = .snoop line := by
  have hout : (s.homeWrite line d mask confirmed).1.out = (snooped s line).out := by
    rcases homeWrite_cases s line d mask confirmed with h | h <;> rw [h] <;> simp [cached]
  exact out_snooped s line (hout ▸ ho)

/-- The acknowledgement of a change that the partner does not hold yet waits, for its mirror copy or for DRAM (R30, R31). -/
theorem needs_homeWrite :
    (s.homeWrite line d mask false).2.1 = true ∨ (s.homeWrite line d mask false).2.2.2 = true := by
  rcases homeWrite_cases s line d mask false with h | h <;> simp [h]

end

/-- A changed line with its answer held: the outcome of a change at its home. -/
def changed (s : State) (line : Nat) (d : LineData) (mask : BitVec 64) (p : Pend) (a : Dat) : State :=
  (s.homeWrite line d mask false).1.ackOrReply line p a (s.homeWrite line d mask false).2 []

theorem changed_eq_held (s : State) (line : Nat) (d : LineData) (mask : BitVec 64) (p : Pend) (a : Dat) :
    changed s line d mask p a = { (s.homeWrite line d mask false).1 with coh := { (s.homeWrite line d mask false).1.coh with
      acks := (s.homeWrite line d mask false).1.coh.acks ++ [⟨line, (s.homeWrite line d mask false).2.1, (s.homeWrite line d mask false).2.2.1,
        (s.homeWrite line d mask false).2.2.2, p, a, []⟩] } } := by
  have hneed : ((s.homeWrite line d mask false).2.1 || (s.homeWrite line d mask false).2.2.1 || (s.homeWrite line d mask false).2.2.2) = true := by
    rcases needs_homeWrite s line d mask with h | h <;> simp [h]
  rw [changed, State.ackOrReply, if_pos hneed]

section
variable (s : State) (line : Nat) (d : LineData) (mask : BitVec 64) (p : Pend) (a : Dat)

theorem answerHeld_changed : AnswerHeld (changed s line d mask p a) line a := by
  rw [changed_eq_held]
  exact ⟨_, List.mem_append_right _ (List.mem_singleton.2 rfl), rfl, rfl, needs_homeWrite s line d mask⟩

theorem line_changed (l : Nat) :
    (changed s line d mask p a).mem.line l = if l = line then writtenLine (s.mem.line line) d mask else s.mem.line l := by
  rw [changed_eq_held]
  exact line_homeWrite s line d mask false l

theorem out_changed {o : Out} (ho : o ∈ (changed s line d mask p a).out) : o ∈ s.out ∨ o = .snoop line := by
  rw [changed_eq_held] at ho
  exact out_homeWrite s line d mask false ho

theorem coh_changed : (changed s line d mask p a).coh.dir = s.coh.dir ∧ (changed s line d mask p a).coh.wbWait = s.coh.wbWait := by
  rw [changed_eq_held]
  simp

/-- A byte of another line, or one that the mask does not name, stays as it was (R73). -/
theorem byte_changed_of_not_named {a' : Nat} (h : ¬(a' / 64 = line ∧ mask.getLsbD (a' % 64) = true)) :
    (changed s line d mask p a).mem.byte a' = s.mem.byte a' := by
  unfold Memory.byte
  rw [line_changed]
  split
  · rename_i hl
    rw [byte_writtenLine _ _ _ (Nat.mod_lt _ (by decide)), if_neg (fun hm => h ⟨hl, hm⟩), hl]
  · rfl

end

/-- A write or a WriteBack as it is applied (R73, R133). -/
theorem applyChange_write {s : State} {p : Pend} (hop : p.op = .writeLine ∨ p.op = .writeBack) :
    s.applyChange p =
      changed (s.touchPage p.district (p.da / 4096) true) (p.pa / 64) p.data p.mask p ⟨.comp, p.src, p.tag, Jl.ok, 0, 0, none⟩ := by
  rcases hop with h | h <;> simp only [State.applyChange, h, changed]

end Sys2Proof.Proofs
end

section
/-! Writes, WriteBacks and far atomics at their home (R30, R73, R74, R109, R133). -/

namespace Sys2Proof.Proofs

open Sys2Proof Sys2Proof.Machine Sys2Proof.Claims

/-! ### The field that a far atomic changes -/

/-- The value of a field of a line in memory. -/
def fieldAt (m : Memory) (pa size : Nat) : Nat := (m.line (pa / 64) >>> (pa % 64 * 8)).toNat % 2 ^ (8 * size)

/-- The bytes of a field, as a mask of its line. -/
def fieldMask (pa size : Nat) : BitVec 64 := BitVec.ofNat 64 ((2 ^ size - 1) * 2 ^ (pa % 64))

theorem getLsbD_fieldMask (pa size : Nat) {i : Nat} (hi : i < 64) :
    (fieldMask pa size).getLsbD i = decide (pa % 64 ≤ i ∧ i < pa % 64 + size) := by
  rw [fieldMask, BitVec.getLsbD_ofNat, Nat.testBit_mul_two_pow, Nat.testBit_two_pow_sub_one]
  by_cases h1 : pa % 64 ≤ i
  · have : i - pa % 64 < size ↔ i < pa % 64 + size := by omega
    simp [hi, h1, this]
  · simp [h1]

/-- The field of a line into which its new value has been written. -/
theorem field_writtenLine (old : LineData) {pa size v : Nat} (hfit : pa % 64 + size ≤ 64) (hv : v < 2 ^ (8 * size)) :
    (writtenLine old (BitVec.ofNat 512 (v * 2 ^ (pa % 64 * 8))) (fieldMask pa size) >>> (pa % 64 * 8)).toNat % 2 ^ (8 * size) = v := by
  refine Nat.eq_of_testBit_eq fun k => ?_
  rw [Nat.testBit_mod_two_pow]
  by_cases hk : k < 8 * size
  · have hj : pa % 64 * 8 + k < 512 := by omega
    have hlt : (pa % 64 * 8 + k) / 8 < 64 := by omega
    have hin : pa % 64 ≤ (pa % 64 * 8 + k) / 8 ∧ (pa % 64 * 8 + k) / 8 < pa % 64 + size := by omega
    have hbit : (writtenLine old (BitVec.ofNat 512 (v * 2 ^ (pa % 64 * 8))) (fieldMask pa size)).getLsbD (pa % 64 * 8 + k) = v.testBit k := by
      rw [getLsbD_writtenLine _ _ _ hj, getLsbD_fieldMask _ _ hlt, decide_eq_true hin, if_pos rfl, BitVec.getLsbD_ofNat,
        Nat.testBit_mul_two_pow]
      simp [hj]
    rw [← BitVec.getLsbD_ushiftRight] at hbit
    rw [decide_eq_true hk, Bool.true_and]
    exact hbit
  · have hzero : v.testBit k = false :=
      Nat.testBit_lt_two_pow (Nat.lt_of_lt_of_le hv (Nat.pow_le_pow_right (by decide) (Nat.not_lt.1 hk)))
    simp [hk, hzero]

/-- A far atomic as it is applied to a line in clear (R74). -/
theorem applyChange_atomicFar {s : State} {p : Pend} {atop : Nat} (hop : p.op = .atomicFar false atop)
    (hclear : s.mem.poisoned (p.pa / 64) = false) (hknown : s.mem.known (p.pa / 64) = BitVec.allOnes 64) :
    s.applyChange p = changed (s.touchPage p.district (p.da / 4096) true) (p.pa / 64)
      (BitVec.ofNat 512 (atomicValue atop p.size (fieldAt s.mem p.pa p.size) p.operand.toNat p.compare.toNat * 2 ^ (p.pa % 64 * 8)))
      (fieldMask p.pa p.size) p
      ⟨.atomicResult, p.src, p.tag, Jl.ok, 0, 0, some (leBytes 16 (fieldAt s.mem p.pa p.size))⟩ := by
  have hread : (s.touchPage p.district (p.da / 4096) true).readLine (p.pa / 64) = some (s.mem.line (p.pa / 64)) := by
    simp [State.readLine, hclear, hknown]
  have hafter : (s.touchPage p.district (p.da / 4096) true).afterRead (p.pa / 64) = s.touchPage p.district (p.da / 4096) true := by
    simp [State.afterRead, hknown]
  simp only [State.applyChange, hop, State.touchPage_frame, hclear, hread, hafter, Bool.false_eq_true, if_false]
  rfl

/-! ### The obligation's clauses -/

/-- A resident page keeps the place of an address within it. -/
theorem pa_mod_of_homed {s : State} {d da pa len : Nat} (h : Homed s d da pa len) : pa % 4096 = da % 4096 := by
  obtain ⟨⟨e, -, -, -, hpa⟩, -⟩ := h
  omega

section
variable {s : State} {port : JPort} {r : Req} {D : Table DirEntry} {len pa : Nat} {perm : Window → Bool} {w : Window}

theorem homed_of_served (h : Served s port r r.offset len perm w pa) : Homed s w.district (w.base + r.offset) pa len := by
  obtain ⟨-, -, -, -, -, -, -, -, -, -, -, -, h, -⟩ := h
  exact h

/-- An offset within a window keeps its place within the page (R79). -/
theorem pa_mod_of_served (h : Served s port r r.offset len perm w pa) : pa % 4096 = r.offset % 4096 := by
  have hmod := pa_mod_of_homed (homed_of_served h)
  obtain ⟨-, -, -, -, -, -, -, -, -, hbase, -⟩ := h
  omega

/-- No entry of the directory concerns the lines of what `Served` describes. -/
theorem dir_of_served (h : Served s port r r.offset len perm w pa) {l : Nat} (hl : l ∈ [pa / 64, (pa + len - 1) / 64]) :
    s.coh.dir.get l = none ∧ s.mem.poisoned l = false ∧ s.mem.known l = BitVec.allOnes 64 := by
  obtain ⟨-, -, -, -, -, -, -, -, -, hlines⟩ := homed_of_served h
  obtain ⟨hdir, -, hclear, hknown, -⟩ := hlines l hl
  exact ⟨hdir, hclear, hknown⟩

theorem noneEnding_of_served (h : Served s port r r.offset len perm w pa) : NoneEnding s := by
  obtain ⟨-, -, -, -, -, -, -, -, hending, -⟩ := homed_of_served h
  exact hending

/-- A change of a line that nobody holds is applied (R133). -/
theorem serve_of_unheld {t : State} {p : Pend} (hdir : t.coh.dir.get (p.pa / 64) = none)
    (hop : p.op = .writeLine ∨ ∃ atop, p.op = .atomicFar false atop) : t.serve p = t.applyChange p := by
  rcases hop with h | ⟨atop, h⟩ <;> simp [State.serve, h, hdir]

/-- The state in which a change is made at its home: the request has arrived and its page is marked. -/
def changing (s : State) (port : Nat) (r : Req) (op : ReqOp) (len : Nat) (w : Window) (pa : Nat) : State :=
  (atItsHome s port r op len w pa).touchPage w.district ((w.base + r.offset) / 4096) true

theorem changing_frame (s : State) (port : Nat) (r : Req) (op : ReqOp) (len : Nat) (w : Window) (pa : Nat) :
    (changing s port r op len w pa).mem = s.mem ∧ (changing s port r op len w pa).out = s.out ∧
    (changing s port r op len w pa).coh.dir = s.coh.dir := by
  simp [changing, atItsHome_frame]

/-- The change of a line that nobody holds is applied when its request reaches its home (R133). -/
theorem resolve_of_unheld {op : ReqOp} (h : Served s port r r.offset len perm w pa) (hop : op = .writeLine ∨ ∃ atop, op = .atomicFar false atop)
    (hmask : op = .writeLine → r.mask ≠ 0) :
    (taken s port r (checked s port r op len w)).resolve (checked s port r op len w) =
      (atItsHome s port r op len w pa).applyChange (translated s port r op len w pa) := by
  have hidle : op ≠ .writeBack → ∀ l ∈ (translated s port r op len w pa).lines, ∀ e, s.coh.dir.get l = some e → e.busy = none := by
    intro _ l hl e he
    simp [(dir_of_served h (mem_ends_of_mem_lines hl)).1] at he
  have habsent : (atItsHome s port r op len w pa).coh.dir.get (pa / 64) = none := by
    simp [atItsHome_frame, (dir_of_served h List.mem_cons_self).1]
  rw [resolve_of_served (D := s.coh.dir) op h _ _ hmask _ hidle, serve_of_unheld habsent hop]
  all_goals rcases hop with rfl | ⟨atop, rfl⟩ <;> simp

/-- A write at its home (R133). -/
theorem execWriteLine_of_served (hwf : reqWriteWf r = true) (hmask : r.mask ≠ 0) (h : Served s port r r.offset 64 (·.w) w pa) :
    exec (.writeLine port r) s = .next (changed (changing s port r .writeLine 64 w pa) (pa / 64) r.data r.mask
      (translated s port r .writeLine 64 w pa) ⟨.comp, r.src, r.tag, 0, 0, 0, none⟩) := by
  have hkind : w.kind = 0 := by obtain ⟨-, -, -, -, -, hkind, -⟩ := h; exact hkind
  have hperm : w.w = true := by obtain ⟨-, -, -, -, -, -, hperm, -⟩ := h; exact hperm
  have happly : (atItsHome s port r .writeLine 64 w pa).applyChange (translated s port r .writeLine 64 w pa) =
      changed (changing s port r .writeLine 64 w pa) (pa / 64) r.data r.mask (translated s port r .writeLine 64 w pa)
        ⟨.comp, r.src, r.tag, 0, 0, 0, none⟩ := applyChange_write (.inl rfl)
  have hends : NoneEnding (changed (changing s port r .writeLine 64 w pa) (pa / 64) r.data r.mask (translated s port r .writeLine 64 w pa)
      ⟨.comp, r.src, r.tag, 0, 0, 0, none⟩) :=
    noneEnding_congr (noneEnding_of_served h) (by simp [coh_changed, changing_frame])
  show execWriteLine port r s = _
  rw [execWriteLine, hwf, arrive_of_served (D := s.coh.dir) .writeLine h rfl (by simp [hkind, hperm]) _ (by simp) (by simp)]
  simp only [hkind, show ¬0 = 2 by decide, if_false]
  rw [take_of_served (D := s.coh.dir) .writeLine h, resolve_of_unheld h (.inl rfl) fun _ => hmask, happly, settleBusy_of_noneEnding hends]

/-- A far atomic's field, as it is after the operation (R74). -/
def newField (s : State) (r : Req) (atop pa : Nat) : Nat :=
  atomicValue atop r.size (fieldAt s.mem pa r.size) r.operand.toNat r.compare.toNat

/-- A far atomic at its home (R74, R133). -/
theorem atomicReq_of_served {atop : Nat} (hwf : reqAtomicWf r atop = true) (h : Served s port r r.offset r.size (·.a) w pa) :
    s.atomicReq port r atop = changed (changing s port r (.atomicFar false atop) r.size w pa) (pa / 64)
      (BitVec.ofNat 512 (newField s r atop pa * 2 ^ (pa % 64 * 8))) (fieldMask pa r.size)
      (translated s port r (.atomicFar false atop) r.size w pa)
      ⟨.atomicResult, r.src, r.tag, 0, 0, 0, some (leBytes 16 (fieldAt s.mem pa r.size))⟩ := by
  have hperm : w.a = true := by obtain ⟨-, -, -, -, -, -, hperm, -⟩ := h; exact hperm
  obtain ⟨-, hclear, hknown⟩ := dir_of_served h (List.mem_cons_self)
  have hmem : (atItsHome s port r (.atomicFar false atop) r.size w pa).mem = s.mem :=
    (atItsHome_frame s port r (.atomicFar false atop) r.size w pa).2.1
  have happly := applyChange_atomicFar (s := atItsHome s port r (.atomicFar false atop) r.size w pa)
    (p := translated s port r (.atomicFar false atop) r.size w pa) (atop := atop) rfl (by rw [hmem]; exact hclear) (by rw [hmem]; exact hknown)
  rw [hmem] at happly
  rw [State.atomicReq, State.memReq, hwf, arrive_of_served (D := s.coh.dir) (.atomicFar false atop) h rfl hperm _ (by simp) (by simp),
    take_of_served (D := s.coh.dir) _ h, resolve_of_unheld h (.inr ⟨atop, rfl⟩) (by simp), happly]
  exact settleBusy_of_noneEnding (noneEnding_congr (noneEnding_of_served h) (by simp [coh_changed, atItsHome_frame]))

end

/-- An owner's WriteBack is applied, and the owner's entry goes (R109, R133). -/
theorem serve_of_owned {s : State} {p : Pend} {e : DirEntry} (hop : p.op = .writeBack) (hget : s.coh.dir.get (p.pa / 64) = some e)
    (hbusy : e.busy = none) (hst : e.st = .owned) (howner : e.p0 = p.src) : s.serve p = (s.delDir (p.pa / 64)).applyChange p := by
  simp [State.serve, hop, State.writeBackHome, hget, hbusy, hst, howner]

/-- A WriteBack at its home: the state in which its owner's entry has gone. -/
def released (s : State) (port : Nat) (r : Req) (w : Window) (pa : Nat) : State :=
  ((atItsHome s port r .writeBack 64 w pa).delDir (pa / 64)).touchPage w.district ((w.base + r.offset) / 4096) true

theorem released_frame (s : State) (port : Nat) (r : Req) (w : Window) (pa : Nat) :
    (released s port r w pa).mem = s.mem ∧ (released s port r w pa).coh.dir = s.coh.dir.del (pa / 64) := by
  simp [released, atItsHome_frame, State.delDir]

/-- An owner's WriteBack at its home (R109, R133). -/
theorem execWriteBack_of_served {s : State} {port : JPort} {r : Req} {w : Window} {pa : Nat} {e : DirEntry} (hwf : reqWriteWf r = true)
    (hmask : r.mask = BitVec.allOnes 64) (h : Served (withDir s (s.coh.dir.del (pa / 64))) port r r.offset 64 (·.w) w pa)
    (hget : s.coh.dir.get (pa / 64) = some e) (hbusy : e.busy = none) (hst : e.st = .owned) (howner : e.p0 = r.src) :
    exec (.writeBack port r) s = .next (changed (released s port r w pa) (pa / 64) r.data r.mask (translated s port r .writeBack 64 w pa)
      ⟨.comp, r.src, r.tag, 0, 0, 0, none⟩) := by
  have hperm : w.w = true := by obtain ⟨-, -, -, -, -, -, hperm, -⟩ := h; exact hperm
  have howned : s.writeBackOwned (translated s port r .writeBack 64 w pa) = true := by
    simp [State.writeBackOwned, translated, checked, hget, hbusy, hst, howner]
  have hthere : (atItsHome s port r .writeBack 64 w pa).coh.dir.get (pa / 64) = some e := by simp [atItsHome_frame, hget]
  have hserve : (atItsHome s port r .writeBack 64 w pa).serve (translated s port r .writeBack 64 w pa) =
      changed (released s port r w pa) (pa / 64) r.data r.mask (translated s port r .writeBack 64 w pa) ⟨.comp, r.src, r.tag, 0, 0, 0, none⟩ :=
    (serve_of_owned rfl hthere hbusy hst howner).trans (applyChange_write (.inr rfl))
  have hends : NoneEnding (changed (released s port r w pa) (pa / 64) r.data r.mask (translated s port r .writeBack 64 w pa)
      ⟨.comp, r.src, r.tag, 0, 0, 0, none⟩) :=
    noneEnding_congr (noneEnding_of_served h) (by simp [coh_changed, released_frame, withDir])
  show execWriteBack port r s = _
  rw [execWriteBack, hwf, hmask, beq_self_eq_true, Bool.and_self, memReq_of_served .writeBack h hperm (by simp) (by simp) (by simp) (by simp)
    (fun _ => howned) (fun hop => absurd rfl hop), hserve, settleBusy_of_noneEnding hends, hmask]

/-! ### The values of far atomics -/

/-- What each far atomic makes of values of its width (R74). -/
theorem atomicValue_eq {size old operand compare : Nat} (hold : old < 2 ^ (8 * size)) (hoperand : operand < 2 ^ (8 * size))
    (hcompare : compare < 2 ^ (8 * size)) :
     atomicValue 0 size old operand compare = (old + operand) % 2 ^ (8 * size) ∧
     atomicValue 1 size old operand compare = (old &&& operand) ∧ atomicValue 2 size old operand compare = (old ||| operand) ∧
     atomicValue 3 size old operand compare = (old ^^^ operand) ∧
     atomicValue 4 size old operand compare = (if signedOf (8 * size) old < signedOf (8 * size) operand then operand else old) ∧
     atomicValue 5 size old operand compare = (if signedOf (8 * size) operand < signedOf (8 * size) old then operand else old) ∧
     atomicValue 6 size old operand compare = max old operand ∧ atomicValue 7 size old operand compare = min old operand ∧
     atomicValue 8 size old operand compare = operand ∧
     atomicValue 9 size old operand compare = (if old = compare then operand else old) := by
  have hpick : ∀ c : Prop, ∀ _ : Decidable c, (if c then operand else old) % 2 ^ (8 * size) = if c then operand else old := fun c _ => by
    split
    · exact Nat.mod_eq_of_lt hoperand
    · exact Nat.mod_eq_of_lt hold
  have hmax : max old operand = if old < operand then operand else old := by split <;> omega
  have hmin : min old operand = if operand < old then operand else old := by split <;> omega
  simp [atomicValue, hpick, hmax, hmin, Nat.mod_eq_of_lt hoperand, Nat.mod_eq_of_lt hcompare,
    Nat.mod_eq_of_lt (Nat.and_lt_two_pow old hoperand), Nat.mod_eq_of_lt (Nat.or_lt_two_pow hold hoperand),
    Nat.mod_eq_of_lt (Nat.xor_lt_two_pow hold hoperand)]

/-- The field of a far atomic is aligned to its size, and so lies within one line (R73). -/
theorem field_fits {s : State} {port : JPort} {r : Req} {w : Window} {pa atop : Nat} (hwf : reqAtomicWf r atop = true)
    (h : Served s port r r.offset r.size (·.a) w pa) : pa % 64 + r.size ≤ 64 := by
  have hmod := pa_mod_of_served h
  simp only [reqAtomicWf, Bool.and_eq_true, Bool.or_eq_true, beq_iff_eq, decide_eq_true_eq] at hwf
  obtain ⟨⟨⟨⟨-, hsize⟩, hoff⟩, -⟩, -⟩ := hwf
  rcases hsize with hsize | hsize <;> rw [hsize] at hoff ⊢ <;> omega

/-- The far atomics are one operation at different codes (R74). -/
theorem exec_farAtomic {f : JPort → Req → Instr} {atop : Nat}
    (h : (f, atop) ∈ ([(.atomicAdd, 0), (.atomicAnd, 1), (.atomicOr, 2), (.atomicXor, 3), (.atomicSmax, 4), (.atomicSmin, 5), (.atomicUmax, 6),
      (.atomicUmin, 7), (.atomicSwap, 8), (.atomicCas, 9)] : List ((JPort → Req → Instr) × Nat))) (port : JPort) (r : Req) (s : State) :
    exec (f port r) s = .next (s.atomicReq port r atop) := by
  simp only [List.mem_cons, Prod.mk.injEq, List.not_mem_nil, or_false] at h
  rcases h with ⟨rfl, rfl⟩ | ⟨rfl, rfl⟩ | ⟨rfl, rfl⟩ | ⟨rfl, rfl⟩ | ⟨rfl, rfl⟩ | ⟨rfl, rfl⟩ | ⟨rfl, rfl⟩ |
    ⟨rfl, rfl⟩ | ⟨rfl, rfl⟩ | ⟨rfl, rfl⟩ <;> rfl

theorem atomicValue_lt (atop size old operand compare : Nat) : atomicValue atop size old operand compare < 2 ^ (8 * size) :=
  Nat.mod_lt _ (Nat.two_pow_pos _)

/-- An address within the field of a far atomic, by the bits of the field's mask. -/
theorem mem_field_of_named {pa size a : Nat} (hline : a / 64 = pa / 64) (hnamed : (fieldMask pa size).getLsbD (a % 64) = true) :
    pa ≤ a ∧ a < pa + size := by
  rw [getLsbD_fieldMask _ _ (Nat.mod_lt _ (by decide)), decide_eq_true_eq] at hnamed
  omega

/-- Settles O25: each request is followed to its home share, where `changed` says what it does. -/
theorem writesAtHome : Obligations.WritesAtHome := by
  refine ⟨?_, ?_, ?_, ?_⟩
  · intro s port r w pa hwf hmask h
    obtain ⟨hmem, hout, -⟩ := changing_frame s port r .writeLine 64 w pa
    refine ⟨_, execWriteLine_of_served hwf hmask h, fun i hi => ?_, fun l hl => ?_, answerHeld_changed .., fun o ho => ?_⟩
    · have hdiv : (pa / 64 * 64 + i) / 64 = pa / 64 := by omega
      have hmod : (pa / 64 * 64 + i) % 64 = i := by omega
      simp only [Memory.byte, line_changed, hmem, hdiv, hmod, if_true]
      exact byte_writtenLine _ _ _ hi
    · rw [line_changed, if_neg hl, hmem]
    · exact hout ▸ out_changed _ _ _ _ _ _ ho
  · intro s port r w pa e hwf hmask h hdirwf hget hbusy hst howner
    obtain ⟨hmem, hdir⟩ := released_frame s port r w pa
    refine ⟨_, execWriteBack_of_served hwf hmask h hget hbusy hst howner, ?_, ?_, fun l hl => ?_, answerHeld_changed ..⟩
    · rw [(coh_changed ..).1, hdir]
      exact Table.get_del_same _ hdirwf
    · rw [line_changed, if_pos rfl, writtenLine, hmask, beq_self_eq_true, if_pos rfl]
    · rw [line_changed, if_neg hl, hmem]
  · intro s port r w pa f atop hf hwf h
    obtain ⟨hmem, -, -⟩ := changing_frame s port r (.atomicFar false atop) r.size w pa
    refine ⟨_, (exec_farAtomic hf port r s).trans (congrArg _ (atomicReq_of_served hwf h)), ?_, fun a ha => ?_, answerHeld_changed ..⟩
    · rw [line_changed, if_pos rfl]
      exact field_writtenLine _ (field_fits hwf h) (atomicValue_lt ..)
    · rw [byte_changed_of_not_named _ _ _ _ _ _ fun hnamed => ha (mem_field_of_named hnamed.1 hnamed.2), hmem]
  · intro size old operand compare hsize hold hoperand hcompare
    obtain ⟨hadd, hand, hor, hxor, hsmax, hsmin, humax, humin, hswap, hcas⟩ := atomicValue_eq hold hoperand hcompare
    refine ⟨hadd, hand, hor, hxor, ?_, ?_, humax, humin, hswap, hcas⟩
    · rw [hsmax]
      split <;> omega
    · rw [hsmin]
      split <;> omega

end Sys2Proof.Proofs
end

section
/-! Early data that is decided, and answers and requests that waited (R30, R82, R119, R122, R123, R136, R356). -/

namespace Sys2Proof.Proofs

open Sys2Proof Sys2Proof.Machine Sys2Proof.Claims

/-! ### Early reads -/

/-- Where no request waits behind a line, nothing is taken up. -/
theorem takeWaits_of_idle {s : State} (h : s.coh.waits = []) (l : Nat) : s.takeWaits l = (s, []) := by
  have hdel : s.coh.waits.del l = s.coh.waits := by rw [h]; rfl
  have hget : s.coh.waits.get l = none := by rw [h]; rfl
  simp only [State.takeWaits, hdel, hget]
  rfl

theorem releaseLines_of_idle {s : State} (h : s.coh.waits = []) (ls : List Nat) : s.releaseLines ls = s := by
  induction ls with
  | nil => rfl
  | cons l ls ih =>
    have hstep : s.releaseLines (l :: ls) = ((s.takeWaits l).1.atHomeAll (s.takeWaits l).2).releaseLines ls := rfl
    rw [hstep, takeWaits_of_idle h]
    exact ih

/-- The decision of an early read has been sent, and counted at an offset of its share (R122). -/
def decided (s : State) (e : Early) (reason off : Nat) : State :=
  (({ s with coh := { s.coh with early := s.coh.early.filter (· != e) } }).sendSettle e.p.src e.p.tag reason).tallyAv e.p.share off

theorem decided_frame (s : State) (e : Early) (reason off : Nat) :
    (decided s e reason off).maps = s.maps ∧ (decided s e reason off).flash = s.flash ∧ (decided s e reason off).avail = s.avail ∧
    (decided s e reason off).ms = s.ms ∧ (decided s e reason off).mem = s.mem ∧ (decided s e reason off).boot = s.boot ∧
    (decided s e reason off).regs.act = s.regs.act ∧
    (decided s e reason off).coh = { s.coh with early := s.coh.early.filter (· != e) } := by
  simp [decided]

theorem settle_mem_decided {s : State} {e : Early} (hmute : s.mute = false) (reason off : Nat) :
    Out.settle 12 e.p.src e.p.tag reason ∈ (decided s e reason off).out := by
  simpa [decided] using mem_sendSettle (s := { s with coh := { s.coh with early := s.coh.early.filter (· != e) } }) hmute _ _ _

/-- The only early read is no longer pending once it is decided. -/
theorem early_decided {s : State} {e : Early} (h : s.coh.early = [e]) (reason off : Nat) : (decided s e reason off).coh.early = [] := by
  simp [decided_frame, h]

/-- The reason of R136 for a ReadShared of a line that nobody holds, in a set with room and on a page that does not move: the test, or none.
-/
theorem revokeReason_of_quiet {s : State} {e : Early} (hop : e.p.op = .readShared) (hbound : e.p.bound = none)
    (hlines : e.p.lines = [e.p.pa / 64]) (hdir : s.coh.dir.get (e.p.pa / 64) = none) (hset : s.setFull (e.p.pa / 64) = false)
    (hdrains : s.maps.drains = []) (horder : e.order = false) (hmoved : e.moved = false) :
    s.revokeReason e false = if e.forced then some Rv.test else none := by
  simp [State.revokeReason, hop, hbound, hlines, hdir, hset, State.pageMoving, hdrains, horder, hmoved]

/-- The home records a requester as the only holder of a line, in S (R110). -/
def sharedBy (s : State) (p : Pend) : State :=
  ({ s with coh := { s.coh with stamp := s.coh.stamp + 1 } }).setDir (p.pa / 64)
    ⟨DirState.shared, false, false, p.src, p.src, 0, p.district, p.da, s.coh.stamp, none⟩

theorem sharedBy_frame (s : State) (p : Pend) :
    (sharedBy s p).out = s.out ∧ (sharedBy s p).mem = s.mem ∧ (sharedBy s p).boot = s.boot ∧ (sharedBy s p).coh.early = s.coh.early ∧
    (sharedBy s p).coh.waits = s.coh.waits := by
  simp [sharedBy, State.setDir]

theorem holder_sharedBy (s : State) (p : Pend) :
    ∃ e, (sharedBy s p).coh.dir.get (p.pa / 64) = some e ∧ e.st = .shared ∧ e.p0 = p.src ∧ e.busy = none :=
  ⟨_, Table.get_put_same .., rfl, rfl, rfl⟩

/-- A settled ReadShared of a line that nobody held makes its requester the holder (R123). -/
theorem settleEarly_of_unheld {s : State} {e : Early} (hop : e.p.op = .readShared) (hbound : e.p.bound = none)
    (hdir : s.coh.dir.get (e.p.pa / 64) = none) (hwaits : s.coh.waits = []) :
    s.settleEarly e = (sharedBy (decided s e 0 0x330) e.p).closeReq e.p := by
  have hnone : (decided s e 0 0x330).coh.dir.get (e.p.pa / 64) = none := by simp [decided_frame, hdir]
  simp only [decided] at hnone
  simp only [State.settleEarly, hop, hbound, and_self, if_true, hnone]
  exact releaseLines_of_idle (by simp [State.closeReq, State.setDir, hwaits]) _

/-- A revoked early read is served as if it had just arrived (R136). -/
theorem revokeEarly_of_idle {s : State} (e : Early) (reason : Nat) (hwaits : s.coh.waits = []) :
    s.revokeEarly e reason = (decided s e reason 0x338).resolve { e.p with early := false } := by
  have hidle := releaseLines_of_idle (s := decided s e reason 0x338) (by simp [decided_frame, hwaits]) e.p.lines
  exact congrArg (State.resolve · { e.p with early := false }) hidle

/-! ### A read at its home -/

/-- A read of a whole line in clear is answered with the line (R75). -/
theorem sendRead_of_line {s : State} {p : Pend} (hbound : p.bound = none) (hlen : p.len = 64) (haligned : p.pa % 64 = 0)
    (hclear : s.mem.poisoned (p.pa / 64) = false) (hknown : s.mem.known (p.pa / 64) = BitVec.allOnes 64) :
    s.sendRead p = s.reply p Jl.ok 0 (some (lineBytes (s.mem.line (p.pa / 64)) 0 64)) := by
  have hlines : p.lines = [p.pa / 64] := lines_of_one (by rw [hlen]; omega)
  have hread : s.versionLine p (p.pa / 64) = some (s.mem.line (p.pa / 64)) := by simp [State.versionLine, hbound, State.readLine, hclear, hknown]
  have hafter : s.afterRead (p.pa / 64) = s := by simp [State.afterRead, hknown]
  have hcover : coverCells 0 64 * 16 = 64 := rfl
  have hbytes : ∀ i ∈ List.range 64, (if i < 64 then (lineBytes (s.mem.line (p.pa / 64)) 0 64)[i]?.getD 0#8 else
      Config.freeByte s.free (p.pa / 64 * 64 + i)) = (s.mem.line (p.pa / 64)).extractLsb' ((0 + i) * 8) 8 := fun i hi => by
    have hlt : i < 64 := List.mem_range.1 hi
    simp [lineBytes, hlt]
  simp [State.sendRead, hlines, hread, hafter, haligned, hlen, hcover, List.map_congr_left hbytes]
  rfl

/-- A ReadShared of a whole line in clear that nobody holds, at its home: the line goes to the requester (R75, R133). -/
theorem grantShared_of_unheld {s : State} {p : Pend} (hop : p.op = .readShared) (helem : p.elem = none) (hport : p.port ≠ 12)
    (hbound : p.bound = none) (hlen : p.len = 64) (haligned : p.pa % 64 = 0) (hdir : s.coh.dir.get (p.pa / 64) = none)
    (hclear : s.mem.poisoned (p.pa / 64) = false) (hknown : s.mem.known (p.pa / 64) = BitVec.allOnes 64) (hmute : s.mute = false) :
    Out.dat p.port ⟨.data, p.src, p.tag, 0, 0, 0, some (lineBytes (s.mem.line (p.pa / 64)) 0 64)⟩ ∈ (s.grantShared p).out ∧
      s.out ⊆ (s.grantShared p).out ∧ (s.grantShared p).coh.early = s.coh.early := by
  have hlines : p.lines = [p.pa / 64] := lines_of_one (by rw [hlen]; omega)
  have hreadable : s.readable p = true := by simp [State.readable, hlines, State.versionLine, hbound, State.readLine, hclear, hknown]
  have hgrant : s.grantShared p = (sharedBy s p).sendRead p := by
    simp only [State.grantShared, hreadable, hdir]
    rfl
  obtain ⟨hout, hmem, hboot, hearly, -⟩ := sharedBy_frame s p
  rw [hgrant, sendRead_of_line hbound hlen haligned (by rw [hmem]; exact hclear) (by rw [hmem]; exact hknown), hmem]
  refine ⟨?_, fun o ho => out_sub_reply helem _ _ _ (hout ▸ ho), (coh_reply helem _ _ _).1.trans hearly⟩
  have hsent := mem_reply (s := sharedBy s p) ((mute_congr hboot).trans hmute) hport helem Jl.ok 0
    (some (lineBytes (s.mem.line (p.pa / 64)) 0 64))
  rw [hop] at hsent
  exact hsent

/-! ### Answers that waited -/

/-- An answer whose acknowledgement is complete is sent (R30, R119). -/
theorem releaseAcks_of_complete {s : State} {a : Ack} (hacks : s.coh.acks = [a]) (hmirror : a.needMirror = false) (hsnoop : a.needSnoop = false)
    (hdram : a.needDram = false) (hport : a.p.port < 12) (hafter : a.after = []) :
    s.releaseAcks = (({ s with coh := { s.coh with acks := [] } }).sendDat a.p.port a.p.flow (some a.p.district) a.answer).closeReq a.p := by
  have hne : a.p.port ≠ 12 := Nat.ne_of_lt hport
  simp [State.releaseAcks, hacks, hmirror, hsnoop, hdram, State.ackOrReply, hne, hafter]

/-- The acknowledgement is complete: its answer is sent and waits no more. -/
theorem answered_releaseAcks {s : State} {a : Ack} (hacks : s.coh.acks = [a]) (hmirror : a.needMirror = false) (hsnoop : a.needSnoop = false)
    (hdram : a.needDram = false) (hport : a.p.port < 12) (hafter : a.after = []) (hmute : s.mute = false) :
    s.releaseAcks.coh.acks = [] ∧ Out.dat a.p.port a.answer ∈ s.releaseAcks.out := by
  rw [releaseAcks_of_complete hacks hmirror hsnoop hdram hport hafter]
  refine ⟨by simp [State.closeReq], ?_⟩
  simpa using mem_sendDat (s := { s with coh := { s.coh with acks := [] } }) hmute _ _ _ _

/-- Where no Crossing operation waits, none is tried again (R177). -/
theorem crRetry_of_idle {s : State} (h : s.cr.queue = []) : s.crRetry = s := by
  have hqueue : ({ s.cr with queue := [] } : Cross) = s.cr := by rw [← h]
  simp only [State.crRetry, h, List.foldl_nil, hqueue]

theorem get_each {α : Type} (t : Table α) (f : Nat → α → α) (n : Nat) : (t.each f).get n = (t.get n).map (f n) := by
  induction t with
  | nil => rfl
  | cons e t ih =>
    obtain ⟨k, v⟩ := e
    simp only [Table.each, List.map_cons, Table.get]
    split
    · rename_i h
      rw [h]
      rfl
    · exact ih

theorem get_adjust {α : Type} (t : Table α) (n : Nat) (f : α → α) : (t.adjust n f).get n = (t.get n).map f := by
  unfold Table.adjust
  cases h : t.get n <;> simp [h]

/-! ### A request held too long -/

/-- One request that is held too long is answered when its 2 s are over (R356). -/
theorem execRequestHeldTimeout_of_one {s : State} {port : JPort} {src tag : Nat} {x : Ledger} {p : Pend}
    (hfind : s.coh.ledger.find? (fun t => t.port == port.val && t.src == src && t.tag == tag) = some x)
    (hheld : s.heldReqs port src tag = [p]) :
    ∃ u : State, u.boot = s.boot ∧ x.since + 2000000000 ≤ u.clock ∧
      exec (.requestHeldTimeout port src tag) s = .next (u.retry p Rl.held) := by
  refine ⟨(s.passTo (x.since + 2000000000)).dropReqs fun p => p.port == port.val && p.src == src && p.tag == tag, ?_, ?_, ?_⟩
  · simp
  · simpa using passTo_clock_ge s (x.since + 2000000000)
  · show execRequestHeldTimeout port src tag s = _
    simp only [execRequestHeldTimeout, hfind, hheld, List.foldl_cons, List.foldl_nil]

/-- A request that a test finds among those that wait passes the test. -/
theorem of_mem_heldReqs {s : State} {port src tag : Nat} {p : Pend} (h : p ∈ s.heldReqs port src tag) :
    p.port = port ∧ p.src = src ∧ p.tag = tag := by
  simp only [State.heldReqs, State.reqsWith, List.mem_eraseDups, List.mem_filter, Bool.and_eq_true, beq_iff_eq] at h
  obtain ⟨-, ⟨hport, hsrc⟩, htag⟩ := h
  exact ⟨hport, hsrc, htag⟩

/-- A request held too long is answered at once (R82, R356). -/
theorem retry_held {s : State} {p : Pend} (hmute : s.mute = false) (hport : p.port ≠ 12) (helem : p.elem = none) :
    Answered (s.retry p Rl.held) p.port (p.op.answer false) p.src p.tag 2 0 8 none :=
  mem_reply hmute hport helem 2 8 none

/-! ### The obligation's clauses -/

/-- A ReadShared of a line that nobody holds, in a set with room, is granted in S (R133). -/
theorem serve_readShared {s : State} {p : Pend} (hop : p.op = .readShared) (hdir : s.coh.dir.get (p.pa / 64) = none)
    (hset : s.setFull (p.pa / 64) = false) : s.serve p = s.grantShared p := by
  simp [State.serve, hop, hdir, hset]

/-- A ReadShared of a whole line whose page has nothing in its way is answered with the line (R75, R133). -/
theorem resolve_readShared {s : State} {p : Pend} (hhomed : Homed s p.district p.da p.pa 64) (hop : p.op = .readShared)
    (hearly : p.early = false) (hbound : p.bound = none) (helem : p.elem = none) (hport : p.port ≠ 12) (hlen : p.len = 64)
    (hda : p.da % 64 = 0) (hmute : s.mute = false) :
    Out.dat p.port ⟨.data, p.src, p.tag, 0, 0, 0, some (lineBytes (s.mem.line (p.pa / 64)) 0 64)⟩ ∈ (s.resolve p).out ∧
      s.out ⊆ (s.resolve p).out ∧ (s.resolve p).coh.early = s.coh.early := by
  have haligned : p.pa % 64 = 0 := by
    have := pa_mod_of_homed hhomed
    omega
  have hends : ∀ l ∈ p.lines, l ∈ [p.pa / 64, (p.pa + 64 - 1) / 64] := fun l hl => hlen ▸ mem_ends_of_mem_lines hl
  have hserve : s.resolve p = (reached s p (s.regs.home p.pa)).serve { p with share := s.regs.home p.pa } :=
    resolve_eq_serve (D := s.coh.dir) hhomed (fun _ => hlen) hbound (.inl hearly) (by simp [hop]) (by simp [hop]) (by simp [hop])
      fun _ l hl e he => by
        obtain ⟨-, -, -, -, -, -, -, -, -, hlines⟩ := hhomed
        simp [(hlines l (hends l hl)).1] at he
  obtain ⟨-, -, -, -, -, -, -, -, -, hlines⟩ := hhomed
  obtain ⟨hdir, -, hclear, hknown, hset⟩ := hlines _ List.mem_cons_self
  obtain ⟨-, hrout, hrregs, hrmem, hrboot, -, -, hrdir, hrearly, -⟩ := reached_frame s p (s.regs.home p.pa)
  have hgrant : (reached s p (s.regs.home p.pa)).serve { p with share := s.regs.home p.pa } =
      (reached s p (s.regs.home p.pa)).grantShared { p with share := s.regs.home p.pa } :=
    serve_readShared hop (by rw [hrdir]; exact hdir) (by rw [setFull_congr hrdir (congrArg Regs.act hrregs)]; exact hset)
  rw [hserve, hgrant, ← hrout, ← hrearly, ← hrmem]
  exact grantShared_of_unheld (p := { p with share := s.regs.home p.pa }) hop helem hport hbound hlen haligned (by rw [hrdir]; exact hdir)
    (by rw [hrmem]; exact hclear) (by rw [hrmem]; exact hknown) ((mute_congr hrboot).trans hmute)

/-- A revoked ReadShared is answered from its home (R136). -/
theorem revokeEarly_answers {s : State} {e : Early} (hearly : s.coh.early = [e]) (hop : e.p.op = .readShared) (hbound : e.p.bound = none)
    (helem : e.p.elem = none) (hport : e.p.port ≠ 12) (hlen : e.p.len = 64) (hda : e.p.da % 64 = 0)
    (hhomed : Homed { s with coh := { s.coh with early := [] } } e.p.district e.p.da e.p.pa 64) (hwaits : s.coh.waits = [])
    (hmute : s.mute = false) (reason : Nat) :
    Out.settle 12 e.p.src e.p.tag reason ∈ (s.revokeEarly e reason).out ∧ (s.revokeEarly e reason).coh.early = [] ∧
      Answered (s.revokeEarly e reason) e.p.port .data e.p.src e.p.tag 0 0 0 (some (lineBytes (s.mem.line (e.p.pa / 64)) 0 64)) := by
  obtain ⟨hmaps, hflash, havail, hms, hmem, hboot, hact, hcoh⟩ := decided_frame s e reason 0x338
  have hnone := early_decided hearly reason 0x338
  have hhomed' : Homed (decided s e reason 0x338) e.p.district e.p.da e.p.pa 64 :=
    homed_congr hhomed hmaps hflash havail hms hmem hact hnone (by rw [hcoh]) (by rw [hcoh])
  obtain ⟨hanswer, hsub, hkept⟩ := resolve_readShared (p := { e.p with early := false }) hhomed' hop rfl hbound helem hport hlen hda
    ((mute_congr hboot).trans hmute)
  rw [revokeEarly_of_idle e reason hwaits]
  exact ⟨hsub (settle_mem_decided hmute reason 0x338), hkept.trans hnone, hmem ▸ hanswer⟩

/-- An early read is found by its port, source and tag. -/
theorem earlyOf_single {s : State} {e : Early} {port src tag : Nat} (h : s.coh.early = [e]) (hport : e.p.port = port) (hsrc : e.p.src = src)
    (htag : e.p.tag = tag) : s.earlyOf port src tag = some e := by
  simp [State.earlyOf, h, hport, hsrc, htag]

/-- A WriteBack at hand whose issuer owns the line, and whose page has nothing else in its way, is applied (R109, R133). -/
theorem resolve_writeBack {s : State} {p : Pend} {e : DirEntry}
    (hhomed : Homed (withDir s (s.coh.dir.del (p.pa / 64))) p.district p.da p.pa 64) (hop : p.op = .writeBack) (hbound : p.bound = none)
    (hget : s.coh.dir.get (p.pa / 64) = some e)
    (hbusy : e.busy = none) (hst : e.st = .owned) (howner : e.p0 = p.src) :
    s.resolve p = changed (((reached s p (s.regs.home p.pa)).delDir (p.pa / 64)).touchPage p.district (p.da / 4096) true) (p.pa / 64) p.data
      p.mask { p with share := s.regs.home p.pa } ⟨.comp, p.src, p.tag, 0, 0, 0, none⟩ := by
  have howned : s.writeBackOwned p = true := by simp [State.writeBackOwned, hget, hbusy, hst, howner]
  obtain ⟨-, -, -, -, -, -, -, hrdir, -⟩ := reached_frame s p (s.regs.home p.pa)
  rw [resolve_eq_serve hhomed (by simp [hop]) hbound (.inr (by simp [hop])) (by simp [hop]) (by simp [hop]) (fun _ => howned) (by simp [hop])]
  exact (serve_of_owned (p := { p with share := s.regs.home p.pa }) hop (by rw [hrdir]; exact hget) hbusy hst howner).trans
    (applyChange_write (.inr hop))

/-- A WriteBack that waited takes the tracker that has freed (R82). -/
def granted (s : State) (p : Pend) : State := ({ s with coh := { s.coh with wbWait := s.coh.wbWait.erase p } }).grantTracker p

theorem execWritebackTrackerGrant_of_free {s : State} {share : Share} {p : Pend} (hwait : s.coh.wbWait = [p]) (hshare : p.steer = share.val)
    (hfree : s.trackersOf share < 8192) : exec (.writebackTrackerGrant share) s = .next ((granted s p).resolve p).settleBusy := by
  have hfind : s.coh.wbWait.find? (fun q => q.steer == share.val) = some p := by simp [hwait, hshare]
  show execWritebackTrackerGrant share s = _
  simp only [execWritebackTrackerGrant, hfind, if_neg (Nat.not_le.2 hfree)]
  rfl

/-- Settles O27: an early read is settled by `settleEarly_of_unheld` and revoked by `revokeEarly_answers`; what waited is sent or taken up. -/
theorem earlyAndReleased : Obligations.EarlyAndReleased := by
  refine ⟨?_, ?_, ?_, ?_, ?_, ?_, ?_⟩
  · intro s port src tag p hearly hport hsrc htag hop hbound hlen haligned hdir hset hdrains hwaits hmute
    have hlines : p.lines = [p.pa / 64] := lines_of_one (by rw [hlen]; omega)
    have hwhy : s.revokeReason ⟨p, false, false, false⟩ false = none := revokeReason_of_quiet hop hbound hlines hdir hset hdrains rfl rfl
    have hstep : exec (.earlyDecision port src tag false) s = .next (s.settleEarly ⟨p, false, false, false⟩) := by
      show execEarlyDecision port src tag false s = _
      simp [execEarlyDecision, earlyOf_single hearly hport hsrc htag, hwhy]
    refine ⟨_, hstep, ?_⟩
    rw [settleEarly_of_unheld hop hbound hdir hwaits]
    obtain ⟨hout, hmem, -, hkept, -⟩ := sharedBy_frame (decided s ⟨p, false, false, false⟩ 0 0x330) p
    obtain ⟨e, hget, hst, hp0, hbusy⟩ := holder_sharedBy (decided s ⟨p, false, false, false⟩ 0 0x330) p
    refine ⟨?_, ?_, ?_, e, hget, hst, hp0.trans hsrc, hbusy⟩
    · have hsent := settle_mem_decided (e := ⟨p, false, false, false⟩) hmute 0 0x330
      rw [hsrc, htag] at hsent
      simpa [hout] using hsent
    · exact hkept.trans (early_decided hearly 0 0x330)
    · simp [hmem, decided_frame]
  · intro s port src tag p forced f why hf hearly hport hsrc htag hop hbound helem hlen hda hhomed hsteer hwaits hmute
    have hstep : exec (f port src tag) s = .next (s.revokeEarly ⟨p, true, false, false⟩ why) := by
      simp only [List.mem_cons, Prod.mk.injEq, List.not_mem_nil, or_false] at hf
      rcases hf with ⟨rfl, rfl⟩ | ⟨rfl, rfl⟩
      · have hmod := pa_mod_of_homed hhomed
        have hlines : p.lines = [p.pa / 64] := lines_of_one (by rw [hlen]; omega)
        obtain ⟨-, hdrains, -, -, -, -, -, -, -, hends⟩ := hhomed
        obtain ⟨hdir, -, -, -, hset⟩ := hends _ List.mem_cons_self
        have hwhy : s.revokeReason ⟨p, true, false, false⟩ false = some Rv.test :=
          revokeReason_of_quiet hop hbound hlines hdir hset hdrains rfl rfl
        show execEarlyDecision port src tag false s = _
        simp [execEarlyDecision, earlyOf_single hearly hport hsrc htag, hwhy, Rv.test]
      · show execEarlyDeadline port src tag s = _
        simp [execEarlyDeadline, earlyOf_single hearly hport hsrc htag, Rv.deadline]
    have hne : p.port ≠ 12 := by omega
    have hanswers := revokeEarly_answers hearly hop hbound helem hne hlen hda hhomed hwaits hmute why
    rw [hport, hsrc, htag] at hanswers
    exact ⟨_, hstep, hanswers⟩
  · intro s line a hacks hline hsnoop hdram hport hafter hwait hqueue hmute
    refine ⟨_, rfl, ?_⟩
    rw [crRetry_of_idle (by simpa using hqueue)]
    exact answered_releaseAcks (a := { a with needMirror := false }) (by simp [hacks, hline, hwait]) rfl hsnoop hdram hport hafter hmute
  · intro s line a hacks hline hmirror hdram hport hafter hmute
    refine ⟨_, rfl, ?_⟩
    obtain ⟨hnone, hsent⟩ := answered_releaseAcks (s := { s with
      mem := { s.mem with cache := s.mem.cache.adjust line fun c => { c with mark := false } },
      coh := { s.coh with acks := s.coh.acks.map fun (a : Ack) => if a.line = line then { a with needSnoop := false } else a } })
      (a := { a with needSnoop := false }) (by simp [hacks, hline]) hmirror rfl hdram hport hafter hmute
    refine ⟨hnone, hsent, fun c hc => ?_⟩
    simp only [State.releaseAcks_frame, get_adjust] at hc
    obtain ⟨c', -, rfl⟩ := Option.map_eq_some_iff.1 hc
    rfl
  · intro s share k p hperiod hget hshare
    refine ⟨_, rfl, ?_⟩
    simp [hperiod, get_each, hget, hshare]
  · intro s port src tag x p hledger hport hsrc htag hheld helem hmute
    obtain ⟨hpport, hpsrc, hptag⟩ := of_mem_heldReqs (s := s) (hheld ▸ List.mem_singleton.2 rfl)
    have hfind : s.coh.ledger.find? (fun t => t.port == port.val && t.src == src && t.tag == tag) = some x := by
      simp [hledger, hport, hsrc, htag]
    obtain ⟨u, hboot, hclock, hstep⟩ := execRequestHeldTimeout_of_one hfind hheld
    have hanswer := retry_held (s := u) ((mute_congr hboot).trans hmute) (by omega) helem
    rw [hpport, hpsrc, hptag] at hanswer
    exact ⟨_, hstep, hanswer, by simpa [State.retry] using hclock⟩
  · intro s share p e hwait hshare hfree hop hport hbound hmask hsteer hda hhomed hdirwf hget hbusy hst howner
    have hhomed' : Homed (withDir (granted s p) (s.coh.dir.del (p.pa / 64))) p.district p.da p.pa 64 :=
      homed_congr hhomed rfl rfl rfl rfl rfl rfl rfl rfl rfl
    refine ⟨_, execWritebackTrackerGrant_of_free hwait hshare hfree, ?_⟩
    have hresolve := resolve_writeBack hhomed' hop hbound hget hbusy hst howner
    have hdir : ((granted s p).resolve p).coh.dir = s.coh.dir.del (p.pa / 64) := by
      rw [hresolve, (coh_changed ..).1]
      simp [State.delDir, reached_frame, granted, State.grantTracker]
    obtain ⟨-, -, -, -, -, -, -, -, hending, -⟩ := hhomed
    rw [settleBusy_of_noneEnding (noneEnding_congr hending hdir)]
    refine ⟨?_, hdir ▸ Table.get_del_same _ hdirwf, ?_⟩
    · rw [hresolve, (coh_changed ..).2]
      simp [State.delDir, reached_frame, granted, State.grantTracker, hwait]
    · rw [hresolve, line_changed, if_pos rfl, writtenLine, hmask, beq_self_eq_true, if_pos rfl]

end Sys2Proof.Proofs
end

section
/-! DRAM channels and their arbiters: refreshes, roadworks pauses and grants (R57, R58, R260, R264 to R273). -/

namespace Sys2Proof.Proofs

open Sys2Proof Sys2Proof.Machine Sys2Proof.Claims

/-! ### Channels -/

theorem chan_congr {s t : State} (h : t.dram = s.dram) (m : Nat) : t.chan m = s.chan m := by rw [State.chan, h]; rfl

@[simp] theorem chan_passTo (s : State) (t m : Nat) : (s.passTo t).chan m = s.chan m := chan_congr (by simp) m

@[simp] theorem chan_tally (s : State) (off n m : Nat) : (s.tally off n).chan m = s.chan m := chan_congr (by simp) m

@[simp] theorem chan_emit (s : State) (o : Out) (m : Nat) : (s.emit o).chan m = s.chan m := chan_congr (by simp) m

@[simp] theorem chan_emits (s : State) (os : List Out) (m : Nat) : (s.emits os).chan m = s.chan m := chan_congr (by simp) m

/-- An event counter that is advanced holds its count and the events (R129). -/
theorem counter_tally (s : State) (off n : Nat) : (s.tally off n).regs.counter off = (s.regs.counter off + n) % 2 ^ 64 := by
  simp [State.tally, Regs.counter, Regs.count]

/-- The refreshes owed on a channel are issued, and none is owed any more; the rest of the channel stays (R265). -/
theorem chan_issueOwed (s : State) (m : Nat) : (s.issueOwed m).chan m = { s.chan m with owed := [] } := by
  simp [State.issueOwed]

/-- A channel whose pause has begun and has been counted (R57). -/
def pausing (s : State) (ch : Chan) : State := (s.setChan ch { s.chan ch with pause := true }).tally (dcBase ch + 0x38) 1

/-- A window opens: the pause begins with a precharge-all and the task of the channel's pause count (R268). -/
def windowOpened (s : State) (ch : Chan) : State :=
  ((pausing s ch).emit (.dram ch 3 0 0 0)).emit
    (.dram ch (taskKind (s.chan ch).pauses) (s.pauseTarget ch / 2) (s.pauseTarget ch % 2) 0)

theorem out_windowOpened {s : State} (ch : Chan) (hmute : s.mute = false) : (windowOpened s ch).out =
    s.out ++ [.dram ch 3 0 0 0, .dram ch (4 + (s.chan ch).pauses % 4) (s.pauseTarget ch / 2) (s.pauseTarget ch % 2) 0] := by
  have hpausing : (pausing s ch).mute = false := hmute
  rw [windowOpened, State.emit_out _ ((State.mute_emit ..).trans hpausing), State.emit_out _ hpausing, List.append_assoc]
  rfl

theorem execRoadworksWindowOpen_of_window {s : State} {ch : Chan} {w : Nat} (hwindow : s.nextWindow ch s.time.ft = some w)
    (htrained : s.boot.trained = true) (hpause : (s.chan ch).pause = false) (hin : (s.chan ch).inService = true)
    (hprot : (s.cprot ch).st ≠ 3) (hshare : (s.share (ch.val / 2)).st ≠ .gap) :
    execRoadworksWindowOpen ch s = .next (windowOpened (s.passTo (s.clock + (w - s.time.ft))) ch) := by
  have hboot : (s.passTo (s.clock + (w - s.time.ft))).boot = s.boot := by simp
  have hcprot : (s.passTo (s.clock + (w - s.time.ft))).cprot ch = s.cprot ch := rfl
  have hsh : (s.passTo (s.clock + (w - s.time.ft))).share (ch.val / 2) = s.share (ch.val / 2) := rfl
  have hskip : ¬(!(s.chan ch).inService || (s.cprot ch).st == 3 || (s.share (ch.val / 2)).st == .gap) = true := by
    simp [hin, hprot, hshare]
  simp only [execRoadworksWindowOpen, hwindow, hboot, chan_passTo, hcprot, hsh, htrained, hpause, if_neg hskip]
  simp [windowOpened, pausing]

/-- The channel whose pause has ended, before its refreshes are issued (R268). -/
def resumed (s : State) (ch : Chan) : State :=
  s.setChan ch { s.chan ch with pause := false, pauses := (s.chan ch).pauses + 1 }

/-- A write strobe's correction after a drift has been measured: held at ±0.25 UI, in units of 1/256 UI (R269). -/
def corrected (was corr : Int) : Int := max (-64) (min 64 (was + corr))

/-- The state with the drift of a target corrected. -/
def strobed (s : State) (ch : Chan) (target : Nat) (corr : Int) : State :=
  s.setChan ch { s.chan ch with
    corr := (s.chan ch).corr.put target (corrected (((s.chan ch).corr.get target).getD 0) corr), driftTarget := target }

/-- A pause whose task is not the drift measurement ends with the refreshes owed (R268). -/
theorem execRoadworksPauseEnd_of_other {s : State} {ch : Chan} (corr : Int) (hpause : (s.chan ch).pause = true)
    (htask : (s.chan ch).pauses % 4 ≠ 1) : execRoadworksPauseEnd ch corr s = .next ((resumed s ch).issueOwed ch) := by
  simp [execRoadworksPauseEnd, hpause, htask, resumed]

/-- A pause whose task is the drift measurement corrects its target; a notice may tell of it (R269). -/
theorem execRoadworksPauseEnd_of_drift {s : State} {ch : Chan} (corr : Int) (hpause : (s.chan ch).pause = true)
    (htask : (s.chan ch).pauses % 4 = 1) : ∃ u : State, u.dram = (strobed (resumed s ch) ch (s.pauseTarget ch) corr).dram ∧
      execRoadworksPauseEnd ch corr s = .next (u.issueOwed ch) := by
  have hnot : ¬(!(s.chan ch).pause) = true := by simp [hpause]
  simp only [execRoadworksPauseEnd, if_neg hnot, if_pos htask]
  refine ⟨_, ?_, rfl⟩
  split
  · simp [strobed, resumed, corrected]
  · simp [strobed, resumed, corrected]

/-! ### Arbiters -/

@[simp] theorem arb_setChan (s : State) (m n : Nat) (x : ChanSt) : (s.setChan m x).arb n = s.arb n := rfl

theorem mem_waiting {a : Arb} {i : Nat} : i ∈ a.waiting ↔ i < 6 ∧ ∃ x ∈ a.ready, x.input = i := by
  simp [Arb.waiting]

/-- The inputs that contend for a phase outside compatibility ranking: input 0 only where it waits alone (R271). -/
def contenders (a : Arb) : List Nat := if a.waiting.any (· != 0) then a.waiting.filter (· != 0) else a.waiting

theorem contenders_subset (a : Arb) : contenders a ⊆ a.waiting := by
  rw [contenders]
  split
  · exact List.filter_subset_self _
  · exact List.Subset.refl _

/-- Where an input other than 0 waits, it contends, and input 0 does not. -/
theorem contenders_of_pos {a : Arb} {i : Nat} (hi : i ∈ a.waiting) (hpos : 0 < i) :
    i ∈ contenders a ∧ ∀ j ∈ contenders a, 0 < j := by
  have hany : (a.waiting.any (· != 0)) = true := List.any_eq_true.2 ⟨i, hi, by simp; omega⟩
  simp only [contenders, hany, if_true, List.mem_filter, bne_iff_ne]
  exact ⟨⟨hi, by omega⟩, fun j hj => by omega⟩

theorem contenders_ne_nil {a : Arb} {i : Nat} (hi : i ∈ a.waiting) : contenders a ≠ [] := by
  rcases Nat.eq_zero_or_pos i with rfl | hpos
  · rw [contenders]
    split
    case isTrue h =>
      obtain ⟨j, hj, hne⟩ := List.any_eq_true.1 h
      exact List.ne_nil_of_mem (List.mem_filter.2 ⟨hj, hne⟩)
    case isFalse => exact List.ne_nil_of_mem hi
  · exact List.ne_nil_of_mem (contenders_of_pos hi hpos).1

/-- The better of the best input so far and the next: the larger credit, a tie to the next (R271). -/
def better (credit : Nat → Nat) (best : Option Nat) (i : Nat) : Option Nat :=
  match best with
  | none => some i
  | some j => if credit j ≤ credit i then some i else some j

theorem foldl_better_some (credit : Nat → Nat) (l : List Nat) (j : Nat) :
    ∃ w ∈ j :: l, l.foldl (better credit) (some j) = some w ∧ ∀ i ∈ j :: l, credit i ≤ credit w := by
  induction l generalizing j with
  | nil => exact ⟨j, by simp⟩
  | cons k l ih =>
    rw [List.foldl_cons, better]
    split
    case isTrue hle =>
      obtain ⟨w, hw, hfold, hmax⟩ := ih k
      refine ⟨w, List.mem_cons_of_mem _ hw, hfold, fun i hi => ?_⟩
      rcases List.mem_cons.1 hi with rfl | hi
      · exact hle.trans (hmax k List.mem_cons_self)
      · exact hmax i hi
    case isFalse hlt =>
      obtain ⟨w, hw, hfold, hmax⟩ := ih j
      refine ⟨w, ?_, hfold, fun i hi => ?_⟩
      · rcases List.mem_cons.1 hw with rfl | hw
        · exact List.mem_cons_self
        · exact List.mem_cons_of_mem _ (List.mem_cons_of_mem _ hw)
      · have hj := hmax j List.mem_cons_self
        rcases List.mem_cons.1 hi with rfl | hi
        · exact hj
        rcases List.mem_cons.1 hi with rfl | hi
        · omega
        · exact hmax i (List.mem_cons_of_mem _ hi)

/-- The best of some inputs is one of them, and has the largest credit. -/
theorem foldl_better {l : List Nat} (credit : Nat → Nat) (h : l ≠ []) :
    ∃ w ∈ l, l.foldl (better credit) none = some w ∧ ∀ i ∈ l, credit i ≤ credit w := by
  cases l with
  | nil => exact absurd rfl h
  | cons j l => exact foldl_better_some credit l j

theorem winner_eq (a : Arb) : a.winner false = (contenders a).foldl (better fun i => a.credits.getD i 0) none := by
  have hrank : ∀ j i, (false || decide (a.credits.getD j 0 ≤ a.credits.getD i 0)) = true ↔ a.credits.getD j 0 ≤ a.credits.getD i 0 := by simp
  rw [Arb.winner]
  refine congrArg (fun f => List.foldl f none (contenders a)) (funext fun b => funext fun i => ?_)
  cases b with
  | none => rfl
  | some j => exact if_congr (hrank j i) rfl rfl

/-- A phase with an access ready has a winner: an input with an access ready, which beats every input but 0 in credit (R271). -/
theorem winner_of_ready {a : Arb} {x : Access} (hx : x ∈ a.ready) (hin : x.input < 6) :
    ∃ y ∈ a.ready, a.winner false = some y.input ∧
      (0 < x.input → 0 < y.input ∧ a.credits.getD x.input 0 ≤ a.credits.getD y.input 0) := by
  have hwait : x.input ∈ a.waiting := mem_waiting.2 ⟨hin, x, hx, rfl⟩
  obtain ⟨w, hw, hfold, hmax⟩ := foldl_better (fun i => a.credits.getD i 0) (contenders_ne_nil hwait)
  obtain ⟨-, y, hy, rfl⟩ := mem_waiting.1 (contenders_subset a hw)
  refine ⟨y, hy, (winner_eq a).trans hfold, fun hpos => ?_⟩
  obtain ⟨hmem, hall⟩ := contenders_of_pos hwait hpos
  exact ⟨hall _ hw, hmax _ hmem⟩

theorem winner_of_idle {a : Arb} (compat : Bool) (h : a.ready = []) : a.winner compat = none := by
  have hwait : a.waiting = [] := by simp [Arb.waiting, h]
  simp [Arb.winner, hwait]

/-- An access is passed over, or it is admitted and counted (R260, R271). -/
theorem admitAccesses_cons (s : State) (n i k : Nat) (x : Access) (l : List Access) :
    s.admitAccesses n i (k + 1) (x :: l) = s.admitAccesses n i (k + 1) l ∨
      ∃ u : State, (u.arb n).owner = (s.arb n).owner ∧ (u.arb n).used = (s.arb n).used + 1 ∧
        s.admitAccesses n i (k + 1) (x :: l) = u.admitAccesses n i k l := by
  rw [State.admitAccesses]
  by_cases hother : x.input ≠ i
  · exact .inl (if_pos hother)
  rw [if_neg hother]
  dsimp only
  generalize s.regs.chanOf x.line = m
  generalize hqueue : (if x.write = true then (s.chan m).writes else (s.chan m).reads) = queue
  by_cases hfull : 128 ≤ queue.length
  · exact .inl (if_pos hfull)
  · exact .inr ⟨_, by simp, by simp, if_neg hfull⟩

/-- A grant's bursts leave its owner, and they are no more than it may have (R271). -/
theorem admitAccesses_arb (n i k : Nat) (l : List Access) (s : State) :
    ((s.admitAccesses n i k l).arb n).owner = (s.arb n).owner ∧ ((s.admitAccesses n i k l).arb n).used ≤ (s.arb n).used + k := by
  induction l generalizing s k with
  | nil => simp [State.admitAccesses]
  | cons x l ih =>
    cases k with
    | zero => simp [State.admitAccesses]
    | succ k =>
      rcases admitAccesses_cons s n i k x l with hskip | ⟨u, howner, hused, hadmit⟩
      · rw [hskip]
        exact ih (k + 1) s
      · obtain ⟨hkeeps, hle⟩ := ih k u
        rw [hadmit]
        exact ⟨hkeeps.trans howner, by omega⟩

/-- A grant to the winner of its phase, outside recovery: it admits no more bursts than the limit now in force (R271, R272). -/
theorem execArbGrantEnd_of_winner {s : State} {share : Share} {w : Nat}
    (hcompat : bitOf (s.regs.val (dcBase (2 * share.val) + 0x100)).toNat 0 = false)
    (hcause : (s.chan (2 * share.val)).ordCause ≠ 3) (hwin : (s.arb share).winner false = some w) :
    ∃ t, execArbGrantEnd share s = .next t ∧ (t.arb share).owner = w ∧ (t.arb share).used ≤ s.burstLimit share := by
  have hrecovery : ((s.chan (2 * share.val)).ordCause == 3) = false := beq_eq_false_iff_ne.2 hcause
  simp only [execArbGrantEnd, hcompat, hwin, hrecovery, Bool.false_and, Bool.false_eq_true, if_false]
  refine ⟨_, rfl, ?_⟩
  obtain ⟨howner, hused⟩ := admitAccesses_arb share w (s.burstLimit share) (s.arb share).ready (s.setArb share
    { s.arb share with owner := w, used := 0, limit := s.burstLimit share, estimates := s.estimates share w (s.burstLimit share) false })
  exact ⟨howner.trans (by simp), hused.trans (by simp)⟩

/-- Settles O17: what each event of a channel leaves of it, and the winner of an arbiter's phase. -/
theorem dramController : Obligations.DramController := by
  refine ⟨?due, ?paused, ?rfm, ?temp, ?opened, ?pauseEnd, ?drift, ?period, ?idle, ?grant, ?drain⟩
  case due =>
    intro s ch rank sc bank hin hrefresh hpause hmute
    have hstep : execRefsbDue ch rank sc bank true s = .next (((s.setChan ch
        { s.chan ch with owed := (s.chan ch).owed.del (bankKey rank sc bank) }).emits
          (List.replicate (((s.chan ch).owed.get (bankKey rank sc bank)).getD 0 + 1) (Out.dram ch 0 rank sc (bank % 4)))).tally
        (dcBase ch + 0x48) (((s.chan ch).owed.get (bankKey rank sc bank)).getD 0)) := by
      simp [execRefsbDue, hin, hrefresh, hpause]
    exact ⟨_, hstep, by simp, State.emits_out _ hmute⟩
  case paused =>
    intro s ch rank sc bank issue hin hpause
    have hstep : execRefsbDue ch rank sc bank issue s = .next (s.setChan ch { s.chan ch with
        owed := (s.chan ch).owed.put (bankKey rank sc bank) (((s.chan ch).owed.get (bankKey rank sc bank)).getD 0 + 1) }) := by
      simp [execRefsbDue, hin, hpause]
    exact ⟨_, hstep, by simp, rfl⟩
  case rfm =>
    intro s ch rank sc bank hrefresh hpause hmute
    have hacts : ¬((s.chan ch).pause || !s.refreshes ch) = true := by simp [hpause, hrefresh]
    exact ⟨_, congrArg Host.Outcome.next (if_neg hacts), by simp, State.emit_out _ hmute⟩
  case temp =>
    intro s ch c
    refine ⟨_, rfl, by simp, fun hhot => ?_, fun hcool => ?_, fun hlow hhigh => ?_, fun m hm => by simp [hm]⟩
    · simp [hhot]
    · have hnot : ¬85 < c ∧ ¬83 < c := by omega
      simp [hnot]
    · have hnot : ¬85 < c := by omega
      simp [hnot, hlow]
  case opened =>
    intro s ch w hwindow htrained hpause hin hprot hshare hmute
    refine ⟨_, execRoadworksWindowOpen_of_window hwindow htrained hpause hin hprot hshare, ?_, ?_, ?_, ?_⟩
    · simp [windowOpened, pausing]
    · simp [windowOpened, pausing]
    · exact out_windowOpened (s := s.passTo _) ch hmute
    · simp [windowOpened, pausing, counter_tally]
  case pauseEnd =>
    intro s ch corr hpause htask
    exact ⟨_, execRoadworksPauseEnd_of_other corr hpause htask, by simp [chan_issueOwed, resumed]⟩
  case drift =>
    intro s ch corr hpause htask
    obtain ⟨u, hu, hstep⟩ := execRoadworksPauseEnd_of_drift corr hpause htask
    exact ⟨_, hstep, by simp [chan_issueOwed, chan_congr hu, strobed, resumed, corrected]⟩
  case period =>
    intro s share
    refine ⟨_, rfl, fun i hi => ?_, by simp, by simp⟩
    simp [hi]
  case idle =>
    intro s share hidle
    have hstep : execArbGrantEnd share s = .next (s.setArb share { s.arb share with owner := 7, used := 0 }) := by
      simp only [execArbGrantEnd, winner_of_idle _ hidle]
    exact ⟨_, hstep, by simp, by simp⟩
  case grant =>
    intro s share x hx hin hcompat hcause
    obtain ⟨y, hy, hwin, hbeats⟩ := winner_of_ready hx hin
    obtain ⟨t, hstep, howner, hused⟩ := execArbGrantEnd_of_winner hcompat hcause hwin
    exact ⟨t, hstep, y, hy, howner, hused, hbeats⟩
  case drain =>
    intro s ch w hmode hw hold
    have hage : ((s.chan ch).writes.any fun w => decide (w.since + 8000 < s.clock)) = true :=
      List.any_eq_true.2 ⟨w, hw, decide_eq_true hold⟩
    have hstep : execWriteAgeDrain ch s = .next (s.setChan ch { s.chan ch with drain := true }) := by
      simp [execWriteAgeDrain, hmode, hage]
    exact ⟨_, hstep, by simp, rfl⟩

end Sys2Proof.Proofs
end

section
/-! Commands that complete on a ring of either kind: what a record leaves of the rings and the registers, and the record itself (R391, R395,
R397, R408). -/

namespace Sys2Proof.Proofs

open Sys2Proof Sys2Proof.Machine Sys2Proof.Claims

/-! ### What decides whether a ring takes a record -/

/-- The rings, and the host ports whose links are down (R397, R408). -/
def ringsOf (s : State) : Table Ring × NatSet := (s.host.rings, s.host.hostDown)

@[simp] theorem ringsOf_ite (c : Prop) [Decidable c] (a b : State) :
    ringsOf (if c then a else b) = if c then ringsOf a else ringsOf b := apply_ite ringsOf c a b

@[simp] theorem ringsOf_emit (s : State) (o : Out) : ringsOf (s.emit o) = ringsOf s := by simp [ringsOf]

@[simp] theorem ringsOf_setNtc (s : State) (fn : Nat) (x : NoticeRing) : ringsOf (s.setNtc fn x) = ringsOf s := rfl

@[simp] theorem ringsOf_writeNotice (s : State) (fn : Nat) (n : Notice) : ringsOf (s.writeNotice fn n) = ringsOf s := by
  simp [State.writeNotice]

@[simp] theorem ringsOf_deliver (s : State) (fn : Nat) (n : Notice) : ringsOf (s.deliver fn n) = ringsOf s := by
  simp [State.deliver]

@[simp] theorem ringsOf_raise (s : State) (source cause data : Nat) (d : Option Nat) :
    ringsOf (s.raise source cause data d) = ringsOf s := by
  have hhold : ∀ n, ringsOf (s.holdNotice n) = ringsOf s := fun n => by
    simp only [State.holdNotice, ringsOf_ite]
    split_ifs <;> rfl
  have hall : ∀ (n : Notice) (fns : List Nat), ringsOf (fns.foldl (fun s fn => s.deliver fn n) s) = ringsOf s := fun n fns =>
    foldl_keeps ringsOf _ fns s fun s fn => ringsOf_deliver s fn n
  simp [State.raise, State.raiseRaw, hhold, hall]

@[simp] theorem ringsOf_post (s : State) (m : Msg) (d : Option Nat) : ringsOf (s.post m d) = ringsOf s := by
  have htry : ringsOf (s.tryPost m none d).1 = ringsOf s := by simp [ringsOf]
  have hroute : ∀ (t : State) (dst : Nat), ringsOf (t.noteNoRoute dst) = ringsOf t := fun t dst => by
    simp only [State.noteNoRoute]
    split
    · split
      · exact ringsOf_raise ..
      · rfl
    · exact ringsOf_raise ..
  rw [State.post, ringsOf_ite]
  split
  · exact htry
  · exact (hroute _ _).trans htry

@[simp] theorem ringsOf_sendSignals (s : State) (ms : List Signal) : ringsOf (s.sendSignals ms) = ringsOf s :=
  foldl_keeps ringsOf _ ms s fun _ _ => (ringsOf_post ..).trans (ringsOf_emit ..)

@[simp] theorem ringsOf_flagOr (s : State) (n bit : Nat) : ringsOf (s.flagOr n bit) = ringsOf s := by
  simp only [State.flagOr]
  split
  · rfl
  · split
    · rfl
    · exact ringsOf_sendSignals _ _

@[simp] theorem act_sendSignals (s : State) (ms : List Signal) : (s.sendSignals ms).regs.act = s.regs.act :=
  foldl_keeps (·.regs.act) _ ms s fun _ _ => by simp [State.sendSignal]

@[simp] theorem act_flagOr (s : State) (n bit : Nat) : (s.flagOr n bit).regs.act = s.regs.act := by
  simp only [State.flagOr]
  split
  · rfl
  · split
    · rfl
    · exact act_sendSignals _ _

@[simp] theorem act_putRecord (s : State) (ring : Nat) (rcd : Record) : (s.putRecord ring rcd).regs.act = s.regs.act := by
  simp only [State.putRecord]
  repeat' (first | (simp; done) | split)

@[simp] theorem act_finish (s : State) (c : Cmd) (rcd : Record) : (s.finish c rcd).regs.act = s.regs.act := by
  have hcopies : ∀ (x : Retained) (l : List Cmd) (t : State),
      (l.foldl (fun s k => (s.leaveRing k).putRecord k.ring (replayOf k x)) t).regs.act = t.regs.act := fun x l t =>
    foldl_keeps (·.regs.act) _ l t fun _ _ => by simp
  simp only [State.finish]
  split
  · rw [hcopies]
    simp
  · simp

/-! ### Rings that are up -/

theorem ring_congr {s t : State} (h : ringsOf t = ringsOf s) (r : Nat) : t.ring r = s.ring r := by
  rw [State.ring, show t.host.rings = s.host.rings from congrArg Prod.fst h]
  rfl

theorem ringUp_congr {s t : State} {r : Nat} (h : RingUp s r) (hrings : ringsOf t = ringsOf s) (hboot : t.boot = s.boot) : RingUp t r := by
  have hdown : t.host.hostDown = s.host.hostDown := congrArg Prod.snd hrings
  simpa only [RingUp, ring_congr hrings, State.mute, hdown, hboot] using h

/-- A ring stays up while its state and its kind stay. -/
theorem ringUp_setRing {s : State} {r : Nat} (n : Nat) {x : Ring} (h : RingUp s r) (hst : x.st = (s.ring n).st)
    (hacc : x.acc = (s.ring n).acc) : RingUp (s.setRing n x) r := by
  obtain ⟨hrun, hmute, hdown⟩ := h
  refine ⟨?_, hmute, ?_⟩
  · rw [State.ring_setRing]
    split
    case isTrue heq => rw [hst, ← heq, hrun]
    case isFalse => exact hrun
  · rw [State.ring_setRing]
    split
    case isTrue heq => rw [hacc, ← heq]; exact hdown
    case isFalse => exact hdown

theorem ringUp_emit {s : State} {r : Nat} (h : RingUp s r) (o : Out) : RingUp (s.emit o) r := ringUp_congr h (by simp) (by simp)

theorem ringUp_started {s : State} {c : Cmd} {r : Nat} (h : RingUp s r) : RingUp (started s c) r := by
  refine ringUp_setRing _ ?_ rfl rfl
  simp only [State.pick]
  split
  · exact h
  · exact ringUp_setRing _ h rfl rfl

theorem ringUp_leaveRing {s : State} {r : Nat} (c : Cmd) (h : RingUp s r) : RingUp (s.leaveRing c) r := by
  simp only [State.leaveRing]
  split
  · exact ringUp_setRing _ h rfl rfl
  · exact h

theorem ringUp_stopRing_of_ne {s : State} {r ring : Nat} (cause : Nat) (h : RingUp s r) (hne : r ≠ ring) :
    RingUp (s.stopRing ring cause) r := by
  obtain ⟨hrun, hmute, hdown⟩ := h
  simp only [State.stopRing]
  split
  · refine ringUp_congr (s := s.setRing ring _) ⟨?_, hmute, ?_⟩ (ringsOf_raise ..) (by simp)
    · rw [State.ring_setRing, if_neg hne, hrun]
    · rw [State.ring_setRing, if_neg hne]
      exact hdown
  · exact ⟨hrun, hmute, hdown⟩

/-- A record on any ring leaves every ring that is up: it stops no ring but one whose link is down (R408). -/
theorem ringUp_putRecord {s : State} {r : Nat} (ring : Nat) (rcd : Record) (h : RingUp s r) : RingUp (s.putRecord ring rcd) r := by
  have hsent : ∀ (t : State) (b : Bool) (o : Out), RingUp t r → RingUp (if b then t.emit o else t) r := fun t b o ht => by
    cases b
    · exact ht
    · exact ringUp_emit ht o
  have hmoved : ∀ (t : State) (x : Ring), ringsOf t = ringsOf s → RingUp t r → x.st = (s.ring ring).st → x.acc = (s.ring ring).acc →
      RingUp (t.setRing ring x) r := fun t x hrings ht hst hacc =>
    ringUp_setRing _ ht (by rw [ring_congr hrings, hst]) (by rw [ring_congr hrings, hacc])
  simp only [State.putRecord]
  split
  case isTrue => exact h
  case isFalse =>
    split
    case isTrue hstops =>
      obtain ⟨hacc, hlink⟩ := Bool.and_eq_true_iff.1 hstops
      refine ringUp_stopRing_of_ne _ h fun heq => ?_
      obtain ⟨-, -, hdown⟩ := h
      rw [← heq] at hacc hlink
      rw [hdown hacc] at hlink
      cases hlink
    case isFalse =>
      have hup : ∀ o p : Out, RingUp (((if rcd.ext then s.emit o else s).emit p).setRing ring { s.ring ring with
          cplTail := ((s.ring ring).cplTail + (if rcd.ext then 2 else 1)) % 2 ^ 32, lastCmd := rcd.cmdId, armed := false }) r := fun o p =>
        hmoved _ _ (by simp) (ringUp_emit (hsent s rcd.ext o h) p) rfl rfl
      split
      · split
        · exact ringUp_congr (hsent _ _ _ (hup _ _)) (ringsOf_flagOr ..) (by simp)
        · exact hsent _ _ _ (hup _ _)
      · exact hsent _ _ _ (hup _ _)

theorem ringUp_finish {s : State} {r : Nat} (c : Cmd) (rcd : Record) (h : RingUp s r) : RingUp (s.finish c rcd) r := by
  have hleft := ringUp_leaveRing c h
  simp only [State.finish]
  split
  · refine List.foldlRecOn _ _ (motive := fun t : State => RingUp t r) (ringUp_putRecord _ _ ?_) fun t ht k _ =>
      ringUp_putRecord _ _ (ringUp_leaveRing k ht)
    exact ringUp_congr hleft rfl rfl
  · exact ringUp_putRecord _ _ hleft

/-! ### The record that ends a command -/

theorem out_sub_finish (s : State) (c : Cmd) (rcd : Record) : s.out ⊆ (s.finish c rcd).out := by
  have hleft : (s.leaveRing c).out = s.out := by simp
  rw [← hleft]
  simp only [State.finish]
  split
  · exact fun o ho => out_sub_foldl _ _ (fun t k o ho => out_sub_putRecord _ _ _ (by simpa using ho)) (out_sub_putRecord _ _ _ ho)
  · exact out_sub_putRecord _ _ _

/-- The record of a running accelerator ring is sent; its flag is set after it (R391, R397). -/
theorem record_mem_putRecord_of_acc {s : State} {ring : Nat} {a : AccInfo} (rcd : Record) (hrun : (s.ring ring).st = .running)
    (hmute : s.mute = false) (hacc : (s.ring ring).acc = some a) :
    Out.record ring ((s.ring ring).cplTail % 2 ^ 32 % 2 ^ (s.ring ring).m) ((s.ring ring).cplTail % 2 ^ 32 / 2 ^ (s.ring ring).m % 2 == 0)
      { rcd with head := (s.ring ring).head % 65536 } ∈ (s.putRecord ring rcd).out := by
  have hext : ∀ (b : Bool) (o : Out), (if b then s.emit o else s).mute = false := fun b o => by
    cases b
    · exact hmute
    · exact (State.mute_emit ..).trans hmute
  simp only [State.putRecord, hrun, hacc, reduceCtorEq, false_and, or_self, if_false, Option.isNone_some, Bool.false_and, Bool.and_false,
    Bool.false_eq_true, Nat.add_zero]
  split
  · exact out_sub_flagOr _ _ _ (State.mem_emit _ (hext _ _))
  · exact State.mem_emit _ (hext _ _)

/-- A record written on a ring that is up is sent (R391, R395, R397). -/
theorem ends_putRecord_of_ringUp {s : State} {c : Cmd} {rcd : Record} (h : RingUp s c.ring) (hid : rcd.cmdId = c.d.cmdId) :
    Ends (s.putRecord c.ring rcd) c rcd.status rcd.detail rcd.result := by
  obtain ⟨hrun, hmute, hdown⟩ := h
  cases hacc : (s.ring c.ring).acc with
  | none => exact ends_putRecord ⟨hrun, hacc, hmute, hdown (by simp [hacc])⟩ hid
  | some a => exact ⟨_, _, _, record_mem_putRecord_of_acc rcd hrun hmute hacc, hid, rfl, rfl, rfl⟩

/-- A command that completes on a ring that is up leaves its record (R395). -/
theorem ends_finish_of_ringUp {s : State} {c : Cmd} {rcd : Record} (h : RingUp s c.ring) (hid : rcd.cmdId = c.d.cmdId) :
    Ends (s.finish c rcd) c rcd.status rcd.detail rcd.result := by
  have hleft := ringUp_leaveRing c h
  simp only [State.finish]
  split
  · refine ends_mono (ends_putRecord_of_ringUp ?_ hid) (out_sub_foldl _ _ fun t k o ho => out_sub_putRecord _ _ _ (by simpa using ho))
    exact ringUp_congr hleft rfl rfl
  · exact ends_putRecord_of_ringUp hleft hid

theorem ends_done_of_ringUp {s : State} {c : Cmd} (h : RingUp s c.ring) (result : Nat) : Ends (s.done c result) c 0 0 result :=
  ends_finish_of_ringUp h rfl

theorem ends_endWith_of_ringUp {s : State} {c : Cmd} (h : RingUp s c.ring) (x : Stop) : Ends (s.endWith c x) c x.1 x.2 0 :=
  ends_finish_of_ringUp h rfl

end Sys2Proof.Proofs
end

section
/-! Fabric Time: its references, messages and states (R38 to R47). -/

namespace Sys2Proof.Proofs

open Sys2Proof Sys2Proof.Machine Sys2Proof.Claims

/-! ### Time passes -/

/-- Time that passes from now on ends at the instant given. -/
theorem passTo_clock_of_le (s : State) {t : Nat} (h : s.clock ≤ t) : (s.passTo t).clock = t := by
  show s.clock + (t - s.clock) = t
  omega

theorem passToFt_ft_of_le (s : State) {t : Nat} (h : s.time.ft ≤ t) : (s.passToFt t).time.ft = t := by
  show s.time.ft + (t - s.time.ft) = t
  omega

/-- The next multiple is one, and not below. -/
theorem roundUp_mod (v m : Nat) : roundUp v m % m = 0 := Nat.mul_mod_left ..

theorem le_roundUp (v : Nat) {m : Nat} (h : 0 < m) : v ≤ roundUp v m := by
  have hdiv := Nat.div_add_mod (v + (m - 1)) m
  have hmod := Nat.mod_lt (v + (m - 1)) h
  rw [roundUp, Nat.mul_comm]
  omega

/-! ### The choice of a source, and steering -/

/-- What neither a choice of the time source nor a sample of it changes: the ports' records, the pending events and the external
reference. -/
structure Offers where
  ports : Table PortTime
  events : List Event
  extSelectable : Bool
  extExpect : Option Nat
  extNext : Nat
  extBad : Nat
  drvCount : Option HeldCount

def offers (m : Time) : Offers := ⟨m.ports, m.events, m.extSelectable, m.extExpect, m.extNext, m.extBad, m.drvCount⟩

theorem offers_raise (s : State) (source cause data : Nat) (d : Option Nat) :
    offers (s.raise source cause data d).time = offers s.time := by simp

theorem offers_enterLocked (s : State) : offers s.enterLocked.time = offers s.time := (offers_raise ..).trans rfl

/-- The choice of the time source (R44, R45). -/
theorem offers_reselect (s : State) : offers s.reselect.time = offers s.time := by
  simp only [State.reselect]
  split
  case h_1 => rfl
  case h_2 => exact (offers_raise ..).trans rfl
  case h_3 => rfl
  case h_4 => rfl
  case h_5 => rfl
  case h_6 => split <;> rfl
  case h_7 => split_ifs <;> rfl
  case h_8 =>
    split
    · exact offers_enterLocked _
    · rfl

theorem ringsOf_reselect (s : State) : ringsOf s.reselect = ringsOf s := by
  simp only [State.reselect]
  split
  case h_1 => rfl
  case h_2 => exact ringsOf_raise ..
  case h_3 => rfl
  case h_4 => rfl
  case h_5 => rfl
  case h_6 => split <;> rfl
  case h_7 => split_ifs <;> rfl
  case h_8 =>
    split
    · exact ringsOf_raise ..
    · rfl

/-- Without a pending event none is applied (R62). -/
theorem runEvents_of_none {s : State} (h : s.time.events = []) (t : Nat) : s.runEvents t = s := by
  simp [State.runEvents, h, sortBy]

/-- Fabric Time alone moves in a step forward that passes no event (R39). -/
theorem stepForward_of_none {s : State} (h : s.time.events = []) (ns : Nat) :
    s.stepForward ns = { s with time := { s.time with ft := s.time.ft + ns } } := by
  simp only [State.stepForward]
  split
  · rfl
  · exact runEvents_of_none (s := { s with time := { s.time with ft := s.time.ft + ns } }) h _

/-- A sample of the source steers Fabric Time alone, where no event is pending (R39, R43). -/
theorem steer_of_none {s : State} (h : s.time.events = []) (sample : Int) :
    ∃ tm : Time, s.steer sample = { s with time := tm } ∧ offers tm = offers s.time := by
  simp only [State.steer]
  split_ifs
  · exact ⟨_, rfl, rfl⟩
  · exact ⟨_, stepForward_of_none (by exact h) _, rfl⟩
  · exact ⟨_, rfl, rfl⟩
  · exact ⟨_, rfl, rfl⟩
  · exact ⟨_, stepForward_of_none (by exact h) _, rfl⟩
  all_goals exact ⟨_, rfl, rfl⟩

/-! ### Plan swaps that are aborted -/

theorem abortEvent_of_planSwap {s : State} {e : Event} (h : e.kind = .planSwap) :
    s.abortEvent e = (s.dropEvent e).endOpt e.cmd (Cs.aborted, 0) := by
  simp only [State.abortEvent, h]

theorem out_sub_endOpt (s : State) (c : Option Cmd) (x : Stop) : s.out ⊆ (s.endOpt c x).out := by
  cases c with
  | none => exact List.Subset.refl _
  | some c => exact out_sub_finish ..

/-- Plan swaps that are aborted leave the queue; of Fabric Time nothing else changes, and what has been sent stays (R47, R60). -/
theorem abortSwaps_keeps {l : List Event} (hl : ∀ e ∈ l, e.kind = .planSwap) (s : State) :
    (l.foldl (fun s e => s.abortEvent e) s).time = { s.time with events := s.time.events.filter fun e => !l.contains e } ∧
      s.out ⊆ (l.foldl (fun s e => s.abortEvent e) s).out := by
  induction l generalizing s with
  | nil => exact ⟨by simp, List.Subset.refl _⟩
  | cons e l ih =>
    obtain ⟨htime, hout⟩ := ih (fun x hx => hl x (List.mem_cons_of_mem _ hx)) (s.abortEvent e)
    rw [List.foldl_cons]
    refine ⟨htime.trans ?_, fun o ho => hout ?_⟩
    · rw [abortEvent_of_planSwap (hl e List.mem_cons_self)]
      simp only [State.endOpt_frame, State.dropEvent, List.filter_filter, List.contains_cons, Bool.not_or, bne, Bool.and_comm]
    · rw [abortEvent_of_planSwap (hl e List.mem_cons_self)]
      exact out_sub_endOpt (s.dropEvent e) _ _ ho

/-- The state with the pending plan swaps aborted (R47, R60). -/
def swapsAborted (s : State) : State := (s.time.events.filter fun e => e.kind == .planSwap).foldl (fun s e => s.abortEvent e) s

theorem swapsAborted_keeps (s : State) : (swapsAborted s).time =
    { s.time with events := s.time.events.filter fun e => !(s.time.events.filter fun e => e.kind == .planSwap).contains e } ∧
      s.out ⊆ (swapsAborted s).out ∧ (swapsAborted s).clock = s.clock := by
  obtain ⟨htime, hout⟩ := abortSwaps_keeps (l := s.time.events.filter fun e => e.kind == .planSwap)
    (fun e he => beq_iff_eq.1 (List.mem_filter.1 he).2) s
  exact ⟨htime, hout, by simp [swapsAborted]⟩

theorem kind_of_mem_swapsAborted {s : State} {e : Event} (h : e ∈ (swapsAborted s).time.events) : e.kind ≠ .planSwap := by
  intro hswap
  rw [(swapsAborted_keeps s).1] at h
  simp [hswap] at h

/-! ### The external reference -/

/-- The offset of the reference from Fabric Time at an edge with its second, in units of 1/32 ns (R43). -/
def edgeOffset (s : State) (n : Nat) : Int := ((n * 1000000000 : Nat) - (s.time.ft : Int)) * 32

/-- The external reference after an edge at its second: selectable, with the next edge a second later (R40). -/
def edgeNoted (s : State) (n : Nat) : State :=
  { s with time := { s.time with
    extSelectable := true, extExpect := some (s.clock + 1000000000), extNext := n + 1, extBad := 0, extOffset := edgeOffset s n } }

theorem acceptEdge_eq (s : State) (n : Nat) : s.acceptEdge n =
    if (edgeNoted s n).reselect.time.src = 12 then (edgeNoted s n).reselect.steer (edgeOffset s n) else (edgeNoted s n).reselect := rfl

/-- An edge is accepted where no event is pending: no other reference, event or ring changes (R40). -/
theorem acceptEdge_of_none {s : State} (h : s.time.events = []) (n : Nat) :
    offers (s.acceptEdge n).time = offers (edgeNoted s n).time ∧ ringsOf (s.acceptEdge n) = ringsOf s := by
  have hoffers := offers_reselect (edgeNoted s n)
  have hrings := ringsOf_reselect (edgeNoted s n)
  rw [acceptEdge_eq]
  split
  · have hnone : (edgeNoted s n).reselect.time.events = [] := (congrArg Offers.events hoffers).trans h
    obtain ⟨tm, hsteer, htm⟩ := steer_of_none hnone (edgeOffset s n)
    rw [hsteer]
    exact ⟨htm.trans hoffers, hrings⟩
  · exact ⟨hoffers, hrings⟩

/-- The state with the count of a TIME_SET held for the next edge (R41). -/
def countHeld (s : State) (c : Cmd) : State :=
  { s with time := { s.time with drvCount := some ⟨bitsOf c.d.p0 47 0, s.clock, some c⟩ } }

/-- A TIME_SET where no count is held and the external reference is a source (R41). -/
theorem execTimeSet_of_none {s : State} {c : Cmd} (hstarts : Starts s c .g) (hsource : bitOf (s.regs.val 0x40010).toNat 0 = true)
    (hnone : s.time.drvCount = none) : execTimeSet c s = .next (countHeld (started s c) c) := by
  have hown : chk (!bitOf (s.regs.val 0x40010).toNat 0) Cs.refusedState 2 = none := by simp [chk, hsource]
  have hold : (started s c).time.drvCount = none := by simp [started, hnone]
  refine congrArg Host.Outcome.next ((command_of_starts hstarts hown _).trans ?_)
  simp only [hold]
  rfl

/-- The state in which the driver's count is no longer held. -/
def countDropped (s : State) : State := { s with time := { s.time with drvCount := none } }

theorem endCount_of_cmd {h : HeldCount} {k : Cmd} (hcmd : h.cmd = some k) (s : State) (x : Stop) :
    s.endCount (some h) x = s.endWith k x := by
  simp [State.endCount, State.endOpt, hcmd]

/-- The state in which an edge has taken the counts that were held (R41). -/
def countsTaken (s : State) : State := { s with time := { s.time with drvCount := none, bmcCount := none } }

/-- An edge 100 ms to 900 ms after the driver's count, with no edge expected: the count is its second (R40, R41). -/
theorem execTimerefPpsEdge_of_count {s : State} {dt : Nat} {h : HeldCount} (hcount : s.time.drvCount = some h)
    (hlow : h.arrived + 100000000 ≤ s.clock + dt) (hhigh : s.clock + dt ≤ h.arrived + 900000000) (hbmc : s.time.bmcCount = none)
    (hexpect : s.time.extExpect = none) : execTimerefPpsEdge dt s =
      .next (((countsTaken (s.passTo (s.clock + dt))).acceptEdge h.count).endCount (some h) (Cs.done, 0)) := by
  have hclock := passTo_clock_of_le s (t := s.clock + dt) (by omega)
  have hfits : (s.passTo (s.clock + dt)).countFits h = true := by
    simp only [State.countFits, hclock, Bool.and_eq_true, decide_eq_true_eq]
    exact ⟨hlow, hhigh⟩
  have hdrv : (s.passTo (s.clock + dt)).time.drvCount = some h := hcount
  have hboard : (s.passTo (s.clock + dt)).time.bmcCount = none := hbmc
  have hnext : (s.passTo (s.clock + dt)).time.extExpect = none := hexpect
  have hfilter : (some h).filter (s.passTo (s.clock + dt)).countFits = some h := if_pos hfits
  simp only [execTimerefPpsEdge, hdrv, hboard, hnext, hfilter, Option.filter_none, Option.isSome_some, Bool.true_or, Bool.not_true,
    Bool.false_eq_true, if_false]
  simp only [countsTaken, hnext]

/-- An edge that is rejected or missing, of fewer than three in a row, is counted (R40). -/
theorem badEdge_of_few {s : State} (h : s.time.extBad < 2) (skip : Bool) : (s.badEdge skip).time.extBad = s.time.extBad + 1 ∧
    (s.badEdge skip).time.extSelectable = s.time.extSelectable ∧ (s.badEdge skip).out = s.out := by
  have hfew : ¬3 ≤ s.time.extBad + 1 := by omega
  simp [State.badEdge, hfew]

/-- The third in a row loses the reference (R40). -/
theorem badEdge_of_third {s : State} (h : 2 ≤ s.time.extBad) (skip : Bool) :
    offers (s.badEdge skip).time = { offers s.time with extSelectable := false, extExpect := none, extBad := 0 } := by
  have hthird : 3 ≤ s.time.extBad + 1 := by omega
  simp only [State.badEdge, if_pos hthird]
  exact offers_reselect { s with time := { s.time with extSelectable := false, extExpect := none, extBad := 0 } }

/-! ### Time messages -/

/-- A port sends its time message, and its number moves on (R42). -/
def timeSent (s : State) (n : Nat) : State :=
  let t := (s.time.ports.get n).getD PortTime.init
  let s := s.emit (.timeMsg n t.txSeq s.time.ft t.echoTx t.echoRx s.advHops s.stateByte (s.regs.fld 0x40010 31 16))
  { s with time := { s.time with ports := s.time.ports.put n { t with txSeq := (t.txSeq + 1) % 65536 } } }

theorem timeSent_frame (s : State) (n : Nat) : (timeSent s n).time.ft = s.time.ft ∧ (timeSent s n).time.msgAt = s.time.msgAt ∧
    (timeSent s n).clock = s.clock ∧ (timeSent s n).regs = s.regs ∧ (timeSent s n).boot = s.boot := by
  simp [timeSent]

theorem out_sub_timeSent (s : State) (n : Nat) : s.out ⊆ (timeSent s n).out := out_sub_emit s _

/-- Every port of a list sends its message. -/
theorem timeMsg_mem_foldl {n : Nat} {l : List Nat} (hn : n ∈ l) {s : State} (hmute : s.mute = false) : ∃ a b hops state,
    Out.timeMsg n ((s.time.ports.get n).getD PortTime.init).txSeq s.time.ft a b hops state (s.regs.fld 0x40010 31 16) ∈
      (l.foldl timeSent s).out := by
  induction l generalizing s with
  | nil => cases hn
  | cons m l ih =>
    by_cases heq : n = m
    · subst heq
      exact ⟨_, _, _, _, out_sub_foldl l _ out_sub_timeSent (State.mem_emit _ hmute)⟩
    · obtain ⟨hft, -, -, hregs, hboot⟩ := timeSent_frame s m
      have hports : (timeSent s m).time.ports.get n = s.time.ports.get n := by simp [timeSent, Table.get_put_of_ne _ _ heq]
      obtain ⟨a, b, hops, state, hsent⟩ := ih ((List.mem_cons.1 hn).resolve_left heq) ((mute_congr hboot).trans hmute)
      rw [hports, hft, hregs] at hsent
      exact ⟨a, b, hops, state, hsent⟩

/-- The trained ports whose `PORT_EN` bit is 1 send their messages (R42). -/
def timesSent (s : State) : State :=
  ((List.range 12).filter fun n => (s.jl n).st == 5 && bitOf (s.regs.val 0x40010).toNat (n + 4)).foldl timeSent s

/-- The state in which messages are due: their interval has passed until an instant (R42). -/
def messagesDue (s : State) (t : Nat) : State :=
  { s.passTo t with time := { (s.passTo t).time with msgAt := (s.passTo t).clock } }

theorem execTimeMsgSend_eq (s : State) : execTimeMsgSend s =
    .next (timesSent (messagesDue s (s.time.msgAt + s.regs.fld 0x40014 19 0))) := rfl

theorem timesSent_frame (s : State) : (timesSent s).time.ft = s.time.ft ∧ (timesSent s).time.msgAt = s.time.msgAt ∧
    (timesSent s).clock = s.clock :=
  ⟨foldl_keeps (·.time.ft) timeSent _ s fun s n => (timeSent_frame s n).1,
    foldl_keeps (·.time.msgAt) timeSent _ s fun s n => (timeSent_frame s n).2.1,
    foldl_keeps (·.clock) timeSent _ s fun s n => (timeSent_frame s n).2.2.1⟩

/-- A trained port that is enabled sends its message with the node's time (R42). -/
theorem timesSent_messagesDue {s : State} {n : Nat} (hn : n < 12) (hst : (s.jl n).st = 5)
    (hen : bitOf (s.regs.val 0x40010).toNat (n + 4) = true) (hmute : s.mute = false) (t : Nat) {u : State}
    (hu : u = timesSent (messagesDue s t)) :
    (∃ a b hops state, Out.timeMsg n ((s.time.ports.get n).getD PortTime.init).txSeq u.time.ft a b hops state
      (s.regs.fld 0x40010 31 16) ∈ u.out) ∧ u.time.msgAt = u.clock ∧ t ≤ u.clock := by
  obtain ⟨hft, hat, hclock⟩ := timesSent_frame (messagesDue s t)
  have hsends : n ∈ (List.range 12).filter fun n =>
      ((messagesDue s t).jl n).st == 5 && bitOf ((messagesDue s t).regs.val 0x40010).toNat (n + 4) := by
    have hsame : ((messagesDue s t).jl n) = s.jl n ∧ (messagesDue s t).regs = s.regs := ⟨rfl, rfl⟩
    simp [hsame, hn, hst, hen]
  rw [hu, hft, hat, hclock]
  exact ⟨timeMsg_mem_foldl hsends (s := messagesDue s t) hmute, rfl, passTo_clock_ge s t⟩

/-- A port's record with what a message's sender offers (R42, R44). -/
def offered (s : State) (n : Nat) (m : TimeMsg) : PortTime :=
  { (s.time.ports.get n).getD PortTime.init with
    hops := m.hops, state := m.state, domain := m.domain, echoTx := m.txFt, echoRx := s.time.ft }

/-- A message without echoes gives no sample (R43). -/
theorem execTimeMsgReceive_of_noEcho {s : State} {jl : JPort} {m : TimeMsg} (hst : (s.jl jl).st = 5)
    (hen : bitOf (s.regs.val 0x40010).toNat (jl.val + 4) = true) (hecho : m.echoTx = 0) : execTimeMsgReceive jl m s =
      .next ({ s with time := { s.time with ports := s.time.ports.put jl (offered s jl m) } } : State).reselect := by
  simp [execTimeMsgReceive, hst, hen, hecho, offered]

/-- The offset of a port's peer that a message with echoes measures (R43). -/
def measured (s : State) (n : Nat) (m : TimeMsg) : Int :=
  thetaOf m.echoTx m.echoRx m.txFt s.time.ft (signedOf 16 (s.regs.fld (0x40040 + 4 * n) 15 0))

/-- A port's record after its exchange, the first since its history was discarded (R43, R353). -/
def exchanged (s : State) (n : Nat) (m : TimeMsg) : PortTime :=
  { offered s n m with heard := true, theta := measured s n m,
                       delay := some (Config.filterDelay none (((s.time.ft : Int) - m.txFt) * 32 + measured s n m)) }

/-- The state with a port's exchange noted. -/
def exchangeNoted (s : State) (n : Nat) (m : TimeMsg) : State :=
  { s.setJl n { s.jl n with exchanges := (s.jl n).exchanges - 1 } with
    time := { s.time with ports := s.time.ports.put n (exchanged s n m) } }

/-- A message with echoes on a port without a delay yet: its exchange is noted, and its sample may steer the node (R43, R44). -/
theorem execTimeMsgReceive_of_echo {s : State} {jl : JPort} {m : TimeMsg} (hst : (s.jl jl).st = 5)
    (hen : bitOf (s.regs.val 0x40010).toNat (jl.val + 4) = true) (hecho : m.echoTx ≠ 0)
    (hdelay : ((s.time.ports.get jl).getD PortTime.init).delay = none) :
    execTimeMsgReceive jl m s = .next (exchangeNoted s jl m).reselect ∨
      execTimeMsgReceive jl m s = .next ((exchangeNoted s jl m).reselect.steer (measured s jl m)) := by
  have hnot : ¬((s.jl jl).st ≠ 5 ∨ (!bitOf (s.regs.val 0x40010).toNat (jl.val + 4)) = true) := by simp [hst, hen]
  have hfalse : (m.echoTx == 0) = false := beq_eq_false_iff_ne.2 hecho
  simp only [execTimeMsgReceive, if_neg hnot, hdelay, hfalse, Bool.or_false, Bool.false_eq_true, if_false]
  split
  · exact .inr rfl
  · exact .inl rfl

/-- What an exchange leaves of its port, whatever source is then chosen. -/
theorem port_of_exchangeNoted {s t : State} {jl : JPort} {m : TimeMsg} (hoffers : offers t.time = offers (exchangeNoted s jl m).time)
    (hnet : t.net = (exchangeNoted s jl m).net) :
    t.time.ports.get jl = some (exchanged s jl m) ∧ (t.jl jl).exchanges = (s.jl jl).exchanges - 1 := by
  have hports : t.time.ports = s.time.ports.put jl (exchanged s jl m) := congrArg Offers.ports hoffers
  have hjl : t.jl jl = (s.setJl jl { s.jl jl with exchanges := (s.jl jl).exchanges - 1 }).jl jl := by rw [State.jl, hnet]; rfl
  rw [hports, hjl, State.jl_setJl, if_pos rfl]
  exact ⟨Table.get_put_same .., rfl⟩

/-! ### Timers -/

/-- A count that is dropped at an instant, with the command that holds it aborted (R41). -/
theorem countDropped_passTo {s : State} {k : Cmd} (hup : RingUp s k.ring) (t : Nat) (x : Stop) :
    ((countDropped (s.passTo t)).endWith k x).time.drvCount = none ∧ t ≤ ((countDropped (s.passTo t)).endWith k x).clock ∧
      Ends ((countDropped (s.passTo t)).endWith k x) k x.1 x.2 0 := by
  have hring : RingUp (countDropped (s.passTo t)) k.ring := ringUp_congr hup rfl rfl
  exact ⟨by simp [countDropped], by simpa [countDropped] using passTo_clock_ge s t, ends_endWith_of_ringUp hring x⟩

/-- An edge that is accepted at an instant with the count of a command, which completes (R40, R41). -/
theorem acceptEdge_passTo {s : State} {k : Cmd} (hup : RingUp s k.ring) (hevents : s.time.events = []) (n : Nat) {t : Nat}
    (ht : s.clock ≤ t) {u : State} (hu : u = ((countsTaken (s.passTo t)).acceptEdge n).endWith k (Cs.done, 0)) :
    u.time.extSelectable = true ∧ u.time.extExpect = some (t + 1000000000) ∧ u.time.extNext = n + 1 ∧ u.time.extBad = 0 ∧
      u.time.drvCount = none ∧ Ends u k 0 0 0 := by
  obtain ⟨hoffers, hrings⟩ := acceptEdge_of_none (s := countsTaken (s.passTo t)) hevents n
  have htime : u.time = ((countsTaken (s.passTo t)).acceptEdge n).time := by simp [hu]
  have hring := ringUp_congr hup hrings (by simp [countsTaken])
  rw [← htime] at hoffers
  refine ⟨congrArg Offers.extSelectable hoffers, (congrArg Offers.extExpect hoffers).trans ?_, congrArg Offers.extNext hoffers,
    congrArg Offers.extBad hoffers, congrArg Offers.drvCount hoffers, hu ▸ ends_endWith_of_ringUp hring (Cs.done, 0)⟩
  exact congrArg (fun c => some (c + 1000000000)) (passTo_clock_of_le s ht)

/-- LOCKED is entered at an instant, with its notice (R45). -/
theorem enterLocked_passTo (s : State) (t : Nat) : (s.passTo t).enterLocked.time.mode = .locked ∧
    (s.passTo t).enterLocked.time.lockedAt = (s.passTo t).enterLocked.clock ∧ t ≤ (s.passTo t).enterLocked.clock ∧
    (Listening s → Told (s.passTo t).enterLocked Src.time 0x03 2) := by
  refine ⟨by simp [State.enterLocked], by simp [State.enterLocked], by simpa using passTo_clock_ge s t, fun hlistens => ?_⟩
  exact told_raise _ _ _ (listening_congr hlistens rfl rfl)

/-- The state whose node has left LOCKED for ACQUIRING at an instant (R45). -/
def lockLost (s : State) (t : Nat) : State :=
  { s.passTo t with time := { (s.passTo t).time with mode := .acquiring, inside := none, outside := none } }

theorem lockLost_frame (s : State) (t : Nat) : (lockLost s t).time.mode = .acquiring ∧ (lockLost s t).time.inside = none ∧
    t ≤ (lockLost s t).clock ∧ (lockLost s t).out = s.out := ⟨rfl, rfl, passTo_clock_ge s t, rfl⟩

/-- The state whose HOLDOVER has ended at an instant, before its plan swaps are aborted: slot assignments stop, with a notice (R45, R47). -/
def suspended (s : State) (t : Nat) : State :=
  ({ s.passTo t with time := { (s.passTo t).time with mode := .suspended, src := 15, running := false } } : State).raise Src.time 0x02 4

theorem suspended_frame (s : State) (t : Nat) : (suspended s t).time.mode = .suspended ∧ (suspended s t).time.running = false ∧
    t ≤ (suspended s t).clock ∧ (Listening s → Told (suspended s t) Src.time 0x02 4) := by
  refine ⟨by simp [suspended], by simp [suspended], by simpa [suspended] using passTo_clock_ge s t, fun hlistens => ?_⟩
  exact told_raise _ _ _ (listening_congr hlistens rfl rfl)

/-- The state whose slot assignments run again from the first multiple of a cycle after an instant (R47). -/
def planResumed (s : State) (t cycle : Nat) : State :=
  let u := (s.passTo t).passToFt (roundUp (s.passTo t).time.ft cycle)
  { u with time := { u.time with running := true } }

theorem planResumed_frame (s : State) (t : Nat) {cycle : Nat} (hpos : 0 < cycle) : (planResumed s t cycle).time.ft % cycle = 0 ∧
    t ≤ (planResumed s t cycle).clock ∧ (planResumed s t cycle).out = s.out := by
  refine ⟨?_, (passTo_clock_ge s t).trans (Nat.le_add_right _ _), rfl⟩
  show ((s.passTo t).passToFt _).time.ft % cycle = 0
  rw [passToFt_ft_of_le _ (le_roundUp _ hpos), roundUp_mod]

/-- A plan that is active in LOCKED or HOLDOVER is on once its assignments run (R45, R47). -/
theorem planOn_planResumed {s : State} (hgood : s.timeGood = true) (hactive : s.time.active.isSome = true) (t cycle : Nat) :
    (planResumed s t cycle).planOn = true := by
  have hkept : (planResumed s t cycle).planOn = (s.timeGood && s.time.active.isSome) := rfl
  rw [hkept, hgood, hactive]
  rfl

theorem execPlanResume_of_locked {s : State} {p : Plan} (hactive : s.time.active = some p) (hmode : s.time.mode = .locked)
    (hstopped : s.time.running = false) :
    execPlanResume s = .next (planResumed s (s.time.lockedAt + 1000000000) (128 * 2 ^ p.slotLog2)) := by
  simp only [execPlanResume, hactive, hmode, hstopped, Bool.not_false, and_self, if_true, planResumed]

theorem execHoldoverExpiry_of_holdover {s : State} (hmode : s.time.mode = .holdover) :
    execHoldoverExpiry s = .next (swapsAborted (suspended s (s.time.lostAt + 60000000000))) := by
  have hnot : ¬s.time.mode ≠ .holdover := not_not.2 hmode
  simp only [execHoldoverExpiry, if_neg hnot, suspended, swapsAborted]

/-- Settles O40: what each reference, message and timer leaves of Fabric Time. -/
theorem fabricTime : Obligations.FabricTime := by
  refine ⟨?set, ?setLate, ?edge, ?missed, ?third, ?loss, fun s count => ⟨_, rfl, rfl⟩, ?send, ?offer, ?exchange, ?locks, ?unlocks, ?expires,
    ?resumes⟩
  case set =>
    intro s c hstarts hop hsource hnone
    refine ⟨_, execTimeSet_of_none hstarts hsource hnone, ?_, running_started s c, ?_⟩
    · simp [countHeld, started]
    · simp [countHeld, started]
  case setLate =>
    intro s h k hcount hcmd hup
    have hstep : execTimeSetTimeout s = .next ((countDropped (s.passTo (h.arrived + 2000000000))).endWith k (Cs.aborted, 2)) := by
      simp only [execTimeSetTimeout, hcount, endCount_of_cmd hcmd, countDropped]
    exact ⟨_, hstep, countDropped_passTo hup _ _⟩
  case edge =>
    intro s dt h k hcount hcmd hup hlow hhigh hbmc hexpect hevents
    have hstep := execTimerefPpsEdge_of_count hcount hlow hhigh hbmc hexpect
    rw [endCount_of_cmd hcmd] at hstep
    exact ⟨_, hstep, acceptEdge_passTo hup hevents h.count (Nat.le_add_right _ _) rfl⟩
  case missed =>
    intro s e hexpect hfew
    have hstep : execPpsEdgeMissed s = .next ((s.passTo (e + 1001)).badEdge true) := by simp only [execPpsEdgeMissed, hexpect]
    obtain ⟨hbad, hselect, hout⟩ := badEdge_of_few (s := s.passTo (e + 1001)) hfew true
    refine ⟨_, hstep, hbad, hselect, ?_, hout⟩
    simpa using passTo_clock_ge s (e + 1001)
  case third =>
    intro s e hexpect hmany
    have hstep : execPpsEdgeMissed s = .next ((s.passTo (e + 1001)).badEdge true) := by simp only [execPpsEdgeMissed, hexpect]
    have hoffers := badEdge_of_third (s := s.passTo (e + 1001)) hmany true
    exact ⟨_, hstep, congrArg Offers.extSelectable hoffers, congrArg Offers.extExpect hoffers, congrArg Offers.extBad hoffers⟩
  case loss =>
    intro s hheld hen
    have hacts : ¬(s.time.lost10m || !bitOf (s.regs.val 0x40010).toNat 1) = true := by simp [hheld, hen]
    refine ⟨_, congrArg Host.Outcome.next (if_neg hacts), by simp, fun hselect hlistens => ?_⟩
    dsimp only
    rw [if_pos hselect]
    exact told_raise _ _ _ (listening_congr hlistens rfl rfl)
  case send =>
    intro s n hn hst hen hmute
    exact ⟨_, execTimeMsgSend_eq s, timesSent_messagesDue hn hst hen hmute _ rfl⟩
  case offer =>
    intro s jl m hst hen hecho
    exact ⟨_, execTimeMsgReceive_of_noEcho hst hen hecho, (congrArg (fun o => o.ports.get jl) (offers_reselect _)).trans
      (Table.get_put_same ..)⟩
  case exchange =>
    intro s jl m hst hen hecho hdelay hevents
    have hoffers := offers_reselect (exchangeNoted s jl m)
    have hnet : (exchangeNoted s jl m).reselect.net = (exchangeNoted s jl m).net := by simp
    have hnone : (exchangeNoted s jl m).reselect.time.events = [] := (congrArg Offers.events hoffers).trans hevents
    obtain ⟨tm, hsteer, htm⟩ := steer_of_none hnone (measured s jl m)
    rcases execTimeMsgReceive_of_echo hst hen hecho hdelay with hstep | hstep
    · obtain ⟨hport, hexchanges⟩ := port_of_exchangeNoted hoffers hnet
      exact ⟨_, hstep, ⟨_, hport, rfl, rfl, rfl, rfl, rfl⟩, hexchanges⟩
    · rw [hsteer] at hstep
      obtain ⟨hport, hexchanges⟩ := port_of_exchangeNoted (t := { (exchangeNoted s jl m).reselect with time := tm }) (htm.trans hoffers) hnet
      exact ⟨_, hstep, ⟨_, hport, rfl, rfl, rfl, rfl, rfl⟩, hexchanges⟩
  case locks =>
    intro s since hmode hinside
    have hstep : execAcquireLockTimer s = .next (s.passTo (since + 1000000000)).enterLocked := by
      simp only [execAcquireLockTimer, hmode, hinside]
    exact ⟨_, hstep, enterLocked_passTo s _⟩
  case unlocks =>
    intro s since hmode houtside
    have hstep : execLockOffsetTimer s = .next (lockLost s (since + 10000000)) := by
      simp only [execLockOffsetTimer, hmode, houtside, lockLost]
    exact ⟨_, hstep, lockLost_frame s _⟩
  case expires =>
    intro s hmode
    refine ⟨_, execHoldoverExpiry_of_holdover hmode, ?_⟩
    obtain ⟨hsuspended, hstopped, hclock, htold⟩ := suspended_frame s (s.time.lostAt + 60000000000)
    generalize suspended s (s.time.lostAt + 60000000000) = u at hsuspended hstopped hclock htold
    obtain ⟨htime, hout, hkept⟩ := swapsAborted_keeps u
    refine ⟨by rw [htime, hsuspended], by rw [htime, hstopped], ?_, by rw [hkept]; exact hclock, fun e he => kind_of_mem_swapsAborted he,
      fun hlistens => told_mono (htold hlistens) hout⟩
    rw [State.planOn, htime, hstopped]
    rfl
  case resumes =>
    intro s p hactive hmode hstopped
    obtain ⟨hft, hclock, hout⟩ := planResumed_frame s (s.time.lockedAt + 1000000000) (cycle := 128 * 2 ^ p.slotLog2) (by positivity)
    have hgood : s.timeGood = true := by simp [State.timeGood, hmode]
    exact ⟨_, execPlanResume_of_locked hactive hmode hstopped, planOn_planResumed hgood (by simp [hactive]) _ _, hft, hclock, hout⟩

end Sys2Proof.Proofs
end

section
/-! Plans, scheduled events and role swaps (R60 to R67, R517, R519). -/

namespace Sys2Proof.Proofs

open Sys2Proof Sys2Proof.Machine Sys2Proof.Claims

/-! ### One pending event -/

/-- The state with no event pending. -/
def eventsCleared (s : State) : State := { s with time := { s.time with events := [] } }

theorem dropEvent_of_single {s : State} {e : Event} (h : s.time.events = [e]) : s.dropEvent e = eventsCleared s := by
  simp [State.dropEvent, h, eventsCleared]

theorem abortEvent_of_power {s : State} {at' n : Nat} {k : Cmd} (h : s.time.events = [⟨at', .power n, some k⟩]) :
    s.abortEvent ⟨at', .power n, some k⟩ = (eventsCleared s).endWith k (Cs.aborted, 0) := by
  rw [← dropEvent_of_single h]
  rfl

/-- The one event pending, when its instant has come: it is aborted, it waits for a switch-over, or it is applied (R62, R64). -/
theorem runEvents_of_single {s : State} {e : Event} {t : Nat} (h : s.time.events = [e]) (hdue : e.instant ≤ t) : s.runEvents t =
    if !s.timeGood then s.abortEvent e else if s.switchingOver then s else s.applyEvent e := by
  simp [State.runEvents, h, hdue, sortBy, insertBy]

theorem reach_of_single {s : State} {e : Event} (h : s.time.events = [e]) : s.reach e.instant = s.passToFt e.instant := by
  simp [State.reach, h, sortBy, List.eraseDups_nil]

theorem periodicSwaps_of_none {s : State} {t : Nat} (h : ∀ p, p < 3 → s.periodicAt p t = false) : s.periodicSwaps t = s := by
  have hnone : ((List.range 3).filter fun p => s.periodicAt p t) = [] :=
    List.filter_eq_nil_iff.2 fun p hp => by simp [h p (List.mem_range.1 hp)]
  rw [State.periodicSwaps, hnone]
  rfl

theorem periodicAt_congr {s t : State} (h : t.regs.act = s.regs.act) (p at' : Nat) : t.periodicAt p at' = s.periodicAt p at' := by
  simp only [State.periodicAt, Regs.fld, Regs.val, h]

/-- Fabric Time reaches the instant of the one event pending, at which no periodic swap falls (R62, R66). -/
theorem execEventInstant_of_single {s u : State} {e : Event} (hready : s.boot.fwReady = true) (hevents : s.time.events = [e])
    (hnow : s.time.ft ≤ e.instant) (hquiet : ∀ p, p < 3 → s.periodicAt p e.instant = false)
    (hrun : (s.passToFt e.instant).runEvents e.instant = u) (hact : u.regs.act = s.regs.act) :
    execEventInstant e.instant s = .next u := by
  have hnone : u.periodicSwaps e.instant = u := periodicSwaps_of_none fun p hp => (periodicAt_congr hact p _).trans (hquiet p hp)
  simp [execEventInstant, hready, hnow, reach_of_single hevents, hrun, hnone]

theorem execEventInstant_applies {s : State} {e : Event} (hready : s.boot.fwReady = true) (hevents : s.time.events = [e])
    (hnow : s.time.ft ≤ e.instant) (hquiet : ∀ p, p < 3 → s.periodicAt p e.instant = false) (hgood : s.timeGood = true)
    (hswitching : s.switchingOver = false) (hact : ((s.passToFt e.instant).applyEvent e).regs.act = s.regs.act) :
    execEventInstant e.instant s = .next ((s.passToFt e.instant).applyEvent e) := by
  have hgood' : (s.passToFt e.instant).timeGood = true := hgood
  have hswitching' : (s.passToFt e.instant).switchingOver = false := hswitching
  refine execEventInstant_of_single hready hevents hnow hquiet ?_ hact
  simp [runEvents_of_single (s := s.passToFt e.instant) hevents le_rfl, hgood', hswitching']

theorem execEventInstant_aborts {s : State} {e : Event} (hready : s.boot.fwReady = true) (hevents : s.time.events = [e])
    (hnow : s.time.ft ≤ e.instant) (hquiet : ∀ p, p < 3 → s.periodicAt p e.instant = false) (hgood : s.timeGood = false)
    (hact : ((s.passToFt e.instant).abortEvent e).regs.act = s.regs.act) :
    execEventInstant e.instant s = .next ((s.passToFt e.instant).abortEvent e) := by
  have hgood' : (s.passToFt e.instant).timeGood = false := hgood
  refine execEventInstant_of_single hready hevents hnow hquiet ?_ hact
  simp [runEvents_of_single (s := s.passToFt e.instant) hevents le_rfl, hgood']

theorem act_done (s : State) (c : Cmd) (result : Nat) : (s.done c result).regs.act = s.regs.act := act_finish ..

theorem act_endWith (s : State) (c : Cmd) (x : Stop) : (s.endWith c x).regs.act = s.regs.act := act_finish ..

theorem applyEvent_of_power {s : State} {at' n : Nat} {k : Cmd} (h : s.time.events = [⟨at', .power n, some k⟩]) :
    s.applyEvent ⟨at', .power n, some k⟩ = ((eventsCleared s).usePowerProfile n).done k (s.time.ft % 2 ^ 64) := by
  rw [← dropEvent_of_single h]
  rfl

theorem applyEvent_of_planSwap {s : State} {at' : Nat} {k : Cmd} (h : s.time.events = [⟨at', .planSwap, some k⟩]) :
    s.applyEvent ⟨at', .planSwap, some k⟩ = (eventsCleared s).swapPlans.done k (s.time.ft % 2 ^ 64) := by
  rw [← dropEvent_of_single h]
  rfl

/-! ### Plan banks -/

/-- The banks change places, and slot assignments run (R67). -/
theorem time_swapPlans (s : State) : s.swapPlans.time =
    { s.time with active := s.time.standby, standby := s.time.active, running := true } := rfl

/-- The state with its standby bank empty (R60). -/
def standbyDropped (s : State) : State := { s with time := { s.time with standby := none } }

theorem execPlanDiscard_of_starts {s : State} {c : Cmd} (h : Starts s c .g) :
    execPlanDiscard c s = .next ((standbyDropped (swapsAborted (started s c))).done c 0) :=
  congrArg Host.Outcome.next (command_of_starts h rfl _)

theorem swapsAborted_of_none {s : State} (h : s.time.events = []) : swapsAborted s = s := by simp [swapsAborted, h]

theorem swapsAborted_of_single {s : State} {at' : Nat} {k : Cmd} (h : s.time.events = [⟨at', .planSwap, some k⟩]) :
    swapsAborted s = (eventsCleared s).endWith k (Cs.aborted, 0) := by
  rw [← dropEvent_of_single h]
  simp [swapsAborted, h, State.abortEvent, State.endOpt]

theorem time_started (s : State) (c : Cmd) : (started s c).time = s.time := by simp [started]

theorem ringUp_of_starts {s : State} {c : Cmd} {k : Kind} (h : Starts s c k) : RingUp s c.ring := h.1

/-! ### Events of commands -/

/-- An EVENT_CANCEL that names the one event pending: it is refused within 10 µs of the instant (R65). -/
theorem execEventCancel_of_single {s : State} {c k : Cmd} {at' n : Nat} (hevents : s.time.events = [⟨at', .power n, some k⟩])
    (hid : k.d.cmdId = bitsOf c.d.p0 31 0) (hissuer : issuerOf k.ring = bitsOf c.d.p1 8 0) : execEventCancel c s =
      .next (s.command c .g (chk (decide (at' ≤ s.time.ft + 10000)) Cs.refusedState (decide (at' ≤ s.time.ft + 10000)).toNat)
        fun s => (s.done c 0).abortEvent ⟨at', .power n, some k⟩) := by
  simp [execEventCancel, hevents, hid, hissuer]

/-! ### Role swaps -/

/-- A pair after its switch-over: the other core is active, and its standby has passed no lap yet (R517, R519). -/
def swappedCore (x : Core) (now : Nat) : Core :=
  { x with
    active := 1 - x.active, switching := none, standbyPassed := false, lapFails := 0,
    startA := if 1 - x.active = 0 then now else x.startA, startB := if 1 - x.active = 1 then now else x.startB }

/-- The state in which a pair's switch-over has ended. -/
def switched (s : State) (p : Nat) : State := s.setCore p (swappedCore (s.core p) s.time.ft)

theorem core_switched (s : State) (p q : Nat) : (switched s p).core q = if q = p then swappedCore (s.core p) s.time.ft else s.core q :=
  State.core_setCore ..

theorem endSwitch_of_unplanned (s : State) (p : Nat) {w : Switch} (h : w.planned = false) : s.endSwitch p w = switched s p := by
  simp [State.endSwitch, h, switched, swappedCore]

theorem endSwitch_of_cmd (s : State) (p : Nat) {w : Switch} {k : Cmd} (h : w.planned = true) (hcmd : w.cmd = some k) : s.endSwitch p w =
    ((switched s p).raise Src.cores 0x01 (p + w.forced.toNat * 4 + (1 - (s.core p).active) * 8)).done k (w.start % 2 ^ 64) := by
  simp [State.endSwitch, h, hcmd, switched, swappedCore, State.doneAt]

theorem core_done (s : State) (c : Cmd) (result p : Nat) : (s.done c result).core p = s.core p := by simp [State.core]

/-- A pair that is not lost and whose standby is ready stops its active core (R517). -/
theorem startSwap_of_ready {s : State} {p : Nat} (hlost : (s.core p).lost = false) (hready : (s.core p).ready = true) (forced : Bool)
    (cmd : Option Cmd) : s.startSwap p forced cmd = s.setCore p { s.core p with switching := some ⟨true, forced, s.time.ft, cmd⟩ } := by
  simp [State.startSwap, hlost, hready]

/-- The state in which a pair's postponed swap is taken up at an instant (R64). -/
def postponedTaken (s : State) (pair : Pair) (t : Nat) : State :=
  { s.passTo t with time := { (s.passTo t).time with postponed := (s.passTo t).time.postponed.rem pair } }

theorem core_postponedTaken (s : State) (pair : Pair) (t p : Nat) : (postponedTaken s pair t).core p = s.core p := rfl

theorem startSwap_postponedTaken {s : State} {pair : Pair} (hlost : (s.core pair).lost = false) (hready : (s.core pair).ready = true)
    (t : Nat) {u : State} (hu : u = (postponedTaken s pair t).startSwap pair false none) :
    u.core pair = { s.core pair with switching := some ⟨true, false, u.time.ft, none⟩ } ∧ pair.val ∉ u.time.postponed ∧
      t ≤ u.clock := by
  rw [← core_postponedTaken s pair t] at hlost hready
  rw [startSwap_of_ready hlost hready, core_postponedTaken] at hu
  subst hu
  refine ⟨(State.core_setCore ..).trans (if_pos rfl), ?_, passTo_clock_ge s t⟩
  simp [postponedTaken, NatSet.rem]

/-- Settles O39: each command starts and has its effect, and each instant finds the one event that is due. -/
theorem plansAndEvents : Obligations.PlansAndEvents := by
  refine ⟨?load, ?activate, ?discard, ?discardSwap, ?schedule, ?tooLate, ?cancel, ?tooNear, ?power, ?aborted, ?planSwap, ?takeOver,
    ?roleSwap, ?postponed⟩
  case load =>
    intro s c hstarts hop hidle
    have hown : chk s.swapPending Cs.refusedState = none := by simp [chk, hidle]
    obtain ⟨-, hmute, -⟩ := ringUp_of_starts hstarts
    refine ⟨_, congrArg Host.Outcome.next (command_of_starts hstarts hown _), dmaBegun_startDma (mute_started hmute) _ _ _ _ _,
      running_congr (running_started s c) (rings_startDma ..), ?_⟩
    simp [State.readBuf, started]
  case activate =>
    intro s c hstarts hop hstandby hmode hroom hok hcycle hspacing
    have hown : lowestOf [chk (s.time.standby.isNone || s.time.mode != .locked) Cs.refusedState, chk (!s.eventRoom) Cs.refusedResource,
        chk (!s.instantOk c.d.p0 || c.d.p0 % max (cycleOf s.time.active) (cycleOf s.time.standby) != 0 || s.badSwap c.d.p0)
          Cs.refusedParam] = none := by
      rw [← Option.not_isNone, Bool.not_eq_true'] at hstandby
      simp [chk, lowestOf, hstandby, hmode, hroom, hok, hcycle, hspacing]
    refine ⟨_, congrArg Host.Outcome.next (command_of_starts hstarts hown _), ?_, running_started s c, ?_⟩
    · simp [State.addEvent, started]
    · simp [State.addEvent, started]
  case discard =>
    intro s c hstarts hop hevents
    have hstep := execPlanDiscard_of_starts hstarts
    rw [swapsAborted_of_none (by rw [time_started, hevents])] at hstep
    refine ⟨_, hstep, ?_, ends_done_of_ringUp ?_ 0⟩
    · simp [standbyDropped, started]
    · exact ringUp_congr (ringUp_started (ringUp_of_starts hstarts)) rfl rfl
  case discardSwap =>
    intro s c k at' hstarts hop hevents hup
    have hstep := execPlanDiscard_of_starts hstarts
    rw [swapsAborted_of_single (by rw [time_started, hevents])] at hstep
    have hring : ∀ r, RingUp s r → RingUp (eventsCleared (started s c)) r := fun r h => ringUp_congr (ringUp_started h) rfl rfl
    refine ⟨_, hstep, ?_, ?_, ends_done_of_ringUp ?_ 0⟩
    · simp [standbyDropped, eventsCleared, started]
    · exact ends_mono (ends_endWith_of_ringUp (hring _ hup) _) (out_sub_finish (standbyDropped _) _ _)
    · exact ringUp_congr (ringUp_finish _ _ (hring _ (ringUp_of_starts hstarts))) rfl rfl
  case schedule =>
    intro s c hstarts hop hroom hn hok
    have hown : lowestOf [chk (!s.eventRoom) Cs.refusedResource,
        chk (decide (15 < bitsOf c.d.p1 7 0) || !s.instantOk c.d.p0) Cs.refusedParam] = none := by
      simp [chk, lowestOf, hroom, hok, Nat.not_lt.2 hn]
    refine ⟨_, congrArg Host.Outcome.next (command_of_starts hstarts hown _), ?_, running_started s c, ?_⟩
    · simp [State.addEvent, started]
    · simp [State.addEvent, started]
  case tooLate =>
    intro s c hstarts hop hroom hn hok
    have hown : lowestOf [chk (!s.eventRoom) Cs.refusedResource,
        chk (decide (15 < bitsOf c.d.p1 7 0) || !s.instantOk c.d.p0) Cs.refusedParam] = some (Cs.refusedParam, 0) := by
      simp [chk, lowestOf, hroom, hok]
    refine ⟨_, congrArg Host.Outcome.next (command_of_starts_refused hstarts hown (by decide) (by decide) _), by simp, ?_⟩
    exact ends_endWith (hostRing_pick (hostRing_of_starts hstarts (.inl rfl))) _
  case cancel =>
    intro s c k at' n hstarts hop hevents hid hissuer hfar hup
    have hown : chk (decide (at' ≤ s.time.ft + 10000)) Cs.refusedState (decide (at' ≤ s.time.ft + 10000)).toNat = none := by
      simp [chk]
      omega
    have hone : ((started s c).done c 0).time.events = [⟨at', .power n, some k⟩] := by simp [started, hevents]
    have hstep := (execEventCancel_of_single hevents hid hissuer).trans
      (congrArg Host.Outcome.next (command_of_starts hstarts hown fun s => (s.done c 0).abortEvent ⟨at', .power n, some k⟩))
    rw [abortEvent_of_power hone] at hstep
    have hring : RingUp (eventsCleared ((started s c).done c 0)) k.ring :=
      ringUp_congr (ringUp_finish c _ (ringUp_started hup)) rfl rfl
    refine ⟨_, hstep, ?_, ends_endWith_of_ringUp hring _, ends_mono ?_ (out_sub_finish (eventsCleared _) _ _)⟩
    · simp [eventsCleared, started]
    · exact ends_done_of_ringUp (ringUp_started (ringUp_of_starts hstarts)) 0
  case tooNear =>
    intro s c k at' n hstarts hop hevents hid hissuer hnear
    have hown : chk (decide (at' ≤ s.time.ft + 10000)) Cs.refusedState (decide (at' ≤ s.time.ft + 10000)).toNat =
        some (Cs.refusedState, 1) := by
      simp [chk, hnear]
    refine ⟨_, (execEventCancel_of_single hevents hid hissuer).trans (congrArg Host.Outcome.next
      (command_of_starts_refused hstarts hown (by decide) (by decide) _)), by simp, ?_⟩
    exact ends_endWith (hostRing_pick (hostRing_of_starts hstarts (.inl rfl))) _
  case power =>
    intro s at' n k hready hevents hnow hgood hswitching hquiet hup
    have hft := passToFt_ft_of_le s hnow
    have happly := applyEvent_of_power (s := s.passToFt at') hevents
    rw [hft] at happly
    have hstep := execEventInstant_applies hready hevents hnow hquiet hgood hswitching (by rw [happly, act_done]; rfl)
    rw [happly] at hstep
    have hring : RingUp ((eventsCleared (s.passToFt at')).usePowerProfile n) k.ring := ringUp_congr hup rfl rfl
    refine ⟨_, hstep, ?_, ?_, ?_, ends_done_of_ringUp hring _⟩
    · simp [eventsCleared, hft]
    · simp [eventsCleared]
    · simp [State.usePowerProfile, State.powerChange, State.profile, eventsCleared]
  case aborted =>
    intro s at' n k hready hevents hnow hgood hquiet hup
    have hft := passToFt_ft_of_le s hnow
    have habort := abortEvent_of_power (s := s.passToFt at') hevents
    have hstep := execEventInstant_aborts hready hevents hnow hquiet hgood (by rw [habort, act_endWith]; rfl)
    rw [habort] at hstep
    have hring : RingUp (eventsCleared (s.passToFt at')) k.ring := ringUp_congr hup rfl rfl
    refine ⟨_, hstep, ?_, ?_, ?_, ends_endWith_of_ringUp hring _⟩
    · simp [eventsCleared, hft]
    · simp [eventsCleared]
    · simp [eventsCleared]
  case planSwap =>
    intro s at' k hready hevents hnow hgood hswitching hquiet hup
    have hft := passToFt_ft_of_le s hnow
    have happly := applyEvent_of_planSwap (s := s.passToFt at') hevents
    rw [hft] at happly
    have hstep := execEventInstant_applies hready hevents hnow hquiet hgood hswitching (by rw [happly, act_done]; rfl)
    rw [happly] at hstep
    have hring : RingUp (eventsCleared (s.passToFt at')).swapPlans k.ring := ringUp_congr hup rfl rfl
    refine ⟨_, hstep, ?_, ?_, ?_, ?_, ends_done_of_ringUp hring _⟩
    · simp [time_swapPlans, eventsCleared, State.passToFt]
    · simp [time_swapPlans, eventsCleared, State.passToFt]
    · simp [time_swapPlans]
    · simp [time_swapPlans, eventsCleared]
  case takeOver =>
    intro s pair w hswitching hplanned hevents
    have hstep : execRoleSwapDone pair s = .next (switched s pair) := by
      simp only [execRoleSwapDone, hswitching, endSwitch_of_unplanned s pair hplanned]
      rw [runEvents_of_none (s := switched s pair) hevents]
    have hcore : (switched s pair).core pair = swappedCore (s.core pair) s.time.ft := (core_switched ..).trans (if_pos rfl)
    exact ⟨_, hstep, congrArg Core.active hcore, congrArg Core.switching hcore, congrArg Core.standbyPassed hcore,
      fun p hp => (core_switched ..).trans (if_neg hp), rfl⟩
  case roleSwap =>
    intro s pair w k hswitching hplanned hcmd hevents hup
    have hstep : execRoleSwapDone pair s = .next (((switched s pair).raise Src.cores 0x01
        (pair + w.forced.toNat * 4 + (1 - (s.core pair).active) * 8)).done k (w.start % 2 ^ 64)) := by
      simp only [execRoleSwapDone, hswitching, endSwitch_of_cmd s pair hplanned hcmd]
      rw [runEvents_of_none (by simpa [switched] using hevents)]
    refine ⟨_, hstep, ?_, ?_, ends_done_of_ringUp ?_ _, fun hlistens => told_mono (told_raise _ _ _ ?_) (out_sub_finish _ _ _)⟩
    · rw [core_done, core_raise, core_switched, if_pos rfl]
      rfl
    · rw [core_done, core_raise, core_switched, if_pos rfl]
      rfl
    · exact ringUp_congr hup (ringsOf_raise ..) (by simp [switched])
    · exact listening_congr hlistens rfl rfl
  case postponed =>
    intro s pair hpost hmode hblocked hswitching hlost hready
    have hacts : (s.time.postponed.contains pair.val && s.time.mode == .locked && !s.swapBlocked false && !s.switchingOver) = true := by
      simp only [hpost, hmode, hblocked, hswitching]
      rfl
    exact ⟨_, congrArg Host.Outcome.next (if_pos hacts), startSwap_postponedTaken hlost hready _ rfl⟩

end Sys2Proof.Proofs
end

section
/-! DMA in host memory: translations, page requests, invalidations, and the pages that move (R94 to R97, R245). -/

namespace Sys2Proof.Proofs

open Sys2Proof Sys2Proof.Machine Sys2Proof.Claims

/-! ### What notices and records leave of the host interface -/

/-- A part of the host interface that no notice and no record touches: it shows neither the rings, nor the retained completions, nor the
notices on their way (R397, R402, R412). -/
def Apart {α : Type} (g : HostIf → α) : Prop :=
  ∀ (h : HostIf) (rings : Table Ring) (ntc : Table NoticeRing) (held : List Notice) (dropped : Nat) (retained : Table Retained),
    g { h with rings := rings, ntc := ntc, heldNotices := held, heldDropped := dropped, retained := retained } = g h

section
variable {α : Type} {g : HostIf → α} (hg : Apart g)
include hg

theorem apart_setNtc (s : State) (fn : Nat) (x : NoticeRing) : g (s.setNtc fn x).host = g s.host := hg s.host _ _ _ _ _

theorem apart_setRing (s : State) (r : Nat) (x : Ring) : g (s.setRing r x).host = g s.host := hg s.host _ _ _ _ _

theorem apart_deliver (s : State) (fn : Nat) (n : Notice) : g (s.deliver fn n).host = g s.host := by
  simp only [State.deliver, State.writeNotice]
  split_ifs <;> simp [apart_setNtc hg]

theorem apart_raise (s : State) (source cause data : Nat) (d : Option Nat) : g (s.raise source cause data d).host = g s.host := by
  simp only [State.raise, State.raiseRaw, Bool.false_and, Bool.false_eq_true, if_false]
  split
  · simp only [State.holdNotice]
    split_ifs <;> exact hg s.host _ _ _ _ _
  · exact foldl_keeps (fun t : State => g t.host) _ _ s fun t fn => apart_deliver hg t fn _

theorem apart_post (s : State) (m : Msg) (d : Option Nat) : g (s.post m d).host = g s.host := by
  have hroute : ∀ (t : State) (dst : Nat), g (t.noteNoRoute dst).host = g t.host := fun t dst => by
    simp only [State.noteNoRoute]
    split
    · split
      · exact apart_raise hg _ _ _ _ _
      · rfl
    · exact apart_raise hg _ _ _ _ _
  simp only [State.post]
  split <;> simp [hroute]

theorem apart_flagOr (s : State) (n bit : Nat) : g (s.flagOr n bit).host = g s.host := by
  simp only [State.flagOr]
  split
  · rfl
  · split
    · rfl
    · exact foldl_keeps (fun t : State => g t.host) _ _ _ fun t m => by simp [State.sendSignal, apart_post hg]

theorem apart_stopRing (s : State) (ring cause : Nat) : g (s.stopRing ring cause).host = g s.host := by
  simp only [State.stopRing]
  split
  · exact (apart_raise hg _ _ _ _ _).trans (apart_setRing hg s _ _)
  · rfl

theorem apart_putRecord (s : State) (ring : Nat) (rcd : Record) : g (s.putRecord ring rcd).host = g s.host := by
  have hsent : ∀ (t : State) (b : Bool) (o : Out), g (if b then t.emit o else t).host = g t.host := fun t b o => by cases b <;> simp
  simp only [State.putRecord]
  split
  · rfl
  split
  · exact apart_stopRing hg _ _ _
  split
  · split <;> simp only [apart_flagOr hg, hsent, apart_setRing hg, State.emit_frame]
  · simp only [hsent, apart_setRing hg, State.emit_frame]

theorem apart_leaveRing (s : State) (c : Cmd) : g (s.leaveRing c).host = g s.host := by
  simp only [State.leaveRing]
  split
  · exact apart_setRing hg s _ _
  · rfl

/-- A command that completes touches no part of the host interface but these (R395, R402). -/
theorem apart_finish (s : State) (c : Cmd) (rcd : Record) : g (s.finish c rcd).host = g s.host := by
  have hcopies : ∀ (x : Retained) (l : List Cmd) (t : State),
      g (l.foldl (fun s k => (s.leaveRing k).putRecord k.ring (replayOf k x)) t).host = g t.host := fun x l t =>
    foldl_keeps (fun t : State => g t.host) _ l t fun _ _ => (apart_putRecord hg _ _ _).trans (apart_leaveRing hg _ _)
  simp only [State.finish]
  split
  · exact ((hcopies _ _ _).trans (apart_putRecord hg _ _ _)).trans ((hg _ _ _ _ _ _).trans (apart_leaveRing hg s c))
  · exact (apart_putRecord hg _ _ _).trans (apart_leaveRing hg s c)

end

/-- The functions whose page requests are off, and the DMAs. -/
theorem apart_priOff : Apart HostIf.priOff := fun _ _ _ _ _ _ => rfl

theorem apart_dmas : Apart HostIf.dmas := fun _ _ _ _ _ _ => rfl

theorem mem_ins (t : NatSet) (n : Nat) : n ∈ t.ins n := by
  induction t with
  | nil => exact List.mem_cons_self
  | cons k t ih =>
    simp only [NatSet.ins]
    split_ifs with hlt heq
    · exact List.mem_cons_self
    · exact heq ▸ List.mem_cons_self
    · exact List.mem_cons_of_mem _ ih

/-! ### How a DMA ends -/

@[simp] theorem dmas_setDma_same (s : State) (k : Nat) (d : Dma) : (s.setDma k d).host.dmas.get k = some d := Table.get_put_same ..

/-- Where no invalidation waits, none is answered. -/
theorem answerInvals_of_none {s : State} (h : s.host.invals = []) (fn page : Nat) : s.answerInvals fn page = s := by
  have hhost : ({ s.host with invals := [] } : HostIf) = s.host := by rw [← h]
  simp [State.answerInvals, h, hhost, State.emits]

/-- Answered invalidations leave the rings. -/
@[simp] theorem ringsOf_answerInvals (s : State) (fn page : Nat) : ringsOf (s.answerInvals fn page) = ringsOf s := by
  simp only [State.answerInvals]
  split
  · rfl
  · simp [ringsOf]

/-- The state without a DMA. -/
def withoutDma (s : State) (k : Nat) : State := { s with host := { s.host with dmas := s.host.dmas.del k } }

theorem dropDma_of_get {s : State} {k : Nat} {d : Dma} (h : s.host.dmas.get k = some d) :
    s.dropDma k = (withoutDma s k).answerInvals d.fn d.page := by simp only [State.dropDma, h, withoutDma]

theorem ringUp_dropped {s : State} {k r : Nat} {d : Dma} (h : s.host.dmas.get k = some d) (hup : RingUp s r) :
    RingUp ((s.dropDma k).dropWork (copyTag k)) r := by
  refine ringUp_congr hup ?_ (by simp)
  calc ringsOf ((s.dropDma k).dropWork (copyTag k)) = ringsOf (s.dropDma k) := by simp only [ringsOf, State.dropWork_frame]
    _ = ringsOf s := by rw [dropDma_of_get h, ringsOf_answerInvals]; rfl

theorem endDma_of_get {s : State} {k : Nat} {d : Dma} (h : s.host.dmas.get k = some d) (rcd : Record) :
    s.endDma k rcd = ((s.dropDma k).dropWork (copyTag k)).finish d.cmd rcd := by simp [State.endDma, h]

theorem out_sub_answerInvals (s : State) (fn page : Nat) : s.out ⊆ (s.answerInvals fn page).out := by
  simp only [State.answerInvals, State.emits]
  split
  · exact List.Subset.refl _
  · split
    · exact List.Subset.refl _
    · exact List.subset_append_left ..

theorem out_sub_endDma {s : State} {k : Nat} {d : Dma} (h : s.host.dmas.get k = some d) (rcd : Record) : s.out ⊆ (s.endDma k rcd).out := by
  rw [endDma_of_get h, dropDma_of_get h]
  refine fun o ho => out_sub_finish _ _ _ ?_
  simpa using out_sub_answerInvals (withoutDma s k) _ _ ho

theorem priOff_endDma {s : State} {k : Nat} {d : Dma} (h : s.host.dmas.get k = some d) (rcd : Record) :
    (s.endDma k rcd).host.priOff = s.host.priOff := by
  rw [endDma_of_get h, apart_finish apart_priOff, dropDma_of_get h]
  simp only [State.dropWork_frame, State.answerInvals]
  split
  · rfl
  · simp [withoutDma]

/-- A DMA that ends completes its command with a record (R95). -/
theorem ends_endDma {s : State} {k : Nat} {d : Dma} {rcd : Record} (h : s.host.dmas.get k = some d) (hup : RingUp s d.cmd.ring)
    (hid : rcd.cmdId = d.cmd.d.cmdId) : Ends (s.endDma k rcd) d.cmd rcd.status rcd.detail rcd.result := by
  rw [endDma_of_get h]
  exact ends_finish_of_ringUp (ringUp_dropped h hup) hid

/-- The record of a DMA for a command whose page is not granted: the host address at the fault (R95, R396). -/
theorem dmaFault_of_command {d : Dma} (huse : d.use = .command) (s : State) (k : Nat) :
    s.dmaFault k d = s.endDma k (recFault d.cmd Cs.faultTranslation 2 (d.addr + d.done)) := by simp only [State.dmaFault, huse]

/-- A page that is not granted ends its command (R95). -/
theorem ends_dmaFault {s : State} {k : Nat} {d : Dma} (h : s.host.dmas.get k = some d) (huse : d.use = .command)
    (hup : RingUp s d.cmd.ring) : Ends (s.dmaFault k d) d.cmd Cs.faultTranslation 2 ((d.addr + d.done) % 2 ^ 64 * 2 ^ 96) := by
  rw [dmaFault_of_command huse]
  exact ends_endDma h hup rfl

/-- A Page Request has failed for good: the function sends no more (R95). -/
def requestsOff (s : State) (fn : Nat) : State := { s with host := { s.host with priOff := s.host.priOff.ins fn } }

/-- An invalidation of a page that no DMA uses is answered at once (R96). -/
theorem answerInvals_of_unused {s : State} {port : HPort} {fn page : Nat} (hnone : s.host.invals = []) (hmute : s.mute = false)
    (hunused : ∀ e ∈ s.host.dmas, ¬(e.2.fn = port.val * 256 + fn % 256 ∧ e.2.page = page ∧ e.2.translated = true)) :
    ({ s with host := { s.host with invals := s.host.invals ++ [(fnKey port fn, page)] } } : State).answerInvals (fnKey port fn) page =
      { s with out := s.out ++ [.atsInvalidateDone (port.val * 256 + fn % 256) page] } := by
  have hnot : (s.host.dmas.any fun e => e.2.fn == fnKey port fn && e.2.page == page && e.2.translated) = false :=
    List.any_eq_false.2 fun e he => by simpa [fnKey, and_assoc] using hunused e he
  have hhost : ({ s.host with invals := [] } : HostIf) = s.host := by rw [← hnone]
  simp only [State.answerInvals, hnot, Bool.false_eq_true, if_false, hnone]
  simp [State.emits, hhost, hmute, fnKey]

/-! ### Pages that have moved -/

/-- A DMA that has moved some bytes and leaves its page. -/
def pageLeft (d : Dma) (n : Nat) : Dma := { d with done := d.done + n, translated := false }

/-- What a DMA that is no host copy moves next, where it does not end, reaches the end of its host page (R95). -/
theorem page_after_chunk {d : Dma} {r : Record} (huse : d.use = .result r) (hmore : d.done + d.chunk < d.len) :
    (d.addr + (d.done + d.chunk)) / 4096 ≠ d.page := by
  have hchunk : d.chunk = min (d.len - d.done) (4096 - (d.addr + d.done) % 4096) := by simp [Dma.chunk, huse]
  rw [Dma.page]
  omega

section
variable {s : State} {k n : Nat} {d : Dma} {r : Record}

/-- A page of a result that stands in host memory (R95). -/
theorem execHostDmaPageDone_of_result (hget : s.host.dmas.get k = some d) (huse : d.use = .result r) (hdir : d.toHost = true)
    (htr : d.translated = true) (hpos : 0 < d.chunk) :
    execHostDmaPageDone k [] s =
      .next ((s.emit (.hostWrite d.fn (d.addr + d.done) ((d.data.drop d.done).take d.chunk))).dmaNext k d d.chunk) := by
  simp [execHostDmaPageDone, hget, huse, hdir, htr, Nat.ne_of_gt hpos]

/-- A DMA that has left its page requests the next (R95). -/
theorem dmaNext_of_more (hmore : d.done + n < d.len) (hpage : (d.addr + (d.done + n)) / 4096 ≠ d.page) (hnone : s.host.invals = []) :
    s.dmaNext k d n = (s.setDma k (pageLeft d n)).emit (.atsRequest d.fn ((d.addr + (d.done + n)) / 4096)) := by
  have hstay : ¬(d.done + n < d.len ∧ ({ d with done := d.done + n } : Dma).page = d.page) := fun h => hpage h.2
  simp only [State.dmaNext]
  rw [if_neg hstay, if_pos hmore, answerInvals_of_none (by exact hnone)]
  rfl

/-- A DMA of a result ends with its last page (R95). -/
theorem dmaNext_of_last (huse : d.use = .result r) (hlast : d.len ≤ d.done + n) (hnone : s.host.invals = []) :
    s.dmaNext k d n = (s.setDma k (pageLeft d n)).endDma k r := by
  have hstay : ¬(d.done + n < d.len ∧ ({ d with done := d.done + n } : Dma).page = d.page) := fun h => Nat.not_lt.2 hlast h.1
  simp only [State.dmaNext]
  rw [if_neg hstay, if_neg (Nat.not_lt.2 hlast), answerInvals_of_none (by exact hnone)]
  simp only [pageLeft, huse]

end

/-- Settles O49: a granted or requested page changes its DMA alone, and a DMA that ends completes its command by `ends_endDma`. -/
theorem hostDma : Obligations.HostDma := by
  refine ⟨?granted, ?requested, ?off, ?again, ?invalid, ?failure, ?late, ?unused, ?used, ?lastPage, ?nextPage, ?stopped⟩
  case granted =>
    intro s k d hget htr hpri hdir hmute
    have hstep : execAtsTranslationCompletion k true s =
        .next ((s.setDma k { d with translated := true }).emit (.hostRead d.fn (d.addr + d.done) d.chunk)) := by
      simp [execAtsTranslationCompletion, hget, htr, hpri, hdir]
    exact ⟨_, hstep, by simp, State.emit_out _ hmute⟩
  case requested =>
    intro s k d hget htr hpri hon hmute
    have hstep : execAtsTranslationCompletion k false s =
        .next ((s.setDma k { d with waitingPri := true, priAt := s.clock }).emit (.pageRequest d.fn d.page)) := by
      simp [execAtsTranslationCompletion, hget, htr, hpri, hon]
    exact ⟨_, hstep, by simp, State.emit_out _ hmute⟩
  case off =>
    intro s k d hget htr hpri huse hoff hup
    have hstep : execAtsTranslationCompletion k false s = .next (s.dmaFault k d) := by
      simp only [execAtsTranslationCompletion, hget, htr, hpri, hoff, Bool.or_self, Bool.false_eq_true, if_false, if_true]
    exact ⟨_, hstep, ends_dmaFault hget huse hup, by simp⟩
  case again =>
    intro s k d hget hpri hmute
    have hstep : execPrgResponse k 0 s = .next ((s.setDma k { d with waitingPri := false }).emit (.atsRequest d.fn d.page)) := by
      simp [execPrgResponse, hget, hpri, prgSuccess]
    exact ⟨_, hstep, by simp, State.emit_out _ hmute⟩
  case invalid =>
    intro s k d hget hpri huse hup
    have hstep : execPrgResponse k 1 s = .next (s.dmaFault k d) := by simp [execPrgResponse, hget, hpri, prgSuccess, prgInvalid]
    exact ⟨_, hstep, ends_dmaFault hget huse hup⟩
  case failure =>
    intro s k d hget hpri huse hup
    let t := (requestsOff s d.fn).raise (Src.host (d.fn / 256)) 0x07 d.fn
    have hstep : execPrgResponse k 15 s = .next (t.dmaFault k d) := by
      simp [execPrgResponse, hget, hpri, prgSuccess, prgInvalid, prgFailure, t, requestsOff]
    have hthere : t.host.dmas.get k = some d := by rw [apart_raise apart_dmas]; exact hget
    refine ⟨_, hstep, ?_, ends_dmaFault hthere huse (ringUp_congr hup (ringsOf_raise ..) (by simp [t, requestsOff])), fun hlistens => ?_⟩
    · rw [dmaFault_of_command huse, priOff_endDma hthere, apart_raise apart_priOff]
      exact mem_ins _ _
    · have hstill : Listening (requestsOff s d.fn) := hlistens
      rw [dmaFault_of_command huse]
      exact told_mono (told_raise _ _ _ hstill) (out_sub_endDma hthere _)
  case late =>
    intro s k d hget hpri huse hup
    have hthere : (s.passTo (d.priAt + 2000000000)).host.dmas.get k = some d := by simpa using hget
    have hstep : execPriTimeout k s = .next ((s.passTo (d.priAt + 2000000000)).dmaFault k d) := by simp [execPriTimeout, hget, hpri]
    refine ⟨_, hstep, ?_, ends_dmaFault hthere huse (ringUp_congr hup (by simp [ringsOf]) (by simp))⟩
    simpa using passTo_clock_ge s (d.priAt + 2000000000)
  case unused =>
    intro s port fn page hnone hmute hunused
    exact ⟨_, rfl, answerInvals_of_unused hnone hmute hunused⟩
  case used =>
    intro s port fn page k d hmem hfn hpage htr
    have hany : (s.host.dmas.any fun e => e.2.fn == fnKey port fn && e.2.page == page && e.2.translated) = true :=
      List.any_eq_true.2 ⟨(k, d), hmem, by simp [hfn, hpage, htr, fnKey]⟩
    exact ⟨_, congrArg Host.Outcome.next (if_pos hany), rfl, rfl⟩
  case lastPage =>
    intro s k d r hget huse hdir htr hpos hlast hnone hid hup
    have hmute : s.mute = false := hup.2.1
    let t := (s.emit (.hostWrite d.fn (d.addr + d.done) ((d.data.drop d.done).take d.chunk))).setDma k (pageLeft d d.chunk)
    have hstep : execHostDmaPageDone k [] s = .next (t.endDma k r) := by
      rw [execHostDmaPageDone_of_result hget huse hdir htr hpos, dmaNext_of_last huse hlast (by simpa using hnone)]
    have hthere : t.host.dmas.get k = some (pageLeft d d.chunk) := dmas_setDma_same ..
    exact ⟨_, hstep, out_sub_endDma hthere _ (State.mem_emit _ hmute),
      ends_endDma (d := pageLeft d d.chunk) hthere (ringUp_congr (ringUp_emit hup _) rfl rfl) hid⟩
  case nextPage =>
    intro s k d r hget huse hdir htr hpos hmore hnone hmute
    have hleft : (d.addr + (d.done + d.chunk)) / 4096 ≠ d.page := page_after_chunk huse hmore
    let t := (s.emit (.hostWrite d.fn (d.addr + d.done) ((d.data.drop d.done).take d.chunk))).setDma k (pageLeft d d.chunk)
    have hstep : execHostDmaPageDone k [] s = .next (t.emit (.atsRequest d.fn ((d.addr + (d.done + d.chunk)) / 4096))) := by
      rw [execHostDmaPageDone_of_result hget huse hdir htr hpos, dmaNext_of_more hmore hleft (by simpa using hnone)]
    refine ⟨_, hstep, by simp [t, pageLeft], ?_⟩
    rw [State.emit_out _ ((mute_congr (by simp [t])).trans hmute)]
    simp [t, State.emit_out _ hmute]
  case stopped =>
    intro s k st loc d bs hget huse htr hpos hlen hstop hup
    have hdata : (!d.toHost && bs.length != d.chunk) = false := by rcases hlen with h | h <;> simp [h]
    have hstep : execHostDmaPageDone k bs s = .next (s.endDma k (copyRecord d.cmd st 1 d.done loc)) := by
      simp only [execHostDmaPageDone, hget, huse, htr, Nat.ne_of_gt hpos, if_false, hdata, Bool.not_true, Bool.false_or, Bool.false_eq_true,
        State.copyPage, hstop]
    exact ⟨_, hstep, ends_endDma hget hup rfl, by simp⟩

end Sys2Proof.Proofs
end

section
/-! Windows, and the changes of translation that wait for the requests under the old entry (R79, R87, R114, R152, R171, R567). -/

namespace Sys2Proof.Proofs

open Sys2Proof Sys2Proof.Machine Sys2Proof.Claims

/-! ### A command that has started -/

@[simp] theorem maps_started (s : State) (c : Cmd) : (started s c).maps = s.maps := by simp [started]

@[simp] theorem mem_started (s : State) (c : Cmd) : (started s c).mem = s.mem := by simp [started]

@[simp] theorem sec_started (s : State) (c : Cmd) : (started s c).sec = s.sec := by simp [started]

@[simp] theorem coh_started (s : State) (c : Cmd) : (started s c).coh = s.coh := by simp [started]

@[simp] theorem out_started (s : State) (c : Cmd) : (started s c).out = s.out := by simp [started]

/-- A command that has started completes with its record, where its effect leaves the host interface (R395). -/
theorem ends_done_of_started {s t : State} {c : Cmd} {k : Kind} (h : Starts s c k) (hhost : t.host = (started s c).host)
    (hboot : t.boot = s.boot) (result : Nat) : Ends (t.done c result) c 0 0 result := by
  obtain ⟨hup, -⟩ := h
  have hrings : ringsOf t = ringsOf (started s c) := by simp only [ringsOf, hhost]
  have hstill : t.boot = (started s c).boot := by simp [hboot, started]
  exact ends_done_of_ringUp (ringUp_congr (ringUp_started hup) hrings hstill) result

/-- A command that has started runs until its ring gives it up. -/
theorem running_of_started {s t : State} {c : Cmd} (hhost : t.host = (started s c).host) : Running t c := by
  have hring : t.ring c.ring = (started s c).ring c.ring := ring_congr (by simp only [ringsOf, hhost]) _
  rw [Running, hring]
  exact running_started s c

/-! ### Window commands -/

/-- The drain of a window change: it waits for what was translated under the old entry (R87, R114). -/
def windowDrain (s : State) (c : Cmd) (old : Window) (new : Option Window) : Drain :=
  { cmd := c, district := c.d.district, first := old.base / 4096, last := old.base / 4096 + old.lastPage,
    window := some (bitsOf c.d.p0 15 0, old), needSearch := old.narrows new, translated := false, stamp := s.coh.stamp,
    kept := recOf c Cs.done 0 0, unmap := false, moves := [], unbind := false }

/-- The state in which a window has been created (R79). -/
def windowCreated (s : State) (c : Cmd) (id : Nat) (w : Window) : State :=
  { started s c with maps := { s.maps with windows := s.maps.windows.put id w } }

/-- The state in which a window's change has taken force and its drain waits (R87). -/
def windowChanged (s : State) (c : Cmd) (windows : Table Window) (x : Drain) : State :=
  { started s c with maps := { s.maps with windows := windows, drains := s.maps.drains ++ [x] } }

section
variable {s : State} {c : Cmd} {old : Window} {id : Nat} {w : Window} (hstart : Starts s c .d) (hstill : s.windowMoving id = false)
  (hid : bitsOf c.d.p0 15 0 = id) (hw : winOf c.d.p1 c.d.p2 c.d.p3 = w)
  (hdistrict : w.district = c.d.district) (hbound : w.msBind = true → ((s.msSlot c.d.district w.msSlot).map (·.st)) = some 2)
  (hreserved : winReserved c.d.p1 c.d.p2 c.d.p3 c.d.p4 = false) (hgood : s.badWindow w (bitOf c.d.p1 0) = false)
include hstart hstill hid

section
include hw hdistrict hbound hreserved hgood

/-- A window that does not exist is created at once (R79, R567). -/
theorem execWindowMap_creates (hact : bitsOf c.d.p0 17 16 = 0) (hget : s.maps.windows.get id = none) :
    execWindowMap c s = .next ((windowCreated s c id w).done c 0) := by
  simp only [execWindowMap, hid, hw, hstill, Bool.false_eq_true, if_false]
  rw [command_of_starts hstart (lowestOf_eq_none.2 (by simpa [chk, hact, hdistrict, hget, hreserved, hgood] using hbound))]
  simp only [hget, maps_started, windowCreated]

/-- A window that is replaced takes its new entry at once, and the change waits (R87). -/
theorem execWindowMap_replaces (hact : bitsOf c.d.p0 17 16 = 1) (hget : s.maps.windows.get id = some old)
    (hmine : old.district = c.d.district) (hfree : s.sec.bindings.has id = false) :
    execWindowMap c s = .next (windowChanged s c (s.maps.windows.put id w) (windowDrain s c old (some w))) := by
  simp only [execWindowMap, hid, hw, hstill, Bool.false_eq_true, if_false]
  rw [command_of_starts hstart
    (lowestOf_eq_none.2 (by simpa [chk, hact, hdistrict, hget, hmine, hfree, hreserved, hgood] using hbound))]
  simp only [hget, hact, if_true, maps_started, coh_started, windowChanged, windowDrain, hid]

end

/-- A window that is removed goes at once, and the change waits (R87). -/
theorem execWindowMap_removes (hact : bitsOf c.d.p0 17 16 = 2) (hget : s.maps.windows.get id = some old)
    (hmine : old.district = c.d.district) (hfree : s.sec.bindings.has id = false) (h1 : c.d.p1 = 0) (h2 : c.d.p2 = 0) (h3 : c.d.p3 = 0)
    (h4 : c.d.p4 = 0) :
    execWindowMap c s = .next (windowChanged s c (s.maps.windows.del id) (windowDrain s c old none)) := by
  simp only [execWindowMap, hid, hstill, Bool.false_eq_true, if_false]
  rw [command_of_starts hstart (lowestOf_eq_none.2 (by simp [chk, hact, hget, hmine, hfree, h1, h2, h3, h4]))]
  simp only [hget, hact, if_false, maps_started, coh_started, windowChanged, windowDrain, hid, Nat.reduceEqDiff]

end

/-- The entry that a query shows: that before a change in progress (R567). -/
def shown (s : State) (id : Nat) : Option Window :=
  match s.maps.drains.find? fun x => (x.window.map (·.1)) == some id with
  | some x => x.window.map (·.2)
  | none => s.maps.windows.get id

/-- A query of a window of the District answers with the entry that is shown (R567). -/
theorem execWindowQuery_of_shown {s : State} {c : Cmd} {w : Window} (hstart : Starts s c .q)
    (hshown : shown s (bitsOf c.d.p0 15 0) = some w) (hmine : w.district = c.d.district) (hthere : (s.district c.d.district).isSome = true) :
    execWindowQuery c s = .next ((started s c).done c w.bits) := by
  have hsome : (s.district c.d.district).isNone = false := by simpa using hthere
  have hquery : execWindowQuery c s = .next (s.command c .q (lowestOf [
      chk (match shown s (bitsOf c.d.p0 15 0) with | some x => x.district != c.d.district | none => false) Cs.refusedOwner,
      chk (s.district c.d.district).isNone Cs.refusedState]) fun t =>
        t.done c (((shown s (bitsOf c.d.p0 15 0)).map Window.bits).getD 0)) := rfl
  rw [hquery, hshown, command_of_starts hstart (lowestOf_eq_none.2 (by simp [chk, hmine, hsome])), Option.map_some, Option.getD_some]

/-! ### Drains -/

/-- Where no request waits for a translation change, none is taken up. -/
theorem releaseMoves_of_none {s : State} (h : s.coh.moveWait = []) : s.releaseMoves = s := by
  have hcoh : ({ s.coh with moveWait := [] } : Coh) = s.coh := by rw [← h]
  simp only [State.releaseMoves, h, State.resolveAll, List.foldl_nil, hcoh]

/-- The state without its drains. -/
def undrained (s : State) : State := { s with maps := { s.maps with drains := [] } }

section
variable {s : State} {x : Drain} (hunmap : x.unmap = false) (hmoves : x.moves = []) (hunbind : x.unbind = false)
  (hbind : ∀ y ∈ x.window, y.2.msBind = false) (hwait : s.coh.moveWait = [])
include hunmap hmoves hunbind hbind hwait

/-- The only drain, where it takes no pages, moves none and unbinds nothing, ends with its command's record (R87). -/
theorem endDrain_of_plain (hdrains : s.maps.drains = [x]) : s.endDrain x = (undrained s).finish x.cmd x.kept := by
  have hstep : s.endDrain x = ((undrained s).finish x.cmd x.kept).releaseMoves := by
    simp only [State.endDrain, hdrains, hunmap, hunbind, hmoves, List.filter_cons, bne_self_eq_false, Bool.false_eq_true, if_false,
      List.filter_nil, List.foldl_nil, List.isEmpty_nil, Bool.not_true, Bool.and_false]
    cases hwindow : x.window with
    | none => simp [undrained]
    | some y => simp [undrained, hbind y hwindow]
  rw [hstep, releaseMoves_of_none (by simpa [undrained] using hwait)]

end

/-- The only drain is its command's. -/
theorem drainOf_of_one {s : State} {x : Drain} (hdrains : s.maps.drains = [x]) : s.drainOf x.cmd.ring x.cmd.d.cmdId = some x := by
  simp [State.drainOf, hdrains]

/-- A drain whose requests have been answered: what is left to do is its directory search (R114). -/
def translatedDrain (s : State) (x : Drain) : Drain := { x with translated := true, stamp := if x.translated then x.stamp else s.coh.stamp }

/-- The state in which a drain has moved on to its search. -/
def movedOn (s : State) (x : Drain) : State :=
  { s with maps := { s.maps with drains := s.maps.drains.map fun z => if z = x then translatedDrain s x else z } }

/-- A drain ends where no entry that it recalled is left (R114). -/
def drainSearched (s : State) (y : Drain) (searched : Bool) : State :=
  if ((s.entriesIn y.district y.first y.last).any fun e => decide (e.2.stamp < y.stamp)) || (!searched && !y.unmap) then s else s.endDrain y

/-- While a request under the old entry is open, a drain does not end (R87). -/
theorem advanceDrain_of_open {s : State} {x : Drain} (hmoves : x.moves = []) (htranslated : x.translated = false)
    (hopen : s.drainClear x = false) : s.advanceDrain x false = s := by
  simp [State.advanceDrain, hmoves, htranslated, hopen]

section
variable {s : State} {x : Drain} (hdrains : s.maps.drains = [x]) (hunmap : x.unmap = false) (hmoves : x.moves = [])
  (hunbind : x.unbind = false) (hbind : ∀ y ∈ x.window, y.2.msBind = false) (hwait : s.coh.moveWait = [])
include hdrains hunmap hmoves hunbind hbind hwait

/-- A drain ends once all requests under the old entry have been answered, and, where it needs a search, the search has found no entry
(R87, R114). -/
theorem advanceDrain_of_clear {searched : Bool} (hclear : x.translated = true ∨ s.drainClear x = true)
    (hsearch : x.needSearch = false ∨ searched = true ∧ s.entriesIn x.district x.first x.last = []) :
    s.advanceDrain x searched = (undrained s).finish x.cmd x.kept := by
  have hends : (movedOn s x).endDrain (translatedDrain s x) = (undrained s).finish x.cmd x.kept :=
    endDrain_of_plain (s := movedOn s x) (x := translatedDrain s x) hunmap hmoves hunbind hbind hwait (by simp [movedOn, hdrains])
  have hgo : ¬((s.ms.copying.any fun c => c.district == x.district && x.first == c.page && !x.moves.isEmpty) ||
      (!x.translated && !s.drainClear x)) = true := by rcases hclear with h | h <;> simp [h, hmoves]
  have hsearched : s.advanceDrain x searched = if !x.needSearch then (movedOn s x).endDrain (translatedDrain s x) else
      drainSearched ((movedOn s x).recallRange x.district x.first x.last (translatedDrain s x).stamp) (translatedDrain s x) searched :=
    if_neg hgo
  rw [hsearched, ← hends]
  rcases hsearch with hnosearch | ⟨rfl, hnone⟩
  · simp only [hnosearch, Bool.not_false, if_true]
  · have hthere : (movedOn s x).entriesIn x.district x.first x.last = [] := hnone
    have hidle : ∀ stamp, (movedOn s x).recallRange x.district x.first x.last stamp = movedOn s x := fun stamp => by
      simp [State.recallRange, hthere]
    have hend : drainSearched (movedOn s x) (translatedDrain s x) true = (movedOn s x).endDrain (translatedDrain s x) := by
      have hleft : (movedOn s x).entriesIn (translatedDrain s x).district (translatedDrain s x).first (translatedDrain s x).last = [] := hnone
      simp [drainSearched, hleft]
    rw [hidle, hend, ite_self]

end

/-- Settles O19: a window command that starts takes force at once, and a drain ends by `advanceDrain_of_clear`. -/
theorem windowsAndDrains : Obligations.WindowsAndDrains := by
  refine ⟨?created, ?replaced, ?removed, ?query, ?queryMoving, ?drained, ?waits, ?searched⟩
  case created =>
    intro s c id w hstart _ hact hstill hget hdistrict hbound hreserved hgood
    refine ⟨_, execWindowMap_creates hstart hstill rfl rfl hdistrict hbound hreserved hgood hact hget, by simp [windowCreated, id, w],
      by simp [windowCreated], by simp [windowCreated], ?_⟩
    exact ends_done_of_started (t := windowCreated s c id w) hstart rfl (by simp [windowCreated, started]) 0
  case replaced =>
    intro s c old id w hstart _ hact hstill hget hmine hdistrict hfree hbound hreserved hgood
    exact ⟨_, execWindowMap_replaces hstart hstill rfl rfl hdistrict hbound hreserved hgood hact hget hmine hfree, rfl, rfl,
      running_of_started rfl, out_started s c, _, rfl, rfl, rfl⟩
  case removed =>
    intro s c old id hstart _ hact hstill hget hmine hfree h1 h2 h3 h4
    exact ⟨_, execWindowMap_removes hstart hstill rfl hact hget hmine hfree h1 h2 h3 h4, rfl, running_of_started rfl, _, rfl, rfl,
      Bool.and_true _⟩
  case query =>
    intro s c w hstart _ hdrains hget hmine hthere
    have hshown : shown s (bitsOf c.d.p0 15 0) = some w := by simp [shown, hdrains, hget]
    exact ⟨_, execWindowQuery_of_shown hstart hshown hmine hthere, by simp, by simp,
      ends_done_of_started hstart rfl (by simp [started]) _⟩
  case queryMoving =>
    intro s c w x hstart _ hdrains hwindow hmine hthere
    have hshown : shown s (bitsOf c.d.p0 15 0) = some w := by simp [shown, hdrains, hwindow]
    exact ⟨_, execWindowQuery_of_shown hstart hshown hmine hthere, by simp, ends_done_of_started hstart rfl (by simp [started]) _⟩
  case drained =>
    intro s x hdrains htranslated hclear hnosearch hunmap hmoves hunbind hbind hwait hup hid
    have hstep : execTranslationDrainDone x.cmd.ring x.cmd.d.cmdId s = .next ((undrained s).finish x.cmd x.kept) := by
      simp only [execTranslationDrainDone, drainOf_of_one hdrains]
      rw [advanceDrain_of_clear hdrains hunmap hmoves hunbind hbind hwait (.inr hclear) (.inl hnosearch)]
    exact ⟨_, hstep, by simp [undrained], by simp [undrained], ends_finish_of_ringUp (ringUp_congr hup rfl rfl) hid⟩
  case waits =>
    intro s x hdrains htranslated hopen hmoves
    have hstep : execTranslationDrainDone x.cmd.ring x.cmd.d.cmdId s = .next s := by
      simp only [execTranslationDrainDone, drainOf_of_one hdrains]
      rw [advanceDrain_of_open hmoves htranslated hopen]
    exact hstep
  case searched =>
    intro s x hdrains htranslated hnone hunmap hmoves hunbind hbind hwait hup hid
    have hstep : execDirectorySearchDone x.cmd.ring x.cmd.d.cmdId s = .next ((undrained s).finish x.cmd x.kept) := by
      simp only [execDirectorySearchDone, drainOf_of_one hdrains, htranslated, if_true]
      rw [advanceDrain_of_clear hdrains hunmap hmoves hunbind hbind hwait (.inl htranslated) (.inr ⟨rfl, hnone⟩)]
    exact ⟨_, hstep, by simp [undrained], ends_finish_of_ringUp (ringUp_congr hup rfl rfl) hid⟩

end Sys2Proof.Proofs
end

section
/-! Mapping and unmapping pages, and changes of a District's page strength (R85, R164, R295, R566). -/

namespace Sys2Proof.Proofs

open Sys2Proof Sys2Proof.Machine Sys2Proof.Claims

/-! ### Mapping -/

/-- A run of free frames that is given away leaves the pages and the Districts (R283). -/
theorem allocRun_maps {s t : State} {run colour strength f : Nat} (h : s.allocRun run colour strength = some (f, t)) :
    t.maps.pages = s.maps.pages ∧ t.maps.districts = s.maps.districts := by
  simp only [State.allocRun] at h
  split at h
  · cases h
  · split at h
    · cases h
      exact ⟨rfl, rfl⟩
    · split at h
      · cases h
        exact ⟨rfl, rfl⟩
      · cases h

/-- Mapping a page adds its leaf and changes nothing else of the page table (R85). -/
theorem mapPage_maps {s t : State} {d ps page : Nat} {x : District} (h : s.mapPage d x ps page = some t) :
    (∃ l, t.maps.pages = s.maps.pages.put (pageKey d page) l) ∧ t.maps.districts = s.maps.districts := by
  have habsent : ∀ (u : State) (e : MapEnt), ((List.range (leafPages ps)).foldl (fun s i =>
      s.writeMaps d (page + i) (s.needCopy d (page + i)) e) u).maps = u.maps := fun u e =>
    State.maps_foldl _ _ _ fun u i => by simp
  simp only [State.mapPage] at h
  split at h
  · split at h
    · cases h
    · split at h
      · cases h
      · rename_i _ u halloc
        cases h
        exact ⟨⟨_, by simp [State.setLeaf, habsent, (State.allocLoc_frame halloc)]; rfl⟩,
          by simp [State.setLeaf, habsent, (State.allocLoc_frame halloc)]⟩
  · split at h
    · cases h
    · rename_i _ u halloc
      cases h
      obtain ⟨hpages, hdistricts⟩ := allocRun_maps halloc
      exact ⟨⟨_, by simp [State.setLeaf, habsent, hpages]; rfl⟩, by simp [State.setLeaf, habsent, hdistricts]⟩

/-- Mapping pages maps each of them, and leaves what was mapped before (R85, R566). -/
theorem mapAll_maps {s t : State} {d ps n : Nat} {x : District} {pages : List Nat} (h : s.mapAll d x ps pages = some (t, n)) :
    (∀ p ∈ pages, (t.maps.pages.get (pageKey d p)).isSome = true) ∧
    (∀ k, (s.maps.pages.get k).isSome = true → t.maps.pages.get k = s.maps.pages.get k) ∧ t.maps.districts = s.maps.districts := by
  induction pages generalizing s n with
  | nil =>
    cases h
    exact ⟨fun p hp => absurd hp List.not_mem_nil, fun _ _ => rfl, rfl⟩
  | cons p pages ih =>
    simp only [State.mapAll] at h
    split at h
    case isTrue hmapped =>
      obtain ⟨hall, hkept, hdistricts⟩ := ih h
      refine ⟨List.forall_mem_cons.2 ⟨?_, hall⟩, hkept, hdistricts⟩
      rw [hkept _ hmapped]
      exact hmapped
    case isFalse habsent =>
      split at h
      · cases h
      · rename_i u hpage
        obtain ⟨⟨t', m⟩, hrest, hsame⟩ := Option.map_eq_some_iff.1 h
        cases hsame
        obtain ⟨⟨l, hput⟩, hmapDistricts⟩ := mapPage_maps hpage
        obtain ⟨hall, hkept, hdistricts⟩ := ih hrest
        have hthere : u.maps.pages.get (pageKey d p) = some l := by rw [hput, Table.get_put_same]
        refine ⟨List.forall_mem_cons.2 ⟨?_, hall⟩, fun k hk => ?_, hdistricts.trans hmapDistricts⟩
        · rw [hkept _ (by rw [hthere]; rfl), hthere]
          rfl
        · have hne : k ≠ pageKey d p := fun heq => habsent (heq ▸ hk)
          have hold : u.maps.pages.get k = s.maps.pages.get k := by rw [hput, Table.get_put_of_ne _ _ hne]
          rw [hkept k (hold ▸ hk), hold]

/-- A MEM_MAP whose range is good, and for which there is room, maps its pages and counts them (R85, R566). -/
theorem execMemMap_maps {s : State} {c : Cmd} {x : District} {ps : Nat} {pages : List Nat} {r : State × Nat}
    (hps : bitsOf c.d.p2 1 0 = ps) (hpages : (List.range (c.d.p1 / sizeBytes ps)).map (fun i => c.d.p0 / 4096 + i * leafPages ps) = pages)
    (hstart : Starts s c .d) (hthere : s.district c.d.district = some x) (hrange : badRange c.d.p0 c.d.p1 ps = false)
    (htiered : x.tiered = true → ps = 0)
    (hclash : ∀ e ∈ s.leavesIn c.d.district (c.d.p0 / 4096) (c.d.p1 / 4096), e.2.size = ps)
    (hroom : (s.mapAll c.d.district x ps pages).isSome = true) (hmap : (started s c).mapAll c.d.district x ps pages = some r) :
    execMemMap c s = .next (r.1.done c r.2) := by
  have hsmall : (x.tiered && ps != 0) = false := by cases h : x.tiered <;> simp [htiered, h]
  have hsame : ((s.leavesIn c.d.district (c.d.p0 / 4096) (c.d.p1 / 4096)).any fun e => e.2.size != ps) = false :=
    List.any_eq_false.2 fun e he => by simp [hclash e he]
  have hfits : (s.mapAll c.d.district x ps pages).isNone = false := by simpa using hroom
  simp only [execMemMap, hps, hpages, hthere, Option.map_some, Option.getD_some, hrange, hsmall, hsame, State.mapRun]
  rw [command_of_starts hstart (lowestOf_eq_none.2 (by simp [chk, hfits]))]
  simp only [hmap]

/-! ### Unmapping -/

theorem leafPages_pos (size : Nat) : 0 < leafPages size := by
  unfold leafPages
  split_ifs <;> decide

/-- The 4 KiB pages of some leaves (R566). -/
def pagesOf (ls : List (Nat × Leaf)) : Nat := ls.foldl (fun k e => k + leafPages e.2.size) 0

theorem pagesOf_ne_zero {ls : List (Nat × Leaf)} (h : ls ≠ []) : pagesOf ls ≠ 0 := by
  have hgrows : ∀ (l : List (Nat × Leaf)) k, k ≤ l.foldl (fun k e => k + leafPages e.2.size) k := fun l => by
    induction l with
    | nil => exact fun k => Nat.le_refl k
    | cons e l ih => exact fun k => Nat.le_trans (Nat.le_add_right _ _) (ih _)
  cases ls with
  | nil => exact absurd rfl h
  | cons e l => exact Nat.ne_of_gt (Nat.lt_of_lt_of_le (Nat.add_pos_right 0 (leafPages_pos e.2.size)) (hgrows l _))

/-- The drain of a MEM_UNMAP: it waits for the requests that use the pages, and searches the directory (R87, R114). -/
def unmapDrain (s : State) (c : Cmd) : Drain :=
  { cmd := c, district := c.d.district, first := c.d.p0 / 4096, last := c.d.p0 / 4096 + c.d.p1 / 4096 - 1, window := none, needSearch := true,
    translated := false, stamp := s.coh.stamp,
    kept := recOf c Cs.done 0 (pagesOf (s.leavesIn c.d.district (c.d.p0 / 4096) (c.d.p1 / 4096))), unmap := true, moves := [], unbind := false }

/-- The state in which pages wait to be unmapped. -/
def unmapping (s : State) (c : Cmd) : State :=
  { started s c with maps := { s.maps with drains := s.maps.drains ++ [unmapDrain s c] } }

section
variable {s : State} {c : Cmd} (hstart : Starts s c .d) (hrange : badRange c.d.p0 c.d.p1 (bitsOf c.d.p2 1 0) = false)
include hstart hrange

/-- A MEM_UNMAP of whole leaves starts: it waits where there are any (R87, R566). -/
theorem execMemUnmap_of_whole (hwhole : ∀ e ∈ s.leavesIn c.d.district (c.d.p0 / 4096) (c.d.p1 / 4096),
      c.d.p0 / 4096 ≤ e.1 ∧ e.1 + leafPages e.2.size ≤ c.d.p0 / 4096 + c.d.p1 / 4096) :
    execMemUnmap c s = .next (if pagesOf (s.leavesIn c.d.district (c.d.p0 / 4096) (c.d.p1 / 4096)) = 0 then (started s c).done c 0
      else unmapping s c) := by
  have hnotPartly : ((s.leavesIn c.d.district (c.d.p0 / 4096) (c.d.p1 / 4096)).any fun e =>
      decide (e.1 < c.d.p0 / 4096) || decide (c.d.p0 / 4096 + c.d.p1 / 4096 < e.1 + leafPages e.2.size)) = false :=
    List.any_eq_false.2 fun e he => by
      obtain ⟨hlow, hhigh⟩ := hwhole e he
      simp [Nat.not_lt.2 hlow, Nat.not_lt.2 hhigh]
  simp only [execMemUnmap, hrange, hnotPartly]
  rw [command_of_starts hstart (lowestOf_eq_none.2 (by simp [chk]))]
  simp only [unmapping, unmapDrain, maps_started, coh_started, pagesOf]

end

/-! ### Strength -/

/-- What a conversion has to do depends on the pages and the copy pages alone (R295). -/
theorem toConvert_congr {s t : State} (hpages : t.maps.pages = s.maps.pages) (hms : t.ms = s.ms) (d st : Nat) :
    t.toConvert d st = s.toConvert d st := by
  simp only [State.toConvert, Maps.leaves, hpages, hms]

/-- A District on its way to another strength (R295). -/
def convertingTo (x : District) (c : Cmd) (st : Nat) : District :=
  { x with st := if x.st = .inService then .converting else x.st, convCmd := some c, convNext := 0, convDone := 0, convTo := st }

section
variable {s : State} {c : Cmd} {x : District} {st : Nat} (hst : bitsOf c.d.p0 1 0 = st) (hstart : Starts s c .d)
  (hthere : s.district c.d.district = some x) (hidle : x.convCmd = none) (hgood : st ≠ 3)
include hst hstart hthere hidle hgood

/-- A District that is at its strength already has nothing to convert (R295). -/
theorem execDistrictStrength_of_same (hsame : x.strength = st) : execDistrictStrength c s = .next ((started s c).done c 0) := by
  simp only [execDistrictStrength, hst, hthere, Option.map_some, Option.bind_some, hidle, hsame]
  rw [command_of_starts hstart (lowestOf_eq_none.2 (by simp [chk, hgood]))]
  simp

/-- A change of strength for which there is room starts a conversion (R295). -/
theorem execDistrictStrength_converts (hother : x.strength ≠ st) (hroom : s.convertCost c.d.district st ≤ s.freeLines)
    (hleft : (s.toConvert c.d.district st).1 ≠ []) :
    execDistrictStrength c s = .next ((started s c).setDistrict c.d.district (convertingTo x c st)) := by
  have hstill : ((started s c).setDistrict c.d.district (convertingTo x c st)).toConvert c.d.district st = s.toConvert c.d.district st :=
    toConvert_congr (by simp [State.setDistrict]) (by simp [State.setDistrict, started]) _ _
  have hmore : ¬((((started s c).setDistrict c.d.district (convertingTo x c st)).toConvert c.d.district st).1.isEmpty = true ∧
      (((started s c).setDistrict c.d.district (convertingTo x c st)).toConvert c.d.district st).2.isEmpty = true) := fun h =>
    hleft (List.isEmpty_iff.1 (hstill ▸ h.1))
  have hdiffers : ¬(some x.strength == some st && (none : Option Cmd).isNone) = true := by simp [hother]
  simp only [execDistrictStrength, hst, hthere, Option.map_some, Option.bind_some, hidle]
  rw [command_of_starts hstart (lowestOf_eq_none.2 (by simp [chk, hgood, Nat.not_lt.2 hroom]))]
  exact congrArg Host.Outcome.next ((if_neg hdiffers).trans (if_neg hmore))

end

/-- The end of a conversion changes neither the pages nor what memory holds (R295). -/
theorem endConvert_frame (s : State) (d : Nat) (x : District) :
    (s.endConvert d x).maps.pages = s.maps.pages ∧ (s.endConvert d x).mem = s.mem := by
  simp only [State.endConvert]
  split <;> simp [State.setDistrict]

/-- A page with its parity at a new strength: its lines are paid for, and no parity of its frames is lost (R286, R295). -/
def reencoded (s : State) (d p : Nat) (l : Leaf) (st : Nat) : State :=
  { s with
    maps := { s.maps with
      used := s.maps.used + leafPages l.size * parityLines st - leafPages l.size * parityLines l.strength,
      pages := s.maps.pages.put (pageKey d p) { l with strength := st } },
    mem := { s.mem with parityLost := s.mem.parityLost.filter fun y => !(decide (l.addr ≤ y) && decide (y < l.addr + leafPages l.size)) },
    prot := { s.prot with erased := s.prot.erased.only fun y _ => !(decide (l.addr ≤ y) && decide (y < l.addr + leafPages l.size)) } }

/-- The state of a conversion after one more page, which ends it where nothing is left (R295). -/
def converted (s : State) (d : Nat) (x : District) : State :=
  if ((s.setDistrict d x).toConvert d x.convTo).1.isEmpty ∧ ((s.setDistrict d x).toConvert d x.convTo).2.isEmpty then
    (s.setDistrict d x).endConvert d x
  else s.setDistrict d x

theorem converted_frame (s : State) (d : Nat) (x : District) :
    (converted s d x).maps.pages = s.maps.pages ∧ (converted s d x).mem = s.mem := by
  unfold converted
  split <;> simp [endConvert_frame, State.setDistrict]

/-- The first page that a conversion has to do takes its new strength (R295). -/
theorem execStrengthPageDone_of_leaf {s : State} {d p : Nat} {x : District} {c : Cmd} {l : Leaf} {rest : List (Nat × Leaf)}
    {cs : List (Nat × CopyPage)} (hthere : s.district d = some x) (hcmd : x.convCmd = some c)
    (htodo : s.toConvert d x.convTo = ((p, l) :: rest, cs)) :
    execStrengthPageDone d s =
      .next (converted (reencoded s d p l x.convTo) d { x with convDone := x.convDone + leafPages l.size }) := by
  simp only [execStrengthPageDone, hthere, hcmd, htodo]
  rfl

/-- Settles O20: mapping by `mapAll_maps`, unmapping by its drain, and a conversion page by page. -/
theorem pages : Obligations.Pages := by
  refine ⟨?mapped, ?unmapping, ?nothing, ?same, ?converting, ?converted⟩
  case mapped =>
    intro s c x ps pages hstart _ hthere hrange htiered hclash hroom hroom'
    obtain ⟨⟨t, n⟩, hmap⟩ := Option.isSome_iff_exists.1 hroom'
    have hstep := execMemMap_maps rfl rfl hstart hthere hrange htiered hclash hroom hmap
    obtain ⟨hall, hkept, hdistricts⟩ := mapAll_maps hmap
    refine ⟨_, hstep, ?_, ?_, ?_, ?_⟩
    · simpa using hall
    · simpa using hkept
    · simpa using hdistricts
    · intro r hr
      cases hmap.symm.trans hr
      obtain ⟨-, -, -, -, -, hhost, -, hboot, -⟩ := State.mapAll_frame hmap
      exact ends_done_of_started hstart hhost (by simp [hboot, started]) n
  case unmapping =>
    intro s c ps hstart _ hrange hsome hwhole
    have hstep := execMemUnmap_of_whole hstart hrange hwhole
    rw [if_neg (pagesOf_ne_zero hsome)] at hstep
    exact ⟨_, hstep, running_of_started rfl, rfl, out_started s c, _, rfl, rfl, rfl, rfl, rfl⟩
  case nothing =>
    intro s c hstart _ hrange hnone
    have hstep := execMemUnmap_of_whole hstart hrange (by simp [hnone])
    rw [if_pos (by simp [hnone, pagesOf])] at hstep
    exact ⟨_, hstep, by simp, by simp, ends_done_of_started hstart rfl (by simp [started]) 0⟩
  case same =>
    intro s c x hstart _ hthere hidle hgood hsame
    exact ⟨_, execDistrictStrength_of_same rfl hstart hthere hidle hgood hsame, by simp, by simp,
      ends_done_of_started hstart rfl (by simp [started]) 0⟩
  case converting =>
    intro s c x hstart _ hthere hserving hidle hgood hother hroom hleft
    refine ⟨_, execDistrictStrength_converts rfl hstart hthere hidle hgood hother hroom hleft, ?_, running_of_started rfl, ?_⟩
    · simp [convertingTo, hserving]
    · simp [State.setDistrict]
  case converted =>
    intro s d x c p l rest cs hthere hcmd htodo
    refine ⟨_, execStrengthPageDone_of_leaf hthere hcmd htodo, ?_, fun k hk => ?_, fun f hf => ?_⟩
    · rw [(converted_frame ..).1]
      exact Table.get_put_same ..
    · rw [(converted_frame ..).1]
      exact Table.get_put_of_ne _ _ hk
    · rw [(converted_frame ..).2] at hf
      simpa [reencoded, Decidable.or_iff_not_imp_left] using hf

end Sys2Proof.Proofs
end

section
/-! The fabric router: messages on their way to an egress port, messages without a route, and the timers of those that wait (R71, R366 to
R373, R380, R565). -/

namespace Sys2Proof.Proofs

open Sys2Proof Sys2Proof.Machine Sys2Proof.Claims

/-! ### Ports -/

/-- A port depends on the ports' table alone. -/
theorem jl_congr {s t : State} (h : t.net.ports = s.net.ports) (n : Nat) : t.jl n = s.jl n := by rw [State.jl, h]; rfl

@[simp] theorem jl_tally (s : State) (off k n : Nat) : (s.tally off k).jl n = s.jl n := rfl

theorem portsKept_setJl (s : State) (n : Nat) (p : LinkPort) : PortsKept s (s.setJl n p) n := fun m hm => by
  rw [State.jl_setJl, if_neg hm]

/-- A message that leaves a receiver buffer leaves what the port sends, its state and its credits (R347). -/
theorem jl_takeRx (s : State) (port cls src n : Nat) :
    ((s.takeRx port cls src).jl n).queue = (s.jl n).queue ∧ ((s.takeRx port cls src).jl n).st = (s.jl n).st ∧
    ((s.takeRx port cls src).jl n).credits = (s.jl n).credits := by
  simp only [State.takeRx]
  split
  · exact ⟨rfl, rfl, rfl⟩
  · rw [State.jl_setJl]
    split
    case isTrue h => rw [h]; exact ⟨rfl, rfl, rfl⟩
    case isFalse => exact ⟨rfl, rfl, rfl⟩

/-- Whether a port is usable, and whether it has credit, depends on its state and its credits. -/
theorem usable_congr {s t : State} {n : Nat} (h : (t.jl n).st = (s.jl n).st) : t.usable n = s.usable n := by simp only [State.usable, h]

theorem hasCredit_congr {s t : State} {n : Nat} (h : (t.jl n).credits = (s.jl n).credits) (vc cells : Nat) :
    t.hasCredit n vc cells = s.hasCredit n vc cells := by simp only [State.hasCredit, h]

theorem routeOf_congr {s t : State} (h : t.regs = s.regs) (dst : Nat) : t.routeOf dst = s.routeOf dst := by simp only [State.routeOf, h]

/-- A message's mark changes its meter's bucket alone (R380). -/
theorem ports_markAt (s : State) (m len : Nat) : (s.markAt m len).1.net.ports = s.net.ports := by
  simp only [State.markAt]
  split_ifs <;> rfl

/-- A message that joins an egress queue is its last, with a mark (R378, R380). -/
theorem ports_enqueue (s : State) (port : Nat) (q : Queued) : ∃ mark, (s.enqueue port q).net.ports =
    s.net.ports.put port { s.jl port with queue := (s.jl port).queue ++ [{ q with mark := mark, since := s.clock }] } := by
  let planned := q.m.flow != 0 && (s.flowEntry q.m.flow).isSome && s.planOn
  let r : State × Mark := match q.meter with
    | none => (s, .off)
    | some m => if planned || q.m.vc % 2 == 1 then (s, .off) else if s.redHeld m then (s, .red) else s.markAt m (s.effLen port q.m)
  have hmarked : r.1.net.ports = s.net.ports ∧ r.1.clock = s.clock := by
    simp only [r]
    split
    · exact ⟨rfl, rfl⟩
    · split_ifs
      · exact ⟨rfl, rfl⟩
      · exact ⟨rfl, rfl⟩
      · exact ⟨ports_markAt .., by simp⟩
  let t : State := if r.2 == .red then r.1.tally (0x1A8250 + 0x400 * port) 1 else r.1
  let u : State := if r.2 == .yellow then t.tally (0x1A8248 + 0x400 * port) 1 else t
  have hcounted : u.net.ports = s.net.ports ∧ u.clock = s.clock := by
    refine ⟨?_, ?_⟩
    · rw [← hmarked.1]
      simp only [u, t]
      split_ifs <;> rfl
    · rw [← hmarked.2]
      simp only [u, t]
      split_ifs <;> rfl
  obtain ⟨hports, hclock⟩ := hcounted
  have hjoined : (s.enqueue port q).net.ports =
      u.net.ports.put port { u.jl port with queue := (u.jl port).queue ++ [{ q with mark := r.2, since := u.clock }] } := rfl
  exact ⟨r.2, by rw [hjoined, hports, hclock, jl_congr hports]⟩

/-! ### The choice of a port -/

section
variable {s : State} {m : Msg} {e : RouteEnt} {arrival : Option Nat} (hcls : m.cls ≠ 4) (hvc : m.vc % 2 = 0) (hpri : s.usable e.pri = true)
  (hback : arrival ≠ some e.pri)
include hcls hvc hpri hback

/-- A primary port with credit is chosen (R366). -/
theorem choose_of_credit (hcredit : s.hasCredit e.pri (2 * m.cls) m.cells = true) (waited : Bool) :
    s.choose m e arrival waited = (.via e.pri, false) := by
  simp [State.choose, hcls, hvc, hpri, hback, hcredit]

/-- A message that has waited for a primary port without credit takes the Ring Road (R366, R372). -/
theorem choose_of_waited (hcredit : s.hasCredit e.pri (2 * m.cls) m.cells = false) (hadapt : e.adapt = false) (hesc : s.usable e.esc = true)
    (hahead : arrival ≠ some e.esc) (hfree : bitOf (s.regs.val 0x140004).toNat 24 = false) :
    s.choose m e arrival true = (.road e.esc, false) := by
  simp [State.choose, hcls, hvc, hpri, hback, hcredit, hadapt, hesc, hahead, hfree]

/-- A message whose primary port has credit joins that port's queue (R366). -/
theorem tryPost_of_credit (hroute : s.routeOf m.dst = some e) (hcredit : s.hasCredit e.pri (2 * m.cls) m.cells = true) (d : Option Nat) :
    s.tryPost m arrival d = (s.enqueue e.pri ⟨m, arrival, e, s.clock, s.meterOf m d, .off, none⟩, true) := by
  simp only [State.tryPost, hroute, choose_of_credit hcls hvc hpri hback hcredit]
  rfl

end

/-! ### Messages without a route -/

/-- What is noted of a message without a route leaves the ports, the messages held and the registers (R368). -/
theorem noteNoRoute_kept (s : State) (dst : Nat) : (s.noteNoRoute dst).net.ports = s.net.ports ∧
    (s.noteNoRoute dst).net.held = s.net.held ∧ (s.noteNoRoute dst).regs = s.regs ∧ (s.noteNoRoute dst).clock = s.clock := by
  simp only [State.noteNoRoute]
  split
  · split <;> simp
  · simp

/-- A message that is no REQ and has no route is discarded and counted (R368). -/
theorem noRoute_of_discarded {s : State} {m : Msg} (hcls : m.cls ≠ 0) : s.noRoute m = (s.noteNoRoute m.dst).tally 0x140048 1 := by
  simp only [State.noRoute, if_neg hcls]

/-- A REQ without a route is answered MISROUTED (R368). -/
theorem misrouted_of_noRoute {s : State} {m : Msg} (hcls : m.cls = 0) (hmute : s.mute = false) :
    Out.dat 12 ⟨failOp m.op, m.src, m.tag, 7, 0, 0, none⟩ ∈ (s.noRoute m).out := by
  simp only [State.noRoute, if_pos hcls]
  exact mem_sendDat ((mute_congr (by simp)).trans hmute) _ _ _ _

/-- A message in transit that has no route (R368). -/
theorem execMessageForward_of_noRoute {s : State} {port : JPort} {m : Msg} (hdst : m.dst ≠ s.node) (hroute : s.routeOf m.dst = none) :
    execMessageForward port m s = .next ((s.takeRx port m.cls m.src).noRoute m) := by
  have hthere : (s.takeRx port m.cls m.src).routeOf m.dst = none := (routeOf_congr (by simp) _).trans hroute
  simp only [execMessageForward, if_neg hdst, State.tryPost, hthere]
  rfl

/-! ### Meters -/

/-- Tokens that come in at a rate reach a level within the time that is left to it, rounded up (R380). -/
theorem tokens_reach {cap start upd now rate level : Nat} (hupd : upd ≤ now) (hcap : level ≤ cap) (hrate : 0 < rate)
    (hshort : min cap (start + (now - upd) * rate) < level) :
    level ≤ start + (now + (level - min cap (start + (now - upd) * rate) + (rate - 1)) / rate - upd) * rate := by
  have hheld : min cap (start + (now - upd) * rate) = start + (now - upd) * rate := by omega
  rw [hheld] at hshort ⊢
  generalize hwait : (level - (start + (now - upd) * rate) + (rate - 1)) / rate = wait
  have henough : level - (start + (now - upd) * rate) ≤ wait * rate := hwait ▸ le_roundUp _ hrate
  have hsplit : (now + wait - upd) * rate = (now - upd) * rate + wait * rate := by
    rw [Nat.sub_add_comm hupd, Nat.add_mul]
  omega

/-- A meter's peak bucket at an instant (R380). -/
theorem peak_eq {s u : State} {b : Bucket} {m : Nat} (hregs : u.regs = s.regs) (hnet : u.net = s.net)
    (hb : (s.net.buckets.get m).getD ⟨0, 0, 0⟩ = b) : (u.bucketNow m).tp =
      min (s.regs.fld (m + 8) 31 16 * 64 * 256000) (b.tp + (u.clock - b.upd) * (s.regs.fld (m + 4) 23 0 * 256)) := by
  simp only [State.bucketNow, hregs, hnet, hb, Nat.mul_assoc]

/-- Once the time has passed that `refillAt` gives, the peak bucket holds the length (R380). -/
theorem peak_of_refilled {s : State} {m len : Nat} (hupd : ((s.net.buckets.get m).getD ⟨0, 0, 0⟩).upd ≤ s.clock)
    (hfits : len ≤ s.regs.fld (m + 8) 31 16 * 64) (hrate : s.regs.fld (m + 4) 23 0 ≠ 0) :
    len * 256000 ≤ ((s.passTo (s.refillAt m len)).bucketNow m).tp := by
  have hcap : len * 256000 ≤ s.regs.fld (m + 8) 31 16 * 64 * 256000 := Nat.mul_le_mul_right _ hfits
  have hpos : 0 < s.regs.fld (m + 4) 23 0 * 256 := by omega
  have hnow := peak_eq (s := s) (u := s) (m := m) rfl rfl rfl
  by_cases hfull : len * 256000 ≤ (s.bucketNow m).tp
  · have hrefill : s.refillAt m len = s.clock := if_pos (.inl hfull)
    rw [peak_eq (s := s) (by simp) (by simp) rfl, hrefill, passTo_clock_of_le s (Nat.le_refl _), ← hnow]
    exact hfull
  · have hrefill : s.refillAt m len = s.clock + (len * 256000 - (s.bucketNow m).tp + (s.regs.fld (m + 4) 23 0 * 256 - 1)) /
        (s.regs.fld (m + 4) 23 0 * 256) := if_neg (by omega)
    rw [peak_eq (s := s) (by simp) (by simp) rfl, hrefill, passTo_clock_of_le s (Nat.le_add_right _ _)]
    rw [hnow] at hfull ⊢
    exact Nat.le_min.2 ⟨hcap, tokens_reach hupd hcap hpos (Nat.not_le.1 hfull)⟩

/-- A message that the peak bucket holds is not marked red (R380). -/
theorem mark_ne_red {s : State} {m len : Nat} (h : s.regs.fld (m + 4) 23 0 ≠ 0 → len * 256000 ≤ (s.bucketNow m).tp) :
    (s.markAt m len).2 ≠ .red := by
  by_cases hrate : s.regs.fld (m + 4) 23 0 = 0
  · simp [State.markAt, hrate]
  · simp only [State.markAt, if_neg hrate, if_neg (Nat.not_lt.2 (h hrate))]
    split_ifs <;> simp

/-- The only held message of a meter that is not marked red is released with its new mark (R380). -/
theorem queue_remark_of_one {s : State} {m n : Nat} {q : Queued} (h : (s.markAt m (s.effLen n q.m)).2 ≠ .red) :
    ((s.remark m [(n, q)]).jl n).queue =
      (s.jl n).queue.map fun x => if x = q then { x with mark := (s.markAt m (s.effLen n q.m)).2 } else x := by
  have hjl : (s.markAt m (s.effLen n q.m)).1.jl n = s.jl n := jl_congr (ports_markAt ..) n
  simp only [State.remark, if_neg h, hjl]
  split
  · rw [jl_tally, State.jl_setJl, if_pos rfl]
  · rw [State.jl_setJl, if_pos rfl]

/-! ### Unexpected messages -/

/-- The state in which a message that the pool does not take has left its receiver buffer: its credits are owed (R347, R565). -/
def unexpectedTaken (s : State) (port cls src cells vc : Nat) : State :=
  s.setJl port { s.jl port with
    rx := match (s.jl port).rx.find? fun m => m.cls == cls && m.src == src with
      | some m => (s.jl port).rx.erase m
      | none => (s.jl port).rx,
    owed := (s.jl port).owed.put vc (((s.jl port).owed.get vc).getD 0 + cells) }

/-- A message of no request type that the pool does not take is counted, with at most one notice a second (R565). -/
theorem execUnexpectedMessage_counts {s : State} {port : JPort} {byte0 : Nat} (src cells vc : Nat) (h : byte0 / 64 ≠ 0 ∨ byte0 = 0x3F) :
    ∃ t cls, execUnexpectedMessage port byte0 src cells vc s = .next t ∧ t.regs = (s.tally 0x140060 1).regs ∧
      t.net.ports = (unexpectedTaken s port cls src cells vc).net.ports := by
  let cls := if byte0 = 0x3F then 4 else byte0 / 64
  have hcls : cls ≠ 0 := by
    simp only [cls]
    split_ifs with h63
    · decide
    · exact h.resolve_right h63
  let u := (unexpectedTaken s port cls src cells vc).tally 0x140060 1
  let due := match u.net.lastUnexpected with | some t => decide (t + 1000000000 ≤ u.clock) | none => true
  have hstep : execUnexpectedMessage port byte0 src cells vc s = .next (if due then
      ({ u with net := { u.net with lastUnexpected := some u.clock } }).raise Src.router 0x02 (src % 65536 + byte0 % 256 * 65536) else u) :=
    congrArg Host.Outcome.next (if_neg hcls)
  refine ⟨_, cls, hstep, ?_, ?_⟩
  · split_ifs <;> simp [u, unexpectedTaken, State.tally, State.setJl]
  · split_ifs <;> simp [u]

/-- A REQ of a reserved type is answered as malformed (R71, R565). -/
theorem execUnexpectedMessage_answers {s : State} {port : JPort} {byte0 : Nat} (src cells vc : Nat) (hreq : byte0 / 64 = 0)
    (hother : byte0 ≠ 0x3F) : ∃ cls, execUnexpectedMessage port byte0 src cells vc s =
      .next ((unexpectedTaken s port cls src cells vc).sendDat port 0 none ⟨.comp, src, 0, 4, 0, 5, none⟩) := by
  have hcls : (if byte0 = 0x3F then 4 else byte0 / 64) = 0 := by rw [if_neg hother, hreq]
  exact ⟨_, congrArg Host.Outcome.next (if_pos hcls)⟩

/-! ### The timers of messages that wait -/

theorem jl_enqueue_same (s : State) (port : Nat) (q : Queued) : ∃ mark, (s.enqueue port q).jl port =
    { s.jl port with queue := (s.jl port).queue ++ [{ q with mark := mark, since := s.clock }] } := by
  obtain ⟨mark, hports⟩ := ports_enqueue s port q
  exact ⟨mark, by rw [State.jl, hports, Table.get_put_same]; rfl⟩

/-- Time that passes leaves the ports. -/
@[simp] theorem jl_passTo (s : State) (t n : Nat) : (s.passTo t).jl n = s.jl n := jl_congr (by simp) n

/-- The port without one message of its queue. -/
def unqueued (s : State) (n idx : Nat) : State := s.setJl n { s.jl n with queue := (s.jl n).queue.eraseIdx idx }

/-- The state in which a message held after a break of the Ring Road is held no more (R373). -/
def holdEnded (s : State) (idx : Nat) (q : Queued) : State :=
  let u := s.passTo (q.since + 100000000)
  { u with net := { u.net with held := u.net.held.eraseIdx idx } }

theorem regs_holdEnded (s : State) (idx : Nat) (q : Queued) : (holdEnded s idx q).regs = s.regs := by
  simp [holdEnded]

/-- Settles O16: a message in transit by `tryPost_of_credit` and `noRoute`, and each timer by what it does with the message it names. -/
theorem routing : Obligations.Routing := by
  refine ⟨?forwarded, ?misrouted, ?discarded, ?counted, ?answered, ?escaped, ?dropped, ?held, ?released⟩
  case forwarded =>
    intro s port m e hdst hroute hcls hvc hpri hback hcredit
    let u := s.takeRx port m.cls m.src
    obtain ⟨hrx, hst, hcredits⟩ := jl_takeRx s port m.cls m.src e.pri
    have hpost := tryPost_of_credit (s := u) (arrival := some port.val) hcls hvc ((usable_congr hst).trans hpri)
      (fun h => hback (Option.some.inj h).symm) ((routeOf_congr (by simp [u]) _).trans hroute) ((hasCredit_congr hcredits _ _).trans hcredit) none
    have hstep : execMessageForward port m s =
        .next (u.enqueue e.pri ⟨m, some port.val, e, u.clock, u.meterOf m none, .off, none⟩) := by
      simp only [execMessageForward, if_neg hdst]
      rw [hpost]
      rfl
    obtain ⟨mark, hjl⟩ := jl_enqueue_same u e.pri ⟨m, some port.val, e, u.clock, u.meterOf m none, .off, none⟩
    have hqueue := congrArg LinkPort.queue hjl
    rw [← hrx]
    exact ⟨_, hstep, _, hqueue, rfl, rfl, by simp [u]⟩
  case misrouted =>
    intro s port m hdst hroute hcls hmute
    refine ⟨_, execMessageForward_of_noRoute hdst hroute, misrouted_of_noRoute hcls ((mute_congr ?_).trans hmute)⟩
    simp
  case discarded =>
    intro s port m hdst hroute hcls
    have hstep := execMessageForward_of_noRoute (port := port) hdst hroute
    rw [noRoute_of_discarded hcls] at hstep
    obtain ⟨hports, -, hregs, -⟩ := noteNoRoute_kept (s.takeRx port m.cls m.src) m.dst
    refine ⟨_, hstep, ?_, fun n => ?_⟩
    · rw [counter_tally, hregs]
      simp
    · rw [jl_tally, jl_congr hports]
      exact (jl_takeRx s port m.cls m.src n).1
  case counted =>
    intro s port byte0 src cells vc h
    obtain ⟨t, cls, hstep, hregs, hports⟩ := execUnexpectedMessage_counts (s := s) (port := port) src cells vc h
    refine ⟨t, hstep, ?_, ?_⟩
    · rw [hregs, counter_tally]
    · rw [jl_congr hports]
      simp [unexpectedTaken]
  case answered =>
    intro s port byte0 src cells vc hreq hother hmute
    obtain ⟨cls, hstep⟩ := execUnexpectedMessage_answers (s := s) (port := port) src cells vc hreq hother
    have hstill : (unexpectedTaken s port cls src cells vc).mute = false := (mute_congr rfl).trans hmute
    exact ⟨_, hstep, mem_sendDat hstill port 0 none ⟨.comp, src, 0, 4, 0, 5, none⟩⟩
  case escaped =>
    intro s n idx q hget hcls hvc hpri hback hcredit hadapt hesc hahead hfree
    let u := s.passTo (q.since + s.regs.fld 0x140004 15 0)
    have hchoice : u.choose q.m q.ent q.arrival true = (.road q.ent.esc, false) :=
      choose_of_waited hcls hvc ((usable_congr (by simp [u])).trans hpri) hback ((hasCredit_congr (by simp [u]) _ _).trans hcredit) hadapt
        ((usable_congr (by simp [u])).trans hesc) hahead (by simpa [u] using hfree)
    have hstays : ¬(q.m.cls = 4 ∨ q.m.vc % 2 = 1) := by omega
    let t := (unqueued u n idx).tally (0x1A8240 + 0x400 * n) 1
    let x : Queued := { q with m := { q.m with vc := 2 * q.m.cls + 1 } }
    have hstep : execEscapeWaitTimeout n idx s = .next (t.enqueue q.ent.esc x) := by
      simp only [execEscapeWaitTimeout, hget, if_neg hstays]
      rw [hchoice]
      rfl
    obtain ⟨mark, hjl⟩ := jl_enqueue_same t q.ent.esc x
    refine ⟨_, hstep, ⟨{ x with mark := mark, since := t.clock }, ?_, rfl⟩, ?_⟩
    · rw [hjl]
      exact List.getLast?_concat
    · have hclock : (t.enqueue q.ent.esc x).clock = u.clock := by simp [t, unqueued, State.setJl]
      rw [hclock]
      exact passTo_clock_ge s _
  case dropped =>
    intro s n idx q hget hcls hcredit
    let u := s.passTo (q.since + s.regs.fld 0x140004 23 16 * 1000)
    have hnone : u.hasCredit n q.m.vc q.m.cells = false := (hasCredit_congr (by simp [u]) _ _).trans hcredit
    have hstep : execBypassDropTimeout n idx s = .next ((unqueued u n idx).tally 0x140050 1) := by
      simp only [execBypassDropTimeout, hget, hcls, ne_eq, not_true_eq_false, if_false, hnone, Bool.false_eq_true, unqueued, u]
    refine ⟨_, hstep, ?_, fun k hk => ?_, ?_, passTo_clock_ge s _⟩
    · rw [jl_tally, unqueued, State.jl_setJl, if_pos rfl, jl_passTo]
    · rw [jl_tally, unqueued, State.jl_setJl, if_neg hk, jl_passTo]
    · rw [counter_tally]
      simp [unqueued, State.setJl, u]
  case held =>
    intro s idx q hget hcls
    have hstep : execEscapeHoldTimeout idx s = .next (((holdEnded s idx q).noteNoRoute q.m.dst).tally 0x140048 1) := by
      simp only [execEscapeHoldTimeout, hget]
      rw [noRoute_of_discarded hcls]
      simp only [holdEnded]
    obtain ⟨hports, hheld, hregs, hclock⟩ := noteNoRoute_kept (holdEnded s idx q) q.m.dst
    refine ⟨_, hstep, hheld.trans (by simp [holdEnded]), hports.trans (by simp [holdEnded]), ?_, ?_⟩
    · have hended : (((holdEnded s idx q).noteNoRoute q.m.dst).tally 0x140048 1).clock = (holdEnded s idx q).clock := hclock
      rw [hended]
      exact passTo_clock_ge s _
    · rw [counter_tally, hregs, regs_holdEnded]
  case released =>
    intro s n idx m q hget hmeter hmark hred hupd hfits
    let u := s.passTo (s.refillAt m (s.effLen n q.m))
    have hstill : u.redOf m = [(n.val, q)] := by
      rw [← hred]
      simp only [State.redOf, u, State.passTo_frame]
    have hstep : execMeterRelease n idx s = .next (u.remark m [(n.val, q)]) := by
      rw [← hstill]
      simp only [execMeterRelease, hget, hmeter, hmark, hred, ne_eq, not_true_eq_false, if_false, u]
    have hnotRed : (u.markAt m (u.effLen n q.m)).2 ≠ .red := by
      refine mark_ne_red fun hrate => ?_
      have hlen : u.effLen n q.m = s.effLen n q.m := by simp [State.effLen, u]
      rw [hlen]
      exact peak_of_refilled hupd hfits (by simpa [u] using hrate)
    refine ⟨_, hstep, { q with mark := (u.markAt m (u.effLen n q.m)).2 }, ?_, rfl, hnotRed⟩
    rw [queue_remark_of_one hnotRed, List.getElem?_map, jl_passTo, hget]
    simp

end Sys2Proof.Proofs
end

section
/-! Reads of lines that nobody holds, and requests that are refused (R75, R80, R81, R110, R116, R133). -/

namespace Sys2Proof.Proofs

open Sys2Proof Sys2Proof.Machine Sys2Proof.Claims

/-! ### The bytes of a read -/

/-- The state in which a read is answered: bytes of its cells outside the read are free (R75). -/
def drawnFor (s : State) (p : Pend) : State := if coverCells (p.pa % 64) p.len * 16 = p.len then s else s.draw

theorem drawnFor_frame (s : State) (p : Pend) :
    (drawnFor s p).coh = s.coh ∧ (drawnFor s p).mem = s.mem ∧ (drawnFor s p).boot = s.boot ∧ (drawnFor s p).out = s.out := by
  unfold drawnFor
  split <;> simp [State.draw]

/-- The lines of a request are the one of its first byte, and that of its last where it is another. -/
theorem lines_cases (p : Pend) : (p.lines = [p.pa / 64] ∧ (0 < p.len → (p.pa + p.len - 1) / 64 ≤ p.pa / 64)) ∨
    (p.lines = [p.pa / 64, (p.pa + p.len - 1) / 64] ∧ p.pa / 64 < (p.pa + p.len - 1) / 64) := by
  by_cases h : p.pa / 64 < (p.pa + p.len - 1) / 64 ∧ 0 < p.len
  · exact .inr ⟨if_pos h, h.1⟩
  · exact .inl ⟨if_neg h, fun hlen => Nat.le_of_not_lt fun hlt => h ⟨hlt, hlen⟩⟩

theorem first_mem_lines (p : Pend) : p.pa / 64 ∈ p.lines := by
  rcases lines_cases p with ⟨h, -⟩ | ⟨h, -⟩ <;> simp [h]

theorem getD_lineBytes (d : LineData) (n : Nat) {k : Nat} (hk : k < n) : (lineBytes d 0 n).getD k 0 = d.extractLsb' (k * 8) 8 := by
  simp [lineBytes, List.getD, hk]

/-- The lines of a read, one after the other (R75). -/
def bytesOf (m : Memory) : List Nat → List Byte
  | [] => []
  | l :: ls => lineBytes (m.line l) 0 64 ++ bytesOf m ls

/-- A byte of a request stands in the lines of the request at its place after the first of them. -/
theorem getD_bytesOf_lines (m : Memory) {p : Pend} (hfit : (p.pa + p.len - 1) / 64 ≤ p.pa / 64 + 1) {i : Nat} (hi : i < p.len) :
    (bytesOf m p.lines).getD (p.pa % 64 + i) 0 = m.byte (p.pa + i) := by
  unfold Memory.byte
  have hlen : ∀ d : LineData, (lineBytes d 0 64).length = 64 := fun d => by simp [lineBytes]
  by_cases hfirst : p.pa % 64 + i < 64
  · have hline : (p.pa + i) / 64 = p.pa / 64 := by omega
    have hplace : (p.pa + i) % 64 = p.pa % 64 + i := by omega
    have hbyte := getD_lineBytes (m.line (p.pa / 64)) 64 hfirst
    rw [hline, hplace, ← hbyte]
    rcases lines_cases p with ⟨h, -⟩ | ⟨h, -⟩ <;> rw [h, bytesOf, List.getD_append _ _ _ _ (by rw [hlen]; exact hfirst)]
  · rcases lines_cases p with ⟨-, hone⟩ | ⟨h, htwo⟩
    · have := hone (by omega)
      omega
    · have hline : (p.pa + i) / 64 = (p.pa + p.len - 1) / 64 := by omega
      have hplace : (p.pa + i) % 64 = p.pa % 64 + i - 64 := by omega
      have hlast : p.pa % 64 + i - 64 < 64 := by omega
      rw [hline, hplace, h, bytesOf, List.getD_append_right _ _ _ _ (by rw [hlen]; omega), hlen, bytesOf, bytesOf, List.append_nil]
      exact getD_lineBytes _ 64 hlast

/-- A byte of a request is in the cells that cover it. -/
theorem lt_coverCells {off len i : Nat} (hi : i < len) : off % 16 + i < coverCells off len * 16 := by
  unfold coverCells roundUp
  omega

/-- The cells that answer a read: its bytes, and free ones around them (R75). -/
def cellsOf (s : State) (p : Pend) : List Byte :=
  (List.range (coverCells (p.pa % 64) p.len * 16)).map fun i =>
    if p.pa % 64 ≤ p.pa % 64 / 16 * 16 + i ∧ p.pa % 64 / 16 * 16 + i < p.pa % 64 + p.len then
      (bytesOf s.mem p.lines).getD (p.pa % 64 / 16 * 16 + i) 0
    else Config.freeByte s.free (p.pa / 64 * 64 + (p.pa % 64 / 16 * 16 + i))

theorem getD_cellsOf (s : State) {p : Pend} (hfit : (p.pa + p.len - 1) / 64 ≤ p.pa / 64 + 1) {i : Nat} (hi : i < p.len) :
    (cellsOf s p).getD (p.pa % 16 + i) 0 = s.mem.byte (p.pa + i) := by
  have hlt : p.pa % 16 + i < coverCells (p.pa % 64) p.len * 16 := by
    have := lt_coverCells (off := p.pa % 64) hi
    omega
  have hplace : p.pa % 64 / 16 * 16 + (p.pa % 16 + i) = p.pa % 64 + i := by omega
  rw [← getD_bytesOf_lines s.mem hfit hi]
  simp [cellsOf, List.getD, hlt, hplace, hi]

/-- A read of lines in clear is answered with the cells that cover it (R75). -/
theorem sendRead_of_clear {s : State} {p : Pend} (hbound : p.bound = none)
    (hclear : ∀ l ∈ p.lines, s.mem.poisoned l = false ∧ s.mem.known l = BitVec.allOnes 64) :
    s.sendRead p = (drawnFor s p).reply p Jl.ok 0 (some (cellsOf s p)) := by
  have hread : p.lines.map (s.versionLine p) = p.lines.map fun l => some (s.mem.line l) := List.map_congr_left fun l hl => by
    simp [State.versionLine, hbound, State.readLine, hclear l hl]
  have hafter : p.lines.foldl (fun s l => s.afterRead l) s = s := by
    have hstay : ∀ l ∈ p.lines, s.afterRead l = s := fun l hl => by simp [State.afterRead, hclear l hl]
    rcases lines_cases p with ⟨h, -⟩ | ⟨h, -⟩ <;> rw [h] at hstay ⊢ <;> simp [hstay]
  simp only [State.sendRead, hread, hafter]
  rcases lines_cases p with ⟨h, -⟩ | ⟨h, -⟩ <;> simp [h, bytesOf, cellsOf, drawnFor]

/-! ### An answer closes its request -/

/-- The ledger entries of one request, or of one element of it (R83). -/
def AllOf (ledger : List Ledger) (p : Pend) : Prop := ∀ x ∈ ledger, x.port = p.port ∧ x.src = p.src ∧ x.tag = p.tag ∧ x.elem = p.elem

/-- The answer to a request takes its entries from the ledger (R83). -/
theorem ledger_reply {s : State} {p : Pend} (helem : p.elem = none) (h : AllOf s.coh.ledger p) (status detail : Nat)
    (data : Option (List Byte)) : (s.reply p status detail data).coh.ledger = [] := by
  have hclosed : (s.closeReq p).coh.ledger = [] := List.filter_eq_nil_iff.2 fun x hx => by simp [h x hx]
  simp only [State.reply, helem]
  split
  · exact hclosed
  · simpa [State.closeReq] using hclosed

theorem mem_ledger_reached {s : State} {p : Pend} {n : Nat} {x : Ledger} (hx : x ∈ (reached s p n).coh.ledger) :
    ∃ y ∈ s.coh.ledger, x.port = y.port ∧ x.src = y.src ∧ x.tag = y.tag ∧ x.elem = y.elem := by
  unfold reached at hx
  split at hx
  · simp only [State.touchPage_frame, List.mem_map] at hx
    obtain ⟨y, hy, rfl⟩ := hx
    refine ⟨y, hy, ?_⟩
    split <;> simp
  · simp only [State.touchPage_frame] at hx
    exact ⟨x, hx, rfl, rfl, rfl, rfl⟩

theorem ledger_taken (s : State) (port : Nat) (r : Req) (p : Pend) : (taken s port r p).coh.ledger = s.coh.ledger ++
    [Ledger.mk p.port p.src p.tag p.elem p.steer p.op.isFar (p.op.answer false) p.flow s.clock] := by
  simp [taken, State.enter, State.grantTracker]

/-- A request that comes alone has all entries of the ledger when it reaches its home share. -/
theorem allOf_atItsHome {s : State} (h : s.coh.ledger = []) (port : Nat) (r : Req) (op : ReqOp) (len : Nat) (w : Window) (pa : Nat) :
    AllOf (atItsHome s port r op len w pa).coh.ledger (translated s port r op len w pa) := by
  intro x hx
  obtain ⟨y, hy, hport, hsrc, htag, helem⟩ := mem_ledger_reached hx
  rw [ledger_taken, h, List.nil_append, List.mem_singleton] at hy
  subst hy
  exact ⟨hport, hsrc, htag, helem⟩

/-! ### A read at its home -/

/-- Nobody holds the lines of a request, which stand in the line cache in clear, in sets with room (R75, R132). -/
def Unheld (s : State) (p : Pend) : Prop := ∀ l ∈ p.lines, s.coh.dir.get l = none ∧ s.mem.cache.has l = true ∧ s.mem.poisoned l = false ∧
  s.mem.known l = BitVec.allOnes 64 ∧ s.setFull l = false

theorem unheld_of_homed {s t : State} {p : Pend} {d da : Nat} (h : Homed s d da p.pa p.len) (hdir : t.coh.dir = s.coh.dir)
    (hmem : t.mem = s.mem) (hact : t.regs.act = s.regs.act) : Unheld t p := fun l hl => by
  obtain ⟨-, -, -, -, -, -, -, -, -, hlines⟩ := h
  rw [setFull_congr hdir hact, hdir, hmem]
  exact hlines l (mem_ends_of_mem_lines hl)

theorem clear_of_unheld {s t : State} {p : Pend} (h : Unheld s p) (hmem : t.mem = s.mem) :
    ∀ l ∈ p.lines, t.mem.poisoned l = false ∧ t.mem.known l = BitVec.allOnes 64 := fun l hl => by
  obtain ⟨-, -, hclear, hknown, -⟩ := h l hl
  rw [hmem]
  exact ⟨hclear, hknown⟩

/-- A request that gets no early data goes to its open home share, where an undecided Atomic-Any is decided (R116, R122). -/
theorem toHome_of_open {s : State} {p : Pend} {pa : Nat} (hopen : (s.share (s.regs.home pa)).st = .opened)
    (hearly : p.early = false ∨ p.elem ≠ none ∨ (p.op ≠ .readShared ∧ p.op ≠ .readOnce)) :
    s.toHome p pa = (fun r : State × Pend => r.1.atHome r.2)
      ((reached s p (s.regs.home pa)).decideAny { p with pa := pa, share := s.regs.home pa }) := by
  have hno : ∀ t : State, t.earlyOk { p with pa := pa, share := s.regs.home pa } = false := fun t => by
    rcases hearly with h | h | ⟨h1, h2⟩ <;> simp [State.earlyOk, *]
  simp only [State.toHome, hopen, ne_eq, not_true_eq_false, and_false, if_false, hno, reached]
  simp

/-- The page of a request lies still: nothing at its home waits for it (R84, R123, R132, R160). -/
theorem atHome_of_homed {s t : State} {p : Pend} {pa len : Nat} (h : Homed s p.district p.da pa len)
    (hop : p.op = .readShared ∨ p.op = .readOwn ∨ p.op = .readOnce ∨ p.op = .atomicNear) (hbound : p.bound = none) (hunheld : Unheld t p)
    (hearly : t.coh.early = s.coh.early) (hfetch : t.coh.fetch = s.coh.fetch) (hms : t.ms = s.ms) : t.atHome p = t.serve p := by
  obtain ⟨-, -, -, -, hneed, hcopying, hnoearly, hnofetch, -⟩ := h
  refine atHome_eq_serve hbound ?_ ?_ (fun _ l hl e he => ?_) (hearly.trans hnoearly) (hfetch.trans hnofetch) (hms ▸ hcopying)
    ((needCopy_congr hms _ _).trans hneed) fun _ l hl => (hunheld l hl).2.1
  · rcases hop with h | h | h | h <;> simp [h]
  · rcases hop with h | h | h | h <;> simp [h]
  · simp [(hunheld l hl).1] at he

/-- A translated read of a page that lies still is served at its home share (R86, R133). -/
theorem resolve_read {s : State} {p : Pend} {pa : Nat} (h : Homed s p.district p.da pa p.len)
    (hop : p.op = .readShared ∨ p.op = .readOwn ∨ p.op = .readOnce) (hbound : p.bound = none) (hearly : p.early = false ∨ p.elem ≠ none) :
    s.resolve p = (reached s p (s.regs.home pa)).serve { p with pa := pa, share := s.regs.home pa } := by
  obtain ⟨-, -, hregs, hmem, -, -, hms, hdir, hre, hrf, -, -⟩ := reached_frame s p (s.regs.home pa)
  have hunheld : Unheld (reached s p (s.regs.home pa)) { p with pa := pa, share := s.regs.home pa } :=
    unheld_of_homed h hdir hmem (congrArg Regs.act hregs)
  have hdecide : ∀ t : State, t.decideAny { p with pa := pa, share := s.regs.home pa } = (t, { p with pa := pa, share := s.regs.home pa }) := by
    rcases hop with h | h | h <;> simp [State.decideAny, h]
  have hserve := atHome_of_homed (p := { p with pa := pa, share := s.regs.home pa }) h (by tauto) hbound hunheld hre hrf hms
  obtain ⟨hleaf, hdrains, hdemos, hopen, -⟩ := h
  rw [resolve_eq_toHome (s := s) hbound hdrains hdemos hleaf, toHome_of_open hopen (hearly.imp_right .inl), hdecide]
  exact hserve

section
variable {s : State} {port : JPort} {r : Req} {len pa : Nat} {perm : Window → Bool} {w : Window}

/-- A request that comes alone and passes its checks is bound to its window (R79, R80). -/
theorem arrive_of_checked {kinds : List Nat} {u : Window} (op : ReqOp) (hledger : s.coh.ledger = [])
    (hcheck : (s.takeRx port 0 r.src).checkReq port r kinds perm r.offset len = .ok u) (go : State → Pend → Window → State) :
    s.arrive port r op len true kinds perm go =
      go (s.takeRx port 0 r.src) ((s.takeRx port 0 r.src).bindPend (reqPend r port op r.offset len none) u) u := by
  have hnodup : (s.takeRx port 0 r.src).dupTag port r.src r.tag = false := by simp [State.dupTag, hledger]
  simp [State.arrive, hnodup, hcheck]

/-- What takes a request to its home leaves the page as `Homed` finds it. -/
theorem homed_taken (h : Homed s w.district (w.base + r.offset) pa len) (p : Pend) :
    Homed (taken s port r p) w.district (w.base + r.offset) pa len := by
  obtain ⟨-, -, hregs, hmem, -, havail, hms, hmaps, hflash, hdir, hre, hrf⟩ := taken_frame s port r p
  exact homed_congr h hmaps hflash havail hms hmem (congrArg Regs.act hregs) hre hrf hdir

/-- A read that `Served` describes, from its arrival to what follows its service. -/
theorem memReq_read {op : ReqOp} (hop : op = .readShared ∨ op = .readOwn ∨ op = .readOnce) (hearly : r.earlyOk = false)
    (h : Served s port r r.offset len perm w pa) :
    s.memReq port r op len true perm = ((atItsHome s port r op len w pa).serve (translated s port r op len w pa)).settleBusy := by
  have hperm : perm w = true := by obtain ⟨-, -, -, -, -, -, hperm, -⟩ := h; exact hperm
  have hany : ∀ atop far, op ≠ .atomicAny atop far := by rcases hop with rfl | rfl | rfl <;> simp
  have hcross : ∀ code, op ≠ .crossing code := by rcases hop with rfl | rfl | rfl <;> simp
  have hhomed : Homed (taken s port r (checked s port r op len w)) w.district (w.base + r.offset) pa len := homed_taken (homed_of_served h) _
  have hregs : (taken s port r (checked s port r op len w)).regs = s.regs := (taken_frame s port r _).2.2.1
  rw [State.memReq, arrive_of_served (D := s.coh.dir) op h rfl hperm _ hany hcross, take_of_served (D := s.coh.dir) op h,
    resolve_read (p := checked s port r op len w) hhomed hop rfl (.inl (by simp [checked, hearly])), hregs]
  rfl

end

/-! ### The answer to a read -/

/-- A whole line is granted with its data, and no recall ends for it (R75). -/
theorem settled_line {s : State} {p : Pend} (hop : p.op.answer true = .data) (hbound : p.bound = none) (helem : p.elem = none)
    (hport : p.port ≠ 12) (hlen : p.len = 64) (haligned : p.pa % 64 = 0) (hclear : ∀ l ∈ p.lines, s.mem.poisoned l = false ∧
    s.mem.known l = BitVec.allOnes 64) (hmute : s.mute = false) (hends : NoneEnding s) :
    Answered (s.sendRead p).settleBusy p.port .data p.src p.tag 0 0 0 (some (lineBytes (s.mem.line (p.pa / 64)) 0 64)) ∧
      (s.sendRead p).settleBusy.coh.dir = s.coh.dir ∧ (s.sendRead p).settleBusy.mem = s.mem ∧
      (AllOf s.coh.ledger p → (s.sendRead p).settleBusy.coh.ledger = []) := by
  obtain ⟨hclear, hknown⟩ := hclear (p.pa / 64) (first_mem_lines p)
  obtain ⟨-, hdir⟩ := coh_reply (s := s) helem Jl.ok 0 (some (lineBytes (s.mem.line (p.pa / 64)) 0 64))
  rw [sendRead_of_line hbound hlen haligned hclear hknown, settleBusy_of_noneEnding (noneEnding_congr hends hdir)]
  have hsent := mem_reply hmute hport helem Jl.ok 0 (some (lineBytes (s.mem.line (p.pa / 64)) 0 64))
  exact ⟨hop ▸ hsent, hdir, by simp, fun h => ledger_reply helem h _ _ _⟩

/-- A directory entry that is not busy ends no recall. -/
theorem noneEnding_put {s t : State} {line : Nat} {e : DirEntry} (h : NoneEnding s) (hdir : t.coh.dir = s.coh.dir.put line e)
    (hbusy : e.busy = none) : NoneEnding t := fun x hx b hb => by
  rw [hdir] at hx
  rcases Table.mem_put hx with rfl | hx
  · simp [hbusy] at hb
  · exact h x hx b hb

/-- The home records a requester as the owner of a line, near an Atomic-Any or not (R110, R116). -/
def ownedEntry (s : State) (p : Pend) (atom : Bool) : DirEntry :=
  ⟨DirState.owned, false, atom, p.src, p.src, 0, p.district, p.da, s.coh.stamp, none⟩

/-- The state in which a requester has become the owner of a line (R110, R116). -/
def ownedBy (s : State) (p : Pend) (atom : Bool) : State :=
  let t := s.setDir (p.pa / 64) (ownedEntry s p atom)
  let u := if p.op = .atomicNear then t.tallyAv p.share 0x320 else t
  { u with coh := { u.coh with stamp := u.coh.stamp + 1 } }

theorem ownedBy_frame (s : State) (p : Pend) (atom : Bool) : (ownedBy s p atom).mem = s.mem ∧ (ownedBy s p atom).boot = s.boot ∧
    (ownedBy s p atom).coh.dir = s.coh.dir.put (p.pa / 64) (ownedEntry s p atom) := by
  unfold ownedBy
  split <;> simp [State.setDir]

/-- A line is readable where its bytes stand in clear. -/
theorem readable_of_unheld {s : State} {p : Pend} (hbound : p.bound = none) (h : Unheld s p) : s.readable p = true :=
  List.all_eq_true.2 fun l hl => by
    obtain ⟨-, -, hclear, hknown, -⟩ := h l hl
    simp [State.versionLine, hbound, State.readLine, hclear, hknown]

/-- A line that nobody holds is granted to an owner (R110, R116, R133). -/
theorem serve_owned {s : State} {p : Pend} (hop : p.op = .readOwn ∨ p.op = .atomicNear) (hbound : p.bound = none) (h : Unheld s p) :
    s.serve p = (ownedBy s p (p.op == .atomicNear)).sendRead p := by
  obtain ⟨hdir, -, -, -, hset⟩ := h (p.pa / 64) (first_mem_lines p)
  have hreadable := readable_of_unheld hbound h
  rcases hop with hop | hop <;> simp [State.serve, hop, hdir, hset, State.grantOwned, hreadable, ownedBy, ownedEntry]

/-- A line that nobody holds is granted to a sharer (R110, R133). -/
theorem serve_shared {s : State} {p : Pend} (hop : p.op = .readShared) (hbound : p.bound = none) (h : Unheld s p) :
    s.serve p = (sharedBy s p).sendRead p := by
  obtain ⟨hdir, -, -, -, hset⟩ := h (p.pa / 64) (first_mem_lines p)
  rw [serve_readShared hop hdir hset]
  simp only [State.grantShared, readable_of_unheld hbound h, hdir]
  rfl

/-- A read of lines that nobody holds records nothing (R110, R133). -/
theorem serve_once {s : State} {p : Pend} (hop : p.op = .readOnce) (h : Unheld s p) : s.serve p = s.sendRead p := by
  have hnone : (p.lines.find? fun l => ((s.coh.dir.get l).map fun e => e.st == .owned && !s.isFenced e.p0).getD false) = none :=
    List.find?_eq_none.2 fun l hl => by simp [(h l hl).1]
  have hunown : p.lines.foldl State.unown s = s := by
    have hstay : ∀ l ∈ p.lines, s.unown l = s := fun l hl => by simp [State.unown, (h l hl).1]
    rcases lines_cases p with ⟨hl, -⟩ | ⟨hl, -⟩ <;> rw [hl] at hstay ⊢ <;> simp [hstay]
  simp [State.serve, hop, hnone, hunown]

/-! ### Whole lines -/

theorem port_ne_twelve (port : JPort) : port.val ≠ 12 := Nat.ne_of_lt port.isLt

section
variable {s u : State} {p : Pend} (hends : NoneEnding s) (hdir : u.coh.dir = s.coh.dir) (hmem : u.mem = s.mem) (hmute : u.mute = false)
  (hbound : p.bound = none) (helem : p.elem = none) (hport : p.port ≠ 12) (hlen : p.len = 64) (haligned : p.pa % 64 = 0) (hunheld : Unheld u p)
include hends hdir hmem hmute hbound helem hport hlen haligned hunheld

/-- A line that nobody holds goes to a sharer, which is its only holder (R75, R110). -/
theorem shared_line (hop : p.op = .readShared) :
    Answered (u.serve p).settleBusy p.port .data p.src p.tag 0 0 0 (some (lineBytes (s.mem.line (p.pa / 64)) 0 64)) ∧
      (∃ e, (u.serve p).settleBusy.coh.dir.get (p.pa / 64) = some e ∧ e.st = .shared ∧ e.p0 = p.src ∧ e.p1 = p.src ∧ e.busy = none ∧
        e.coarse = false) ∧
      (u.serve p).settleBusy.mem = s.mem ∧ (AllOf u.coh.ledger p → (u.serve p).settleBusy.coh.ledger = []) := by
  obtain ⟨-, hsmem, hsboot, -⟩ := sharedBy_frame u p
  obtain ⟨hsent, hentry, hkept, hclosed⟩ := settled_line (s := sharedBy u p) (by rw [hop]; rfl) hbound helem hport hlen haligned
    (clear_of_unheld hunheld hsmem) ((mute_congr hsboot).trans hmute)
    (noneEnding_put hends (congrArg (Table.put · _ _) hdir) rfl)
  rw [serve_shared hop hbound hunheld]
  rw [hsmem.trans hmem] at hsent hkept
  have hget := (congrArg (Table.get · (p.pa / 64)) hentry).trans (Table.get_put_same ..)
  exact ⟨hsent, ⟨_, hget, rfl, rfl, rfl, rfl, rfl⟩, hkept, hclosed⟩

/-- A line that nobody holds goes to an owner (R75, R110, R116). -/
theorem owned_line (hop : p.op = .readOwn ∨ p.op = .atomicNear) :
    Answered (u.serve p).settleBusy p.port .data p.src p.tag 0 0 0 (some (lineBytes (s.mem.line (p.pa / 64)) 0 64)) ∧
      (∃ e, (u.serve p).settleBusy.coh.dir.get (p.pa / 64) = some e ∧ e.st = .owned ∧ e.p0 = p.src ∧ e.p1 = p.src ∧
        e.atom = (p.op == .atomicNear) ∧ e.busy = none) ∧
      (u.serve p).settleBusy.mem = s.mem := by
  obtain ⟨homem, hoboot, hodir⟩ := ownedBy_frame u p (p.op == .atomicNear)
  have hanswer : p.op.answer true = .data := by rcases hop with h | h <;> rw [h] <;> rfl
  obtain ⟨hsent, hentry, hkept, -⟩ := settled_line (s := ownedBy u p (p.op == .atomicNear)) hanswer hbound helem hport hlen haligned
    (clear_of_unheld hunheld homem) ((mute_congr hoboot).trans hmute)
    (noneEnding_put hends (hodir.trans (congrArg (Table.put · _ _) hdir)) rfl)
  rw [serve_owned hop hbound hunheld]
  rw [homem.trans hmem] at hsent hkept
  have hget := (congrArg (Table.get · (p.pa / 64)) (hentry.trans hodir)).trans (Table.get_put_same ..)
  exact ⟨hsent, ⟨_, hget, rfl, rfl, rfl, rfl, rfl⟩, hkept⟩

end

theorem length_and_aligned_of_reqReadWf {r : Req} (h : reqReadWf r = true) : r.length = 64 ∧ r.offset % 64 = 0 := by
  simp only [reqReadWf, Bool.and_eq_true, beq_iff_eq] at h
  exact ⟨h.1.2, h.2⟩

section
variable {s : State} {port : JPort} {r : Req} {len pa : Nat} {perm : Window → Bool} {w : Window}

theorem unheld_atItsHome (h : Served s port r r.offset len perm w pa) (op : ReqOp) :
    Unheld (atItsHome s port r op len w pa) (translated s port r op len w pa) := by
  refine unheld_of_homed (homed_of_served h) ?_ ?_ ?_ <;> simp [atItsHome, reached_frame, taken_frame]

theorem mute_of_served (h : Served s port r r.offset len perm w pa) : s.mute = false := by
  obtain ⟨-, -, -, -, -, -, -, -, -, -, -, -, -, hmute⟩ := h
  exact hmute

/-- A line at an aligned offset is aligned in memory (R79). -/
theorem aligned_of_served (h : Served s port r r.offset len perm w pa) (haligned : r.offset % 64 = 0) : pa % 64 = 0 := by
  have := pa_mod_of_served h
  omega

/-- What a near Atomic-Any becomes at its home share: a request for the whole line (R116). -/
def nearAtItsHome (s : State) (port : Nat) (r : Req) (atop : Nat) (w : Window) (pa : Nat) : Pend :=
  { translated s port r (.atomicAny atop false) r.size w pa with op := .atomicNear, pa := pa / 64 * 64, len := 64 }

theorem avFld_congr {s t : State} (hregs : t.regs = s.regs) (havail : t.avail = s.avail) (n off hi lo : Nat) :
    t.avFld n off hi lo = s.avFld n off hi lo := by
  simp only [State.avFld, State.avBase, State.servedBy, hregs, havail]

/-- An Atomic-Any of a share that decides for near (R116). -/
theorem decideAny_near {u : State} {p : Pend} {atop : Nat} (hop : p.op = .atomicAny atop false) (hmode : u.avFld p.share 0x304 1 0 = 1) :
    u.decideAny p = (u, { p with op := .atomicNear, pa := p.pa / 64 * 64, len := 64 }) := by
  simp [State.decideAny, hop, hmode]

/-- A window that permits reads and writes leaves an Atomic-Any undecided (R116). -/
theorem bindPend_atomicAny {atop : Nat} (h : Served s port r r.offset len perm w pa) (hr : w.r = true) (hw : w.w = true) :
    (s.takeRx port 0 r.src).bindPend (reqPend r port (.atomicAny atop false) r.offset len none) w =
      checked s port r (.atomicAny atop false) len w := by
  obtain ⟨-, -, -, -, -, -, -, -, hbind, -⟩ := h
  simp [State.bindPend, reqPend, checked, hbind, hr, hw]

/-- The line of a near Atomic-Any is the one that it arrived for. -/
theorem unheld_near {u : State} {p q : Pend} (h : Unheld u p) (hpa : q.pa = p.pa / 64 * 64) (hlen : q.len = 64) : Unheld u q := by
  have hline : q.lines = [p.pa / 64] := by
    rw [lines_of_one (by omega), hpa]
    simp
  intro l hl
  rw [hline, List.mem_singleton] at hl
  subst hl
  exact h _ (first_mem_lines p)

/-- A near Atomic-Any, from its arrival to what follows its service (R116). -/
theorem memReq_near {atop : Nat} (h : Served s port r r.offset r.size perm w pa) (hr : w.r = true) (hw : w.w = true)
    (hmode : s.avFld (s.regs.home pa) 0x304 1 0 = 1) :
    s.memReq port r (.atomicAny atop false) r.size true perm =
      ((atItsHome s port r (.atomicAny atop false) r.size w pa).serve (nearAtItsHome s port r atop w pa)).settleBusy := by
  have hledger : s.coh.ledger = [] := h.1
  have hperm : perm w = true := by obtain ⟨-, -, -, -, -, -, hperm, -⟩ := h; exact hperm
  let p := checked s port r (.atomicAny atop false) r.size w
  let t := taken s port r p
  have hhomed : Homed t w.district (w.base + r.offset) pa r.size := homed_taken (homed_of_served h) _
  obtain ⟨-, -, hregs, -, -, havail, -⟩ := taken_frame s port r p
  obtain ⟨-, -, hrregs, -, -, hravail, hrms, -, hre, hrf, -, -⟩ := reached_frame t p (s.regs.home pa)
  have hmode' : (reached t p (s.regs.home pa)).avFld (s.regs.home pa) 0x304 1 0 = 1 := by
    rw [avFld_congr (hrregs.trans hregs) (hravail.trans havail)]
    exact hmode
  have hunheld := unheld_near (q := nearAtItsHome s port r atop w pa) (unheld_atItsHome h (.atomicAny atop false)) rfl rfl
  have hserve := atHome_of_homed (p := nearAtItsHome s port r atop w pa) hhomed (by simp [nearAtItsHome]) rfl hunheld hre hrf hrms
  have hdecide := decideAny_near (p := translated s port r (.atomicAny atop false) r.size w pa) rfl hmode'
  obtain ⟨hleaf, hdrains, hdemos, hopen, -⟩ := hhomed
  have hresolve : t.resolve p = (atItsHome s port r (.atomicAny atop false) r.size w pa).serve (nearAtItsHome s port r atop w pa) := by
    rw [resolve_eq_toHome (s := t) (p := p) rfl hdrains hdemos hleaf, toHome_of_open hopen (by simp [p, checked]), hregs]
    exact (congrArg (fun x : State × Pend => x.1.atHome x.2) hdecide).trans hserve
  rw [State.memReq, arrive_of_checked _ hledger (checkReq_of_served (D := s.coh.dir) h rfl hperm), bindPend_atomicAny h hr hw,
    take_of_served (D := s.coh.dir) _ h]
  exact congrArg State.settleBusy hresolve

end

/-! ### Reads that record nothing -/

/-- A read of lines that nobody holds is answered with its bytes and records nothing (R75, R110). -/
theorem once_read {s : State} {p : Pend} (hop : p.op = .readOnce) (hbound : p.bound = none) (helem : p.elem = none) (hport : p.port ≠ 12)
    (hfit : (p.pa + p.len - 1) / 64 ≤ p.pa / 64 + 1) (hunheld : Unheld s p) (hends : NoneEnding s) (hmute : s.mute = false) :
    (∃ bs, Answered (s.serve p).settleBusy p.port .data p.src p.tag 0 0 0 (some bs) ∧
        ∀ i, i < p.len → bs.getD (p.pa % 16 + i) 0 = s.mem.byte (p.pa + i)) ∧
      (s.serve p).settleBusy.coh.dir = s.coh.dir ∧ (s.serve p).settleBusy.mem = s.mem := by
  obtain ⟨hcoh, hmem, hboot, -⟩ := drawnFor_frame s p
  have hdir := (coh_reply (s := drawnFor s p) helem Jl.ok 0 (some (cellsOf s p))).2.trans (congrArg Coh.dir hcoh)
  have hsent := mem_reply (s := drawnFor s p) ((mute_congr hboot).trans hmute) hport helem Jl.ok 0 (some (cellsOf s p))
  rw [hop] at hsent
  rw [serve_once hop hunheld, sendRead_of_clear hbound (clear_of_unheld hunheld rfl),
    settleBusy_of_noneEnding (noneEnding_congr hends hdir)]
  exact ⟨⟨_, hsent, fun i hi => getD_cellsOf s hfit hi⟩, hdir, by simp [hmem]⟩

/-- A ReadOnce of one or two lines of a block of 128 bytes has at most two lines in memory (R75). -/
theorem fits_of_reqOnceWf {s : State} {port : JPort} {r : Req} {pa : Nat} {perm : Window → Bool} {w : Window} (hwf : reqOnceWf r = true)
    (h : Served s port r r.offset r.length perm w pa) : (pa + r.length - 1) / 64 ≤ pa / 64 + 1 := by
  have hmod := pa_mod_of_served h
  simp only [reqOnceWf, Bool.and_eq_true, decide_eq_true_eq] at hwf
  omega

/-! ### Requests that are refused -/

section
variable {s : State} {port : JPort} {r : Req} {op : ReqOp} {len : Nat} {kinds : List Nat} {perm : Window → Bool}
  (hledger : s.coh.ledger = []) (go : State → Pend → Window → State)
include hledger

/-- A malformed request is answered (R80). -/
theorem arrive_of_malformed : s.arrive port r op len false kinds perm go =
    (s.takeRx port 0 r.src).reply (reqPend r port op r.offset len none) Jl.accessFault Af.malformed none := by
  have hnodup : (s.takeRx port 0 r.src).dupTag port r.src r.tag = false := by simp [State.dupTag, hledger]
  simp [State.arrive, hnodup]

/-- A request that fails a check is answered with it (R80). -/
theorem arrive_of_error {why : Nat} (hcheck : (s.takeRx port 0 r.src).checkReq port r kinds perm r.offset len = .error why) :
    s.arrive port r op len true kinds perm go =
      (s.takeRx port 0 r.src).reply (reqPend r port op r.offset len none) Jl.accessFault why none := by
  have hnodup : (s.takeRx port 0 r.src).dupTag port r.src r.tag = false := by simp [State.dupTag, hledger]
  simp [State.arrive, hnodup, hcheck]

end

/-- A refused request changes nothing but its answer (R80, R81). -/
theorem refused_kept {s : State} {port : JPort} {r : Req} {op : ReqOp} {len : Nat} (hends : NoneEnding s) (hmute : s.mute = false) (why : Nat) :
    Answered ((s.takeRx port 0 r.src).reply (reqPend r port op r.offset len none) Jl.accessFault why none).settleBusy port (op.answer false)
        r.src r.tag 4 0 why none ∧
      ((s.takeRx port 0 r.src).reply (reqPend r port op r.offset len none) Jl.accessFault why none).settleBusy.mem = s.mem ∧
      ((s.takeRx port 0 r.src).reply (reqPend r port op r.offset len none) Jl.accessFault why none).settleBusy.maps = s.maps := by
  have hquiet : NoneEnding ((s.takeRx port 0 r.src).reply (reqPend r port op r.offset len none) Jl.accessFault why none) :=
    noneEnding_congr hends ((coh_reply rfl _ _ _).2.trans (by simp))
  rw [settleBusy_of_noneEnding hquiet]
  exact ⟨mem_reply (p := reqPend r port op r.offset len none) ((mute_congr (by simp)).trans hmute) (port_ne_twelve port) rfl _ _ _,
    by simp, by simp⟩

/-- A request whose window does not exist (R80). -/
theorem checkReq_of_noWindow {s : State} {port : Nat} {r : Req} (h : s.maps.windows.get r.window = none) (kinds : List Nat)
    (perm : Window → Bool) (off len : Nat) : s.checkReq port r kinds perm off len = .error Af.windowInvalid := by
  simp [State.checkReq, h]

/-- A request that its window does not permit (R80). -/
theorem checkReq_of_notPermitted {s : State} {port : Nat} {r : Req} {w : Window} {d : District} {kinds : List Nat} {perm : Window → Bool}
    (hwin : s.maps.windows.get r.window = some w) (hd : s.district w.district = some d) (hst : d.st = .inService)
    (hfenced : s.isFenced r.src = false) (hadmits : w.admits r.src = true) (hkind : kinds.contains w.kind = true) (hlevel : d.level ≠ 3)
    (hperm : perm w = false) (hms : w.msBind = false) (off len : Nat) :
    s.checkReq port r kinds perm off len = .error Af.permission := by
  simp [State.checkReq, hwin, hd, hst, hfenced, hadmits, List.contains_iff_mem.1 hkind, hlevel, hperm, hms]

/-! ### A gather of one element -/

/-- The state in which a gather's completion has been sent (R89). -/
def gathered (s : State) (p : Pend) : State :=
  { s with coh := { s.coh with gathers := [Gather.mk p.port p.src p.tag 0 0 0 none] } }.sendDat p.port p.flow (some p.district)
    ⟨.comp, p.src, p.tag, Jl.ok, 0, 0, none⟩

/-- The gather is complete with its last element (R89). -/
theorem gatherDone_last {s : State} {p : Pend} (hgathers : s.coh.gathers = [Gather.mk p.port p.src p.tag 1 0 0 none]) (k : Nat) :
    s.gatherDone p k Jl.ok = { gathered s p with coh := { (gathered s p).coh with gathers := [], ledger := s.coh.ledger.filter fun x =>
        !(x.port == p.port && x.src == p.src && x.tag == p.tag && x.elem == none) } } := by
  simp [State.gatherDone, hgathers, Jl.ok, Jl.xlateFault, Jl.accessFault, Jl.poison, Jl.retryLater, gathered]

/-- A gather's completion leaves the directory, and its answer comes after what has been sent (R89). -/
theorem gatherDone_answers {s : State} {p : Pend} (hgathers : s.coh.gathers = [Gather.mk p.port p.src p.tag 1 0 0 none])
    (hmute : s.mute = false) (k : Nat) : s.out ⊆ (s.gatherDone p k Jl.ok).out ∧
      Out.dat p.port ⟨.comp, p.src, p.tag, Jl.ok, 0, 0, none⟩ ∈ (s.gatherDone p k Jl.ok).out ∧
      (s.gatherDone p k Jl.ok).coh.dir = s.coh.dir := by
  rw [gatherDone_last hgathers]
  refine ⟨?_, ?_, ?_⟩
  · exact out_sub_sendDat { s with coh := { s.coh with gathers := [Gather.mk p.port p.src p.tag 0 0 0 none] } } ..
  · exact mem_sendDat (s := { s with coh := { s.coh with gathers := [Gather.mk p.port p.src p.tag 0 0 0 none] } })
      ((mute_congr rfl).trans hmute) ..
  · simp [gathered]

/-- A gather's completion takes its own entry from the ledger (R83, R89). -/
theorem ledger_gatherDone {s : State} {p : Pend} (hgathers : s.coh.gathers = [Gather.mk p.port p.src p.tag 1 0 0 none])
    (hledger : ∀ x ∈ s.coh.ledger, x.port = p.port ∧ x.src = p.src ∧ x.tag = p.tag ∧ x.elem = none) (k : Nat) :
    (s.gatherDone p k Jl.ok).coh.ledger = [] := by
  rw [gatherDone_last hgathers]
  exact List.filter_eq_nil_iff.2 fun x hx => by simp [hledger x hx]

/-- The only element of a gather is answered with its data, the gather with its completion, and its entries leave the ledger (R83, R89). -/
theorem reply_last {s : State} {p : Pend} {bs : List Byte} (hport : p.port ≠ 12) (helem : p.elem = some 0) (hmute : s.mute = false)
    (hgathers : s.coh.gathers = [Gather.mk p.port p.src p.tag 1 0 0 none])
    (hledger : ∀ x ∈ s.coh.ledger, x.port = p.port ∧ x.src = p.src ∧ x.tag = p.tag ∧ (x.elem = none ∨ x.elem = some 0)) :
    Answered (s.reply p Jl.ok 0 (some bs)) p.port .data p.src p.tag 0 0 0 (some bs) ∧
      Answered (s.reply p Jl.ok 0 (some bs)) p.port .comp p.src p.tag 0 0 0 none ∧
      (s.reply p Jl.ok 0 (some bs)).coh.dir = s.coh.dir ∧ (s.reply p Jl.ok 0 (some bs)).coh.ledger = [] := by
  let u := (s.sendDat p.port p.flow (some p.district) ⟨.data, p.src, p.tag, Jl.ok, 0, 0, some bs⟩).closeReq p
  have hreply : s.reply p Jl.ok 0 (some bs) = u.gatherDone p 0 Jl.ok := by
    simp [State.reply, hport, helem, u, Jl.ok, Jl.xlateFault, Jl.accessFault, Jl.poison]
  have hstill : u.coh.gathers = [Gather.mk p.port p.src p.tag 1 0 0 none] := by simpa [u, State.closeReq] using hgathers
  have humute : u.mute = false := (mute_congr (by simp [u])).trans hmute
  have hdata : Out.dat p.port ⟨.data, p.src, p.tag, Jl.ok, 0, 0, some bs⟩ ∈ u.out := mem_sendDat hmute ..
  have hdir : u.coh.dir = s.coh.dir := by simp [u, State.closeReq]
  have hentries : ∀ x ∈ u.coh.ledger, x.port = p.port ∧ x.src = p.src ∧ x.tag = p.tag ∧ x.elem = none := fun x hx => by
    simp only [State.sendDat_frame, u, State.closeReq, List.mem_filter] at hx
    obtain ⟨hx, hopen⟩ := hx
    obtain ⟨h1, h2, h3, h4 | h4⟩ := hledger x hx
    · exact ⟨h1, h2, h3, h4⟩
    · simp [h1, h2, h3, h4, helem] at hopen
  obtain ⟨hsub, hcomp, hkept⟩ := gatherDone_answers hstill humute 0
  rw [hreply]
  exact ⟨hsub hdata, hcomp, hkept.trans hdir, ledger_gatherDone hstill hentries 0⟩

/-- A gather's only element, whose lines nobody holds, is answered with its bytes, and the gather with it (R75, R89). -/
theorem last_read {s : State} {p : Pend} (hbound : p.bound = none) (hport : p.port ≠ 12) (helem : p.elem = some 0) (hmute : s.mute = false)
    (hgathers : s.coh.gathers = [Gather.mk p.port p.src p.tag 1 0 0 none])
    (hledger : ∀ x ∈ s.coh.ledger, x.port = p.port ∧ x.src = p.src ∧ x.tag = p.tag ∧ (x.elem = none ∨ x.elem = some 0))
    (hfit : (p.pa + p.len - 1) / 64 ≤ p.pa / 64 + 1) (hunheld : Unheld s p) :
    (∃ bs, Answered (s.sendRead p) p.port .data p.src p.tag 0 0 0 (some bs) ∧
        ∀ i, i < p.len → bs.getD (p.pa % 16 + i) 0 = s.mem.byte (p.pa + i)) ∧
      Answered (s.sendRead p) p.port .comp p.src p.tag 0 0 0 none ∧ (s.sendRead p).coh.dir = s.coh.dir ∧
      (s.sendRead p).coh.ledger = [] := by
  obtain ⟨hcoh, -, hboot, -⟩ := drawnFor_frame s p
  obtain ⟨hdata, hcomp, hdir, hclosed⟩ := reply_last (s := drawnFor s p) (bs := cellsOf s p) hport helem ((mute_congr hboot).trans hmute)
    (hcoh ▸ hgathers) (hcoh ▸ hledger)
  rw [sendRead_of_clear hbound (clear_of_unheld hunheld rfl)]
  exact ⟨⟨_, hdata, fun i hi => getD_cellsOf s hfit hi⟩, hcomp, hdir.trans (congrArg Coh.dir hcoh), hclosed⟩

/-- The state in which a gather of one element has its entry in the ledger (R83, R89). -/
def gathering (s : State) (port : Nat) (r : Req) : State :=
  let t := s.takeRx port 0 r.src
  { t with coh := { t.coh with ledger := t.coh.ledger ++ [Ledger.mk port r.src r.tag none 8 false .comp r.flow t.clock],
                               gathers := t.coh.gathers ++ [Gather.mk port r.src r.tag (r.gcount + 1) 0 0 none] } }

/-- The request of a gather's element at an offset, which is that of the gather otherwise (R89). -/
def elementReq (r : Req) (off : Nat) : Req := { r with offset := off }

/-- A gather's only element as it stands after its checks (R79, R84, R89). -/
def element (s : State) (port : Nat) (r : Req) (off len : Nat) (w : Window) : Pend :=
  { checked s port (elementReq r off) .readOnce len w with elem := some 0 }

/-- Step 8 of R80 gives a tracker to a request where there is room (R82). -/
theorem take_of_room {s : State} {p : Pend} {d : District} (hop : p.op ≠ .writeBack) (hopen : (s.share p.steer).st = .opened)
    (hledger : s.coh.ledger.length < 8192) (hd : s.district p.district = some d) (hlimit : s.coh.trackers.length + 1 < d.trkLimit)
    (hfree : s.coh.trackers.length + s.avFld p.steer 0x200 10 0 + 1 < 8192) (go : State → Pend → State) :
    s.take p go = go ((s.enter p).grantTracker p) p := by
  have hused : ∀ f : Tracker → Bool, (s.coh.trackers.filter f).length ≤ s.coh.trackers.length := fun f => List.length_filter_le _ _
  have hentries := List.length_filter_le (fun t : Ledger => t.port == p.port) s.coh.ledger
  have h1 := hused fun t => t.share == p.steer && decide (t.port < 12)
  have h2 := hused fun t => t.share == p.steer && t.district == p.district && decide (t.port < 12)
  have hnotfull : ¬8192 ≤ (s.coh.ledger.filter fun t => t.port == p.port).length := by omega
  have hspare : ¬8192 - (s.coh.trackers.filter fun t => t.share == p.steer && decide (t.port < 12)).length ≤ s.avFld p.steer 0x200 10 0 := by
    omega
  have hnolimit : ¬d.trkLimit ≤
      (s.coh.trackers.filter fun t => t.share == p.steer && t.district == p.district && decide (t.port < 12)).length := by omega
  have hgranted : s.trackerRefusal p = none := by
    simp only [State.trackerRefusal, hopen, if_neg hnotfull, State.trackersOf, hd, Option.map_some, Option.getD_some, hspare, hnolimit]
    simp
  simp [State.take, hgranted, hop]

/-- The state in which the element of a gather is translated (R82, R83). -/
def elementTaken (s : State) (port : Nat) (r : Req) (off len : Nat) (w : Window) : State :=
  ((gathering s port r).enter (element s port r off len w)).grantTracker (element s port r off len w)

/-- The state in which the element of a gather reaches its home share. -/
def elementHome (s : State) (port : Nat) (r : Req) (off len : Nat) (w : Window) (pa : Nat) : State :=
  reached (elementTaken s port r off len w) (element s port r off len w) (s.regs.home pa)

/-- The element of a gather with its translation and its home share (R86). -/
def elementThere (s : State) (port : Nat) (r : Req) (off len : Nat) (w : Window) (pa : Nat) : Pend :=
  { element s port r off len w with pa := pa, share := s.regs.home pa }

theorem elementTaken_frame (s : State) (port : Nat) (r : Req) (off len : Nat) (w : Window) :
    (elementTaken s port r off len w).regs = s.regs ∧ (elementTaken s port r off len w).mem = s.mem ∧
    (elementTaken s port r off len w).boot = s.boot ∧ (elementTaken s port r off len w).avail = s.avail ∧
    (elementTaken s port r off len w).ms = s.ms ∧ (elementTaken s port r off len w).maps = s.maps ∧
    (elementTaken s port r off len w).flash = s.flash ∧ (elementTaken s port r off len w).coh.dir = s.coh.dir ∧
    (elementTaken s port r off len w).coh.early = s.coh.early ∧ (elementTaken s port r off len w).coh.fetch = s.coh.fetch ∧
    (elementTaken s port r off len w).coh.gathers = s.coh.gathers ++ [Gather.mk port r.src r.tag (r.gcount + 1) 0 0 none] := by
  simp [elementTaken, State.enter, State.grantTracker, gathering]

theorem gathers_reached (s : State) (p : Pend) (n : Nat) : (reached s p n).coh.gathers = s.coh.gathers := by
  unfold reached
  split <;> simp

section
variable {s : State} {port : JPort} {r : Req} {off len pa : Nat} {w : Window} (h : Served s port r off len (·.r) w pa)
include h

theorem homed_elementTaken : Homed (elementTaken s port r off len w) w.district (w.base + off) pa len := by
  obtain ⟨hregs, hmem, -, havail, hms, hmaps, hflash, hdir, hre, hrf, -⟩ := elementTaken_frame s port r off len w
  exact homed_congr (homed_of_served (r := elementReq r off) h) hmaps hflash havail hms hmem (congrArg Regs.act hregs) hre hrf hdir

/-- The element of a gather passes the checks that its request alone would pass (R80, R89). -/
theorem checkReq_element : (gathering s port r).checkReq port r [0] (·.r) off len = .ok w := by
  have hperm : w.r = true := by obtain ⟨-, -, -, -, -, -, hperm, -⟩ := h; exact hperm
  exact checkReq_of_served (r := elementReq r off) (D := s.coh.dir) (perm' := (·.r)) (kinds := [0]) h rfl hperm

theorem bindPend_element :
    (gathering s port r).bindPend (reqPend r port .readOnce off len (some 0)) w = element s port r off len w := by
  obtain ⟨-, -, -, -, -, -, -, -, hbind, -⟩ := h
  simp [State.bindPend, reqPend, element, checked, elementReq, gathering, hbind]

theorem take_element : (gathering s port r).take (element s port r off len w) State.resolve =
    (elementTaken s port r off len w).resolve (element s port r off len w) := by
  obtain ⟨hledger, -, ⟨d, hd, -, -, hlimit⟩, -, -, -, -, -, -, -, hopen, hfree, -⟩ := h
  have hav : (gathering s port r).avFld (s.regs.steer off) 0x200 10 0 = s.avFld (s.regs.steer off) 0x200 10 0 :=
    avFld_congr (by simp [gathering]) (by simp [gathering]) ..
  have htrackers : (gathering s port r).coh.trackers = s.coh.trackers := by simp [gathering]
  refine take_of_room (d := d) (by simp [element, checked]) ?_ (by simp [gathering, hledger]) ?_ (htrackers ▸ hlimit) ?_ _
  · simpa [State.share, gathering, element, checked, elementReq] using hopen
  · simpa [State.district, gathering, element, checked] using hd
  · exact htrackers ▸ hav ▸ hfree

theorem unheld_elementHome : Unheld (elementHome s port r off len w pa) (elementThere s port r off len w pa) := by
  refine unheld_of_homed (p := elementThere s port r off len w pa) (homed_of_served (r := elementReq r off) h) ?_ ?_ ?_ <;>
    simp [elementHome, reached_frame, elementTaken_frame]

/-- A gather of one element, from its arrival to its answers (R89). -/
theorem execReadGather_of_served (hwf : reqGatherWf r = true) (helems : r.elems = [(off, len)]) :
    exec (.readGather port r) s = .next ((elementHome s port r off len w pa).sendRead (elementThere s port r off len w pa)) := by
  have hledger : s.coh.ledger = [] := h.1
  have hwin : s.maps.windows.get r.window = some w := h.2.1
  have hregs : (elementTaken s port r off len w).regs = s.regs := (elementTaken_frame s port r off len w).1
  have hresolve := resolve_read (s := elementTaken s port r off len w) (p := element s port r off len w) (homed_elementTaken h)
    (.inr (.inr rfl)) rfl (.inr (by simp [element]))
  have hserve := serve_once (p := elementThere s port r off len w pa) rfl (unheld_elementHome h)
  have helement : (gathering s port r).gatherElems port r 0 [(off, len)] =
      (elementTaken s port r off len w).resolve (element s port r off len w) := by
    simp only [State.gatherElems, checkReq_element h, bindPend_element h]
    exact take_element h
  rw [hregs] at hresolve
  have hnodup : (s.takeRx port 0 r.src).dupTag port r.src r.tag = false := by simp [State.dupTag, hledger]
  have hgather : exec (.readGather port r) s = .next ((gathering s port r).gatherElems port r 0 [(off, len)]) := by
    show execReadGather port r s = _
    simp [execReadGather, hnodup, hwf, hwin, hledger, helems, gathering]
  rw [hgather, helement, hresolve]
  exact congrArg _ hserve

end

/-- An element of a gather lies within a line (R89). -/
theorem fits_of_reqGatherWf {s : State} {port : JPort} {r : Req} {off len pa : Nat} {w : Window} (hwf : reqGatherWf r = true)
    (helems : r.elems = [(off, len)]) (h : Served s port r off len (·.r) w pa) : (pa + len - 1) / 64 ≤ pa / 64 + 1 := by
  have hmod : pa % 4096 = off % 4096 := pa_mod_of_served (r := elementReq r off) h
  simp only [reqGatherWf, helems, List.all_cons, List.all_nil, elemWf, Bool.and_eq_true, decide_eq_true_eq] at hwf
  omega

/-- All entries of the ledger are those of the gather and its element when the element reaches its home share. -/
theorem ledger_elementHome {s : State} (hledger : s.coh.ledger = []) (port : Nat) (r : Req) (off len : Nat) (w : Window) (pa : Nat) :
    ∀ x ∈ (elementHome s port r off len w pa).coh.ledger, x.port = port ∧ x.src = r.src ∧ x.tag = r.tag ∧
      (x.elem = none ∨ x.elem = some 0) := by
  intro x hx
  obtain ⟨y, hy, hport, hsrc, htag, helem⟩ := mem_ledger_reached hx
  rw [hport, hsrc, htag, helem]
  simp only [elementTaken, State.grantTracker, State.enter, gathering, State.takeRx_frame, hledger, List.nil_append, List.mem_append,
    List.mem_singleton] at hy
  rcases hy with rfl | rfl
  · exact ⟨rfl, rfl, rfl, .inl rfl⟩
  · exact ⟨rfl, rfl, rfl, .inr rfl⟩

/-- Settles O24: a request that passes its checks is followed to its home share, where nobody holds its lines; one that fails is answered on
arrival. -/
theorem readsAtHome : Obligations.ReadsAtHome := by
  refine ⟨?shared, ?owned, ?once, ?gather, ?near, ?malformed, ?noWindow, ?notPermitted⟩
  case shared =>
    intro s port r w pa hwf hearly h
    obtain ⟨hlen, haligned⟩ := length_and_aligned_of_reqReadWf hwf
    have hstep : exec (.readShared port r) s = .next (s.memReq port r .readShared 64 true (·.r)) := by
      show execReadShared port r s = _
      rw [execReadShared, hwf, hlen]
    rw [memReq_read (.inl rfl) hearly h] at hstep
    obtain ⟨-, hmem, hboot, hdir⟩ := atItsHome_frame s port r .readShared 64 w pa
    obtain ⟨hsent, hentry, hkept, hclosed⟩ := shared_line (noneEnding_of_served h) hdir hmem ((mute_congr hboot).trans (mute_of_served h))
      rfl rfl (port_ne_twelve port) rfl (aligned_of_served h haligned) (unheld_atItsHome h .readShared) rfl
    exact ⟨_, hstep, hsent, hentry, hkept, hclosed (allOf_atItsHome h.1 _ _ _ _ _ _)⟩
  case owned =>
    intro s port r w pa hwf hearly h
    obtain ⟨hlen, haligned⟩ := length_and_aligned_of_reqReadWf hwf
    have hstep : exec (.readOwn port r) s = .next (s.memReq port r .readOwn 64 true fun w => w.r && w.w) := by
      show execReadOwn port r s = _
      rw [execReadOwn, hwf, hlen]
    rw [memReq_read (.inr (.inl rfl)) hearly h] at hstep
    obtain ⟨-, hmem, hboot, hdir⟩ := atItsHome_frame s port r .readOwn 64 w pa
    exact ⟨_, hstep, owned_line (noneEnding_of_served h) hdir hmem ((mute_congr hboot).trans (mute_of_served h))
      rfl rfl (port_ne_twelve port) rfl (aligned_of_served h haligned) (unheld_atItsHome h .readOwn) (.inl rfl)⟩
  case once =>
    intro s port r w pa hwf hearly h
    have hstep : exec (.readOnce port r) s = .next (s.memReq port r .readOnce r.length true (·.r)) := by
      show execReadOnce port r s = _
      rw [execReadOnce, hwf]
    rw [memReq_read (.inr (.inr rfl)) hearly h] at hstep
    obtain ⟨-, hmem, hboot, hdir⟩ := atItsHome_frame s port r .readOnce r.length w pa
    obtain ⟨hsent, hdir', hmem'⟩ := once_read rfl rfl rfl (port_ne_twelve port) (fits_of_reqOnceWf hwf h) (unheld_atItsHome h .readOnce)
      (noneEnding_congr (noneEnding_of_served h) hdir) ((mute_congr hboot).trans (mute_of_served h))
    rw [hmem] at hsent
    exact ⟨_, hstep, hsent, hdir'.trans hdir, hmem'.trans hmem⟩
  case gather =>
    intro s port r w pa off len hwf hcount helems hgathers h
    obtain ⟨-, hmem, hboot, -, -, -, -, hdir, -, -, htaken⟩ := elementTaken_frame s port r off len w
    obtain ⟨-, -, -, hrmem, hrboot, -, -, hrdir, -⟩ :=
      reached_frame (elementTaken s port r off len w) (element s port r off len w) (s.regs.home pa)
    have hstill : (elementHome s port r off len w pa).coh.gathers = [Gather.mk port r.src r.tag 1 0 0 none] := by
      rw [elementHome, gathers_reached, htaken, hgathers, hcount, List.nil_append]
    have hmem' : (elementHome s port r off len w pa).mem = s.mem := hrmem.trans hmem
    have hmute : (elementHome s port r off len w pa).mute = false :=
      (mute_congr (hrboot.trans hboot)).trans (mute_of_served (r := elementReq r off) h)
    obtain ⟨hdata, hcomp, hkept, hledger⟩ := last_read (p := elementThere s port r off len w pa) rfl (port_ne_twelve port) rfl hmute hstill
      (ledger_elementHome h.1 port r off len w pa) (fits_of_reqGatherWf hwf helems h) (unheld_elementHome h)
    rw [hmem'] at hdata
    exact ⟨_, execReadGather_of_served h hwf helems, hdata, hcomp, hkept.trans (hrdir.trans hdir), hledger, by simp [hmem']⟩
  case near =>
    intro s port r w pa atop hatop hwf h hr hw hmode
    have haligned : pa / 64 * 64 / 64 = pa / 64 := Nat.mul_div_cancel _ (by decide)
    have hstep : exec (.atomicAnyNear port atop r) s = .next (s.memReq port r (.atomicAny atop false) r.size true (·.a)) := by
      show execAtomicAnyNear port atop r s = _
      rw [execAtomicAnyNear, if_neg (by omega), hwf]
    rw [memReq_near h hr hw hmode] at hstep
    obtain ⟨-, hmem, hboot, hdir⟩ := atItsHome_frame s port r (.atomicAny atop false) r.size w pa
    have hunheld := unheld_near (q := nearAtItsHome s port r atop w pa) (unheld_atItsHome h (.atomicAny atop false)) rfl rfl
    have hdone := owned_line (noneEnding_of_served (r := r) h) hdir hmem ((mute_congr hboot).trans (mute_of_served (r := r) h))
      rfl rfl (port_ne_twelve port) rfl (Nat.mul_mod_left _ _) hunheld (.inr rfl)
    rw [show (nearAtItsHome s port r atop w pa).pa / 64 = pa / 64 from haligned] at hdone
    obtain ⟨hsent, ⟨e, hget, hst, hp0, -, hatom, hbusy⟩, hkept⟩ := hdone
    exact ⟨_, hstep, hsent, ⟨e, hget, hst, hp0, hatom, hbusy⟩, hkept⟩
  case malformed =>
    intro s port r hledger hends hwf hmute
    have hstep : exec (.readShared port r) s = .next (s.memReq port r .readShared r.length false (·.r)) := by
      show execReadShared port r s = _
      rw [execReadShared, hwf]
    rw [State.memReq, arrive_of_malformed hledger] at hstep
    exact ⟨_, hstep, refused_kept hends hmute _⟩
  case noWindow =>
    intro s port r hledger hends hwf hwin hmute
    have hstep : exec (.readOwn port r) s = .next (s.memReq port r .readOwn r.length true fun w => w.r && w.w) := by
      show execReadOwn port r s = _
      rw [execReadOwn, hwf]
    rw [State.memReq, arrive_of_error hledger _ (checkReq_of_noWindow (by simpa using hwin) ..)] at hstep
    exact ⟨_, hstep, refused_kept hends hmute _⟩
  case notPermitted =>
    intro s port r w d hledger hends hwf hwin hd hst hfenced hadmits hkind hlevel hperm hms hmute
    have hcheck := checkReq_of_notPermitted (s := s.takeRx port 0 r.src) (port := port) (kinds := [0, 2])
      (perm := fun w => if w.kind = 2 then w.s else w.w) (by simpa using hwin) (by simpa [State.district] using hd) hst
      (by simpa [State.isFenced] using hfenced) hadmits (by simp [hkind]) hlevel (by simp [hkind, hperm]) hms r.offset 64
    refine ⟨_, ?_, refused_kept (op := .writeLine) (len := 64) hends hmute Af.permission⟩
    show execWriteLine port r s = _
    rw [execWriteLine, hwf, arrive_of_error hledger _ hcheck]

end Sys2Proof.Proofs
end

section
/-! Answers to recalls, and nodes that do not answer (R107, R113, R128, R134). -/

namespace Sys2Proof.Proofs

open Sys2Proof Sys2Proof.Machine Sys2Proof.Claims

/-! ### Counting an answer -/

/-- A BUSY entry for which an answer or a WriteBack is still awaited does not complete (R134). -/
theorem completeBusy_of_awaiting {s : State} {line : Nat} {e : DirEntry} {b : Busy} (hget : s.coh.dir.get line = some e)
    (hbusy : e.busy = some b) (h : b.awaited ≠ [] ∨ b.wbw ≠ []) : s.completeBusy line = s := by
  have hopen : (!b.awaited.isEmpty || !b.wbw.isEmpty) = true := by simpa using h
  simp only [State.completeBusy, hget, hbusy, hopen, if_true]

theorem atHomeAll_nil (s : State) : s.atHomeAll [] = s := rfl

/-- A purge that awaits nothing, and on which nothing waits, takes its entry from the directory (R132, R134). -/
theorem completeBusy_of_purged {s : State} {line : Nat} {e : DirEntry} {b : Busy} (hget : s.coh.dir.get line = some e)
    (hbusy : e.busy = some b) (hawaited : b.awaited = []) (hwbw : b.wbw = []) (hkind : b.kind = .bp) (hreq : b.req = none)
    (hwaits : s.coh.waits = []) (hevict : s.coh.evictWait = []) : s.completeBusy line = s.delDir line := by
  have hnoWaits : (s.delDir line).coh.waits = [] := hwaits
  have hnoEvict : (s.delDir line).coh.evictWait = [] := hevict
  have hdone : (!b.awaited.isEmpty || !b.wbw.isEmpty) = false := by simp [hawaited, hwbw]
  simp only [State.completeBusy, hget, hbusy, hdone, hkind, hreq, takeWaits_of_idle hnoWaits, atHomeAll_nil, hnoEvict, List.filter_nil,
    List.map_nil, Bool.false_eq_true, if_false]
  rw [← hnoEvict]

/-- A BUSY entry that awaits a node's answer no longer (R134). -/
def answeredBy (e : DirEntry) (b : Busy) (node : Nat) : DirEntry :=
  { e with busy := some { b with awaited := b.awaited.filter (· != node) } }

section
variable {s : State} {line node : Nat} {e : DirEntry} {b : Busy} (hget : s.coh.dir.get line = some e) (hbusy : e.busy = some b)
include hget hbusy

/-- An answer of an awaited node that announces no WriteBack is counted, and its entry completes where it was the last (R134). -/
theorem countAnswer_of_awaited (hnode : node ∈ b.awaited) :
    s.countAnswer line node false = (s.setDir line (answeredBy e b node)).completeBusy line := by
  simp [State.countAnswer, hget, hbusy, hnode, answeredBy]

/-- While another node's answer is awaited, counting one only records it (R134). -/
theorem countAnswer_of_others (hnode : node ∈ b.awaited) (hother : ∃ n ∈ b.awaited, n ≠ node) :
    s.countAnswer line node false = s.setDir line (answeredBy e b node) := by
  obtain ⟨n, hn, hne⟩ := hother
  have hleft : n ∈ b.awaited.filter (· != node) := by simpa using ⟨hn, hne⟩
  rw [countAnswer_of_awaited hget hbusy hnode]
  exact completeBusy_of_awaiting (Table.get_put_same ..) rfl (.inl (List.ne_nil_of_mem hleft))

/-- The only awaited answer ends a purge on which nothing waits (R134). -/
theorem countAnswer_of_last (hawaited : b.awaited = [node]) (hwbw : b.wbw = []) (hkind : b.kind = .bp) (hreq : b.req = none)
    (hwaits : s.coh.waits = []) (hevict : s.coh.evictWait = []) :
    s.countAnswer line node false = (s.setDir line (answeredBy e b node)).delDir line := by
  rw [countAnswer_of_awaited hget hbusy (by simp [hawaited])]
  exact completeBusy_of_purged (Table.get_put_same ..) rfl (by simp [hawaited]) hwbw hkind hreq hwaits hevict

end

/-! ### A line that comes back -/

/-- A returned line of a page of which no Milestone needs a copy is written whole at its home (R107, R163). -/
theorem applyRecall_of_uncopied {s : State} {district da : Nat} (hneed : s.needCopy district (da / 4096) = []) (hcopying : s.ms.copying = [])
    (line : Nat) (data : LineData) : s.applyRecall district da line data =
      ((s.touchPage district (da / 4096) true).homeWrite line data (BitVec.allOnes 64) true).1 := by
  simp [State.applyRecall, hneed, hcopying]

/-- The data of a node recalled as owner becomes the line, and no other line changes (R107). -/
theorem line_applyRecall {s : State} {district da : Nat} (hneed : s.needCopy district (da / 4096) = []) (hcopying : s.ms.copying = [])
    (line : Nat) (data : LineData) (l : Nat) :
    (s.applyRecall district da line data).mem.line l = if l = line then data else s.mem.line l := by
  rw [applyRecall_of_uncopied hneed hcopying, line_homeWrite]
  simp [writtenLine]

/-! ### Answers that arrive -/

@[simp] theorem isFenced_rspIn (s : State) (port : Nat) (m : Rsp) (n : Nat) : (s.rspIn port m).isFenced n = s.isFenced n :=
  isFenced_congr (by simp) n

@[simp] theorem inGap_rspIn (s : State) (port : Nat) (m : Rsp) (n : Nat) : (s.rspIn port m).inGap n = s.inGap n := by
  rw [State.inGap, share_congr (s := s) (by simp), State.inGap]

@[simp] theorem busyOf_rspIn (s : State) (port : Nat) (m : Rsp) (tag : Nat) : (s.rspIn port m).busyOf tag = s.busyOf tag := by
  simp [State.busyOf]

section
variable {s : State} {m : Rsp} {line : Nat} {e : DirEntry} {b : Busy} (port : JPort) (hfenced : s.isFenced m.src = false)
include hfenced

/-- A RecallAck under a RecallAll ends the waiting for its node (R128). -/
theorem execRecallAck_of_allWait (h : ∃ a ∈ s.coh.allWaits, a.share = m.tag / 8192 ∧ a.tag = m.tag ∧ a.node = m.src) :
    exec (.recallAck port m) s = .next { s.rspIn port m with coh := { (s.rspIn port m).coh with
      allWaits := s.coh.allWaits.filter fun a => !(a.share == m.tag / 8192 && a.tag == m.tag && a.node == m.src) } } := by
  have hany : s.coh.allWaits.any (fun a => a.share == m.tag / 8192 && a.tag == m.tag && a.node == m.src) = true := by
    simpa [and_assoc] using h
  show execRecallAck port m s = _
  simp [execRecallAck, hfenced, hany]

section
variable (hwaits : s.coh.allWaits = []) (hgap : s.inGap (m.tag / 8192) = false) (hbusyOf : s.busyOf m.tag = some (line, e))
include hwaits hgap hbusyOf

/-- A RecallAck is counted against the BUSY entry of its tag (R134). -/
theorem execRecallAck_of_busy :
    exec (.recallAck port m) s = .next ((s.rspIn port m).countAnswer line m.src (bitOf m.rflags 0)) := by
  show execRecallAck port m s = _
  simp [execRecallAck, hfenced, hwaits, hgap, hbusyOf]

/-- A RecallData of a node recalled as owner is applied, and then counted (R107, R134). -/
theorem execRecallData_of_owner (hbusy : e.busy = some b) (hnode : m.src ∈ b.awaited) (howner : b.owner = some m.src) :
    exec (.recallData port m) s =
      .next (((s.rspIn port m).applyRecall e.district e.da line m.data).countAnswer line m.src false) := by
  show execRecallData port m s = _
  simp [execRecallData, hfenced, hwaits, hgap, hbusyOf, hbusy, hnode, howner]

end

end

/-! ### Nodes that do not answer -/

/-- A node that is fenced has its fence noted at the present Fabric Time, and nothing else that concerns coherence changes (R113). -/
theorem coh_fenceNode {s : State} {node : Nat} (h : s.isFenced node = false) (share : Nat) :
    (s.fenceNode share node).coh = { s.coh with fenced := s.coh.fenced.put node s.time.ft } := by
  simp [State.fenceNode, h]

/-- A node that is fenced has no registration left (R113, R179). -/
theorem node_ne_of_mem_regs_fenceNode {s : State} {node : Nat} (h : s.isFenced node = false) (share : Nat) :
    ∀ r ∈ (s.fenceNode share node).cr.regs, r.node ≠ node := by
  simp [State.fenceNode, h]

theorem fenced_get_fenceNode {s : State} {node : Nat} (h : s.isFenced node = false) (share : Nat) :
    (s.fenceNode share node).coh.fenced.get node = some s.time.ft := by
  rw [coh_fenceNode h]
  exact Table.get_put_same ..

theorem dir_fenceNode {s : State} {node : Nat} (h : s.isFenced node = false) (share : Nat) :
    (s.fenceNode share node).coh.dir = s.coh.dir := by rw [coh_fenceNode h]

section
variable {s : State} {line node : Nat} {e : DirEntry} {b : Busy} (hget : s.coh.dir.get line = some e) (hbusy : e.busy = some b)
include hget hbusy

/-- An awaited node whose time is out is fenced and counts as having answered (R113, R134). -/
theorem execRecallTimeout_of_awaited (hnode : node ∈ b.awaited) :
    exec (.recallTimeout line node) s = .next ((s.fenceNode (s.regs.home (line * 64)) node).countAnswer line node false) := by
  show execRecallTimeout line node s = _
  simp [execRecallTimeout, hget, hbusy, hnode]

/-- A node whose announced WriteBack does not come is fenced, and the entry waits for it no longer (R134). -/
theorem execWbwTimeout_of_announced (hnode : node ∈ b.wbw) : exec (.wbwTimeout line node) s =
    .next (((s.fenceNode (s.regs.home (line * 64)) node).setDir line
      { e with busy := some { b with wbw := b.wbw.filter (· != node) } }).completeBusy line) := by
  show execWbwTimeout line node s = _
  simp [execWbwTimeout, hget, hbusy, hnode]

end

/-- The state in which a share no longer waits for a node's answer to a RecallAll of a District (R128). -/
def allAnswered (s : State) (share d node : Nat) : State :=
  { s with coh := { s.coh with allWaits := s.coh.allWaits.filter fun a => !(a.share == share && a.district == d && a.node == node) } }

/-- A node that has not answered a RecallAll in time is fenced, and the share waits for it no longer (R113, R128). -/
theorem execRecallallTimeout_of_waiting {s : State} {share : Share} {d node : Nat}
    (h : ∃ a ∈ s.coh.allWaits, a.share = share.val ∧ a.district = d ∧ a.node = node) :
    exec (.recallallTimeout share d node) s = .next ((allAnswered s share.val d node).fenceNode share.val node) := by
  have hany : s.coh.allWaits.any (fun a => a.share == share.val && a.district == d && a.node == node) = true := by simpa [and_assoc] using h
  show execRecallallTimeout share d node s = _
  simp only [execRecallallTimeout, hany, if_true, allAnswered]

/-! ### The statement -/

/-- Settles O26: each answer is traced to its count in the BUSY entry, which completes only where it awaits nothing more. -/
theorem recallAnswers : Obligations.RecallAnswers := by
  refine ⟨?counted, ?allWait, ?owner, ?silent, ?allSilent, ?noWriteBack⟩
  case counted =>
    intro s port m line e b hfenced hwaits hgap hbusyOf hget hbusy hnode hother hflag
    have hget' : (s.rspIn port m).coh.dir.get line = some e := by simpa using hget
    refine ⟨_, execRecallAck_of_busy port hfenced hwaits hgap hbusyOf, ?_⟩
    rw [hflag, countAnswer_of_others hget' hbusy hnode hother]
    exact ⟨Table.get_put_same .., by simp [State.setDir], by simp [State.setDir]⟩
  case allWait =>
    intro s port m hfenced h
    refine ⟨_, execRecallAck_of_allWait port hfenced h, fun a ha => ?_, by simp⟩
    obtain ⟨hmem, hother⟩ := List.mem_filter.1 ha
    refine ⟨hmem, fun ⟨hshare, htag, hnode⟩ => ?_⟩
    simp [hshare, htag, hnode] at hother
  case owner =>
    intro s port m line e b hfenced hwaits hgap hbusyOf hget hbusy hawaited hwbw howner hkind hreq hidle hevict hwf hneed hcopying
    have hms : (s.rspIn port m).ms = s.ms := by simp
    have hmem : (s.rspIn port m).mem = s.mem := by simp
    have hcoh : ((s.rspIn port m).applyRecall e.district e.da line m.data).coh = s.coh := by simp
    have hline := line_applyRecall ((needCopy_congr hms _ _).trans hneed) (hms ▸ hcopying) line m.data
    rw [hmem] at hline
    refine ⟨_, execRecallData_of_owner port hfenced hwaits hgap hbusyOf hbusy (by simp [hawaited]) howner, ?_⟩
    generalize (s.rspIn port m).applyRecall e.district e.da line m.data = u at hcoh hline ⊢
    rw [countAnswer_of_last (hcoh ▸ hget) hbusy hawaited hwbw hkind hreq (hcoh ▸ hidle) (hcoh ▸ hevict)]
    exact ⟨(hline line).trans (if_pos rfl), fun l hl => (hline l).trans (if_neg hl),
      Table.get_del_same _ (Table.wf_put _ _ (hcoh ▸ hwf))⟩
  case silent =>
    intro s line node e b hget hbusy hnode hother hfenced
    have hget' : (s.fenceNode (s.regs.home (line * 64)) node).coh.dir.get line = some e := by rw [dir_fenceNode hfenced, hget]
    refine ⟨_, execRecallTimeout_of_awaited hget hbusy hnode, ?_⟩
    rw [countAnswer_of_others hget' hbusy hnode hother]
    exact ⟨fenced_get_fenceNode hfenced _, node_ne_of_mem_regs_fenceNode hfenced _, by simp [State.setDir], Table.get_put_same ..⟩
  case allSilent =>
    intro s share d node h hfenced
    have hfree : (allAnswered s share.val d node).isFenced node = false := hfenced
    refine ⟨_, execRecallallTimeout_of_waiting h, fenced_get_fenceNode hfree _, node_ne_of_mem_regs_fenceNode hfree _, fun a ha => ?_⟩
    rw [coh_fenceNode hfree] at ha
    obtain ⟨-, hother⟩ := List.mem_filter.1 ha
    rintro ⟨hshare, hdistrict, hnode⟩
    simp [hshare, hdistrict, hnode] at hother
  case noWriteBack =>
    intro s line node e b hget hbusy hnode hawaited hfenced
    refine ⟨_, execWbwTimeout_of_announced hget hbusy hnode, ?_⟩
    rw [completeBusy_of_awaiting (b := { b with wbw := b.wbw.filter (· != node) }) (Table.get_put_same ..) rfl (.inl hawaited)]
    exact ⟨fenced_get_fenceNode hfenced _, by simp [State.setDir], Table.get_put_same ..⟩

end Sys2Proof.Proofs
end

section
/-! Page copies: what a finished copy holds, the maps that name it, and the copy pages that go to flash or return (R151, R160 to R165). -/

namespace Sys2Proof.Proofs

open Sys2Proof Sys2Proof.Machine Sys2Proof.Claims

/-! ### Tables -/

theorem get_only_of_rejected {α : Type} {p : Nat → α → Bool} {n : Nat} (h : ∀ v, p n v = false) (t : Table α) :
    (t.only p).get n = none := by
  induction t with
  | nil => rfl
  | cons e t ih =>
    obtain ⟨k, v⟩ := e
    simp only [Table.only, List.filter_cons]
    split
    case isTrue haccepted =>
      have hne : n ≠ k := fun heq => by simp [← heq, h] at haccepted
      exact (if_neg hne).trans ih
    case isFalse => exact ih

theorem length_del_of_mem {α : Type} {t : Table α} {e : Nat × α} (h : e ∈ t) : (t.del e.1).length + 1 = t.length := by
  induction t with
  | nil => exact absurd h List.not_mem_nil
  | cons a t ih =>
    obtain ⟨k, v⟩ := a
    simp only [Table.del]
    split
    case isTrue => rfl
    case isFalse hne =>
      have hrest : e ∈ t := (List.mem_cons.1 h).resolve_left fun heq => hne (by rw [heq])
      simp [ih hrest]

/-- Changes of entries leave every other entry. -/
theorem get_foldl_adjust_of_ne {α : Type} {key : Nat → Nat} {n : Nat} (f : Nat → α → α) (l : List Nat) (t : Table α)
    (h : ∀ k ∈ l, n ≠ key k) : (l.foldl (fun t k => t.adjust (key k) (f k)) t).get n = t.get n :=
  List.foldlRecOn l _ (motive := fun u : Table α => u.get n = t.get n) rfl fun u hu k hk => by
    rw [← hu]
    simp only [Table.adjust]
    split
    · rfl
    · exact Table.get_put_of_ne _ _ (h k hk)

/-- Changes of entries at different keys change each of them once. -/
theorem get_foldl_adjust_of_mem {α : Type} {key : Nat → Nat} (f : Nat → α → α) {l : List Nat}
    (hinj : ∀ j ∈ l, ∀ k ∈ l, key j = key k → j = k) (hnodup : l.Nodup) {k : Nat} (hk : k ∈ l) (t : Table α) :
    (l.foldl (fun t k => t.adjust (key k) (f k)) t).get (key k) = (t.get (key k)).map (f k) := by
  induction l generalizing t with
  | nil => exact absurd hk List.not_mem_nil
  | cons j l ih =>
    obtain ⟨hj, hnodup'⟩ := List.nodup_cons.1 hnodup
    rw [List.foldl_cons]
    rcases List.mem_cons.1 hk with rfl | hk'
    · rw [get_foldl_adjust_of_ne f l _ fun i hi heq => hj (hinj _ hk _ (List.mem_cons_of_mem _ hi) heq ▸ hi), get_adjust]
    · have hne : key k ≠ key j := fun heq => hj (hinj _ hk _ List.mem_cons_self heq ▸ hk')
      rw [ih (fun a ha b hb => hinj a (List.mem_cons_of_mem _ ha) b (List.mem_cons_of_mem _ hb)) hnodup' hk',
        show (t.adjust (key j) (f j)).get (key k) = t.get (key k) from get_foldl_adjust_of_ne f [j] t (by simpa using hne)]

/-! ### Lines of a frame -/

/-- Bytes that are those of a value read back as that value. -/
theorem readBytes_of_value {cells : List Host.Cell} {a n v : Nat} (hv : v < 256 ^ n)
    (h : ∀ k < n, readCell cells (a + k) = BitVec.ofNat 8 (v / 256 ^ k)) : readBytes cells a n = v := by
  induction n generalizing a v with
  | zero => exact (Nat.lt_one_iff.1 hv).symm
  | succ n ih =>
    have hfirst := h 0 (Nat.succ_pos n)
    have hrest : readBytes cells (a + 1) n = v / 256 := ih (by rw [Nat.pow_succ] at hv; omega) fun k hk => by
      rw [Nat.div_div_eq_div_mul, ← Nat.pow_succ', ← h (k + 1) (by omega), show a + (k + 1) = a + 1 + k by omega]
    rw [readBytes, hrest, show a = a + 0 from rfl, hfirst]
    simp
    omega

/-- Lines written one after the other each hold their own value. -/
theorem readCell_writeLines {cells : List Host.Cell} (hwf : cellsWf cells = true) (a : Nat) (v : Nat → Nat) {n i k : Nat} (hi : i < n)
    (hk : k < 64) : readCell ((List.range n).foldl (fun c i => writeBytes c (a + i * 64) 64 (v i)) cells) (a + i * 64 + k) =
      BitVec.ofNat 8 (v i / 256 ^ k) := by
  induction n with
  | zero => exact absurd hi (Nat.not_lt_zero i)
  | succ n ih =>
    have hwf' : cellsWf ((List.range n).foldl (fun c i => writeBytes c (a + i * 64) 64 (v i)) cells) = true :=
      cellsWf_foldl_writeBytes _ (fun i => a + i * 64) (fun _ => 64) v hwf
    rw [List.range_succ, List.foldl_append, List.foldl_cons, List.foldl_nil]
    rcases Nat.lt_succ_iff_lt_or_eq.1 hi with hlt | rfl
    · rw [readCell_writeBytes_of_outside _ _ _ _ hwf' (by omega), ih hlt]
    · exact readCell_writeBytes _ _ _ _ hwf' hk

theorem dramLine_of_cells {m : Memory} {line : Nat} {d : LineData}
    (h : ∀ k < 64, readCell m.cells (line * 64 + k) = BitVec.ofNat 8 (d.toNat / 256 ^ k)) : m.dramLine line = d := by
  have hv : d.toNat < (2 ^ 8) ^ 64 := by rw [← Nat.pow_mul, show 8 * 64 = 512 from rfl]; exact d.isLt
  rw [Memory.dramLine, readBytes_of_value hv h, BitVec.ofNat_toNat, BitVec.setWidth_eq]

/-- What a page copy writes into DRAM: the line of the live page, or the line as it was before a RecallData (R163). -/
def copiedLine (s : State) (live : Nat) (olds : Table LineData) (i : Nat) : LineData :=
  (olds.get (live * 64 + i)).getD (s.mem.line (live * 64 + i))

/-- What a page copy leaves of DRAM and of the line caches (R161, R163). -/
theorem copyFrame_mem (s : State) (live frame : Nat) (olds : Table LineData) :
    (s.copyFrame live frame olds).mem.cells = (List.range 64).foldl (fun c i =>
      writeBytes c (frame * 4096 + i * 64) 64 (copiedLine s live olds i).toNat) s.mem.cells ∧
    (s.copyFrame live frame olds).mem.cache = s.mem.cache.only fun l _ => l / 64 != frame := by
  have hwrote : ∀ (w : Memory → Nat → BitVec 64) (m : Memory) (l : List Nat),
      (l.foldl (fun m i => { m with wrote := m.wrote.put (frame * 64 + i) (w m i) }) m).cells = m.cells ∧
      (l.foldl (fun m i => { m with wrote := m.wrote.put (frame * 64 + i) (w m i) }) m).cache = m.cache := fun w m l =>
    List.foldlRecOn l _ (motive := fun u : Memory => u.cells = m.cells ∧ u.cache = m.cache) ⟨rfl, rfl⟩ fun _ hu _ _ => hu
  simp only [State.copyFrame, copiedLine]
  generalize List.range 64 = lines
  split
  · exact hwrote (fun m i => m.known (live * 64 + i)) _ _
  · exact ⟨rfl, rfl⟩

/-- A copied frame holds the lines of the live page (R161, R163). -/
theorem line_copyFrame {s : State} (hwf : s.mem.wf = true) (live frame : Nat) (olds : Table LineData) {i : Nat} (hi : i < 64) :
    (s.copyFrame live frame olds).mem.line (frame * 64 + i) = copiedLine s live olds i := by
  obtain ⟨hcells, hcache⟩ := copyFrame_mem s live frame olds
  have huncached : (s.copyFrame live frame olds).mem.cache.get (frame * 64 + i) = none := by
    rw [hcache]
    exact get_only_of_rejected (fun _ => by simp; omega) _
  rw [Memory.line, huncached]
  refine dramLine_of_cells fun k hk => ?_
  rw [hcells, show (frame * 64 + i) * 64 + k = frame * 4096 + i * 64 + k by omega]
  exact readCell_writeLines hwf (frame * 4096) (fun i => (copiedLine s live olds i).toNat) hi hk

end Sys2Proof.Proofs
end

section
/-! Renumbering, sweeps, page copies and the changes that wait for copy space (R151, R157, R159 to R165). -/

namespace Sys2Proof.Proofs

open Sys2Proof Sys2Proof.Machine Sys2Proof.Claims

/-! ### Milestone slots and maps -/

@[simp] theorem ms_started (s : State) (c : Cmd) : (started s c).ms = s.ms := by simp [started]

theorem msSlot_congr {s t : State} (h : t.ms.slots = s.ms.slots) (d k : Nat) : t.msSlot d k = s.msSlot d k := by
  rw [State.msSlot, h]
  rfl

@[simp] theorem msSlot_setMsSlot_same (s : State) (d k : Nat) (m : MsSlot) : (s.setMsSlot d k m).msSlot d k = some m :=
  Table.get_put_same ..

theorem district_congr {s t : State} (h : t.maps = s.maps) (d : Nat) : t.district d = s.district d := by
  rw [State.district, h]
  rfl

/-- Map leaves that are written name their copy in every slot that they are written for (R161, R166). -/
theorem get_writeMaps {slots : List Nat} {k : Nat} (h : k ∈ slots) (s : State) (d p : Nat) (e : MapEnt) :
    (s.writeMaps d p slots e).ms.maps.get (mapKey d k p) = some e :=
  foldl_establishes (P := fun k (t : Table MapEnt) => t.get (mapKey d k p) = some e) slots (fun _ _ _ => Table.get_put_same ..)
    (fun t j _ i _ hi => by rw [Table.get_put]; split <;> [rfl; exact hi]) s.ms.maps k h

/-! ### Renumbering -/

/-- A MILESTONE_RENUMBER of a District in service that has no scheduled cut takes the District out of service (R157). -/
theorem execMilestoneRenumber_of_ready {s : State} {c : Cmd} {x : District} (hstart : Starts s c .d)
    (hthere : s.district c.d.district = some x) (herasing : x.st ≠ .erasing) (hrenumbering : x.st ≠ .renumbering)
    (hcut : ∀ k, k < 16 → ∀ m ∈ s.msSlot c.d.district k, m.st ≠ 1) :
    execMilestoneRenumber c s =
      .next ((started s c).setDistrict c.d.district { x with st := .renumbering, busyCmd := some c }) := by
  have hfree : s.distBusy c.d.district = false := by simp [State.distBusy, hthere, herasing, hrenumbering]
  have hnone : ((List.range 16).any fun k => ((s.msSlot c.d.district k).map (·.st)) == some 1) = false :=
    List.any_eq_false.2 fun k hk => by
      cases hm : s.msSlot c.d.district k with
      | none => simp
      | some m => simpa using hcut k (List.mem_range.1 hk) m hm
  have hthere' : (started s c).district c.d.district = some x := by rw [district_congr (maps_started s c), hthere]
  simp only [execMilestoneRenumber, hfree, hnone]
  rw [command_of_starts hstart (show chk (false || false) Cs.refusedState = none from rfl), hthere']

/-- The slots of a District that hold a Milestone. -/
def usedSlots (s : State) (d : Nat) : List Nat := (List.range 16).filter fun k => (s.msSlot d k).isSome

/-- The state of a District whose Milestones have been numbered from 1 in the order of their cuts, and that serves again (R157). -/
def renumbered (s : State) (d : Nat) (x : District) : State :=
  ({ s with ms := { s.ms with slots := (usedSlots s d).foldl (fun t k =>
    t.adjust (slotKey d k) fun m => { m with version := s.cutRank d k m + 1 }) s.ms.slots } }).setDistrict d
      { x with st := x.serving, nextVersion := (usedSlots s d).length + 1, busyCmd := none }

theorem execRenumberDone_of_renumbering {s : State} {d : Nat} {x : District} {c : Cmd} (hthere : s.district d = some x)
    (hst : x.st = .renumbering) (hcmd : x.busyCmd = some c) : execRenumberDone d s =
      .next ((renumbered s d x).done c ((if (usedSlots s d).length = 0 then 0 else 1) + ((usedSlots s d).length + 1) * 2 ^ 32)) := by
  simp only [execRenumberDone, State.renumberDone, hthere, hst, hcmd, ne_eq, not_true_eq_false, if_false]
  rfl

theorem slotKey_inj {d e j k : Nat} (hj : j < 16) (hk : k < 16) (h : slotKey d j = slotKey e k) : d = e ∧ j = k := by
  simp only [slotKey] at h
  omega

theorem lt_of_mem_usedSlots {s : State} {d k : Nat} (h : k ∈ usedSlots s d) : k < 16 := List.mem_range.1 (List.mem_of_mem_filter h)

/-- Each Milestone of the District takes its rank among the cuts as its version (R157). -/
theorem msSlot_renumbered {s : State} {d k : Nat} {m : MsSlot} (x : District) (hk : k < 16) (hm : s.msSlot d k = some m) :
    (renumbered s d x).msSlot d k = some { m with version := s.cutRank d k m + 1 } := by
  have hused : k ∈ usedSlots s d := List.mem_filter.2 ⟨List.mem_range.2 hk, by simp [hm]⟩
  have hslot := get_foldl_adjust_of_mem (key := slotKey d) (fun k m => { m with version := s.cutRank d k m + 1 })
    (fun i hi j hj heq => (slotKey_inj (lt_of_mem_usedSlots hi) (lt_of_mem_usedSlots hj) heq).2)
    (List.nodup_range.filter _) hused s.ms.slots
  exact hslot.trans (by rw [show s.ms.slots.get (slotKey d k) = some m from hm]; rfl)

theorem msSlot_renumbered_of_ne (s : State) {d e k : Nat} (x : District) (he : e ≠ d) (hk : k < 16) :
    (renumbered s d x).msSlot e k = s.msSlot e k :=
  get_foldl_adjust_of_ne (key := slotKey d) _ _ _ fun _ hj heq => he (slotKey_inj hk (lt_of_mem_usedSlots hj) heq).1

/-! ### Sweeps -/

/-- A sweep that has passed a leaf marks it where one of its pages is still to be copied (R159). -/
def sweptLeaf (d : Nat) (s : State) (e : Nat × Leaf) : State :=
  if !e.2.cow && s.leafNeeds d e.1 e.2 then s.setLeaf d e.1 { e.2 with cow := true } else s

theorem sweptLeaf_frame (d : Nat) (s : State) (e : Nat × Leaf) :
    (sweptLeaf d s e).ms = s.ms ∧ (sweptLeaf d s e).mem = s.mem ∧ (sweptLeaf d s e).out = s.out := by
  simp only [sweptLeaf]
  split <;> simp [State.setLeaf]

theorem execCowSweepDone_of_taken {s : State} {d slot : Nat} {m : MsSlot} (hm : s.msSlot d slot = some m) (hst : m.st = 2 ∨ m.st = 3) :
    execCowSweepDone d slot s =
      .next ((s.maps.leaves d).foldl (sweptLeaf d) (s.setMsSlot d slot { m with swept := true })) := by
  have htaken : ¬(m.st ≠ 2 ∧ m.st ≠ 3) := by omega
  simp only [execCowSweepDone, hm, if_neg htaken, State.setMsSlot_frame]
  rfl

/-! ### Copies -/

/-- A page copy whose lines have been written, with the map leaves that name it (R161). -/
def copyNamed (s : State) (d page live : Nat) (c : Copying) : State :=
  ((s.copyFrame live c.frame c.olds).tallyAv c.leader 0x408).writeMaps d page c.slots ⟨false, false, false, c.frame⟩

/-- A copy that some Milestone uses becomes a copy page; the frame of any other is free again (R151, R161). -/
def copyCounted (s : State) (d strength : Nat) (c : Copying) : State :=
  if c.slots.isEmpty then s.freeRun c.frame 1 strength
  else { s with ms := { s.ms with copies := s.ms.copies.put c.frame ⟨c.slots.length, d, s.clock, strength⟩ } }

/-- The state in which a page copy has landed (R161). -/
def copyLanded (s : State) (d page live strength : Nat) (c : Copying) : State :=
  (copyCounted (copyNamed s d page live c) d strength c).setCopying { c with landed := true }

theorem copyLanded_frame (s : State) (d page live strength : Nat) (c : Copying) :
    (copyLanded s d page live strength c).mem = (s.copyFrame live c.frame c.olds).mem ∧
    (copyLanded s d page live strength c).ms.maps = (copyNamed s d page live c).ms.maps := by
  simp only [copyLanded, copyCounted]
  split <;> simp [State.setCopying, copyNamed]

theorem execCowChunksDone_of_copied {s : State} {d page first : Nat} {c : Copying} {l : Leaf} (hat : s.copyingAt d page = some c)
    (hleaf : s.maps.leafAt d page = some (first, l)) (hlanded : c.landed = false) (habandoned : c.abandoned = false)
    (hresident : l.tiered = true → l.resident = true) (hgap : s.anyGap = false) : execCowChunksDone d page s =
      .next ((copyLanded s d page (leafFrame first l page) l.strength c).setLeaf d first
        { l with cow := (copyLanded s d page (leafFrame first l page) l.strength c).leafNeeds d first l }) := by
  have hready : (c.landed || c.abandoned || (l.tiered && !l.resident) || s.anyGap) = false := by
    cases htiered : l.tiered
    · simp [hlanded, habandoned, hgap]
    · simp [hlanded, habandoned, hgap, hresident htiered]
  simp only [execCowChunksDone, hat, hleaf, hready, Bool.false_eq_true, if_false]
  rfl

theorem execCowMapInvalidated_of_landed {s : State} {d page : Nat} {c : Copying} (hat : s.copyingAt d page = some c)
    (hlanded : c.landed = true) (hwaiting : c.waiting = []) (hends : NoneEnding s) :
    execCowMapInvalidated d page s = .next { s with ms := { s.ms with copying := s.ms.copying.filter (· != c) } } := by
  simp only [execCowMapInvalidated, hat, hlanded, hwaiting, atHomeAll_nil, Bool.not_true, Bool.false_eq_true, if_false]
  exact congrArg Host.Outcome.next (settleBusy_of_noneEnding hends)

theorem setCopying_of_single {s : State} {c : Copying} (h : s.ms.copying = [c]) (x : Copying) (hd : c.district = x.district)
    (hp : c.page = x.page) : (s.setCopying x).ms.copying = [x] := by
  simp [State.setCopying, h, hd, hp]

theorem execCowCopyRestart_of_room {s t : State} {d page first frame : Nat} {c : Copying} {l : Leaf} (hat : s.copyingAt d page = some c)
    (hleaf : s.maps.leafAt d page = some (first, l)) (habandoned : c.abandoned = true) (hopen : ∀ k, k < 8 → s.isOpen k = true)
    (hroom : s.allocRun 1 (s.regs.colour (page * 4096)) l.strength = some (frame, t)) : execCowCopyRestart d page s =
      .next ((t.writeMaps d page c.slots ⟨false, false, true, frame⟩).setCopying { c with frame := frame, abandoned := false }) := by
  have hall : ((List.range 8).any fun k => !s.isOpen k) = false :=
    List.any_eq_false.2 fun k hk => by simp [hopen k (List.mem_range.1 hk)]
  simp only [execCowCopyRestart, hat, hleaf, habandoned, hall, hroom, Bool.not_true, Bool.or_self, Bool.false_eq_true, if_false]

/-! ### Pages that return -/

/-- A copy page of a freed Milestone is given back: on flash its locator, in DRAM its frame (R151). -/
def returnPage (strength : Nat) (s : State) (f : Nat) : State :=
  if flashMark ≤ f then s.freeLoc (f - flashMark) else s.freeRun f 1 strength

theorem ms_returnPage (strength : Nat) (s : State) (f : Nat) : (returnPage strength s f).ms = s.ms := by
  simp only [returnPage]
  split <;> simp

/-- Frames that return are free again, in order (R151). -/
theorem freed_returnPages (strength : Nat) {fs : List Nat} (h : ∀ f ∈ fs, f < flashMark) (s : State) :
    (fs.foldl (returnPage strength) s).maps.freed = s.maps.freed ++ fs.map fun f => (f, 1) := by
  induction fs generalizing s with
  | nil => simp
  | cons f fs ih =>
    obtain ⟨hf, hfs⟩ := List.forall_mem_cons.1 h
    have hone : (returnPage strength s f).maps.freed = s.maps.freed ++ [(f, 1)] := by
      rw [returnPage, if_neg (Nat.not_le.2 hf)]
      rfl
    rw [List.foldl_cons, ih hfs, hone, List.append_assoc]
    rfl

theorem freed_checkCopyLevel (s : State) (leader d : Nat) : (s.checkCopyLevel leader d).maps.freed = s.maps.freed := by
  simp only [State.checkCopyLevel]
  repeat' split
  all_goals simp [State.setDistrict]

/-- The state in which no page of a slot waits to return any more. -/
def returnTaken (s : State) (d slot : Nat) : State :=
  { s with ms := { s.ms with returning := s.ms.returning.del (slotKey d slot) } }

theorem execCopyPageReturn_of_waiting {s : State} {d slot : Nat} {fs : List Nat} (h : s.ms.returning.get (slotKey d slot) = some fs) :
    execCopyPageReturn d slot s =
      .next ((fs.foldl (returnPage (((s.district d).map (·.strength)).getD 0)) (returnTaken s d slot)).checkCopyLevel 0 d) := by
  simp only [execCopyPageReturn, h]
  rfl

/-! ### Copy pages that go to flash -/

/-- Nothing more goes to flash: the DRAM copies are below 80 % of their quota, or there is no copy to move or no room for it (R162). -/
def DemotionOver (s : State) (d : Nat) (x : District) : Prop :=
  s.dramCopies d * 100 < x.copyQuota * 80 ∨ x.fcopyQuota ≤ s.flashCopies d ∨ s.coldCopy d = none ∨ s.allocLoc x.fgroup = none

theorem mem_of_coldCopy {s : State} {d : Nat} {e : Nat × CopyPage} (h : s.coldCopy d = some e) : e ∈ s.ms.copies := by
  refine List.mem_of_mem_filter (p := fun c => c.2.district == d) ?_
  refine List.foldlRecOn _ _ (motive := fun b => ∀ e, b = some e → e ∈ s.ms.copies.filter fun c => c.2.district == d)
    (fun _ hnone => by cases hnone) (fun b hb x hx e he => ?_) e h
  split at he
  · cases he
    exact hx
  · split at he
    · cases he
      exact hx
    · exact hb _ he

/-- Either nothing more goes to flash, or one copy page does (R162). -/
theorem demoteCopies_succ (s : State) (d : Nat) (x : District) (k : Nat) :
    (DemotionOver s d x ∧ s.demoteCopies d x (k + 1) = s) ∨
    ∃ u : State, s.demoteCopies d x (k + 1) = u.demoteCopies d x k ∧ u.ms.copies.length + 1 = s.ms.copies.length := by
  by_cases hfull : s.dramCopies d * 100 < x.copyQuota * 80 ∨ x.fcopyQuota ≤ s.flashCopies d
  · exact .inl ⟨hfull.elim .inl fun h => .inr (.inl h), by simp only [State.demoteCopies, if_pos hfull]⟩
  cases hcold : s.coldCopy d with
  | none => exact .inl ⟨.inr (.inr (.inl hcold)), by simp only [State.demoteCopies, if_neg hfull, hcold]⟩
  | some e =>
    cases hloc : s.allocLoc x.fgroup with
    | none => exact .inl ⟨.inr (.inr (.inr hloc)), by simp only [State.demoteCopies, if_neg hfull, hcold, hloc]⟩
    | some r =>
      refine .inr ⟨_, by simp only [State.demoteCopies, if_neg hfull, hcold, hloc]; rfl, ?_⟩
      have hms : r.2.ms = s.ms := by simp [State.allocLoc_frame hloc]
      simp [hms, length_del_of_mem (mem_of_coldCopy hcold)]

/-- As many steps as there are copy pages bring a demotion to its end (R162). -/
theorem demotionOver_demoteCopies {s : State} (d : Nat) (x : District) {k : Nat} (h : s.ms.copies.length ≤ k) :
    DemotionOver (s.demoteCopies d x k) d x := by
  induction k generalizing s with
  | zero =>
    have hnone : s.ms.copies = [] := List.length_eq_zero_iff.1 (Nat.le_zero.1 h)
    exact .inr (.inr (.inl (by simp [State.demoteCopies, State.coldCopy, hnone])))
  | succ k ih =>
    rcases demoteCopies_succ s d x k with ⟨hover, hsame⟩ | ⟨u, hnext, hless⟩
    · rw [hsame]
      exact hover
    · rw [hnext]
      exact ih (by omega)

theorem execCopyDemote_of_full {s : State} {d : Nat} {x : District} (hthere : s.district d = some x)
    (hfull : x.copyQuota * 90 ≤ s.dramCopies d * 100) : execCopyDemote d s = .next (s.demoteCopies d x s.ms.copies.length) := by
  simp only [execCopyDemote, hthere, if_neg (Nat.not_lt.2 hfull)]

/-! ### Changes that wait for copy space -/

/-- The state in which a District's next wait for copy space is told anew (R162). -/
def waitOver (s : State) (d : Nat) : State :=
  match s.district d with
  | some x => s.setDistrict d { x with waitTold := false }
  | none => s

theorem ms_waitOver (s : State) (d : Nat) : (waitOver s d).ms = s.ms := by
  simp only [waitOver]
  split <;> rfl

theorem execCopySpaceFreed_of_none {s : State} {d : Nat} (h : ∀ p ∈ (s.spaceGo d s.ms.spaceWait).ms.spaceWait, p.district ≠ d) :
    execCopySpaceFreed d s = .next (waitOver (s.spaceGo d s.ms.spaceWait) d) := by
  have hnone : ((s.spaceGo d s.ms.spaceWait).ms.spaceWait.any fun p => p.district == d) = false :=
    List.any_eq_false.2 fun p hp => by simp [h p hp]
  simp only [execCopySpaceFreed, hnone, Bool.false_eq_true, if_false]
  rfl

theorem spaceGo_of_others {d : Nat} {ps : List Pend} (h : ∀ p ∈ ps, p.district ≠ d) (s : State) : s.spaceGo d ps = s := by
  induction ps with
  | nil => rfl
  | cons p ps ih =>
    obtain ⟨hp, hps⟩ := List.forall_mem_cons.1 h
    simp only [State.spaceGo, hp, false_and, if_false]
    exact ih hps

/-- The state in which no change waits for copy space. -/
def spaceTaken (s : State) : State := { s with ms := { s.ms with spaceWait := [] } }

/-- Whether a run of frames can be had depends on the lines in use, the free frames and the retired ones (R85, R283). -/
theorem isSome_allocRun (s : State) (run colour strength : Nat) : (s.allocRun run colour strength).isSome =
    (!decide (s.maps.frames * 64 < s.maps.used + pageCost run strength) &&
      ((s.regs.findFreed s.prot.retired run colour s.maps.freed).isSome ||
        (s.regs.findRun s.prot.retired run colour s.maps.frames s.maps.frames (roundUp s.maps.nextFrame run)).isSome)) := by
  simp only [State.allocRun]
  split
  case isTrue hfull => simp [hfull]
  case isFalse hroom =>
    split
    case h_1 hfreed => simp [hroom, hfreed]
    case h_2 hnone => split <;> simp [*]

/-- What room there is does not depend on the changes that wait for it. -/
theorem copyRoom_spaceTaken (s : State) (p : Pend) : (spaceTaken s).copyRoom p = s.copyRoom p := by
  simp only [State.copyRoom, isSome_allocRun]
  rfl

/-- The only change that waits goes on where it has room (R162). -/
theorem spaceGo_of_single {s : State} {p : Pend} (h : s.ms.spaceWait = [p]) (hroom : s.copyRoom p = true) :
    s.spaceGo p.district [p] = (spaceTaken s).atHome p := by
  simp [State.spaceGo, hroom, h, spaceTaken]

/-- A write to a page of which a Milestone still needs a copy starts one, where no copy is on its way (R160, R161). -/
theorem atHome_write_copies {s : State} {p : Pend} (hop : p.op = .writeLine) (hmask : p.mask ≠ 0) (hbound : p.bound = none)
    (hearly : s.coh.early = []) (hdir : s.coh.dir = []) (hcopying : s.ms.copying = [])
    (hneed : s.needCopy p.district (p.da / 4096) ≠ []) :
    s.atHome p = s.startCopy p (p.da / 4096) (p.pa / 4096) (s.needCopy p.district (p.da / 4096)) := by
  have hsome : ¬(p.op = .writeLine ∧ p.mask = 0) := fun h => hmask h.2
  simp only [State.atHome, if_neg hsome]
  simp [hop, hbound, hearly, hdir, hcopying, hneed, ReqOp.changes, Table.get]

/-- A copy that starts is the only one, and its change waits for it (R161). -/
theorem ms_startCopy_of_room {s : State} {p : Pend} (hroom : s.copyRoom p = true) (hcopying : s.ms.copying = []) (page : Nat)
    (slots : List Nat) :
    (∃ c, (s.startCopy p page (p.pa / 4096) slots).ms.copying = [c] ∧ c.waiting = [p] ∧ c.page = page ∧ c.slots = slots) ∧
      (s.startCopy p page (p.pa / 4096) slots).ms.spaceWait = s.ms.spaceWait := by
  simp only [State.copyRoom] at hroom
  split at hroom
  case h_1 => exact absurd hroom Bool.false_ne_true
  case h_2 x hthere =>
    obtain ⟨hquota, hrun⟩ := Bool.and_eq_true_iff.1 hroom
    obtain ⟨⟨f, t⟩, halloc⟩ := Option.isSome_iff_exists.1 hrun
    have hcolour : s.regs.colour (p.pa / 4096 * 4096) = s.regs.colour p.pa := by
      rw [Regs.colour, Regs.colour, show p.pa / 4096 * 4096 / 2 ^ 12 = p.pa / 2 ^ 12 by omega]
    have hms : t.ms = s.ms := by simp [State.allocRun_frame halloc]
    simp [State.startCopy, hcopying, hthere, Nat.not_le.2 (of_decide_eq_true hquota), hcolour, halloc, hms, State.writeMaps]

/-- Settles O23: each command's own lemma gives the state that it leaves, and the rules of slots, maps, copies and frames say what that
holds. -/
theorem copiesAndRenumbering : Obligations.CopiesAndRenumbering := by
  refine ⟨?renumber, ?renumbered, ?swept, ?copied, ?applied, ?restarted, ?returned, ?demoted, ?idle, ?goesOn⟩
  case renumber =>
    intro s c x hstart _ hthere herasing hrenumbering hcut
    refine ⟨_, execMilestoneRenumber_of_ready hstart hthere herasing hrenumbering hcut, ?_, running_of_started rfl, ?_, fun e he => ?_⟩
    · simp
    · simp [State.setDistrict]
    · rw [State.district_setDistrict, if_neg he, district_congr (maps_started s c)]
  case renumbered =>
    intro s d x c hthere hst hcmd hup _
    have hms : ∀ (t : State) r, (t.done c r).ms.slots = t.ms.slots := by simp
    refine ⟨_, execRenumberDone_of_renumbering hthere hst hcmd, ?_, fun k hk m hm => ?_, fun e k he hk => ?_, ?_⟩
    · rw [district_congr (s := renumbered s d x) (by simp), renumbered, State.district_setDistrict, if_pos rfl]
      rfl
    · rw [msSlot_congr (hms _ _), msSlot_renumbered x hk hm]
    · rw [msSlot_congr (hms _ _), msSlot_renumbered_of_ne s x he hk]
    · exact ends_done_of_ringUp (s := renumbered s d x) (ringUp_congr hup rfl rfl) _
  case swept =>
    intro s d slot m hm hst
    refine ⟨_, execCowSweepDone_of_taken hm hst, ?_, ?_, ?_⟩
    · rw [msSlot_congr (congrArg Ms.slots (State.ms_foldl _ _ _ fun s e => (sweptLeaf_frame d s e).1)), msSlot_setMsSlot_same]
    · rw [State.mem_foldl _ _ _ fun s e => (sweptLeaf_frame d s e).2.1]
      rfl
    · rw [State.out_foldl _ _ _ fun s e => (sweptLeaf_frame d s e).2.2]
      rfl
  case copied =>
    intro s d page c first l hat hleaf hlanded habandoned hresident hgap hnoOlds _ _ hwf
    obtain ⟨hmem, hmaps⟩ := copyLanded_frame s d page (leafFrame first l page) l.strength c
    refine ⟨_, execCowChunksDone_of_copied hat hleaf hlanded habandoned hresident hgap, fun i hi => ?_, fun k hk => ?_⟩
    · show (copyLanded s d page (leafFrame first l page) l.strength c).mem.line _ = _
      rw [hmem, line_copyFrame hwf _ _ _ hi, copiedLine, hnoOlds]
      rfl
    · show (copyLanded s d page (leafFrame first l page) l.strength c).ms.maps.get (mapKey d k page) = _
      rw [hmaps]
      exact get_writeMaps hk _ d page _
  case applied =>
    intro s d page c hat hlanded hwaiting hends
    exact ⟨_, execCowMapInvalidated_of_landed hat hlanded hwaiting hends, by simp, rfl, rfl⟩
  case restarted =>
    intro s d page c first l hat hleaf habandoned hopen hroom hcopying
    obtain ⟨⟨f, t⟩, halloc⟩ := Option.isSome_iff_exists.1 hroom
    have hms : t.ms = s.ms := by simp [State.allocRun_frame halloc]
    refine ⟨_, execCowCopyRestart_of_room hat hleaf habandoned hopen halloc, fun r hr => ?_⟩
    cases halloc.symm.trans hr
    exact ⟨setCopying_of_single ((congrArg Ms.copying hms).trans hcopying) _ rfl rfl, fun k hk => get_writeMaps hk t d page _⟩
  case returned =>
    intro s d slot fs hfs hframes hwf
    refine ⟨_, execCopyPageReturn_of_waiting hfs, ?_, ?_⟩
    · have hms : ∀ u : State, (u.checkCopyLevel 0 d).ms = u.ms := by simp
      rw [hms, State.ms_foldl _ _ _ fun s f => ms_returnPage _ s f]
      exact Table.get_del_same _ hwf
    · rw [freed_checkCopyLevel, freed_returnPages _ hframes]
      rfl
  case demoted =>
    intro s d x hthere hfull
    exact ⟨_, execCopyDemote_of_full hthere hfull, demotionOver_demoteCopies d x (Nat.le_refl _)⟩
  case idle =>
    intro s d x hthere hothers
    have hstill : s.spaceGo d s.ms.spaceWait = s := spaceGo_of_others hothers s
    have hstep := execCopySpaceFreed_of_none (s := s) (d := d) (by rw [hstill]; exact hothers)
    rw [hstill] at hstep
    refine ⟨_, hstep, ?_, ms_waitOver s d⟩
    simp [waitOver, hthere]
  case goesOn =>
    intro s d p hwait hd hroom hop hmask hbound hearly hdir hcopying hneed
    subst hd
    have hroom' : (spaceTaken s).copyRoom p = true := (copyRoom_spaceTaken s p).trans hroom
    obtain ⟨⟨c, hcopy, hcopied⟩, hspace⟩ := ms_startCopy_of_room hroom' hcopying (p.da / 4096) (s.needCopy p.district (p.da / 4096))
    have hgone : s.spaceGo p.district s.ms.spaceWait = (spaceTaken s).startCopy p (p.da / 4096) (p.pa / 4096)
        (s.needCopy p.district (p.da / 4096)) := by
      rw [hwait, spaceGo_of_single hwait hroom]
      exact atHome_write_copies (s := spaceTaken s) hop hmask hbound hearly hdir hcopying hneed
    have hnone : (s.spaceGo p.district s.ms.spaceWait).ms.spaceWait = [] := by rw [hgone, hspace]; rfl
    refine ⟨_, execCopySpaceFreed_of_none (by simp [hnone]), ?_, c, ?_, hcopied⟩
    · rw [ms_waitOver, hnone]
    · rw [ms_waitOver, hgone, hcopy]

end Sys2Proof.Proofs
end

section
/-! Commands that an accelerator ring does not accept: the record that ends one leaves the Crossings and every other ring (R391, R395,
R397). -/

namespace Sys2Proof.Proofs

open Sys2Proof Sys2Proof.Machine Sys2Proof.Claims

/-! ### Copies of a command that wait -/

/-- Where no copy of a command waits, none waits in a state whose waiting commands are among them (R403). -/
theorem copiesOf_of_waiting {s t : State} {c : Cmd} (h : s.copiesOf c = [])
    (hsub : ∀ e ∈ t.host.rings, ∀ x ∈ e.2.waiting, ∃ f ∈ s.host.rings, x ∈ f.2.waiting) : t.copiesOf c = [] := by
  simp only [State.copiesOf, List.filter_eq_nil_iff, List.mem_flatten, List.mem_map] at h ⊢
  rintro x ⟨_, ⟨e, he, rfl⟩, hx⟩
  obtain ⟨f, hf, hx'⟩ := hsub e he x hx
  exact h x ⟨_, ⟨f, hf, rfl⟩, hx'⟩

theorem copiesOf_congr {s t : State} {c : Cmd} (h : s.copiesOf c = []) (hrings : ringsOf t = ringsOf s) : t.copiesOf c = [] := by
  have hsame : t.host.rings = s.host.rings := congrArg Prod.fst hrings
  exact copiesOf_of_waiting h fun e he x hx => ⟨e, hsame ▸ he, hx⟩

theorem copiesOf_setRing {s : State} {c : Cmd} {n : Nat} {x : Ring} (h : s.copiesOf c = []) (hwaiting : x.waiting ⊆ (s.ring n).waiting) :
    (s.setRing n x).copiesOf c = [] := by
  refine copiesOf_of_waiting h fun e he y hy => ?_
  rcases Table.mem_put he with rfl | he
  · have hthere := hwaiting hy
    cases hget : s.host.rings.get n with
    | none => simp [State.ring, hget, Ring.init] at hthere
    | some r => exact ⟨(n, r), mem_of_get_eq_some hget, by simpa [State.ring, hget] using hthere⟩
  · exact ⟨e, he, hy⟩

theorem copiesOf_launch {s : State} {c : Cmd} (h : s.copiesOf c = []) : (s.launch c).copiesOf c = [] :=
  copiesOf_setRing h fun _ hx => List.mem_of_mem_filter hx

theorem copiesOf_leaveRing {s : State} {c : Cmd} (h : s.copiesOf c = []) : (s.leaveRing c).copiesOf c = [] := by
  simp only [State.leaveRing]
  split
  · exact copiesOf_setRing h fun _ hx => List.mem_of_mem_filter hx
  · exact h

/-! ### The record that ends a command on a host ring -/

/-- Another ring is as it was. -/
theorem get_setRing_of_ne {s : State} {n ring : Nat} (x : Ring) (h : n ≠ ring) :
    (s.setRing ring x).host.rings.get n = s.host.rings.get n := Table.get_put_of_ne _ _ h

theorem get_leaveRing_of_ne {s : State} {c : Cmd} {n : Nat} (h : n ≠ c.ring) :
    (s.leaveRing c).host.rings.get n = s.host.rings.get n := by
  simp only [State.leaveRing]
  split
  · exact get_setRing_of_ne _ h
  · rfl

/-- A record on a host ring that is up changes that ring alone, and no Crossing (R391, R397). -/
theorem putRecord_of_hostRing {s : State} {ring : Nat} (rcd : Record) (h : HostRing s ring) :
    (s.putRecord ring rcd).cr = s.cr ∧ ∃ x : Ring, x.waiting = (s.ring ring).waiting ∧
      ringsOf (s.putRecord ring rcd) = ringsOf (s.setRing ring x) := by
  obtain ⟨hrun, hacc, -, hdown⟩ := h
  have hrings : ∀ (t : State) (x : Ring), ringsOf t = ringsOf s → ringsOf (t.setRing ring x) = ringsOf (s.setRing ring x) :=
    fun t x ht => by
      obtain ⟨h1, h2⟩ := Prod.mk.inj ht
      simp only [ringsOf, State.setRing, h1, h2]
  simp only [State.putRecord, hrun, hacc, hdown, reduceCtorEq, false_and, or_self, if_false, Option.isNone_none, Bool.and_false,
    Bool.false_eq_true, Bool.and_true]
  refine ⟨by split <;> split <;> simp, { s.ring ring with
    st := .running, cplTail := ((s.ring ring).cplTail + (if rcd.ext then 2 else 1)) % 2 ^ 32, lastCmd := rcd.cmdId, armed := false,
    acc := none }, rfl, ?_⟩
  split <;> split <;> simp [hrings]

theorem cr_putRecord {s : State} {ring : Nat} (rcd : Record) (h : HostRing s ring) : (s.putRecord ring rcd).cr = s.cr :=
  (putRecord_of_hostRing rcd h).1

theorem get_putRecord_of_ne {s : State} {ring n : Nat} (rcd : Record) (h : HostRing s ring) (hn : n ≠ ring) :
    (s.putRecord ring rcd).host.rings.get n = s.host.rings.get n := by
  obtain ⟨-, x, -, hset⟩ := putRecord_of_hostRing rcd h
  rw [show (s.putRecord ring rcd).host.rings = (s.setRing ring x).host.rings from congrArg Prod.fst hset, get_setRing_of_ne _ hn]

/-- A command that ends with no other ring concerned: it stands on a host ring that is up, and no copy of it waits (R397, R403). -/
def EndsAlone (s : State) (c : Cmd) : Prop := HostRing s c.ring ∧ s.copiesOf c = []

theorem endsAlone_congr {s t : State} {c : Cmd} (h : EndsAlone s c) (hrings : ringsOf t = ringsOf s) (hboot : t.boot = s.boot) :
    EndsAlone t c := by
  obtain ⟨hup, hcopies⟩ := h
  exact ⟨hostRing_congr hup (congrArg Prod.fst hrings) (congrArg Prod.snd hrings) hboot, copiesOf_congr hcopies hrings⟩

theorem endsAlone_setRing {s : State} {c : Cmd} {n : Nat} {x : Ring} (h : EndsAlone s c) (hne : c.ring ≠ n)
    (hwaiting : x.waiting ⊆ (s.ring n).waiting) : EndsAlone (s.setRing n x) c := by
  obtain ⟨⟨hrun, hacc, hmute, hdown⟩, hcopies⟩ := h
  have hring : (s.setRing n x).ring c.ring = s.ring c.ring := by rw [State.ring_setRing, if_neg hne]
  exact ⟨⟨hring ▸ hrun, hring ▸ hacc, hmute, hdown⟩, copiesOf_setRing hcopies hwaiting⟩

theorem endsAlone_delRing {s : State} {c : Cmd} {n : Nat} (h : EndsAlone s c) (hne : c.ring ≠ n) :
    EndsAlone { s with host := { s.host with rings := s.host.rings.del n } } c := by
  obtain ⟨⟨hrun, hacc, hmute, hdown⟩, hcopies⟩ := h
  have hring : State.ring { s with host := { s.host with rings := s.host.rings.del n } } c.ring = s.ring c.ring := by
    simp only [State.ring, Table.get_del_of_ne _ hne]
  exact ⟨⟨hring ▸ hrun, hring ▸ hacc, hmute, hdown⟩, copiesOf_of_waiting hcopies fun e he x hx => ⟨e, Table.mem_del he, hx⟩⟩

theorem endsAlone_leaveRing {s : State} {c : Cmd} (h : EndsAlone s c) : EndsAlone (s.leaveRing c) c :=
  ⟨hostRing_leaveRing h.1, copiesOf_leaveRing h.2⟩

theorem copiesOf_putRecord {s : State} {c : Cmd} {rcd : Record} (h : EndsAlone s c) : (s.putRecord c.ring rcd).copiesOf c = [] := by
  obtain ⟨hup, hcopies⟩ := h
  obtain ⟨-, x, hwaiting, hset⟩ := putRecord_of_hostRing rcd hup
  exact copiesOf_congr (copiesOf_setRing hcopies (hwaiting ▸ List.Subset.refl _)) hset

/-- An accelerator ring refuses a command whose opcode it does not accept, so one that starts stands on a host ring (R391). -/
theorem isAccRing_of_starts {s : State} {c : Cmd} {k : Kind} (h : Starts s c k) (hop : accOpcode c.d.opcode = false) :
    isAccRing c.ring = false := by
  obtain ⟨-, -, -, -, -, -, -, hnone⟩ := h
  by_contra hring
  simp only [State.refusal, hop, Bool.eq_true_of_not_eq_false hring, Bool.not_false, Bool.and_self, if_true] at hnone
  exact absurd (lowestOf_eq_none.1 hnone _ (List.mem_cons_of_mem _ List.mem_cons_self)) (by simp)

theorem endsAlone_started {s : State} {c : Cmd} {k : Kind} (h : Starts s c k) (hring : isAccRing c.ring = false) :
    EndsAlone (started s c) c := by
  obtain ⟨⟨hrun, hmute, hdown⟩, hkind, hcopies, -⟩ := h
  have hacc : (s.ring c.ring).acc = none := by simpa [hring] using hkind
  exact ⟨hostRing_launch (hostRing_pick ⟨hrun, hacc, hmute, hdown (by simp [hacc])⟩), copiesOf_launch hcopies⟩

theorem get_started_of_ne {s : State} {c : Cmd} {n : Nat} (h : n ≠ c.ring) :
    (started s c).host.rings.get n = s.host.rings.get n := by
  refine (get_setRing_of_ne _ h).trans ?_
  simp only [State.pick]
  split
  · rfl
  · exact get_setRing_of_ne _ h

theorem wf_rings_started {s : State} (c : Cmd) (h : s.host.rings.wf = true) : (started s c).host.rings.wf = true := by
  refine Table.wf_put _ _ ?_
  simp only [State.pick]
  split
  · exact h
  · exact Table.wf_put _ _ h

@[simp] theorem cr_started (s : State) (c : Cmd) : (started s c).cr = s.cr := by simp [started]

section
variable {s : State} {c : Cmd} (h : EndsAlone s c)
include h

/-- A command that ends alone changes its own ring, and no Crossing (R391, R395). -/
theorem finish_of_endsAlone (rcd : Record) :
    (s.finish c rcd).cr = s.cr ∧ ∀ n, n ≠ c.ring → (s.finish c rcd).host.rings.get n = s.host.rings.get n := by
  have halone : EndsAlone (s.leaveRing c) c := endsAlone_leaveRing h
  simp only [State.finish]
  split
  · rw [copiesOf_putRecord ?alone]
    case alone => exact endsAlone_congr halone rfl rfl
    obtain ⟨hup, -⟩ := halone
    refine ⟨(cr_putRecord rcd ?_).trans (by simp), fun n hn => (get_putRecord_of_ne rcd ?_ hn).trans (get_leaveRing_of_ne hn)⟩ <;>
      exact hostRing_congr hup rfl rfl rfl
  · obtain ⟨hup, -⟩ := halone
    exact ⟨(cr_putRecord rcd hup).trans (by simp), fun n hn => (get_putRecord_of_ne rcd hup hn).trans (get_leaveRing_of_ne hn)⟩

theorem cr_done (result : Nat) : (s.done c result).cr = s.cr := (finish_of_endsAlone h _).1

theorem crossing_done (result n : Nat) : (s.done c result).crossing n = s.crossing n := by
  rw [State.crossing, cr_done h]
  rfl

theorem get_done_of_ne (result : Nat) {n : Nat} (hn : n ≠ c.ring) : (s.done c result).host.rings.get n = s.host.rings.get n :=
  (finish_of_endsAlone h _).2 n hn

theorem ends_done_of_endsAlone (result : Nat) : Ends (s.done c result) c 0 0 result := ends_done h.1 result

end

end Sys2Proof.Proofs
end

section
/-! Accelerator rings, and Crossings as commands give them (R183, R386, R387, R391, R409). -/

namespace Sys2Proof.Proofs

open Sys2Proof Sys2Proof.Machine Sys2Proof.Claims

/-! ### Accelerator rings -/

/-- The numbers from 32768 on are those of accelerator rings (R386). -/
theorem isAccRing_of_lt {i : Nat} (h : i < 4096) : isAccRing (32768 + i) = true := by
  simp only [isAccRing, bitOf, beq_iff_eq]
  omega

theorem accRing_ne {c : Cmd} {i : Nat} (hring : isAccRing c.ring = false) (h : i < 4096) : 32768 + i ≠ c.ring := fun heq => by
  rw [← heq, isAccRing_of_lt h] at hring
  cases hring

/-- An accelerator ring as it is created, without a flag Crossing and without a shadow word (R391). -/
def newRing (c : Cmd) : Ring :=
  { Ring.init with
    st := .running, n := bitsOf c.d.p2 3 0, m := bitsOf c.d.p2 7 4, armed := true,
    acc := some ⟨c.d.district, oprefOf c.d.p0, oprefOf c.d.p1, none, false, bitsOf c.d.p2 22 8, bitsOf c.d.p2 29 24⟩ }

/-- An accelerator ring whose operands are good takes the lowest free index (R386, R387, R391). -/
theorem execAccRingCreate_of_good {s : State} {c : Cmd} {i : Nat} (hstart : Starts s c .d) (hi : i < 4096)
    (hfree : s.host.rings.has (32768 + i) = false) (hlowest : ∀ j, j < i → s.host.rings.has (32768 + j) = true)
    (hn : 4 ≤ bitsOf c.d.p2 3 0 ∧ bitsOf c.d.p2 3 0 ≤ 12) (hm : 5 ≤ bitsOf c.d.p2 7 4 ∧ bitsOf c.d.p2 7 4 ≤ 13)
    (hflag : bitOf c.d.p2 23 = false) (hshadow : c.d.p3 = 0)
    (hcmd : s.oprefOk c.d.district (oprefOf c.d.p0) (64 * 2 ^ bitsOf c.d.p2 3 0) (·.r) = true)
    (hcpl : s.oprefOk c.d.district (oprefOf c.d.p1) (32 * 2 ^ bitsOf c.d.p2 7 4) (·.w) = true)
    (hcmdAt : s.daOf (oprefOf c.d.p0) % (64 * 2 ^ bitsOf c.d.p2 3 0) = 0)
    (hcplAt : s.daOf (oprefOf c.d.p1) % (32 * 2 ^ bitsOf c.d.p2 7 4) = 0) :
    execAccRingCreate c s = .next (((started s c).setRing (32768 + i) (newRing c)).done c (32768 + i)) := by
  obtain ⟨hn4, hn12⟩ := hn
  obtain ⟨hm5, hm13⟩ := hm
  have hidx : ((List.range 4096).find? fun i => !s.host.rings.has (32768 + i)) = some i :=
    List.find?_range_eq_some.2 ⟨by simp [hfree], List.mem_range.2 hi, fun j hj => by simp [hlowest j hj]⟩
  simp only [execAccRingCreate, hidx, hflag, hshadow, if_true]
  rw [command_of_starts hstart (lowestOf_eq_none.2 (by
    simp [chk, hcmd, hcpl, hcmdAt, hcplAt, Nat.not_lt.2 hn4, Nat.not_lt.2 hn12, Nat.not_lt.2 hm5, Nat.not_lt.2 hm13]))]
  rfl

/-- The state in which an accelerator ring has been destroyed. -/
def ringGone (s : State) (k : Nat) (r : Ring) : State :=
  let t := (s.setRing k { r with st := .draining, cause := 0 }).setRing k { r with st := .draining, cause := 0, flr := true }
  { t with host := { t.host with rings := t.host.rings.del k } }

/-- A running accelerator ring without commands is destroyed at once (R390, R409). -/
theorem execAccRingDestroy_of_empty {s : State} {c : Cmd} {k : Nat} {r : Ring} {a : AccInfo} (hstart : Starts s c .d)
    (hk : 32768 + bitsOf c.d.p0 11 0 = k) (hne : k ≠ c.ring) (hget : s.host.rings.get k = some r) (hacc : r.acc = some a)
    (hmine : a.district = c.d.district) (hst : r.st = .running) (hwaiting : r.waiting = []) (hrunning : r.running = []) :
    execAccRingDestroy c s = .next ((ringGone (started s c) k r).done c 0) := by
  have hring : (started s c).ring k = r := by rw [State.ring, get_started_of_ne hne, hget]; rfl
  simp only [execAccRingDestroy, hk, hget]
  rw [command_of_starts hstart (lowestOf_eq_none.2 (by simp [chk, hacc, hmine]))]
  simp [State.drainRing, State.ringDrained, ringGone, hring, hst, hwaiting, hrunning, hacc]

theorem endsAlone_ringGone {s : State} {c : Cmd} {k : Nat} {r : Ring} (h : EndsAlone s c) (hne : c.ring ≠ k) (hwaiting : r.waiting = []) :
    EndsAlone (ringGone s k r) c :=
  endsAlone_delRing (endsAlone_setRing (endsAlone_setRing h hne (by simp [hwaiting])) hne (by simp [hwaiting])) hne

theorem get_ringGone {s : State} {k : Nat} {r : Ring} (h : s.host.rings.wf = true) : (ringGone s k r).host.rings.get k = none :=
  Table.get_del_same _ (Table.wf_put _ _ (Table.wf_put _ _ h))

/-! ### Blocks of Crossings -/

/-- Entries written at consecutive keys. -/
theorem get_foldl_put {α : Type} (t : Table α) (x : α) (first m n : Nat) :
    ((List.range m).foldl (fun t i => t.put (first + i) x) t).get n = if first ≤ n ∧ n < first + m then some x else t.get n := by
  induction m with
  | zero => rw [if_neg (by omega)]; rfl
  | succ m ih =>
    rw [List.range_succ, List.foldl_append, List.foldl_cons, List.foldl_nil, Table.get_put, ih]
    by_cases hlast : n = first + m
    · rw [if_pos hlast, if_pos (by omega)]
    · rw [if_neg hlast]
      exact if_congr (by omega) rfl rfl

theorem get_only_of_accepted {α : Type} {p : Nat → α → Bool} {n : Nat} (h : ∀ v, p n v = true) (t : Table α) :
    (t.only p).get n = t.get n := by
  induction t with
  | nil => rfl
  | cons e t ih =>
    obtain ⟨k, v⟩ := e
    by_cases hk : n = k
    · subst hk
      simp [Table.only, Table.get, h]
    · simp only [Table.only, List.filter_cons, Table.get, if_neg hk]
      split
      · exact (if_neg hk).trans ih
      · exact ih

/-- A Crossing as it is created (R183). -/
def newCrossing (c : Cmd) : Crossing :=
  ⟨c.d.district, bitsOf c.d.p0 9 8, bitsOf c.d.p2 15 0, c.d.p1 % 2 ^ 64, 0, 0, false, [], 0, [], 0, false⟩

/-- The state in which a block of Crossings has been created (R183). -/
def blockMade (s : State) (c : Cmd) (first k : Nat) : State :=
  { s with cr := { s.cr with
    blocks := s.cr.blocks.put first (k, c.d.district),
    items := (List.range (64 * k)).foldl (fun t i => t.put (first + i) (newCrossing c)) s.cr.items } }

theorem crossing_blockMade (s : State) (c : Cmd) (first k n : Nat) :
    (blockMade s c first k).crossing n = if first ≤ n ∧ n < first + 64 * k then some (newCrossing c) else s.crossing n :=
  get_foldl_put ..

theorem findRun_started (s : State) (c : Cmd) (k : Nat) : (started s c).findRun k = s.findRun k := by
  simp only [State.findRun, State.runFree, cr_started]

/-- A block of Crossings with good initial values takes the lowest free numbers (R183). -/
theorem execCrossingCreate_of_good {s : State} {c : Cmd} {first k : Nat} (hstart : Starts s c .d) (hk : bitsOf c.d.p0 6 0 = k)
    (hlow : 1 ≤ k) (hhigh : k ≤ 64) (hfree : s.findRun k = some first)
    (hgood : badInit (bitsOf c.d.p0 9 8) (c.d.p1 % 2 ^ 64) (bitsOf c.d.p2 15 0) = false) :
    execCrossingCreate c s = .next ((blockMade (started s c) c first k).done c first) := by
  have hnonzero : k ≠ 0 := by omega
  simp only [execCrossingCreate, hk, hfree]
  rw [command_of_starts hstart (lowestOf_eq_none.2 (by simp [chk, hgood, hnonzero, Nat.not_lt.2 hhigh, -Nat.reducePow]))]
  simp only [findRun_started, hfree]
  rfl

/-- Registrations that end where there are none. -/
theorem dropRegs_nil (s : State) : s.dropRegs [] = s := by simp [State.dropRegs]

/-- A Crossing without registrations sends no Signal (R181). -/
theorem signalAll_of_none {s : State} {n : Nat} (reason : Nat) (h : ∀ r ∈ s.cr.regs, r.crossing ≠ n) : s.signalAll n reason = s := by
  simp only [State.signalAll]
  split
  · rfl
  · rw [List.filter_eq_nil_iff.2 fun r hr => by simp [h r hr], dropRegs_nil]
    rfl

/-- The state without a block of Crossings. -/
def blockGone (s : State) (first k : Nat) : State :=
  { s with cr := { s.cr with
    blocks := s.cr.blocks.del first,
    items := s.cr.items.only fun n _ => decide (n < first) || decide (first + 64 * k ≤ n) } }

/-- A block goes without a Signal where nobody is registered (R183, R187). -/
theorem dropBlock_of_noRegs {s : State} (first k : Nat) (h : s.cr.regs = []) : s.dropBlock first k = blockGone s first k := by
  have hstill : (List.range (64 * k)).foldl (fun s i => s.signalAll (first + i) 3) s = s :=
    List.foldlRecOn _ _ (motive := fun t : State => t = s) rfl fun t ht i _ => by
      rw [ht]
      exact signalAll_of_none 3 (by simp [h])
  simp only [State.dropBlock, hstill, blockGone]

theorem crossing_blockGone_of_mem {s : State} {first k n : Nat} (h : first ≤ n ∧ n < first + 64 * k) :
    (blockGone s first k).crossing n = none := by
  refine get_only_of_rejected (p := fun n _ => decide (n < first) || decide (first + 64 * k ≤ n)) (fun _ => ?_) s.cr.items
  simp
  omega

theorem crossing_blockGone_of_not_mem {s : State} {first k n : Nat} (h : ¬(first ≤ n ∧ n < first + 64 * k)) :
    (blockGone s first k).crossing n = s.crossing n := by
  refine get_only_of_accepted (p := fun n _ => decide (n < first) || decide (first + 64 * k ≤ n)) (fun _ => ?_) s.cr.items
  simp
  omega

/-- A block of the District that no crossing window covers is destroyed (R183). -/
theorem execCrossingDestroy_of_uncovered {s : State} {c : Cmd} {first k : Nat} (hstart : Starts s c .d) (hfirst : bitsOf c.d.p0 14 0 = first)
    (hk : bitsOf c.d.p0 22 16 = k) (hthere : s.cr.blocks.get first = some (k, c.d.district)) (hregs : s.cr.regs = [])
    (huncovered : ∀ w ∈ s.maps.windows,
      w.2.kind ≠ 1 ∨ first + 64 * k ≤ w.2.crossings.1 ∨ w.2.crossings.1 + w.2.crossings.2 ≤ first) :
    execCrossingDestroy c s = .next ((blockGone (started s c) first k).done c 0) := by
  have hfree : (s.maps.windows.any fun w => w.2.kind == 1 && decide (w.2.crossings.1 < first + 64 * k) &&
      decide (first < w.2.crossings.1 + w.2.crossings.2)) = false := List.any_eq_false.2 fun w hw => by
    have := huncovered w hw
    simp
    omega
  simp only [execCrossingDestroy, hfirst, hk, hthere, hfree]
  rw [command_of_starts hstart (lowestOf_eq_none.2 (by simp [chk])), dropBlock_of_noRegs first k (by simpa using hregs)]

/-! ### One Crossing -/

theorem crossing_setCrossing (s : State) (n m : Nat) (x : Crossing) :
    (s.setCrossing n x).crossing m = if m = n then some x else s.crossing m := Table.get_put ..

theorem crossing_started (s : State) (c : Cmd) (n : Nat) : (started s c).crossing n = s.crossing n := by
  rw [State.crossing, cr_started]
  rfl

/-- A Crossing of the District without registrations is reset with good values (R183). -/
theorem execCrossingReset_of_good {s : State} {c : Cmd} {x : Crossing} {n : Nat} (hstart : Starts s c .d) (hn : bitsOf c.d.p0 14 0 = n)
    (hthere : s.crossing n = some x) (hmine : x.district = c.d.district)
    (hgood : badInit (bitsOf c.d.p0 17 16) (c.d.p1 % 2 ^ 64) (bitsOf c.d.p2 15 0) = false) (hregs : ∀ r ∈ s.cr.regs, r.crossing ≠ n) :
    execCrossingReset c s = .next (((started s c).setCrossing n { x with
      type := bitsOf c.d.p0 17 16, members := bitsOf c.d.p2 15 0, value := c.d.p1 % 2 ^ 64, value2 := 0, sat := false }).done c 0) := by
  simp only [execCrossingReset, hn]
  rw [command_of_starts hstart (by simp [chk, State.crOf, hthere, hmine, hgood, -Nat.reducePow])]
  simp only [crossing_started, hthere]
  rw [signalAll_of_none]
  simpa [State.setCrossing] using hregs

/-- A query of a Crossing of the District answers with the word that is asked for (R183). -/
theorem execCrossingQuery_of_there {s : State} {c : Cmd} {x : Crossing} {n sel : Nat} (hstart : Starts s c .d) (hn : bitsOf c.d.p0 14 0 = n)
    (hsel : bitsOf c.d.p0 19 16 = sel) (hthere : s.crossing n = some x) (hmine : x.district = c.d.district) (hword : sel ≤ 13) :
    execCrossingQuery c s = .next ((started s c).done c
      (x.word sel % 2 ^ 64 + (s.cr.regs.filter fun r => r.crossing == n).length % 65536 * 2 ^ 64)) := by
  simp only [execCrossingQuery, hn, hsel]
  rw [command_of_starts hstart (by simp [chk, State.crOf, hthere, hmine, Nat.not_lt.2 hword])]
  simp only [crossing_started, hthere, cr_started]

/-- Settles O21: none of these commands is one of an accelerator ring, so its record touches neither a Crossing nor another ring, and what it
leaves is what its effect gave. -/
theorem crossingsAndRings : Obligations.CrossingsAndRings := by
  refine ⟨?create, ?destroy, ?blockCreate, ?blockDestroy, ?reset, ?query⟩
  case create =>
    intro s c i d cmd cpl n m hstart _ hi hfree hlowest hn4 hn12 hm5 hm13 hflag hshadow hcmd hcpl hcmdAt hcplAt hring
    have hne := accRing_ne hring hi
    have halone : EndsAlone ((started s c).setRing (32768 + i) (newRing c)) c :=
      endsAlone_setRing (endsAlone_started hstart hring) hne.symm (List.nil_subset _)
    have hstep := execAccRingCreate_of_good hstart hi hfree hlowest ⟨hn4, hn12⟩ ⟨hm5, hm13⟩ hflag hshadow hcmd hcpl hcmdAt hcplAt
    refine ⟨_, hstep, ?_, by simp, by simp, ends_done_of_endsAlone halone _⟩
    rw [State.ring, get_done_of_ne halone _ hne]
    simp [State.setRing, newRing, d, cmd, cpl, n, m]
  case destroy =>
    intro s c r a k hstart _ hget hacc hmine hst hwaiting hrunning hwf hring
    have hne : k ≠ c.ring := accRing_ne hring (Nat.mod_lt _ (by decide))
    have halone := endsAlone_ringGone (endsAlone_started hstart hring) hne.symm hwaiting
    refine ⟨_, execAccRingDestroy_of_empty hstart rfl hne hget hacc hmine hst hwaiting hrunning, ?_, by simp [ringGone], by simp [ringGone],
      ends_done_of_endsAlone halone _⟩
    rw [get_done_of_ne halone _ hne, get_ringGone (wf_rings_started c hwf)]
  case blockCreate =>
    intro s c first k ty members hstart hop hlow hhigh hfree hgood
    have halone : EndsAlone (blockMade (started s c) c first k) c :=
      endsAlone_congr (endsAlone_started hstart (isAccRing_of_starts hstart (by rw [hop]; rfl))) rfl rfl
    have hstep := execCrossingCreate_of_good hstart rfl hlow hhigh hfree hgood
    refine ⟨_, hstep, fun n hfrom hto => ?_, fun n hout => ?_, ?_, by simp [blockMade],
      by simp [blockMade], ends_done_of_endsAlone halone _⟩
    · rw [crossing_done halone, crossing_blockMade, if_pos ⟨hfrom, hto⟩]
      rfl
    · rw [crossing_done halone, crossing_blockMade, if_neg hout, crossing_started]
    · rw [cr_done halone]
      exact Table.get_put_same ..
  case blockDestroy =>
    intro s c first k hstart hop hthere hwf hregs huncovered
    have halone : EndsAlone (blockGone (started s c) first k) c :=
      endsAlone_congr (endsAlone_started hstart (isAccRing_of_starts hstart (by rw [hop]; rfl))) rfl rfl
    refine ⟨_, execCrossingDestroy_of_uncovered hstart rfl rfl hthere hregs huncovered, fun n hfrom hto => ?_, fun n hout => ?_, ?_,
      ends_done_of_endsAlone halone _⟩
    · rw [crossing_done halone, crossing_blockGone_of_mem ⟨hfrom, hto⟩]
    · rw [crossing_done halone, crossing_blockGone_of_not_mem hout, crossing_started]
    · rw [cr_done halone]
      exact Table.get_del_same _ (by simpa using hwf)
  case reset =>
    intro s c x n hstart hop hthere hmine hgood hregs
    have halone : EndsAlone ((started s c).setCrossing n { x with
        type := bitsOf c.d.p0 17 16, members := bitsOf c.d.p2 15 0, value := c.d.p1 % 2 ^ 64, value2 := 0, sat := false }) c :=
      endsAlone_congr (endsAlone_started hstart (isAccRing_of_starts hstart (by rw [hop]; rfl))) rfl rfl
    refine ⟨_, execCrossingReset_of_good hstart rfl hthere hmine hgood hregs, ?_, fun m hm => ?_, ends_done_of_endsAlone halone _⟩
    · rw [crossing_done halone, crossing_setCrossing, if_pos rfl]
    · rw [crossing_done halone, crossing_setCrossing, if_neg hm, crossing_started]
  case query =>
    intro s c x n sel hstart hop hthere hmine hword
    have halone := endsAlone_started hstart (isAccRing_of_starts hstart (by rw [hop]; rfl))
    exact ⟨_, execCrossingQuery_of_there hstart rfl rfl hthere hmine hword, (cr_done halone _).trans (cr_started s c), by simp,
      ends_done_of_endsAlone halone _⟩

end Sys2Proof.Proofs
end

section
/-! What a Crossing operation gives: its effect on the counters, by its code (R174 to R176, R178). -/

namespace Sys2Proof.Proofs

open Sys2Proof Sys2Proof.Machine Sys2Proof.Claims

/-! ### Flags that are cleared -/

/-- The bits of a number that a mask leaves out and those that it names make up the number. -/
theorem ldiff_add_and (v a : Nat) : v.ldiff a + (v &&& a) = v := by
  induction v using Nat.binaryRec generalizing a with
  | zero => simp [Nat.ldiff]
  | bit b v ih =>
    have hrest := ih a.div2
    have hsplit : (Nat.bit b v).ldiff a + (Nat.bit b v &&& a) =
        Nat.bit (b && !a.bodd) (v.ldiff a.div2) + Nat.bit (b && a.bodd) (v &&& a.div2) := by
      rw [← Nat.ldiff_bit, ← Nat.land_bit, Nat.bit_bodd_div2]
    rw [hsplit]
    simp only [Nat.bit_val]
    cases b <;> cases a.bodd <;> simp <;> omega

/-- Clearing a mask's flags takes away those that are set (R174). -/
theorem sub_and_eq_ldiff (v a : Nat) : v - (v &&& a) = v.ldiff a := by
  have := ldiff_add_and v a
  omega

theorem ldiff_and_self (v a : Nat) : v.ldiff a &&& a = 0 :=
  Nat.eq_of_testBit_eq fun i => by simp [Nat.testBit_ldiff]

theorem ldiff_or_and (v a : Nat) : v.ldiff a ||| (v &&& a) = v :=
  Nat.eq_of_testBit_eq fun i => by
    rw [Nat.testBit_lor, Nat.testBit_ldiff, Nat.testBit_land]
    cases v.testBit i <;> cases a.testBit i <;> rfl

/-! ### Counters below their maxima -/

/-- A counter that stays below 2^64 is not held (R178). -/
theorem min_crMax {v : Nat} (h : v < 2 ^ 64) : min crMax v = v ∧ v ≤ crMax := by
  simp only [crMax]
  omega

section
variable {c : Crossing} {a : Nat}

theorem effect_semRelease (h : c.value + a < 2 ^ 64) :
    c.effect 0x11 a = ⟨{ c with value := c.value + a }, c.value, 0, true, false, false⟩ := by
  obtain ⟨hmin, hheld⟩ := min_crMax h
  simp [Crossing.effect, hmin, Nat.not_lt.2 hheld, Oc.done]

theorem effect_semTake_of_le (h : a ≤ c.value) :
    c.effect 0x12 a = ⟨{ c with value := c.value - a }, c.value, 0, true, false, false⟩ ∧ c.effect 0x13 a = c.effect 0x12 a := by
  simp [Crossing.effect, h, Oc.done]

theorem effect_semTake_of_lt (h : c.value < a) :
    c.effect 0x12 a = ⟨c, c.value, 3, false, false, false⟩ ∧ c.effect 0x13 a = ⟨c, c.value, 3, false, true, false⟩ := by
  simp [Crossing.effect, Nat.not_le.2 h, Oc.notMet]

section
variable (h : c.value2 + 1 < 2 ^ 48)
include h

/-- The second counter and its successor are values of 48 bits, and of 64. -/
theorem value2_small : c.value2 % 2 ^ 48 = c.value2 ∧ min crMax (c.value2 + 1) = c.value2 + 1 ∧ c.value2 + 1 ≤ crMax :=
  ⟨Nat.mod_eq_of_lt (by omega), min_crMax (by omega)⟩

theorem effect_jctArrive_last (hlast : c.value + 1 = c.members) : c.effect 0x14 a =
    ⟨{ c with value := 0, value2 := c.value2 + 1 }, c.value % 65536 + c.value2 * 65536, 10, true, false, false⟩ := by
  obtain ⟨hmod, hmin, hheld⟩ := value2_small h
  simp [Crossing.effect, hlast, hmod, hmin, Nat.not_lt.2 hheld, Oc.completed, -Nat.reducePow]

theorem effect_jctArrive_more (hmore : c.value + 1 ≠ c.members) : c.effect 0x14 a =
    ⟨{ c with value := c.value + 1 }, c.value % 65536 + c.value2 * 65536, 0, true, false, false⟩ := by
  obtain ⟨hmod, -⟩ := value2_small h
  simp [Crossing.effect, hmore, hmod, Oc.done, -Nat.reducePow]

theorem effect_jctWait : c.effect 0x15 a = ⟨c, c.value2, 1, false, c.value2 == a, false⟩ := by
  obtain ⟨hmod, -⟩ := value2_small h
  simp [Crossing.effect, hmod, Oc.met, -Nat.reducePow]

theorem effect_tktRelease_of_eq (hmine : c.value2 = a) :
    c.effect 0x1B a = ⟨{ c with value2 := c.value2 + 1 }, c.value2, 0, true, false, false⟩ := by
  subst hmine
  obtain ⟨hmod, hmin, hheld⟩ := value2_small h
  simp [Crossing.effect, hmod, hmin, Nat.not_lt.2 hheld, Oc.done, -Nat.reducePow]

theorem effect_tktRelease_of_ne (hother : c.value2 ≠ a) : c.effect 0x1B a = ⟨c, c.value2, 7, false, false, false⟩ := by
  obtain ⟨hmod, -⟩ := value2_small h
  simp [Crossing.effect, hmod, hother, Oc.notHolder, -Nat.reducePow]

theorem effect_tktWait : c.effect 0x1C a = ⟨c, c.value2, 1, false, c.value2 != a, false⟩ := by
  obtain ⟨hmod, -⟩ := value2_small h
  simp [Crossing.effect, hmod, Oc.met, -Nat.reducePow]

end

theorem effect_tktTake (h : c.value + 1 < 2 ^ 64) :
    c.effect 0x1A a = ⟨{ c with value := c.value + 1 }, c.value, 0, true, false, false⟩ := by
  obtain ⟨hmin, hheld⟩ := min_crMax h
  simp [Crossing.effect, hmin, Nat.not_lt.2 hheld, Oc.done]

theorem effect_flagClear : (c.effect 0x18 a).c.value = c.value.ldiff a ∧ (c.effect 0x18 a).result = c.value := by
  simp [Crossing.effect, sub_and_eq_ldiff]

end

end Sys2Proof.Proofs
end

section
/-! A Crossing operation on its way to its Crossing, and its answer (R80 to R83, R171 to R177). -/

namespace Sys2Proof.Proofs

open Sys2Proof Sys2Proof.Machine Sys2Proof.Claims

/-! ### On the way -/

theorem exec_of_crossingRows {f : JPort → Bool → Req → Instr} {code : Nat} (h : (f, code) ∈ crossingRows) (port : JPort) (any : Bool)
    (r : Req) (s : State) : exec (f port any r) s = .next (s.crReq port r code) := by
  simp only [crossingRows, List.mem_cons, Prod.mk.injEq, List.not_mem_nil, or_false] at h
  rcases h with h | h | h | h | h | h | h | h | h | h | h | h | h | h <;> obtain ⟨rfl, rfl⟩ := h <;> rfl

/-- A Crossing operation as it stands after its checks, with what its window gives it (R171). -/
def crossingPend (s : State) (port : Nat) (r : Req) (code : Nat) (w : Window) : Pend :=
  s.bindPend (reqPend r port (.crossing code) r.offset 8 none) w

/-- A request that has its tracker has touched neither the Crossings nor the answers that wait. -/
theorem taken_keeps (s : State) (port : Nat) (r : Req) (p : Pend) :
    (taken s port r p).cr = s.cr ∧ (taken s port r p).clock = s.clock ∧ (taken s port r p).coh.acks = s.coh.acks := by
  simp [taken, State.enter, State.grantTracker]

section
variable {s : State} {port : JPort} {r : Req} {code : Nat} {w : Window} {n : Nat} {c : Crossing} (h : AtCrossing s port r code w n c)
include h

/-- Steps 2 to 7 of R80 let through what `AtCrossing` describes. -/
theorem checkReq_of_atCrossing : (s.takeRx port 0 r.src).checkReq port r [1] (·.a) r.offset 8 = .ok w := by
  obtain ⟨-, -, hwin, ⟨d, hd, hst, henc, -⟩, hfenced, hadmits, hkind, ha, hspan, -⟩ := h
  have hd₀ : s.maps.districts.get w.district = some d := hd
  have hd' : (s.takeRx port 0 r.src).district w.district = some d := by simpa [State.district] using hd₀
  have hstate : (d.st != .inService && d.st != .converting) = false := by rcases hst with h | h <;> simp [h]
  have hnotFenced : ((s.takeRx port 0 r.src).isFenced r.src || !w.admits r.src) = false := by
    simp only [State.isFenced, State.takeRx_frame]
    exact Bool.or_eq_false_iff.2 ⟨hfenced, by simp [hadmits]⟩
  simpa [State.checkReq, hwin, hd', hstate, hnotFenced, hkind, ha, Nat.not_lt.2 hspan] using henc

/-- The Crossing that an operation names (R171). -/
theorem number_of_atCrossing : (crossingPend s port r code w).da / 64 = n ∧ (crossingPend s port r code w).steer = n % 8 := by
  obtain ⟨-, -, -, -, -, -, -, -, -, hbase, hn, -⟩ := h
  have hsteer : (crossingPend s port r code w).steer = r.offset / 64 % 8 := rfl
  have hda : (crossingPend s port r code w).da = w.base + r.offset := rfl
  rw [hsteer, hda, hn]
  omega

/-- Step 8 of R80 refuses nothing that `AtCrossing` describes (R82). -/
theorem trackerRefusal_of_atCrossing : (s.takeRx port 0 r.src).trackerRefusal (crossingPend s port r code w) = none := by
  obtain ⟨-, hsteer⟩ := number_of_atCrossing h
  obtain ⟨hledger, -, -, ⟨d, hd, -, -, hlimit⟩, -, -, -, -, -, -, -, hopen, hfree, -⟩ := h
  have hused : ∀ f : Tracker → Bool, (s.coh.trackers.filter f).length ≤ s.coh.trackers.length := fun f => List.length_filter_le _ _
  have hop : (crossingPend s port r code w).op = .crossing code := rfl
  have hdistrict : (crossingPend s port r code w).district = w.district := rfl
  have hd' : s.maps.districts.get w.district = some d := hd
  have hav : (s.takeRx port 0 r.src).avFld (n % 8) 0x200 10 0 = s.avFld (n % 8) 0x200 10 0 := by
    simp [State.avFld, State.avBase, State.servedBy]
  have hsh : (s.takeRx port 0 r.src).share (n % 8) = s.share (n % 8) := by simp [State.share]
  have h1 := hused fun t => t.share == n % 8 && decide (t.port < 12)
  have h2 := hused fun t => t.share == n % 8 && t.district == w.district && decide (t.port < 12)
  have hnospare : ¬(8192 - (s.coh.trackers.filter fun t => t.share == n % 8 && decide (t.port < 12)).length ≤
      s.avFld (n % 8) 0x200 10 0) := by omega
  have hnolimit : ¬(d.trkLimit ≤ (s.coh.trackers.filter fun t =>
      t.share == n % 8 && t.district == w.district && decide (t.port < 12)).length) := by omega
  simp [State.trackerRefusal, hsteer, hop, hdistrict, hsh, hopen, hledger, hav, State.trackersOf, hnospare, State.district, hd', hnolimit]

/-- An operation that `AtCrossing` describes is applied to its Crossing (R171, R177). -/
theorem crReq_of_atCrossing : s.crReq port r code =
    (taken s port r (crossingPend s port r code w)).crApply (crossingPend s port r code w) n c code := by
  have hcheck := checkReq_of_atCrossing h
  have htracker := trackerRefusal_of_atCrossing h
  obtain ⟨hnumber, -⟩ := number_of_atCrossing h
  obtain ⟨hledger, hwf, -, -, -, -, -, -, -, -, -, -, -, hthere, hlost, hopen, hqueue, -⟩ := h
  have hnodup : (s.takeRx port 0 r.src).dupTag port r.src r.tag = false := by simp [State.dupTag, hledger]
  obtain ⟨hcr, -, hacks⟩ := taken_keeps s port r (crossingPend s port r code w)
  have hthere' : (taken s port r (crossingPend s port r code w)).crossing n = some c := by rw [State.crossing, hcr]; exact hthere
  have hopen' : ¬(4 ≤ (taken s port r (crossingPend s port r code w)).crOpen n) := by
    rw [State.crOpen, hacks]
    exact Nat.not_le.2 hopen
  have hqueue' : (taken s port r (crossingPend s port r code w)).cr.queue = [] := by rw [hcr, hqueue]
  have htake : s.crReq port r code =
      (taken s port r (crossingPend s port r code w)).crOperate (crossingPend s port r code w) code := by
    have hbind : (s.takeRx port 0 r.src).bindPend (reqPend r port (.crossing code) r.offset 8 none) w = crossingPend s port r code w := rfl
    have hop : (crossingPend s port r code w).op ≠ .writeBack := nofun
    simp only [State.crReq, State.arrive, hwf, hnodup, hcheck, hbind, Bool.false_eq_true, Bool.not_true, if_false, State.take, htracker, hop,
      false_and]
    rfl
  simp only [htake, State.crOperate, hnumber, hthere', hlost, hqueue', hopen']
  simp

theorem checks_of_atCrossing : (opType code = none ∨ opType code = some c.type) ∧ badArg code (r.operand.toNat % 2 ^ 48) = false := by
  obtain ⟨-, -, -, -, -, -, -, -, -, -, -, -, -, -, -, -, -, htype, hgood, -⟩ := h
  exact ⟨htype, hgood⟩

/-- An operation's step is what it does at its Crossing. -/
theorem exec_of_atCrossing {f : JPort → Bool → Req → Instr} (hrow : (f, code) ∈ crossingRows) (any : Bool) {t : State}
    (hstep : (taken s port r (crossingPend s port r code w)).crApply (crossingPend s port r code w) n c code = t) :
    exec (f port any r) s = .next t :=
  (exec_of_crossingRows hrow port any r s).trans (congrArg Host.Outcome.next ((crReq_of_atCrossing h).trans hstep))

/-- What an operation finds at its Crossing is what it found when it arrived. -/
theorem taken_atCrossing : (taken s port r (crossingPend s port r code w)).cr = s.cr ∧
    (taken s port r (crossingPend s port r code w)).mem = s.mem ∧ (taken s port r (crossingPend s port r code w)).clock = s.clock ∧
    (taken s port r (crossingPend s port r code w)).mute = false := by
  obtain ⟨-, -, -, -, -, -, -, -, -, -, -, -, -, -, -, -, -, -, -, hmute⟩ := h
  obtain ⟨-, -, -, hmem, hboot, -⟩ := taken_frame s port r (crossingPend s port r code w)
  obtain ⟨hcr, hclock, -⟩ := taken_keeps s port r (crossingPend s port r code w)
  exact ⟨hcr, hmem, hclock, (mute_congr hboot).trans hmute⟩

end

/-! ### The answer -/

/-- An answer whose change is still to be written waits (R30, R173). -/
theorem answerHeld_ackOrReply (s : State) (line : Nat) (p : Pend) (a : Dat) (after : List Signal) :
    AnswerHeld (s.ackOrReply line p a (true, false, false) after) line a :=
  ⟨⟨line, true, false, false, p, a, after⟩, List.mem_append_right _ List.mem_cons_self, rfl, rfl, .inl rfl⟩

/-- An answer that waits for nothing is sent (R76). -/
theorem mem_ackOrReply {s : State} {p : Pend} (hmute : s.mute = false) (hport : p.port ≠ 12) (line : Nat) (a : Dat) :
    Out.dat p.port a ∈ (s.ackOrReply line p a (false, false, false) []).out := by
  simpa [State.ackOrReply, hport] using mem_sendDat hmute p.port p.flow (some p.district) a

/-- The answer to a Crossing operation (R76, R176). -/
def crAnswer (p : Pend) (seq result outcome : Nat) : Dat :=
  ⟨.atomicResult, p.src, p.tag, Jl.ok, 0, 0, some (crCell result seq outcome)⟩

/-- The Crossing after an operation that changes it (R173, R174). -/
def crossingAfter (c : Crossing) (p : Pend) (code : Nat) : Crossing :=
  { (c.effect code (p.operand.toNat % 2 ^ 48)).c with
    seq := c.seq + 1, sat := c.sat,
    journal := ((p.src, p.tag, (c.effect code (p.operand.toNat % 2 ^ 48)).result % 2 ^ 32) :: c.journal).take 4 }

/-- The state in which an operation has changed its Crossing and ended the registrations that it signals (R173, R181). -/
def crossingChanged (s : State) (p : Pend) (n : Nat) (c : Crossing) (code : Nat) : State :=
  let t := (s.tallyAv (n % 8) 0x508).setCrossing n (crossingAfter c p code)
  t.dropRegs (t.cr.signalled n code c (crossingAfter c p code))

/-- The registration that an operation makes (R179). -/
def crRegistration (s : State) (p : Pend) (n code : Nat) : Registration :=
  ⟨p.src, p.operand.toNat / 2 ^ 48, n, code, p.operand.toNat % 2 ^ 48, s.clock⟩

/-- The state in which an operation has registered its requester (R179). -/
def crRegistered (s : State) (p : Pend) (n code : Nat) : State :=
  { s.tallyAv (n % 8) 0x508 with cr := { s.cr with regs := s.cr.regs ++ [crRegistration s p n code] } }

/-- The state in which an operation has ended a registration (R179). -/
def crUnregistered (s : State) (n : Nat) (x : Registration) : State := (s.tallyAv (n % 8) 0x508).dropRegs [x]

section
variable {s : State} {p : Pend} {n : Nat} {c : Crossing} {code : Nat}

/-- The first checks on an operation at its Crossing, where they pass: its type, and a cookie that is in use (R176, R179). -/
theorem crApply_checks (htype : opType code = none ∨ opType code = some c.type)
    (hfresh : code ∈ [0x13, 0x15, 0x19, 0x1C] →
      ∀ x ∈ s.cr.regs, x.crossing % 8 = n % 8 → ¬(x.node = p.src ∧ x.cookie = p.operand.toNat / 2 ^ 48)) :
    ((opType code).isSome && opType code != some c.type) = false ∧
    ([0x13, 0x15, 0x19, 0x1C].contains code && ((s.tallyAv (n % 8) 0x508).regsIn (n % 8)).any fun r =>
      r.node == p.src && r.cookie == p.operand.toNat / 2 ^ 48) = false := by
  refine ⟨by rcases htype with h | h <;> simp [h], ?_⟩
  rw [Bool.and_eq_false_iff]
  by_cases hwaits : code ∈ [0x13, 0x15, 0x19, 0x1C]
  · refine .inr (List.any_eq_false.2 fun x hx => ?_)
    obtain ⟨hx, hshare⟩ := List.mem_filter.1 hx
    simpa using hfresh hwaits x hx (by simpa using hshare)
  · exact .inl (by simpa using hwaits)

section
variable (htype : opType code = none ∨ opType code = some c.type) (hgood : badArg code (p.operand.toNat % 2 ^ 48) = false)
  (hfresh : code ∈ [0x13, 0x15, 0x19, 0x1C] →
    ∀ x ∈ s.cr.regs, x.crossing % 8 = n % 8 → ¬(x.node = p.src ∧ x.cookie = p.operand.toNat / 2 ^ 48))
  (hop : code ≠ 0x1D)
include htype hgood hfresh hop

/-- An operation that changes its Crossing is answered once the backing line is written (R173 to R176, R181). -/
theorem crApply_of_changing (hstays : (c.effect code (p.operand.toNat % 2 ^ 48)).registers = false)
    (hchanges : (c.effect code (p.operand.toNat % 2 ^ 48)).journal = true)
    (hheld : (c.effect code (p.operand.toNat % 2 ^ 48)).held = false) (hseq : c.seq + 1 < 2 ^ 64) :
    ∃ after, s.crApply p n c code = (crossingChanged s p n c code).ackOrReply (crLine n) p (crAnswer p (c.seq + 1)
      (c.effect code (p.operand.toNat % 2 ^ 48)).result (c.effect code (p.operand.toNat % 2 ^ 48)).outcome) (true, false, false) after := by
  obtain ⟨hright, hunused⟩ := crApply_checks htype hfresh
  obtain ⟨hmin, hmax⟩ := min_crMax hseq
  have hlow : decide (crMax < c.seq + 1) = false := decide_eq_false (Nat.not_lt.2 hmax)
  simp only [State.crApply, hright, hgood, hunused, hop, hstays, hchanges, hheld, hmin, hlow, Bool.or_false, Bool.not_true, Bool.false_eq_true,
    if_false]
  exact ⟨_, rfl⟩

/-- An operation that neither changes its Crossing nor registers its requester is answered at once (R176). -/
theorem crApply_of_unchanging (hstays : (c.effect code (p.operand.toNat % 2 ^ 48)).registers = false)
    (hkeeps : (c.effect code (p.operand.toNat % 2 ^ 48)).journal = false) :
    s.crApply p n c code = (s.tallyAv (n % 8) 0x508).ackOrReply (crLine n) p (crAnswer p c.seq
      (c.effect code (p.operand.toNat % 2 ^ 48)).result (c.effect code (p.operand.toNat % 2 ^ 48)).outcome) (false, false, false) [] := by
  obtain ⟨hright, hunused⟩ := crApply_checks htype hfresh
  simp only [State.crApply, hright, hgood, hunused, hop, hstays, hkeeps, Bool.not_false, Bool.false_eq_true, if_false, if_true]
  rfl

/-- An operation whose condition does not hold registers its requester where the share has room (R179). -/
theorem crApply_of_registering (hwaits : (c.effect code (p.operand.toNat % 2 ^ 48)).registers = true) (hroom : s.cr.regs.length < 16384) :
    s.crApply p n c code = (crRegistered s p n code).ackOrReply (crLine n) p (crAnswer p c.seq
      (c.effect code (p.operand.toNat % 2 ^ 48)).result 2) (true, false, false) [] := by
  obtain ⟨hright, hunused⟩ := crApply_checks htype hfresh
  have hlength : ((s.tallyAv (n % 8) 0x508).regsIn (n % 8)).length ≤ s.cr.regs.length := List.length_filter_le _ _
  have hfits : ¬(16384 ≤ ((s.tallyAv (n % 8) 0x508).regsIn (n % 8)).length) := by omega
  simp only [State.crApply, hright, hgood, hunused, hop, hwaits, hfits, Bool.false_eq_true, if_false, if_true]
  rfl

end

/-- CR_UNWAIT ends the requester's registration (R179). -/
theorem crApply_of_unwaiting {x : Registration} (hgood : badArg 0x1D (p.operand.toNat % 2 ^ 48) = false) (hregs : s.cr.regs = [x])
    (hn : x.crossing = n) (hnode : x.node = p.src) (hcookie : x.cookie = p.operand.toNat / 2 ^ 48) :
    s.crApply p n c 0x1D = (crUnregistered s n x).ackOrReply (crLine n) p (crAnswer p c.seq 0 0) (true, false, false) [] := by
  obtain ⟨hright, hunused⟩ := crApply_checks (s := s) (p := p) (n := n) (c := c) (code := 0x1D) (.inl rfl) (by simp)
  have hfound : ((s.tallyAv (n % 8) 0x508).cr.regs.find? fun r =>
      r.crossing == n && r.node == p.src && r.cookie == p.operand.toNat / 2 ^ 48) = some x := by
    simp [State.tallyAv, State.tally, hregs, hn, hnode, hcookie]
  simp only [State.crApply, hright, hgood, hunused, hfound, Bool.false_eq_true, if_false, if_true]
  rfl

end

/-! ### The statement -/

theorem dropRegs_self (s : State) {x : Registration} (h : s.cr.regs = [x]) : (s.dropRegs [x]).cr.regs = [] := by
  simp [State.dropRegs, h]

theorem cr_ackOrReply (s : State) (line : Nat) (p : Pend) (a : Dat) (need : Bool × Bool × Bool) (after : List Signal) :
    (s.ackOrReply line p a need after).cr = s.cr := by simp

theorem cr_sendSignals (s : State) (ms : List Signal) : (s.sendSignals ms).cr = s.cr := by simp

theorem crossing_ackOrReply (s : State) (line : Nat) (p : Pend) (a : Dat) (need : Bool × Bool × Bool) (after : List Signal) (n : Nat) :
    (s.ackOrReply line p a need after).crossing n = s.crossing n := by
  rw [State.crossing, cr_ackOrReply]
  rfl

theorem crossing_crossingChanged (s : State) (p : Pend) (n : Nat) (c : Crossing) (code m : Nat) :
    (crossingChanged s p n c code).crossing m = if m = n then some (crossingAfter c p code) else s.crossing m := Table.get_put ..

/-- A registration that has lasted WAIT_MAX ends with a Signal (R181, R188). -/
theorem execRegistrationExpired_of_there {s : State} {n node cookie : Nat} {x : Registration} {c : Crossing} (hregs : s.cr.regs = [x])
    (hn : x.crossing = n) (hnode : x.node = node) (hcookie : x.cookie = cookie) (hthere : s.crossing n = some c) :
    execRegistrationExpired n node cookie s =
      .next (((s.passTo (x.since + s.avFld (n % 8) 0x500 15 0 * 1000000)).dropRegs [x]).sendSignals [c.signalTo x 4]) := by
  have hfound : (s.cr.regs.find? fun r => r.crossing == n && r.node == node && r.cookie == cookie) = some x := by
    simp [hregs, hn, hnode, hcookie]
  simp only [execRegistrationExpired, hfound, hthere]

/-- A Signal is sent at once (R180). -/
theorem mem_sendSignals_single {s : State} (hmute : s.mute = false) (m : Signal) : Out.signal 12 m ∈ (s.sendSignals [m]).out :=
  out_sub_post _ _ _ (State.mem_emit _ hmute)

/-- Settles O28: an operation that passes its checks is applied to its Crossing, and the branch of R174 that its effect takes says what it
leaves and how it is answered. -/
theorem crossings : Obligations.Crossings := by
  refine ⟨?effects, ?changes, ?unchanging, ?registers, ?unwaits, ?expires⟩
  case effects =>
    intro c a hsum hone hsecond
    refine ⟨rfl, effect_semRelease hsum, effect_semTake_of_le, effect_semTake_of_lt, effect_jctArrive_last hsecond,
      effect_jctArrive_more hsecond, effect_jctWait hsecond, rfl, rfl, ?_, rfl, effect_tktTake hone, effect_tktRelease_of_eq hsecond,
      effect_tktRelease_of_ne hsecond, effect_tktWait hsecond⟩
    obtain ⟨hvalue, hresult⟩ := effect_flagClear (c := c) (a := a)
    rw [hvalue]
    exact ⟨ldiff_and_self _ _, ldiff_or_and _ _, hresult⟩
  case changes =>
    intro s port any r f code w n c hrow hat hstays hop hfresh hchanges hheld hseq
    obtain ⟨hcr, hmem, -, -⟩ := taken_atCrossing hat
    obtain ⟨htype, hgood⟩ := checks_of_atCrossing hat
    obtain ⟨after, hstep⟩ := crApply_of_changing (p := crossingPend s port r code w) htype hgood (fun h x hx => hfresh h x (hcr ▸ hx)) hop
      hstays hchanges hheld hseq
    refine ⟨_, exec_of_atCrossing hat hrow any hstep, ?_, fun m hm => ?_, answerHeld_ackOrReply .., by simpa [crossingChanged] using hmem⟩
    · rw [crossing_ackOrReply, crossing_crossingChanged, if_pos rfl]
      rfl
    · rw [crossing_ackOrReply, crossing_crossingChanged, if_neg hm, State.crossing, hcr]
      rfl
  case unchanging =>
    intro s port any r f code w n c hrow hat hstays hop hfresh hkeeps
    obtain ⟨hcr, hmem, -, hmute⟩ := taken_atCrossing hat
    obtain ⟨htype, hgood⟩ := checks_of_atCrossing hat
    have hstep := crApply_of_unchanging (p := crossingPend s port r code w) htype hgood (fun h x hx => hfresh h x (hcr ▸ hx)) hop hstays hkeeps
    refine ⟨_, exec_of_atCrossing hat hrow any hstep, by simpa using hcr, by simpa using hmem,
      mem_ackOrReply (p := crossingPend s port r code w) ?_ (Nat.ne_of_lt port.isLt) _ _⟩
    exact hmute
  case registers =>
    intro s port any r f code w n c hrow hat hwaits hop hfresh hroom
    obtain ⟨hcr, -, hclock, -⟩ := taken_atCrossing hat
    obtain ⟨htype, hgood⟩ := checks_of_atCrossing hat
    have hstep := crApply_of_registering (p := crossingPend s port r code w) htype hgood (fun _ x hx => hfresh x (hcr ▸ hx)) hop hwaits
      (hcr ▸ hroom)
    refine ⟨_, exec_of_atCrossing hat hrow any hstep, ?_, by simp [crRegistered, hcr], answerHeld_ackOrReply ..⟩
    simp only [State.ackOrReply_frame, crRegistered, crRegistration, hcr, hclock]
    rfl
  case unwaits =>
    intro s port any r w n c x hat hregs hn hnode hcookie
    obtain ⟨hcr, -⟩ := taken_atCrossing hat
    obtain ⟨-, hgood⟩ := checks_of_atCrossing hat
    have hregs' := (congrArg Cross.regs hcr).trans hregs
    have hstep := crApply_of_unwaiting (p := crossingPend s port r 0x1D w) (c := c) hgood hregs' hn hnode hcookie
    refine ⟨_, exec_of_atCrossing hat (f := .crUnwait) (by simp [crossingRows]) any hstep, ?_, ?_, answerHeld_ackOrReply ..⟩
    · rw [cr_ackOrReply]
      exact dropRegs_self _ hregs'
    · simp [crUnregistered, State.dropRegs, hcr]
  case expires =>
    intro s n node cookie x c hregs hn hnode hcookie hthere hmute
    refine ⟨_, execRegistrationExpired_of_there hregs hn hnode hcookie hthere, ?_, ?_, mem_sendSignals_single ?_ _, ?_⟩
    · rw [cr_sendSignals, dropRegs_self _ (by simpa using hregs)]
    · rw [cr_sendSignals]
      simp [State.dropRegs]
    · exact (mute_congr (by simp [State.dropRegs])).trans hmute
    · simpa using passTo_clock_ge s _

end Sys2Proof.Proofs
end

section
/-! The firmware push, from the boot register to firmware that runs (R195, R523, R536 to R538). -/

namespace Sys2Proof.Proofs

open Sys2Proof Sys2Proof.Machine Sys2Proof.Claims

/-! ### The ROM's checks of a bundle -/

section
variable {b : Bundle} {addr len : Nat}

/-- A bundle in the pushed form: its format, its length and the alignment of its address (R523). -/
def WellPushed (b : Bundle) (addr len : Nat) : Prop := b.formatOk = true ∧ b.length = len ∧ addr % 64 = 0

theorem bootCheck_of_badForm (h : b.formatOk = false ∨ b.length ≠ len ∨ addr % 64 ≠ 0) : bootCheck b addr len = 1 := by
  rw [bootCheck, if_pos]
  rcases h with h | h | h <;> simp [h]

theorem bootCheck_of_badSignature (h : WellPushed b addr len) (hsig : b.signatureOk = false) : bootCheck b addr len = 3 := by
  obtain ⟨hformat, hlen, haddr⟩ := h
  simp [bootCheck, hformat, hlen, haddr, hsig]

theorem bootCheck_of_signed (h : WellPushed b addr len) (hsig : b.signatureOk = true) :
    bootCheck b addr len = if b.secVersion < Config.minSecVersion then 4 else 0 := by
  obtain ⟨hformat, hlen, haddr⟩ := h
  simp [bootCheck, hformat, hlen, haddr, hsig]

end

/-- The check of a bundle that has arrived, at the address and length of the boot registers (R536). -/
abbrev pushCheck (s : State) (b : Bundle) : Nat := bootCheck b (s.regs.val 0x40).toNat (s.regs.fld 0x48 26 0)

/-- The boot unit after the ROM has checked a bundle (R537). -/
def bootAfter (s : State) (b : Bundle) : Boot :=
  if pushCheck s b = 0 then { s.boot with st := .starting, fw := some b } else { s.boot with st := .failed, code := pushCheck s b }

theorem execBootLoadDone_of_arrived {s : State} (hst : s.boot.st = .loading) (b : Bundle) :
    execBootLoadDone (.arrived b) s = .next { s with boot := bootAfter s b } := by
  simp only [execBootLoadDone, bootAfter, pushCheck, hst, ne_eq, not_true_eq_false, if_false]
  split <;> rfl

/-- A check that fails leaves the push FAILED with its number. -/
theorem bootAfter_of_check {s : State} {b : Bundle} {n : Nat} (h : pushCheck s b = n + 1) :
    bootAfter s b = { s.boot with st := .failed, code := n + 1 } := by
  simp [bootAfter, h]

theorem bootAfter_of_pass {s : State} {b : Bundle} (h : pushCheck s b = 0) : bootAfter s b = { s.boot with st := .starting, fw := some b } := by
  simp [bootAfter, h]

/-! ### The Avenues at the start -/

/-- Avenue n serves share n, and Avenue S the first share without one (R538). -/
theorem mem_servers {passed : List Nat} {x : Nat × Option Nat} : x ∈ servers passed ↔ x.1 < 8 ∧ x.2 =
    if passed.contains x.1 then some x.1
    else if passed.contains 8 && ((List.range 8).filter fun n => !passed.contains n).head? == some x.1 then some 8 else none := by
  obtain ⟨n, o⟩ := x
  simp only [servers, List.mem_map, List.mem_range, Prod.mk.injEq]
  constructor
  · rintro ⟨k, hk, rfl, rfl⟩
    exact ⟨hk, rfl⟩
  · rintro ⟨hn, ho⟩
    exact ⟨n, hn, rfl, ho.symm⟩

/-- The Avenue of a share has passed its self-test: its own, or Avenue S for the first share that lacks one (R538). -/
theorem server_cases {passed : List Nat} {n a : Nat} (h : (n, some a) ∈ servers passed) : n < 8 ∧ a ∈ passed ∧
    (a = n ∨ a = 8 ∧ ((List.range 8).filter fun n => !passed.contains n).head? = some n) := by
  obtain ⟨hn, ha⟩ := mem_servers.1 h
  refine ⟨hn, ?_⟩
  simp only at ha
  split at ha
  case isTrue hp =>
    obtain rfl := Option.some.inj ha
    exact ⟨List.contains_iff_mem.1 hp, .inl rfl⟩
  case isFalse =>
    split at ha
    case isTrue hs =>
      obtain rfl := Option.some.inj ha
      obtain ⟨hpassed, hhead⟩ := (Bool.and_eq_true _ _).mp hs
      exact ⟨List.contains_iff_mem.1 hpassed, .inr ⟨rfl, eq_of_beq hhead⟩⟩
    case isFalse => cases ha

/-- No Avenue serves two shares. -/
theorem server_injective {passed : List Nat} {m n a : Nat} (hm : (m, some a) ∈ servers passed)
    (hn : (n, some a) ∈ servers passed) : m = n := by
  obtain ⟨hm8, -, hmcase⟩ := server_cases hm
  obtain ⟨hn8, -, hncase⟩ := server_cases hn
  rcases hmcase with hown | ⟨hspare, hmfirst⟩ <;> rcases hncase with hown' | ⟨hspare', hnfirst⟩
  · exact hown.symm.trans hown'
  · omega
  · omega
  · exact Option.some.inj (hmfirst.symm.trans hnfirst)

theorem mem_servers_of_passed {passed : List Nat} {n : Nat} (hn : n < 8) (h : n ∈ passed) : (n, some n) ∈ servers passed :=
  mem_servers.2 ⟨hn, by simp [h]⟩

theorem head?_missing {passed : List Nat} {n : Nat} (hn : n < 8) (h : n ∉ passed) (hfirst : ∀ k, k < n → k ∈ passed) :
    ((List.range 8).filter fun n => !passed.contains n).head? = some n := by
  rw [List.head?_filter, List.find?_range_eq_some]
  exact ⟨by simp [h], List.mem_range.2 hn, fun k hk => by simp [hfirst k hk]⟩

theorem mem_servers_of_missing {passed : List Nat} {n : Nat} (hn : n < 8) (h : n ∉ passed) (hs : 8 ∈ passed)
    (hfirst : ∀ k, k < n → k ∈ passed) : (n, some 8) ∈ servers passed := by
  refine mem_servers.2 ⟨hn, ?_⟩
  simp only [head?_missing hn h hfirst]
  simp [h, hs]

/-- The Avenues that failed their self-test are FAILED (R538). -/
def avenuesTested (s : State) (passed : List Nat) : State :=
  (List.range 9).foldl (fun s a => if passed.contains a then s else s.startFailed a) s

/-- The other Avenues serve their shares (R538). -/
def sharesServed (s : State) (build : Nat) (passed : List Nat) : State :=
  (servers passed).foldl (fun s x => s.startServing build x.1 x.2) (avenuesTested s passed)

theorem av_startFailed (s : State) (a b : Nat) :
    (s.startFailed a).av b = if b = a then { s.av a with role := .failed, share := none } else s.av b := by
  simp [State.startFailed]

theorem role_avenuesTested (s : State) {passed : List Nat} {a : Nat} (ha : a < 9) (h : a ∉ passed) :
    ((avenuesTested s passed).av a).role = .failed := by
  refine foldl_establishes (P := fun a (s : State) => a ∉ passed → (s.av a).role = .failed) (List.range 9) ?_ ?_ s a (List.mem_range.2 ha) h
  · intro s a _ hnot
    simp [hnot, av_startFailed]
  · intro s a _ b _ hb hnot
    split
    · exact hb hnot
    · rw [av_startFailed]
      split
      · rfl
      · exact hb hnot

/-- An Avenue's role and the share it serves. -/
def placeOf (s : State) (a : Nat) : AvRole × Option Nat := ((s.av a).role, (s.av a).share)

theorem av_startServing (s : State) (build n b : Nat) (o : Option Nat) : (s.startServing build n o).av b =
    if o = some b then { s.av b with role := .serving, share := some n, build := build } else s.av b := by
  cases o with
  | none => rfl
  | some a =>
    simp only [State.startServing, State.av_setAv, Option.some.injEq]
    split
    case isTrue h => rw [h, if_pos rfl]
    case isFalse h => rw [if_neg (Ne.symm h)]

theorem placeOf_server (s : State) (build : Nat) {passed : List Nat} {n a : Nat} (h : (n, some a) ∈ servers passed) :
    placeOf (sharesServed s build passed) a = (.serving, some n) := by
  refine foldl_establishes (P := fun (x : Nat × Option Nat) (s : State) => ∀ a, x.2 = some a →
    placeOf s a = (.serving, some x.1)) (servers passed) ?_ ?_ _ _ h a rfl
  · intro s x _ a ha
    simp [placeOf, av_startServing, ha]
  · intro s x hx y hy hserves a ha
    rw [placeOf, av_startServing]
    split
    case isTrue hxa =>
      have hsame : x.1 = y.1 := server_injective (passed := passed) (a := a) (hxa ▸ hx) (ha ▸ hy)
      simp [hsame]
    case isFalse => exact hserves a ha

theorem failed_sharesServed (s : State) (build : Nat) {passed : List Nat} {a : Nat} (ha : a < 9) (h : a ∉ passed) :
    ((sharesServed s build passed).av a).role = .failed := by
  refine List.foldlRecOn (servers passed) _ (motive := fun t : State => (t.av a).role = .failed) (role_avenuesTested s ha h)
    fun t ht x hx => ?_
  rw [av_startServing, if_neg]
  · exact ht
  · intro hxa
    have hserver : (x.1, some a) ∈ servers passed := by rwa [← hxa]
    obtain ⟨-, hpassed, -⟩ := server_cases hserver
    exact h hpassed

/-- Avenue S, in self-test, notes the build that it runs (R538). -/
def spareNoted (s : State) (build : Nat) : State :=
  if (s.av 8).role = .selfTest then s.setAv 8 { s.av 8 with build := build } else s

theorem placeOf_spareNoted (s : State) (build a : Nat) : placeOf (spareNoted s build) a = placeOf s a := by
  simp only [spareNoted]
  split
  · simp only [placeOf, State.av_setAv]
    split
    case isTrue h => rw [h]
    case isFalse => rfl
  · rfl

/-- The engines that failed are retired, and the central pairs start (R195, R537). -/
def coresStarted (s : State) (build : Nat) (failed : List (Nat × Nat)) : State :=
  (List.range 3).foldl (fun s p => s.startCore build p)
    (failed.foldl (fun s x => if x.1 < 9 ∧ x.2 < 6 then s.retireEngine x.1 x.2 else s) s)

theorem placeOf_coresStarted (s : State) (build : Nat) (failed : List (Nat × Nat)) (a : Nat) :
    placeOf (coresStarted s build failed) a = placeOf s a := by
  have hcores := foldl_keeps (fun s => placeOf s a) (fun s p => s.startCore build p) (List.range 3)
    (failed.foldl (fun s x => if x.1 < 9 ∧ x.2 < 6 then s.retireEngine x.1 x.2 else s) s) fun _ _ => rfl
  refine hcores.trans (foldl_keeps (fun s => placeOf s a) _ failed s fun s x => ?_)
  rw [placeOf, av_congr (s := s) (by simp)]
  rfl

/-- The pool at the end of the start, but for `FW_READY` (R538). -/
def firmwareStarted (s : State) (r : StartResult) : State :=
  let build := (s.boot.fw.map (·.build)).getD 0
  coresStarted (spareNoted (sharesServed s build r.avenuesPassed) build) build r.enginesFailed

theorem placeOf_firmwareStarted (s : State) (r : StartResult) (a : Nat) :
    placeOf (firmwareStarted s r) a = placeOf (sharesServed s ((s.boot.fw.map (·.build)).getD 0) r.avenuesPassed) a :=
  (placeOf_coresStarted ..).trans (placeOf_spareNoted ..)

theorem execFwStartDone_of_images {s : State} {r : StartResult} (hst : s.boot.st = .starting) (himages : r.imagesOk = true) :
    execFwStartDone r s = .next { firmwareStarted s r with
      boot := { (firmwareStarted s r).boot with st := .running, fwReady := true }
      sec := { (firmwareStarted s r).sec with entropyOk := true } } := by
  simp only [execFwStartDone, hst, himages, ne_eq, not_true_eq_false, if_false, Bool.not_true, Bool.false_eq_true]
  rfl

/-- Settles O12: each check of the ROM in its order, and the choice of the servers at the start. -/
theorem boot : Obligations.Boot := by
  unfold Obligations.Boot
  refine ⟨?_, ?_, ?_, ?_, ?_, ?_, ?_⟩
  · intro s port val hmute hcode hst hgo
    obtain ⟨hlow, hclock⟩ := Bool.or_eq_false_iff.1 hmute
    have htaken : s.bootGo port val = { s with boot := { s.boot with st := .loading, code := 0, port := port.val } } := by
      simp [State.bootGo, hlow, hclock, hcode, hst, hgo]
    exact ⟨_, congrArg Host.Outcome.next htaken, rfl, rfl⟩
  · intro s b hst hformat hlen haddr hsig
    have hcheck : pushCheck s b = if b.secVersion < Config.minSecVersion then 4 else 0 := bootCheck_of_signed ⟨hformat, hlen, haddr⟩ hsig
    refine ⟨_, execBootLoadDone_of_arrived hst b, rfl, fun hmin => ?_, fun hmin => ?_⟩
    · exact bootAfter_of_pass (by rw [hcheck, if_neg (by omega)])
    · exact bootAfter_of_check (n := 3) (by rw [hcheck, if_pos hmin])
  · intro s b hst hbad
    exact ⟨_, execBootLoadDone_of_arrived hst b, bootAfter_of_check (n := 0) (bootCheck_of_badForm hbad)⟩
  · intro s b hst hformat hlen haddr hsig
    exact ⟨_, execBootLoadDone_of_arrived hst b, bootAfter_of_check (n := 2) (bootCheck_of_badSignature ⟨hformat, hlen, haddr⟩ hsig)⟩
  · intro s hst
    exact ⟨_, rfl, by simp [hst]⟩
  · intro s r hst himages
    have hplace := placeOf_firmwareStarted s r
    refine ⟨_, execFwStartDone_of_images hst himages, rfl, rfl, rfl, fun n hn hpassed => ?_, fun n hn hnot => ?_,
      fun n hn hnot hspare hfirst => ?_⟩
    · exact Prod.mk.inj ((hplace n).trans (placeOf_server _ _ (mem_servers_of_passed hn hpassed)))
    · exact (congrArg Prod.fst (hplace n)).trans (failed_sharesServed _ _ hn hnot)
    · exact Prod.mk.inj ((hplace 8).trans (placeOf_server _ _ (mem_servers_of_missing hn hnot hspare hfirst)))
  · intro s r hst himages
    exact ⟨_, rfl, by simp [hst, himages], by simp [hst, himages]⟩

end Sys2Proof.Proofs
end

section
/-! JOB_ABORT of no job, with a parameter it does not take (R237, R254). -/

namespace Sys2Proof.Proofs

open Sys2Proof Sys2Proof.Machine Sys2Proof.Claims

/-- A level-1 District of function 0 of H0. -/
def plainDistrict : District :=
  { st := .inService, level := 1, strength := 0, tiered := false, conf := false, fgroup := 0, engines := 0, shares := 0xFF, priority := 0,
    trkLimit := 64, copyQuota := 0, staging := 0, residentMax := 0, flashQuota := 0, fcopyQuota := 0, owner := 0, epoch := 1,
    nextVersion := 1, dramInstalled := false, flashInstalled := false, busyCmd := none, convCmd := none, convNext := 0, convDone := 0,
    convTo := 0, energyMetered := 0, energyEst := 0, energyFrom := 0, spaceTold := false, waitTold := false }

/-- A pool in service without a job: ring 0 of H0 runs, and its function owns District 5. -/
def idlePool : State := { State.reset with
  host := { State.reset.host with rings := [(0, { Ring.init with st := .running })] }
  maps := { State.reset.maps with districts := [(5, plainDistrict)] }
  boot := { State.reset.boot with fwReady := true, memReady := true, fw := some ⟨0, true, true, 0, 1, 0, 0, 1, 0, 0, 0, 0, 0, 0⟩ } }

/-- A JOB_ABORT with a `P3`, which it reserves. -/
def abortWithP3 : Cmd := ⟨0, ⟨0x3F, 1, 5, 7, 0, 0, 0, 0, 1, 0, 0, false⟩⟩

theorem starts_abortWithP3 : Starts idlePool abortWithP3 .d := by
  unfold Starts RingUp
  decide

/-- The statuses of the records that have been sent. -/
def statusesSent (s : State) : List Nat := s.out.filterMap fun o => match o with | .record _ _ _ r => some r.status | _ => none

theorem mem_statusesSent_of_ends {t : State} {c : Cmd} {status detail result : Nat} (h : Ends t c status detail result) :
    status ∈ statusesSent t := by
  obtain ⟨slot, phase, r, hr, -, hstatus, -⟩ := h
  exact List.mem_filterMap.2 ⟨_, hr, congrArg some hstatus⟩

/-- The reserved field is refused first, with status 0x14: check 1 of R237 comes before the search for the job. -/
theorem statusesSent_abortWithP3 {t : State} (h : exec (.jobAbort abortWithP3) idlePool = .next t) : statusesSent t = [0x14] := by
  obtain rfl := Host.Outcome.next.inj h
  decide

/-- Refutes O34: a JOB_ABORT that names no job and sets a reserved field is refused for the field, with 0x14, not with 0x12. -/
theorem not_operatorsQueued : ¬ Obligations.OperatorsQueued := by
  intro h
  obtain ⟨-, -, -, -, -, -, hnone⟩ := h
  obtain ⟨t, ht, -, hends⟩ := hnone idlePool abortWithP3 starts_abortWithP3 rfl (by decide)
  have hmem := mem_statusesSent_of_ends hends
  rw [statusesSent_abortWithP3 ht] at hmem
  simp at hmem

end Sys2Proof.Proofs
end

section
/-! Engines and jobs as parts of the state: what reads and writes of each leave of the other, and the engines that a job holds (R195, R201). -/

namespace Sys2Proof.Proofs

open Sys2Proof Sys2Proof.Machine Sys2Proof.Claims

/-! ### Reads after writes -/

theorem job_congr {s t : State} (h : t.eng.jobs = s.eng.jobs) (n : Nat) : t.job n = s.job n := by rw [State.job, h]; rfl

@[simp] theorem job_setEng (s : State) (a e : Nat) (x : Eng) (n : Nat) : (s.setEng a e x).job n = s.job n := rfl
@[simp] theorem engOf_setJob (s : State) (n : Nat) (j : Job) (a e : Nat) : (s.setJob n j).engOf a e = s.engOf a e := rfl
@[simp] theorem job_tally (s : State) (off k n : Nat) : (s.tally off k).job n = s.job n := rfl
@[simp] theorem engOf_tally (s : State) (off k a e : Nat) : (s.tally off k).engOf a e = s.engOf a e := rfl
@[simp] theorem engOf_raise (s : State) (source cause data : Nat) (d : Option Nat) (a e : Nat) :
    (s.raise source cause data d).engOf a e = s.engOf a e := engOf_congr (by simp) a e

/-- In a canonical table an entry is found at its key. -/
theorem get_of_mem {α : Type} {t : Table α} {e : Nat × α} (hwf : t.wf = true) (h : e ∈ t) : t.get e.1 = some e.2 := by
  induction t with
  | nil => cases h
  | cons x t ih =>
    obtain ⟨k, v⟩ := x
    obtain ⟨hlt, hrest⟩ := Table.wf_cons.1 hwf
    rcases List.mem_cons.1 h with rfl | h
    · simp [Table.get]
    · rw [Table.get, if_neg (Nat.ne_of_gt (hlt e h))]
      exact ih hrest h

/-! ### The engines of a job -/

theorem mem_engsOf {s : State} {n : Nat} {x : Nat × Nat} :
    x ∈ s.engsOf n ↔ x.1 < 9 ∧ x.2 < 6 ∧ (s.engOf x.1 x.2).job = some n := by
  obtain ⟨a, e⟩ := x
  simp [State.engsOf, engIdx]

/-- An engine of a job is numbered below 8. -/
theorem lt_of_mem_engsOf {s : State} {n : Nat} {x : Nat × Nat} (h : x ∈ s.engsOf n) : x.2 < 8 := by
  obtain ⟨-, hlt, -⟩ := mem_engsOf.1 h
  omega

theorem engsOf_congr {s t : State} (h : t.eng.engs = s.eng.engs) (n : Nat) : t.engsOf n = s.engsOf n := by
  simp only [State.engsOf, engOf_congr h]

/-- A pass over engines by Avenue is a pass over the engines one by one. -/
theorem foldl_engines (f : State → Nat → Nat → State) (picks : List (Nat × List Nat)) (s : State) :
    picks.foldl (fun s p => p.2.foldl (fun s e => f s p.1 e) s) s =
      (picks.flatMap fun p => p.2.map (Prod.mk p.1)).foldl (fun s x => f s x.1 x.2) s := by
  simp only [List.foldl_flatMap, List.foldl_map]

theorem mem_pickedEngines {picks : List (Nat × List Nat)} {x : Nat × Nat} :
    (x ∈ picks.flatMap fun p => p.2.map (Prod.mk p.1)) ↔ ∃ p ∈ picks, x.1 = p.1 ∧ x.2 ∈ p.2 := by
  obtain ⟨a, e⟩ := x
  simp only [List.mem_flatMap, List.mem_map, Prod.mk.injEq]
  constructor
  · rintro ⟨p, hp, k, hk, rfl, rfl⟩
    exact ⟨p, hp, rfl, hk⟩
  · rintro ⟨p, hp, rfl, he⟩
    exact ⟨p, hp, e, he, rfl, rfl⟩

end Sys2Proof.Proofs
end

section
/-! A job that streams: its engines wake, its lines are read, and its units and partials are worked off (R193 to R197). -/

namespace Sys2Proof.Proofs

open Sys2Proof Sys2Proof.Machine Sys2Proof.Claims

/-! ### Waking -/

/-- A job whose engines are awake loads its activations (R201, step 5). -/
theorem wakeStep_of_awake {s : State} {n : Nat} {j : Job} (hjob : s.job n = some j) (hphase : j.phase = .waking)
    (hawake : ∀ x ∈ s.engsOf n, (s.engOf x.1 x.2).st ≠ .waking) : s.wakeStep n = s.setJob n { j with phase := .loading } := by
  have hall : ((s.engsOf n).all fun x => (s.engOf x.1 x.2).st != .waking) = true :=
    List.all_eq_true.2 fun x hx => bne_iff_ne.2 (hawake x hx)
  simp [State.wakeStep, hjob, hphase, hall]

/-- A step of waking leaves the engines, and takes a job to loading at most (R201). -/
theorem wakeStep_keeps {s : State} {n : Nat} {j : Job} (hjob : s.job n = some j) : (s.wakeStep n).eng.engs = s.eng.engs ∧
    ((s.wakeStep n).job n = some j ∨ (s.wakeStep n).job n = some { j with phase := .loading }) := by
  simp only [State.wakeStep, hjob]
  split
  · exact ⟨rfl, .inr (by simp)⟩
  · exact ⟨rfl, .inl hjob⟩

/-- An engine takes no unit of a job that does not stream. -/
theorem takeUnit_of_phase {s : State} {n : Nat} {j : Job} (hjob : s.job n = some j) (hphase : j.phase ≠ .streaming) (a e : Nat) :
    s.takeUnit n a e = s := by
  simp only [State.takeUnit, hjob]
  split
  · simp_all
  · rfl

/-- The state with a WAKING engine IDLE at its clock (R195). -/
def woken (s : State) (a e : Nat) : State := s.setEng a e { s.engOf a e with st := .idle, fcur := s.clockOf a e }

theorem execEngineWakeDone_of_free {s : State} {av : Avenue} {eng : Engine} (hst : (s.engOf av eng).st = .waking)
    (hfree : (s.engOf av eng).job = none) : execEngineWakeDone av eng s = .next (woken s av eng) := by
  simp [execEngineWakeDone, woken, hst, hfree]

theorem execEngineWakeDone_of_job {s : State} {av : Avenue} {eng : Engine} {n : Nat} (hst : (s.engOf av eng).st = .waking)
    (hjob : (s.engOf av eng).job = some n) :
    execEngineWakeDone av eng s = .next (((woken s av eng).wakeStep n).takeUnit n av eng) := by
  simp [execEngineWakeDone, woken, hst, hjob]

/-- Where the others are awake, every engine of the job is awake with this one. -/
theorem awake_woken {s : State} {av : Avenue} {eng : Engine} {n : Nat}
    (hothers : ∀ x ∈ s.engsOf n, x ≠ (av.val, eng.val) → (s.engOf x.1 x.2).st ≠ .waking) :
    ∀ x ∈ (woken s av eng).engsOf n, ((woken s av eng).engOf x.1 x.2).st ≠ .waking := by
  intro x hx
  obtain ⟨ha, he, hjob⟩ := mem_engsOf.1 hx
  rw [woken, engOf_setEng s _ (by omega) (by omega)] at hjob ⊢
  split
  case isTrue => simp
  case isFalse hne =>
    rw [if_neg hne] at hjob
    exact hothers x (mem_engsOf.2 ⟨ha, he, hjob⟩) fun heq => hne (by simp [heq])

/-! ### Units -/

/-- The next unit of a share's work, and the job that has handed it out (R196, R203). -/
def unitOf (j : Job) (w : Nat × ShareWork) : Option (Nat × Job) :=
  match w.2.back with
  | u :: t => some (w.1 * 2 ^ 32 + u, { j with work := j.work.put w.1 { w.2 with back := t } })
  | [] => if w.2.next < w.2.total then
      some (w.1 * 2 ^ 32 + w.2.next, { j with work := j.work.put w.1 { w.2 with next := w.2.next + 1 } }) else none

/-- A fold that keeps the first success finds it. -/
theorem foldl_first {α β : Type} (f : α → Option β) (g : Option β → α → Option β) (hsome : ∀ b a, g (some b) a = some b)
    (hnone : ∀ a, g none a = f a) (l : List α) : l.foldl g none = l.findSome? f := by
  have hkept : ∀ (l : List α) b, l.foldl g (some b) = some b := fun l b => by
    induction l with
    | nil => rfl
    | cons a l ih => rw [List.foldl_cons, hsome, ih]
  induction l with
  | nil => rfl
  | cons a l ih =>
    rw [List.foldl_cons, hnone, List.findSome?_cons]
    cases f a with
    | none => exact ih
    | some b => exact hkept l b

theorem nextUnit_eq (j : Job) (k : Nat) : j.nextUnit k = (j.work.filter fun w => w.2.cluster == k).findSome? (unitOf j) :=
  foldl_first _ _ (fun _ _ => rfl) (fun _ => rfl) _

/-- A job that has handed out a unit of a share: of its work no more than that share's units to come have changed. -/
def UnitTaken (j i : Job) : Prop :=
  ∃ w ∈ j.work, ∃ v : ShareWork, v.done = w.2.done ∧ v.total = w.2.total ∧ i = { j with work := j.work.put w.1 v }

theorem unitTaken_of_unitOf {j i : Job} {w : Nat × ShareWork} {u : Nat} (hw : w ∈ j.work) (h : unitOf j w = some (u, i)) :
    UnitTaken j i := by
  simp only [unitOf] at h
  split at h
  case h_1 _ rest _ =>
    obtain ⟨-, rfl⟩ := Prod.mk.inj (Option.some.inj h)
    exact ⟨w, hw, { w.2 with back := rest }, rfl, rfl, rfl⟩
  case h_2 =>
    split at h
    · obtain ⟨-, rfl⟩ := Prod.mk.inj (Option.some.inj h)
      exact ⟨w, hw, { w.2 with next := w.2.next + 1 }, rfl, rfl, rfl⟩
    · cases h

theorem unitTaken_of_nextUnit {j i : Job} {k u : Nat} (h : j.nextUnit k = some (u, i)) : UnitTaken j i := by
  rw [nextUnit_eq] at h
  obtain ⟨w, hw, hunit⟩ := List.exists_of_findSome?_eq_some h
  exact unitTaken_of_unitOf (List.mem_filter.1 hw).1 hunit

/-- An engine that takes a unit leaves its job as it is, or with that unit handed out (R195, R196). -/
theorem job_takeUnit {s : State} {n : Nat} {j : Job} (hjob : s.job n = some j) (a e : Nat) :
    ∃ i, (s.takeUnit n a e).job n = some i ∧ (i = j ∨ UnitTaken j i) := by
  have hsame : ∃ i, s.job n = some i ∧ (i = j ∨ UnitTaken j i) := ⟨j, hjob, .inl rfl⟩
  simp only [State.takeUnit, hjob]
  split
  case h_1 j' k hj hk =>
    obtain rfl := Option.some.inj hj
    split
    · exact hsame
    · split
      case h_1 u i hnext => exact ⟨i, by simp, .inr (unitTaken_of_nextUnit hnext)⟩
      case h_2 => exact hsame
  case h_2 => exact hsame

/-- What a job that streams keeps while its engines take units. -/
def StreamsAs (j : Job) (t : State) (n : Nat) : Prop :=
  ∃ i, t.job n = some i ∧ i.phase = .streaming ∧ i.cmd = j.cmd ∧ i.input = j.input

theorem streamsAs_takeUnits {s : State} {n : Nat} {j : Job} (h : StreamsAs j s n) : StreamsAs j (s.takeUnits n) n := by
  refine List.foldlRecOn (s.engsOf n) _ (motive := fun t : State => StreamsAs j t n) h fun t ht x _ => ?_
  obtain ⟨i, hi, hphase, hcmd, hinput⟩ := ht
  obtain ⟨k, hk, rfl | ⟨w, -, v, -, -, rfl⟩⟩ := job_takeUnit hi x.1 x.2
  · exact ⟨k, hk, hphase, hcmd, hinput⟩
  · exact ⟨_, hk, hphase, hcmd, hinput⟩

/-- A job without activations streams when its load ends (R193, R201). -/
theorem execActivationLoadDone_of_none {s : State} {n : Nat} {j : Job} (hjob : s.job n = some j) (hphase : j.phase = .loading)
    (hnone : actNeeds j = []) (hfaults : j.faults = []) :
    execActivationLoadDone n s = .next ((s.setJob n { j with phase := .streaming }).takeUnits n) := by
  simp [execActivationLoadDone, hjob, hphase, hnone, hfaults, Cap.readAll]

/-! ### Reading -/

/-- A value at hand lies at an address in memory (R118). -/
theorem site_of_look {s : State} {d da : Nat} {bound : Option Nat} {v : LineData} (h : s.look d bound da = .value v) :
    ∃ pa, s.site d bound da = .at pa := by
  simp only [State.look] at h
  split at h
  case h_4 pa hsite => exact ⟨pa, hsite⟩
  all_goals cases h

/-- The state after an engine has read a line at hand: the line is marked as present in an engine (R118). -/
def lineRead (s : State) (pa : Nat) (bound : Option Nat) : State :=
  { s.afterRead (pa / 64) with mem := { s.mem with cache := s.mem.cache.adjust (pa / 64) fun c => { c with mark := c.mark || bound.isNone } } }

theorem pullLines_of_value {s : State} {d da pa : Nat} {bound : Option Nat} {v : LineData} (h : s.look d bound da = .value v)
    (hsite : s.site d bound da = .at pa) (tag window : Nat) :
    s.pullLines tag window d bound [da] = (lineRead s pa bound, [(da, .value v)]) := by
  simp only [State.pullLines, h, hsite]
  rfl

/-- A job with a line joined to its input (R130). -/
def lineTaken (j : Job) (x : Need) (v : LineData) : Job := { j with input := j.input.put (inKey x.w x.off) (some v) }

/-- A line at hand joins a job's input; no cell of memory changes (R130, R196). -/
theorem read_of_value {s : State} {n : Nat} {j : Job} {x : Need} {y : Window} {v : LineData}
    (hwindow : s.opWindow j.cmd.d.district ⟨x.w, x.off⟩ = some y) (hread : y.r = true) (hin : x.off < y.span)
    (hnew : j.input.get (inKey x.w x.off) = none)
    (hlook : s.look j.cmd.d.district (if y.msBind then some y.msSlot else none) (y.base + x.off) = .value v) :
    ∃ t, (Cap.mk s j false).read n x = ⟨t, lineTaken j x v, false⟩ ∧ t.mem.cells = s.mem.cells := by
  obtain ⟨pa, hsite⟩ := site_of_look hlook
  refine ⟨lineRead s pa (if y.msBind then some y.msSlot else none), ?_, rfl⟩
  simp [Cap.read, lineTaken, hwindow, Option.filter_some, hread, hin, hnew, pullLines_of_value hlook hsite]

/-- A share whose one line is at hand has been read (R130, R196). -/
theorem execEngineReadData_of_value {s : State} {n : Nat} {share : Share} {j : Job} {w : ShareWork} {x : Need} {y : Window} {v : LineData}
    (hjob : s.job n = some j) (hphase : j.phase = .streaming) (hwork : j.work.get share = some w) (hunread : w.read = false)
    (hgemv : j.cmd.d.opcode ≠ 0x38) (hattend : j.cmd.d.opcode ≠ 0x3A) (happend : j.cmd.d.opcode ≠ 0x3B) (hfaults : j.faults = [])
    (hneeds : s.firstNeeds j = [x]) (hhome : s.windowHome x.w x.off = share.val)
    (hwindow : s.opWindow j.cmd.d.district ⟨x.w, x.off⟩ = some y) (hread : y.r = true) (hin : x.off < y.span)
    (hnew : j.input.get (inKey x.w x.off) = none)
    (hlook : s.look j.cmd.d.district (if y.msBind then some y.msSlot else none) (y.base + x.off) = .value v) :
    ∃ t, execEngineReadData n share s = .next t ∧ t.job n = some { j with
      input := j.input.put (inKey x.w x.off) (some v), work := j.work.put share { w with read := true } } ∧ t.mem.cells = s.mem.cells := by
  obtain ⟨u, hu, hcells⟩ := read_of_value (n := n) hwindow hread hin hnew hlook
  let i := { lineTaken j x v with work := j.work.put share { w with read := true } }
  have hkv : u.kvNeeds (lineTaken j x v) = [] := by simp [State.kvNeeds, lineTaken, hattend]
  have hbad : ∀ t : State, t.badChunks (lineTaken j x v) = [] := fun t => by simp [State.badChunks, lineTaken, hgemv]
  have hgood : (lineTaken j x v).faults = [] := hfaults
  have hsame : (lineTaken j x v).work = j.work := rfl
  refine ⟨(u.setJob n (lineTaken j x v)).setJob n i, ?_, by simp [i, lineTaken], hcells⟩
  have hstart : ¬(j.phase ≠ .streaming ∨ w.read = true) := by simp [hphase, hunread]
  simp only [execEngineReadData, hjob, hwork, if_neg hstart]
  simp [hattend, happend, hneeds, hhome, Cap.readAll, hu, hkv, hbad, hgood, hsame, i]

/-! ### Units and partials that are done -/

/-- A job with a unit of a share finished (R196). -/
def unitDone (j : Job) (share : Nat) (w : ShareWork) : Job := { j with work := j.work.put share { w with done := w.done + 1 } }

/-- The state in which an Avenue's engine has finished a unit of a job, and its Avenue has counted it (R197). -/
def unitCounted (s : State) (n a share : Nat) (j : Job) (w : ShareWork) : State :=
  (s.setJob n (unitDone j share w)).tally (0x200000 + a * 0x40000 + 0x638) 1

theorem execRowGroupDone_of_unit {s : State} {n a : Nat} {share : Share} {eng : Engine} {j : Job} {w : ShareWork}
    (hjob : s.job n = some j) (hphase : j.phase = .streaming) (hwork : j.work.get share = some w) (hread : w.read = true)
    (hserved : s.servedBy w.cluster = some a) (hmine : (s.engOf a eng).job = some n)
    (hgroup : (s.engOf a eng).group.map (· / 2 ^ 32) = some share.val) :
    execRowGroupDone n share eng s = .next (
      if (s.engOf a eng).drain then ((unitCounted s n a share j w).engOff a eng).tally (0x200000 + a * 0x40000 + 0x820) 1
      else ((unitCounted s n a share j w).setEng a eng { s.engOf a eng with st := .idle, group := none }).takeUnit n a eng) := by
  simp only [execRowGroupDone, hjob, hwork, Option.bind_some, hserved]
  have hworks : ¬(j.phase ≠ .streaming ∨ (!w.read) = true ∨ (s.engOf a eng).job ≠ some n ∨
      (s.engOf a eng).group.map (· / 2 ^ 32) ≠ some share.val) := by
    rw [hgroup]
    simp [hphase, hread, hmine]
  rw [if_neg hworks]
  rfl

/-- A further unit taken leaves what the shares have finished (R196). -/
theorem work_of_unitTaken {j i : Job} {share : Nat} {w : ShareWork} (hwf : j.work.wf = true) (hwork : j.work.get share = some w)
    (h : UnitTaken j i) : ∃ v, i.work.get share = some v ∧ v.done = w.done ∧ v.total = w.total := by
  obtain ⟨x, hx, v, hdone, htotal, rfl⟩ := h
  by_cases heq : share = x.1
  · have hxw : x.2 = w := Option.some.inj ((get_of_mem hwf hx).symm.trans (heq ▸ hwork))
    exact ⟨v, by simp [heq], by rw [hdone, hxw], by rw [htotal, hxw]⟩
  · exact ⟨w, by simpa [Table.get_put_of_ne _ _ heq] using hwork, rfl, rfl⟩

/-- All units finished, a share's partials arrive (R197). -/
theorem execPartialSumArrive_of_done {s : State} {n : Nat} {share : Share} {j : Job} {w : ShareWork} (hjob : s.job n = some j)
    (hphase : j.phase = .streaming) (hwork : j.work.get share = some w) (hdone : ∀ e ∈ j.work, e.2.done = e.2.total ∧ e.2.read = true) :
    execPartialSumArrive n share s = .next (s.setJob n { j with work := j.work.put share { w with arrived := true } }) := by
  have hall : (j.work.all fun e => e.2.done == e.2.total && e.2.read) = true :=
    List.all_eq_true.2 fun e he => by simp [hdone e he]
  simp [execPartialSumArrive, hjob, hwork, hphase, hall]

end Sys2Proof.Proofs
end

section
/-! The end of a job: its commit, the release and scrubbing of its engines, and its record (R198 to R201, R204, R227). -/

namespace Sys2Proof.Proofs

open Sys2Proof Sys2Proof.Machine Sys2Proof.Claims

/-! ### Commit -/

/-- Is a job's output withheld: its numeric outcome has a reason and `OPCTL` asks for it (R227)? -/
def withheld (s : State) (j : Job) : Bool := (s.madeOf j).reason != 0 && bitOf j.cmd.d.p0 1

/-- The status of a job that commits (R204, R227). -/
def commitStatus (s : State) (j : Job) : Nat :=
  if (s.madeOf j).reason ≠ 0 then Cs.faultNumeric else if (s.madeOf j).part then Cs.donePartial
    else if 1 < j.attempts then Cs.doneReissued else Cs.done

/-- A job whose commit starts (R198). -/
def committing (s : State) (j : Job) : Job :=
  let begun := { j with commitStarted := j.commitStarted || !withheld s j }
  { begun with
    phase := .committing
    kept := some (s.jobRecord begun (commitStatus s j) (s.madeOf j).reason (s.madeOf j).result false)
    after := if j.cmd.d.opcode = 0x38 ∧ bitOf j.cmd.d.p4 8 then
      [((oprefOf j.cmd.d.p5).window, (oprefOf j.cmd.d.p5).offset, (s.madeOf j).summary)] else [] }

/-- The state in which a job's outcome is decided and counted (R198, R231). -/
def outcomeSet (s : State) (n : Nat) (j : Job) : State :=
  (s.countTicks j.cmd.d.district (s.madeOf j).ticks).setJob n (committing s j)

/-- A job without a fault in its output commits it, unless it is withheld (R198, R227, R238). -/
theorem execJobCommitStart_of_faultless {s : State} {n : Nat} {j : Job} (hjob : s.job n = some j) (hphase : j.phase = .streaming)
    (harrived : ∀ e ∈ j.work, e.2.arrived = true)
    (hfaultless : ∀ g ∈ (s.madeOf j).segs, s.outFault j.cmd.d.district g.1 g.2.length = 0) :
    execJobCommitStart n false s = .next (
      if withheld s j then outcomeSet s n j else (outcomeSet s n j).writeSegs n j.cmd.d.district (s.madeOf j).segs) := by
  have hall : (j.work.all fun e => e.2.arrived) = true := List.all_eq_true.2 fun e he => harrived e he
  have hstart : ¬(j.phase ≠ .streaming ∨ (!(j.work.all fun e => e.2.arrived)) = true) := by simp [hphase, hall]
  have hnone : ((s.madeOf j).segs.map fun g => (s.outFault j.cmd.d.district g.1 g.2.length, g.1)).filter (fun f => f.1 != 0) = [] := by
    refine List.filter_eq_nil_iff.2 fun f hf => ?_
    obtain ⟨g, hg, rfl⟩ := List.mem_map.1 hf
    simp [hfaultless g hg]
  simp only [execJobCommitStart, hjob, if_neg hstart, hnone]
  rw [if_neg (by simp), if_neg (by simp)]
  rfl

theorem job_outcomeSet (s : State) (n : Nat) (j : Job) : (outcomeSet s n j).job n = some (committing s j) := by simp [outcomeSet]

/-- What a job writes leaves it as it is. -/
theorem job_writeSegs (s : State) (n d m : Nat) (segs : List (Opref × List Byte)) : (s.writeSegs n d segs).job m = s.job m :=
  job_congr (by simp) m

/-! ### Release -/

/-- An engine is gated where it is drained, and IDLE otherwise (R200, R473). -/
def releaseEngine (s : State) (x : Nat × Nat) : State := if (s.engOf x.1 x.2).drain then s.engOff x.1 x.2 else s.engIdle x.1 x.2

/-- An engine is scrubbed, and holds its job until then (R200). -/
def scrubEngine (s : State) (x : Nat × Nat) : State := s.setEng x.1 x.2 { s.engOf x.1 x.2 with st := .scrub, group := none }

theorem scrubs_congr {s t : State} (h : t.maps = s.maps) (d : Nat) : t.scrubs d = s.scrubs d := by simp [State.scrubs, State.district, h]

/-- Whether a District scrubs is settled once for all the engines that its job releases (R200). -/
theorem releaseEngines_eq (s : State) (n d : Nat) :
    s.releaseEngines n d = (s.engsOf n).foldl (if s.scrubs d then scrubEngine else releaseEngine) s := by
  have hfold : ∀ (l : List (Nat × Nat)) (t : State), t.scrubs d = s.scrubs d →
      l.foldl (fun s x => if s.scrubs d then s.setEng x.1 x.2 { s.engOf x.1 x.2 with st := .scrub, group := none }
        else if (s.engOf x.1 x.2).drain then s.engOff x.1 x.2 else s.engIdle x.1 x.2) t =
      l.foldl (if s.scrubs d then scrubEngine else releaseEngine) t := by
    intro l
    induction l with
    | nil => exact fun _ _ => rfl
    | cons x l ih =>
      intro t ht
      simp only [List.foldl_cons]
      rw [← ih _ (by rw [← ht]; exact scrubs_congr (by split <;> simp [scrubEngine, releaseEngine]) d)]
      rw [ht]
      split <;> rfl
  exact hfold _ s rfl

theorem engineFree_releaseEngine (s : State) (x : Nat × Nat) : EngineFree (releaseEngine s x) x.1 x.2 := by
  simp only [releaseEngine]
  split
  · exact ⟨by simp [State.engOff], by simp [State.engOff]⟩
  · exact ⟨by simp [State.engIdle], by simp [State.engIdle]⟩

theorem engOf_releaseEngine_of_ne (s : State) {x y : Nat × Nat} (hx : x.2 < 8) (hy : y.2 < 8) (hne : y ≠ x) :
    (releaseEngine s x).engOf y.1 y.2 = s.engOf y.1 y.2 := by
  have hpair : ¬(y.1 = x.1 ∧ y.2 = x.2) := fun h => hne (Prod.ext h.1 h.2)
  simp only [releaseEngine]
  split
  · rw [State.engOff, engOf_setEng s _ hx hy, if_neg hpair]
  · rw [State.engIdle, engOf_setEng s _ hx hy, if_neg hpair]

/-- A released engine is free, and no engine has come to a job. -/
theorem releaseEngine_frees (s : State) {x y : Nat × Nat} (hx : x.2 < 8) (hy : y.2 < 8) :
    EngineFree (releaseEngine s x) y.1 y.2 ∨ (releaseEngine s x).engOf y.1 y.2 = s.engOf y.1 y.2 := by
  by_cases hyx : y = x
  · exact .inl (hyx ▸ engineFree_releaseEngine s x)
  · exact .inr (engOf_releaseEngine_of_ne s hx hy hyx)

section
variable {s : State} {n d : Nat}

/-- Where a District does not scrub, every engine of its job is free once released (R200). -/
theorem free_releaseEngines (hopen : s.scrubs d = false) {x : Nat × Nat} (hx : x ∈ s.engsOf n) :
    EngineFree (s.releaseEngines n d) x.1 x.2 := by
  rw [releaseEngines_eq, if_neg (by simp [hopen])]
  have hkeep : ∀ t, ∀ y ∈ s.engsOf n, ∀ z ∈ s.engsOf n, EngineFree t z.1 z.2 → EngineFree (releaseEngine t y) z.1 z.2 := by
    intro t y hy z hz hfree
    rcases releaseEngine_frees t (lt_of_mem_engsOf hy) (lt_of_mem_engsOf hz) with h | h
    · exact h
    · simpa only [EngineFree, h] using hfree
  have hall := foldl_establishes (P := fun (x : Nat × Nat) (t : State) => EngineFree t x.1 x.2) (s.engsOf n)
    (fun t y _ => engineFree_releaseEngine t y) hkeep s
  exact hall x hx

theorem engsOf_releaseEngines (hopen : s.scrubs d = false) : (s.releaseEngines n d).engsOf n = [] := by
  refine List.eq_nil_iff_forall_not_mem.2 fun x hx => ?_
  obtain ⟨ha, he, hjob⟩ := mem_engsOf.1 hx
  have hheld : ((s.releaseEngines n d).engOf x.1 x.2).job = some n → (s.engOf x.1 x.2).job = some n := by
    rw [releaseEngines_eq, if_neg (by simp [hopen])]
    refine List.foldlRecOn (s.engsOf n) _ (motive := fun t : State => (t.engOf x.1 x.2).job = some n → (s.engOf x.1 x.2).job = some n)
      id fun t ht y hy hmine => ht ?_
    rcases releaseEngine_frees t (lt_of_mem_engsOf hy) (show x.2 < 8 by omega) with h | h
    · exact absurd (h.1.symm.trans hmine) (by simp)
    · rwa [← h]
  have hfree := free_releaseEngines hopen (mem_engsOf.2 ⟨ha, he, hheld hjob⟩)
  exact absurd (hfree.1.symm.trans hjob) (by simp)

theorem engOf_scrubEngine (t : State) {x y : Nat × Nat} (hx : x.2 < 8) (hy : y.2 < 8) : (scrubEngine t x).engOf y.1 y.2 =
    if y = x then { t.engOf x.1 x.2 with st := .scrub, group := none } else t.engOf y.1 y.2 := by
  rw [scrubEngine, engOf_setEng t _ hx hy]
  simp only [Prod.ext_iff]

/-- Where a District scrubs, every engine of its job goes to SCRUB (R200). -/
theorem scrub_releaseEngines (hscrubs : s.scrubs d = true) {x : Nat × Nat} (hx : x ∈ s.engsOf n) :
    ((s.releaseEngines n d).engOf x.1 x.2).st = .scrub := by
  rw [releaseEngines_eq, if_pos hscrubs]
  have hkeep : ∀ t, ∀ y ∈ s.engsOf n, ∀ z ∈ s.engsOf n, (t.engOf z.1 z.2).st = .scrub →
      ((scrubEngine t y).engOf z.1 z.2).st = .scrub := by
    intro t y hy z hz hst
    rw [engOf_scrubEngine t (lt_of_mem_engsOf hy) (lt_of_mem_engsOf hz)]
    split
    · rfl
    · exact hst
  have hall := foldl_establishes (P := fun (x : Nat × Nat) (t : State) => (t.engOf x.1 x.2).st = .scrub) (f := scrubEngine) (s.engsOf n)
    (fun t y _ => by simp [scrubEngine]) hkeep s
  exact hall x hx

/-- An engine that is scrubbed is still its job's (R200). -/
theorem mem_engsOf_releaseEngines (hscrubs : s.scrubs d = true) {x : Nat × Nat} (hx : x ∈ s.engsOf n) :
    x ∈ (s.releaseEngines n d).engsOf n := by
  obtain ⟨ha, he, hjob⟩ := mem_engsOf.1 hx
  refine mem_engsOf.2 ⟨ha, he, ?_⟩
  rw [releaseEngines_eq, if_pos hscrubs]
  refine List.foldlRecOn (s.engsOf n) _ (motive := fun t : State => (t.engOf x.1 x.2).job = some n) hjob fun t ht y hy => ?_
  rw [engOf_scrubEngine t (lt_of_mem_engsOf hy) (lt_of_mem_engsOf hx)]
  split
  case isTrue h => rw [← h]; exact ht
  case isFalse => exact ht

end

/-! ### The record -/

/-- A record leaves the engines and the jobs as they are. -/
theorem eng_finish (s : State) (c : Cmd) (rcd : Record) : (s.finish c rcd).eng = s.eng := by simp

/-- A posted job is forgotten, and the engines stay as they are (R201). -/
theorem eng_postJob (s : State) (n : Nat) (j : Job) (r : Record) :
    (s.postJob n j r).eng = { s.eng with jobs := s.eng.jobs.del n } := by
  simp only [State.postJob, eng_finish]
  split <;> rfl

theorem job_postJob {s : State} {n : Nat} (hwf : s.eng.jobs.wf = true) (j : Job) (r : Record) : (s.postJob n j r).job n = none := by
  rw [State.job, eng_postJob]
  exact Table.get_del_same n hwf

theorem engOf_postJob (s : State) (n : Nat) (j : Job) (r : Record) (a e : Nat) : (s.postJob n j r).engOf a e = s.engOf a e :=
  engOf_congr (by rw [eng_postJob]) a e

/-- A job's record is written when it is posted (R201, R395). -/
theorem ends_postJob {s : State} {n : Nat} {j : Job} {r : Record} (hup : RingUp s j.cmd.ring) (hid : r.cmdId = j.cmd.d.cmdId) :
    Ends (s.postJob n j r) j.cmd r.status r.detail r.result := by
  simp only [State.postJob]
  split
  · exact ends_finish_of_ringUp (rcd := { r with est := _, energy := _ }) (ringUp_congr hup rfl rfl) hid
  · exact ends_finish_of_ringUp (rcd := { r with est := _, energy := _ }) (ringUp_congr hup rfl rfl) hid

/-! ### A job that ends -/

/-- The state in which a job's requests are dropped and its engines released (R200, R201). -/
def jobReleased (s : State) (n : Nat) (j : Job) : State := (s.dropWork (jobTag n)).releaseEngines n j.cmd.d.district

section
variable {s : State} {n : Nat} {j : Job}

theorem scrubs_dropWork (s : State) (n d : Nat) : (s.dropWork (jobTag n)).scrubs d = s.scrubs d := scrubs_congr (by simp) d

theorem engsOf_dropWork (s : State) (n : Nat) : (s.dropWork (jobTag n)).engsOf n = s.engsOf n := engsOf_congr (by simp) n

theorem jobs_jobReleased (s : State) (n : Nat) (j : Job) : (jobReleased s n j).eng.jobs = s.eng.jobs := by
  rw [jobReleased, releaseEngines_eq]
  have hdrop : (s.dropWork (jobTag n)).eng.jobs = s.eng.jobs := by simp
  refine (foldl_keeps (fun s => s.eng.jobs) _ _ _ fun t x => ?_).trans hdrop
  split
  · rfl
  · simp only [releaseEngine]
    split <;> rfl

theorem ringUp_jobReleased {ring : Nat} (h : RingUp s ring) : RingUp (jobReleased s n j) ring :=
  ringUp_congr h (by simp [jobReleased, ringsOf]) (by simp [jobReleased])

theorem endJob_of_open (hopen : s.scrubs j.cmd.d.district = false) (r : Record) : s.endJob n j r = (jobReleased s n j).postJob n j r := by
  have hnone := engsOf_releaseEngines (n := n) ((scrubs_dropWork s n _).trans hopen)
  simp [State.endJob, hnone, jobReleased]

theorem endJob_of_scrubs (hscrubs : s.scrubs j.cmd.d.district = true) (hsome : s.engsOf n ≠ []) (r : Record) :
    s.endJob n j r = (jobReleased s n j).setJob n { j with phase := .scrubbing, kept := some r } := by
  obtain ⟨x, hx⟩ := List.exists_mem_of_ne_nil _ hsome
  have hheld := mem_engsOf_releaseEngines ((scrubs_dropWork s n _).trans hscrubs) ((engsOf_dropWork s n).symm ▸ hx)
  have hbusy : ((jobReleased s n j).engsOf n).isEmpty = false :=
    List.isEmpty_eq_false_iff.2 (List.ne_nil_of_mem hheld)
  simp only [jobReleased] at hbusy
  simp [State.endJob, hbusy, jobReleased]

/-- A job whose commit is acknowledged, with no summary to write, ends with its record (R198, R201). -/
theorem execJobCommitDone_of_kept {r : Record} (hjob : s.job n = some j) (hphase : j.phase = .committing)
    (hquiet : s.poolBusy (jobTag n) = false) (hafter : j.after = []) (hkept : j.kept = some r) :
    execJobCommitDone n s = .next (s.endJob n j r) := by
  simp [execJobCommitDone, hjob, hphase, hquiet, hafter, hkept]

/-- The last engine of a scrubbing job that is clear posts its record (R200). -/
theorem execEngineScrubDone_of_last {av : Avenue} {eng : Engine} {r : Record} (hst : (s.engOf av eng).st = .scrub)
    (hdrain : (s.engOf av eng).drain = false) (hmine : (s.engOf av eng).job = some n) (hlast : s.engsOf n = [(av.val, eng.val)])
    (hjob : s.job n = some j) (hphase : j.phase = .scrubbing) (hkept : j.kept = some r) :
    execEngineScrubDone av eng s = .next ((s.engIdle av eng).postJob n j r) := by
  have hnone : (s.engIdle av eng).engsOf n = [] := by
    refine List.eq_nil_iff_forall_not_mem.2 fun x hx => ?_
    obtain ⟨ha, he, hheld⟩ := mem_engsOf.1 hx
    rw [State.engIdle, engOf_setEng s _ (by omega) (by omega)] at hheld
    split at hheld
    case isTrue => cases hheld
    case isFalse hne =>
      have hx : x ∈ s.engsOf n := mem_engsOf.2 ⟨ha, he, hheld⟩
      rw [hlast, List.mem_singleton] at hx
      exact hne (by simp [hx])
  have hidle : (s.engIdle av eng).job n = some j := hjob
  simp [execEngineScrubDone, hst, hdrain, hmine, hidle, hphase, hnone, hkept]

end

end Sys2Proof.Proofs
end

section
/-! Engines given to a job or woken ahead of it, and engines that are retired (R195, R201, R203, R478, R479). -/

namespace Sys2Proof.Proofs

open Sys2Proof Sys2Proof.Machine Sys2Proof.Claims

/-! ### The engines that fit -/

theorem lt_of_mem_freeEngines {s : State} {d ring k e : Nat} (h : e ∈ s.freeEngines d ring k) : e < 8 := by
  have hin : e ∈ s.engsIn k := by
    simp only [State.freeEngines] at h
    split at h
    · cases h
    · simp only [List.mem_append, List.mem_filter] at h
      rcases h with (⟨⟨hin, -⟩, -⟩ | ⟨⟨hin, -⟩, -⟩) | ⟨⟨hin, -⟩, -⟩ <;> exact hin
  simp only [State.engsIn] at hin
  split at hin
  · cases hin
  · exact lt_of_mem_engIdx (List.mem_filter.1 hin).1

/-- The engines that a job could take are engines of their Avenues (R478). -/
theorem lt_of_fits {s : State} {d ring cls c cost : Nat} {ks : List Nat} {picks : List (Nat × List Nat)}
    (h : s.fits d ring cls c ks = some (picks, cost)) {x : Nat × Nat} (hx : x ∈ picks.flatMap fun p => p.2.map (Prod.mk p.1)) : x.2 < 8 := by
  obtain ⟨p, hp, -, he⟩ := mem_pickedEngines.1 hx
  simp only [State.fits] at h
  split at h
  · obtain ⟨rfl, -⟩ := Prod.mk.inj (Option.some.inj h)
    obtain ⟨k, -, rfl⟩ := List.mem_map.1 hp
    exact lt_of_mem_freeEngines (List.mem_of_mem_take he)
  · cases h

/-! ### Dispatch -/

theorem job_giveEngine (s : State) (n d : Nat) {a e b f : Nat} (he : e < 8) (hf : f < 8) :
    ((s.giveEngine n d a e).engOf b f).job = if b = a ∧ f = e then some n else (s.engOf b f).job := by
  simp only [State.giveEngine]
  split <;> rw [engOf_setEng _ _ he hf] <;> split <;> rfl

/-- The state in which a job's engines are given to it (R195, R201). -/
def enginesGiven (s : State) (n d : Nat) (picks : List (Nat × List Nat)) : State :=
  picks.foldl (fun s p => p.2.foldl (fun s e => s.giveEngine n d p.1 e) s) s

theorem job_enginesGiven (s : State) (n d : Nat) {picks : List (Nat × List Nat)}
    (hlt : ∀ x ∈ picks.flatMap fun p => p.2.map (Prod.mk p.1), x.2 < 8) {p : Nat × List Nat} (hp : p ∈ picks) {e : Nat} (he : e ∈ p.2) :
    ((enginesGiven s n d picks).engOf p.1 e).job = some n := by
  rw [enginesGiven, foldl_engines (fun s a e => s.giveEngine n d a e)]
  refine foldl_establishes (P := fun (x : Nat × Nat) (t : State) => (t.engOf x.1 x.2).job = some n) _ ?_ ?_ s (p.1, e)
    (mem_pickedEngines.2 ⟨p, hp, rfl, he⟩)
  · intro t x hx
    rw [job_giveEngine t n d (hlt x hx) (hlt x hx), if_pos ⟨rfl, rfl⟩]
  · intro t x hx y hy hheld
    rw [job_giveEngine t n d (hlt x hx) (hlt y hy), hheld, ite_self]

theorem enginesGiven_frame (s : State) (n d : Nat) (picks : List (Nat × List Nat)) :
    (enginesGiven s n d picks).pwr = s.pwr ∧ (enginesGiven s n d picks).mem = s.mem := by
  simp [enginesGiven]

/-- A job that is dispatched leaves the queue for its attempt, its engines are its, and its cost is charged (R201, R478). -/
theorem dispatch_spec (s : State) (n c cost : Nat) (j : Job) {picks : List (Nat × List Nat)}
    (hlt : ∀ x ∈ picks.flatMap fun p => p.2.map (Prod.mk p.1), x.2 < 8) :
    (∃ i, (s.dispatch n j c picks cost).job n = some i ∧ i.phase ≠ .queued ∧ i.cmd = j.cmd ∧ i.attempts = j.attempts + 1) ∧
      (∀ p ∈ picks, ∀ e ∈ p.2, ((s.dispatch n j c picks cost).engOf p.1 e).job = some n) ∧
      (s.dispatch n j c picks cost).pwr.comp = s.pwr.comp + cost * s.pwr.gain / 65536 ∧ (s.dispatch n j c picks cost).mem = s.mem := by
  obtain ⟨hpwr, hmem⟩ := enginesGiven_frame s n j.cmd.d.district picks
  have hshape : ∃ (t : State) (i : Job), s.dispatch n j c picks cost = t.wakeStep n ∧ t.job n = some i ∧ i.phase = .waking ∧
      i.cmd = j.cmd ∧ i.attempts = j.attempts + 1 ∧ t.eng.engs = (enginesGiven s n j.cmd.d.district picks).eng.engs ∧
      t.pwr.comp = s.pwr.comp + cost * s.pwr.gain / 65536 ∧ t.mem = s.mem := by
    refine ⟨_, _, rfl, Table.get_put_same .., rfl, rfl, rfl, rfl, ?_, hmem⟩
    rw [← hpwr]
    rfl
  obtain ⟨t, i, hdispatch, hjob, hphase, hcmd, hattempts, hengs, hcomp, hkept⟩ := hshape
  obtain ⟨hstill, hstep⟩ := wakeStep_keeps hjob
  rw [hdispatch]
  refine ⟨?_, fun p hp e he => ?_, ?_, ?_⟩
  · rcases hstep with h | h
    · exact ⟨i, h, by simp [hphase], hcmd, hattempts⟩
    · exact ⟨_, h, by simp, hcmd, hattempts⟩
  · rw [engOf_congr (hstill.trans hengs)]
    exact job_enginesGiven s n _ hlt hp he
  · simpa using hcomp
  · simpa using hkept

/-- The first number of engines to try is the number that is wanted (R478). -/
theorem countsFrom_eq_cons {want : Nat} (h : 0 < want) : ∃ l, countsFrom want = want :: l := by
  obtain ⟨k, hk⟩ : ∃ k, want + 1 - (want + 1) / 2 = k + 1 := ⟨want - (want + 1) / 2, by omega⟩
  exact ⟨_, by rw [countsFrom, hk, List.range_succ_eq_map]; rfl⟩

theorem wanted_pos (s : State) (j : Job) (ks : List Nat) : 0 < s.wanted j ks := by
  simp only [State.wanted]
  omega

/-- The clusters that a job's work runs on: those of its District that an Avenue serves (R196, R201). -/
def servedClusters (s : State) (j : Job) : List Nat := (s.clustersOf j.cmd.d.district).filter fun k => (s.servedBy k).isSome

theorem walk_of_fits {s : State} {n cost : Nat} {j : Job} {picks : List (Nat × List Nat)}
    (hfits : s.fits j.cmd.d.district j.cmd.ring (opClass j.cmd.d.opcode) (s.wanted j (servedClusters s j)) (servedClusters s j) =
      some (picks, cost)) (rest : List (Nat × Job)) :
    s.walk false ((n, j) :: rest) = some (s.dispatch n j (s.wanted j (servedClusters s j)) picks cost) := by
  obtain ⟨l, hl⟩ := countsFrom_eq_cons (wanted_pos s j (servedClusters s j))
  simp only [servedClusters] at hl hfits ⊢
  simp [State.walk, hl, hfits]

/-- A queued job alone asks for no further engine (R203). -/
theorem refillJobs_of_queued {s : State} {n : Nat} {j : Job} (hjobs : s.eng.jobs = [(n, j)]) (hphase : j.phase = .queued) :
    s.refillJobs = s := by
  simp [State.refillJobs, hjobs, State.refillJob, hphase]

theorem schedulerPass_of_fits {s : State} {n cost : Nat} {j : Job} {picks : List (Nat × List Nat)} (hmay : s.mayDispatch = true)
    (hjobs : s.eng.jobs = [(n, j)]) (hready : s.ready n j = true)
    (hfits : s.fits j.cmd.d.district j.cmd.ring (opClass j.cmd.d.opcode) (s.wanted j (servedClusters s j)) (servedClusters s j) =
      some (picks, cost)) :
    execSchedulerPass s = .next (s.dispatch n j (s.wanted j (servedClusters s j)) picks cost) := by
  have hphase : j.phase = .queued := by
    simp only [State.ready, Bool.and_eq_true] at hready
    exact eq_of_beq hready.1.1.1.1.1
  simp [execSchedulerPass, hmay, refillJobs_of_queued hjobs hphase, hjobs, State.schedule, hready, State.insertCand, walk_of_fits hfits]

/-! ### Hints -/

/-- A hint reserves an engine for a ring, and wakes it where it is OFF (R479). -/
def prewake (ring : Nat) (s : State) (a e : Nat) : State :=
  if (s.engOf a e).st = .off then (s.tally (0x200000 + a * 0x40000 + 0x818) 1).setEng a e
    { s.engOf a e with st := .waking, hint := some ring, fcur := s.clockOf a e }
  else s.setEng a e { s.engOf a e with hint := some ring }

/-- What becomes of an engine that may be hinted: it keeps its state, or wakes. -/
def SameOrWoken (s t : State) (a e : Nat) : Prop :=
  (t.engOf a e).st = (s.engOf a e).st ∨ (s.engOf a e).st = .off ∧ (t.engOf a e).st = .waking

/-- An engine that a hint has reached. -/
def Hinted (ring : Nat) (x : Eng) : Prop := x.hint = some ring ∧ x.st ≠ .off

theorem hinted_prewake (ring : Nat) (s : State) (a e : Nat) : Hinted ring ((prewake ring s a e).engOf a e) := by
  simp only [prewake]
  split
  case isTrue => rw [engOf_setEng_same]; exact ⟨rfl, by simp⟩
  case isFalse h => rw [engOf_setEng_same]; exact ⟨rfl, h⟩

theorem engOf_prewake_of_ne (ring : Nat) (s : State) {a e b f : Nat} (he : e < 8) (hf : f < 8) (hne : ¬(b = a ∧ f = e)) :
    (prewake ring s a e).engOf b f = s.engOf b f := by
  simp only [prewake]
  split
  · rw [engOf_setEng _ _ he hf, if_neg hne, engOf_tally]
  · rw [engOf_setEng _ _ he hf, if_neg hne]

theorem sameOrWoken_prewake {ring : Nat} {s t : State} {a e b f : Nat} (he : e < 8) (hf : f < 8) (h : SameOrWoken s t b f) :
    SameOrWoken s (prewake ring t a e) b f := by
  by_cases heq : b = a ∧ f = e
  · obtain ⟨rfl, rfl⟩ := heq
    simp only [SameOrWoken, prewake] at h ⊢
    split
    case isTrue hoff =>
      rw [engOf_setEng_same]
      exact .inr ⟨h.elim (fun h => h ▸ hoff) And.left, rfl⟩
    case isFalse => rwa [engOf_setEng_same]
  · rwa [SameOrWoken, engOf_prewake_of_ne ring t he hf heq]

theorem prewake_frame (ring : Nat) (s : State) (a e : Nat) : (prewake ring s a e).pwr = s.pwr ∧
    (prewake ring s a e).eng.jobs = s.eng.jobs := by
  simp only [prewake]
  split <;> exact ⟨rfl, rfl⟩

/-- The state in which a hint has reached the engines that fit (R479). -/
def enginesHinted (s : State) (ring : Nat) (picks : List (Nat × List Nat)) : State :=
  picks.foldl (fun s p => p.2.foldl (fun s e => prewake ring s p.1 e) s) s

theorem enginesHinted_frame (s : State) (ring : Nat) (picks : List (Nat × List Nat)) :
    (enginesHinted s ring picks).pwr = s.pwr ∧ (enginesHinted s ring picks).eng.jobs = s.eng.jobs := by
  constructor
  · exact foldl_keeps State.pwr _ picks s fun t p => foldl_keeps State.pwr _ p.2 t fun u e => (prewake_frame ring u p.1 e).1
  · exact foldl_keeps (·.eng.jobs) _ picks s fun t p => foldl_keeps (·.eng.jobs) _ p.2 t fun u e => (prewake_frame ring u p.1 e).2

/-- Every engine that fits is hinted, and is WAKING where it was OFF (R479). -/
theorem engOf_enginesHinted (s : State) (ring : Nat) {picks : List (Nat × List Nat)}
    (hlt : ∀ x ∈ picks.flatMap fun p => p.2.map (Prod.mk p.1), x.2 < 8) {p : Nat × List Nat} (hp : p ∈ picks) {e : Nat} (he : e ∈ p.2) :
    ((enginesHinted s ring picks).engOf p.1 e).hint = some ring ∧
      ((s.engOf p.1 e).st = .off → ((enginesHinted s ring picks).engOf p.1 e).st = .waking) := by
  have hmem := (mem_pickedEngines (x := (p.1, e))).2 ⟨p, hp, rfl, he⟩
  rw [enginesHinted, foldl_engines (prewake ring)]
  have hhinted := foldl_establishes (P := fun (x : Nat × Nat) (t : State) => Hinted ring (t.engOf x.1 x.2))
    (f := fun t x => prewake ring t x.1 x.2) _ (fun t x _ => hinted_prewake ring t x.1 x.2) (fun t x hx y hy h => by
      by_cases heq : y.1 = x.1 ∧ y.2 = x.2
      · rw [heq.1, heq.2]; exact hinted_prewake ring t x.1 x.2
      · rwa [engOf_prewake_of_ne ring t (hlt x hx) (hlt y hy) heq]) s (p.1, e) hmem
  have hwoken := List.foldlRecOn (picks.flatMap fun p => p.2.map (Prod.mk p.1)) (fun t x => prewake ring t x.1 x.2)
    (motive := fun t : State => SameOrWoken s t p.1 e) (.inl rfl) fun t ht x hx => sameOrWoken_prewake (hlt x hx) (hlt _ hmem) ht
  obtain ⟨hhint, hon⟩ := hhinted
  exact ⟨hhint, fun hoff => hwoken.elim (fun hsame => absurd (hsame.trans hoff) hon) And.right⟩

/-- The state in which the engines that a hint reaches are charged to the compute share (R478, R479). -/
def hintCharged (s : State) (ring cost : Nat) (picks : List (Nat × List Nat)) : State :=
  { enginesHinted s ring picks with pwr := { (enginesHinted s ring picks).pwr with
      comp := (enginesHinted s ring picks).pwr.comp + cost * (enginesHinted s ring picks).pwr.gain / 65536 } }

theorem execHintPrewake_of_fits {s : State} {n h cost : Nat} {j : Job} {picks : List (Nat × List Nat)} (hjob : s.job n = some j)
    (hflight : j.inFlight = true) (hmay : s.mayDispatch = true)
    (hh : h = (servedClusters s j).foldl (fun m k => min m (s.allotment j.cmd.d.district k))
      (min (bitsOf j.cmd.d.p0 10 8) s.pwr.present.engMax)) (hpos : h ≠ 0)
    (hfits : s.fits j.cmd.d.district j.cmd.ring 3 h (servedClusters s j) = some (picks, cost)) :
    execHintPrewake n s = .next (hintCharged s j.cmd.ring cost picks) := by
  subst hh
  simp only [servedClusters] at hfits hpos
  simp only [execHintPrewake, hjob]
  rw [if_neg (by simp [hpos, hflight]), if_pos hmay, hfits]
  rfl

/-- An engine that a ring's hint woke and no job has taken is free again (R479). -/
def hintDropped (ring : Nat) (x : Eng) : Eng := if x.hint = some ring ∧ x.job.isNone = true then { x with hint := none } else x

/-- The state in which the hints of a ring have expired (R479). -/
def hintsDropped (s : State) (ring : Nat) : State :=
  { s with eng := { s.eng with engs := s.eng.engs.each fun _ x => hintDropped ring x } }

theorem engOf_hintsDropped (s : State) (ring a e : Nat) : (hintsDropped s ring).engOf a e = hintDropped ring (s.engOf a e) := by
  have hinit : hintDropped ring (Eng.init a e) = Eng.init a e := by simp [hintDropped, Eng.init]
  simp only [State.engOf, hintsDropped, get_each]
  cases s.eng.engs.get (a * 8 + e) with
  | none => exact hinit.symm
  | some x => rfl

theorem execPrewakeExpiry_of_unhinted {s : State} {ring : Nat}
    (h : ∀ e ∈ s.eng.jobs, ¬(e.2.cmd.ring = ring ∧ e.2.inFlight = true ∧ bitsOf e.2.cmd.d.p0 10 8 ≠ 0)) :
    execPrewakeExpiry ring s = .next (hintsDropped s ring) := by
  have hnone : (s.eng.jobs.any fun e => e.2.cmd.ring == ring && e.2.inFlight && bitsOf e.2.cmd.d.p0 10 8 != 0) = false :=
    List.any_eq_false.2 fun e he hhints => h e he (by simpa [and_assoc] using hhints)
  simp only [execPrewakeExpiry, hnone, Bool.false_eq_true, if_false]
  rfl

/-! ### Retirement -/

theorem replaceHeld_engines (s : State) (k : Nat) : (s.replaceHeld k).eng.engs = s.eng.engs ∧ (s.replaceHeld k).eng.jobs = s.eng.jobs := by
  constructor
  · refine foldl_keeps (·.eng.engs) _ _ s fun t h => ?_
    split
    · rfl
    · simp
  · refine foldl_keeps (·.eng.jobs) _ _ s fun t h => ?_
    split
    · rfl
    · simp

theorem out_sub_replaceHeld (s : State) (k : Nat) : s.out ⊆ (s.replaceHeld k).out := by
  refine out_sub_foldl _ s fun t h => ?_
  split
  · exact List.Subset.refl _
  · exact fun _ ho => out_sub_raise _ _ _ _ _ ho

/-- A RETIRED engine, counted in the register of retired engines (R195). -/
def engineRetired (s : State) (a e : Nat) : State :=
  (s.setEng a e { s.engOf a e with st := .retired, fcur := 0, district := 0, job := none, group := none, hint := none, drain := false }).tally
    0x680020 1

/-- The retirement of an engine without a job retires it and tells of it; a dedicated engine is replaced (R195, R200). -/
theorem retireEngine_of_free {s : State} {a e : Nat} (hfree : (s.engOf a e).job = none) :
    (s.retireEngine a e).eng.engs = (engineRetired s a e).eng.engs ∧ (s.retireEngine a e).eng.jobs = s.eng.jobs ∧
      ((engineRetired s a e).raise (Src.avenue a) 0x03 (e + (s.engOf a e).fmax * 256)).out ⊆ (s.retireEngine a e).out := by
  have hwhole : s.interrupt a e = s := by simp [State.interrupt, hfree]
  have hjobs : (engineRetired s a e).eng.jobs = s.eng.jobs := rfl
  simp only [State.retireEngine, hfree, hwhole]
  split
  case h_1 k _ =>
    obtain ⟨hengs, hkept⟩ := replaceHeld_engines ((engineRetired s a e).raise (Src.avenue a) 0x03 (e + (s.engOf a e).fmax * 256)) k
    exact ⟨hengs.trans (by simp), hkept.trans (by simp [hjobs]), out_sub_replaceHeld _ k⟩
  case h_2 => exact ⟨by simp [engineRetired], by simp [State.setEng], List.Subset.refl _⟩

end Sys2Proof.Proofs
end

section
/-! The life of a job, and its engines (R193 to R204, R472, R478, R479). -/

namespace Sys2Proof.Proofs

open Sys2Proof Sys2Proof.Machine Sys2Proof.Claims

/-- An engine that is gated, and counted, is OFF and free of its job (R473). -/
theorem engineGated_spec (s : State) (n a e off : Nat) : ((s.engOff a e).tally off 1).job n = s.job n ∧
    (((s.engOff a e).tally off 1).engOf a e).st = .off ∧ EngineFree ((s.engOff a e).tally off 1) a e :=
  ⟨rfl, by simp [State.engOff], by simp [EngineFree, State.engOff]⟩

/-- The monitors' finding lowers an engine's qualified maximum, and its clock with it (R194, R472). -/
def slowed (s : State) (a e : Nat) : State :=
  s.setEng a e { s.engOf a e with fmax := (s.engOf a e).fmax - 1, fcur := min (s.engOf a e).fcur ((s.engOf a e).fmax - 1) }

theorem execAgeingCheck_of_low {s : State} {av : Avenue} {eng : Engine} (h : (s.engOf av eng).st = .idle ∨ (s.engOf av eng).st = .test) :
    execAgeingCheck av eng true s =
      .next ((slowed s av eng).raise (Src.avenue av) 0x04 (eng + ((s.engOf av eng).fmax - 1) * 256)) := by
  have hchecked : ¬((!true) = true ∨ ((s.engOf av eng).st ≠ .idle ∧ (s.engOf av eng).st ≠ .test)) := by
    rcases h with h | h <;> simp [h]
  simp only [execAgeingCheck, if_neg hchecked]
  rfl

/-- Settles O35: each step of a job, and of the engines that it takes, uses and frees. -/
theorem jobsAndEngines : Obligations.JobsAndEngines := by
  unfold Obligations.JobsAndEngines
  refine ⟨?dispatched, ?stopped, ?wokenFree, ?wokenForJob, ?loaded, ?read, ?unitEnds, ?summed, ?commits, ?withheld, ?ends, ?scrubs,
    ?scrubbed, ?failed, ?retired, ?slower, ?sound, ?hinted, ?expired⟩
  case dispatched =>
    intro s n cost j picks d ks hmay hjobs hready hfits
    exact ⟨_, schedulerPass_of_fits hmay hjobs hready hfits, dispatch_spec s n _ cost j fun x hx => lt_of_fits hfits hx⟩
  case stopped =>
    intro s hmay
    exact congrArg Host.Outcome.next (if_neg (by simp [hmay]))
  case wokenFree =>
    intro s av eng hst hfree
    exact ⟨_, execEngineWakeDone_of_free hst hfree, by simp [woken], rfl⟩
  case wokenForJob =>
    intro s av eng n j hst hmine hjob hphase hothers
    have hloads := wakeStep_of_awake (s := woken s av eng) hjob hphase (awake_woken hothers)
    refine ⟨_, execEngineWakeDone_of_job hst hmine, ?_⟩
    rw [hloads, takeUnit_of_phase (j := { j with phase := .loading }) (by simp) (by simp)]
    exact ⟨by simp, by simp [woken]⟩
  case loaded =>
    intro s n j hjob hphase hnone hfaults
    have hstreams : StreamsAs j (s.setJob n { j with phase := .streaming }) n := ⟨{ j with phase := .streaming }, by simp, rfl, rfl, rfl⟩
    exact ⟨_, execActivationLoadDone_of_none hjob hphase hnone hfaults, streamsAs_takeUnits hstreams⟩
  case read =>
    intro s n share j w x y v hjob hphase hwork hunread hgemv hattend happend hfaults hneeds hhome hwindow hread hin hnew hlook
    exact execEngineReadData_of_value hjob hphase hwork hunread hgemv hattend happend hfaults hneeds hhome hwindow hread hin hnew hlook
  case unitEnds =>
    intro s n a share eng j w hjob hphase hwork hread hserved hmine hgroup hwf
    have hdone : (unitDone j share w).work.get share = some { w with done := w.done + 1 } := by simp [unitDone]
    have hcounted : (unitCounted s n a share j w).job n = some (unitDone j share w) := by simp [unitCounted]
    refine ⟨_, execRowGroupDone_of_unit hjob hphase hwork hread hserved hmine hgroup, ?_⟩
    split
    case isTrue =>
      obtain ⟨hjob, hoff, hfree⟩ := engineGated_spec (unitCounted s n a share j w) n a eng (0x200000 + a * 0x40000 + 0x820)
      exact ⟨⟨_, _, hjob.trans hcounted, hdone, rfl, rfl⟩, by simp [unitCounted], fun _ => ⟨hoff, hfree⟩⟩
    case isFalse hrun =>
      refine ⟨?_, by simp [unitCounted], fun hdrain => absurd hdrain hrun⟩
      obtain ⟨i, hi, rfl | htaken⟩ := job_takeUnit ((job_setEng ..).trans hcounted) a eng
      · exact ⟨_, _, hi, hdone, rfl, rfl⟩
      · obtain ⟨v, hv, hvdone, hvtotal⟩ := work_of_unitTaken (Table.wf_put _ _ hwf) hdone htaken
        exact ⟨i, v, hi, hv, hvdone, hvtotal⟩
  case summed =>
    intro s n share j w hjob hphase hwork hdone
    exact ⟨_, execPartialSumArrive_of_done hjob hphase hwork hdone, by simp, rfl⟩
  case commits =>
    intro s n j hjob hphase harrived hreason hpart hattempts hfaultless
    have hfree : withheld s j = false := by simp [withheld, hreason]
    refine ⟨_, execJobCommitStart_of_faultless hjob hphase harrived hfaultless, ?_⟩
    rw [if_neg (by simp [hfree])]
    exact ⟨_, _, (job_writeSegs ..).trans (job_outcomeSet ..), rfl, by simp [committing, hfree], rfl,
      by simp [commitStatus, hreason, hpart, hattempts, State.jobRecord, Cs.done], rfl⟩
  case withheld =>
    intro s n j hjob hphase harrived hreason hasked hfaultless
    have hheld : withheld s j = true := by simp [withheld, hreason, hasked]
    refine ⟨_, execJobCommitStart_of_faultless hjob hphase harrived hfaultless, ?_⟩
    rw [if_pos hheld]
    exact ⟨⟨_, _, job_outcomeSet s n j, rfl, rfl, by simp [commitStatus, hreason, State.jobRecord], rfl⟩, by simp [outcomeSet],
      by simp [outcomeSet]⟩
  case ends =>
    intro s n j r hjob hphase hquiet hafter hkept hid hopen hwf hup
    refine ⟨_, execJobCommitDone_of_kept hjob hphase hquiet hafter hkept, ?_⟩
    rw [endJob_of_open hopen]
    refine ⟨job_postJob (by rwa [jobs_jobReleased]) j r, fun x hx => ?_, ends_postJob (ringUp_jobReleased hup) hid⟩
    simp only [EngineFree, engOf_postJob]
    exact free_releaseEngines ((scrubs_dropWork s n _).trans hopen) ((engsOf_dropWork s n).symm ▸ hx)
  case scrubs =>
    intro s n j r hjob hphase hquiet hafter hkept hscrubs hsome
    refine ⟨_, execJobCommitDone_of_kept hjob hphase hquiet hafter hkept, ?_⟩
    rw [endJob_of_scrubs hscrubs hsome]
    refine ⟨by simp [← hkept], fun x hx => ?_, by simp [jobReleased]⟩
    rw [engOf_setJob]
    exact scrub_releaseEngines ((scrubs_dropWork s n _).trans hscrubs) ((engsOf_dropWork s n).symm ▸ hx)
  case scrubbed =>
    intro s n av eng j r hst hdrain hmine hlast hjob hphase hkept hid hup hwf
    have hidle : RingUp (s.engIdle av eng) j.cmd.ring := ringUp_congr hup (by simp [ringsOf]) (by simp)
    have hjobs : (s.engIdle av eng).eng.jobs.wf = true := hwf
    refine ⟨_, execEngineScrubDone_of_last hst hdrain hmine hlast hjob hphase hkept, ?_, ?_, job_postJob hjobs j r, ends_postJob hidle hid⟩
    · simp [engOf_postJob, State.engIdle]
    · simp [EngineFree, engOf_postJob, State.engIdle]
  case failed =>
    intro s av eng hst hfree
    obtain ⟨hengs, hjobs, hout⟩ := retireEngine_of_free hfree
    have heng := engOf_congr hengs av eng
    refine ⟨_, congrArg Host.Outcome.next (if_neg hst), ?_, ?_, hjobs, by simp, fun hlistens => ?_⟩
    · simp [heng, engineRetired]
    · simp [EngineFree, heng, engineRetired]
    · have hheard : Listening (engineRetired s av eng) := listening_congr hlistens rfl rfl
      exact told_mono (told_raise _ _ _ hheard) hout
  case retired =>
    intro s av eng hst
    exact congrArg Host.Outcome.next (if_pos hst)
  case slower =>
    intro s av eng hst
    exact ⟨_, execAgeingCheck_of_low hst, by simp [slowed], fun hlistens => told_raise _ _ _ (listening_congr hlistens rfl rfl),
      by simp [slowed]⟩
  case sound =>
    intro s av eng
    exact congrArg Host.Outcome.next (if_pos (.inl rfl))
  case hinted =>
    intro s n h cost j picks d ks hjob hflight hmay hh hpos hfits
    obtain ⟨hpwr, hjobs⟩ := enginesHinted_frame s j.cmd.ring picks
    refine ⟨_, execHintPrewake_of_fits hjob hflight hmay hh hpos hfits, fun p hp e he =>
      engOf_enginesHinted s j.cmd.ring (fun x hx => lt_of_fits hfits hx) hp he, ?_, hjobs⟩
    simp only [hintCharged, hpwr]
  case expired =>
    intro s ring hnone
    exact ⟨_, execPrewakeExpiry_of_unhinted hnone, fun a e => engOf_hintsDropped s ring a e, rfl⟩

end Sys2Proof.Proofs
end

section
/-! What the operators of data movement make: the context of a job's operator, and fill, copy, compare and gather one by one (R240, R242 to
R244). -/

namespace Sys2Proof.Proofs

open Sys2Proof Sys2Proof.Machine Sys2Proof.Claims

/-! ### The context in which a job's operator runs -/

/-- What a job knows beside its descriptor when its operator runs. -/
def opCtxOf (s : State) (j : Job) : OpCtx :=
  { d := j.cmd.d, arg := j.arg, cfg := (j.num.getD (0, 0, 0)).1, bound := (j.num.getD (0, 0, 0)).2.1, seed := (j.num.getD (0, 0, 0)).2.2,
    srcFault := fun k => (j.elemFaults.get k).getD 0,
    dstFault := fun k => match (elemsOf j.cmd.d j.arg).find? fun e => e.1 == k with
      | some e => s.outFault j.cmd.d.district e.2.1 e.2.2.1
      | none => 0 }

@[simp] theorem opCtxOf_d (s : State) (j : Job) : (opCtxOf s j).d = j.cmd.d := rfl
@[simp] theorem opCtxOf_arg (s : State) (j : Job) : (opCtxOf s j).arg = j.arg := rfl

theorem opCtxOf_srcFault (s : State) (j : Job) (k : Nat) : (opCtxOf s j).srcFault k = (j.elemFaults.get k).getD 0 := rfl

theorem madeOf_eq_makeOp (s : State) (j : Job) : s.madeOf j = makeOp (opCtxOf s j) (s.reader j) := rfl

theorem madeOf_of_fill {s : State} {j : Job} (h : j.cmd.d.opcode = 0x30) : s.madeOf j = makeFill (opCtxOf s j) := by
  simp [madeOf_eq_makeOp, makeOp, h]

theorem madeOf_of_copy {s : State} {j : Job} (h : j.cmd.d.opcode = 0x31) : s.madeOf j = makeCopy (opCtxOf s j) (s.reader j) := by
  simp [madeOf_eq_makeOp, makeOp, h]

theorem madeOf_of_compare {s : State} {j : Job} (h : j.cmd.d.opcode = 0x32) : s.madeOf j = makeCompare (opCtxOf s j) (s.reader j) := by
  simp [madeOf_eq_makeOp, makeOp, h]

theorem madeOf_of_gather {s : State} {j : Job} (h : j.cmd.d.opcode = 0x34) : s.madeOf j = makeGather (opCtxOf s j) (s.reader j) := by
  simp [madeOf_eq_makeOp, makeOp, h]

/-! ### Bytes -/

/-- A byte of a list that is made byte by byte from numbers. -/
theorem toNat_getD_range_map (f : Nat → Nat) {n i : Nat} (h : i < n) :
    (((List.range n).map fun k => BitVec.ofNat 8 (f k)).getD i 0).toNat = f i % 256 := by
  simp [List.getD_eq_getElem?_getD, h]

theorem length_bytes (x : Reader) (o : Opref) (i n : Nat) : (x.bytes o i n).length = n := by simp [Reader.bytes]

theorem toNat_getD_bytes (x : Reader) (o : Opref) {n i : Nat} (h : i < n) : ((x.bytes o 0 n).getD i 0).toNat = x.at o i % 256 := by
  rw [Reader.bytes, toNat_getD_range_map (fun k => x.at o (0 + k)) h, Nat.zero_add]

/-! ### OP_COMPARE (R240) -/

/-- Byte i of what OP_COMPARE compares its source with: its pattern or its second operand. -/
def comparedWith (d : Desc) (x : Reader) (i : Nat) : Nat :=
  if bitOf d.p4 40 then d.p3 / 256 ^ (i % 8) % 256 else x.at (oprefOf d.p3) i

theorem makeCompare_of_first {c : OpCtx} {x : Reader} {k : Nat} (hk : k < bitsOf c.d.p4 39 0)
    (hdiff : x.at (oprefOf c.d.p2) k ≠ comparedWith c.d x k)
    (hsame : ∀ i, i < k → x.at (oprefOf c.d.p2) i = comparedWith c.d x i) : makeCompare c x = Made.of [] (1 + k * 256) := by
  have hfound : (List.range (bitsOf c.d.p4 39 0)).find? (fun i => x.at (oprefOf c.d.p2) i != comparedWith c.d x i) = some k := by
    rw [List.find?_range_eq_some]
    exact ⟨bne_iff_ne.2 hdiff, List.mem_range.2 hk, fun i hi => by simp [hsame i hi]⟩
  simp only [comparedWith] at hfound
  simp only [makeCompare, hfound]

theorem makeCompare_of_same {c : OpCtx} {x : Reader}
    (hsame : ∀ i, i < bitsOf c.d.p4 39 0 → x.at (oprefOf c.d.p2) i = comparedWith c.d x i) : makeCompare c x = Made.of [] := by
  have hnone : (List.range (bitsOf c.d.p4 39 0)).find? (fun i => x.at (oprefOf c.d.p2) i != comparedWith c.d x i) = none := by
    rw [List.find?_range_eq_none]
    exact fun i hi => by simp [hsame i hi]
  simp only [comparedWith] at hnone
  simp only [makeCompare, hnone]

/-! ### OP_GATHER (R242 to R244) -/

/-- The elements are numbered from 0, at most sixteen of them. -/
theorem map_fst_elemsOf (d : Desc) (arg : Nat) : (elemsOf d arg).map (·.1) = List.range (min 16 (bitsOf d.p3 4 0)) := by
  rw [elemsOf, ← List.foldl_hom (fun a : List (Nat × Opref × Nat × Nat) × Nat => a.1.map (·.1)) (g₂ := fun l k => l ++ [k])]
  · simp [← List.flatMap_def]
  · simp

/-- The kinds of fault of a list of elements, as R244 lists them, are those of their numbers. -/
theorem faultKinds_elemsOf (d : Desc) (arg : Nat) (kind : Nat → Nat) :
    ((elemsOf d arg).map fun e => (e.1, kind e.1)) = (List.range (min 16 (bitsOf d.p3 4 0))).map fun k => (k, kind k) := by
  rw [← map_fst_elemsOf, List.map_map]
  rfl

/-- Where one number alone has a fault, it is the only one that the test of R244 picks out. -/
theorem filter_faultKinds_of_single {kind : Nat → Nat} {k n : Nat} (hk : k < n) (hbad : kind k ≠ 0)
    (hgood : ∀ i, i ≠ k → kind i = 0) :
    ((List.range n).map fun i => (i, kind i)).filter (fun e => e.2 != 0) = [(k, kind k)] := by
  have hpick : ∀ i, (kind i != 0) = (i == k) := fun i => by
    by_cases hi : i = k
    · simp [hi, hbad]
    · simp [hi, hgood i hi]
  have honce : (List.range n).filter (· == k) = [k] := by
    rw [List.filter_beq, List.count_eq_one_of_mem List.nodup_range (List.mem_range.2 hk), List.replicate_one]
  simp [List.filter_map, Function.comp_def, hpick, honce]

theorem faultResult_of_none {ks : List (Nat × Nat)} (h : ks.filter (fun k => k.2 != 0) = []) : faultResult ks = 0xFF * 2 ^ 16 := by
  simp only [faultResult, h, List.head?_nil]

theorem faultResult_of_single {ks : List (Nat × Nat)} {k v : Nat} (h : ks.filter (fun k => k.2 != 0) = [(k, v)]) :
    faultResult ks = 2 ^ k + k * 2 ^ 16 + v * 2 ^ 24 := by
  simp [faultResult, h]

/-- A gather of which no element faults: every element's bytes, one after the other, and no element named. -/
theorem makeGather_of_faultless {c : OpCtx} {x : Reader} (h : ∀ k, c.srcFault k = 0) :
    makeGather c x = Made.of [(oprefOf c.d.p2, ((elemsOf c.d c.arg).map fun e => x.bytes e.2.1 0 e.2.2.1).flatten)] (0xFF * 2 ^ 16) := by
  have hnone : faultResult ((elemsOf c.d c.arg).map fun e => (e.1, 0)) = 0xFF * 2 ^ 16 :=
    faultResult_of_none (by simp [List.filter_map, Function.comp_def])
  simp [makeGather, h, hnone, Made.of]

/-- A gather of which one element faults is made in part, and its result names that element and the kind of its fault. -/
theorem makeGather_of_single {c : OpCtx} {x : Reader} {k : Nat} (hk : k < min 16 (bitsOf c.d.p3 4 0)) (hbad : c.srcFault k ≠ 0)
    (hgood : ∀ i, i ≠ k → c.srcFault i = 0) :
    (makeGather c x).part = true ∧ (makeGather c x).result = 2 ^ k + k * 2 ^ 16 + c.srcFault k * 2 ^ 24 := by
  have hks := filter_faultKinds_of_single hk hbad hgood
  rw [← faultKinds_elemsOf c.d c.arg] at hks
  refine ⟨List.any_eq_true.2 ⟨(k, c.srcFault k), ?_, bne_iff_ne.2 hbad⟩, faultResult_of_single hks⟩
  exact List.mem_of_mem_filter (hks ▸ List.mem_singleton_self _)

/-- Settles O36: each operator by what it makes in the context of its job. -/
theorem operatorResults : Obligations.OperatorResults := by
  unfold Obligations.OperatorResults
  refine ⟨?fill, ?copy, ?differs, ?same, ?gathered, ?faulted⟩
  case fill =>
    intro s j hop
    rw [madeOf_of_fill hop]
    exact ⟨_, rfl, by simp, fun i hi => toNat_getD_range_map (fun i => j.cmd.d.p4 / 256 ^ (i % 8)) hi⟩
  case copy =>
    intro s j hop
    rw [madeOf_of_copy hop]
    exact ⟨_, rfl, length_bytes _ _ _ _, rfl, fun i hi => toNat_getD_bytes _ _ hi⟩
  case differs =>
    intro s j k other hop hk hdiff hsame
    rw [madeOf_of_compare hop, makeCompare_of_first (c := opCtxOf s j) hk hdiff hsame]
    exact ⟨rfl, rfl⟩
  case same =>
    intro s j other hop hsame
    rw [madeOf_of_compare hop, makeCompare_of_same (c := opCtxOf s j) hsame]
    exact ⟨rfl, rfl⟩
  case gathered =>
    intro s j hop hfaults _
    rw [madeOf_of_gather hop, makeGather_of_faultless fun k => by rw [opCtxOf_srcFault, hfaults]; rfl]
    exact ⟨rfl, rfl, _, rfl, rfl⟩
  case faulted =>
    intro s j k v hop hn hk hv hfaults
    have hkind : ∀ i, (opCtxOf s j).srcFault i = if i = k then v else 0 := fun i => by
      rw [opCtxOf_srcFault, hfaults, Table.get]
      split <;> rfl
    have hmade := makeGather_of_single (c := opCtxOf s j) (x := s.reader j) (k := k) (lt_min (hk.trans_le hn) hk)
      (by simpa [hkind] using hv) fun i hi => by simp [hkind, hi]
    rwa [hkind, if_pos rfl, ← madeOf_of_gather hop] at hmade

end Sys2Proof.Proofs
end

section
/-! Commits, the high-water marks and the check of the covered fields (R274, R374, R383, R432 to R434, R569). -/

namespace Sys2Proof.Proofs

open Sys2Proof Sys2Proof.Machine Sys2Proof.Claims

/-! ### Tables -/

theorem wf_only {α : Type} {t : Table α} (p : Nat → α → Bool) (hwf : t.wf = true) : (t.only p).wf = true := by
  induction t with
  | nil => rfl
  | cons e t ih =>
    obtain ⟨hlow, htail⟩ := Table.wf_cons.1 hwf
    simp only [Table.only, List.filter_cons]
    split
    · exact Table.wf_cons.2 ⟨fun x hx => hlow x (List.mem_of_mem_filter hx), ih htail⟩
    · exact ih htail

/-- The key of a canonical table's first entry is not met again. -/
theorem get_tail_of_wf {α : Type} {k : Nat} {v : α} {t : Table α} (hwf : Table.wf ((k, v) :: t) = true) : t.get k = none :=
  Option.eq_none_iff_forall_ne_some.2 fun _ hw => Nat.lt_irrefl k ((Table.wf_cons.1 hwf).1 _ (mem_of_get_eq_some hw))

/-- The entries of one table put into another, but for those that a test leaves out. -/
def putUnless {α : Type} (skip : Nat → α → Bool) (t base : Table α) : Table α :=
  t.foldl (fun a x => if skip x.1 x.2 then a else a.put x.1 x.2) base

theorem get_putUnless {α : Type} (skip : Nat → α → Bool) {t : Table α} (hwf : t.wf = true) (base : Table α) (n : Nat) :
    (putUnless skip t base).get n = ((t.get n).filter fun v => !skip n v).or (base.get n) := by
  induction t generalizing base with
  | nil => rfl
  | cons e t ih =>
    obtain ⟨k, v⟩ := e
    refine (ih (Table.wf_cons.1 hwf).2 _).trans ?_
    by_cases hn : n = k
    · subst hn
      cases hskip : skip n v <;> simp [get_tail_of_wf hwf, Table.get, Option.filter_some, hskip]
    · cases hskip : skip k v <;> simp [Table.get, Table.get_put, hn, hskip]

/-! ### Commits -/

/-- The pending values in a range of offsets, which a commit of it takes (R6). -/
def takenBy (g : Regs) (first last : Nat) : Table Word := g.shadow.only fun o _ => decide (first ≤ o) && decide (o < last)

/-- The set-up registers after a commit of a range: what is not kept out is active, and nothing is pending there (R6, R569). -/
def committedRegs (s : State) (first last : Nat) : Regs :=
  { s.regs with
    act := putUnless s.regs.keptOut (takenBy s.regs first last) s.regs.act
    shadow := s.regs.shadow.only fun o _ => !(decide (first ≤ o) && decide (o < last))
    quietUntil := s.clock + 1000000 }

theorem regs_commit (s : State) (first last : Nat) : (s.commit first last).regs = committedRegs s first last := by
  simp [State.commit, State.quiet, committedRegs, putUnless, takenBy, Table.only]

theorem get_takenBy (g : Regs) (first last o : Nat) :
    (takenBy g first last).get o = if first ≤ o ∧ o < last then g.shadow.get o else none := by
  split
  case isTrue h => exact get_only_of_accepted (fun _ => by simp [h]) _
  case isFalse h => exact get_only_of_rejected (fun _ => by simpa using h) _

theorem get_shadow_committedRegs (s : State) (first last o : Nat) :
    (committedRegs s first last).shadow.get o = if first ≤ o ∧ o < last then none else s.regs.shadow.get o := by
  simp only [committedRegs]
  split
  case isTrue h => exact get_only_of_rejected (fun _ => by simp [h]) _
  case isFalse h => exact get_only_of_accepted (fun _ => by simpa using Classical.not_and_iff_not_or_not.1 h) _

theorem get_act_committedRegs {s : State} (hwf : s.regs.shadow.wf = true) (first last o : Nat) : (committedRegs s first last).act.get o =
    (((takenBy s.regs first last).get o).filter fun v => !s.regs.keptOut o v).or (s.regs.act.get o) :=
  get_putUnless _ (wf_only _ hwf) _ _

/-- A register after a commit: what is pending for it and not kept out, else what it held. -/
theorem val_committedRegs {s : State} (hwf : s.regs.shadow.wf = true) (first last o : Nat) : (committedRegs s first last).val o =
    (((takenBy s.regs first last).get o).filter fun v => !s.regs.keptOut o v).getD (s.regs.val o) := by
  simp only [Regs.val, get_act_committedRegs hwf]
  cases ((takenBy s.regs first last).get o).filter fun v => !s.regs.keptOut o v <;> rfl

/-- The registers of a commit are committed, whatever becomes of the rest of the state. -/
theorem committed_of_regs {s t : State} {first last : Nat} (hwf : s.regs.shadow.wf = true) (ht : t.regs = committedRegs s first last) :
    Committed s t first last := by
  have hval := fun o => (congrArg (Regs.val · o) ht).trans (val_committedRegs hwf first last o)
  simp only [get_takenBy] at hval
  refine ⟨fun o v hfirst hlast hv hin => ?_, fun o v hfirst hlast hv hout => ?_, fun o hnone => ?_, fun o hfirst hlast => ?_,
    fun o hrange => ?_⟩
  · simp [hval, hfirst, hlast, hv, Option.filter_some, hin]
  · simp [hval, hfirst, hlast, hv, Option.filter_some, hout]
  · rw [hval]
    split
    case isTrue h =>
      have hpending : s.regs.shadow.get o = none := by simpa [h] using hnone
      rw [hpending]
      rfl
    case isFalse => rfl
  · rw [ht, get_shadow_committedRegs, if_pos ⟨hfirst, hlast⟩]
  · rw [ht, get_shadow_committedRegs, if_neg hrange]

/-- Of the network a commit changes only the meters' buckets (R380). -/
theorem net_commit (s : State) (first last : Nat) :
    (s.commit first last).net.ports = s.net.ports ∧ (s.commit first last).net.hwm = s.net.hwm := by
  have hbuckets : ∀ meters : List Nat, (meters.foldl (fun s m => s.setBucket m (s.bucketNow m)) s).net.ports = s.net.ports ∧
      (meters.foldl (fun s m => s.setBucket m (s.bucketNow m)) s).net.hwm = s.net.hwm := fun meters =>
    ⟨foldl_keeps (fun s => s.net.ports) _ meters s fun _ _ => rfl, foldl_keeps (fun s => s.net.hwm) _ meters s fun _ _ => rfl⟩
  simp [State.commit, State.quiet, hbuckets]

/-! ### The commit registers -/

/-- `DC_ARB_COMMIT` and `RT_COMMIT` as the tables give them (R276, R385). -/
def arbCommitReg : RegD := reg1 0x11C 0 [fRw 0 0]
def rtCommitReg : RegD := reg1 0x14000C 0 [fRw 1 1, fRw 0 0]

theorem regAt_arbCommit : ∀ share : Share, regAt (0x50011C + share.val * 0x20000) = some arbCommitReg ∧
    companionOf (0x50011C + share.val * 0x20000) = false := by decide

/-- `COMMIT` written to an arbiter's block commits the arbiter's registers (R274). -/
theorem accept_arbCommit {s : State} {off : Nat} {val : Word} (port : Nat)
    (hblock : 0x500000 ≤ off ∧ off < 0x600000 ∧ off % 0x10000 = 0x11C) (hval : val.getLsbD 0 = true) :
    s.accept port off arbCommitReg val = s.commit (off - 0x1C) off := by
  have hlow : ∀ o < 0x500000, off ≠ o := by omega
  have hhigh : off ≠ 0x600000 ∧ off ≠ 0x700004 := by omega
  have hmasks : ¬off ≤ 0x10118 ∧ ¬off ≤ 0x1013C := by omega
  have hjl : ¬(0x80000 ≤ off ∧ off < 0x140000 ∧ off % 0x10000 = 0) := by omega
  have hav : ¬(0x200000 ≤ off ∧ off < 0x440000) := by omega
  have hfirst : off / 0x10000 * 0x10000 + 0x100 = off - 0x1C := by omega
  have hlast : off / 0x10000 * 0x10000 + 0x11C = off := by rw [← hblock.2.2, Nat.div_add_mod']
  have hfrozen : s.frozen off val = false := by simp [State.frozen, hlow, hhigh, hmasks, hblock]
  have hrange : (arbCommitReg.rangeOk val && arbCommitReg.relOk val) = true := rfl
  rw [State.accept, if_neg (hlow _ (by decide)), if_neg (by decide), hrange, hfrozen, if_neg (by decide), if_neg (hlow _ (by decide)),
    if_neg hhigh.2, if_neg (hlow _ (by decide)), if_neg hjl, if_neg hav, if_pos hblock, if_pos hval, hfirst, hlast]

theorem barWrite_arbCommit {s : State} {port : HPort} {share : Share} {val : Word}
    (hfree : PortFree s port (0x50011C + share.val * 0x20000)) (htoken : s.host.token = some port.val) (hval : val.getLsbD 0 = true) :
    s.barWrite port 0 (0x50011C + share.val * 0x20000) 4 val =
      s.commit (0x500100 + share.val * 0x20000) (0x50011C + share.val * 0x20000) := by
  obtain ⟨hreg, hcomp⟩ := regAt_arbCommit share
  have hfirst : 0x50011C + share.val * 0x20000 - 0x1C = 0x500100 + share.val * 0x20000 := by omega
  rw [barWrite_of_holder val hfree rfl htoken (by omega) hcomp (by omega) (by omega) (by omega) hreg, if_neg (by decide),
    accept_arbCommit port.val (by omega) hval, hfirst]

/-- A write of `RT_COMMIT` commits the router's registers where its bit 0 is set, and clears the high-water marks where bit 1 is (R374,
R383). -/
theorem barWrite_rtCommit {s : State} {port : HPort} (val : Word) (hfree : PortFree s port 0x14000C)
    (htoken : s.host.token = some port.val) : s.barWrite port 0 0x14000C 4 val =
      let t := if val.getLsbD 0 then s.commit 0x140000 0x200000 else s
      if val.getLsbD 1 then t.clearHwm else t := by
  have hreg : regAt 0x14000C = some rtCommitReg := by decide
  have hcomp : companionOf 0x14000C = false := by decide
  have hfrozen : s.frozen 0x14000C val = false := by simp [State.frozen]
  have hrange : (rtCommitReg.rangeOk val && rtCommitReg.relOk val) = true := rfl
  rw [barWrite_of_holder val hfree rfl htoken (by decide) hcomp (by decide) (by decide) (by decide) hreg, if_neg (by decide),
    State.accept, if_neg (by decide), if_neg (by decide), hrange, hfrozen, if_neg (by decide), if_neg (by decide), if_neg (by decide),
    if_pos rfl]

/-! ### The high-water marks -/

/-- The depth of every egress queue, by port and VC (R383). -/
def queueDepths (s : State) : Table Nat :=
  ((List.range 12).flatMap fun p => (List.range 9).map fun vc => (p, vc)).map fun k => (k.1 * 16 + k.2, (s.jl k.1).depth k.2)

theorem wf_queueDepths (s : State) : (queueDepths s).wf = true := rfl

theorem get_queueDepths (s : State) {p vc : Nat} (hp : p < 12) (hvc : vc < 9) :
    (queueDepths s).get (p * 16 + vc) = some ((s.jl p).depth vc) := by
  refine get_of_mem (e := (p * 16 + vc, (s.jl p).depth vc)) (wf_queueDepths s) (List.mem_map.2 ⟨(p, vc), ?_, rfl⟩)
  simp [hp, hvc]

/-- A mark of no depth is not held: it reads as 0. -/
theorem clearHwm_eq (s : State) :
    s.clearHwm = { s with net := { s.net with hwm := putUnless (fun _ d => d == 0) (queueDepths s) [] } } := by
  simp only [State.clearHwm, putUnless, queueDepths, List.foldl_map, beq_iff_eq]

theorem hwm_clearHwm (s : State) {p vc : Nat} (hp : p < 12) (hvc : vc < 9) :
    (s.clearHwm.net.hwm.get (p * 16 + vc)).getD 0 = (s.jl p).depth vc := by
  simp only [clearHwm_eq, get_putUnless _ (wf_queueDepths s), get_queueDepths s hp hvc]
  by_cases h : (s.jl p).depth vc = 0 <;> simp [h, Option.filter, Table.get]

/-! ### The check of the covered fields -/

/-- The registers after a check: its CRC, whether it matches, and the count of mismatches (R432, R433). -/
def checkedRegs (s : State) (crc : Word) (mismatches : Nat) : Regs :=
  { s.regs with crc := crc, crcMatch := crc == s.regs.val 0x10018, mismatches := mismatches }

theorem regs_takeCrc (s : State) (crc : Word) : ∃ n, (s.takeCrc crc).regs = checkedRegs s crc n := by
  simp only [State.takeCrc]
  split
  · exact ⟨s.regs.mismatches, by simp [checkedRegs]⟩
  · split
    · exact ⟨s.regs.mismatches, rfl⟩
    · exact ⟨min 0xFFFF (s.regs.mismatches + 1), by simp [checkedRegs]⟩

/-- A check keeps its CRC and whether it matches, and no register changes (R432). -/
theorem takeCrc_result (s : State) (crc : Word) : (s.takeCrc crc).regs.crc = crc ∧
    (s.takeCrc crc).regs.crcMatch = (crc == s.regs.val 0x10018) ∧ RegsKept s (s.takeCrc crc) [] := by
  obtain ⟨n, hregs⟩ := regs_takeCrc s crc
  exact ⟨congrArg Regs.crc hregs, congrArg Regs.crcMatch hregs, fun o _ => (congrArg (Regs.val · o) hregs).trans rfl⟩

/-- Outside a quiet period a mismatch that does not stand yet is counted (R433). -/
theorem regs_takeCrc_of_mismatch {s : State} {crc : Word} (hcrc : crc ≠ s.regs.val 0x10018)
    (hen : (s.regs.val 0x10010).getLsbD 0 = true) (hquiet : s.regs.quietUntil ≤ s.clock)
    (hnew : ∀ n ∈ s.host.conds, ¬(n.source = Src.config ∧ n.cause = 3)) :
    (s.takeCrc crc).regs = checkedRegs s crc (min 0xFFFF (s.regs.mismatches + 1)) := by
  have hknown : (s.host.conds.any fun c => c.source == Src.config && c.cause == 0x03) = false :=
    List.any_eq_false.2 fun n hn => by simpa using hnew n hn
  have hval : ∀ c b o, ({ s.regs with crc := c, crcMatch := b } : Regs).val o = s.regs.val o := fun _ _ _ => rfl
  simp [State.takeCrc, checkedRegs, hknown, hcrc, hval, hen, Nat.not_lt.2 hquiet]

/-! ### Covered fields on their way to an Avenue -/

/-- A write of a register of an Avenue that takes effect: its covered fields, with the rest as it stands (R434). -/
theorem execAvConfigApply_of_single {s : State} {av : Avenue} {off : Nat} {v : Word} {r : RegD}
    (hpend : s.regs.avPend = [AvPend.mk av.val off v]) (hr : regAt off = some r) : execAvConfigApply av s =
      .next { s with regs := { s.regs.set off ((s.regs.val off &&& ~~~ r.coverMask) ||| (v &&& r.coverMask)) with avPend := [] } } := by
  simp [execAvConfigApply, hpend, hr, Regs.set]

/-- Settles O6: what is pending becomes active at a commit, and a check, a clear and an Avenue's write touch only their own registers. -/
theorem commitsAndChecks : Obligations.CommitsAndChecks := by
  refine ⟨?arbiter, ?router, ?marks, ?check, ?mismatch, ?avenue⟩
  case arbiter =>
    intro s port share val hfree htoken hwf hval
    exact ⟨_, congrArg Host.Outcome.next (barWrite_arbCommit hfree htoken hval), committed_of_regs hwf (regs_commit ..)⟩
  case router =>
    intro s port val hfree htoken hwf hcommit hclear
    refine ⟨s.commit 0x140000 0x200000, congrArg Host.Outcome.next ?_, committed_of_regs hwf (regs_commit ..), net_commit ..⟩
    simp only [barWrite_rtCommit val hfree htoken, hcommit, hclear, if_true, Bool.false_eq_true, if_false]
  case marks =>
    intro s port val hfree htoken hcommit hclear
    refine ⟨s.clearHwm, congrArg Host.Outcome.next ?_, fun p vc hp hvc => hwm_clearHwm s hp hvc, fun o _ => rfl, rfl⟩
    simp only [barWrite_rtCommit val hfree htoken, hcommit, hclear, if_true, Bool.false_eq_true, if_false]
  case check => exact fun s => ⟨_, rfl, takeCrc_result s s.configCrc⟩
  case mismatch =>
    intro s hcrc hen hquiet hnew hroom
    refine ⟨_, rfl, (congrArg Regs.mismatches (regs_takeCrc_of_mismatch hcrc hen hquiet hnew)).trans ?_⟩
    exact Nat.min_eq_right hroom
  case avenue =>
    intro s av off v r hpend hr
    refine ⟨_, execAvConfigApply_of_single hpend hr, rfl, fun o ho => ?_, ?_, rfl⟩
    · exact (Regs.val_set ..).trans (if_neg (by simpa using ho))
    · exact (Regs.val_set ..).trans (if_pos rfl)

end Sys2Proof.Proofs
end

section
/-! Training, memory initialisation and the depot (R257, R258, R290, R307, R540). -/

namespace Sys2Proof.Proofs

open Sys2Proof Sys2Proof.Machine Sys2Proof.Claims

/-! ### Training -/

/-- The reference geometry is that of a channel that has trained. -/
theorem refGeom_mem {ts : List TrainResult} (h : ts ≠ []) : ∃ g ∈ ts, refGeom ts = some g := by
  cases ts with
  | nil => exact absurd rfl h
  | cons x xs =>
    refine List.foldlRecOn xs _ (motive := fun b : Option TrainResult => ∃ g ∈ x :: xs, b = some g) ⟨x, List.mem_cons_self, rfl⟩ ?_
    rintro _ ⟨g, hg, rfl⟩ t ht
    dsimp only
    split
    · exact ⟨t, List.mem_cons_of_mem _ ht, rfl⟩
    · exact ⟨g, hg, rfl⟩

/-- The geometry that the pool takes: the reference's shape at the rate of the pool (R257, R258). -/
def poolGeom (rs : List TrainResult) (g : TrainResult) : TrainResult := { g with ch := 0, rate := poolRate (rs.filter (·.trained)) g.dpc }

/-- The state in which every channel has ended its training. -/
def channelsTrained (s : State) (rs : List TrainResult) (g : TrainResult) : State :=
  rs.foldl (fun s t => s.trainChan g t) { s with dram := { s.dram with geom := g } }

theorem boot_channelsTrained (s : State) (rs : List TrainResult) (g : TrainResult) : (channelsTrained s rs g).boot = s.boot :=
  State.boot_foldl _ _ _ fun s t => by simp

theorem execDramTrainingDone_of_served {s : State} {rs : List TrainResult} {g : TrainResult} (hready : s.boot.fwReady = true)
    (htrained : s.boot.trained = false) (hserved : ∀ x ∈ rs, x.ch < 16 ∧ (s.servedBy (x.ch / 2)).isSome = true)
    (hg : refGeom (rs.filter (·.trained)) = some g) : execDramTrainingDone rs s =
      .next { channelsTrained s rs (poolGeom rs g) with
        boot := { (channelsTrained s rs (poolGeom rs g)).boot with trained := true } } := by
  have hall : (rs.filter fun t => decide (t.ch < 16) && (s.servedBy (t.ch / 2)).isSome) = rs :=
    List.filter_eq_self.2 fun x hx => by simp [hserved x hx]
  simp only [execDramTrainingDone, hready, htrained, hall, hg, Bool.not_true, Bool.or_self, Bool.false_eq_true, if_false]
  rfl

/-- A channel trained, and has the shape of a geometry (R258). -/
def Fits (g t : TrainResult) : Prop := t.trained = true ∧ geomShape t = geomShape g

/-- A channel of the reference geometry goes into service, ordered for bring-up (R258, R259). -/
theorem trainChan_of_fits {s : State} {g t : TrainResult} (h : Fits g t) :
    s.trainChan g t = s.setChan t.ch { s.chan t.ch with inService := true, mode := 1, ordCause := 1 } := by
  obtain ⟨htrained, hshape⟩ := h
  simp [State.trainChan, htrained, hshape]

/-- In service, and ordered for bring-up. -/
def BroughtUp (s : State) (m : Nat) : Prop := (s.chan m).inService = true ∧ (s.chan m).mode = 1

theorem broughtUp_trainChan {s : State} {g t : TrainResult} (h : Fits g t) : BroughtUp (s.trainChan g t) t.ch := by
  simp [BroughtUp, trainChan_of_fits h]

theorem broughtUp_channelsTrained {s : State} {rs : List TrainResult} {g : TrainResult} (h : ∀ x ∈ rs, Fits g x) :
    ∀ x ∈ rs, BroughtUp (channelsTrained s rs g) x.ch := by
  refine foldl_establishes (P := fun (x : TrainResult) (s : State) => BroughtUp s x.ch) rs (fun s x hx => broughtUp_trainChan (h x hx))
    (fun s x hx y _ hy => ?_) _
  rw [BroughtUp, trainChan_of_fits (h x hx), State.chan_setChan]
  split
  · exact ⟨rfl, rfl⟩
  · exact hy

theorem geom_channelsTrained {s : State} {rs : List TrainResult} {g : TrainResult} (h : ∀ x ∈ rs, Fits g x) :
    (channelsTrained s rs g).dram.geom = g :=
  List.foldlRecOn rs _ (motive := fun t : State => t.dram.geom = g) rfl fun t ht x hx => by
    rw [trainChan_of_fits (h x hx)]
    exact ht

/-- A channel that did not train is out of service and UNUSED, and every other stays as it is (R258). -/
theorem trainChan_of_untrained {g t : TrainResult} (s : State) (h : t.trained = false) :
    ((s.trainChan g t).chan t.ch).inService = false ∧ ((s.trainChan g t).cprot t.ch).st = 3 ∧
      ∀ m, m ≠ t.ch → (s.trainChan g t).chan m = s.chan m := by
  have hraise : ∀ (u : State) (source cause data m : Nat), (u.raise source cause data).chan m = u.chan m ∧
      (u.raise source cause data).cprot m = u.cprot m := fun u source cause data m => by
    simp [State.chan, State.cprot]
  have hprot : ∀ (u : State) (n m : Nat) (x : ChanProt), (u.setCprot n x).chan m = u.chan m := fun _ _ _ _ => rfl
  simp only [State.trainChan, h, Bool.false_and, Bool.false_eq_true, if_false, hraise, hprot, State.chan_setChan, State.cprot_setCprot,
    if_true, true_and]
  exact fun m hm => if_neg hm

/-! ### Memory initialisation -/

/-- The state after memory initialisation: nothing of memory is written, cached or marked (R290). -/
def memCleared (s : State) : State :=
  { s with
    boot := { s.boot with initDone := true },
    mem := { s.mem with cells := [], poison := [], cache := [], mirror := [], unbound := [], wrote := [], parityLost := [] } }

theorem readBytes_nil (a n : Nat) : readBytes [] a n = 0 := by
  induction n generalizing a with
  | zero => rfl
  | succ n ih => rw [readBytes, ih]; rfl

/-- DRAM that nothing has written reads as zero (R290). -/
theorem byte_of_unwritten {m : Memory} (hcells : m.cells = []) (hcache : m.cache = []) (pa : Nat) : m.byte pa = 0 := by
  simp [Memory.byte, Memory.line, Memory.dramLine, hcells, hcache, Table.get, readBytes_nil]

/-! ### The depot -/

/-- District 0 has its keys, and the depot its pages (R25, R448). -/
def depotLaid (s : State) : State :=
  { s with
    sec := { s.sec with dramKeys := s.sec.dramKeys.put 0 0 },
    maps := { s.maps with
      frames := 16 * (s.chanLines - s.reserveLines) / 64, nextFrame := s.depotPages, used := pageCost s.depotPages 2 } }

/-- The shares open (R540). -/
def sharesOpened (s : State) : State := (List.range 8).foldl (fun s n => s.setShare n { s.share n with st := .opened }) s

/-- The controller of a channel in service passes to SERVICE (R259). -/
def serveChan (s : State) (m : Nat) : State :=
  if (s.chan m).inService then s.setChan m { s.chan m with mode := 2, ordCause := 0 } else s

def chansServing (s : State) : State := (List.range 16).foldl (fun s m => serveChan s m) s

/-- `MEM_READY` is set, and the flash tier starts (R333, R540). -/
def memReadySet (s : State) : State :=
  { s with boot := { s.boot with memReady := true, flashStarted := true, bifurcation := s.regs.fld 0x600000 3 0 } }

def slotsArrived (s : State) : State := (List.range 16).foldl (fun s n => s.slotArrive n) s

def portsStarted (s : State) : State := (List.range 12).foldl (fun s n => s.portStart n) s

theorem execDepotBuildDone_of_initDone {s : State} (hdone : s.boot.initDone = true) (hready : s.boot.memReady = false)
    (hentropy : s.sec.entropyOk = true) :
    execDepotBuildDone s = .next (portsStarted (slotsArrived (memReadySet (chansServing (sharesOpened (depotLaid s)))))) := by
  simp only [execDepotBuildDone, portsStarted, slotsArrived, memReadySet, chansServing, serveChan, sharesOpened, depotLaid, hdone, hready,
    hentropy, Bool.not_true, Bool.or_self, Bool.false_eq_true, if_false]

@[simp] theorem sharesOpened_frame (s : State) : (sharesOpened s).boot = s.boot ∧ (sharesOpened s).regs = s.regs ∧
    (sharesOpened s).mem = s.mem ∧ (sharesOpened s).sec = s.sec ∧ (sharesOpened s).dram = s.dram ∧ (sharesOpened s).net = s.net := by
  simp [sharesOpened]

@[simp] theorem serveChan_frame (s : State) (m : Nat) : (serveChan s m).boot = s.boot ∧ (serveChan s m).regs = s.regs ∧
    (serveChan s m).mem = s.mem ∧ (serveChan s m).sec = s.sec ∧ (serveChan s m).avail = s.avail ∧ (serveChan s m).net = s.net := by
  simp [serveChan]

@[simp] theorem chansServing_frame (s : State) : (chansServing s).boot = s.boot ∧ (chansServing s).regs = s.regs ∧
    (chansServing s).mem = s.mem ∧ (chansServing s).sec = s.sec ∧ (chansServing s).avail = s.avail ∧ (chansServing s).net = s.net := by
  simp [chansServing]

@[simp] theorem slotsArrived_frame (s : State) : (slotsArrived s).boot = s.boot ∧ (slotsArrived s).regs = s.regs ∧
    (slotsArrived s).mem = s.mem ∧ (slotsArrived s).sec = s.sec ∧ (slotsArrived s).avail = s.avail ∧ (slotsArrived s).dram = s.dram ∧
    (slotsArrived s).net = s.net := by
  simp [slotsArrived]

@[simp] theorem portsStarted_frame (s : State) : (portsStarted s).boot = s.boot ∧ (portsStarted s).regs = s.regs ∧
    (portsStarted s).mem = s.mem ∧ (portsStarted s).sec = s.sec ∧ (portsStarted s).avail = s.avail ∧ (portsStarted s).dram = s.dram := by
  simp [portsStarted]

theorem share_sharesOpened (s : State) {n : Nat} (hn : n < 8) : ((sharesOpened s).share n).st = .opened := by
  refine foldl_establishes (P := fun n (s : State) => (s.share n).st = .opened) (List.range 8) (fun s n _ => ?_)
    (fun s n _ m _ hm => ?_) s n (List.mem_range.2 hn)
  · simp
  · rw [State.share_setShare]
    split
    · rfl
    · exact hm

theorem chan_serveChan (s : State) (n m : Nat) : (serveChan s n).chan m =
    if m = n ∧ (s.chan m).inService = true then { s.chan m with mode := 2, ordCause := 0 } else s.chan m := by
  rw [serveChan]
  split
  case isTrue h =>
    rw [State.chan_setChan]
    by_cases hm : m = n
    · subst hm
      simp [h]
    · simp [hm]
  case isFalse h =>
    rw [if_neg]
    rintro ⟨rfl, hm⟩
    exact h hm

theorem inService_chansServing (s : State) (m : Nat) : ((chansServing s).chan m).inService = (s.chan m).inService :=
  foldl_keeps (fun s => (s.chan m).inService) serveChan (List.range 16) s fun s n => by
    rw [chan_serveChan]
    split <;> rfl

theorem mode_chansServing {s : State} {m : Nat} (hm : m < 16) (hin : (s.chan m).inService = true) : ((chansServing s).chan m).mode = 2 := by
  refine foldl_establishes (P := fun m (s : State) => (s.chan m).inService = true → (s.chan m).mode = 2) (List.range 16)
    (fun s m _ => ?_) (fun s n _ m _ h => ?_) s m (List.mem_range.2 hm) ((inService_chansServing s m).trans hin)
  · rw [chan_serveChan]
    by_cases h : (s.chan m).inService = true <;> simp [h]
  · rw [chan_serveChan]
    split
    · exact fun _ => rfl
    · exact h

/-- Memory is ready, the node has an ID, and a port is enabled: the port may leave DISABLED (R540). -/
def MayStart (s : State) (n : Nat) : Prop := s.boot.memReady = true ∧ bitOf (s.regs.val (jlBase n)).toNat 0 = true ∧ s.node ≠ 0

theorem mayStart_portStart (s : State) (n m : Nat) : MayStart (s.portStart n) m ↔ MayStart s m := by
  simp [MayStart, State.node]

theorem jl_portStart_of_ne (s : State) {n m : Nat} (h : m ≠ n) : (s.portStart n).jl m = s.jl m := by
  simp only [State.portStart]
  split
  · rw [State.jl_setJl, if_neg h]
  · rfl

theorem st_portStart_of_mayStart {s : State} {n : Nat} (h : MayStart s n) :
    ((s.portStart n).jl n).st = if (s.jl n).st = 0 then 1 else (s.jl n).st := by
  obtain ⟨hready, hen, hnode⟩ := h
  by_cases hst : (s.jl n).st = 0 <;> simp [State.portStart, hready, hen, hnode, hst]

/-- An enabled port that is DISABLED starts (R540). -/
theorem st_portsStarted {s : State} {n : Nat} (hn : n < 12) (hmay : MayStart s n) (hst : (s.jl n).st = 0) :
    ((portsStarted s).jl n).st = 1 := by
  have hkept := List.foldlRecOn (List.range 12) (fun s n => s.portStart n) (b := s)
    (motive := fun t : State => MayStart t n ∧ (t.jl n).st ≤ 1) ⟨hmay, by omega⟩ fun t ht m _ => by
      refine ⟨(mayStart_portStart t m n).2 ht.1, ?_⟩
      by_cases h : n = m
      · subst h
        rw [st_portStart_of_mayStart ht.1]
        split
        · exact Nat.le_refl 1
        · exact ht.2
      · rw [jl_portStart_of_ne t h]
        exact ht.2
  have hleft := foldl_establishes (P := fun n (t : State) => MayStart t n → (t.jl n).st ≠ 0) (f := fun s n => s.portStart n)
    (List.range 12) (fun t m _ hm => ?set) (fun t m _ k _ hk hm => ?keep) s n (List.mem_range.2 hn) hkept.1
  · exact Nat.le_antisymm hkept.2 (Nat.one_le_iff_ne_zero.2 hleft)
  case set =>
    rw [st_portStart_of_mayStart ((mayStart_portStart t m m).1 hm)]
    split
    · exact Nat.one_ne_zero
    · assumption
  case keep =>
    have hbefore := (mayStart_portStart t m k).1 hm
    by_cases h : k = m
    · subst h
      rw [st_portStart_of_mayStart hbefore, if_neg (hk hbefore)]
      exact hk hbefore
    · rw [jl_portStart_of_ne t h]
      exact hk hbefore

/-- Settles O13: what each step of bring-up leaves in the boot unit, and in the channels, the memory, the shares and the ports. -/
theorem bringUp : Obligations.BringUp := by
  refine ⟨?trained, ?mixed, ?initStart, ?initDone, ?depot⟩
  case trained =>
    intro s rs r hready htrained hr hrs
    have hall : rs.filter (·.trained) = rs := List.filter_eq_self.2 fun x hx => (hrs x hx).1
    have hserved : ∀ x ∈ rs, x.ch < 16 ∧ (s.servedBy (x.ch / 2)).isSome = true := fun x hx => by
      obtain ⟨-, hch, hserved, -⟩ := hrs x hx
      exact ⟨hch, hserved⟩
    obtain ⟨g, hg, href⟩ := refGeom_mem (List.ne_nil_of_mem hr)
    obtain ⟨-, -, -, hshape⟩ := hrs g hg
    have hfits : ∀ x ∈ rs, Fits (poolGeom rs g) x := fun x hx => by
      obtain ⟨ht, -, -, hx⟩ := hrs x hx
      exact ⟨ht, hx.trans hshape.symm⟩
    have hgeom := geom_channelsTrained (s := s) hfits
    simp only [geomShape, Prod.mk.injEq] at hshape
    obtain ⟨hcap, -, -, hdpc⟩ := hshape
    refine ⟨_, execDramTrainingDone_of_served hready htrained hserved (by rw [hall]; exact href), by rw [boot_channelsTrained],
      (congrArg TrainResult.capGib hgeom).trans hcap, (congrArg TrainResult.rate hgeom).trans ?_, broughtUp_channelsTrained hfits⟩
    rw [poolGeom, hall, hdpc]
  case mixed =>
    intro s a b hready htrained ha hb hach hbch hne hsa hsb
    have hgood : [a, b].filter (·.trained) = [a] := by simp [ha, hb]
    obtain ⟨hout, hunused, hothers⟩ := trainChan_of_untrained
      (({ s with dram := { s.dram with geom := poolGeom [a, b] a } } : State).trainChan (poolGeom [a, b] a) a) (g := poolGeom [a, b] a) hb
    refine ⟨_, execDramTrainingDone_of_served (g := a) hready htrained (by simp [hach, hbch, hsa, hsb]) (by rw [hgood]; rfl), ?_, hout, hunused⟩
    exact (congrArg ChanSt.inService (hothers a.ch hne)).trans (broughtUp_trainChan ⟨ha, rfl⟩).1
  case initStart =>
    intro s htrained hhash hdmap hnot hserved
    refine ⟨_, congrArg Host.Outcome.next (if_pos ?_), rfl, rfl⟩
    simp [htrained, hhash, hdmap, hnot, hserved]
  case initDone =>
    intro s hstarted hnot hserved
    refine ⟨memCleared s, congrArg Host.Outcome.next (if_pos ?_), rfl, byte_of_unwritten rfl rfl, fun l => rfl⟩
    simp [hstarted, hnot, hserved]
  case depot =>
    intro s hdone hready hentropy
    refine ⟨_, execDepotBuildDone_of_initDone hdone hready hentropy, ?_, ?_, fun n hn => ?_, fun m hm hin => ?_, fun n hn hen hnode hst => ?_,
      ?_, ?_⟩
    · simp [memReadySet]
    · simp [memReadySet, depotLaid]
    · rw [share_congr (s := sharesOpened (depotLaid s)) (by simp [memReadySet])]
      exact share_sharesOpened _ hn
    · have hin' : ((sharesOpened (depotLaid s)).chan m).inService = true := by
        rwa [chan_congr (s := s) (by simp [depotLaid])]
      rw [chan_congr (s := chansServing (sharesOpened (depotLaid s))) (by simp [memReadySet])]
      exact mode_chansServing hm hin'
    · refine st_portsStarted hn ?_ ?_
      · exact ⟨by simp [memReadySet], by simpa [memReadySet, depotLaid] using hen, by simpa [State.node, memReadySet, depotLaid] using hnode⟩
      · rwa [jl_congr (s := s) (by simp [memReadySet, depotLaid])]
    · simp [memReadySet, depotLaid]
    · simp [memReadySet, depotLaid]

end Sys2Proof.Proofs
end
